-- ==== Sys2Proof/Word.lean ====
section
/-!
DEFINITION. The word types of the block's registers and of the bytes it exchanges (R12).
-/

namespace Sys2Proof

/-- One byte. -/
abbrev Byte := BitVec 8

/-- One 32-bit register word (BAR0 registers are dwords, R328). -/
abbrev Reg := BitVec 32

/-- A string of bytes in the order they lie in memory or on the wire. -/
abbrev Bytes := List Byte

end Sys2Proof
end

