-- ==== Sys2Proof/Machine/Bits.lean ====
section
/-!
DEFINITION. Bit fields, byte order and exact integer arithmetic shared by every family (R12, R13).
-/

namespace Sys2Proof.Machine

open Sys2Proof

/-- Field [hi:lo] of a number (R12: bit 0 is the least significant). -/
def bits (v hi lo : Nat) : Nat := (v >>> lo) % 2 ^ (hi + 1 - lo)

/-- Bit k of a number. -/
def bitAt (v k : Nat) : Bool := v.testBit k

/-- A field value placed at bit `lo`, cut to `w` bits. -/
def fieldAt (v w lo : Nat) : Nat := (v % 2 ^ w) <<< lo

/-- A Bool as a bit at position k. -/
def flagAt (b : Bool) (k : Nat) : Nat := if b then 2 ^ k else 0

/-- Set or clear bit k of a number. -/
def setBit (v k : Nat) (b : Bool) : Nat :=
  if v.testBit k then (if b then v else v - 2 ^ k) else (if b then v + 2 ^ k else v)

/-- The low `w` bits of a number read as two's complement (R13). -/
def toSigned (w v : Nat) : Int :=
  let u := v % 2 ^ w
  if u < 2 ^ (w - 1) then (u : Int) else (u : Int) - 2 ^ w

/-- Two's complement image of an integer in `w` bits (R13). -/
def ofSigned (w : Nat) (x : Int) : Nat := (x % (2 ^ w : Int)).toNat

/-- The n little-endian bytes of a number (R12). -/
def leBytes : Nat → Nat → Bytes
  | 0, _ => []
  | n + 1, v => BitVec.ofNat 8 v :: leBytes n (v / 256)

/-- The n little-endian bytes of a signed number. -/
def leBytesI (n : Nat) (x : Int) : Bytes := leBytes n (ofSigned (8 * n) x)

/-- The number spelled by little-endian bytes (R12). -/
def leNat : Bytes → Nat
  | [] => 0
  | b :: r => b.toNat + 256 * leNat r

/-- The number spelled by bytes in network order (R249, R443: headers below Gulene). -/
def beNat (l : Bytes) : Nat := l.foldl (fun a b => a * 256 + b.toNat) 0

/-- The n bytes of a number in network order. -/
def beBytes (n v : Nat) : Bytes := (leBytes n v).reverse

/-- n bytes of a byte string from offset `off`; bytes beyond its end read 0. -/
def slice (l : Bytes) (off n : Nat) : Bytes :=
  let t := (l.drop off).take n
  t ++ List.replicate (n - t.length) 0

/-- Unsigned little-endian field of n bytes at an offset. -/
def u (l : Bytes) (off n : Nat) : Nat := leNat (slice l off n)

/-- Signed little-endian field of n bytes at an offset. -/
def i (l : Bytes) (off n : Nat) : Int := toSigned (8 * n) (u l off n)

/-- Whether n bytes from an offset are all 0 (reserved fields, R14). -/
def zeros (l : Bytes) (off n : Nat) : Bool := (slice l off n).all (· == 0)

/-- A byte string cut or padded with 0 to n bytes. -/
def padTo (n : Nat) (l : Bytes) : Bytes := slice l 0 n

/-- Saturating counter of `w` bits. -/
def satInc (w v : Nat) : Nat := min (v + 1) (2 ^ w - 1)

/-- Saturating addition to a counter of `w` bits. -/
def satAdd (w v n : Nat) : Nat := min (v + n) (2 ^ w - 1)

/-- Absolute value. -/
def absI (x : Int) : Int := if x < 0 then -x else x

/-- An integer held to a range. -/
def clampI (lo hi x : Int) : Int := max lo (min hi x)

/-- A number held to the range of a signed field of `w` bits. -/
def satI (w : Nat) (x : Int) : Int := clampI (-(2 ^ (w - 1))) (2 ^ (w - 1) - 1) x

/-- Exact quotient rounded to nearest, ties to even; the divisor is positive. -/
def divRne (x : Int) (d : Nat) : Int :=
  if d = 0 then 0 else
  let q := x / (d : Int)
  let r := x % (d : Int)
  if 2 * r < d then q else if 2 * r > d then q + 1 else if q % 2 = 0 then q else q + 1

/-- Quotient rounded to nearest, ties away from zero. -/
def divRna (x : Int) (d : Nat) : Int :=
  if d = 0 then 0 else
  if 0 ≤ x then (2 * x + d) / (2 * (d : Int)) else -((2 * (-x) + d) / (2 * (d : Int)))

/-- Quotient rounded toward minus infinity; 0 for a zero divisor. -/
def divFloor (x : Int) (d : Nat) : Int := if d = 0 then 0 else x / (d : Int)

/-- Quotient rounded toward zero; 0 for a zero divisor. -/
def divZero (x : Int) (d : Nat) : Int := if d = 0 then 0 else Int.tdiv x d

/-- Quotient rounded up. -/
def ceilDiv (a b : Nat) : Nat := if b = 0 then 0 else (a + b - 1) / b

/-- Mean of a list of integers, rounded half to even; 0 for none. -/
def meanI (l : List Int) : Int := divRne l.sum l.length

/-- Sum of integers chosen by a function. -/
def sumOf {α : Type} (l : List α) (f : α → Int) : Int := (l.map f).sum

/-- Element k of a list, or the given default. -/
def nth {α : Type} (l : List α) (k : Nat) (d : α) : α := l.getD k d

/-- Replacement of element k; a list too short is unchanged. -/
def upd {α : Type} (l : List α) (k : Nat) (f : α → α) : List α := l.modify k f

/-- Value of a key in an association list. -/
def look {β : Type} (l : List (Nat × β)) (k : Nat) : Option β := (l.find? (·.1 == k)).map (·.2)

/-- Association list with a key set, keys strictly rising. -/
def putKey {β : Type} : List (Nat × β) → Nat → β → List (Nat × β)
  | [], k, v => [(k, v)]
  | (a, b) :: r, k, v =>
    if k < a then (k, v) :: (a, b) :: r else if k = a then (k, v) :: r else (a, b) :: putKey r k v

/-- Association list without a key. -/
def dropKey {β : Type} (l : List (Nat × β)) (k : Nat) : List (Nat × β) := l.filter (fun p => p.1 != k)

/-- Smallest of a list of integers, or a default. -/
def minI (l : List Int) (d : Int) : Int := l.foldl min (l.headD d)

/-- Largest of a list of integers, or a default. -/
def maxI (l : List Int) (d : Int) : Int := l.foldl max (l.headD d)

/-- Insertion into a list sorted by a strict order on keys. -/
def insertBy {α : Type} (lt : α → α → Bool) (x : α) : List α → List α
  | [] => [x]
  | y :: r => if lt x y then x :: y :: r else y :: insertBy lt x r

/-- Stable insertion sort. -/
def sortBy {α : Type} (lt : α → α → Bool) (l : List α) : List α :=
  l.foldl (fun acc x => insertBy lt x acc) []

end Sys2Proof.Machine
end

