-- ==== Sys2Proof/Machine/Mem.lean ====
section
/-!
DEFINITION. Byte memories as sparse lists in one canonical form: addresses strictly rising and no entry equal to what
an unlisted address reads as.
-/

namespace Sys2Proof.Machine

open Sys2Proof

/-- One byte of a sparse memory whose unlisted bytes read `d`. -/
def Mem.read (d : Byte) : List Host.Cell → Nat → Byte
  | [], _ => d
  | (k, b) :: r, a => if a = k then b else Mem.read d r a

/-- Write of one byte, keeping the canonical form. -/
def Mem.write (d : Byte) : List Host.Cell → Nat → Byte → List Host.Cell
  | [], a, v => if v = d then [] else [(a, v)]
  | (k, b) :: r, a, v =>
    if a < k then (if v = d then (k, b) :: r else (a, v) :: (k, b) :: r)
    else if a = k then (if v = d then r else (a, v) :: r)
    else (k, b) :: Mem.write d r a v

/-- Every listed address lies above `lo`, addresses rise strictly, and no entry is the default. -/
def Mem.wfFrom (d : Byte) : Option Nat → List Host.Cell → Bool
  | _, [] => true
  | lo, (k, b) :: r => (match lo with | none => true | some a => decide (a < k)) && b != d && Mem.wfFrom d (some k) r

/-- The canonical form. -/
def Mem.wf (d : Byte) (m : List Host.Cell) : Bool := Mem.wfFrom d none m

/-- Read of n bytes from an address. -/
def Mem.readN (d : Byte) (m : List Host.Cell) (a n : Nat) : Bytes :=
  (List.range n).map (fun k => Mem.read d m (a + k))

/-- Write of a byte string from an address, first byte first. -/
def Mem.writeN (d : Byte) : List Host.Cell → Nat → Bytes → List Host.Cell
  | m, _, [] => m
  | m, a, b :: r => Mem.writeN d (Mem.write d m a b) (a + 1) r

end Sys2Proof.Machine
end

