-- ==== Sys2Proof/Packets.lean ====
section
/-!
DEFINITION. Operand types of the commands: what each event brings from outside the block.
-/

namespace Sys2Proof

/-- Identity of a host command (Tables 15-1 and 15-4): the queue it was fetched from, the ring index it occupied, its
tag, and the two flags of Table 15-3. -/
structure CmdHdr where
  queue : Nat
  sqIndex : Nat
  tag : Nat
  fence : Bool := false
  checkOnly : Bool := false
deriving DecidableEq, Repr

/-- A buffer parameter (R352, R363): the 8-byte address field and the length. -/
structure Buf where
  addr : Nat
  len : Nat
deriving DecidableEq, Repr

/-- The two ways an outbound request of the module fails (R346). -/
inductive DmaFail where
  | timeout
  | refused
deriving DecidableEq, Repr

/-- What a failed request was for (R346). -/
inductive DmaTarget where
  /-- The command ring, completion ring or write-back field of command queue q. -/
  | queue (q : Nat)
  /-- The event ring or its write-back field. -/
  | events
  /-- The buffer of a command in flight. -/
  | buffer (h : CmdHdr)
deriving DecidableEq, Repr

/-- A fast frame as received and descrambled: the sync headers of its four blocks, the type of its control block, 40-bit
header, 16 payload bytes, CRC (R120, R125, R127). -/
structure FastFrame where
  syncs : List Nat
  type : Nat
  hdr : Nat
  payload : Bytes
  crc : Nat
deriving DecidableEq, Repr

/-- An upstream service frame as received and descrambled: the sync headers of its three blocks, the type of its control
block, 40-bit header, DATA, MASK, CRC (R120, R130). -/
structure SvcFrame where
  syncs : List Nat
  type : Nat
  hdr : Nat
  data : Nat
  mask : Nat
  crc : Nat
deriving DecidableEq, Repr

/-- What training finds on a port (R135): the last sync headers received, the header of the TRAIN blocks the bridge answers
with, and the arrival cycles of 16 periods. The bridge's registers come by service responses. -/
structure Training where
  heads : List Nat
  answer : Nat
  arrivals : List Nat
deriving DecidableEq, Repr

/-- A port and the last sync headers it has received (R121). -/
structure PortHeads where
  port : Nat
  heads : List Nat
deriving DecidableEq, Repr

/-- A TETHER_BULK frame as received and descrambled: the sync headers of its 21 blocks, the type of its control block, 40-bit
header, 112 bytes of a copy, CRC-32C (R278). -/
structure BulkFrame where
  syncs : List Nat
  type : Nat
  hdr : Nat
  data : Bytes
  crc : Nat
deriving DecidableEq, Repr

/-- The telemetry signal a sub-block of Table 12-6 holds. -/
inductive Sig where
  | port (p ch : Nat)
  | group (g k : Nat)
  | shelf
deriving DecidableEq, Repr

/-- Learning settings (Table 16-11). -/
structure PfSet where
  avgK : Nat := 4
  binExp : Nat := 0xFF
  lockRho : Nat := 0xCD
  confMin : Nat := 0x80
  lossQ : Int := 0
  snapPct : Nat := 5
  coastMaxS : Nat := 0x3C
  minUs : Nat := 8192
  maxUs : Nat := 4194304
  spreadMax : Nat := 0
  minCount : Nat := 4
  lossMs : Nat := 1000
deriving DecidableEq, Repr

/-- A Gulene datagram to port 49,870 as received: source address and port, the fields of its header (Table 10-4; the
TYPE is the row's, MAGIC, VERSION, LENGTH and reserved fields are right), body and tag. A datagram in which those are
wrong is the row MALFORMED_DATAGRAM. -/
structure GnMsg where
  src : Nat
  sport : Nat
  timeOk : Bool
  rack : Nat
  sender : Nat
  keyId : Nat
  seq : Nat
  origin : Int
  body : Bytes
  tag : Bytes
  /-- The frame came with a priority tag, which is accepted as none (R249). -/
  prio : Bool := false
deriving DecidableEq, Repr

/-- Transports of PTP (R254). -/
inductive PtpTransport where
  | ethernet
  | udp6
  | udp4
deriving DecidableEq, Repr

/-- Head of a PTP Sync as received: its domain, the identity of its clock, the logarithm of its interval, its transport (R254). -/
structure PtpHead where
  domain : Nat
  source : Nat
  logInterval : Int
  via : PtpTransport
deriving DecidableEq, Repr

/-- Requests the Ethernet port answers, and router advertisements (R249). -/
inductive NetReq where
  /-- ICMPv6 neighbour solicitation for an address. -/
  | solicit (target : Nat)
  /-- ARP request for an address. -/
  | arp (target : Nat)
  /-- Echo request to an address. -/
  | echo (target : Nat)
  /-- Router advertisement of a /64 prefix: its upper 64 bits. -/
  | router (prefixBits : Nat)
deriving DecidableEq, Repr

/-- A clock that announces itself as time transmitter: the fields of its Announce by which clocks are compared
(IEEE 1588), and the domain. -/
structure Announced where
  domain : Nat
  priority1 : Nat
  clockClass : Nat
  accuracy : Nat
  variance : Nat
  priority2 : Nat
  identity : Nat
deriving DecidableEq, Repr

end Sys2Proof
end

