-- ==== Sys2Proof/Machine/Units/Gulene.lean ====
section
/-!
DEFINITION. State of the Ethernet port, PTP and Gulene (chapter 10).
-/

namespace Sys2Proof.Machine

open Sys2Proof

/-- A Gulene key (Table 16-13). -/
structure Key where
  id : Nat
  /-- Address family: false IPv6, true IPv4. -/
  v4 : Bool
  /-- PTP time from which it is current. -/
  activate : Int
  hostAddr : Nat
  key : Bytes
deriving DecidableEq, Repr

/-- The keys of one role (R259). -/
structure KeyRole where
  cur : Option Key := none
  next : Option Key := none
  /-- Keys switched from in the last 60 s, newest first. -/
  old : List Key := []
deriving DecidableEq, Repr

/-- A replay record (R261): the highest SEQ accepted, and the SEQs accepted among the 64 below it. -/
structure Replay where
  rack : Nat
  sender : Nat
  hi : Nat
  below : List Nat
deriving DecidableEq, Repr

/-- Whose bucket (Table 10-17). -/
inductive BucketKey where
  | wick (endpoint : Nat)
  | wickRack
  | report (endpoint : Nat)
  | unregistered (endpoint : Nat)
  | lantern (rack sender : Nat)
  /-- BUDGET and ELECT of one module. -/
  | request (sender : Nat)
  | share (sender : Nat)
  | alert (sender : Nat)
  | host
deriving DecidableEq, Repr

/-- A bucket below its burst: thousandths of a token held. -/
structure Bucket where
  key : BucketKey
  milli : Nat
deriving DecidableEq, Repr

/-- A message in the receive queue (R267): its TYPE, and the root and PTP times of its arrival. -/
structure GnIn where
  typ : Nat
  msg : GnMsg
  at_ : Nat
  ptpAt : Int
deriving DecidableEq, Repr

/-- The network side. -/
structure Gulene where
  -- the port
  /-- Mode of Table 10-1; 0: link down. -/
  mode : Nat := 0
  /-- A negotiation failure has been recorded since the link was lost (R248). -/
  negFailed : Bool := false
  /-- MAC address, from OTP. -/
  mac : Nat := 0
  ipv6 : Option Nat := none
  ipv4 : Option Nat := none
  /-- R269. -/
  isolated : Bool := false
  /-- Multicast groups joined (R251). -/
  joined : List Nat := []
  -- keys
  rackKey : KeyRole := {}
  rowKey : KeyRole := {}
  -- sending and receiving
  seq : Nat := 0
  /-- Root time before which nothing is sent, SEQ having restarted (R261). -/
  quietTo : Nat := 0
  rxOk : Nat := 0
  txOk : Nat := 0
  authFail : Nat := 0
  replayCnt : Nat := 0
  rateCnt : Nat := 0
  malformed : Nat := 0
  replay : List Replay := []
  buckets : List Bucket := []
  /-- 1 ms refills of the present second, and WICK notices of this and of the last complete second. -/
  msTick : Nat := 0
  wickNow : Nat := 0
  wickLast : Nat := 0
  /-- Root time of the last INPUT_DROPPED record of a sender, and of the queue. -/
  dropAt : List (Nat × Nat) := []
  queueDropAt : Option Nat := none
  queue : List GnIn := []
  -- PTP (the timer and its state stand in the clock)
  /-- Role RACK_SOURCE (R256). -/
  rackSource : Bool := false
  domain : Nat := 0
  offset : Int := 0
  /-- Consecutive Sync offsets of at most 100 ns, and beyond 1,000 ns (R255). -/
  goodSync : Nat := 0
  badSync : Nat := 0
  /-- Last Sync: its origin and arrival by the timer, and the time our Delay_Req left. -/
  syncT1 : Int := 0
  syncT2 : Int := 0
  reqT3 : Option Int := none
  /-- Mean path delay [ns]. -/
  pathDelay : Int := 0
  /-- Best time transmitter heard, when it is better than this module's own clock. -/
  better : Option Announced := none
  transmitter : Bool := false
  /-- Syncs sent since the last Announce (R256). -/
  announceCnt : Nat := 0
  /-- Root time at which lock was lost. -/
  lostAt : Nat := 0
deriving DecidableEq, Repr

def Gulene.linkUp (g : Gulene) : Bool := g.mode != 0

end Sys2Proof.Machine
end

