-- ==== Sys2Proof/Machine/Units/HostIf.lean ====
section
/-!
DEFINITION. State of the host interface: rings, bootstrap registers, MSI-X, commands in flight and the reset ledger
(chapters 14 and 15).
-/

namespace Sys2Proof.Machine

open Sys2Proof

/-- A command queue with its completion queue (R330, R332, R342). -/
structure CmdQueue where
  present : Bool := false
  faulted : Bool := false
  sqBase : Nat := 0
  cqBase : Nat := 0
  sqN : Nat := 0
  cqN : Nat := 0
  sqHead : Nat := 0
  sqTail : Nat := 0
  cqHead : Nat := 0
  cqTail : Nat := 0
  vec : Nat := 0
  coalCnt : Nat := 0
  coalUs : Nat := 0
  unsig : Nat := 0
  stall : Bool := false
  /-- QUEUE_DELETE has started: nothing more is fetched (R367). -/
  deleting : Bool := false
deriving DecidableEq, Repr

/-- The event queue (R342, R343). -/
structure EvQueue where
  present : Bool := false
  faulted : Bool := false
  base : Nat := 0
  n : Nat := 0
  head : Nat := 0
  tail : Nat := 0
  vec : Nat := 0
  coalCnt : Nat := 0
  coalUs : Nat := 0
  unsig : Nat := 0
  stall : Bool := false
  /-- Records not queued since the last overflow record (R35), 16 bits saturating in the register. -/
  notQueued : Nat := 0
deriving DecidableEq, Repr

/-- What a command in flight waits for before it completes. -/
inductive Wait where
  | queueDelete (q : Nat)
  | loopOpen (slot : Nat)
  | loopClose (slot : Nat)
  | loopLoad (slots : List Nat) (count : Nat)
  | schedule
  | groupEnable (g : Nat)
  | groupQuench (g : Nat)
  | busVset
  | retire (port : Nat)
  | restore (port : Nat)
  | storeMode
  | planLimits
  | planLoad
  | budget
  | setting (which value : Nat)
  /-- `flush` is the flush whose end it waits for, counted as they begin. -/
  | logRead (buf : Buf) (start count flush : Nat)
  | logClear
  | calWrite
  | assay
  | imageStage
  | imageCommit (activate : Bool)
  | reset
  | blockReset (block : Nat)
  | takeover
deriving DecidableEq, Repr

/-- A command in flight that has started. -/
structure Flight where
  hdr : CmdHdr
  op : Nat
  wait : Wait
  /-- Position in fetch order. -/
  no : Nat
deriving DecidableEq, Repr

/-- A fetched command that has not started (R357; FENCE of Table 15-3): its entry as fetched. -/
structure Parked where
  hdr : CmdHdr
  entry : Bytes
  no : Nat
deriving DecidableEq, Repr

/-- An entry of the reset ledger (R360, R361). -/
structure LedgerEntry where
  tag : Nat
  queue : Nat
  sqIndex : Nat
  status : Nat
  scope : Nat
  source : Nat
  seq : Nat
deriving DecidableEq, Repr

/-- An entry of the MSI-X table (PCIe base specification format). -/
structure MsixEntry where
  addrLo : Reg := 0
  addrHi : Reg := 0
  data : Reg := 0
  ctl : Reg := 1
deriving DecidableEq, Repr

/-- The identification in the function's configuration header (Table 14-1a). -/
structure PciHeader where
  vendor : Nat
  device : Nat
  classCode : Nat
  revision : Nat
  subVendor : Nat
  subsystem : Nat
deriving DecidableEq, Repr

/-- A word of the configuration space that holds it, by the PCI header's offsets. -/
def PciHeader.word (h : PciHeader) (off : Nat) : Nat :=
  if off = 0x00 then h.device * 2 ^ 16 + h.vendor
  else if off = 0x08 then h.classCode * 2 ^ 8 + h.revision
  else if off = 0x2C then h.subsystem * 2 ^ 16 + h.subVendor
  else 0

/-- The host interface. -/
structure HostIf where
  /-- HQ_LINK. -/
  speed : Nat := 0
  width : Nat := 0
  flit : Bool := false
  busMaster : Bool := false
  margin : Nat := 0
  /-- MSI-X enabled by the host. -/
  msixEnable : Bool := false
  msix : List MsixEntry := List.replicate 64 (MsixEntry.mk 0 0 0 1)
  pba : Nat := 0
  /-- HQ_ERR. -/
  dmaErr : Nat := 0
  dbReject : Nat := 0
  barDrop : Nat := 0
  badAccess : Nat := 0
  /-- HQ_BOOT_CTRL. -/
  enable : Bool := false
  bootFault : Bool := false
  bootSizes : Reg := 0
  bootCoal : Reg := 0
  sq0Lo : Reg := 0
  sq0Hi : Reg := 0
  cq0Lo : Reg := 0
  cq0Hi : Reg := 0
  eqLo : Reg := 0
  eqHi : Reg := 0
  wbLo : Reg := 0
  wbHi : Reg := 0
  queues : List CmdQueue := List.replicate 4 {}
  eq : EvQueue := {}
  /-- Entries fetched in a row from queue 0 (R336). -/
  run0 : Nat := 0
  /-- Round robin of queues 1 to 3: the queue being served and what is left of its weight (R336). -/
  rrQueue : Nat := 1
  rrLeft : Nat := 4
  parked : List Parked := []
  inflight : List Flight := []
  /-- Commands fetched so far, and the number of the one now starting. -/
  fetchNo : Nat := 0
  curNo : Option Nat := none
  /-- High words that reads of _LO registers have latched, by the _LO register's BAR0 address. -/
  shadows : List (Nat × Nat) := []
  ledger : List LedgerEntry := []
  ledgerLost : Nat := 0
deriving DecidableEq, Repr

end Sys2Proof.Machine
end

