-- ==== Sys2Proof/Machine/Units/Governor.lean ====
section
/-!
DEFINITION. State of the rack governor (chapter 9).
-/

namespace Sys2Proof.Machine

open Sys2Proof

/-- Fields of Table 9-4: offset, size, lowest and highest value, default. ABSENT_BUDGET_W 0 stands for the sum of cap_s. -/
def govFields : List (Nat × Nat × Nat × Nat × Nat) :=
  [(0x00, 4, 1, 2 ^ 32 - 1, 0), (0x04, 1, 0, 3, 0), (0x05, 1, 1, 4, 1), (0x06, 1, 0, 1, 0), (0x07, 1, 0, 1, 0),
   (0x08, 1, 0, 2, 0), (0x09, 1, 0, 1, 0), (0x0A, 1, 1, 50, 2), (0x0B, 1, 1, 100, 100), (0x0C, 4, 0, 2 ^ 31 - 1, 0),
   (0x10, 4, 1, 160000, 1000)] ++
  [(0x14, 4, 100, 3600000, 10000), (0x18, 4, 0, 1000000, 0), (0x1C, 4, 0, 100000, 0), (0x20, 4, 1, 1000000, 5000),
   (0x24, 4, 1, 100000, 1000), (0x28, 2, 10, 10000, 200), (0x2A, 2, 1, 65535, 20), (0x2C, 2, 1, 60000, 1000),
   (0x2E, 2, 1, 65535, 64), (0x30, 2, 1, 3600, 10), (0x32, 2, 1, 65535, 1000)]

/-- Defaults of the fields, in order. -/
def govDefaults : List Nat := govFields.map (·.2.2.2.2)

/-- The 64 bytes of a section with the given field values. -/
def govBytes (l : List Nat) : Bytes :=
  (govFields.zip l).flatMap (fun x => leBytes x.1.2.1 x.2) ++ List.replicate 12 0

/-- One shelf as its LANTERN frame shows it (Table 10-10). -/
structure ShelfView where
  shelf : Nat
  elig : Bool
  lead : Bool
  floor : Bool
  derated : Bool
  epoch : Nat
  cap : Int
  grid : Int
  gPub : Int
  out : Int
  shed : Int
  fillReq : Int
  busMa : Int
deriving DecidableEq, Repr

/-- A grant as computed, before its lead epoch and its time (Table 9-1). -/
structure Grant where
  cap : Int
  floor : Int
  wAvg : Nat
  stagger : Nat
  tag : Nat
  pace : Nat
  reason : Nat
  gain : Int
  ofs : Int
deriving DecidableEq, Repr

/-- An endpoint (R224). -/
structure Endpoint where
  id : Nat
  /-- Address it registered from; none where a SHARE alone has told of it. -/
  addr : Option Nat := none
  minW : Int := 0
  maxW : Int := 0
  fallback : Int := 0
  complyUs : Nat := 0
  reportUs : Nat := 0
  -- the grant in force
  cap : Int := 0
  floor : Int := 0
  pace : Nat := 0
  reason : Nat := 0xFF
  /-- t_g (R238). -/
  tg : Option Nat := none
  /-- The grant last sent and the root time of its sending (R228). -/
  sent : Option (Grant × Nat) := none
  stagger : Nat := 0
  tag : Nat := 0
  lbar : Nat := 0
  noncomp : Bool := false
  /-- Marked since this module leads (R218, R240). -/
  ncOwn : Bool := false
  /-- Root time at which it was last found non-compliant. -/
  ncAt : Nat := 0
  ncCnt : Nat := 0
  floorMiss : Bool := false
  floorMisses : Nat := 0
  stale : Bool := false
  /-- r_i of the latest REPORT. -/
  raw : Int := 0
  /-- p_i over time: root time from which each value holds, newest first (R236, R238). -/
  hist : List (Nat × Int) := []
  energy : Int := 0
  /-- g_i - 1 and o_i in units of 2^-calFracBits, and the sums of R237. -/
  gainDev : Int := 0
  ofs : Int := 0
  dg : Int := 0
  dO : Int := 0
  /-- Throttled time by reason [ms]; the interval running: reason, PTP start, ms (R245). -/
  thrMs : List Nat := List.replicate 6 0
  thr : Option (Nat × Int × Nat) := none
  intervals : Nat := 0
deriving DecidableEq, Repr

/-- A request for a budget (kind 0) or a setting (kind 1 timing, 2 allocation, 3 knowledge) (R219, R233). -/
structure Req where
  sender : Nat
  id : Nat
  kind : Nat
  w : Int
  ms : Nat
  value : Nat
deriving DecidableEq, Repr

/-- An entry of PENDING (Table 10-13). -/
structure Pend where
  req : Req
  state : Nat
  /-- PTP time from which a setting is in force (R233). -/
  due : Int
  /-- Root time at which a final state was reached. -/
  finalAt : Nat
deriving DecidableEq, Repr

/-- A request of this module's own host (R263). -/
structure OwnReq where
  req : Req
  /-- The command that waits; none once a reset has ended it. -/
  hdr : Option CmdHdr
  adopted : Bool
deriving DecidableEq, Repr

/-- One occurrence of a barrier (R231). -/
structure Barrier where
  tag : Nat
  /-- T_w and DELTA_W by endpoint. -/
  arrived : List (Nat × Int × Int)
deriving DecidableEq, Repr

/-- The caps fixed by STEADY allocation (R234). -/
structure Steady where
  p : Int
  /-- The registrations: ID, MIN_W, MAX_W. -/
  regs : List (Nat × Int × Int)
  caps : List (Nat × Int)
  lapsed : Bool
deriving DecidableEq, Repr

/-- The rack governor. -/
structure Governor where
  /-- DEFAULTS_OK, and the section in force with its defaults resolved: 64 bytes. -/
  ok : Bool := false
  defs : Bytes := govBytes govDefaults
  /-- 0 none, 1 follower, 2 lead. -/
  role : Nat := 0
  leadEpoch : Nat := 0
  maxEpoch : Nat := 0
  leadShelf : Option Nat := none
  /-- Epoch of an ELECT sent whose 2 ms run (R217). -/
  claim : Option Nat := none
  /-- Steps for which this shelf has been eligible and lowest while another leads. -/
  lowMs : Nat := 0
  conflict : Bool := false
  /-- Steps for which a duplicate SHELF_ID still counts as heard. -/
  dupMs : Nat := 0
  peers : List (Nat × ShelfView) := []
  /-- Peers as the epochs' input sets show them (R37). -/
  epochPeers : List (Nat × ShelfView) := []
  /-- Rack budget [mW], so that the ramp of R223 keeps its fraction. -/
  budgetMw : Int := 0
  /-- Budget adopted and not yet in force: W and ms (R220). -/
  newBudget : Option (Int × Nat) := none
  validEnd : Int := 0
  validMs : Nat := 0
  hostAbsent : Bool := true
  never : Bool := true
  timing : Nat := 0
  alloc : Nat := 0
  know : Nat := 0
  detSusp : Bool := false
  eps : List Endpoint := []
  /-- Source address and port of each endpoint's latest accepted REPORT. -/
  heard : List (Nat × Nat × Nat) := []
  late : List (Nat × Nat) := []
  dropped : List (Nat × Nat) := []
  refused : Nat := 0
  barriers : List Barrier := []
  steady : Option Steady := none
  /-- Inputs waiting for their epoch, the lead's own host commands among them (R37, R220). -/
  inputs : List GnIn := []
  lastEpoch : Option Int := none
  /-- Grants of the epoch computed, to be released at E + 300 µs (R37). -/
  epochGrants : List (Nat × Grant) := []
  pend : List Pend := []
  seen : List (Nat × Nat) := []
  own : List OwnReq := []
  reqId : Nat := 0
  shares : List Int := [0, 0, 0, 0]
  /-- pg - lm and pg over the rack in the last steps, newest first (R229, R221). -/
  convHist : List Int := []
  gridHist : List Int := []
  gridNow : Int := 0
  pool : Int := 0
  known : Int := 0
  poolReason : Nat := 7
  /-- M of R236 at the last step. -/
  measured : Int := 0
  /-- Steps for which floor grants still stand after the last FILL_REQ_W (R239). -/
  floorLeft : Nat := 0
  snuffOut : Bool := false
  /-- SNUFF_SENSE asserted, after its filter. -/
  sense : Bool := false
  /-- SNUFF_FOREIGN has been recorded for the present assertion (R242). -/
  foreign : Bool := false
  /-- Windows in a row at or below the targets (R241). -/
  relRun : Nat := 0
  unattainable : Bool := false
  eOut : Int := 0
  eIn : Int := 0
  rackOut : Int := 0
  rackIn : Int := 0
  set_ : Nat := 0
  /-- SHARE segments received of the newest set: set number and lead epoch, segments by number (R264). -/
  rxSet : Option (Nat × Nat) := none
  rxSegs : List (Nat × Bytes) := []
deriving DecidableEq, Repr

/-- Unsigned field of the defaults section in force (Table 9-4). -/
def Governor.d (g : Governor) (off n : Nat) : Nat := leNat ((g.defs.drop off).take n)

def Governor.rack (g : Governor) : Nat := g.d 0x00 4
def Governor.shelf (g : Governor) : Nat := g.d 0x04 1
def Governor.shelves (g : Governor) : Nat := g.d 0x05 1
def Governor.snuffDis (g : Governor) : Bool := bitAt (g.d 0x09 1) 0
def Governor.tol (g : Governor) : Nat := g.d 0x0A 1
def Governor.staggerMax (g : Governor) : Nat := g.d 0x0B 1
def Governor.absentW (g : Governor) : Nat := g.d 0x0C 4
def Governor.hostRamp (g : Governor) : Nat := g.d 0x10 4
def Governor.validDef (g : Governor) : Nat := g.d 0x14 4
def Governor.overhead (g : Governor) : Nat := g.d 0x18 4
def Governor.rBus (g : Governor) : Nat := g.d 0x1C 4
def Governor.slope (g : Governor) : Nat := g.d 0x20 4
def Governor.marginUs (g : Governor) : Nat := g.d 0x24 4
def Governor.validGrant (g : Governor) : Nat := g.d 0x28 2
def Governor.hyst (g : Governor) : Nat := g.d 0x2A 2
def Governor.leadReturn (g : Governor) : Nat := g.d 0x2C 2
def Governor.muInv (g : Governor) : Nat := g.d 0x2E 2
def Governor.holdS (g : Governor) : Nat := g.d 0x30 2
def Governor.thrLog (g : Governor) : Nat := g.d 0x32 2
/-- Rack budget in force [W]. -/
def Governor.budget (g : Governor) : Int := divFloor g.budgetMw 1000
def Governor.ep (g : Governor) (k : Nat) : Option Endpoint := g.eps.find? (fun e => e.id == k)

end Sys2Proof.Machine
end

