-- ==== Sys2Proof/Machine/Units/Planisher.lean ====
section
/-!
DEFINITION. State of the Planisher, the storage estimator and the absence decay engine (chapter 7).
-/

namespace Sys2Proof.Machine

open Sys2Proof

/-- A storage-string record in force (Table 7-3) with the string's state. -/
structure StrRec where
  vBot : Int
  vTop : Int
  eUse : Nat
  esr : Int
  iSrc : Nat
  tauS : Nat
  guard : Nat
  /-- E [mJ] (R172). -/
  e : Int
  voc : Int
  /-- E takes ev at the next window (R172). -/
  seed : Bool
  /-- The group has regulated since cold start. -/
  regd : Bool
  floor : Bool
  ceil : Bool
  /-- The group was OFF at the last fast step (R186). -/
  wasOff : Bool
deriving DecidableEq, Repr

/-- A row fill (R192): the amount is num / (100,000 * den) W, falling by dec / (100,000 * den) W per fast step. -/
structure Fill where
  num : Int
  dec : Int
  den : Nat
deriving DecidableEq, Repr

/-- What a peer's last LANTERN frame said (R191, R192). -/
structure PeerGrid where
  gridW : Int
  offer : Int
deriving DecidableEq, Repr

/-- The Planisher. -/
structure Planisher where
  mode : Nat := 0
  /-- STORE_MODE and PLAN_LIMITS waiting for their step (R169, R171). -/
  modeNext : Option Nat := none
  limNext : Option (List Nat) := none
  /-- Fields of Table 7-2 in table order. -/
  lim : List Nat := [20000, 30, 90, 60, 10, 0, 60, 20, 20000, 10000, 20, 1000, 10000, 0, 10, 1000, 24000, 4000, 40, 0]
  /-- String records in force by group. -/
  strs : List (Nat × StrRec) := []
  /-- G [µW]. -/
  g : Int := 0
  gPub : Int := 0
  gReq : Int := 0
  trim : Int := 0
  l : Int := 0
  p : Int := 0
  budget : Int := 0
  atFloor : Bool := false
  atCeil : Bool := false
  ride : Bool := false
  absent : Bool := false
  /-- Governor absence has been since the last fast step (R180). -/
  resume : Bool := false
  seeded : Bool := false
  fcUsed : Bool := false
  fcDropped : Bool := false
  fcHold : Bool := false
  /-- Forecasts used, with the fast steps still to pass before their time (R176). -/
  fcWait : List (Nat × Int) := []
  fcSum : Int := 0
  fcCnt : Nat := 0
  /-- Mean error of the last 100 windows [W], newest first. -/
  fcErr : List Int := []
  /-- Fast steps in a row below the ride-through entry voltage (R187). -/
  dropRun : Nat := 0
  /-- Every fast step of the window stood clamped, or no storage group regulated (R180). -/
  winClamp : Bool := true
  fills : List Fill := []
  peers : List (Nat × PeerGrid) := []
  offer : Int := 0
  shed : Int := 0
  fillReq : Int := 0
  /-- 1 ms averages of the shelf output over the last second, newest first (R177). -/
  laHist : List Int := []
  /-- NO_STORAGE and PL_SOC as last shown. -/
  noStore : Bool := false
  socReg : Nat := 0
deriving DecidableEq, Repr

def Planisher.ramp (p : Planisher) : Nat := nth p.lim 0 0
def Planisher.floorPct (p : Planisher) : Nat := nth p.lim 1 0
def Planisher.ceilPct (p : Planisher) : Nat := nth p.lim 2 0
def Planisher.targetPct (p : Planisher) : Nat := nth p.lim 3 0
def Planisher.deadPct (p : Planisher) : Nat := nth p.lim 4 0
def Planisher.corrMax (p : Planisher) : Nat := nth p.lim 5 0
def Planisher.tSoc (p : Planisher) : Nat := nth p.lim 6 0
def Planisher.absRate (p : Planisher) : Nat := nth p.lim 7 0
def Planisher.fillRamp (p : Planisher) : Nat := nth p.lim 8 0
def Planisher.fillTrig (p : Planisher) : Nat := nth p.lim 9 0
def Planisher.leadUs (p : Planisher) : Nat := nth p.lim 10 0
def Planisher.fcErrJ (p : Planisher) : Nat := nth p.lim 12 0
def Planisher.trimMax (p : Planisher) : Nat := nth p.lim 13 0
def Planisher.trimTau (p : Planisher) : Nat := nth p.lim 14 0
def Planisher.rideDrop (p : Planisher) : Nat := nth p.lim 16 0
def Planisher.rideOffset (p : Planisher) : Nat := nth p.lim 17 0
def Planisher.rideKp (p : Planisher) : Nat := nth p.lim 18 0

end Sys2Proof.Machine
end

