-- ==== Sys2Proof/Machine/Line.lean ====
section
/-!
DEFINITION. The line of a Faldon port: 50-UI blocks, their scrambler, the blocks of frames, the 25 blocks of a period, and
block lock (R120 to R123, R125, R130, R275, R278).
-/

namespace Sys2Proof.Machine

open Sys2Proof

/-- A block: its 2-bit sync header and its 48-bit body; sync bit 0 goes first on the wire, then body bits 0 to 47 (R120). -/
structure Block where
  sync : Nat
  body : Nat
deriving DecidableEq, Repr

/-- A control block: type in body bits [7:0], 40-bit header in [47:8]. -/
def ctlBlock (type hdr : Nat) : Block := { sync := 2, body := type + hdr % 2 ^ 40 * 2 ^ 8 }

/-- Data blocks that carry the bits of a number, lowest first. -/
def dataBlocks (n v : Nat) : List Block := (List.range n).map (fun k => { sync := 1, body := v / 2 ^ (48 * k) % 2 ^ 48 })

/-- An IDLE block. -/
def idleBlock : Block := ctlBlock 0x1E 0

/-- The four blocks of a fast frame (R125). -/
def fastBlocks (type hdr : Nat) (payload : Bytes) (crc : Nat) : List Block :=
  ctlBlock type hdr :: dataBlocks 3 (leNat payload + crc * 2 ^ 128)

/-- The three blocks of a service frame (R130). -/
def svcBlocks (type hdr data mask crc : Nat) : List Block :=
  ctlBlock type hdr :: dataBlocks 2 (data + mask * 2 ^ 32 + crc * 2 ^ 64)

/-- The LAUNCH_MOVE block of R123. -/
def launchBlock (extra slip : Nat) : Block := ctlBlock 0x78 (extra * 2 ^ 8 + slip)

/-- The 21 blocks of a TETHER_BULK frame: 112 bytes of a copy, their CRC-32C, 4 reserved bytes (R278). -/
def bulkBlocks (hdr : Nat) (data : Bytes) (crc : Nat) : List Block :=
  ctlBlock 0xA5 hdr :: dataBlocks 20 (leNat data + crc * 2 ^ 896)

/-- The scrambler 1 + x^39 + x^58 over the lowest n bits of a body: `h` holds the last 58 bits sent, newest in bit 0. -/
def scrambleBits : Nat → Nat → Nat → Nat × Nat
  | 0, h, _ => (0, h)
  | n + 1, h, v =>
    let b := (v + h / 2 ^ 38 + h / 2 ^ 57) % 2
    let r := scrambleBits n ((2 * h + b) % 2 ^ 58) (v / 2)
    (b + 2 * r.1, r.2)

/-- Bodies scrambled, continuous across blocks; sync headers never (R120). -/
def scrambleBlocks (h : Nat) : List Block → List Block × Nat
  | [] => ([], h)
  | b :: l =>
    let r := scrambleBits 48 h b.body
    let q := scrambleBlocks r.2 l
    ({ b with body := r.1 } :: q.1, q.2)

/-- A transmitter: the blocks of the period it is sending, empty while the line is idle, and its scrambler, which starts from 0
(assumption 104). -/
structure Line where
  begun : List Block := []
  hist : Nat := 0
deriving DecidableEq, Repr

/-- The period under way as it goes out: filled with IDLE blocks to 25; with a move, block 24 is LAUNCH_MOVE and EXTRA IDLE
blocks follow it (Table 5-2, R123). The blocks as on the wire, and the scrambler after them. -/
def Line.period (l : Line) (move : Option (Nat × Nat)) : List Block × Nat :=
  let tail := match move with
    | none => List.replicate (25 - l.begun.length) idleBlock
    | some (extra, slip) =>
      List.replicate (24 - l.begun.length) idleBlock ++ [launchBlock extra slip] ++ List.replicate extra idleBlock
  scrambleBlocks l.hist (l.begun ++ tail)

/-- A service slot of the period under way is empty: blocks 4 to 6, 7 to 9, 10 to 12 (Table 5-2). -/
def Line.slotFree (l : Line) : Bool := decide (4 ≤ l.begun.length) && decide (l.begun.length ≤ 10)

/-- An invalid sync header (R120). -/
def badSync (h : Nat) : Bool := h % 4 == 0 || h % 4 == 3

/-- The last 32 sync headers are valid: block lock is gained (R121). -/
def gainsLock (heads : List Nat) : Bool := decide (32 ≤ heads.length) && (heads.drop (heads.length - 32)).all (!badSync ·)

/-- 16 of the last 64 sync headers are invalid: block lock is lost (R121). -/
def losesLock (heads : List Nat) : Bool := decide (16 ≤ ((heads.drop (heads.length - 64)).filter badSync).length)

end Sys2Proof.Machine
end

