-- ==== Sys2Proof/Machine/Units/PowerTrain.lean ====
section
/-!
DEFINITION. State of the cell ports, groups, power-train sequencer, protection and telemetry (chapters 4, 5, 6, 12).
-/

namespace Sys2Proof.Machine

open Sys2Proof

/-- Telemetry of one signal: running windows, averages and peaks (R294, R295). -/
structure Chan where
  sum : Int := 0
  cnt : Nat := 0
  sum100 : Int := 0
  cnt100 : Nat := 0
  sum1k : Int := 0
  cnt1k : Nat := 0
  avg1 : Int := 0
  avg100 : Int := 0
  avg1k : Int := 0
  mn : Int := 2 ^ 31 - 1
  mx : Int := -(2 ^ 31)
  noData : Bool := false
deriving DecidableEq, Repr

/-- FL_PORT_STATE.STATE (Table 5-20). -/
inductive PortState where
  | down
  | training
  | trained
  | lost
  | failed
deriving DecidableEq, Repr

/-- What a service access is for (R132, R165). -/
inductive SvcUse where
  /-- Write of CLEAR_FAULT for a CELL_RESTORE with CLEAR. -/
  | clearFault
  /-- Read-back of BR_FAULT for that restore. -/
  | readFault
  /-- Write of UNLATCH at discovery. -/
  | unlatch
  /-- Read of a bridge register at discovery. -/
  | discover
deriving DecidableEq, Repr

/-- A service request, queued or outstanding (R130, R132). -/
structure SvcReq where
  tag : Nat
  op : Nat
  addr : Nat
  data : Nat
  mask : Nat
  sends : Nat
  use : SvcUse
deriving DecidableEq, Repr

/-- A CELL_RESTORE under way on a port (R107, R165). -/
inductive Restore where
  /-- CLEAR_FAULT written, BR_FAULT read back. -/
  | clearing
  /-- The 1 ms of diode emulation. -/
  | srStep
deriving DecidableEq, Repr

/-- One cell port with its record, bridge mirrors, samples, protection state and telemetry. -/
structure Port where
  -- port record (Table 4-5)
  kind : Nat := 0
  group : Nat := 0xFF
  phase : Nat := 0xFF
  cellSlot : Nat := 0xFF
  ratingMa : Nat := 0
  ratingW : Nat := 0
  bridgeRec : Nat := 0
  -- link state
  state : PortState := .down
  trainTries : Nat := 0
  retrains : Nat := 0
  /-- Times in ns of retraining attempts of the last 10 s (R143). -/
  retrainAt : List Nat := []
  /-- The receiver has block lock (R121). -/
  lock : Bool := false
  /-- Bridge registers read in the present training attempt, by word address (R135 step 5). -/
  brRead : List (Nat × Nat) := []
  bridgeId : Nat := 0
  layout : Reg := 0
  holdUs : Nat := 0
  laneEn : Nat := 0
  pwm : Nat := 0
  cmdFields : Nat := 0
  holdShort : Bool := false
  arrival : Nat := 0
  /-- Launch cycle L_p, 0 when no scheduled slot writes the port (R82, R123). -/
  launch : Nat := 0
  /-- Launch cycle of the frames last sent (R85, R123). -/
  sentLaunch : Nat := 0
  /-- The transmitter: the blocks of the downstream period under way (R120, R122). -/
  line : Line := {}
  /-- Header of the last good FAST_UP. -/
  hdr : Nat := 0
  upSeq : Option Nat := none
  fastCrc : Nat := 0
  svcCrc : Nat := 0
  lockLoss : Nat := 0
  badRun : Nat := 0
  obeyRun : Nat := 0
  badThisS : Nat := 0
  badLastS : Nat := 0
  margin : Nat := 0
  svcTimeout : Bool := false
  lostSeen : Bool := false
  degraded : Bool := false
  /-- HELD reports since training, fields 0 to 3 (R71, Table 5-27). -/
  held : List (Option Int) := [none, none, none, none]
  svcWait : List SvcReq := []
  svcOut : List SvcReq := []
  -- samples
  /-- Samples of each channel of the last good frame, earlier first. -/
  smp : List (List Int) := List.replicate 8 []
  raw : List Int := List.replicate 8 0
  stale : Bool := false
  /-- A FAST_UP, good or not, has been taken in the present frame period. -/
  fresh : Bool := false
  /-- Command fields 0 to 3 as the slots last wrote them (R59). -/
  cmd : List Int := [0, 0, 0, 0]
  temps : List Int := List.replicate 8 (-32768)
  brFault : Nat := 0
  /-- Latches of BR_FAULT handed to the ladder since they were set (R156). -/
  latchTold : Nat := 0
  -- cell state
  retired : Bool := false
  /-- PT_PORT_FAULT.CAUSE. -/
  cause : Nat := 0
  /-- A good FAST_UP has shown RUNNING = 0 since the last stop was asked for. -/
  stopSeen : Bool := false
  restore : Option Restore := none
  /-- Standby: the last copy applied shows the cell as failed (Table 11-4). -/
  copyFailed : Bool := false
  -- protection
  /-- Heat level H, 2^32 is 100 % (R157). -/
  heat : Nat := 0
  olWarn : Bool := false
  olDerate : Bool := false
  /-- H has reached 120 % (R158). -/
  olTrip : Bool := false
  tempFind : Bool := false
  /-- T has reached SHUT; restored after a retirement for temperature (R159). -/
  tempShut : Bool := false
  tempAgain : Bool := false
  tempFactor : Nat := 100
  /-- Highest temperature reported in the present 1 ms window. -/
  tempMax : Option Int := none
  compLow : Nat := 0
  /-- Raw current lane of the window: constant so far. -/
  laneSeen : Option Int := none
  laneConst : Bool := true
  /-- Raw current lane of the previous window, when it was constant. -/
  lanePrev : Option Int := none
  /-- m_c of the previous window and of the last non-deviating window, as sum and number of mates. -/
  mPrev : Option (Int × Nat) := none
  mGood : Option (Int × Nat) := none
  devCount : Nat := 0
  /-- The last deviating window classifies as OPEN (R163). -/
  devOpen : Bool := false
  imbCount : Nat := 0
  imbOk : Nat := 0
  /-- The imbalance condition stands; the W1C bit of PT_IMB_FLAG. -/
  imbOn : Bool := false
  imbFlag : Bool := false
  /-- Last deviation found, in 0.01 % of the mean (IMBALANCE payload). -/
  imbDev : Nat := 0
  scNoteAt : Option Nat := none
  tele : List Chan := List.replicate 8 {}
deriving DecidableEq, Repr

/-- Group states (Table 4-6). -/
inductive GroupState where
  | off
  | starting
  | regulating
  | burstRun
  | burstSleep
  | quenching
deriving DecidableEq, Repr

/-- One group with its record, sequencing, protection settings and telemetry. -/
structure Group where
  -- group record (Table 4-4)
  gtype : Nat := 0
  flags : Nat := 0
  startOrder : Nat := 0
  voltSlot : Nat := 0xFF
  currSlot : Nat := 0xFF
  pbMode : Nat := 0
  ratingW : Nat := 0
  ratingMa : Nat := 0
  vnom : Nat := 0
  vinMin : Int := 0
  vinMax : Int := 0
  pbM : Nat := 0
  pbOut : Nat := 0
  pbIn : Nat := 0
  regBand : Nat := 0
  regCount : Nat := 0
  startMax : Nat := 0
  imbPct : Nat := 0
  imbGate : Nat := 0
  imbPersist : Nat := 0
  -- sequencing
  state : GroupState := .off
  lastQuench : Nat := 0
  /-- PRE_BIASED_START is still to come (R101 step 2). -/
  startPend : Bool := false
  /-- That closing is a return from BURST_SLEEP: PRELOAD_OUT for the inner slots (R112). -/
  wakePend : Bool := false
  /-- The start has still to reach REGULATING (R100). -/
  toReg : Bool := false
  /-- Consecutive outer evaluations in band (R102). -/
  regRun : Nat := 0
  /-- The group has been started, or AUTOSTART tried, since the cold start: it starts by itself no more (R99, R153). -/
  autoTried : Bool := false
  -- protection settings and state
  olCfg : Reg := 0x27105064
  otCfg : Reg := 0x30D42904
  protCfg : Reg := 0x03E80832
  ov : Int := 0
  uv : Int := 0
  vlimTime : Reg := 0x00640014
  heat : Nat := 0
  olWarn : Bool := false
  olDerate : Bool := false
  olTrip : Bool := false
  /-- Continuous overvoltage and undervoltage time in ns (R161). -/
  ovNs : Nat := 0
  uvNs : Nat := 0
  -- telemetry (R296)
  vSrc : Reg := 0
  iSrc : Reg := 0
  pSrc : Reg := 0
  /-- The sources in use in the present 1 ms window (R296). -/
  vUse : Reg := 0
  iUse : Reg := 0
  pUse : Reg := 0
  tv : Chan := {}
  ti : Chan := {}
  tp : Chan := {}
  tt : Chan := {}
  /-- P of the present frame period. -/
  pNow : Int := 0
  /-- A source of that P was stale. -/
  pStale : Bool := false
deriving DecidableEq, Repr

/-- What a ladder finding is about (R149). -/
inductive Subj where
  | cell (p : Nat)
  | group (g : Nat)
  | shelf
deriving DecidableEq, Repr

/-- A ladder level in effect on a subject, by detector code of Table 6-2. -/
structure Finding where
  subj : Subj
  code : Nat
  level : Nat
deriving DecidableEq, Repr

/-- The shelf part: bus command, burst, coolant, shelf output. -/
structure Shelf where
  /-- The configuration store was accepted at the last cold start (R96). -/
  storeOk : Bool := false
  /-- The calibration page in use is valid (R291). -/
  calOk : Bool := false
  ratingW : Nat := 0
  busVnom : Int := 0
  busVmin : Int := 0
  busVmax : Int := 0
  /-- PT_BUS_VSET and PT_BUS_SLEW as last written. -/
  vset : Reg := 0
  slewReg : Nat := 0x032
  target : Int := 0
  /-- Slew in force [mV/ms]. -/
  slew : Nat := 0x032
  vsetReject : Bool := false
  slewReject : Bool := false
  burstReject : Bool := false
  superseded : Bool := false
  leadUs : Nat := 2
  burstEnter : Nat := 0
  burstDwell : Nat := 10
  burstBand : Nat := 0x12C19064
  /-- The burst settings in use, taken from the registers at each 1 ms window (R114). -/
  useEnter : Nat := 0
  useDwell : Nat := 10
  useBand : Nat := 0x12C19064
  /-- Windows below BURST_ENTER in a row (R112). -/
  burstLow : Nat := 0
  /-- Windows left before burst may be entered again (R113). -/
  burstHold : Nat := 0
  findings : List Finding := []
  coolT : Reg := 0x1964157C
  coolCfg : Reg := 0x00190000
  coolSrc : List Reg := [0, 0, 0]
  coolFactor : Nat := 100
  coolHold : Bool := false
  /-- 100 ms updates since the factor last rose (R160). -/
  coolTick : Nat := 2
  flowLow : Bool := false
  protReject : Bool := false
  shelfQuench : Bool := false
  /-- 1 ms windows ended, for the 100 ms and 1 s windows of R294. -/
  windows : Nat := 0
  /-- Shelf output of the last 20 frame periods, newest first (R297). -/
  outHist : List Int := []
  /-- The grid group's P over the same periods (pg10 of R181). -/
  gridHist : List Int := []
  /-- Whether a source of each of the last two was stale. -/
  outStale : List Bool := []
  outTele : Chan := {}
  /-- 1 ms averages of the SLOT and XIN selectors that the estimator and the Planisher read (R172, R187). -/
  selTele : List (Nat × Chan) := []
  /-- Highest ladder level acted on in the present frame period (R301). -/
  ladderSeen : Nat := 0
deriving DecidableEq, Repr

def Port.isCell (p : Port) : Bool := p.kind == 1

/-- A port that counts as a retired member (R46, R82, R136). -/
def Port.out (p : Port) : Bool := p.retired || p.state == .lost || p.state == .failed || p.copyFailed

def Group.autostart (g : Group) : Bool := bitAt g.flags 0
def Group.burstEn (g : Group) : Bool := bitAt g.flags 1
def Group.refPct (g : Group) : Nat := bits g.olCfg.toNat 7 0
def Group.deratePct (g : Group) : Nat := bits g.olCfg.toNat 15 8
def Group.tauMs (g : Group) : Nat := bits g.olCfg.toNat 31 16
def Group.warnT (g : Group) : Int := (bits g.otCfg.toNat 15 0 : Nat)
def Group.shutT (g : Group) : Int := (bits g.otCfg.toNat 31 16 : Nat)
def Group.hyst (g : Group) : Int := (bits g.protCfg.toNat 31 16 : Nat)
def Group.sensePersist (g : Group) : Nat := bits g.protCfg.toNat 15 8
def Group.senseDev (g : Group) : Nat := bits g.protCfg.toNat 7 0
def Group.ovUs (g : Group) : Nat := bits g.vlimTime.toNat 15 0
def Group.uvUs (g : Group) : Nat := bits g.vlimTime.toNat 31 16
def Group.imbPctEff (g : Group) : Nat := if g.imbPct = 0 then 15 else g.imbPct
def Group.imbGateEff (g : Group) : Nat := if g.imbGate = 0 then 50 else g.imbGate
def Group.imbPersistEff (g : Group) : Nat := if g.imbPersist = 0 then 100 else g.imbPersist
def Shelf.burstHi (s : Shelf) : Int := (bits s.useBand 9 0 : Nat)
def Shelf.burstLo (s : Shelf) : Int := (bits s.useBand 19 10 : Nat)
def Shelf.burstExit (s : Shelf) : Int := (bits s.useBand 29 20 : Nat)

/-- Code of a port state (Table 5-20). -/
def PortState.code : PortState → Nat
  | .down => 0
  | .training => 1
  | .trained => 2
  | .lost => 3
  | .failed => 4

/-- Code of a group state (Table 4-6). -/
def GroupState.code : GroupState → Nat
  | .off => 0
  | .starting => 1
  | .regulating => 2
  | .burstRun => 3
  | .burstSleep => 4
  | .quenching => 5

/-- Cells of a group in this state run (Table 4-6). -/
def GroupState.runs : GroupState → Bool
  | .starting => true
  | .regulating => true
  | .burstRun => true
  | _ => false

end Sys2Proof.Machine
end

