-- ==== Sys2Proof/Machine/Units/Copy.lean ====
section
/-!
DEFINITION. The content of a state copy (R278, Table 11-4). Its layout in bytes is internal to the firmware; the copy is
held as the state it carries (assumption 22).
-/

namespace Sys2Proof.Machine

open Sys2Proof

/-- What a copy carries of a group: its state and the sequences still to end. -/
structure GroupCopy where
  state : GroupState := .off
  startPend : Bool := false
  wakePend : Bool := false
  toReg : Bool := false
  autoTried : Bool := false
deriving DecidableEq, Repr

/-- A state copy. -/
structure StateCopy where
  groups : List GroupCopy
  /-- Retired cells with their cause, and failed ones, by port. -/
  retired : List (Nat × Nat)
  failed : List Nat
  pl : Planisher
  gv : Governor
deriving DecidableEq, Repr

end Sys2Proof.Machine

namespace Sys2Proof

/-- The bytes of a copy, internal to the firmware (R278, assumption 22). -/
opaque Config.copyBytes : Machine.StateCopy → Bytes

end Sys2Proof
end

