-- ==== Sys2Proof/Syntax.lean ====
section
/-!
DEFINITION. The commands the block takes: one constructor per row of spec/opcode_table.json, in the table's order.
The table gives the rows no operands; each row's operands are what its rule says the event brings (assumption 1).
-/

namespace Sys2Proof

/-- A command of the block. -/
inductive Instr where
  /-- DEV_IDENTIFY (R365): Command that writes the 128-byte identity record into a host buffer. -/
  | devIdentify (h : CmdHdr) (buf : Buf)
  /-- DEV_CAPS (R365): Command that writes the 64-byte capabilities record into a host buffer. -/
  | devCaps (h : CmdHdr) (buf : Buf)
  /-- QUEUE_CREATE (R366): Command that creates command queue 1 to 3 and its completion queue. -/
  | queueCreate (h : CmdHdr) (qid vec coalCnt coalUs sqBase cqBase sqN cqN : Nat)
  /-- QUEUE_DELETE (R367): Command that stops fetching from a queue and deletes it once its commands in flight have completed. -/
  | queueDelete (h : CmdHdr) (qid : Nat)
  /-- LOOP_OPEN (R66): Command that opens a slot at its next scheduled evaluation. -/
  | loopOpen (h : CmdHdr) (slot : Nat)
  /-- LOOP_CLOSE (R70): Command that closes a slot with a preload mode at its next scheduled evaluation. -/
  | loopClose (h : CmdHdr) (slot preload : Nat) (value : Int)
  /-- LOOP_LOAD (R370): Command that checks all slot blocks and loads open slots whole at an evaluation boundary. -/
  | loopLoad (h : CmdHdr) (buf : Buf) (count : Nat)
  /-- LOOP_READ (R371): Command that copies the register blocks of slots to a host buffer between evaluations. -/
  | loopRead (h : CmdHdr) (buf : Buf) (first count : Nat)
  /-- LOOP_SCHEDULE (R83): Command that compiles a schedule table against the compile rules, computes fallbacks and accepts or refuses it. -/
  | loopSchedule (h : CmdHdr) (buf : Buf) (count : Nat)
  /-- GROUP_ENABLE (R100): Command that checks a group and starts it by pre-biased start, completing at REGULATING. -/
  | groupEnable (h : CmdHdr) (group : Nat)
  /-- GROUP_QUENCH (R103): Command that quenches a group and completes when the group is OFF. -/
  | groupQuench (h : CmdHdr) (group : Nat)
  /-- BUS_VSET (R110): Command that sets the bus target and slew for every bus group. -/
  | busVset (h : CmdHdr) (vset : Int) (slew : Nat)
  /-- CELL_RETIRE (R106): Command that retires a cell and completes when its bridge reports stopped. -/
  | cellRetire (h : CmdHdr) (port : Nat)
  /-- CELL_RESTORE (R107): Command that restores a retired cell into its group, optionally writing CLEAR_FAULT first. -/
  | cellRestore (h : CmdHdr) (port : Nat) (clear : Bool)
  /-- STORE_MODE (R169): Command that sets the Planisher storage mode from the next fast step. -/
  | storeMode (h : CmdHdr) (mode : Nat)
  /-- PLAN_LIMITS (R171): Command that replaces the shelf part of the Planisher limits at the next slow step. -/
  | planLimits (h : CmdHdr) (buf : Buf)
  /-- PLAN_LOAD (R207): Command that accepts a power plan, enters LOADING and writes the Profile Table. -/
  | planLoad (h : CmdHdr) (buf : Buf) (count binExp actMode weight timeoutMs : Nat) (actTime : Int)
  /-- PROFILE_START (R211): PROFILE_CTRL action START: begins learning in SEARCH with the given parameters. -/
  | profileStart (h : CmdHdr) (set : PfSet)
  /-- PROFILE_STOP (R211): PROFILE_CTRL action STOP: enters IDLE and keeps the table. -/
  | profileStop (h : CmdHdr)
  /-- PROFILE_CLEAR (R211): PROFILE_CTRL action CLEAR: empties the table and anchors and enters SEARCH when learning is on. -/
  | profileClear (h : CmdHdr)
  /-- PROFILE_SET (R211): PROFILE_CTRL action SET: changes the learning parameters and keeps the state. -/
  | profileSet (h : CmdHdr) (set : PfSet)
  /-- BUDGET_SET (R219): Command that sets a rack budget, passed to the lead and completed on adoption outcome. -/
  | budgetSet (h : CmdHdr) (budgetW : Int) (validMs : Nat)
  /-- GOV_MODE (R233): Command that sets the governor timing or power-knowledge mode through the lead. -/
  | govMode (h : CmdHdr) (setting value : Nat)
  /-- GRANT_MODE (R233): Command that sets the governor allocation mode through the lead. -/
  | grantMode (h : CmdHdr) (value : Nat)
  /-- KEY_LOAD (R379): Command that loads a rack or row Gulene key as current or next key. -/
  | keyLoad (h : CmdHdr) (buf : Buf)
  /-- CAPTURE_ARM (R303): CAPTURE_ARM action ARM: takes the channel and trigger tables and enters ARMED. -/
  | captureArm (h : CmdHdr) (buf : Buf) (count : Nat)
  /-- CAPTURE_TRIGGER (R303): CAPTURE_ARM action TRIGGER: makes the present frame period the trigger frame. -/
  | captureTrigger (h : CmdHdr)
  /-- CAPTURE_FREEZE (R303): CAPTURE_ARM action FREEZE: stops every channel and enters FROZEN. -/
  | captureFreeze (h : CmdHdr)
  /-- CAPTURE_RELEASE (R303): CAPTURE_ARM action RELEASE: returns the Crucible to IDLE. -/
  | captureRelease (h : CmdHdr)
  /-- CAPTURE_READ (R304): Command that copies held samples of one capture channel to host memory. -/
  | captureRead (h : CmdHdr) (buf : Buf) (channel start count : Nat)
  /-- LOG_READ (R319): Command that copies event records from the flash log or ring, optionally after a flush. -/
  | logRead (h : CmdHdr) (buf : Buf) (source flush start count : Nat)
  /-- LOG_CLEAR (R320): Command that checks an owner authorisation and erases the flash log. -/
  | logClear (h : CmdHdr) (buf : Buf)
  /-- CAL_READ (R292): Command that copies the calibration page to a host buffer. -/
  | calRead (h : CmdHdr) (buf : Buf)
  /-- CAL_WRITE (R292): Command that erases, writes and reads back the calibration page. -/
  | calWrite (h : CmdHdr) (buf : Buf)
  /-- ASSAY (R384): Command that runs all 32 known-answer vectors in the named pipelines. -/
  | assay (h : CmdHdr) (mask : Nat)
  /-- IMAGE_STAGE (R385): Command that copies a firmware image to DRAM staging and verifies its hallmark. -/
  | imageStage (h : CmdHdr) (buf : Buf)
  /-- IMAGE_COMMIT (R386): Command that re-verifies the staged image and writes it to the flash image area. -/
  | imageCommit (h : CmdHdr) (activate : Nat)
  /-- IMAGE_ACTIVATE (R386): WARM reset begun at most 1 ms after an IMAGE_COMMIT with ACTIVATE 1 completes. -/
  | imageActivate
  /-- RESET (R387): Command that records a RESET event and asserts a COLD, WARM or HOST reset. -/
  | reset (h : CmdHdr) (scope : Nat)
  /-- BLOCK_RESET (R397): RESET command of scope BLOCK that checks and resets one idle block. -/
  | blockReset (h : CmdHdr) (block : Nat)
  /-- TIME_SET (R388): Command that sets PTP role and domain and optionally the timer. -/
  | timeSet (h : CmdHdr) (role domain : Nat) (setTime : Bool) (timeNs : Int)
  /-- TAKEOVER (R286): Command that starts a planned handover of ownership between the modules of a pair. -/
  | takeover (h : CmdHdr)
  /-- TAKEOVER_FORCE (R287): TAKEOVER with FORCE: a standby takes over at once. -/
  | takeoverForce (h : CmdHdr)
  /-- COMMAND_FETCH (R335): Module fetches fetchable entries from a command queue, reserving completion entries. -/
  | commandFetch
  /-- SQ_TAIL (R332): Host write of a command queue tail doorbell. -/
  | sqTail (q : Nat) (data : Reg)
  /-- CQ_HEAD (R332): Host write of a completion queue head doorbell, freeing completion entries. -/
  | cqHead (q : Nat) (data : Reg)
  /-- EQ_HEAD (R332): Host write of the event queue head doorbell, freeing event entries. -/
  | eqHead (data : Reg)
  /-- BOOTSTRAP_ENABLE (R333): Write of ENABLE 1 to HQ_BOOT_CTRL that checks and creates queue 0, its completion queue and the event queue. -/
  | bootstrapEnable
  /-- BOOTSTRAP_DISABLE (R334): Write of ENABLE 0 to HQ_BOOT_CTRL that deletes every queue. -/
  | bootstrapDisable
  /-- LEDGER_DELIVERY (R361): Writing of reset-ledger completions into completion queue 0 as entries free. -/
  | ledgerDelivery
  /-- MSIX_COALESCE_TIMEOUT (R342): Expiry of COAL_US for the oldest unsignalled entry, sending the queue's MSI-X message. -/
  | msixCoalesceTimeout (q : Nat)
  /-- CQ_STALL (R344): A completion queue has had no free unreserved entry for 10 ms. -/
  | cqStall (q : Nat)
  /-- EQ_STALL (R344): The event queue has been full for 10 ms. -/
  | eqStall
  /-- DMA_ERR (R346): A module request to host memory fails, faulting the queue or completing the command. -/
  | dmaErr (target : DmaTarget) (fail : DmaFail)
  /-- BAD_ACCESS (R328): A BAR0 or BAR2 access that is not a whole aligned dword or qword is refused and counted. -/
  | badAccess (read : Bool) (addr : Nat)
  /-- BAR4_ACCESS (R329): Host access to BAR4: Crucible ring reads, host DMA region access, writes outside dropped. -/
  | bar4Access (write : Bool) (off n : Nat) (data : Bytes)
  /-- REGISTER_WRITE (R15): Host write to a register without behaviour of its own, acting by its access type. -/
  | registerWrite (addr : Nat) (data : Reg) (high : Option Reg)
  /-- W1C_WRITE (R16): Host write of 1 to a W1C bit clearing it unless an event sets it in the same cycle. -/
  | w1cWrite (addr : Nat) (data kept : Reg)
  /-- LO_READ (R64): Read of a _LO register that latches the matching _HI word into a shadow. -/
  | loRead (addr : Nat) (whole : Bool)
  /-- LE_TAPER_FRAC (R91): Read of LE_TAPER_FRAC that latches the integer Taper position. -/
  | leTaperFrac (slot : Nat)
  /-- PROFILE_TABLE_READ (R213): Read of the Profile Table window; a low-word read latches the high word. -/
  | profileTableRead (off : Nat) (wide : Bool)
  /-- TM_MIN (R295): Read of TM_MIN that returns the held minimum and re-arms the hold. -/
  | tmMin (sig : Sig)
  /-- TM_MAX (R295): Read of TM_MAX that returns the held maximum and re-arms the hold. -/
  | tmMax (sig : Sig)
  /-- PT_BUS_VSET (R111): Write of the bus target register, queued to the sequencer and superseding earlier changes. -/
  | ptBusVset (data : Reg)
  /-- PT_BUS_SLEW (R111): Write of the bus slew register, changing the slew in progress. -/
  | ptBusSlew (data : Reg)
  /-- PT_FF_CFG (R116): Write of the forecast lead, effective at the next forecast write. -/
  | ptFfCfg (data : Reg)
  /-- PT_BURST_ENTER (R114): Write of BURST_ENTER, checked and effective at the next 1 ms window. -/
  | ptBurstEnter (data : Reg)
  /-- PT_BURST_DWELL (R114): Write of BURST_DWELL, checked and effective at the next 1 ms window. -/
  | ptBurstDwell (data : Reg)
  /-- PT_BURST_BAND (R114): Write of BURST_HI, BURST_LO and BURST_EXIT, checked and effective at the next 1 ms window. -/
  | ptBurstBand (data : Reg)
  /-- PROT_REGISTER_WRITE (R167): Write of a protection RW register, checked whole and effective at the detector's next update. -/
  | protRegisterWrite (addr : Nat) (data : Reg)
  /-- TM_GRP_SRC_WRITE (R296): Write of a group telemetry source register, effective at the next window. -/
  | tmGrpSrcWrite (group which : Nat) (data : Reg)
  /-- EV_CFG (R314): Write of the event-queue severity filter. -/
  | evCfg (data : Reg)
  /-- RC_PWR_CFG (R411): Write of the Quiet settings; QUIET_EN 0 makes the module leave Quiet. -/
  | rcPwrCfg (data : Reg)
  /-- SE_RCV_LOAD (R427): Write of LOAD to SE_RCV_CTRL in the recovery loader, starting verification and writing of the image. -/
  | seRcvLoad
  /-- SE_RCV_RETRY (R427): Write of RETRY to SE_RCV_CTRL that clears BKUP[0] and begins a COLD reset. -/
  | seRcvRetry
  /-- SE_RCV_RESTART (R427): Write of RESTART to SE_RCV_CTRL in DONE or REFUSED that begins a COLD reset. -/
  | seRcvRestart
  /-- RECOVERY_WRITE_DONE (R427): Completion of recovery verification and image write, entering DONE or REFUSED. -/
  | recoveryWriteDone (good : Bool)
  /-- SLOT_EVALUATION (R58): A scheduled evaluation of a closed slot in its pipeline window. -/
  | slotEvaluation (slot : Nat) (parity : Bool)
  /-- FE_TRIP (R75): The following-error counter reaches FE_COUNT and passes the destination to the fault ladder. -/
  | feTrip (slot : Nat)
  /-- OPEN_TRIP (R76): A slot's open time exceeds OPEN_MAX and passes the destination to the fault ladder. -/
  | openTrip (slot : Nat)
  /-- SCHEDULE_SWITCH (R84): An accepted schedule table replaces the table in force at a frame-period boundary. -/
  | scheduleSwitch
  /-- ASSAY_EVALUATION (R87): One known-answer vector run in a free window of a pipeline and compared. -/
  | assayEvaluation (pipe : Nat) (mismatch : Bool)
  /-- FALLBACK_SWITCH (R88): Switch to the fallback placement at the next frame boundary after a pipeline fails. -/
  | fallbackSwitch
  /-- FAST_DN (R123): Launch of a port's downstream fast frame at its launch cycle each frame period. -/
  | fastDn (port : Nat)
  /-- FAST_UP (R126): Receipt of an upstream fast frame: CRC check, lane conversion and deposit or stale marking. -/
  | fastUp (port : Nat) (frame : Option FastFrame)
  /-- BLOCK_LOCK_LOST (R121): A receiver loses block lock on a port, making the port LOST. -/
  | blockLockLost (rx : PortHeads)
  /-- PORT_LOST (R143): A cell port becomes LOST after 8 bad periods or 8 OBEYS = 0 frames, and its cell is passed to the ladder. -/
  | portLost (port : Nat)
  /-- PORT_RETRAIN (R143): Retraining of a LOST port, at most 3 times in 10 s. -/
  | portRetrain (port : Nat)
  /-- DEGRADED (R144): End of a 1 s link window that sets or clears a port's DEGRADED state. -/
  | degraded (port margin : Nat)
  /-- SVC_DN (R132): Sending of a service request to a bridge in a downstream service slot. -/
  | svcDn (port : Nat)
  /-- SVC_RESPONSE (R130): Receipt of a READ_RESP or WRITE_ACK service response from a bridge. -/
  | svcResponse (port : Nat) (frame : SvcFrame)
  /-- SVC_TIMEOUT (R132): No response in 4 periods: resend, or TIMEOUT after the third send. -/
  | svcTimeout (port tag : Nat)
  /-- HELD (R130): Receipt of a HELD report of a command field held by the bridge. -/
  | held (port : Nat) (frame : SvcFrame)
  /-- STATUS (R130): Receipt of a STATUS report of bridge temperatures and BR_FAULT. -/
  | status (port : Nat) (frame : SvcFrame)
  /-- PORT_TRAINED (R135): Completion of port training and discovery, marking the port TRAINED. -/
  | portTrained (port : Nat) (found : Training)
  /-- TRAINING_TIMEOUT (R136): A port not TRAINED 2 ms after training began is retried or FAILED. -/
  | trainingTimeout (port step : Nat)
  /-- AUTOSTART (R99): Start of AUTOSTART groups in START_ORDER once lower orders have settled. -/
  | autostart
  /-- PRE_BIASED_START (R101): Closing of a group's slots with pre-bias in the first frame period in which both fire. -/
  | preBiasedStart (group : Nat)
  /-- REGULATION_REACHED (R102): REG_COUNT consecutive outer evaluations within band move a group to REGULATING. -/
  | regulationReached (group : Nat)
  /-- START_TIMEOUT (R100): A group has not reached REGULATING within START_MAX_MS and is quenched. -/
  | startTimeout (group : Nat)
  /-- QUENCH_TIMEOUT (R103): 10 µs after a quench began, the group is set OFF. -/
  | quenchTimeout (group : Nat)
  /-- RETIRE_TIMEOUT (R374): No stopped report within 1 ms of CELL_RETIRE; the command completes TIMEOUT. -/
  | retireTimeout (port : Nat)
  /-- RESTORE_SR_STEP (R107): 1 ms after a restore, the cell receives its group's SR_DE and the restore completes. -/
  | restoreSrStep (port : Nat)
  /-- BURST_ENTER (R112): Bus groups enter BURST_RUN after output stays below BURST_ENTER for BURST_DWELL. -/
  | burstEnter
  /-- MS_WINDOW (R294): End of a 1 ms telemetry window updating averages and the 1 ms protection detectors. -/
  | msWindow
  /-- IMBALANCE (R115): IMB_PERSIST deviating windows flag a cell's current imbalance. -/
  | imbalance (port : Nat)
  /-- SENSE_FINDING (R162): SENSE_PERSIST deviating windows give a level 3 OPEN or SENSE finding on a cell. -/
  | senseFinding (port : Nat)
  /-- COOLANT_UPDATE (R160): 100 ms coolant factor update from outlet temperature, and flow check. -/
  | coolantUpdate
  /-- VOLTAGE_LIMIT_TRIP (R161): A voltage above OV for OV_US or below UV for UV_US gives the group-type finding. -/
  | voltageLimitTrip (group : Nat)
  /-- ESTIMATOR_UPDATE (R172): 1 ms update of each storage string's energy E. -/
  | estimatorUpdate
  /-- FAST_STEP (R181): Planisher 10 µs step updating G and writing storage power set-points. `parity`: the entry the forecast
  port reads for it has a parity error. -/
  | fastStep (parity : Bool := false)
  /-- RIDE_EXIT (R188): Grid input in range for RIDE_EXIT_MS ends ride-through and seeds G. -/
  | rideExit
  /-- SLOW_STEP (R177): Planisher 1 ms step: grid target request, SoC, requests, fill offer. -/
  | slowStep
  /-- FC_HOLD_END (R176): End of the FC_HOLD_MS forecast hold-off. -/
  | fcHoldEnd
  /-- ABSENCE_DETECT (R185): No Planisher write for 50 µs sets ABSENT. -/
  | absenceDetect
  /-- ABSENCE_DECAY (R185): 1 ms decay of each storage set-point toward 0 W while ABSENT. -/
  | absenceDecay
  /-- PEER_SILENT (R191): A peer's LANTERN missing for 3 ms is taken as a step of its last grid draw. -/
  | peerSilent (peer : Nat)
  /-- PROFILE_SAMPLE (R199): Profile Engine intake of one 1 µs shelf output sample. -/
  | profileSample (parity : Bool)
  /-- LOCK_LOST (R203): Loss of lock after LOSS_MS low-skill windows or three limited periods, entering COAST. -/
  | lockLost
  /-- COAST_TIMEOUT (R198): COAST_MAX_S in COAST clears the table and enters SEARCH. -/
  | coastTimeout
  /-- WICK_NOTICE (R205): Handling of a WICK notice passed by the governor to the Profile Engine. -/
  | wickNotice (tag : Nat) (tw delta : Int) (durUs : Nat)
  /-- WICK_APPLY (R206): Application of a notice whose T_w was in the future at T_w. -/
  | wickApply
  /-- PLAN_WRITTEN (R208): End of plan writing, activating a NOW plan. -/
  | planWritten
  /-- PLAN_ACTIVATE_AT_TIME (R208): Activation of an AT_TIME plan at its PTP time. -/
  | planActivateAtTime
  /-- PLAN_ACT_TIMEOUT (R376): A plan not activated within ACT_TIMEOUT_MS times out and the engine enters SEARCH. -/
  | planActTimeout
  /-- FORECAST_WRITE (R210): Write of the forecast into LE_XIN_VAL[0] at cycle 0 of every frame period. -/
  | forecastWrite (parity : Bool)
  /-- GOVERNOR_STEP (R229): Lead's 1 ms step computing pool, caps, floors, shares and escalation. -/
  | governorStep
  /-- LEAD_CLAIM (R217): 2 ms after its ELECT, unopposed, a module becomes lead and re-issues grants. -/
  | leadClaim
  /-- EPOCH (R37): A deterministic epoch at which grants are computed from the sorted input set. -/
  | epoch
  /-- GRANT_RELEASE (R37): Release of an epoch's grants at E + 300 µs by the PTP timer. -/
  | grantRelease
  /-- BUDGET_TIMEOUT (R219): No SHARE shows a request adopted within 10 ms; the command completes TIMEOUT. -/
  | budgetTimeout (req : Nat)
  /-- BUDGET_REQ_REPEAT (R263): Repeat of a BUDGET_REQ or MODE_REQ every 2 ms until SHARE shows it. -/
  | budgetReqRepeat (req : Nat)
  /-- BUDGET_EXPIRY (R223): End of a budget's validity sets HOST_ABSENT and starts the absent-host ramp. -/
  | budgetExpiry
  /-- ENDPOINT_STALE (R225): An endpoint's REPORT missing for 10 × REPORT_US makes it STALE. -/
  | endpointStale (endpoint : Nat)
  /-- ENDPOINT_DEREGISTER (R225): An endpoint silent for 1 s is deregistered. -/
  | endpointDeregister (endpoint : Nat)
  /-- BARRIER_TIMEOUT (R231): A barrier is taken as complete 100 ms after its first arrival. -/
  | barrierTimeout (tag : Nat)
  /-- CAL_FIT_UPDATE (R237): End-of-second update of each endpoint's calibration gain and offset. -/
  | calFitUpdate
  /-- GULENE_DRAIN (R267): Governor drain of the Gulene receive queue at least every 100 µs. -/
  | guleneDrain
  /-- WICK (R231): Receipt of a WICK notice from an endpoint. -/
  | wick (m : GnMsg)
  /-- REPORT (R224): Receipt of an endpoint REPORT, with or without registration. -/
  | report (m : GnMsg)
  /-- LANTERN (R191): Receipt of a peer's LANTERN frame. -/
  | lantern (m : GnMsg)
  /-- BUDGET (R263): Receipt of a BUDGET message: request, mode request or shares. -/
  | budget (m : GnMsg)
  /-- ELECT_RECEIVED (R217): Receipt of an ELECT lead claim. -/
  | electReceived (m : GnMsg)
  /-- SHARE_RECEIVED (R264): Receipt of a SHARE segment, taking a complete set into use. -/
  | shareReceived (m : GnMsg)
  /-- ALERT (R265): Receipt of an ALERT, including a host RESET_REQUEST. -/
  | alert (m : GnMsg)
  /-- GRANT_RECEIVED (R266): A received GRANT is discarded and counted MALFORMED. -/
  | grantReceived
  /-- BUCKET_REFILL (R266): 1 ms refill of the receive rate token buckets. -/
  | bucketRefill
  /-- REPLAY_RECORD_EXPIRY (R261): A replay record that has received nothing for 1 s is discarded. -/
  | replayRecordExpiry (rack sender : Nat)
  /-- KEY_ACTIVATE (R259): At a next key's activation time it becomes current. -/
  | keyActivate (row : Bool)
  /-- OLD_KEY_EXPIRY (R259): 60 s after a switch the old key is no longer accepted. -/
  | oldKeyExpiry (row : Bool)
  /-- ISOLATED (R269): Link down or 3 ms without a rack LANTERN isolates the module. -/
  | isolated
  /-- ETHERNET_LINK (R248): Ethernet link up or down with auto-negotiation. `offer`: the modes of Table 10-1 the link partner
  offers; none: no signal. -/
  | ethernetLink (offer : List Nat)
  /-- NEG_FAIL (R248): Retry of failed negotiation every 1 s. -/
  | negFail
  /-- PTP_SYNC (R255): Receipt of a PTP Sync, steering the timer and gaining or losing lock on offsets. -/
  | ptpSync (sync : PtpHead) (origin : Int)
  /-- PTP_SYNC_TIMEOUT (R255): No Sync for 2 s loses lock and starts holdover. -/
  | ptpSyncTimeout
  /-- PTP_SYNC_SEND (R256): Sending of Sync every 2^-4 s as the rack's time transmitter. -/
  | ptpSyncSend
  /-- TETHER_FAST (R277): Receipt of a TETHER_FAST frame carrying heartbeat, role and readiness. -/
  | tetherFast (frame : Option FastFrame) (alignErr : Int)
  /-- TETHER_FAST_SEND (R275): Sending of a TETHER_FAST frame each tether period. -/
  | tetherFastSend
  /-- ROLE_DECISION (R272): Decision of the module role within 500 ms of tether release. -/
  | roleDecision
  /-- PARTNER_LOST (R277): Eight missed heartbeats declare PARTNER_LOST; an armed standby takes over. -/
  | partnerLost
  /-- PARTNER_REPLACE (R277): Heartbeats absent for 10 s raise a replacement request. -/
  | partnerReplace
  /-- STATE_COPY_SEND (R278): Active sends one state copy in TETHER_BULK frames every 1 ms. -/
  | stateCopySend
  /-- TETHER_BULK (R278): Receipt of a state copy chunk; a complete copy is applied. -/
  | tetherBulk (syncs : List Nat) (type hdr : Nat) (data : Bytes) (crc : Nat) (copy : Option Machine.StateCopy)
  /-- TAKEOVER_PORT_CHECK (R284): 8 periods after takeover, ports still obeying an older epoch are LOST. -/
  | takeoverPortCheck
  /-- HANDOVER_FAIL (R286): A port not reporting the new epoch within 8 periods makes the old active reclaim. -/
  | handoverFail
  /-- TAKEOVER_TIMEOUT (R287): A planned takeover not ended within 10 ms completes TIMEOUT. -/
  | takeoverTimeout
  /-- CAPTURE_SAMPLE (R299): Crucible writing of channel samples and trigger test each frame period. -/
  | captureSample
  /-- CAPTURE_FROZEN (R302): Every channel has written its post-trigger samples and the Crucible is FROZEN. -/
  | captureFrozen
  /-- FLUSH (R316): Start of a flush of unflushed ring records and the counter journal to flash. -/
  | flush
  /-- FLUSH_END (R316): End of a flush, starting a queued flush if any. -/
  | flushEnd
  /-- LOG_CLEAR_DONE (R320): End of the log erase, clearing counters and writing LOG_CLEARED. -/
  | logClearDone
  /-- OP_TIME_TICK (R313): 1 ms step of the operating-time counter. -/
  | opTimeTick (die : Int) (vinMain vinAux : Nat)
  /-- POWER_ON (R394): VIN_MAIN and VIN_AUX rise with the retained domain invalid: COLD reset of source 0. -/
  | powerOn
  /-- RESET_N (R394): RESET_N held low for at least 1 µs: COLD reset. -/
  | resetN (lowNs : Nat) (high : Bool)
  /-- STEWARD_WATCHDOG (R394): Steward watchdog not serviced for 250 ms: COLD reset. -/
  | stewardWatchdog
  /-- LOOP_WATCHDOG (R394): Frame counter stall or missed scheduled start: COLD reset. -/
  | loopWatchdog
  /-- PCIE_RESET (R345): PCIe hot reset, link down, FLR or D3hot to D0: HOST reset. -/
  | pcieReset
  /-- PF_WARN (R406): PF_WARN_N assertion: record, flush and Crucible trigger. -/
  | pfWarn (asserted : Bool)
  /-- VIN_MAIN_LOSS (R406): VIN_MAIN below 10.8 V holds all domains but the retained in reset: Aux-only. -/
  | vinMainLoss
  /-- VIN_MAIN_RETURN (R439): VIN_MAIN above 11.2 V for 10 ms with the retained domain valid: COLD reset of source 7. -/
  | vinMainReturn
  /-- RETAINED_LOSS (R439): Both supplies low lose the retained domain: full power loss. -/
  | retainedLoss (deep : Bool)
  /-- RELEASE_STEP (R398): Release of a step's domains once their clocks have held good through the gap. -/
  | releaseStep (block : Bool) (fault : Option Nat)
  /-- RELEASE_RETRY (R398): 100 ms after a clock fault in release, the sequence runs again. -/
  | releaseRetry (block : Bool)
  /-- RC_CLOCK_FAULT (R393): A released domain's clock becomes not good and is held with the table action. -/
  | rcClockFault (domain : Nat)
  /-- COLD_START (R401): Firmware cold start steps from fuse load to governor start. -/
  | coldStart (step : Nat) (ues : List (Nat × Nat))
  /-- WARM_START (R401): Firmware warm start steps with checkpoint restore. -/
  | warmStart (step : Nat)
  /-- CHECKPOINT_WRITE (R402): Governor cores write their state to DRAM every 1 ms. -/
  | checkpointWrite
  /-- FAILED_START_CLEAR (R404): 60 s in RUN clears the failed cold start count. -/
  | failedStartClear
  /-- SVN_RAISE (R417): 60 s in RUN raises the security version counter to an ADVANCE_SVN image's version. -/
  | svnRaise
  /-- QUIET_ENTER (R405): Entry into Quiet after every group has been OFF for QUIET_DWELL_S. -/
  | quietEnter
  /-- THERMAL_TRIP (R450): Junction at 120 °C opens the main rail switch. -/
  | thermalTrip
  /-- THERMAL_RETURN (R450): Junction below 100 °C after a trip: COLD reset of source 7. -/
  | thermalReturn
  /-- SNUFF_SENSE (R441): Filtered change on SNUFF_SENSE after 1 µs. -/
  | snuffSense (asserted : Bool)
  /-- PPS_IN (R443): Rising edge on PPS_IN captured as PTP time. -/
  | ppsIn
  /-- PPS_OUT (R443): PPS_OUT pulse at each whole PTP second. -/
  | ppsOut (rise : Bool)
  /-- SMBUS_READ_BYTE (R445): SMBus Read Byte command answered by the target. -/
  | smbusReadByte (cmd : Nat)
  /-- SMBUS_ALERT_RESPONSE (R445): SMBus Alert Response releasing SMB_ALERT_N after a request clears. -/
  | smbusAlertResponse
  /-- GET_VERSION (R429): SPDM GET_VERSION request on DOE. -/
  | getVersion
  /-- GET_CAPABILITIES (R429): SPDM GET_CAPABILITIES request on DOE. -/
  | getCapabilities
  /-- NEGOTIATE_ALGORITHMS (R429): SPDM NEGOTIATE_ALGORITHMS request on DOE. -/
  | negotiateAlgorithms (pss3072 sha256 dmtf : Bool)
  /-- GET_DIGESTS (R429): SPDM GET_DIGESTS request on DOE. -/
  | getDigests
  /-- GET_CERTIFICATE (R429): SPDM GET_CERTIFICATE request for the slot 0 chain. -/
  | getCertificate (slot off len : Nat)
  /-- CHALLENGE (R429): SPDM CHALLENGE request signed with the device key. -/
  | challenge (slot summary : Nat)
  /-- GET_MEASUREMENTS (R430): SPDM GET_MEASUREMENTS request returning the measurement blocks. -/
  | getMeasurements (index : Nat) (signed : Bool)
  /-- CAL_WRITE_DONE (R292): End of the calibration page erase, write and read-back, completing CAL_WRITE OK or TIMEOUT. -/
  | calWriteDone (good : Bool)
  /-- IMAGE_STAGE_DONE (R385): End of copying and hallmark verification of a staged image, completing IMAGE_STAGE. -/
  | imageStageDone
  /-- IMAGE_COMMIT_DONE (R422): End of the image area erase, write and read-back, completing IMAGE_COMMIT and setting IMAGE_CHANGED or leaving the area invalid. -/
  | imageCommitDone (good : Bool)
  /-- PCIE_LINK_UP (R325): The PCIe link finishes training and the host interface becomes reachable. -/
  | pcieLinkUp (speed width : Nat) (flit busMaster msixEnable : Bool)
  /-- TETHER_TRAIN (R274): Receipt of tether TRAIN blocks from a partner starting up, answered by the running module with its caps and delay exchanges. -/
  | tetherTrain (hdr : Nat) (heads trips : List Nat) (serial : Bytes)
  /-- ANNOUNCE (R256): Receipt of a PTP Announce message used for time transmitter selection. -/
  | announce (a : Announced)
  /-- DELAY_RESP (R254): Receipt of a PTP Delay_Resp completing the delay request-response measurement. -/
  | delayResp (received : Int)
  /-- DELAY_REQ (R254): Receipt of a PTP Delay_Req answered while the module is rack time transmitter. -/
  | delayReq
  /-- NEIGHBOUR_DISCOVERY (R249): Receipt of an ICMPv6 neighbour discovery, ARP or echo request, answered by the module. -/
  | neighbourDiscovery (r : NetReq)
  /-- DHCP_REPLY (R249): Receipt of a DHCP reply assigning the IPv4 address shown in GN_IPV4. -/
  | dhcpReply (addr : Nat)
  /-- MALFORMED_DATAGRAM (R260): Receipt of a datagram or IP fragment that fails checks 1 or 2 and is discarded and counted. -/
  | malformedDatagram
  /-- DRAM_ERROR (R322): Detection of a correctable or uncorrectable DRAM ECC error, counted and raising a replacement request. -/
  | dramError (ue : Bool) (channel addr : Nat) (ringWord : Option Nat)
  /-- DRAM_CE_WINDOW (R322): End of a 1 h window of correctable DRAM error counting, raising or clearing cause 1. -/
  | dramCeWindow
  /-- SERDES_MARGIN (R322): End of the 60 s PCIe or Ethernet margin average or its 1 h recovery period, raising or clearing cause 4. -/
  | serdesMargin (link margin : Nat) (hour : Bool)
  /-- TEMP_HIGH (R450): Die temperature crossing 105 °C up or 100 °C down, setting or clearing TEMP_HIGH. -/
  | tempHigh (up : Bool)
  /-- JTAG_ACCESS (R431): A JTAG TAP operation answered with IDCODE or BYPASS only. -/
  | jtagAccess (ir : Nat)
deriving DecidableEq, Repr

end Sys2Proof
end

