-- ==== Sys2Proof/Decode.lean ====
section
/-!
DEFINITION. The commands a table word spells. spec/opcode_table.json gives no row any bits: the block's commands are
packets, register accesses, frames and events, and no word of bits selects one of them.
-/

namespace Sys2Proof

/-- No row of the table has bits, so no word spells a command. -/
def decodeTableWord (_nbits _w : Nat) : Option Instr := none

end Sys2Proof
end

