-- ==== Sys2Proof/Machine/Crc.lean ====
section
/-!
DEFINITION. The two checks on stored and transmitted bytes: CRC-32C (R309) and the frame CRC-16 (R127).
-/

namespace Sys2Proof.Machine

open Sys2Proof

/-- k reflected steps of CRC-32C, polynomial 0x82F6_3B78 (R309). -/
def crc32cShift : Nat → Nat → Nat
  | 0, c => c
  | k + 1, c => crc32cShift k (if c % 2 = 1 then Nat.xor (c / 2) 0x82F63B78 else c / 2)

/-- CRC-32C of a byte string (R309). -/
def crc32c (l : Bytes) : Nat :=
  Nat.xor (l.foldl (fun c b => crc32cShift 8 (Nat.xor c b.toNat)) 0xFFFFFFFF) 0xFFFFFFFF

/-- k steps of CRC-16, polynomial 0x1021, most significant bit first (R127). -/
def crc16Shift : Nat → Nat → Nat
  | 0, c => c
  | k + 1, c => crc16Shift k ((if c ≥ 0x8000 then Nat.xor (c * 2) 0x1021 else c * 2) % 0x10000)

/-- Frame CRC of a byte string (R127). -/
def crc16 (l : Bytes) : Nat :=
  l.foldl (fun c b => crc16Shift 8 (Nat.xor c (b.toNat * 256))) 0xFFFF

end Sys2Proof.Machine
end

