-- ==== Sys2Proof/Config.lean ====
section
/-!
DEFINITION. Values the spec leaves open, as constants without a body: nothing can be proved of their values.
-/

namespace Sys2Proof

/-- A free bit: of the n-th open choice the machine meets. -/
opaque Config.freeBit : Nat → Bool

/-- A free number: of the n-th open choice the machine meets. -/
opaque Config.freeNat : Nat → Nat

/-- A free byte string of n bytes: of the k-th open choice. -/
opaque Config.freeByte : Nat → Nat → Byte

/-- Fraction bits to which g_i and o_i of R237 are held, whose width the spec does not state. -/
opaque Config.calFracBits : Nat

/-- Fraction bits to which the Profile Engine holds the real numbers of R200, R201 and R209, whose width the spec does
not state. -/
opaque Config.profileFracBits : Nat

/-- The Hyeward root certificate, which the chain of slot 0 begins with and the module does not hold in its certificate
area (R428, Table 18-6). -/
opaque Config.rootCert : Bytes

/-- Phase of the LEDs' blinking against the root's count, and start of the second flash of the recovery pattern after the
first [ns], which R399 and R323 leave open. -/
opaque Config.blinkPhase : Nat
opaque Config.flashGap : Nat

/-- Hardware revision of the controller die, which R326 does not give (assumption 112). -/
opaque Config.dieRevision : BitVec 8

/-- Hyeward's organisationally unique identifier, which R248 does not give (assumption 112). -/
opaque Config.hyewardOui : BitVec 24

end Sys2Proof
end

