-- ==== Sys2Proof/Machine/Units/Clock.lean ====
section
/-!
DEFINITION. Part, time and role: the capability sizes (Table 0-2), the clocks the rows are timed by, and the module's
role and ownership epoch (chapters 0, 10, 11).
-/

namespace Sys2Proof.Machine

open Sys2Proof

/-- Base part (R8, R10). -/
inductive Part where
  | csm480
  | csm240
deriving DecidableEq, Repr

def Part.ports : Part → Nat
  | .csm480 => 80
  | .csm240 => 40

def Part.slots : Part → Nat
  | .csm480 => 128
  | .csm240 => 64

def Part.pipes : Part → Nat
  | .csm480 => 4
  | .csm240 => 2

def Part.captureChannels : Part → Nat
  | .csm480 => 256
  | .csm240 => 128

def Part.profileEntries : Part → Nat
  | .csm480 => 524288
  | .csm240 => 262144

def Part.ringGib : Part → Nat
  | .csm480 => 40
  | .csm240 => 20

def Part.clockDomains : Part → Nat
  | .csm480 => 40
  | .csm240 => 30

/-- State of the PTP timer (R255, R311). -/
inductive PtpState where
  | free
  | set
  | lock
  | holdover
deriving DecidableEq, Repr

/-- TIME_SRC of R311. -/
def PtpState.src : PtpState → Nat
  | .free => 0
  | .lock => 1
  | .holdover => 2
  | .set => 3

/-- Time: the root clock's count since power-on and the PTP timer. -/
structure Clock where
  /-- Root-clock time [ns]. -/
  now : Nat := 0
  /-- PTP timer [ns]. -/
  ptp : Int := 0
  ptpState : PtpState := .free
  /-- Lock has been held since the last cold start (R256, R388). -/
  ptpHeld : Bool := false
  /-- The timer's last steered frequency against the root's [2^-32], and the fraction of a ns it has gathered [2^-32 ns] (R255). -/
  ptpFreq : Int := 0
  ptpFrac : Int := 0
deriving DecidableEq, Repr

/-- Module roles (R271, Table 11-1). -/
inductive Role where
  | starting
  | active
  | standby
  | offline
deriving DecidableEq, Repr

end Sys2Proof.Machine
end

