-- ==== Sys2Proof/Machine/Units/Crucible.lean ====
section
/-!
DEFINITION. State of the Crucible capture recorder and of the calibration page (chapter 12).
-/

namespace Sys2Proof.Machine

open Sys2Proof

/-- Crucible states (R301). -/
inductive CrState where
  | idle
  | armed
  | triggered
  | frozen
deriving DecidableEq, Repr

/-- One capture channel: its record (Table 12-2) and slice (R300). -/
structure CrChan where
  ctype : Nat
  index : Nat
  channel : Nat
  shift : Nat
  div : Nat
  base : Nat
  /-- Slice length in samples. -/
  len : Nat
  /-- WR_IDX: samples written since F0. -/
  wr : Nat
  trigIdx : Option Nat
  /-- Samples left after F_T; none before a trigger. -/
  left : Option Nat
  /-- Last sample written, for the CHAN trigger edge. -/
  last : Option Int
  /-- Samples written in the frame period of the last CAPTURE_SAMPLE. -/
  nowN : Nat
deriving DecidableEq, Repr

/-- The trigger record (Table 12-3). -/
structure CrTrig where
  sources : Nat := 0
  ladderMin : Nat := 1
  trigCh : Nat := 0
  edge : Nat := 0
  threshold : Int := 0
  postPct : Nat := 0
deriving DecidableEq, Repr

/-- The Crucible. -/
structure Crucible where
  state : CrState := .idle
  chans : List CrChan := []
  trig : CrTrig := {}
  f0 : Nat := 0
  trigF : Nat := 0
  trigSrc : Nat := 0
  preShort : Bool := false
  lateTrigs : Nat := 0
  spanNs : Nat := 0
  ue : Nat := 0
  /-- The DRAM ring, as bytes at BAR4 offsets; unlisted bytes read 0. -/
  ring : List Host.Cell := []
  /-- Ring words (offset / 8) with an uncorrectable ECC error (R305). -/
  badWords : List Nat := []
  /-- Trigger conditions of the present frame period other than LADDER and CHAN: bits 2 to 4 of TRIG_SRC. -/
  seen : Nat := 0
  /-- Frame period of the last CAPTURE_SAMPLE. -/
  sampledF : Option Nat := none
deriving DecidableEq, Repr

/-- One converter entry of the calibration page (Table 12-1). -/
structure CalEntry where
  gain : Int := 0
  offset : Int := 0
  valid : Bool := false
deriving DecidableEq, Repr

/-- The calibration page in use (R291). -/
structure CalPage where
  entries : List CalEntry := List.replicate 640 { gain := 0, offset := 0, valid := false }
  invalid : Bool := false
  writer : Nat := 0
  /-- The flash page, and the page read at the last cold start; unlisted bytes are erased (0xFF). -/
  flash : List Host.Cell := []
  used : List Host.Cell := []
  writes : Nat := 0
  /-- A CAL_WRITE in progress: the image (R292). -/
  writing : Option Bytes := none
deriving DecidableEq, Repr

/-- PENDING: the flash page differs from the page in use (Table 12-9). -/
def CalPage.pending (c : CalPage) : Bool := c.flash != c.used

end Sys2Proof.Machine
end

