-- ==== Sys2Proof/Machine/Units/LoopEngine.lean ====
section
/-!
DEFINITION. State of the Loop Engine: slots, schedule tables, pipelines, assay, cross-subsystem inputs
(chapters 2 and 3).
-/

namespace Sys2Proof.Machine

open Sys2Proof

/-- How a close chooses `held` (R70). -/
inductive Preload where
  | keep
  | out
  | held
  | value (v : Int)
  /-- Takeover initialisation: PRELOAD_HELD with the Taper position left (R281). -/
  | takeover
deriving DecidableEq, Repr

/-- A change handed to the Loop Engine that takes effect at the start of the slot's next evaluation (R61, R66, R457). -/
inductive SlotChange where
  | openIt
  /-- Opens once the outer slot of its group has taken its own opening (R103). -/
  | openAfter (outer : Nat)
  | closeIt (p : Preload)
  | load (w : List Reg) (sup : List Reg)
deriving DecidableEq, Repr

/-- A loop slot: its loaded contents as register words and its state (R41, R63, R90). -/
structure Slot where
  /-- Register words at offsets 0x000 to 0x1FF (Table 2-8). -/
  w : List Reg := List.replicate 128 0
  /-- LE_SUP_CFG, LE_FE_LIMIT, LE_FE_COUNT, LE_OPEN_MAX, LE_TAPER_RATE. -/
  sup : List Reg := List.replicate 5 0
  closed : Bool := false
  /-- Integrator, 64 bits in units of 2^-16 output LSB (R51). -/
  integ : Int := 0
  xdPrev : Int := 0
  /-- N1 x1, x2, y1, y2, then N2 (R54). -/
  n : List Int := List.replicate 8 0
  out : Int := 0
  /-- The output before the latest evaluation, and the cycle at which that evaluation started, counted from F = 0 (R49). -/
  prevOut : Int := 0
  evalAt : Option Nat := none
  err : Int := 0
  measv : Int := 0
  setv : Int := 0
  ffv : Int := 0
  clamp : Nat := 0
  stale : Bool := false
  ffGated : Bool := false
  sat : Bool := false
  parity : Bool := false
  evals : Nat := 0
  stales : Nat := 0
  clamps : Nat := 0
  /-- Taper position, 48 bits in units of 2^-16 (R72). -/
  taperPos : Int := 0
  taperDone : Bool := false
  nestHeld : Bool := false
  feCtr : Nat := 0
  /-- The action of this excursion has been taken or is due: not repeated until the counter is back at 0 (R75). -/
  feLatched : Bool := false
  /-- The counter has reached FE_COUNT and the trip is to be taken (R75). -/
  feDue : Bool := false
  feTrip : Bool := false
  openTrip : Bool := false
  /-- OPEN_TRIP has been taken in the present opening (R76). -/
  openDone : Bool := false
  /-- Time open in ns (R76). -/
  openNs : Nat := 0
  remapped : Bool := false
  /-- Changes waiting for the slot's next evaluation. -/
  pend : List SlotChange := []
  /-- Initialisation due at the next closed evaluation (R70, R281). -/
  init : Option Preload := none
  integShadow : Nat := 0
  taperShadow : Nat := 0
deriving DecidableEq, Repr

/-- A schedule entry (R80, Table 16-7). -/
structure SchedEnt where
  slot : Nat
  pipe : Nat
  start : Nat
  k : Nat
  phase : Nat
deriving DecidableEq, Repr

/-- An accepted table with its fallback placements, one per pipeline (R84, R86). -/
structure SchedTable where
  ents : List SchedEnt := []
  /-- For the failure of pipeline p: the whole table after the switch. -/
  fall : List (List SchedEnt) := [[], [], [], []]
  /-- Whether the fallback of pipeline p is incomplete. -/
  short : List Bool := [false, false, false, false]
deriving DecidableEq, Repr

/-- One evaluation pipeline. -/
structure Pipe where
  failed : Bool := false
  /-- Next known-answer vector (R87). -/
  vector : Nat := 0
  /-- The last vector mismatched and is repeated (R88). -/
  repeatV : Bool := false
  vectors : Nat := 0
  mismatches : Nat := 0
deriving DecidableEq, Repr

/-- A running ASSAY command (R384): vectors left and mismatches per pipeline. -/
structure AssayRun where
  mask : Nat
  left : List Nat
  miss : List Nat
deriving DecidableEq, Repr

/-- The Loop Engine. -/
structure LoopEngine where
  slots : List Slot := List.replicate 128 {}
  table : SchedTable := {}
  /-- An accepted table waiting for its switch (R84). -/
  pendTable : Option SchedTable := none
  pipes : List Pipe := List.replicate 4 {}
  /-- FAILED pipelines whose fallback switch is due, in the order they failed (R88). -/
  pendFall : List Nat := []
  /-- FAILED pipelines in the order they failed: the first alone has a fallback (R89). -/
  fallen : List Nat := []
  gen : Nat := 0
  lastReason : Nat := 0
  lastPipe : Nat := 0
  lastEntry : Nat := 0
  /-- Frame counter F, 64 bits (R80). -/
  frame : Nat := 0
  xinVal : List Int := List.replicate 32 0
  xinValid : Nat := 0
  assay : Option AssayRun := none
deriving DecidableEq, Repr

/-- Register word of a slot at an offset below 0x200. -/
def Slot.word (s : Slot) (off : Nat) : Reg := nth s.w (off / 4) 0

/-- Supervision word k of a slot. -/
def Slot.supWord (s : Slot) (k : Nat) : Reg := nth s.sup k 0

def Slot.cfg (s : Slot) : Nat := (s.word 0x000).toNat
def Slot.loaded (s : Slot) : Bool := bitAt s.cfg 0
def Slot.errNeg (s : Slot) : Bool := bitAt s.cfg 1
def Slot.pEn (s : Slot) : Bool := bitAt s.cfg 2
def Slot.iEn (s : Slot) : Bool := bitAt s.cfg 3
def Slot.dEn (s : Slot) : Bool := bitAt s.cfg 4
def Slot.ffEn (s : Slot) : Bool := bitAt s.cfg 5
def Slot.dSrcY (s : Slot) : Bool := bitAt s.cfg 6
def Slot.taperEn (s : Slot) : Bool := bitAt s.cfg 7
def Slot.nEn (s : Slot) (k : Nat) : Bool := bitAt s.cfg (8 + k)
def Slot.notchOut (s : Slot) : Bool := bitAt s.cfg 10
def Slot.cls (s : Slot) : Nat := bits s.cfg 23 16
def Slot.meas (s : Slot) : Nat := (s.word 0x004).toNat
def Slot.setp (s : Slot) : Nat := (s.word 0x008).toNat
def Slot.ff (s : Slot) : Nat := (s.word 0x00C).toNat
def Slot.dest (s : Slot) : Nat := (s.word 0x010).toNat
def Slot.destType (s : Slot) : Nat := bits s.dest 3 0
def Slot.destIndex (s : Slot) : Nat := bits s.dest 11 4
def Slot.destField (s : Slot) : Nat := bits s.dest 14 12
def Slot.const (s : Slot) : Int := (s.word 0x014).toInt
def Slot.outMin (s : Slot) : Int := (s.word 0x018).toInt
def Slot.outMax (s : Slot) : Int := (s.word 0x01C).toInt
def Slot.gtApply (s : Slot) : Nat := bits (s.word 0x040).toNat 9 8
def Slot.gtShift (s : Slot) : Nat := bits (s.word 0x040).toNat 4 0
def Slot.gt (s : Slot) (j : Nat) : Int := (s.word (0x100 + 4 * j)).toNat
def Slot.feEn (s : Slot) : Bool := bitAt (s.supWord 0).toNat 0
def Slot.feAction (s : Slot) : Nat := bits (s.supWord 0).toNat 6 4
def Slot.openAction (s : Slot) : Nat := bits (s.supWord 0).toNat 10 8
def Slot.nestAw (s : Slot) : Bool := bitAt (s.supWord 0).toNat 11
def Slot.feLimit (s : Slot) : Int := ((s.supWord 1).toNat : Int)
def Slot.feCount (s : Slot) : Nat := (s.supWord 2).toNat
def Slot.openMax (s : Slot) : Nat := (s.supWord 3).toNat
def Slot.taperRate (s : Slot) : Nat := (s.supWord 4).toNat
def Slot.openUs (s : Slot) : Nat := min (s.openNs / 1000) (2 ^ 32 - 1)

/-- TYPE, INDEX, CHANNEL and PICK of a source selector (Table 2-10). -/
def selType (v : Nat) : Nat := bits v 3 0
def selIndex (v : Nat) : Nat := bits v 11 4
def selChannel (v : Nat) : Nat := bits v 14 12
def selPick (v : Nat) : Nat := bits v 17 16

end Sys2Proof.Machine
end

