-- ==== Sys2Proof/Machine/Units/Output.lean ====
section
/-!
DEFINITION. What the block sends out: the trace of everything it writes, answers or drives, newest first in the state.
-/

namespace Sys2Proof.Machine

open Sys2Proof

/-- What an SPDM response carries (R429, R430); the messages' layout is SPDM's (assumption 26). -/
inductive SpdmAnswer where
  /-- Version number: 0x12 is SPDM 1.2. -/
  | version (v : Nat)
  /-- CERT_CAP, CHAL_CAP, MEAS_CAP with signature; CTExponent. -/
  | capabilities (cert chal measSig : Bool) (ctExponent : Nat)
  /-- RSASSA-PSS 3072, SHA-256 for base hash and measurements, DMTF measurement specification. -/
  | algorithms (pss3072 sha256 dmtf : Bool)
  /-- Slot mask and digest of the chain of slot 0. -/
  | digests (mask : Nat) (digest : Bytes)
  /-- Portion of the chain and bytes that remain after it. -/
  | certificate (portion : Bytes) (left : Nat)
  /-- Digest of the chain, nonce, measurement summary hash, signature. -/
  | challengeAuth (digest nonce summary sig : Bytes)
  /-- Number of blocks, the blocks asked for by index and value, nonce and signature where one was asked for. -/
  | measurements (count : Nat) (blocks : List (Nat × Bytes)) (sig : Option (Bytes × Bytes))
  /-- A request for something not supported. -/
  | error
deriving DecidableEq, Repr

/-- Addressing of a UDP datagram (R249, R250): an IPv6 or IPv4 address by its number, the ports, DSCP, whether the frame is
tagged, and the hop limit or TTL, which the spec gives for multicast alone. -/
structure UdpHead where
  dst : Nat
  dport : Nat
  sport : Nat := 49870
  dscp : Nat := 46
  tagged : Bool := false
  hops : Option Nat := none
deriving DecidableEq, Repr

/-- One thing the block puts outside itself. -/
inductive Output where
  /-- Posted write to host memory. -/
  | hostWrite (addr : Nat) (b : Bytes)
  /-- MSI-X message. -/
  | msix (addr data : Nat)
  /-- Completion of a command (Table 15-4). -/
  | completion (tag status cflags queue sqIndex result : Nat)
  /-- Answer to a BAR0 or BAR2 read. -/
  | regRead (addr v : Nat)
  /-- Answer to a BAR4 read. -/
  | barRead (off : Nat) (b : Bytes)
  /-- Downstream fast frame: port, header, payload bytes, CRC. -/
  | fastDn (port hdr : Nat) (payload : Bytes) (crc : Nat)
  /-- LAUNCH_MOVE block: port, EXTRA, SLIP. -/
  | launchMove (port extra slip : Nat)
  /-- Service request sent to a bridge: port, header, DATA, MASK, CRC. -/
  | svcDn (port hdr data mask crc : Nat)
  /-- The blocks of a port's period as they leave the scrambler, and the UI of a launch move's slip after them. -/
  | line (port : Nat) (blocks : List Block) (slip : Nat)
  /-- TRAIN blocks on a port, with their header. -/
  | train (port hdr : Nat)
  /-- UDP datagram. -/
  | datagram (h : UdpHead) (b : Bytes)
  /-- PTP Sync (0), Delay_Req (1) or Delay_Resp (9): its transport and time. -/
  | ptp (kind : Nat) (via : PtpTransport) (time : Int)
  /-- PTP Announce: its domain and this module's own clock. -/
  | announce (domain : Nat) (clock : List Nat)
  /-- Auto-negotiation begins: the modes offered, the 400 Gb/s mode in a next page under an organisation's identifier. -/
  | autoneg (modes : List Nat) (oui : BitVec 24)
  /-- Other Ethernet message: neighbour (0), ARP (1) or echo (2) answer, router solicitation (3), DHCP request (4), MLDv2 or
  IGMPv3 report of a group joined (5); and its address. -/
  | net (kind addr : Nat)
  /-- Tether fast frame: header, payload, CRC. -/
  | tetherFast (hdr : Nat) (payload : Bytes) (crc : Nat)
  /-- A state copy whose TETHER_BULK frames begin: COPY_SEQ, FORMAT, content. -/
  | tetherCopy (seq format : Nat) (c : StateCopy)
  /-- The 25 blocks of a tether period as they leave the scrambler. -/
  | tetherLine (blocks : List Block)
  /-- TRAIN blocks on the tether, with their header. -/
  | tetherTrain (hdr : Nat)
  /-- Level driven on a named output pin. -/
  | pin (name : String) (level : Bool)
  /-- SMBus answer; none is a NACK. -/
  | smbus (b : Option Byte)
  /-- SPDM response. -/
  | spdm (a : SpdmAnswer)
  /-- JTAG data register selected by an instruction, and its value. -/
  | jtag (ir dr : Nat)
deriving DecidableEq, Repr

end Sys2Proof.Machine
end

