-- ==== Sys2Proof/Machine/Units/Pins.lean ====
section
/-!
DEFINITION. Pins and housekeeping: discrete signals, supplies, die temperature, PPS (chapter 19).
-/

namespace Sys2Proof.Machine

open Sys2Proof

/-- Pins and housekeeping; SNUFF_SENSE, SNUFF_N, SLOT_SENSE and SMB_ALERT_N stand with their blocks. -/
structure Pins where
  /-- PF_WARN_N asserted, after its filter (R442). -/
  pfWarn : Bool := false
  /-- RESET_N held low. -/
  resetLow : Bool := false
  tempHigh : Bool := false
  /-- A thermal trip has occurred; retained (R450). -/
  tripped : Bool := false
  /-- The main-rail switch stands open after a trip. -/
  railOpen : Bool := false
  /-- Die temperature [0.01 °C] and its highest value since cold start. -/
  die : Int := -32768
  dieMax : Int := -32768
  /-- Supplies [mV]. -/
  vinMain : Nat := 0
  vinAux : Nat := 0
  ppsSeen : Bool := false
  ppsTime : Int := 0
  /-- PPS_OUT is high. -/
  ppsOut : Bool := false
deriving DecidableEq, Repr

end Sys2Proof.Machine
end

