-- ==== Sys2Proof/Machine/Units/Profile.lean ====
section
/-!
DEFINITION. State of the Profile Engine (chapter 8).
-/

namespace Sys2Proof.Machine

open Sys2Proof

/-- States of Table 8-3. -/
inductive PfState where
  | idle
  | search
  | locked
  | coast
  | loading
deriving DecidableEq, Repr

def PfState.code : PfState → Nat
  | .idle => 0
  | .search => 1
  | .locked => 2
  | .coast => 3
  | .loading => 4

/-- A Profile Table entry (Table 8-1). -/
structure PfEntry where
  count : Nat := 0
  tag : Nat := 0
  /-- Units of 4 W. -/
  spread : Nat := 0
  mean : Int := 0
deriving DecidableEq, Repr

/-- A phase record of a power plan (Table 8-4). -/
structure PlanPhase where
  durUs : Nat
  power : Int
  spreadW : Nat
  tag : Nat
deriving DecidableEq, Repr

/-- A plan being loaded (R208). -/
structure Plan where
  hdr : Nat
  phases : List PlanPhase
  binN : Nat
  mode : Nat
  weight : Nat
  actTime : Int
  written : Bool
deriving DecidableEq, Repr

/-- A WICK notice passed to the engine (R205). -/
structure Notice where
  tag : Nat
  /-- T_w [PTP ns]. -/
  at_ : Int
  delta : Int
  durUs : Nat
deriving DecidableEq, Repr

/-- The Profile Engine. -/
structure Profile where
  state : PfState := .search
  learn : Bool := true
  cfg : PfSet := {}
  /-- Used entries, by bin. -/
  table : List (Nat × PfEntry) := []
  /-- Anchor phase of each tag that has one (R205). -/
  anchors : List (Nat × Int) := []
  /-- Bin exponent in force. -/
  n : Nat := 0
  /-- T and phi [2^-16 µs]; T = 0 is no period. -/
  period : Int := 0
  phase : Int := 0
  planned : Bool := false
  lostFlag : Bool := false
  parityFlag : Bool := false
  noFit : Bool := false
  -- correlator (R200, R201)
  decSum : Int := 0
  decCnt : Nat := 0
  /-- Running mean and samples less it, in units of 2^-profileFracBits W, newest first. -/
  mu : Int := 0
  hist : List Int := []
  /-- Decimated samples since learning started or the search began. -/
  got : Nat := 0
  /-- T of the candidates of consecutive evaluations, newest first. -/
  cands : List Int := []
  -- averager and phase detector (R202, R204)
  binSum : Int := 0
  binCnt : Nat := 0
  /-- Bin averages of the present period, and the table at its start. -/
  periodBins : List (Nat × Int) := []
  snap : List (Nat × PfEntry) := []
  wickJump : Bool := false
  /-- The phase has moved back over the period's start: crossing it again ends no period (R204, R205). -/
  recross : Bool := false
  limitRun : Nat := 0
  periods : Nat := 0
  -- skill (R209)
  winPos : Nat := 0
  winSum : Int := 0
  winCnt : Nat := 0
  /-- f_w of the present window as a sum over its phase interval; none when the window did not start in LOCKED. -/
  winCover : Option Int := none
  ef : Int := 0
  ea : Int := 0
  windows : Nat := 0
  lowWin : Nat := 0
  avg : Int := 0
  /-- Good 1 µs samples of the last period, newest first; none where missing. -/
  recent : List (Option Int) := []
  fcXin : Int := 0
  applied : Nat := 0
  rejected : Nat := 0
  locks : Nat := 0
  losses : Nat := 0
  /-- Rejected phase error per tag (R205). -/
  rejects : List (Nat × Int) := []
  /-- T_w of the last notices per tag in SEARCH or COAST, newest first. -/
  seen : List (Nat × List Int) := []
  /-- Notices whose T_w has not come, in the order of T_w and passing (R206). -/
  waiting : List Notice := []
  plan : Option Plan := none
  tabShadow : Nat := 0
deriving DecidableEq, Repr

end Sys2Proof.Machine
end

