-- ==== Sys2Proof/Machine/Units/Recorder.lean ====
section
/-!
DEFINITION. State of the event recorder (chapter 13).
-/

namespace Sys2Proof.Machine

open Sys2Proof

/-- An event record before its CRC (Table 13-1). -/
structure Rec where
  code : Nat
  sev : Nat
  flags : Nat
  seq : Nat
  opTime : Nat
  pwrCycles : Nat
  kind : Nat
  subject : Nat
  calTime : Int
  payload : Bytes
deriving DecidableEq, Repr

/-- A used slot of the flash log: a whole record, or one cut short by a power loss (R318). -/
inductive LogSlot where
  | whole (r : Rec)
  | cut (b : Bytes)
deriving DecidableEq, Repr

/-- The newest entry of the counter journal (R313). -/
structure Journal where
  opTime : Nat
  pwrCycles : Nat
  nextSeq : Nat
  dropped : Nat
  authSeq : Nat
deriving DecidableEq, Repr

/-- The event recorder. -/
structure Recorder where
  /-- EVQ_MIN_SEV of EV_CFG. -/
  minSev : Nat := 0
  /-- Next SEQ, 32 bits, retained. -/
  nextSeq : Nat := 0
  /-- Operating time in ms, 48 bits, retained. -/
  opTime : Nat := 0
  /-- Power-cycle count, 24 bits, retained. -/
  pwrCycles : Nat := 0
  /-- The retained ring, oldest first, at most 1,024 records. -/
  ring : List Rec := []
  /-- Next ring position. -/
  wrPos : Nat := 0
  /-- Records of the ring, newest last, not yet flushed. -/
  unflushed : Nat := 0
  ringOver : Nat := 0
  ringOverwrite : Bool := false
  restored : Bool := false
  /-- A trigger of R315 stands, so that a flush begins within 1 ms. -/
  flushDue : Bool := false
  /-- A flush in progress. -/
  flushing : Bool := false
  /-- Unflushed records, oldest first, that the flush in progress copies. -/
  flushCount : Nat := 0
  /-- Flushes begun: the model's own count, by which a LOG_READ knows the flush it waits for. -/
  flushNo : Nat := 0
  /-- Used slots of the flash log from slot 0. -/
  log : List LogSlot := []
  logFull : Bool := false
  dropped : Nat := 0
  badCrc : Nat := 0
  clearing : Bool := false
  /-- The LOG_CLEARED record to be written into slot 0 at the next flush (R320). -/
  clearedRec : Option Rec := none
  journal : Option Journal := none
  /-- Causes of Table 13-5 that stand, other than 5 and 6; retained. -/
  causes : List Nat := []
  /-- Ports named by cause 5 (R322); retained. -/
  portCause : List Nat := []
  /-- Ports named by cause 6 (R322); retained. -/
  cellCause : List Nat := []
  /-- Correctable DRAM errors of the 1 h window (cause 1). -/
  dramCe : Nat := 0
  /-- Links for which cause 4 stands: 0 PCIe, 1 Ethernet. -/
  marginLow : List Nat := []
  /-- SMB_ALERT_N is asserted (R445). -/
  alert : Bool := false
deriving DecidableEq, Repr

end Sys2Proof.Machine
end

