-- ==== Sys2Proof/Machine/Units/ResetCtl.lean ====
section
/-!
DEFINITION. State of the reset controller, clocks, start sequencing, retained domain and power (chapter 17).
-/

namespace Sys2Proof.Machine

open Sys2Proof

/-- START_STATE (Table 17-14). -/
inductive StartState where
  | cold
  | warm
  | run
  | recovery
deriving DecidableEq, Repr

def StartState.code : StartState → Nat
  | .cold => 0
  | .warm => 1
  | .run => 2
  | .recovery => 3

/-- Reset scopes with domains to release (R395). -/
inductive Scope where
  | cold
  | warm
  | host
deriving DecidableEq, Repr

/-- Scope codes (R394). -/
def Scope.code : Scope → Nat
  | .cold => 0
  | .warm => 1
  | .host => 2

/-- A reset asserted or releasing (R396, R398). -/
structure Release where
  scope : Scope
  /-- Released by source 0, which adds step 1. -/
  powerOn : Bool
  /-- Still asserted: RESET_N low. -/
  asserted : Bool
  /-- Next step of Table 17-5. -/
  step : Nat
  /-- Attempts stopped by a clock fault. -/
  tries : Nat
  /-- Stopped: RELEASE_RETRY is due. -/
  stopped : Bool
deriving DecidableEq, Repr

/-- Power states (Table 17-9), and no power at all. -/
inductive Power where
  | run
  | quiet
  | aux
  | off
deriving DecidableEq, Repr

/-- The reset controller. -/
structure ResetCtl where
  start : StartState := .cold
  power : Power := .run
  release : Option Release :=
    some { scope := .cold, powerOn := true, asserted := false, step := 1, tries := 0, stopped := false }
  /-- Domains in reset. -/
  off : List Nat := (List.range 40).drop 1
  /-- Domains held by a clock fault (R393). -/
  held : List Nat := []
  /-- Domains whose clock is not good, links left aside (R392). -/
  badClk : List Nat := []
  /-- Next step of Table 17-6. -/
  startStep : Nat := 1
  /-- Root time at which the present start began, and at which RUN was reached. -/
  startAt : Nat := 0
  runAt : Nat := 0
  /-- LAST_START_MS. -/
  lastStartMs : Nat := 0
  /-- First Planisher write of this start has been made (R401 step 9): the governor firmware runs. -/
  govRun : Bool := false
  faults : Nat := 0
  inRelease : Bool := false
  firstDomain : Option Nat := none
  quietEn : Bool := true
  quietDwell : Nat := 10
  blockActive : Bool := false
  blockCode : Nat := 0
  /-- Attempts of the block's release stopped by a clock fault, and whether RELEASE_RETRY is due for it. -/
  blockTries : Nat := 0
  blockStopped : Bool := false
  /-- A start's release ended, or the start began, without a fault: no failed pipeline at this start's assay so far. -/
  assayFail : Bool := false
  -- retained domain
  /-- BKUP[6] holds its marker (R407). -/
  valid : Bool := false
  lastSource : Nat := 0
  lastScope : Nat := 0
  lastBlock : Nat := 0
  resets : Nat := 0
  absorbed : Nat := 0
  /-- Operating times of counted failed cold starts, BKUP[0] to BKUP[3] (R404). -/
  failed : List Nat := []
  imageChanged : Bool := false
  /-- Retired ports kept in BKUP[11] to BKUP[13] (R408). -/
  retiredBk : List Nat := []
  /-- SEQ of the RESET record of the reset under way. -/
  resetSeq : Nat := 0
  /-- BKUP[15] to BKUP[31]: firmware working values, which the spec leaves unstated. -/
  firmware : List Reg := List.replicate 17 0
deriving DecidableEq, Repr

/-- START_STATE has reached RUN (R401, R403). -/
def ResetCtl.run (r : ResetCtl) : Bool := r.start == .run

/-- The recovery loader runs (R424, R426). -/
def ResetCtl.recovery (r : ResetCtl) : Bool := r.start == .recovery

/-- A domain is out of reset and its clock runs: with the root held, every domain stops (Table 17-2). -/
def ResetCtl.on (r : ResetCtl) (d : Nat) : Bool := !r.off.contains d && !r.held.contains d && !r.held.contains 0

/-- The governor firmware runs: its cores are released and awake and its start has ended. -/
def ResetCtl.gov (r : ResetCtl) : Bool := r.govRun && r.on 6 && r.on 3 && r.power == .run

/-- Clock domain of the Faldon cluster of a port (Table 17-1). -/
def clusterOf (p : Nat) : Nat := if p < 48 then 19 + p / 16 else 30 + (p - 48) / 16

/-- The transmitter of a port runs: root, Loop Engine and its cluster do (Table 17-2). -/
def ResetCtl.portOn (r : ResetCtl) (p : Nat) : Bool := r.on 0 && r.on 4 && r.on (clusterOf p)

/-- The tether's transmitter runs; the recovery loader never trains the tether (R424). -/
def ResetCtl.tetherOn (r : ResetCtl) : Bool := r.on 0 && r.on 4 && r.on 18 && !r.recovery

/-- The Ethernet port runs; the recovery loader never brings it up (R424). -/
def ResetCtl.ethOn (r : ResetCtl) : Bool := r.on 14 && r.on 15 && r.on 16 && !r.recovery

/-- A cluster or the on-die network is held: with an armed partner, heartbeats stop (Table 17-2). -/
def ResetCtl.beatHeld (r : ResetCtl) : Bool := r.held.any (fun d => d == 3 || d == 19 || d == 20 || d == 21 || d == 30 || d == 31)

/-- The Profile Engine runs (R199). -/
def ResetCtl.profile (r : ResetCtl) : Bool := r.on 5 && r.power == .run

end Sys2Proof.Machine
end

