-- ==== Sys2Proof/Machine/Units/Security.lean ====
section
/-!
DEFINITION. State of the security block, the flash areas it reads and writes, and firmware images (chapter 18).
-/

namespace Sys2Proof.Machine

open Sys2Proof

/-- The security block. -/
structure Security where
  -- OTP
  /-- SERIAL: 16 bytes of ASCII, padded with 0. -/
  serial : Bytes := List.replicate 16 0
  /-- Ordering suffix CC (Table 0-1). -/
  suffixCC : Bool := false
  rootHash : Bytes := List.replicate 32 0
  /-- OWNER_HASH, where an owner key is fused. -/
  ownerHash : Option Bytes := none
  /-- Security version counter: fuses blown (R416). -/
  svn : Nat := 0
  /-- JTAG_LOCK fuse (R431). -/
  jtagLocked : Bool := true
  /-- SHA-256 of the mask ROM (Table 18-7). -/
  romDigest : Bytes := List.replicate 32 0
  -- flash; unlisted bytes are erased (0xFF)
  image : List Host.Cell := []
  store : List Host.Cell := []
  certs : List Host.Cell := []
  /-- Erase cycles of each area of Table 18-1 (R322). -/
  wear : List Nat := List.replicate 6 0
  -- images in DRAM
  /-- The image that runs, whole: the locked copy (R420). Empty when none runs. -/
  running : Bytes := []
  /-- Measurement 2: the digest of the image as verified at the start that loaded it. -/
  digest : Bytes := List.replicate 32 0
  staged : Option Bytes := none
  /-- IMAGE_STAGEs under way, in order: the command, none once a HOST reset has ended it, and the image copied. -/
  staging : List (Option CmdHdr × Bytes) := []
  /-- An IMAGE_COMMIT under way: its ACTIVATE. -/
  commit : Option Bool := none
  /-- An IMAGE_COMMIT with ACTIVATE 1 has completed OK: IMAGE_ACTIVATE is due (R386). -/
  activateDue : Bool := false
  /-- SHA-256 of the configuration store as loaded at the last cold start (Table 18-7). -/
  storeDigest : Bytes := List.replicate 32 0
  -- flags
  areaInvalid : Bool := false
  imageBad : Bool := false
  svnRaised : Bool := false
  /-- AUTH_SEQ, retained (R419). -/
  authSeq : Nat := 0
  -- recovery loader (R424, R427)
  rcvCause : Nat := 0
  rcvLen : Nat := 0
  rcvState : Nat := 0
  rcvReason : Nat := 0
deriving DecidableEq, Repr

/-- n bytes of the running image's hallmark as a number; 0 when no image runs. -/
def Security.run (x : Security) (off n : Nat) : Nat := u x.running off n

/-- COPY_FORMAT of the running image (R278, Table 18-2). -/
def Security.copyFormat (x : Security) : Nat := x.run 0x14 1

end Sys2Proof.Machine
end

