-- ==== Sys2Proof/Machine/Units/Tether.lean ====
section
/-!
DEFINITION. State of the tether, ownership epoch and takeovers (chapter 11).
-/

namespace Sys2Proof.Machine

open Sys2Proof

/-- A planned or forced takeover in progress (R286, R287). -/
inductive Handover where
  | none
  /-- Active: a state copy is due. -/
  | copyDue
  /-- Active: that copy is being sent; then HANDOVER is set. -/
  | copying
  /-- Active: HANDOVER is set; the partner takes over with epoch E + 1. -/
  | offered (e : Nat)
  /-- New active of a planned takeover. -/
  | taken (e : Nat)
  /-- Standby to which TAKEOVER was sent, waiting for the active. -/
  | asked
  /-- Forced takeover: ports whose first frame is still to leave. -/
  | forced (ports : List Nat)
deriving DecidableEq, Repr

/-- The tether and what the module knows of its partner. -/
structure Tether where
  /-- Level at SLOT_SENSE: low selects slot A, high slot B (R444). -/
  slotLevel : Bool := false
  /-- The slot in use: false A, true B. -/
  slotB : Bool := false
  /-- The partner carries the same SLOT (R444). -/
  slotConflict : Bool := false
  /-- FL_OWN epoch. -/
  epoch : Nat := 0
  /-- Ownership epoch in BKUP[4]; retained. -/
  bkEpoch : Nat := 0
  /-- Tether trained (R274). -/
  trained : Bool := false
  /-- A heartbeat has been seen from the partner since training. -/
  seen : Bool := false
  partnerRole : Nat := 0
  partnerSlotB : Bool := false
  partnerEpoch : Nat := 0
  partnerReady : Nat := 0
  partnerArmed : Bool := false
  /-- HANDOVER of the partner's last good frame. -/
  partnerHand : Bool := false
  partnerPorts : Nat := 0
  partnerSlots : Nat := 0
  /-- Partner's serial number, as the state copy and training carry it. -/
  partnerSerial : Bytes := []
  capsMismatch : Bool := false
  formatMismatch : Bool := false
  /-- Round trips of the TRAIN exchanges of the last training, in Loop Engine cycles (R274). -/
  trips : List Nat := []
  alignErr : Int := 0
  /-- Consecutive heartbeats from an ACTIVE partner (R280). -/
  hbRun : Nat := 0
  /-- Tether periods since the last heartbeat, and consecutive expected heartbeats missed (R277). -/
  sinceHb : Nat := 0
  missRun : Nat := 0
  armed : Bool := false
  /-- PARTNER_LOST stands. -/
  lost : Bool := false
  /-- W1C flags of FL_TETH_STATE. -/
  lostFlag : Bool := false
  deposed : Bool := false
  missedHb : Nat := 0
  bulkCrc : Nat := 0
  losses : Nat := 0
  copySeq : Nat := 0
  /-- Root time of the last copy applied or sent. -/
  copyAt : Option Nat := none
  /-- Chunks of the copy being received, by COPY_SEQ. -/
  rxSeq : Nat := 0
  rxNext : Nat := 0
  rxGood : Bool := false
  /-- Root time of the last copy applied, as a standby (Table 11-3). -/
  appliedAt : Option Nat := none
  /-- A copy has been applied and no TETHER_BULK frame has come since (R286 step 2). -/
  copyWhole : Bool := false
  /-- Chunks of the copy under way that are still to be sent, with their headers (R278). -/
  chunks : List (Nat × Bytes) := []
  /-- Scrambler of the tether's transmitter (R120). -/
  hist : Nat := 0
  hand : Handover := .none
  takeovers : Nat := 0
  lastCause : Nat := 0
  lastSwitch : Nat := 0
  /-- Root time of step 1 of the last takeover, while ports are still to switch. -/
  tkoAt : Option Nat := none
  /-- The check of R284 is still to come, for the ports TRAINED at the takeover. -/
  checkDue : Bool := false
  checkPorts : List Nat := []
  /-- FL_TETH_FAILED. -/
  failed : List Nat := []
deriving DecidableEq, Repr

end Sys2Proof.Machine
end

