-- ==== Sys2Proof/Machine/State.lean ====
section
/-!
DEFINITION. The state of the block: every register, FIFO, buffer, counter, mode and pin the spec gives it, and the queue
of commands waiting. Plain data throughout.
-/

namespace Sys2Proof.Machine

open Sys2Proof

/-- Reasons a step can stop with a fault. -/
inductive Fault where
  /-- Raised by nobody: the block has no stop (assumption 2); safe. -/
  | halted
deriving DecidableEq, Repr

/-- Reasons a command is refused by the model. -/
inductive Refusal where
  /-- Raised by exec's arm of a command without a meaning yet; safe. -/
  | notModelled (mnemonic : String)
deriving DecidableEq, Repr

/-- The state of the block. -/
structure State where
  part : Part := .csm480
  clk : Clock := {}
  role : Role := .starting
  teth : Tether := {}
  le : LoopEngine := {}
  ports : List Port := List.replicate 80 {}
  groups : List Group := List.replicate 16 {}
  sh : Shelf := {}
  pf : Profile := {}
  pl : Planisher := {}
  /-- SEQ starts at 0, so the module is silent for 1 s (R261). -/
  gn : Gulene := { quietTo := 1000000000 }
  gv : Governor := {}
  cr : Crucible := {}
  cal : CalPage := {}
  ev : Recorder := {}
  rc : ResetCtl := {}
  hq : HostIf := {}
  se : Security := {}
  pins : Pins := {}
  /-- The newest complete checkpoint of the governor cores (R402). -/
  checkpoint : Option StateCopy := none
  /-- Host memory by bus address; unlisted bytes read 0 (assumption 3). -/
  hostMem : List Host.Cell := []
  /-- The host DMA region of BAR4 by offset; unlisted bytes read 0 (assumption 3). -/
  hdma : List Host.Cell := []
  /-- Number of free values taken: the model's own field. -/
  free : Nat := 0
  /-- What the block has put out, newest first: the model's own field. -/
  out : List Output := []
  /-- Commands waiting, first in first out. -/
  pending : List Instr := []
deriving DecidableEq, Repr

/-- The block right after reset. -/
def State.reset : State := {}

end Sys2Proof.Machine
end

