-- ==== Sys2Proof/Machine/Ops.lean ====
section
/-!
DEFINITION. The shared operations: host memory and rings, interrupts, completions, event records, buffers, and the one
way a host command is checked and started (chapters 13 to 16).
-/

namespace Sys2Proof.Machine

open Sys2Proof

/-- The part of the state that the host side of an operation can change. -/
structure HostSide where
  hq : HostIf
  mem : List Host.Cell
  out : List Output

def State.hostSide (s : State) : HostSide := { hq := s.hq, mem := s.hostMem, out := s.out }

def State.withHost (s : State) (h : HostSide) : State := { s with hq := h.hq, hostMem := h.mem, out := h.out }

/-- One more thing put out by the block. -/
def State.emit (s : State) (o : Output) : State := { s with out := o :: s.out }

/-- Posted write of bytes to host memory (R339); bus addresses have 64 bits. -/
def HostSide.write (h : HostSide) (a : Nat) (b : Bytes) : HostSide :=
  { h with mem := Mem.writeN 0 h.mem (a % 2 ^ 64) b, out := .hostWrite (a % 2 ^ 64) b :: h.out }

/-- Address of the write-back block (R331). -/
def HostIf.wbBase (q : HostIf) : Nat := q.wbHi.toNat * 2 ^ 32 + q.wbLo.toNat

/-- Write of one dword of the write-back block (Table 14-3a). -/
def HostSide.writeBack (h : HostSide) (off v : Nat) : HostSide := h.write (h.hq.wbBase + off) (leBytes 4 v)

/-- MSI-X message of a vector; a masked vector sets its PBA bit (R342). -/
def HostSide.msix (h : HostSide) (v : Nat) : HostSide :=
  let e := nth h.hq.msix v {}
  if bitAt e.ctl.toNat 0 then { h with hq := { h.hq with pba := setBit h.hq.pba v true } }
  else { h with out := .msix (e.addrHi.toNat * 2 ^ 32 + e.addrLo.toNat) e.data.toNat :: h.out }

/-- The message is due now, without the time condition (R342). -/
def msixDue (cnt unsig : Nat) (urgent : Bool) : Bool :=
  decide (0 < unsig) && (cnt == 0 || decide (unsig ≥ cnt) || urgent)

/-- Completion queue q: message if due (R342). -/
def HostSide.signalCq (h : HostSide) (q : Nat) : HostSide :=
  let c := nth h.hq.queues q {}
  if h.hq.msixEnable && msixDue c.coalCnt c.unsig false then
    { h with hq := { h.hq with queues := upd h.hq.queues q (fun c => { c with unsig := 0 }) } }.msix c.vec
  else h

/-- Event queue: message if due (R342). -/
def HostSide.signalEq (h : HostSide) (urgent : Bool) : HostSide :=
  let c := h.hq.eq
  if h.hq.msixEnable && msixDue c.coalCnt c.unsig urgent then
    { h with hq := { h.hq with eq := { c with unsig := 0 } } }.msix c.vec
  else h

/-- The 16 bytes of a completion (Table 15-4). -/
def completionBytes (tag status cflags queue idx result : Nat) : Bytes :=
  leBytes 2 tag ++ leBytes 1 status ++ leBytes 1 cflags ++ leBytes 1 queue ++ leBytes 1 0 ++ leBytes 2 idx ++
    leBytes 8 result

/-- Writing of a completion entry into completion queue `cq`, its tail and its message, in the order of R339. -/
def HostSide.postCompletion (h : HostSide) (cq tag status cflags queue idx result : Nat) : HostSide :=
  let c := nth h.hq.queues cq {}
  let h := { h with out := .completion tag status cflags queue idx result :: h.out }
  if c.present && !c.faulted && c.cqN != 0 then
    let h := h.write (c.cqBase + 16 * c.cqTail) (completionBytes tag status cflags queue idx result)
    let t := (c.cqTail + 1) % c.cqN
    let h := { h with hq := { h.hq with queues := upd h.hq.queues cq (fun c => { c with cqTail := t, unsig := c.unsig + 1 }) } }
    (h.writeBack (4 * cq) t).signalCq cq
  else h

/-- Commands of queue q in flight: fetched and not completed (R335). -/
def HostIf.inFlight (x : HostIf) (q : Nat) : Nat :=
  (x.inflight.filter (fun f => f.hdr.queue == q)).length + (x.parked.filter (fun p => p.hdr.queue == q)).length

/-- Free completion entries of queue q not reserved by a command in flight (R335). -/
def HostIf.cqFree (x : HostIf) (q : Nat) : Nat :=
  let c := nth x.queues q {}
  if c.cqN = 0 then 0 else (c.cqHead + 2 * c.cqN - c.cqTail - 1) % c.cqN - x.inFlight q

/-- One completion: the entry is posted and the command leaves the commands in flight (R339, R353). -/
def HostSide.complete1 (h : HostSide) (standby : Bool) (c : CmdHdr) (status result : Nat) : HostSide :=
  let h := h.postCompletion c.queue c.tag status (if standby then 2 else 0) c.queue c.sqIndex result
  { h with hq := { h.hq with inflight := h.hq.inflight.filter (fun f => f.hdr != c) } }

/-- Queue deletions whose queue has no command left in flight complete OK (R334, R367); `n` bounds the chain. -/
def HostSide.settleDeletes : Nat → Bool → HostSide → HostSide
  | 0, _, h => h
  | n + 1, sb, h =>
    match h.hq.inflight.find? (fun f => match f.wait with
        | .queueDelete q => h.hq.inFlight q == 0
        | _ => false) with
    | some ⟨c, _, .queueDelete q, _⟩ =>
      let h := { h with hq := { h.hq with queues := h.hq.queues.set q {} } }
      HostSide.settleDeletes n sb (h.complete1 sb c 0 0)
    | _ => h

/-- Completion of a command and of the queue deletions it ends. -/
def HostSide.complete (h : HostSide) (standby : Bool) (c : CmdHdr) (status result : Nat) : HostSide :=
  HostSide.settleDeletes 4 standby (h.complete1 standby c status result)

/-- The module's completions carry STANDBY (R359). -/
def State.standbyFlag (s : State) : Bool := s.role == .standby || s.role == .offline

/-- Completion of a command (R339, R354). -/
def State.complete (s : State) (c : CmdHdr) (status result : Nat) : State :=
  s.withHost (s.hostSide.complete s.standbyFlag c status result)

/-- Completion of every command in flight whose wait satisfies a test, in fetch order. -/
def State.completeWhere (s : State) (p : Wait → Bool) (status result : Nat) : State :=
  ((s.hq.inflight.filter (fun f => p f.wait)).map (·.hdr)).foldl (fun s c => s.complete c status result) s

/-- Some command in flight waits for this. -/
def State.waiting (s : State) (w : Wait) : Bool := s.hq.inflight.any (fun f => f.wait == w)

/-- The wait of a command in flight replaced. -/
def State.rewait (s : State) (c : CmdHdr) (w : Wait) : State :=
  { s with hq := { s.hq with inflight := s.hq.inflight.map (fun f => if f.hdr = c then { f with wait := w } else f) } }

/-! ### Event records -/

/-- The 64 bytes of a record (Table 13-1). -/
def Rec.bytes (r : Rec) : Bytes :=
  let b := leBytes 2 r.code ++ leBytes 1 r.sev ++ leBytes 1 r.flags ++ leBytes 4 r.seq ++ leBytes 6 r.opTime ++
    leBytes 3 r.pwrCycles ++ leBytes 1 r.kind ++ leBytes 2 r.subject ++ leBytesI 8 r.calTime ++ padTo 32 r.payload
  b ++ leBytes 4 (crc32c b)

/-- A replacement request stands (R323). -/
def Recorder.replace (e : Recorder) : Bool :=
  !e.causes.isEmpty || !e.portCause.isEmpty || !e.cellCause.isEmpty

/-- A record taken into the retained ring (R312, R314, R317); severity 3 or above asks for a flush (R315). -/
def Recorder.push (e : Recorder) (r : Rec) : Recorder :=
  let lost := decide (e.ring.length ≥ 1024) && decide (e.unflushed ≥ 1024)
  { e with nextSeq := (e.nextSeq + 1) % 2 ^ 32, ring := (e.ring ++ [r]).drop (e.ring.length + 1 - 1024),
           wrPos := (e.wrPos + 1) % 1024,
           unflushed := min (e.unflushed + 1) 1024,
           ringOver := if lost then satInc 11 e.ringOver else e.ringOver,
           ringOverwrite := e.ringOverwrite || lost,
           flushCount := if lost then e.flushCount - 1 else e.flushCount,
           flushDue := e.flushDue || decide (r.sev ≥ 3) }

/-- Free entries of the event queue (R330, R343). -/
def EvQueue.free (q : EvQueue) : Nat := if q.n = 0 then 0 else (q.head + 2 * q.n - q.tail - 1) % q.n

/-- Writing of a record into the event ring, its tail and its message. -/
def HostSide.postEvent (h : HostSide) (r : Rec) : HostSide :=
  let q := h.hq.eq
  let h := h.write (q.base + 64 * q.tail) r.bytes
  let t := (q.tail + 1) % q.n
  let h := { h with hq := { h.hq with eq := { h.hq.eq with tail := t, unsig := q.unsig + 1 } } }
  (h.writeBack 0x10 t).signalEq (decide (r.sev ≥ 3))

/-- Queuing of a record (R35, R314, R343): a full queue, or one awaiting its overflow record, counts it. -/
def HostSide.queueEvent (h : HostSide) (minSev : Nat) (r : Rec) : HostSide :=
  let q := h.hq.eq
  if !q.present || q.faulted || q.n = 0 || decide (r.sev < minSev) then h
  else if q.notQueued = 0 ∧ q.free ≥ 1 then h.postEvent r
  else { h with hq := { h.hq with eq := { q with notQueued := q.notQueued + 1 } } }

/-- The record of a condition, as the recorder accepts it now (R308, R310, R311). -/
def State.mkRec (s : State) (code sev kind subject : Nat) (payload : Bytes) : Rec :=
  { code := code, sev := sev,
    flags := s.clk.ptpState.src + (if s.standbyFlag then 4 else 0) + (if s.ev.replace then 8 else 0),
    seq := s.ev.nextSeq, opTime := s.ev.opTime, pwrCycles := s.ev.pwrCycles, kind := kind, subject := subject,
    calTime := if s.clk.ptpState = .free then 0 else s.clk.ptp, payload := payload }

/-- EVENT_RECORD: the recorder accepts a record, assigns SEQ and writes ring and event queue (R312, R314). -/
def State.record (s : State) (code sev kind subject : Nat) (payload : Bytes) : State :=
  let r := s.mkRec code sev kind subject payload
  { s.withHost (s.hostSide.queueEvent s.ev.minSev r) with ev := s.ev.push r }

/-- Subject kinds of Table 13-1. -/
def kNone : Nat := 0
def kPort : Nat := 1
def kGroup : Nat := 2
def kSlot : Nat := 3
def kPipe : Nat := 4
def kEndpoint : Nat := 5
def kShelf : Nat := 6
def kCapture : Nat := 7
def kFlash : Nat := 8
def kDram : Nat := 9
def kLink : Nat := 10

/-- One REPLACE record (R323): cause, part code of Table 13-5, raised or cleared. -/
def State.replaceRecord (s : State) (cause kind subject : Nat) (raised : Bool) : State :=
  let part := if cause = 4 then 1 else if cause = 5 then 2 else if cause = 6 then 3 else if cause = 7 then 4 else 0
  s.record 0x0105 1 kind subject (leBytes 1 cause ++ leBytes 1 part ++ leBytes 1 (if raised then 1 else 0))

/-- Raising of a replacement request of causes 0 to 4 and 7 (R322). -/
def State.raiseCause (s : State) (cause kind subject : Nat) : State :=
  if s.ev.causes.contains cause then s
  else { s with ev := { s.ev with causes := s.ev.causes ++ [cause], alert := true } }.replaceRecord cause kind subject true

/-- Clearing of such a request. -/
def State.clearCause (s : State) (cause kind subject : Nat) : State :=
  if s.ev.causes.contains cause then
    { s with ev := { s.ev with causes := s.ev.causes.filter (· != cause) } }.replaceRecord cause kind subject false
  else s

/-- Raising of cause 5 (PORT) or 6 (CELL) for a port. -/
def State.raisePort (s : State) (cause p : Nat) : State :=
  if cause = 5 then
    if s.ev.portCause.contains p then s
    else { s with ev := { s.ev with portCause := s.ev.portCause ++ [p], alert := true } }.replaceRecord 5 kPort p true
  else
    if s.ev.cellCause.contains p then s
    else { s with ev := { s.ev with cellCause := s.ev.cellCause ++ [p], alert := true } }.replaceRecord 6 kPort p true

/-- Clearing of cause 5 or 6 for a port. -/
def State.clearPort (s : State) (cause p : Nat) : State :=
  if cause = 5 then
    if s.ev.portCause.contains p then
      { s with ev := { s.ev with portCause := s.ev.portCause.filter (· != p) } }.replaceRecord 5 kPort p false
    else s
  else
    if s.ev.cellCause.contains p then
      { s with ev := { s.ev with cellCause := s.ev.cellCause.filter (· != p) } }.replaceRecord 6 kPort p false
    else s

/-! ### Buffers (R352, R363) -/

/-- SPACE bit: the buffer lies in the host DMA region. -/
def bufInDma (b : Buf) : Bool := bitAt b.addr 0

/-- Byte address or offset of the buffer. -/
def bufBase (b : Buf) : Nat := (b.addr % 2 ^ 64) / 8 * 8

/-- Reserved address bits are 0, a SPACE 1 buffer lies inside the 256 MiB region, and the length holds `need` bytes. -/
def bufOk (b : Buf) (need : Nat) : Bool :=
  bits b.addr 2 1 == 0 && (!(bufInDma b) || decide (bufBase b + b.len ≤ 2 ^ 28)) && decide (need ≤ b.len)

/-- n bytes of a buffer from an offset. -/
def State.bufRead (s : State) (b : Buf) (off n : Nat) : Bytes :=
  if bufInDma b then Mem.readN 0 s.hdma (bufBase b + off) n else Mem.readN 0 s.hostMem (bufBase b + off) n

/-- Data returned to a host buffer (R339 step 1). -/
def State.bufWrite (s : State) (b : Buf) (data : Bytes) : State :=
  if bufInDma b then { s with hdma := Mem.writeN 0 s.hdma (bufBase b) data } else s.withHost (s.hostSide.write (bufBase b) data)

/-! ### Statuses (Table 15-5) and the checks of a started command (R357) -/

def stOk : Nat := 0x00
def stSuperseded : Nat := 0x01
def stBadOpcode : Nat := 0x02
def stBadLength : Nat := 0x03
def stBadParam : Nat := 0x04
def stLoopClosed : Nat := 0x05
def stBusy : Nat := 0x06
def stNotOwner : Nat := 0x07
def stDenied : Nat := 0x08
def stUnattainable : Nat := 0x09
def stBlockNotIdle : Nat := 0x0A
def stLogFull : Nat := 0x0B
def stAuthFail : Nat := 0x0C
def stAborted : Nat := 0x0D
def stTimeout : Nat := 0x0E
def stClockNotGood : Nat := 0x0F

/-- A refusal: status and RESULT. -/
abbrev Refuse := Option (Nat × Nat)

/-- Refusal when a test fails. -/
def need (ok : Bool) (status result : Nat) : Refuse := if ok then none else some (status, result)

/-- BAD_PARAM naming the entry offset of the first field found wrong (R355). -/
def param (ok : Bool) (off : Nat) : Refuse := need ok stBadParam off

/-- How the checks of a command are given. -/
structure Cmd where
  op : Nat
  /-- Marked "Active only" in Table 15-8 (step 3). -/
  activeOnly : Bool := false
  /-- Accepted before START_STATE reaches RUN (R403). -/
  early : Bool := false
  /-- Steps 2, 4 and 5 of R357: entry alone. -/
  chk : Refuse := none
  /-- Ends OK at step 4 with no data: a read with count 0 (R358). -/
  zero : Bool := false
  /-- Step 6 of R357: the state of the object. -/
  chk6 : Refuse := none

/-- Commands that need a block of Table 17-4 (R397). -/
def blockOps (block : Nat) : List Nat :=
  if block = 1 then [0x0801, 0x0802]
  else if block = 2 then [0x0601, 0x0602]
  else if block = 3 then [0x0501, 0x0502, 0x0701, 0x0702, 0x0703]
  else if block = 4 then [0x0701, 0x0702, 0x0703, 0x0704, 0x0B02]
  else if block = 5 then [0x0A01, 0x0A02, 0x0804, 0x0704]
  else if block = 6 then [0x0901, 0x0902, 0x0A02, 0x0803, 0x0804]
  else []

/-- The command needs the block whose BLOCK reset runs (R397). -/
def ResetCtl.blocks (r : ResetCtl) (op : Nat) : Bool := r.blockActive && (blockOps r.blockCode).contains op

/-- The first check of R357 steps 3 to 6 that refuses a command. -/
def State.refusal (s : State) (c : Cmd) : Refuse :=
  (if c.activeOnly then
    (if s.role = .starting then some (stBusy, 0) else if s.role = .active then none else some (stNotOwner, 0))
   else none)
  <|> (if c.zero then some (stOk, 0) else c.chk)
  <|> (if s.rc.run || c.early then none else some (stBusy, 0))
  <|> (if s.rc.blocks c.op then some (stBusy, 0) else none)
  <|> c.chk6

/-- Commands whose fetch ends Quiet (Table 17-9). -/
def wakes (op : Nat) : Bool :=
  op == 0x0401 || op == 0x0B03 || op / 0x100 == 0x05 || op / 0x100 == 0x06 || op / 0x100 == 0x07

/-- Quiet left (R405). -/
def State.leaveQuiet (s : State) : State :=
  if s.rc.power = .quiet then { s with rc := { s.rc with power := .run } } else s

/-- A command starts (R351, R357): a refusal or CHECK_ONLY completes it; otherwise it joins the commands in flight and
acts. -/
def State.start (s : State) (h : CmdHdr) (c : Cmd) (act : State → State) : State :=
  let s := if wakes c.op then s.leaveQuiet else s
  match s.refusal c with
  | some (st, r) => s.complete h st r
  | none => if h.checkOnly then s.complete h stOk 0 else act s

/-- A started command that waits. -/
def State.await (s : State) (h : CmdHdr) (op : Nat) (w : Wait) : State :=
  { s with hq := { s.hq with
      inflight := s.hq.inflight ++ [{ hdr := h, op := op, wait := w, no := s.hq.curNo.getD s.hq.fetchNo }]
      fetchNo := if s.hq.curNo.isNone then s.hq.fetchNo + 1 else s.hq.fetchNo } }

/-- Completion of a started command at once. -/
def State.done (s : State) (h : CmdHdr) (status result : Nat) : State := s.complete h status result

/-! ### Small accessors -/

def State.slot (s : State) (k : Nat) : Slot := nth s.le.slots k {}
def State.port (s : State) (p : Nat) : Port := nth s.ports p {}
def State.group (s : State) (g : Nat) : Group := nth s.groups g {}
def State.setSlot (s : State) (k : Nat) (f : Slot → Slot) : State :=
  { s with le := { s.le with slots := upd s.le.slots k f } }
def State.setPort (s : State) (p : Nat) (f : Port → Port) : State := { s with ports := upd s.ports p f }
def State.setGroup (s : State) (g : Nat) (f : Group → Group) : State := { s with groups := upd s.groups g f }
def State.mapPorts (s : State) (f : Port → Port) : State := { s with ports := s.ports.map f }
def State.mapGroups (s : State) (f : Group → Group) : State := { s with groups := s.groups.map f }

/-- The module transmits to the cells and owns them (Table 11-1). -/
def State.active (s : State) : Bool := s.role == .active

/-- The module drives SNUFF_N low; on a standby SNUFF_OUT is the active's, from its copy (R241, R283, Table 11-4). -/
def State.drivesSnuff (s : State) : Bool := s.active && s.gv.snuffOut

/-- Member ports of a group, whatever their state, lowest first (R82). -/
def State.members (s : State) (g : Nat) : List Nat :=
  (List.range s.part.ports).filter (fun p => (s.port p).isCell && (s.port p).group == g)

/-- Members not retired, lowest first (R46). -/
def State.activeMembers (s : State) (g : Nat) : List Nat := (s.members g).filter (fun p => !(s.port p).out)

/-- A free bit, and the count of free values taken. -/
def State.freeBit (s : State) : Bool × State := (Config.freeBit s.free, { s with free := s.free + 1 })

/-- A free number, and the count of free values taken. -/
def State.freeNat (s : State) : Nat × State := (Config.freeNat s.free, { s with free := s.free + 1 })

/-- n free bytes, and the count of free values taken. -/
def State.freeBytes (s : State) (n : Nat) : Bytes × State :=
  ((List.range n).map (Config.freeByte s.free), { s with free := s.free + 1 })

/-- The state with another queue of waiting commands. -/
def State.withPending (s : State) (l : List Instr) : State := { s with pending := l }

/-- 500 ns of an open slot's time (R76), which counts with OPEN_MAX 0 too (Table 3-16, assumption 98). -/
def Slot.idle (x : Slot) : Slot := if x.loaded && !x.closed then { x with openNs := x.openNs + 500 } else x

/-- 500 ns of the root's count, and of the PTP timer at its last steered frequency (R254, R255). -/
def Clock.tick (c : Clock) : Clock :=
  let part := c.ptpFrac + 500 * c.ptpFreq
  { c with now := c.now + 500, ptp := c.ptp + 500 + part / 2 ^ 32, ptpFrac := part % 2 ^ 32 }

/-- One frame period of 500 ns in which nothing arrives (R80; assumption 4): the root's count goes on while it has power
and a good clock, the PTP timer and the frame counter while their domains are out of reset. -/
def State.idlePeriod (s : State) : State :=
  if s.rc.power = .off ∨ s.rc.badClk.contains 0 then s
  else
    { s with
      clk := { s.clk.tick with ptp := if s.rc.on 17 then s.clk.tick.ptp else s.clk.ptp
                               ptpFrac := if s.rc.on 17 then s.clk.tick.ptpFrac else s.clk.ptpFrac }
      le := if s.rc.on 4 then { s.le with frame := (s.le.frame + 1) % 2 ^ 64, slots := s.le.slots.map Slot.idle } else s.le }

end Sys2Proof.Machine
end

