-- ==== Sys2Proof/Machine/SlotMath.lean ====
section
/-!
DEFINITION. The arithmetic of one slot evaluation: R50 to R58, R65, R70, R72, R75, R455, to the bit. A pair
(value, flag) carries whether a saturation changed a value, which R455 reports in SAT.
-/

namespace Sys2Proof.Machine

open Sys2Proof

/-- A value and whether a saturation on the way to it changed a value (R455). -/
abbrev SatVal := Int × Bool

/-- sat32 and sat64 of R52. -/
def sat32 (v : Int) : SatVal := let r := satI 32 v; (r, r != v)
def sat64 (v : Int) : SatVal := let r := satI 64 v; (r, r != v)

/-- round_half_even(d, n) of R52: n low bits dropped. -/
def roundHalfEven (d : Int) (n : Nat) : Int :=
  let q := d / 2 ^ n
  let f := d % 2 ^ n
  if n = 0 then d
  else if f > 2 ^ (n - 1) ∨ (f = 2 ^ (n - 1) ∧ q % 2 = 1) then q + 1 else q

/-- round_sat32 of R52. -/
def roundSat32 (a : Int) : SatVal := sat32 (roundHalfEven a 16)

/-- term(m, s, x) of R51. -/
def term (m : Int) (sh : Nat) (x : Int) : SatVal :=
  if sh ≤ 16 then sat64 (m * x * 2 ^ (16 - sh)) else ((m * x) / 2 ^ (sh - 16), false)

/-- Saturated sum of an accumulator and a term, flags joined (R51). -/
def accAdd (a t : SatVal) : SatVal := let r := sat64 (a.1 + t.1); (r.1, a.2 || t.2 || r.2)

/-- Saturated difference. -/
def accSub (a t : SatVal) : SatVal := let r := sat64 (a.1 - t.1); (r.1, a.2 || t.2 || r.2)

/-- Coefficient pair at a register offset of the slot. -/
def Slot.coef (s : Slot) (off : Nat) (x : Int) : SatVal :=
  term (s.word off).toInt (bits (s.word (off + 4)).toNat 4 0) x

/-- shape(e) of R53. -/
def Slot.shape (s : Slot) (e : Int) : SatVal :=
  let a := min (absI e) (2 ^ 31 - 1)
  let flag := absI e != a
  let v := a / 2 ^ s.gtShift
  let j := (v / 1024).toNat
  let fr := v % 1024
  let t := if j ≥ 63 then s.gt 63
    else clampI 0 (2 ^ 31 - 1) (s.gt j + roundHalfEven ((s.gt (j + 1) - s.gt j) * fr) 10)
  (if e < 0 then -t else t, flag)

/-- notch(n, x0) of R54 on notch k (0 or 1): its output and its new state x1, x2, y1, y2. -/
def Slot.notch (s : Slot) (k : Nat) (st : List Int) (x0 : Int) : SatVal × List Int :=
  let b := 0x050 + 40 * k
  let x1 := nth st (4 * k) 0
  let x2 := nth st (4 * k + 1) 0
  let y1 := nth st (4 * k + 2) 0
  let y2 := nth st (4 * k + 3) 0
  let acc := accAdd (0, false) (s.coef b x0)
  let acc := accAdd acc (s.coef (b + 8) x1)
  let acc := accAdd acc (s.coef (b + 16) x2)
  let acc := accSub acc (s.coef (b + 24) y1)
  let acc := accSub acc (s.coef (b + 32) y2)
  let y0 := roundSat32 acc.1
  ((y0.1, acc.2 || y0.2),
    ((((st.set (4 * k + 1) x1).set (4 * k) x0).set (4 * k + 3) y1).set (4 * k + 2) y0.1))

/-- Both notches in turn where enabled (R54). -/
def Slot.notches (s : Slot) (st : List Int) (x : Int) : SatVal × List Int :=
  let r1 := if s.nEn 0 then s.notch 0 st x else ((x, false), st)
  let r2 := if s.nEn 1 then s.notch 1 r1.2 r1.1.1 else (r1.1, r1.2)
  ((r2.1.1, r1.1.2 || r2.1.2), r2.2)

/-- taper_step of R72: the set-point, the new position and TAPER_DONE. -/
def taperStep (pos : Int) (rate : Nat) (rt : Int) : SatVal × Int × Bool :=
  let tgt := rt * 2 ^ 16
  let p := if pos < tgt then min (pos + rate) tgt else if pos > tgt then max (pos - rate) tgt else pos
  (sat32 (roundHalfEven p 16), p, p == tgt)

/-- A source value as read at the start of an evaluation (R24, R44): the value, whether a held sample was used (R47),
whether its group sum saturated (R46), and whether an XIN source was not valid (R48). -/
structure SrcVal where
  v : Int := 0
  stale : Bool := false
  sat : Bool := false
  gated : Bool := false
deriving DecidableEq, Repr

/-- What an evaluation reads: measurement, raw set-point, feed-forward; whether nesting stops integration (R79). -/
structure EvalIn where
  y : SrcVal
  rt : SrcVal
  f : SrcVal
  nestHold : Bool
deriving DecidableEq, Repr

/-- The error of R58. -/
def Slot.e0 (s : Slot) (y r : Int) : SatVal := if s.errNeg then sat32 (y - r) else sat32 (r - y)

/-- The error path of R58 up to ep, ei and xd, from a notch state: (ep, ei, xd, new notch state, flag). -/
structure ErrPath where
  ep : Int
  ei : Int
  xd : Int
  st : List Int
  sat : Bool
deriving DecidableEq, Repr

def Slot.errPath (s : Slot) (st : List Int) (e0 y : Int) : ErrPath :=
  let ne := if s.notchOut then ((e0, false), st) else s.notches st e0
  let e := ne.1.1
  let es := s.shape e
  let ep := if s.gtApply = 1 ∨ s.gtApply = 3 then es.1 else e
  let ei := if s.gtApply = 2 ∨ s.gtApply = 3 then es.1 else e
  let ny := sat32 (-y)
  { ep := ep, ei := ei, xd := if s.dSrcY then ny.1 else e, st := ne.2,
    sat := ne.1.2 || es.2 || (s.dSrcY && ny.2) }

/-- Notch state with the four values of each enabled notch set to v; a disabled notch keeps 0 (R70). -/
def Slot.notchSeed (s : Slot) (v : Int) : List Int :=
  List.replicate 4 (if s.nEn 0 then v else 0) ++ List.replicate 4 (if s.nEn 1 then v else 0)

/-- The status both kinds of evaluation record (R47, R48, R455, Table 2-23). -/
def Slot.record (s : Slot) (x : EvalIn) (r e0 : Int) (sat : Bool) : Slot :=
  let stale := x.y.stale || x.rt.stale || (s.ffEn && x.f.stale)
  { s with measv := x.y.v, setv := r, ffv := if s.ffEn then x.f.v else 0, err := e0, stale := stale,
           ffGated := s.ffEn && x.f.gated,
           sat := s.sat || sat || x.y.sat || x.rt.sat || (s.ffEn && x.f.sat),
           evals := (s.evals + 1) % 2 ^ 32, stales := if stale then satInc 32 s.stales else s.stales }

/-- evaluate_open of R65; NEST_HELD is of this evaluation (R79, Table 3-14). -/
def Slot.evalOpen (s : Slot) (x : EvalIn) : Slot :=
  let e0 := s.e0 x.y.v x.rt.v
  { s.record x x.rt.v e0.1 e0.2 with clamp := 0, nestHeld := x.nestHold }

/-- Following-error supervision of a closed evaluation (R75). -/
def Slot.follow (s : Slot) (e0 : Int) : Slot :=
  if !s.feEn then s else
  let c := if absI e0 > s.feLimit then min (s.feCtr + 1) s.feCount else s.feCtr - 1
  let trip := decide (c ≥ s.feCount) && !s.feLatched
  { s with feCtr := c, feLatched := (s.feLatched || trip) && c != 0, feDue := (s.feDue || trip) && c != 0 }

/-- A closed evaluation: close_init of R70 when one is due, then R58. `held` is the command the destination holds for
PRELOAD_HELD. -/
def Slot.evalClosed (s : Slot) (x : EvalIn) (held : Int) : Slot :=
  let seed := match s.init with
    | none => s.taperPos
    | some .takeover => s.taperPos
    | some _ => if s.taperEn then x.y.v * 2 ^ 16 else s.taperPos
  let tp := if s.taperEn then taperStep seed s.taperRate x.rt.v else ((x.rt.v, false), seed, s.taperDone)
  let r := tp.1.1
  let e0 := s.e0 x.y.v r
  let h := match s.init with
    | some .held => held
    | some .takeover => held
    | some (.value v) => v
    | _ => s.out
  let st0 := match s.init with
    | none => s.n
    | some _ => s.notchSeed (if s.notchOut then h else e0.1)
  let ep := s.errPath st0 e0.1 x.y.v
  let f := if s.ffEn then x.f.v else 0
  let p := if s.pEn then s.coef 0x020 ep.ep else (0, false)
  let g := if s.ffEn then s.coef 0x038 f else (0, false)
  let integ0 := match s.init with
    | none => s.integ
    | some .keep => s.integ
    | some _ => (sat64 (h * 2 ^ 16 - p.1 - g.1)).1
  let xd0 := match s.init with
    | none => s.xdPrev
    | some _ => ep.xd
  let acc := accAdd (0, false) p
  let cand := if s.iEn then accAdd (integ0, false) (s.coef 0x028 ep.ei) else (integ0, false)
  let acc := accAdd acc cand
  let dx := sat32 (ep.xd - xd0)
  let dt := s.coef 0x030 dx.1
  let acc := if s.dEn then accAdd acc (dt.1, dt.2 || dx.2) else acc
  let acc := if s.ffEn then accAdd acc g else acc
  let u0 := roundSat32 acc.1
  let no := if s.notchOut then s.notches ep.st u0.1 else ((u0.1, false), ep.st)
  let uo := no.1.1
  let clamp := if uo > s.outMax then 1 else if uo < s.outMin then 2 else 0
  let out := if uo > s.outMax then s.outMax else if uo < s.outMin then s.outMin else uo
  let sat := tp.1.2 || e0.2 || ep.sat || acc.2 || u0.2 || no.1.2
  let s1 := s.record x r e0.1 sat
  { s1.follow e0.1 with
    taperPos := tp.2.1, taperDone := tp.2.2, xdPrev := ep.xd, n := no.2, out := out, clamp := clamp,
    clamps := if clamp = 0 then s1.clamps else satInc 32 s1.clamps,
    integ := if clamp = 0 ∧ ¬ x.nestHold then cand.1 else integ0,
    nestHeld := x.nestHold, init := none }

/-- An evaluation discarded for parity (R60, R74): counted in EVALS alone. -/
def Slot.discard (s : Slot) : Slot := { s with parity := true, evals := (s.evals + 1) % 2 ^ 32 }

/-- A pending change taken at the start of an evaluation (R61, R66, R67, R75, R76). -/
def Slot.apply (s : Slot) : SlotChange → Slot
  | .openIt | .openAfter _ => if s.closed then { s with closed := false, init := none, openNs := 0, openDone := false } else s
  | .closeIt p =>
    if s.closed then s
    else { s with closed := true, init := some p, feCtr := 0, feLatched := false, feDue := false, openNs := 0,
                  openDone := false }
  | .load w sup =>
    if s.closed then s
    else { s with w := w, sup := sup, n := List.replicate 8 0, xdPrev := 0 }

/-- A change that does not wait for another slot. -/
def SlotChange.free : SlotChange → Bool
  | .openAfter _ => false
  | _ => true

/-- The pending changes up to one that waits for another slot, in the order they were handed over. -/
def Slot.applyAll (s : Slot) : Slot :=
  (s.pend.takeWhile SlotChange.free).foldl Slot.apply { s with pend := s.pend.dropWhile SlotChange.free }

/-- The pending changes wait for no other slot. -/
def Slot.unwait (s : Slot) : Slot := { s with pend := s.pend.map (fun c => if c.free then c else .openIt) }

/-- A slot whose opening waited for slot k waits no more. -/
def Slot.follows (k : Nat) (s : Slot) : Slot :=
  { s with pend := s.pend.map (fun c => if c = .openAfter k then .openIt else c) }

end Sys2Proof.Machine
end

