-- ==== Sys2Proof/Machine/Operands.lean ====
section
/-!
DEFINITION. Operand forms: what a source selector reads (R44 to R49, R456), and where a slot's output goes (R59).
-/

namespace Sys2Proof.Machine

open Sys2Proof

/-- PICK among the samples of a channel, earlier first (R45). -/
def pickOf (pick : Nat) (l : List Int) : Int :=
  match l with
  | [] => 0
  | [a] => a
  | a :: b :: _ => if pick = 1 then a else if pick = 2 then divRne (a + b) 2 else b

/-- Picked sample of a port's channel; a port beyond the part reads 0 (R10). -/
def State.portSample (s : State) (p ch pick : Nat) : Int :=
  if p < s.part.ports then pickOf pick (nth (s.port p).smp ch []) else 0

/-- The value a source selector reads at the start of an evaluation; `c` is the slot's CONST (R44). -/
def State.readSrc (s : State) (sel : Nat) (c : Int) : SrcVal :=
  let ix := selIndex sel
  let ch := selChannel sel
  let pk := selPick sel
  if selType sel = 1 then { v := s.portSample ix ch pk, stale := (s.port ix).stale }
  else if selType sel = 2 then
    let m := s.activeMembers ix
    let t := sat32 (sumOf m (fun p => s.portSample p ch pk))
    { v := t.1, stale := m.any (fun p => (s.port p).stale), sat := t.2 }
  else if selType sel = 3 then { v := (s.slot ix).out }
  else if selType sel = 4 then
    if bitAt s.le.xinValid ix then { v := nth s.le.xinVal ix 0 } else { v := 0, gated := true }
  else if selType sel = 5 then { v := c }
  else {}

/-- A selector outside a slot, which has no constant (R456). -/
def State.readSel (s : State) (sel : Nat) : SrcVal := s.readSrc sel 0

/-- The selector reads no stale sample. -/
def State.selGood (s : State) (sel : Nat) : Bool := !(s.readSel sel).stale

/-- Destination ports of a slot (R59, R82): of a GROUP, every member port. -/
def State.destPorts (s : State) (x : Slot) : List Nat :=
  if x.destType = 1 then [x.destIndex] else if x.destType = 2 then s.members x.destIndex else []

/-- The entry of a slot in the table in force. -/
def State.entry (s : State) (k : Nat) : Option SchedEnt := s.le.table.ents.find? (fun e => e.slot == k)

/-- The slot's output sent to its destination's command fields (R59). -/
def State.sendOut (s : State) (x : Slot) : State :=
  (s.destPorts x).foldl (fun s p => s.setPort p (fun q => { q with cmd := q.cmd.set x.destField x.out })) s

/-- The command the destination holds for PRELOAD_HELD: the lowest member port that is not retired and has delivered a
HELD report for the field (R70, R71). -/
def State.heldOf (s : State) (x : Slot) : Option Int :=
  ((s.destPorts x).filter (fun p => !(s.port p).out)).findSome? (fun p => nth (s.port p).held x.destField none)

/-- Member ports of the destination report different held values (R71). -/
def State.heldDiffers (s : State) (x : Slot) : Bool :=
  let l := ((s.destPorts x).filter (fun p => !(s.port p).out)).filterMap (fun p => nth (s.port p).held x.destField none)
  l.any (fun v => v != l.headD 0)

/-- Inner slots that a slot feeds (R78): their set-point source is that slot. -/
def State.inners (s : State) (k : Nat) : List Nat :=
  (List.range s.part.slots).filter
    (fun j => j != k && (s.slot j).loaded && selType (s.slot j).setp == 3 && selIndex (s.slot j).setp == k)

/-- Nesting stops integration of an outer slot (R79). -/
def State.nestHold (s : State) (k : Nat) : Bool :=
  (s.inners k).any (fun j => !(s.slot j).closed || ((s.slot k).nestAw && (s.slot j).clamp != 0))

/-- Cycle, counted from F = 0, at which a slot's evaluation of the present frame period starts (R80). -/
def State.evalCycle (s : State) (k : Nat) : Nat :=
  400 * s.le.frame + (match s.entry k with
    | some e => e.start
    | none => 0)

/-- The output of slot j as it stands when slot k's evaluation starts: an evaluation of another slot that starts in the same
cycle, or has not ended its 32 cycles, has not yet written its output (R24, R42, R49). -/
def State.slotOut (s : State) (k j : Nat) : Int :=
  let y := s.slot j
  let now := s.evalCycle k
  match y.evalAt with
  | some a => if j != k && decide (a ≤ now) && decide (now < a + 32) then y.prevOut else y.out
  | none => y.out

/-- A source as slot k's evaluation reads it. -/
def State.evalSrc (s : State) (k sel : Nat) (c : Int) : SrcVal :=
  if selType sel = 3 then { v := s.slotOut k (selIndex sel) } else s.readSrc sel c

/-- What an evaluation of a slot reads (R58). -/
def State.evalIn (s : State) (k : Nat) : EvalIn :=
  let x := s.slot k
  { y := s.evalSrc k x.meas x.const, rt := s.evalSrc k x.setp x.const, f := s.evalSrc k x.ff x.const,
    nestHold := s.nestHold k }

end Sys2Proof.Machine
end

