-- ==== Sys2Proof/Machine/Sequencer.lean ====
section
/-!
DEFINITION. The power-train sequencer: starts, quenches, retirements, restores, the bus target and burst
(R92, R99 to R113).
-/

namespace Sys2Proof.Machine

open Sys2Proof

/-! ### Slots -/

/-- A change handed to the Loop Engine. It takes effect at the slot's next evaluation (R61, R66); a slot that no table
reaches takes it at once (assumption 10). -/
def State.handSlot (s : State) (k : Nat) (c : SlotChange) : State :=
  if (s.entry k).isSome then s.setSlot k (fun x => { x with pend := x.pend ++ [c] })
  else s.setSlot k (fun x => x.apply c)

/-- Opening of the group's slots, outer first (R103). -/
def State.groupSlots (s : State) (g : Nat) : List Nat :=
  let G := s.group g
  [G.voltSlot] ++ (if G.gtype = 1 then (s.members g).map (fun p => (s.port p).cellSlot) else [G.currSlot])

/-- A slot that is closed or about to be. -/
def Slot.closing (x : Slot) : Bool :=
  x.pend.foldl (fun b c => match c with
    | .openIt => false
    | .openAfter _ => false
    | .closeIt _ => true
    | .load _ _ => b) x.closed

def State.openSlots (s : State) (l : List Nat) : State :=
  l.foldl (fun s k => if (s.slot k).closing then s.handSlot k .openIt else s) s

/-- A slot takes its pending changes; openings that waited for its own follow (R61, R66, R103). -/
def State.takeChanges (s : State) (k : Nat) : State :=
  let opens := (s.slot k).pend.any (· == .openIt)
  let s := s.setSlot k Slot.applyAll
  if opens then { s with le := { s.le with slots := s.le.slots.map (Slot.follows k) } } else s

/-- The slots of a group are opened at their next evaluations, outer first (R103, R112). -/
def State.openGroup (s : State) (g : Nat) : State :=
  let o := (s.group g).voltSlot
  let wait := (s.slot o).closed && (s.entry o).isSome
  (s.groupSlots g).foldl (fun s k =>
    if !(s.slot k).closing then s else s.handSlot k (if wait && k != o then .openAfter o else .openIt)) s

/-- LE_SLOT_CONST of a slot written by the sequencer (R109). -/
def State.setConst (s : State) (k : Nat) (v : Int) : State :=
  s.setSlot k (fun x => { x with w := x.w.set 5 (BitVec.ofInt 32 v) })

/-- LE_TAPER_RATE of a slot written by the sequencer (R109). -/
def State.setRate (s : State) (k r : Nat) : State :=
  s.setSlot k (fun x => { x with sup := x.sup.set 4 (BitVec.ofNat 32 r) })

/-- taper_rate of R109. -/
def taperRateOf (slew k : Nat) : Nat := (divRne ((slew * k * 32768 : Nat) : Int) 1000).toNat

/-! ### Structure checks (R92, Table 4-1) -/

/-- The outer slot meets Table 4-1. -/
def outerOk (gtype g : Nat) (x : Slot) : Bool :=
  x.destType == 0 &&
    (if gtype = 3 then selType x.setp == 4 && selIndex x.setp == g + 1 else selType x.setp == 5 && x.taperEn)

/-- An inner slot meets Table 4-1. -/
def innerOk (gtype g port volt : Nat) (x : Slot) : Bool :=
  selType x.setp == 3 && selIndex x.setp == volt &&
    (if gtype = 1 then x.destType == 1 && x.destIndex == port else x.destType == 2 && x.destIndex == g)

/-- A required slot is LOADED and scheduled. -/
def State.ready (s : State) (k : Nat) : Bool := (s.slot k).loaded && (s.entry k).isSome

/-- The CELL_SLOT of a grid cell is LOADED, scheduled and meets Table 4-1. -/
def State.cellSlotOk (s : State) (p : Nat) : Bool :=
  let P := s.port p
  s.ready P.cellSlot && innerOk 1 P.group p (s.group P.group).voltSlot (s.slot P.cellSlot)

/-- Every required slot of a group is LOADED, scheduled and meets Table 4-1 (R92). -/
def State.requiredOk (s : State) (g : Nat) : Bool :=
  let G := s.group g
  s.ready G.voltSlot && outerOk G.gtype g (s.slot G.voltSlot) &&
    (if G.gtype = 1 then (s.activeMembers g).all s.cellSlotOk
     else s.ready G.currSlot && innerOk G.gtype g 0 G.voltSlot (s.slot G.currSlot))

/-! ### Bus target (R108 to R111) -/

/-- Bus groups, lowest first. -/
def State.busGroups (s : State) : List Nat := (List.range 16).filter (fun g => (s.group g).gtype == 2)

/-- Divisor of a slot in the table in force. -/
def State.divisor (s : State) (k : Nat) : Nat :=
  match s.entry k with
  | some e => e.k
  | none => 1

/-- The target given to a bus group: the target in force, raised by BURST_HI in BURST_RUN (R112). -/
def State.busAim (s : State) (g : Nat) : Int :=
  if (s.group g).state = .burstRun then s.sh.target + s.sh.burstHi else s.sh.target

/-- Target and rate written into the VOLT_SLOT of one bus group (R109). -/
def State.aimGroup (s : State) (g : Nat) : State :=
  let k := (s.group g).voltSlot
  (s.setConst k (s.busAim g)).setRate k (taperRateOf s.sh.slew (s.divisor k))

/-- Target and rate written for every bus group that is not OFF. -/
def State.aimAll (s : State) : State :=
  (s.busGroups.filter (fun g => (s.group g).state != .off)).foldl State.aimGroup s

/-- The Taper of a bus group has reached the target in force; burst groups count as at it (Table 4-13). -/
def State.atTarget (s : State) (g : Nat) : Bool :=
  let G := s.group g
  G.state == .burstRun || G.state == .burstSleep ||
    (let x := s.slot G.voltSlot
     x.closed && x.taperDone && x.taperPos == s.sh.target * 2 ^ 16)

/-- Bus groups in the completion condition of BUS_VSET: not OFF, and not quenched during the slew (R110). -/
def State.busLive (s : State) : List Nat :=
  s.busGroups.filter (fun g => (s.group g).state != .off && (s.group g).state != .quenching)

/-- Completion of a BUS_VSET whose groups have all reached the target (R110). -/
def State.busCheck (s : State) : State :=
  if s.busLive.all s.atTarget then
    s.completeWhere (· == Wait.busVset) stOk (s.busLive.foldl (fun m g => m + 2 ^ g) 0)
  else s

/-- The running BUS_VSET ends SUPERSEDED (R110, R111). -/
def State.supersedeBus (s : State) : State :=
  if s.waiting Wait.busVset then
    { s with sh := { s.sh with superseded := true } }.completeWhere (· == Wait.busVset) stSuperseded 0
  else s

/-! ### Burst (R112, R113) -/

def State.inBurst (s : State) (g : Nat) : Bool :=
  (s.group g).state == .burstRun || (s.group g).state == .burstSleep

def State.burstGroups (s : State) : List Nat := (List.range 16).filter s.inBurst

/-- The measured bus (R112): PB_OUT_SRC of the lowest burst group. -/
def State.burstBus (s : State) : SrcVal := s.readSel (s.group (s.burstGroups.headD 0)).pbOut

/-- One group leaves burst: REGULATING, its Taper re-seeded from the measurement (R113); a GROUP_ENABLE that still waited for
REGULATING completes (R100). A group that slept closes as after BURST_SLEEP, with PRELOAD_OUT for its inner slots
(assumption 99). -/
def State.leaveBurst (s : State) (g : Nat) : State :=
  let G := s.group g
  let slept := G.state == .burstSleep
  let x := s.slot G.voltSlot
  let y := (s.readSrc x.meas x.const).v
  let s := s.setGroup g (fun G =>
    { G with state := .regulating, startPend := G.startPend || slept, wakePend := G.wakePend || slept, toReg := false })
  let s := (s.setSlot G.voltSlot (fun x => if slept then x else { x with taperPos := y * 2 ^ 16, taperDone := false })).aimGroup g
  if G.toReg then s.completeWhere (· == Wait.groupEnable g) stOk 0 else s

/-- BURST_EXIT: every burst group returns to REGULATING, and burst waits for BURST_DWELL (R113). -/
def State.burstExit (s : State) : State :=
  if s.burstGroups.isEmpty then s
  else
    let s := s.burstGroups.foldl State.leaveBurst s
    { s with sh := { s.sh with burstHold := s.sh.useDwell, burstLow := 0 } }

/-- A running burst group goes to sleep: slots opened, outer first (R112). -/
def State.sleepGroup (s : State) (g : Nat) : State :=
  if (s.group g).state = .burstRun then
    (s.setGroup g (fun G => { G with state := .burstSleep, startPend := false, wakePend := false })).openGroup g
  else s

/-- A group enters or goes on in BURST_RUN: one that slept closes again, as R101 gives with PRELOAD_OUT; one that has still to
close goes on with that (R112). -/
def State.runGroup (s : State) (g : Nat) : State :=
  let slept := (s.group g).state == .burstSleep
  (s.setGroup g (fun G =>
    { G with state := .burstRun, startPend := G.startPend || slept, wakePend := G.wakePend || slept })).aimGroup g

/-- The burst groups go to sleep (R112). -/
def State.burstSleep (s : State) : State := s.burstGroups.foldl State.sleepGroup s

/-- The burst groups return to BURST_RUN (R112). -/
def State.burstWake (s : State) : State := s.burstGroups.foldl State.runGroup s

/-- BURST_SLEEP and the bus-voltage exit, at a frame period with a good bus sample (R112, R113). -/
def State.burstFrame (s : State) : State :=
  if s.burstGroups.isEmpty then s
  else
    let b := s.burstBus
    let running := s.burstGroups.any (fun g => (s.group g).state == .burstRun)
    if b.stale then s
    else if b.v < s.sh.target - s.sh.burstExit then s.burstExit
    else if running ∧ b.v ≥ s.sh.target + s.sh.burstHi then s.burstSleep
    else if ¬ running ∧ b.v ≤ s.sh.target - s.sh.burstLo then s.burstWake
    else s

/-- A change of the bus target or slew put in force (R108, R109, R113). -/
def State.setBus (s : State) (target : Int) (slew : Nat) : State :=
  let changed := target != s.sh.target
  let s := { s with sh := { s.sh with target := target, slew := slew } }
  (if changed then s.burstExit else s).aimAll

/-! ### Quench (R103, R104) -/

/-- The group reaches OFF: GROUP_QUENCH completes, a bus change drops it (R103, R110). -/
def State.groupOff (s : State) (g : Nat) : State :=
  let s := s.setGroup g (fun G => { G with state := .off, ovNs := 0, uvNs := 0 })
  (s.completeWhere (· == Wait.groupQuench g) stOk 0).busCheck

/-- A restore in progress on a quenched group ends: DENIED, result 3, the cell stays a member (R107, R374). -/
def State.endRestore (s : State) (p : Nat) : State :=
  if (s.port p).restore.isSome then
    let s := s.setPort p (fun P => { P with restore := none, retired := false })
    let s := { s with rc := { s.rc with retiredBk := s.rc.retiredBk.filter (· != p) } }
    (s.clearPort 6 p).completeWhere (· == Wait.restore p) stDenied 3
  else s

/-- QUENCH: RUN = 0, slots opened, QUENCHING; every sequence of the group ends (R103), and burst ends (R113). `cause` is
LAST_QUENCH. -/
def State.quench (s : State) (g cause : Nat) : State :=
  let G := s.group g
  if G.state = .off ∨ G.state = .quenching then s
  else
    let s := s.setGroup g (fun G =>
      { G with state := .quenching, lastQuench := cause, startPend := false, wakePend := false, toReg := false, regRun := 0 })
    let s := (s.activeMembers g).foldl (fun s p => s.setPort p (fun P => { P with stopSeen := false })) s
    let s := s.openGroup g
    let s := s.completeWhere (· == Wait.groupEnable g) stDenied 1
    let s := (s.members g).foldl State.endRestore s
    s.burstExit.busCheck

/-- Every member bridge of a quenching group reports stopped (R103). -/
def State.quenchSettled (s : State) (g : Nat) : Bool :=
  (s.group g).state == .quenching && (s.activeMembers g).all (fun p => (s.port p).stopSeen)

/-- Quench of every group at once (level 5). -/
def State.quenchShelf (s : State) (cause : Nat) : State :=
  (List.range 16).foldl (fun s g => s.quench g cause) s

/-! ### Start (R100, R101) -/

/-- The start checks of R100 cases 3 to 5: none, or the DENIED result. An invalid calibration page, with which no group starts
(R291), answers result 3 (assumption 100). -/
def State.startRefusal (s : State) (g : Nat) : Option Nat :=
  let G := s.group g
  let vin := (s.readSel G.pbIn).v
  if !s.requiredOk g then some 4
  else if !s.sh.calOk || !((s.activeMembers g).any (fun p => (s.port p).state == .trained)) then some 3
  else if vin < G.vinMin ∨ vin > G.vinMax then some 2
  else none

/-- What a new start of its group lets the detectors of a cell find again: a latch, a temperature or a heat level that still
stands (R156, R158, R159, R166). -/
def Port.rearm (P : Port) : Port := { P with latchTold := 0, tempShut := false, olTrip := false }

/-- Step 1 of R101: STARTING, with the targets of step 4 written. -/
def State.startGroup (s : State) (g : Nat) : State :=
  let G := s.group g
  let s := s.setGroup g (fun G =>
    { G with state := .starting, startPend := true, wakePend := false, toReg := true, autoTried := true, regRun := 0 })
  let s := (s.members g).foldl (fun s p => s.setPort p Port.rearm) s
  let s := { s with sh := { s.sh with
    findings := s.sh.findings.filter (fun f => !((f.subj == Subj.group g || f.subj == Subj.shelf) && decide (f.level ≥ 4))) } }
  if G.gtype = 1 then s.setConst G.voltSlot G.vnom
  else if G.gtype = 2 then s.aimGroup g
  else s

/-- pb_value of R101. -/
def Group.pbValue (G : Group) (vout vin : Int) : Int :=
  if G.pbMode = 0 ∨ vin ≤ 0 then 0 else (sat32 (divRne ((G.pbM : Int) * max vout 0) vin.toNat)).1

/-- Steps 2 and 3 of R101: the outer slot closes at the measurement of the inner, each inner at pb; a group that returns
from burst closes its inner slots with PRELOAD_OUT (R112). -/
def State.closeGroup (s : State) (g : Nat) : State :=
  let G := s.group g
  let inner := (s.activeMembers g).map (fun p => (s.port p).cellSlot)
  let measOf := fun k => (s.readSrc (s.slot k).meas (s.slot k).const).v
  let y := if G.gtype = 1 then meanI (inner.map measOf) else measOf G.currSlot
  let pb := G.pbValue (s.readSel G.pbOut).v (s.readSel G.pbIn).v
  let pre : Preload := if G.wakePend then .out else .value pb
  let s := s.handSlot G.voltSlot (.closeIt (.value y))
  let s := (if G.gtype = 1 then inner else [G.currSlot]).foldl (fun s k => s.handSlot k (.closeIt pre)) s
  s.setGroup g (fun G => { G with startPend := false, wakePend := false, regRun := 0 })

/-! ### Cells (R105 to R107) -/

/-- A restore in progress on a cell that is retired again ends DENIED: result 1 for a latched fault, 2 for a port not
trained, else 0 (R107, R374, assumption 62). -/
def State.cutRestore (s : State) (p : Nat) : State :=
  let P := s.port p
  if P.restore.isSome then
    s.completeWhere (· == Wait.restore p) stDenied (if bitAt P.brFault 0 || bitAt P.brFault 3 then 1 else if P.state != .trained then 2 else 0)
  else s

/-- Retirement of a cell (R105, R106); cause codes 5 to 8 raise a replacement request (R166). -/
def State.retire (s : State) (p cause : Nat) : State :=
  let s := s.cutRestore p
  let P := s.port p
  let s := s.setPort p (fun P => { P with retired := true, cause := cause, stopSeen := false, restore := none,
                                          devCount := 0, imbCount := 0, compLow := 0 })
  let s := { s with rc := { s.rc with retiredBk := if s.rc.retiredBk.contains p then s.rc.retiredBk
                                                     else s.rc.retiredBk ++ [p] } }
  let s := if (s.group P.group).gtype = 1 then s.openSlots [P.cellSlot] else s
  if 5 ≤ cause ∧ cause ≤ 8 then s.raisePort 6 p else s

/-- The cell is the last non-retired cell of a group that is not OFF (R106, R151); a cell whose port is LOST is still the
last one while it is not retired itself (R284). -/
def State.lastCell (s : State) (p : Nat) : Bool :=
  let g := (s.port p).group
  !(s.port p).retired && (s.group g).state != .off && (s.activeMembers g).all (· == p)

/-- The bridge reports a latched fault (R107). -/
def Port.latched (P : Port) : Bool := bitAt P.brFault 0 || bitAt P.brFault 3

/-- A restored cell is a member again: its retirement is no longer in effect (R107, R374, R408). -/
def State.rejoin (s : State) (p : Nat) : State :=
  let s := s.setPort p (fun P => { P with retired := false, restore := none, tempAgain := P.cause == 4 })
  let s := { s with rc := { s.rc with retiredBk := s.rc.retiredBk.filter (· != p) },
                    sh := { s.sh with findings := s.sh.findings.filter (fun f => !(f.subj == Subj.cell p && decide (f.level ≥ 3))) } }
  s.clearPort 6 p

/-- R107 from its checks on, for a restore that joined the commands in flight. -/
def State.applyRestore (s : State) (p : Nat) : State :=
  let P := s.port p
  let g := P.group
  let G := s.group g
  let fin := fun (s : State) (st r : Nat) => s.completeWhere (· == Wait.restore p) st r
  if P.latched then fin (s.setPort p (fun P => { P with restore := none })) stDenied 1
  else if P.state ≠ .trained then fin (s.setPort p (fun P => { P with restore := none })) stDenied 2
  else if !P.retired then fin (s.setPort p (fun P => { P with restore := none })) stOk 0
  else if G.state = .off then fin (s.rejoin p) stOk 0
  else if G.gtype = 1 ∧ !s.cellSlotOk p then fin (s.setPort p (fun P => { P with restore := none })) stDenied 4
  else if G.state = .quenching then fin (s.rejoin p) stDenied 3
  else
    let s := (s.rejoin p).setPort p (fun P => { P with restore := some .srStep })
    if G.gtype = 1 then s.handSlot P.cellSlot (.closeIt (.value 0)) else s

/-- RUN of the downstream frame of a port (Table 4-6, R105, R143). -/
def State.runFlag (s : State) (p : Nat) : Bool :=
  let P := s.port p
  P.isCell && !P.out && P.state == .trained && (s.group P.group).state.runs

/-- SR_DE of the downstream frame of a port (Table 4-6, R105, R107, R135). -/
def State.srFlag (s : State) (p : Nat) : Bool :=
  let P := s.port p
  !s.runFlag p || (s.group P.group).state == .starting || P.restore == some .srStep

/-! ### Derating (R150) -/

/-- Derate factor of a group (R150). -/
def State.factor (s : State) (g : Nat) : Nat :=
  let G := s.group g
  let cells := (s.activeMembers g).map s.port
  let ol := if G.olDerate || cells.any (fun P => P.olDerate) then G.deratePct else 100
  min s.sh.coolFactor (min ol (cells.foldl (fun m P => min m P.tempFactor) 100))

/-- AVAIL_W of a group: 0 while OFF (R150, Table 6-20). -/
def State.availW (s : State) (g : Nat) : Nat :=
  let G := s.group g
  let m := (s.members g).length
  if G.state = .off ∨ m = 0 then 0 else G.ratingW * (s.activeMembers g).length * s.factor g / (m * 100)

end Sys2Proof.Machine
end

