-- ==== Sys2Proof/Machine/Ladder.lean ====
section
/-!
DEFINITION. The fault ladder: how a finding becomes an action (R149 to R156).
-/

namespace Sys2Proof.Machine

open Sys2Proof

/-- Highest level in effect on a subject (R152). -/
def State.levelOn (s : State) (x : Subj) : Nat :=
  (s.sh.findings.filter (fun f => f.subj == x)).foldl (fun m f => max m f.level) 0

/-- Highest level in effect on any subject: LEVEL_NOW. -/
def State.levelNow (s : State) : Nat := s.sh.findings.foldl (fun m f => max m f.level) 0

/-- A finding's level put in effect on its subject. -/
def State.stand (s : State) (x : Subj) (code level : Nat) : State :=
  { s with sh := { s.sh with
      findings := s.sh.findings.filter (fun f => !(f.subj == x && f.code == code)) ++
        (if level = 0 then [] else [{ subj := x, code := code, level := level }]) } }

/-- A finding cleared (R153). -/
def State.unstand (s : State) (x : Subj) (code : Nat) : State :=
  { s with sh := { s.sh with findings := s.sh.findings.filter (fun f => !(f.subj == x && f.code == code)) } }

/-- A finding of this code led to an action on its subject, which does not clear by itself (R153). -/
def State.acted (s : State) (x : Subj) (code : Nat) : Bool :=
  s.sh.findings.any (fun f => f.subj == x && f.code == code && decide (3 ≤ f.level))

/-- A warning or derate of one detector clears, whatever else stands on its subject (R153). -/
def State.calm (s : State) (x : Subj) (code : Nat) : State := if s.acted x code then s else s.unstand x code

/-- The record of a ladder action (R155, R156). -/
def State.ladderRecord (s : State) (x : Subj) (level cause code : Nat) : State :=
  let s := { s with sh := { s.sh with ladderSeen := max s.sh.ladderSeen level } }
  let pay := leBytes 1 level ++ leBytes 1 cause ++ leBytes 1 code
  match x with
  | .cell p => s.record 0x0401 level kPort p pay
  | .group g => s.record 0x0401 level kGroup g pay
  | .shelf => s.record 0x0401 level kShelf 0 pay

/-- The mended subject and level of a finding (R151). -/
def State.mend (s : State) (x : Subj) (level : Nat) : Subj × Nat :=
  match x with
  | .cell p =>
    if level ≥ 5 then (.shelf, 5)
    else if level = 4 then (.group (s.port p).group, 4)
    else if level = 3 ∧ s.lastCell p then (.group (s.port p).group, 4)
    else (x, level)
  | .group _ => if level ≥ 5 then (.shelf, 5) else if level = 3 then (x, 4) else (x, level)
  | .shelf => if level = 3 ∨ level = 4 then (x, 5) else (x, level)

/-- The subject admits no further action: a group that is OFF or a retired cell (R152). -/
def State.spent (s : State) : Subj → Bool
  | .cell p => (s.port p).retired
  | .group g => (s.group g).state == .off
  | .shelf => false

/-- The action of a level on a subject (Table 6-1). -/
def State.actOn (s : State) (x : Subj) (level cause : Nat) : State :=
  match x with
  | .cell p => if level = 3 then s.retire p cause else s
  | .group g => if level = 4 then s.quench g 2 else s
  | .shelf => if level = 5 then { s with sh := { s.sh with shelfQuench := true } }.quenchShelf 2 else s

/-- LADDER_ACTION: a detector's finding handed to the ladder. `code` is the detector (Table 6-2), `cause` the cause code
of Table 6-13. Only an active module acts and records; a standby keeps the levels that clear by themselves (R154). -/
def State.ladder (s : State) (x : Subj) (level cause code : Nat) : State :=
  let member : Bool := match x with
    | .cell p => (s.port p).isCell
    | _ => true
  if !s.active then (if member && decide (1 ≤ level) && decide (level ≤ 2) then s.stand x code level else s)
  else if !member then s.ladderRecord x level cause code
  else
    let m := s.mend x level
    let idle := s.spent m.1 || decide (m.2 ≤ s.levelOn m.1)
    let s := s.ladderRecord m.1 m.2 cause code
    if idle then s else (s.stand m.1 code m.2).actOn m.1 m.2 cause

/-- A finding: subject, level, cause, detector code. -/
abbrev Found := Subj × Nat × Nat × Nat

/-- Findings of one moment, handled highest level first (R152). -/
def State.ladderAll (s : State) (l : List Found) : State :=
  (sortBy (fun a b => decide (b.2.1 < a.2.1)) l).foldl (fun s f => s.ladder f.1 f.2.1 f.2.2.1 f.2.2.2) s

end Sys2Proof.Machine
end

