-- ==== Sys2Proof/Machine/Schedule.lean ====
section
/-!
DEFINITION. The schedule compiler: R80 to R83 with Table 3-3, launch cycles (R82), and fallback placements (R86).
-/

namespace Sys2Proof.Machine

open Sys2Proof

/-- What the compiler reads beside the table: capability sizes, slots, FAILED pipelines, port states, arrival cycles,
group members (whatever their state) and the table in force. -/
structure SchedCtx where
  nSlots : Nat
  nPipes : Nat
  slots : List Slot
  failed : Nat → Bool
  /-- DOWN or TRAINING (reason 7). -/
  portBad : Nat → Bool
  /-- LOST or FAILED: its arrival takes no part in A_in, SKEW or PLACEMENT (R82). -/
  portOut : Nat → Bool
  arrival : Nat → Nat
  members : Nat → List Nat
  inForce : List SchedEnt

/-- A refusal of a table (R83): reason, pipeline, index of the entry in its pipeline, slot. -/
structure SchedRefusal where
  reason : Nat
  pipe : Nat
  entry : Nat
  slot : Nat
deriving DecidableEq, Repr

namespace SchedCtx

def slot (c : SchedCtx) (k : Nat) : Slot := nth c.slots k {}

/-- Ports a source selector names (R82). -/
def srcPorts (c : SchedCtx) (sel : Nat) : List Nat :=
  if selType sel = 1 then [selIndex sel] else if selType sel = 2 then c.members (selIndex sel) else []

/-- Ports the slot's sources name (R82). -/
def inPorts (c : SchedCtx) (s : Slot) : List Nat :=
  c.srcPorts s.meas ++ c.srcPorts s.setp ++ (if s.ffEn then c.srcPorts s.ff else [])

/-- Ports the slot's destination names (R82). -/
def outPorts (c : SchedCtx) (s : Slot) : List Nat :=
  if s.destType = 1 then [s.destIndex] else if s.destType = 2 then c.members s.destIndex else []

/-- Arrival cycles of the ports that time a slot (R82). -/
def arrivals (c : SchedCtx) (s : Slot) : List Nat := ((c.inPorts s).filter (fun p => !c.portOut p)).map c.arrival

/-- A_in (R82). -/
def aIn (c : SchedCtx) (s : Slot) : Option Nat :=
  match c.arrivals s with
  | [] => none
  | l => some (l.foldl max 0)

/-- Launch cycle L_p of a port under a table, counted from the frame period in which the slots start (R82). -/
def launch (c : SchedCtx) (t : List SchedEnt) (p : Nat) : Option Nat :=
  match (t.filter (fun e => (c.outPorts (c.slot e.slot)).contains p)).map (fun e => e.start + 120) with
  | [] => none
  | l => some (l.foldl max 0)

/-- The entry of a slot in a table. -/
def entOf (t : List SchedEnt) (k : Nat) : Option SchedEnt := t.find? (fun e => e.slot == k)

/-- The outer entry that feeds an entry's slot, other than the slot itself (R78). -/
def outerOf (c : SchedCtx) (t : List SchedEnt) (e : SchedEnt) : Option SchedEnt :=
  let sel := (c.slot e.slot).setp
  if selType sel = 3 ∧ selIndex sel ≠ e.slot then entOf t (selIndex sel) else none

/-- Least common multiple of the divisors of a pipeline's entries. -/
def lcmOf (l : List SchedEnt) : Nat := l.foldl (fun a e => Nat.lcm a e.k) 1

/-- Entries of one pipeline. -/
def ofPipe (t : List SchedEnt) (p : Nat) : List SchedEnt := t.filter (fun e => e.pipe == p)

/-- Two entries of one pipeline share a cycle on the timeline of R80: windows of frame periods that differ by d. -/
def clash (a b : SchedEnt) : Bool :=
  [(-1 : Int), 0, 1].any fun d =>
    decide (absI (400 * d + ((a.start : Int) - b.start)) < 32) &&
      decide ((d - ((a.phase : Int) - b.phase)) % (Nat.gcd a.k b.k : Int) = 0)

/-- Whether an entry's window covers part of cycles [t, t + 32). -/
def covers (e : SchedEnt) (t : Nat) : Bool :=
  [t / 400, t / 400 + 1, t / 400 - 1].any fun f =>
    decide (f % e.k = e.phase) && decide (f * 400 + e.start < t + 32) && decide (t < f * 400 + e.start + 32)

/-- A free 32-cycle window exists within lcm(k) frame periods (reason 12). A free window, if any, can be moved down until
it follows the end of some window, so those positions are tried; times are shifted by one lcm to stay above 0. -/
def hasGap (l : List SchedEnt) : Bool :=
  let m := lcmOf l
  (List.range m).any fun f =>
    l.any fun e => decide (f % e.k = e.phase) && !(l.any fun x => covers x ((f + m) * 400 + e.start + 32))

/-- Position of each entry in its pipeline, in the order the table gives. -/
def indexIn (t : List SchedEnt) (j : Nat) : Nat :=
  match t[j]? with
  | none => 0
  | some e => ((t.take j).filter (fun x => x.pipe == e.pipe)).length

/-- First entry, by table order, that a test refuses. -/
def firstBad (t : List SchedEnt) (reason : Nat) (bad : Nat → SchedEnt → Bool) : Option SchedRefusal :=
  match (t.zipIdx).find? (fun x => bad x.2 x.1) with
  | none => none
  | some (e, j) => some { reason := reason, pipe := e.pipe, entry := indexIn t j, slot := e.slot }

/-- Reason 7: a DOWN or TRAINING port, or arrival cycles that span more than 64 cycles. -/
def skewBad (c : SchedCtx) (e : SchedEnt) : Bool :=
  let s := c.slot e.slot
  let a := c.arrivals s
  (c.inPorts s ++ c.outPorts s).any c.portBad || decide (a.foldl max 0 > a.foldl min (a.headD 0) + 64)

/-- Reason 8. -/
def placeBad (c : SchedCtx) (e : SchedEnt) : Bool :=
  match c.aIn (c.slot e.slot) with
  | none => false
  | some a => decide (e.start < a + 32) || decide (e.start > a + 128)

/-- Reason 9. -/
def latencyBad (c : SchedCtx) (t : List SchedEnt) (e : SchedEnt) : Bool :=
  match c.aIn (c.slot e.slot) with
  | none => false
  | some a => (c.outPorts (c.slot e.slot)).any fun p =>
      match c.launch t p with
      | none => false
      | some l => decide (l > a + 280)

/-- Reason 10 (R78). -/
def ratioBad (c : SchedCtx) (t : List SchedEnt) (e : SchedEnt) : Bool :=
  match c.outerOf t e with
  | none => false
  | some o => decide (o.k % e.k ≠ 0) || decide (o.phase % e.k ≠ e.phase % e.k)

/-- Reason 11 (R78). -/
def orderBad (c : SchedCtx) (t : List SchedEnt) (e : SchedEnt) : Bool :=
  match c.outerOf t e with
  | none => false
  | some o => decide (o.start + 32 > e.start)

/-- Reason 14: two entries write one command field of one port. -/
def destBad (c : SchedCtx) (t : List SchedEnt) (j : Nat) (e : SchedEnt) : Bool :=
  (t.take j).any fun x =>
    let a := c.slot x.slot
    let b := c.slot e.slot
    decide (a.destField = b.destField) && (c.outPorts a).any (fun p => (c.outPorts b).contains p)

/-- Reason 13: the closed slot's entry keeps its divisor and phase. -/
def movedBad (c : SchedCtx) (e : SchedEnt) : Bool :=
  (c.slot e.slot).closed && (match entOf c.inForce e.slot with
    | none => true
    | some o => o.k != e.k || o.phase != e.phase)

/-- Reason 13: a closed slot that the new table leaves out, be it in the table in force or left without a place by a
fallback. The refusal names the lowest such slot, with its pipeline in force or 0, and entry 0 (assumption 94). -/
def dropped (c : SchedCtx) (t : List SchedEnt) : Option SchedRefusal :=
  match (List.range c.nSlots).find? (fun k => (c.slot k).loaded && (c.slot k).closed && (entOf t k).isNone) with
  | none => none
  | some k => some { reason := 13, pipe := ((entOf c.inForce k).map (·.pipe)).getD 0, entry := 0, slot := k }

/-- Table 3-3 in its order; `full` is false for a fallback placement, which is not held to CLASS and keeps k and phase
(R86). -/
def check (c : SchedCtx) (full : Bool) (t : List SchedEnt) : Option SchedRefusal :=
  (firstBad t 1 (fun j e => decide (e.pipe ≥ c.nPipes) || c.failed e.pipe || decide (indexIn t j ≥ 256)))
  <|> (firstBad t 2 (fun j e => decide (e.slot ≥ c.nSlots) || !(c.slot e.slot).loaded ||
        (t.take j).any (fun x => x.slot == e.slot)))
  <|> (firstBad t 3 (fun _ e => decide (e.k < 1) || decide (e.k > 1024) || decide (e.phase ≥ e.k) ||
        decide (e.start > 399)))
  <|> (firstBad t 4 (fun j e => (t.take j).any (fun x => x.pipe == e.pipe && clash x e)))
  <|> (firstBad t 5 (fun j e => decide (lcmOf (ofPipe (t.take (j + 1)) e.pipe) > 1024)))
  <|> (if full then firstBad t 6 (fun j e => let k := (c.slot e.slot).cls
        decide (k ≠ 0) && (t.take j).any (fun x => (c.slot x.slot).cls == k && x.pipe != e.pipe)) else none)
  <|> (firstBad t 7 (fun _ e => c.skewBad e))
  <|> (firstBad t 8 (fun _ e => c.placeBad e))
  <|> (firstBad t 9 (fun _ e => c.latencyBad t e))
  <|> (firstBad t 10 (fun _ e => c.ratioBad t e))
  <|> (firstBad t 11 (fun _ e => c.orderBad t e))
  <|> (firstBad t 12 (fun _ e => !(hasGap (ofPipe t e.pipe))))
  <|> (if full then (firstBad t 13 (fun _ e => c.movedBad e)) <|> c.dropped t else none)
  <|> (firstBad t 14 (fun j e => c.destBad t j e))

/-- Nesting depth of a slot: outermost 0 (R86); `fuel` bounds a chain that closes on itself. -/
def depth (c : SchedCtx) : Nat → Nat → Nat
  | 0, _ => 0
  | fuel + 1, k =>
    let sel := (c.slot k).setp
    if selType sel = 3 ∧ selIndex sel ≠ k then c.depth fuel (selIndex sel) + 1 else 0

/-- Order in which a fallback takes the failed pipeline's entries (R86). -/
def fallLt (c : SchedCtx) (a b : SchedEnt) : Bool :=
  let da := c.depth 128 a.slot
  let db := c.depth 128 b.slot
  decide (da < db) || (da == db && (decide (a.k < b.k) || (a.k == b.k && decide (a.slot < b.slot))))

/-- The lowest pipeline, and in it the earliest start cycle, at which an entry satisfies every rule but CLASS (R86). -/
def place (c : SchedCtx) (t : List SchedEnt) (bad : Nat) (e : SchedEnt) : Option SchedEnt :=
  (((List.range c.nPipes).filter (fun q => q != bad && !c.failed q)).findSome? fun q =>
    ((List.range 400).map (fun st => { e with pipe := q, start := st })).find? fun x =>
      (c.check false (t ++ [x])).isNone)

/-- The table after the failure of pipeline p, and whether some entry was left out (R86). -/
def fallback (c : SchedCtx) (t : List SchedEnt) (p : Nat) : List SchedEnt × Bool :=
  let keep := t.filter (fun e => e.pipe != p)
  let move := sortBy c.fallLt (ofPipe t p)
  move.foldl (fun a e => match c.place a.1 p e with
    | some x => (a.1 ++ [x], a.2)
    | none => (a.1, true)) (keep, false)

/-- The accepted table with its fallbacks. -/
def build (c : SchedCtx) (t : List SchedEnt) : SchedTable :=
  let f := (List.range 4).map fun p =>
    if p < c.nPipes ∧ !c.failed p ∧ (ofPipe t p).length > 0 then c.fallback t p else (t.filter (fun e => e.pipe != p), false)
  { ents := t, fall := f.map (·.1), short := f.map (·.2) }

end SchedCtx

/-- LOAD of LE_PIPE_STATUS: share of 25 M evaluations/s, in %, rounded down (Table 3-18). -/
def pipeLoad (l : List SchedEnt) : Nat :=
  let m := SchedCtx.lcmOf l
  (l.foldl (fun a e => a + m / e.k) 0) * 8 / m

end Sys2Proof.Machine
end

