-- ==== Sys2Proof/Machine/Loop.lean ====
section
/-!
DEFINITION. The Loop Engine's commands and events (chapters 2 and 3; R368 to R372, R384).
-/

namespace Sys2Proof.Machine

open Sys2Proof

/-- The compiler's view of the state (R82). -/
def State.schedCtx (s : State) : SchedCtx :=
  { nSlots := s.part.slots, nPipes := s.part.pipes, slots := s.le.slots,
    failed := fun p => (nth s.le.pipes p {}).failed,
    portBad := fun p => (s.port p).state == .down || (s.port p).state == .training,
    portOut := fun p => (s.port p).state == .lost || (s.port p).state == .failed,
    arrival := fun p => (s.port p).arrival,
    members := s.members, inForce := s.le.table.ents }

/-! ### Slot registers (Tables 2-8 and 3-6) -/

/-- LE_SLOT_STATUS. -/
def Slot.statusWord (x : Slot) : Nat :=
  flagAt x.parity 6 + flagAt x.sat 5 + flagAt x.ffGated 4 + flagAt x.stale 3 + fieldAt x.clamp 2 1 + flagAt x.closed 0

/-- LE_SUP_STATUS. -/
def Slot.supStatus (x : Slot) : Nat :=
  flagAt x.remapped 7 + flagAt x.nestHeld 6 + flagAt x.taperDone 5 + flagAt x.openTrip 4 + flagAt x.feTrip 3

/-- LE_SLOT_SCHED (Table 3-17). -/
def schedWord : Option SchedEnt → Nat
  | none => 0
  | some e => fieldAt e.pipe 2 30 + fieldAt e.phase 10 20 + fieldAt (e.k - 1) 10 10 + fieldAt e.start 9 1 + 1

/-- A word of a slot's register block; `whole` reads the integrator and Taper position without their shadows (R371). -/
def Slot.reg (x : Slot) (e : Option SchedEnt) (whole : Bool) (off : Nat) : Nat :=
  if off < 0x200 then (x.word off).toNat
  else if off = 0x200 then x.statusWord
  else if off = 0x204 then ofSigned 32 x.out
  else if off = 0x208 then ofSigned 32 x.err
  else if off = 0x20C then ofSigned 32 x.measv
  else if off = 0x210 then ofSigned 32 x.setv
  else if off = 0x214 then ofSigned 32 x.ffv
  else if off = 0x218 then ofSigned 64 x.integ % 2 ^ 32
  else if off = 0x21C then if whole then ofSigned 64 x.integ / 2 ^ 32 else x.integShadow
  else if off = 0x220 then x.evals
  else if off = 0x224 then x.stales
  else if off = 0x228 then x.clamps
  else if 0x230 ≤ off ∧ off < 0x250 then ofSigned 32 (nth x.n ((off - 0x230) / 4) 0)
  else if off = 0x250 then ofSigned 32 x.xdPrev
  else if 0x300 ≤ off ∧ off < 0x314 then (x.supWord ((off - 0x300) / 4)).toNat
  else if off = 0x314 then (x.taperPos % 2 ^ 16).toNat
  else if off = 0x318 then if whole then ofSigned 32 (x.taperPos / 2 ^ 16) else x.taperShadow
  else if off = 0x320 then x.supStatus
  else if off = 0x324 then x.feCtr
  else if off = 0x328 then if x.closed then 0 else x.openUs
  else if off = 0x32C then schedWord e
  else 0

/-- The 1,024 bytes of a slot's register block (R371). -/
def State.slotBlock (s : State) (k : Nat) : Bytes :=
  (List.range 256).flatMap (fun j => leBytes 4 ((s.slot k).reg (s.entry k) true (4 * j)))

/-! ### Slot blocks (Table 16-6, R62, R73, R77, R370) -/

/-- A source selector as LOOP_LOAD accepts it. The fast frame carries CHANNEL 0 to 7 (R127), so every CHANNEL is
accepted, whatever the BR_LAYOUT of a port in the source (assumption 92). -/
def Part.selOk (part : Part) (v : Nat) : Bool :=
  bits v 31 18 == 0 && bits v 15 15 == 0 && decide (selPick v ≤ 2) && decide (selType v ≤ 5) &&
    (if selType v = 1 then decide (selIndex v < part.ports)
     else if selType v = 2 then decide (selIndex v < 16)
     else if selType v = 3 then decide (selIndex v < part.slots)
     else if selType v = 4 then decide (selIndex v < 32) else true)

/-- A destination as LOOP_LOAD accepts it. -/
def Part.destOk (part : Part) (v : Nat) : Bool :=
  bits v 31 15 == 0 && decide (bits v 3 0 ≤ 2) && decide (bits v 14 12 ≤ 3) &&
    (if bits v 3 0 = 1 then decide (bits v 11 4 < part.ports)
     else if bits v 3 0 = 2 then decide (bits v 11 4 < 16) else true)

/-- Offset in a slot block of the first field LOOP_LOAD refuses (R62, R73, R77, R370). -/
def Part.blockFault (part : Part) (b : Bytes) : Option Nat :=
  let r := fun off => u b (0x10 + off) 4
  let sup := u b 0x210 4
  let dt := bits (r 0x10) 3 0
  let lvl := fun v => decide (v ≤ 5) && (v != 3 || dt == 1)
  let shifts := [0x24, 0x2C, 0x34, 0x3C] ++ (List.range 10).map (fun k => 0x54 + 8 * k)
  let tests : List (Nat × Bool) :=
    [(0x000, decide (u b 0 1 < part.slots)), (0x001, zeros b 1 15),
     (0x010, bits (r 0) 31 24 == 0 && bits (r 0) 15 11 == 0 && bitAt (r 0) 0),
     (0x014, part.selOk (r 4)), (0x018, part.selOk (r 8)), (0x01C, part.selOk (r 0xC)), (0x020, part.destOk (r 0x10)),
     (0x028, decide (i b 0x028 4 ≤ i b 0x02C 4))] ++
    (shifts.filter (· < 0x40)).map (fun o => (0x10 + o, decide (r o < 32))) ++
    [(0x050, bits (r 0x40) 31 10 == 0 && bits (r 0x40) 7 5 == 0 && decide (bits (r 0x40) 4 0 ≤ 21)),
     (0x054, zeros b 0x54 12)] ++
    (shifts.filter (0x40 ≤ ·)).map (fun o => (0x10 + o, decide (r o < 32))) ++
    [(0x0B0, zeros b 0xB0 96)] ++
    (List.range 64).map (fun j => (0x110 + 4 * j, decide (r (0x100 + 4 * j) < 2 ^ 31))) ++
    [(0x210, bits sup 31 12 == 0 && bits sup 7 7 == 0 && bits sup 3 1 == 0 && lvl (bits sup 10 8) && lvl (bits sup 6 4)),
     (0x214, decide (u b 0x214 4 < 2 ^ 31)),
     (0x218, decide (u b 0x218 4 < 2 ^ 16) && !(bitAt sup 0 && u b 0x218 4 == 0)),
     (0x220, !(bitAt (r 0) 7 && u b 0x220 4 == 0)),
     (0x224, zeros b 0x224 28)]
  (tests.find? (fun t => !t.2)).map (·.1)

/-- Blocks of a LOOP_LOAD buffer or a slot-images section. -/
def blocksOf (data : Bytes) (count : Nat) : List Bytes := (List.range count).map (fun k => slice data (576 * k) 576)

/-- Offset in the whole buffer of the first field refused, over all blocks; two blocks may not name one slot (R370). -/
def Part.blocksFault (part : Part) (l : List Bytes) : Option Nat :=
  (l.zipIdx).findSome? (fun x => match part.blockFault x.1 with
    | some o => some (576 * x.2 + o)
    | none => if (l.take x.2).any (fun y => u y 0 1 == u x.1 0 1) then some (576 * x.2) else none)

/-- The change a slot block makes. -/
def blockLoad (b : Bytes) : SlotChange :=
  .load ((List.range 128).map (fun j => BitVec.ofNat 32 (u b (0x10 + 4 * j) 4)))
    ((List.range 5).map (fun j => BitVec.ofNat 32 (u b (0x210 + 4 * j) 4)))

/-- Slots of a list of blocks. -/
def blockSlots (l : List Bytes) : List Nat := l.map (fun b => u b 0 1)

/-- The blocks handed to their slots (R61). -/
def State.handBlocks (s : State) (l : List Bytes) : State :=
  l.foldl (fun s b => s.handSlot (u b 0 1) (blockLoad b)) s

/-! ### LOOP_OPEN, LOOP_CLOSE (R66, R70, R71, R368) -/

/-- Groups whose record, or whose cells' records, name a slot (R93, assumption 11). -/
def State.groupsOfSlot (s : State) (k : Nat) : List Nat :=
  (List.range 16).filter (fun g => (s.group g).gtype != 0 && (s.groupSlots g).contains k)

/-- The slot's group is in a state in which the sequencer owns its slots (R368). -/
def State.slotBusy (s : State) (k : Nat) : Bool :=
  (s.groupsOfSlot k).any (fun g => (s.group g).state != .off && (s.group g).state != .regulating)

def execLoopOpen (h : CmdHdr) (slot : Nat) (s : State) : Host.Outcome State Fault Refusal :=
  .next (s.start h
    { op := 0x0301, chk := param (slot < s.part.slots) 0x08,
      chk6 := need (!(s.slot slot).loaded || !s.slotBusy slot) stBusy 0 }
    (fun s =>
      if !(s.slot slot).loaded || !(s.slot slot).closing then s.done h stOk 0
      else if (s.entry slot).isNone then (s.handSlot slot .openIt).done h stOk 0
      else (s.handSlot slot .openIt).await h 0x0301 (.loopOpen slot)))

/-- The preload named by a LOOP_CLOSE. -/
def preloadOf (mode : Nat) (v : Int) : Preload :=
  if mode = 0 then .keep else if mode = 1 then .out else if mode = 2 then .held else .value v

def execLoopClose (h : CmdHdr) (slot preload : Nat) (value : Int) (s : State) : Host.Outcome State Fault Refusal :=
  .next (s.start h
    { op := 0x0302,
      chk := param (slot < s.part.slots) 0x08 <|> param (preload ≤ 3) 0x09 <|> param (preload = 3 ∨ value = 0) 0x0C,
      chk6 := param ((s.slot slot).loaded && (s.entry slot).isSome) 0x08
        <|> param (preload != 2 || (s.heldOf (s.slot slot)).isSome) 0x09
        <|> need (!s.slotBusy slot) stBusy 0 }
    (fun s =>
      if (s.slot slot).closing then s.done h stOk 0
      else (s.handSlot slot (.closeIt (preloadOf preload value))).await h 0x0302 (.loopClose slot)))

/-! ### LOOP_LOAD, LOOP_READ, LOOP_SCHEDULE (R369 to R372) -/

/-- BAD_PARAM or BAD_LENGTH for a field inside a buffer (R363). -/
def bufField (bufOff off : Nat) : Nat := bufOff + off * 2 ^ 32

def execLoopLoad (h : CmdHdr) (buf : Buf) (count : Nat) (s : State) : Host.Outcome State Fault Refusal :=
  let blocks := blocksOf (s.bufRead buf 0 (576 * count)) count
  let slots := blockSlots blocks
  .next (s.start h
    { op := 0x0303,
      chk := need (count != 0) stBadLength 0x14 <|> need (buf.len = 576 * count) stBadLength 0x10
        <|> param (count ≤ s.part.slots) 0x14 <|> param (bufOk buf (576 * count)) 0x08
        <|> (match s.part.blocksFault blocks with
          | some o => some (stBadParam, bufField 0x08 o)
          | none => none),
      chk6 := match slots.find? (fun k => (s.slot k).closing) with
        | some k => some (stLoopClosed, k)
        | none => none }
    (fun s =>
      let wait := slots.filter (fun k => (s.entry k).isSome)
      let s := s.handBlocks blocks
      if wait.isEmpty then s.done h stOk count else s.await h 0x0303 (.loopLoad wait count)))

def execLoopRead (h : CmdHdr) (buf : Buf) (first count : Nat) (s : State) : Host.Outcome State Fault Refusal :=
  .next (s.start h
    { op := 0x0304, early := true, zero := count == 0,
      chk := param (first < s.part.slots) 0x14 <|> param (first + count ≤ s.part.slots) 0x16
        <|> param (bufOk buf (1024 * count)) 0x08 }
    (fun s => (s.bufWrite buf ((List.range count).flatMap (fun j => s.slotBlock (first + j)))).done h stOk count))

/-- Entries of a LOOP_SCHEDULE buffer or schedule section (Table 16-7). -/
def entriesOf (data : Bytes) (count : Nat) : List SchedEnt :=
  (List.range count).map (fun j =>
    { slot := u data (8 * j) 1, pipe := u data (8 * j + 1) 1, start := u data (8 * j + 2) 2, k := u data (8 * j + 4) 2,
      phase := u data (8 * j + 6) 2 })

/-- The refusal of a table with its status and RESULT (R83). -/
def schedRefuse (r : SchedRefusal) : Nat × Nat :=
  (if r.reason = 13 then stLoopClosed else stBadParam,
    r.reason + r.pipe * 2 ^ 8 + (r.entry % 256) * 2 ^ 16 + (r.slot % 256) * 2 ^ 24)

/-- The last refusal shown in LE_SCHED_STATUS. -/
def State.noteRefusal (s : State) (r : SchedRefusal) : State :=
  { s with le := { s.le with lastReason := r.reason, lastPipe := r.pipe % 256, lastEntry := r.entry % 256 } }

/-- Acceptance of a table: fallbacks computed, incomplete ones recorded, the table waits for its switch (R84, R86). -/
def State.acceptTable (s : State) (t : List SchedEnt) : State :=
  let tab := s.schedCtx.build t
  let s := { s with le := { s.le with pendTable := some tab } }
  (List.range s.part.pipes).foldl (fun s p =>
    if nth tab.short p false then
      s.record 0x0306 1 kPipe p (leBytes 1 (t.length - (nth tab.fall p []).length))
    else s) s

def execLoopSchedule (h : CmdHdr) (buf : Buf) (count : Nat) (s : State) : Host.Outcome State Fault Refusal :=
  let t := entriesOf (s.bufRead buf 0 (8 * count)) count
  let c : Cmd :=
    { op := 0x0305,
      chk := need (count != 0) stBadLength 0x14 <|> need (buf.len = 8 * count) stBadLength 0x10
        <|> param (count ≤ 256 * s.part.pipes) 0x14 <|> param (bufOk buf (8 * count)) 0x08,
      chk6 := need s.le.pendTable.isNone stBusy 0 }
  match s.refusal c, s.schedCtx.check true t with
  | none, some r =>
    .next ((if h.checkOnly then s else s.noteRefusal r).complete h (schedRefuse r).1 (schedRefuse r).2)
  | _, _ => .next (s.start h c (fun s => (s.acceptTable t).await h 0x0305 .schedule))

/-! ### ASSAY (R384) -/

def execAssay (h : CmdHdr) (mask : Nat) (s : State) : Host.Outcome State Fault Refusal :=
  .next (s.start h
    { op := 0x0903, chk := param (mask ≠ 0 ∧ mask < 2 ^ s.part.pipes) 0x08,
      chk6 := need (!((List.range 4).any (fun p => bitAt mask p && (nth s.le.pipes p {}).failed))) stDenied 0
        <|> need s.le.assay.isNone stBusy 0 }
    (fun s =>
      let run : AssayRun :=
        { mask := mask, left := (List.range 4).map (fun p => if bitAt mask p then 32 else 0), miss := [0, 0, 0, 0] }
      { s with le := { s.le with assay := some run } }.await h 0x0903 .assay))

/-! ### Evaluations (R58, R60, R65, R66, R71, R102) -/

/-- A slot's evaluation answers the loop commands that waited for it (R61, R66). -/
def State.slotAnswered (s : State) (k : Nat) : State :=
  let s := s.completeWhere (fun w => w == .loopOpen k || w == .loopClose k) stOk 0
  let s := { s with hq := { s.hq with inflight := s.hq.inflight.map (fun (f : Flight) => match f.wait with
    | .loopLoad l c => { f with wait := .loopLoad (l.filter (· != k)) c }
    | _ => f) } }
  s.hq.inflight.foldl (fun s (f : Flight) => match f.wait with
    | .loopLoad [] c => s.complete f.hdr stOk c
    | _ => s) s

/-- Subjects a slot's supervision acts on, by its destination (R77). -/
def State.slotSubjects (s : State) (k : Nat) : List Subj :=
  let x := s.slot k
  if x.destType = 1 then [.cell x.destIndex]
  else if x.destType = 2 then [.group x.destIndex]
  else ((List.range 16).filter (fun g => (s.group g).gtype != 0 && (s.groupSlots g).any
    (fun j => selType (s.slot j).setp == 3 && selIndex (s.slot j).setp == k))).map .group

/-- The sequencer watches the outer slot of a starting group (R102). -/
def State.watchStart (s : State) (k : Nat) : State :=
  (List.range 16).foldl (fun s g =>
    let G := s.group g
    let x := s.slot k
    if G.state = .starting ∧ G.voltSlot = k ∧ ¬ G.startPend ∧ x.closed then
      s.setGroup g (fun G => { G with
        regRun := if (x.taperDone || !x.taperEn) && decide (absI x.err ≤ (G.regBand : Int)) then G.regRun + 1 else 0 })
    else s) s

/-- A following-error finding below retirement clears when the counter is back at 0 (R75, assumption 12). -/
def State.clearFollow (s : State) (k : Nat) : State :=
  (s.slotSubjects k).foldl (fun s x => s.calm x 16) s

/-- The slot's initialisation takes the held command of a GROUP destination whose member ports report different ones: a close
with PRELOAD_HELD, and the initialisation after a takeover (R71, R281). -/
def State.heldMismatch (s : State) (x : Slot) : Bool :=
  x.closed && (x.init == some .held || x.init == some .takeover) && x.destType == 2 && s.heldDiffers x

/-- SLOT_EVALUATION: in a frame period in which the slot's entry fires, F mod k = phase (R80); in another the row changes
nothing. Changes that wait are taken first, also when the evaluation is then discarded for parity (R60, assumption 91). With
PRELOAD_HELD and no HELD report left, `held` is LE_SLOT_OUT (assumption 93). -/
def execSlotEvaluation (slot : Nat) (parity : Bool) (s : State) : Host.Outcome State Fault Refusal :=
  match s.entry slot with
  | none => .next s
  | some e =>
    if s.le.frame % e.k ≠ e.phase then .next s
    else if (nth s.le.pipes e.pipe {}).failed then
      .next (s.setSlot slot (fun x => { x with evals := (x.evals + 1) % 2 ^ 32 }))
    else
      let s := s.takeChanges slot
      let x := s.slot slot
      let inp := s.evalIn slot
      let held := (s.heldOf x).getD x.out
      let differs := !parity && s.heldMismatch x
      let x' := if parity then x.discard else if x.closed then x.evalClosed inp held else x.evalOpen inp
      let s := s.setSlot slot (fun _ => { x' with prevOut := x.out, evalAt := some (s.evalCycle slot) })
      let s := if parity then s.record 0x0301 1 kSlot slot [] else s
      let s := if differs then s.record 0x0304 0 kSlot slot (leBytesI 4 held) else s
      let s := s.sendOut x'
      let s := if x.feLatched && !x'.feLatched then s.clearFollow slot else s
      let s := if parity then s else s.watchStart slot
      .next ((if (s.slot slot).pend.isEmpty then s.slotAnswered slot else s).busCheck)

def execFeTrip (slot : Nat) (s : State) : Host.Outcome State Fault Refusal :=
  let x := s.slot slot
  if !x.feDue then .next s
  else
    let s := s.setSlot slot (fun y => { y with feDue := !s.active, feTrip := true })
    if !s.active then .next s
    else
      let s := s.record 0x0302 1 kSlot slot (leBytes 1 x.feAction)
      .next ((s.slotSubjects slot).foldl (fun s y => s.ladder y x.feAction 9 16) s)

def execOpenTrip (slot : Nat) (s : State) : Host.Outcome State Fault Refusal :=
  let x := s.slot slot
  if !x.loaded || x.closed || x.openMax == 0 || x.openDone || decide (s.part.slots ≤ slot) then .next s
  else
    let s := s.setSlot slot (fun y => { y with openTrip := true, openDone := s.active,
                                               openNs := max y.openNs ((y.openMax + 1) * 1000) })
    if !s.active then .next s
    else
      let s := s.record 0x0303 1 kSlot slot (leBytes 1 x.openAction)
      .next ((s.slotSubjects slot).foldl (fun s y => s.ladder y x.openAction 9 16) s)

/-! ### Switches (R84, R85, R88, R89) -/

/-- Slots left without an entry take their pending changes at once. -/
def State.flushUnscheduled (s : State) : State :=
  (List.range s.part.slots).foldl (fun s k =>
    if (s.entry k).isNone ∧ (s.slot k).pend ≠ [] then ((s.setSlot k Slot.unwait).takeChanges k).slotAnswered k else s) s

/-- A table put in force: launch cycles follow it (R82, R85). -/
def State.putTable (s : State) (t : SchedTable) : State :=
  let c := s.schedCtx
  let ports := s.ports.mapIdx (fun p (P : Port) => { P with launch := (c.launch t.ents p).getD 0 })
  { s with le := { s.le with table := t }, ports := ports }.flushUnscheduled

/-- Groups whose loops include a slot that has lost its place are quenched, level 4 (R89). -/
def State.quenchUnplaced (s : State) (slots : List Nat) : State :=
  ((List.range 16).filter (fun g => (s.group g).gtype != 0 && (s.groupSlots g).any (slots.contains ·))).foldl
    (fun s g => s.ladder (.group g) 4 0 17) s

/-- Entries of the table in force once pipeline p's have left it: the fallback placement for the first pipeline to fail; for
a later one none is available, and its entries go (R88, R89). -/
def State.fallEnts (s : State) (p : Nat) : List SchedEnt :=
  if s.le.fallen.head? = some p then nth s.le.table.fall p [] else s.le.table.ents.filter (fun e => e.pipe != p)

/-- Slots with an entry in pipeline p of the table in force. -/
def State.slotsOn (s : State) (p : Nat) : List Nat := (SchedCtx.ofPipe s.le.table.ents p).map (·.slot)

/-- The entries of one FAILED pipeline leave the table in force: slots that found a place run remapped, the groups of the
others are quenched (R88, R89). -/
def State.fallOver (s : State) (p : Nat) : State :=
  let new := s.fallEnts p
  let moved := s.slotsOn p
  let lost := moved.filter (fun k => !(new.any (fun e => e.slot == k)))
  let slots := s.le.slots.mapIdx
    (fun k (x : Slot) => if moved.contains k && !lost.contains k then { x with remapped := true } else x)
  let s := { s with le := { s.le with slots := slots } }
  (s.putTable { s.le.table with ents := new }).quenchUnplaced lost

/-- FALLBACK_SWITCH: every FAILED pipeline whose switch is due, in the order they failed (R88, R89). GEN counts the switches of
R84 alone (assumption 97). -/
def execFallbackSwitch (s : State) : Host.Outcome State Fault Refusal :=
  .next (s.le.pendFall.foldl State.fallOver { s with le := { s.le with pendFall := [] } })

/-- A table put in force that still names pipelines whose fallback switch has been made leaves them too (R88, R89). -/
def State.healTable (s : State) : State :=
  s.le.fallen.foldl (fun s p =>
    if s.le.pendFall.contains p || (s.slotsOn p).isEmpty then s else s.fallOver p) s

def execScheduleSwitch (s : State) : Host.Outcome State Fault Refusal :=
  match s.le.pendTable with
  | none => .next s
  | some t =>
    let slots := s.le.slots.map (fun (x : Slot) => { x with remapped := false })
    let s := { s with le := { s.le with pendTable := none, gen := (s.le.gen + 1) % 256, slots := slots } }
    let s := (s.putTable t).healTable
    .next (s.completeWhere (· == Wait.schedule) stOk s.le.gen)

/-! ### Assay (R87, R88, R384) -/

/-- The ASSAY command completes when every named pipeline has run its vectors or FAILED (R384). -/
def State.assayCheck (s : State) : State :=
  match s.le.assay with
  | none => s
  | some a =>
    if (List.range 4).all (fun p => !bitAt a.mask p || nth a.left p 0 == 0 || (nth s.le.pipes p {}).failed) then
      let r := (List.range 4).foldl (fun r p =>
        r + (if !bitAt a.mask p then 0 else if (nth s.le.pipes p {}).failed then 0xFF else min (nth a.miss p 0) 0xFE) * 2 ^ (8 * p)) 0
      { s with le := { s.le with assay := none } }.completeWhere (· == Wait.assay) stOk r
    else s

/-- PIPE_FAILED: a second consecutive mismatch (R88). -/
def State.pipeFailed (s : State) (p vector : Nat) : State :=
  let pipes := upd s.le.pipes p (fun x => { x with failed := true, repeatV := false })
  let s := { s with le := { s.le with pipes := pipes, pendFall := s.le.pendFall ++ [p], fallen := s.le.fallen ++ [p] } }
  (s.record 0x0305 3 kPipe p (leBytes 1 vector)).raiseCause 0 kNone 0

def execAssayEvaluation (pipe : Nat) (mismatch : Bool) (s : State) : Host.Outcome State Fault Refusal :=
  let x := nth s.le.pipes pipe {}
  if s.part.pipes ≤ pipe ∨ x.failed then .next s
  else
    let fails := mismatch && x.repeatV
    let pipes := upd s.le.pipes pipe (fun x =>
      { x with vectors := (x.vectors + 1) % 2 ^ 16,
               mismatches := if mismatch then satInc 16 x.mismatches else x.mismatches,
               repeatV := mismatch && !x.repeatV,
               vector := if mismatch then x.vector else (x.vector + 1) % 32 })
    let run := s.le.assay.map (fun (a : AssayRun) =>
      if !bitAt a.mask pipe then a else
        { a with left := if mismatch then a.left else upd a.left pipe (· - 1),
                 miss := if mismatch then upd a.miss pipe (· + 1) else a.miss })
    let s := { s with le := { s.le with pipes := pipes, assay := run } }
    let s := if fails then s.pipeFailed pipe x.vector else s
    .next s.assayCheck

/-! ### Register reads -/

/-- A word of the global Loop Engine registers, by offset from 0x0044_0000 (Tables 2-8 and 3-6). An input register that is not
VALID reads 0 (R48); FALLBACK_SHORT is of the table accepted last (R86). -/
def State.leGlobal (s : State) (off : Nat) : Nat :=
  if off = 0x000 then 0x20 * 2 ^ 24 + (25 * s.part.pipes) * 2 ^ 16 + s.part.pipes * 2 ^ 8 + s.part.slots
  else if 0x080 ≤ off ∧ off < 0x100 then
    let n := (off - 0x80) / 4
    if bitAt s.le.xinValid n then ofSigned 32 (nth s.le.xinVal n 0) else 0
  else if off = 0x100 then s.le.xinValid % 2 ^ 17
  else if 0x200 ≤ off ∧ off < 0x210 then
    let p := (off - 0x200) / 4
    let l := SchedCtx.ofPipe s.le.table.ents p
    let x := nth s.le.pipes p {}
    if s.part.pipes ≤ p then 0 else
    fieldAt l.length 9 16 + fieldAt (pipeLoad l) 8 8 + flagAt (nth (s.le.pendTable.getD s.le.table).short p false) 2 +
      (if x.failed then 2 else if l.isEmpty then 0 else 1)
  else if 0x220 ≤ off ∧ off < 0x230 then
    let x := nth s.le.pipes ((off - 0x220) / 4) {}
    x.mismatches * 2 ^ 16 + x.vectors
  else if off = 0x240 then s.le.gen * 2 ^ 24 + s.le.lastEntry * 2 ^ 16 + s.le.lastPipe * 2 ^ 8 + s.le.lastReason
  else if off = 0x244 then s.le.frame % 2 ^ 32
  else if 0x1000 ≤ off ∧ off < 0x3000 then
    let p := (off - 0x1000) / 0x800
    let e := ((off - 0x1000) % 0x800) / 8
    match (SchedCtx.ofPipe s.le.table.ents p)[e]? with
    | none => 0
    | some x => if off % 8 = 0 then fieldAt x.start 9 16 + 2 ^ 15 + fieldAt x.slot 7 0
                else fieldAt x.phase 10 16 + fieldAt (x.k - 1) 10 0
  else 0

/-- A word of the Loop Engine's registers, by offset from 0x0040_0000. -/
def State.leRead (s : State) (off : Nat) : Nat :=
  if off < 0x40000 then
    if off / 0x400 < s.part.slots then (s.slot (off / 0x400)).reg (s.entry (off / 0x400)) false (off % 0x400) else 0
  else s.leGlobal (off - 0x40000)

def execLeTaperFrac (slot : Nat) (s : State) : Host.Outcome State Fault Refusal :=
  let a := 0x400000 + 0x400 * slot + 0x314
  if s.part.slots ≤ slot then .next (s.emit (.regRead a 0))
  else
    let s := s.setSlot slot (fun x => { x with taperShadow := ofSigned 32 (x.taperPos / 2 ^ 16) })
    .next (s.emit (.regRead a ((s.slot slot).taperPos % 2 ^ 16).toNat))

end Sys2Proof.Machine
end

