-- ==== Sys2Proof/Machine/Power.lean ====
section
/-!
DEFINITION. Power-train commands, register writes and sequencer events (chapters 4 and 6; R373, R374).
-/

namespace Sys2Proof.Machine

open Sys2Proof

/-! ### Commands -/

def execGroupEnable (h : CmdHdr) (group : Nat) (s : State) : Host.Outcome State Fault Refusal :=
  let G := s.group group
  .next (s.start h
    { op := 0x0401, activeOnly := true, chk := param (group < 16 ∧ G.gtype ≠ 0) 0x08,
      chk6 := if G.state = .quenching then some (stBusy, 0)
        else if G.state ≠ .off then none
        else match s.startRefusal group with
          | some r => some (stDenied, r)
          | none => none }
    (fun s => if G.state ≠ .off then s.done h stOk 0 else (s.startGroup group).await h 0x0401 (.groupEnable group)))

def execGroupQuench (h : CmdHdr) (group : Nat) (s : State) : Host.Outcome State Fault Refusal :=
  .next (s.start h
    { op := 0x0402, activeOnly := true, chk := param (group < 16 ∧ (s.group group).gtype ≠ 0) 0x08 }
    (fun s =>
      if (s.group group).state = .off then s.done h stOk 0
      else (s.quench group 1).await h 0x0402 (.groupQuench group)))

/-- The bus target and slew lie in the range of R108. -/
def State.vsetOk (s : State) (v : Int) : Bool := decide (s.sh.busVmin ≤ v) && decide (v ≤ s.sh.busVmax)
def slewOk (n : Nat) : Bool := decide (1 ≤ n) && decide (n ≤ 1000)

def execBusVset (h : CmdHdr) (vset : Int) (slew : Nat) (s : State) : Host.Outcome State Fault Refusal :=
  .next (s.start h
    { op := 0x0403, activeOnly := true, chk := param (s.vsetOk vset) 0x08 <|> param (slewOk slew) 0x0C }
    (fun s =>
      let s := s.supersedeBus.setBus vset slew
      if s.busLive.isEmpty then s.done h stOk 0 else (s.await h 0x0403 .busVset).busCheck))

def execCellRetire (h : CmdHdr) (port : Nat) (s : State) : Host.Outcome State Fault Refusal :=
  .next (s.start h
    { op := 0x0404, activeOnly := true, chk := param (port < s.part.ports && (s.port port).isCell) 0x08,
      chk6 := need ((s.port port).retired || !s.lastCell port) stDenied 0 }
    (fun s =>
      if (s.port port).retired then s.done h stOk 0
      else (s.retire port 1).await h 0x0404 (.retire port)))

/-- A service request queued for a bridge (R132, R165). -/
def State.svcQueue (s : State) (p : Nat) (r : SvcReq) : State := s.setPort p (fun P => { P with svcWait := P.svcWait ++ [r] })

def execCellRestore (h : CmdHdr) (port : Nat) (clear : Bool) (s : State) : Host.Outcome State Fault Refusal :=
  .next (s.start h
    { op := 0x0405, activeOnly := true, chk := param (port < s.part.ports && (s.port port).isCell) 0x08,
      chk6 := need (!clear || (s.port port).state == .trained) stDenied 2 }
    (fun s =>
      let s := s.await h 0x0405 (.restore port)
      if clear then
        (s.setPort port (fun P => { P with restore := some .clearing })).svcQueue port
          { tag := 0, op := 2, addr := 4, data := 2, mask := 2, sends := 0, use := .clearFault }
      else s.applyRestore port))

/-! ### Register writes (R111, R114, R116, R167, R296) -/

/-- BAR0 writes act unless the recovery loader runs (R426) or the on-die network is held (Table 17-2). -/
def State.bar0 (s : State) : Bool := !s.rc.recovery && s.rc.on 3 && s.rc.on 12 && s.rc.on 13

def execPtBusVset (data : Reg) (s : State) : Host.Outcome State Fault Refusal :=
  if !s.bar0 || s.standbyFlag then .next s
  else if s.vsetOk data.toInt then
    .next (({ s with sh := { s.sh with vset := data } }.supersedeBus).setBus data.toInt s.sh.slew)
  else .next ({ s with sh := { s.sh with vsetReject := true } }.record 0x0404 0 kNone 0 (leBytes 4 data.toNat))

def execPtBusSlew (data : Reg) (s : State) : Host.Outcome State Fault Refusal :=
  let n := bits data.toNat 9 0
  if !s.bar0 || s.standbyFlag then .next s
  else if slewOk n then .next { s with sh := { s.sh with slewReg := n, slew := n } }.aimAll
  else .next ({ s with sh := { s.sh with slewReject := true } }.record 0x0404 0 kNone 0 (leBytes 4 data.toNat))

def execPtFfCfg (data : Reg) (s : State) : Host.Outcome State Fault Refusal :=
  let n := bits data.toNat 6 0
  .next (if s.bar0 && decide (n ≤ 100) then { s with sh := { s.sh with leadUs := n } } else s)

/-- A burst register write that is refused (R114). -/
def State.burstRefused (s : State) (data : Reg) : State :=
  { s with sh := { s.sh with burstReject := true } }.record 0x0404 0 kNone 0 (leBytes 4 data.toNat)

def execPtBurstEnter (data : Reg) (s : State) : Host.Outcome State Fault Refusal :=
  if !s.bar0 then .next s
  else if 1 ≤ data.toNat ∧ data.toNat < 2 ^ 31 then .next { s with sh := { s.sh with burstEnter := data.toNat } }
  else .next (s.burstRefused data)

def execPtBurstDwell (data : Reg) (s : State) : Host.Outcome State Fault Refusal :=
  let n := bits data.toNat 15 0
  if !s.bar0 then .next s
  else if 1 ≤ n then .next { s with sh := { s.sh with burstDwell := n } }
  else .next (s.burstRefused data)

def execPtBurstBand (data : Reg) (s : State) : Host.Outcome State Fault Refusal :=
  let v := data.toNat % 2 ^ 30
  if !s.bar0 then .next s
  else if 1 ≤ bits v 9 0 ∧ 1 ≤ bits v 19 10 ∧ bits v 19 10 < bits v 29 20 then
    .next { s with sh := { s.sh with burstBand := v } }
  else .next (s.burstRefused data)

/-- A source register outside a slot: TYPE 0 to `top` (R456); its reserved bits are ignored (R14). An INDEX beyond the part and
PICK 3 are refused (assumption 95). -/
def Part.srcOk (part : Part) (top v : Nat) : Bool := decide (selType v ≤ top) && part.selOk (bits v 14 0 + fieldAt (bits v 17 16) 2 16)

/-- Stored bits of a source register: the reserved bits read 0 (R14). -/
def srcMask (v : Reg) : Reg := BitVec.ofNat 32 (bits v.toNat 14 0 + fieldAt (bits v.toNat 17 16) 2 16)

/-- Write of a shelf protection register, by offset from 0x00A1_0000 (Tables 6-9 to 6-11). -/
def State.protShelf (s : State) (off : Nat) (v : Reg) : Option State :=
  if off = 0x104 then
    if bits v.toNat 15 0 < bits v.toNat 31 16 then some { s with sh := { s.sh with coolT := v } } else none
  else if off = 0x108 then
    if bits v.toNat 23 16 ≤ 100 then some { s with sh := { s.sh with coolCfg := BitVec.ofNat 32 (v.toNat % 2 ^ 24) } } else none
  else if 0x10C ≤ off ∧ off ≤ 0x114 ∧ off % 4 = 0 then
    if s.part.srcOk 1 v.toNat then
      some { s with sh := { s.sh with coolSrc := s.sh.coolSrc.set ((off - 0x10C) / 4) (srcMask v) } } else none
  else some s

/-- Write of a group protection register (Tables 6-14 to 6-18). -/
def Group.protWrite (G : Group) (off : Nat) (v : Reg) : Option Group :=
  let f := fun hi lo => bits v.toNat hi lo
  if off = 0x40 then
    if 1 ≤ f 31 16 ∧ 10 ≤ f 15 8 ∧ f 15 8 ≤ 100 ∧ 10 ≤ f 7 0 ∧ f 7 0 ≤ 100 then some { G with olCfg := v } else none
  else if off = 0x44 then if f 15 0 < f 31 16 then some { G with otCfg := v } else none
  else if off = 0x48 then
    if 1 ≤ f 31 16 ∧ f 31 16 ≤ 5000 ∧ 1 ≤ f 15 8 ∧ 10 ≤ f 7 0 ∧ f 7 0 ≤ 100 then some { G with protCfg := v } else none
  else if off = 0x50 then some { G with ov := v.toInt }
  else if off = 0x54 then some { G with uv := v.toInt }
  else if off = 0x58 then if 1 ≤ f 31 16 ∧ 1 ≤ f 15 0 then some { G with vlimTime := v } else none
  else some G

/-- A refused protection write (R167). -/
def State.protRefused (s : State) (addr : Nat) : State :=
  { s with sh := { s.sh with protReject := true } }.record 0x0405 0 kNone 0 (leBytes 4 addr)

def execProtRegisterWrite (addr : Nat) (data : Reg) (s : State) : Host.Outcome State Fault Refusal :=
  if !s.bar0 then .next s
  else if 0xA10000 ≤ addr ∧ addr < 0xA11000 then .next ((s.protShelf (addr - 0xA10000) data).getD (s.protRefused addr))
  else if 0xA00000 ≤ addr ∧ addr < 0xA10000 then
    let g := (addr - 0xA00000) / 0x1000
    match (s.group g).protWrite (addr % 0x1000) data with
    | some G => .next (s.setGroup g (fun _ => G))
    | none => .next (s.protRefused addr)
  else .next s

def execTmGrpSrcWrite (group which : Nat) (data : Reg) (s : State) : Host.Outcome State Fault Refusal :=
  if s.bar0 && s.part.srcOk 4 data.toNat && decide (group < 16) then
    let v := srcMask data
    .next (s.setGroup group (fun G =>
      if which = 0 then { G with vSrc := v } else if which = 1 then { G with iSrc := v }
      else if which = 2 then { G with pSrc := v } else G))
  else .next s

/-! ### Sequencer events -/

def execAutostart (s : State) : Host.Outcome State Fault Refusal :=
  let todo := (List.range 16).filter (fun g =>
    let G := s.group g
    G.gtype != 0 && G.autostart && !G.autoTried)
  let order := (todo.map (fun g => (s.group g).startOrder)).foldl min 15
  let settled := (List.range 16).all (fun g =>
    let G := s.group g
    !(G.toReg && decide (G.startOrder < order)))
  if !s.active || !s.rc.run || !s.sh.storeOk || !s.sh.calOk || !settled then .next s
  else
    .next ((todo.filter (fun g => (s.group g).startOrder == order)).foldl (fun s g =>
      let s := s.setGroup g (fun G => { G with autoTried := true })
      if (s.group g).state = .off ∧ (s.startRefusal g).isNone then s.startGroup g else s) s)

def execPreBiasedStart (group : Nat) (s : State) : Host.Outcome State Fault Refusal :=
  if (s.group group).startPend then .next (s.closeGroup group) else .next s

def execRegulationReached (group : Nat) (s : State) : Host.Outcome State Fault Refusal :=
  let G := s.group group
  if G.state = .starting ∧ ¬ G.startPend ∧ G.regCount ≤ G.regRun then
    let s := s.setGroup group (fun G => { G with state := .regulating, toReg := false })
    .next (s.completeWhere (· == Wait.groupEnable group) stOk 0)
  else .next s

def execStartTimeout (group : Nat) (s : State) : Host.Outcome State Fault Refusal :=
  if (s.group group).state = .starting ∨ (s.group group).toReg then
    let s := s.completeWhere (· == Wait.groupEnable group) stTimeout 0
    .next ((s.record 0x0402 4 kGroup group []).quench group 3)
  else .next s

def execQuenchTimeout (group : Nat) (s : State) : Host.Outcome State Fault Refusal :=
  if (s.group group).state = .quenching then .next (s.groupOff group) else .next s

def execRetireTimeout (port : Nat) (s : State) : Host.Outcome State Fault Refusal :=
  .next (s.completeWhere (· == Wait.retire port) stTimeout 0)

def execRestoreSrStep (port : Nat) (s : State) : Host.Outcome State Fault Refusal :=
  if (s.port port).restore = some .srStep then
    .next ((s.setPort port (fun P => { P with restore := none })).completeWhere (· == Wait.restore port) stOk 0)
  else .next s

/-- Every bus group that is not OFF, one that is STARTING or asleep included, passes to BURST_RUN together; a quench goes on
(R103, R112). -/
def execBurstEnter (s : State) : Host.Outcome State Fault Refusal :=
  let live := s.busGroups.filter (fun g => (s.group g).state != .off)
  let run := live.filter (fun g => (s.group g).state != .quenching)
  if s.active && decide (s.sh.useDwell ≤ s.sh.burstLow) && s.sh.burstHold == 0 && run.any (fun g => !s.inBurst g) &&
      live.all (fun g => (s.group g).burstEn) then
    .next (run.foldl State.runGroup s)
  else .next s

def execImbalance (port : Nat) (s : State) : Host.Outcome State Fault Refusal :=
  let P := s.port port
  if P.isCell && !P.imbOn && decide ((s.group P.group).imbPersistEff ≤ P.imbCount) then
    let s := s.setPort port (fun P => { P with imbOn := true, imbFlag := true, imbCount := 0, imbOk := 0 })
    if s.active then .next ((s.record 0x0403 1 kPort port (leBytes 4 P.imbDev)).ladder (.cell port) 1 0 18) else .next s
  else .next s

/-! ### Register reads (Tables 4-9 and 6-7) -/

/-- Word w of a bit list over ports. -/
def State.portBits (s : State) (w : Nat) (f : Nat → Bool) : Nat :=
  (List.range 32).foldl (fun a b => a + flagAt (decide (32 * w + b < s.part.ports) && f (32 * w + b)) b) 0

/-- A word of a group's registers. -/
def State.grpRead (s : State) (g off : Nat) : Nat :=
  let G := s.group g
  let mem := fun p => (s.port p).isCell && (s.port p).group == g
  if off = 0x000 then
    fieldAt G.currSlot 8 24 + fieldAt G.voltSlot 8 16 + fieldAt G.startOrder 4 12 + flagAt G.burstEn 9 +
      flagAt G.autostart 8 + fieldAt G.pbMode 4 4 + fieldAt G.gtype 2 0
  else if off = 0x004 then
    fieldAt (s.members g).length 8 24 + fieldAt (s.activeMembers g).length 8 16 + fieldAt G.lastQuench 8 8 + G.state.code
  else if 0x010 ≤ off ∧ off ≤ 0x018 then s.portBits ((off - 0x10) / 4) (fun p => mem p && (s.port p).out)
  else if 0x020 ≤ off ∧ off ≤ 0x028 then s.portBits ((off - 0x20) / 4) (fun p => mem p && (s.port p).imbFlag)
  else if off = 0x040 then G.olCfg.toNat
  else if off = 0x044 then G.otCfg.toNat
  else if off = 0x048 then G.protCfg.toNat
  else if off = 0x050 then ofSigned 32 G.ov
  else if off = 0x054 then ofSigned 32 G.uv
  else if off = 0x058 then G.vlimTime.toNat
  else if off = 0x060 then
    let c := (s.activeMembers g).map s.port
    fieldAt (s.factor g) 8 24 + flagAt (decide (s.sh.coolFactor < 100)) 3 +
      flagAt (c.any (fun P => decide (P.tempFactor < 100))) 2 + flagAt G.olDerate 1 + flagAt (c.any (fun P => P.olDerate)) 0
  else if off = 0x064 then s.availW g
  else if off = 0x068 then min (G.heat / 2 ^ 16) (2 ^ 32 - 1)
  else if 0x070 ≤ off ∧ off ≤ 0x078 then s.portBits ((off - 0x70) / 4) (fun p => mem p && (s.port p).devCount != 0)
  else 0

/-- TARGET_REACHED of PT_BUS_STATUS (Table 4-13). -/
def State.targetReached (s : State) : Bool :=
  let l := s.busGroups.filter (fun g => (s.group g).state != .off)
  !l.isEmpty && l.all s.atTarget

/-- SLEWING: a bus Taper is moving. -/
def State.slewing (s : State) : Bool :=
  s.busGroups.any (fun g =>
    let x := s.slot (s.group g).voltSlot
    (s.group g).state != .off && x.closed && !x.taperDone)

/-- A word of the shelf's power-train registers, by offset from 0x00A1_0000. -/
def State.shelfRead (s : State) (off : Nat) : Nat :=
  if off = 0x000 then s.sh.vset.toNat
  else if off = 0x004 then s.sh.slewReg
  else if off = 0x008 then ofSigned 32 s.sh.target
  else if off = 0x00C then
    flagAt s.sh.burstReject 6 + flagAt (!s.burstGroups.isEmpty) 5 + flagAt s.sh.slewReject 4 + flagAt s.sh.vsetReject 3 +
      flagAt s.sh.superseded 2 + flagAt s.targetReached 1 + flagAt s.slewing 0
  else if off = 0x010 then s.sh.leadUs
  else if off = 0x014 then s.sh.burstEnter
  else if off = 0x018 then s.sh.burstDwell
  else if off = 0x01C then s.sh.burstBand
  else if off = 0x100 then
    fieldAt s.levelNow 3 16 + fieldAt s.sh.coolFactor 8 8 + flagAt s.sh.protReject 4 + flagAt s.sh.coolHold 3 +
      flagAt s.sh.flowLow 2 + flagAt s.sh.shelfQuench 1 +
      flagAt ((List.range 16).any (fun g => (s.group g).gtype != 0 && decide (s.factor g < 100))) 0
  else if off = 0x104 then s.sh.coolT.toNat
  else if off = 0x108 then s.sh.coolCfg.toNat
  else if 0x10C ≤ off ∧ off ≤ 0x114 then (nth s.sh.coolSrc ((off - 0x10C) / 4) 0).toNat
  else if 0x400 ≤ off ∧ off < 0x540 then
    if (off - 0x400) / 4 < s.part.ports then min ((s.port ((off - 0x400) / 4)).heat / 2 ^ 16) (2 ^ 32 - 1) else 0
  else if 0x600 ≤ off ∧ off < 0x740 then
    if (off - 0x600) / 4 < s.part.ports then (s.port ((off - 0x600) / 4)).cause else 0
  else 0

/-- A word of the power-train registers, by offset from 0x00A0_0000. -/
def State.ptRead (s : State) (off : Nat) : Nat :=
  if off < 0x10000 then s.grpRead (off / 0x1000) (off % 0x1000) else s.shelfRead (off - 0x10000)

end Sys2Proof.Machine
end

