-- ==== Sys2Proof/Machine/Redundancy.lean ====
section
/-!
DEFINITION. Ownership, takeover and depose as shared operations (R137, R273, R281, R285, R286).
-/

namespace Sys2Proof.Machine

open Sys2Proof

/-- Epoch a is newer than b in serial arithmetic (R137). -/
def newer (a b : Nat) : Bool :=
  let d := (a + 65536 - b % 65536) % 65536
  decide (1 ≤ d) && decide (d ≤ 32767)

/-- The newest of two epochs; 0 means none. -/
def newest (a b : Nat) : Nat := if a = 0 then b else if b = 0 then a else if newer b a then b else a

/-- The next epoch, skipping 0 (R273). -/
def nextEpoch (e : Nat) : Nat := if (e + 1) % 65536 = 0 then 1 else (e + 1) % 65536

/-- EPOCH_OBEYED and OBEYS of the last good FAST_UP of a port (Table 5-4). -/
def Port.epochObeyed (P : Port) : Nat := bits P.hdr 39 24
def Port.obeys (P : Port) : Bool := bitAt P.hdr 23

/-- TRAINED ports of the part. -/
def State.trainedPorts (s : State) : List Nat := (List.range s.part.ports).filter (fun p => (s.port p).state == .trained)

/-- The epoch a module takes as it becomes ACTIVE (R273). -/
def State.chooseEpoch (s : State) : Nat :=
  nextEpoch ((s.trainedPorts.map (fun p => (s.port p).epochObeyed)).foldl newest (newest s.teth.bkEpoch s.teth.partnerEpoch))

/-- An epoch written to FL_OWN and the backup register (R273). -/
def State.takeEpoch (s : State) (e : Nat) : State := { s with teth := { s.teth with epoch := e, bkEpoch := e } }

/-- The role ACTIVE with its epoch (R272, R273). -/
def State.becomeActive (s : State) : State := { s.takeEpoch s.chooseEpoch with role := .active }

/-- Takeover initialisation marked on closed slots with a PORT or GROUP destination (R281 step 2). -/
def Slot.markTakeover (x : Slot) : Slot :=
  if x.closed && (x.destType == 1 || x.destType == 2) then { x with init := some .takeover } else x

/-- HOLD_US below 20 µs with a partner (R141). -/
def State.holdCheck (s : State) (p : Nat) : State :=
  let P := s.port p
  let short := s.teth.trained && decide (P.holdUs < 20)
  let s := s.setPort p (fun P => { P with holdShort := short })
  if short && !P.holdShort then s.record 0x0B03 1 kPort p (leBytes 2 P.holdUs) else s

/-- A port leaves electrical idle: its first period begins at its launch cycle, with no old period before it (R123, R281). -/
def Port.wake (P : Port) : Port := { P with copyFailed := false, sentLaunch := P.launch, line := { P.line with begun := [] } }

/-- A port goes to electrical idle: no period is under way. -/
def Port.idleLine (P : Port) : Port := { P with line := { P.line with begun := [] } }

/-- TAKEOVER_INIT: a standby takes ownership (R281), and HOLD_US of every port is checked (R141). `cause` is LAST_CAUSE of
Table 11-12. SNUFF_N is driven afresh, under the module's own grants (R283). -/
def State.takeover (s : State) (cause : Nat) : State :=
  let s := s.becomeActive.mapPorts Port.wake
  let s := { s with
    le := { s.le with slots := s.le.slots.map Slot.markTakeover },
    gv := { s.gv with snuffOut := false },
    teth := { s.teth with armed := false, appliedAt := none, copyWhole := false, takeovers := satInc 8 s.teth.takeovers, lastCause := cause, failed := [],
                          tkoAt := some s.clk.now, checkDue := true, checkPorts := s.trainedPorts } }
  s.trainedPorts.foldl State.holdCheck s

/-- Every command that waits for a takeover ends. -/
def State.endTakeover (s : State) (status result : Nat) : State :=
  { s with teth := { s.teth with hand := .none } }.completeWhere (· == Wait.takeover) status result

/-- The lead role and SNUFF_N end with the module's own role (R241, R253). -/
def State.dropLead (s : State) : State :=
  let on := s.drivesSnuff
  let s := { s with gv := { s.gv with role := 0, leadShelf := none, claim := none, lowMs := 0, epochGrants := [], snuffOut := false } }
  if on then (s.emit (.pin "SNUFF_N" true)).record 0x0702 2 kNone 0 (leBytes 1 0) else s

/-- A restore whose service access ended without an answer completes TIMEOUT. -/
def State.svcFailed (s : State) (p : Nat) : SvcUse → State
  | .clearFault | .readFault => (s.setPort p (fun P => { P with restore := none })).completeWhere (· == Wait.restore p) stTimeout 0
  | .unlatch | .discover => s

/-- A service access ends with TIMEOUT: its flag and event (R132). -/
def State.endAccess (s : State) (p : Nat) (r : SvcReq) : State :=
  ((s.setPort p (fun P => { P with svcTimeout := true })).record 0x0B02 0 kPort p (leBytes 2 r.addr)).svcFailed p r.use

/-- Every access of a port that can no longer be carried ends (R33, R132); the reads of a training attempt end with it
(assumption 105). -/
def State.endAccesses (s : State) (p : Nat) : State :=
  let l := ((s.port p).svcOut ++ (s.port p).svcWait).filter (fun r => r.use != .discover)
  l.foldl (fun s r => s.endAccess p r) (s.setPort p (fun P => { P with svcOut := [], svcWait := [] }))

/-- Ports with a service access that has not ended. -/
def State.accessPorts (s : State) : List Nat :=
  (List.range s.part.ports).filter (fun p => !((s.port p).svcOut.isEmpty && (s.port p).svcWait.isEmpty))

/-- Every cell-port transmitter goes to electrical idle, and what was being carried on it ends (R285). -/
def State.idlePorts (s : State) : State := (s.mapPorts Port.idleLine).accessPorts.foldl State.endAccesses (s.mapPorts Port.idleLine)

/-- The cell ports idle and the role changes without a reset (R285, R286). -/
def State.stepDown (s : State) (r : Role) : State :=
  let s := s.dropLead.idlePorts
  { s with role := r, teth := { s.teth with armed := false, hbRun := 0, tkoAt := none, checkDue := false, chunks := [], appliedAt := none } }

/-- DEPOSED (R285): the role OFFLINE and an event with the epoch seen. -/
def State.depose (s : State) (seen : Nat) : State :=
  { s.stepDown .offline with teth := { (s.stepDown .offline).teth with deposed := true } }.record 0x0C03 2 kNone 0
    (leBytes 2 seen)

/-- R285 on a good frame of a trained port that shows OBEYS = 0. -/
def State.ownership (s : State) (p : Nat) : State :=
  let P := s.port p
  if !s.active || P.obeys || s.teth.hand != .none then s
  else if P.epochObeyed = 0 then s
  else if newer P.epochObeyed s.teth.epoch then s.depose P.epochObeyed
  else if P.epochObeyed = s.teth.epoch then
    if s.teth.slotB then s.depose P.epochObeyed else s.takeEpoch (nextEpoch s.teth.epoch)
  else s

/-- Every TRAINED port reports an epoch. -/
def State.allReport (s : State) (e : Nat) : Bool := s.trainedPorts.all (fun p => (s.port p).epochObeyed == e)

/-- The switch of ownership as the ports report it: LAST_SWITCH, and step 3 of R286. -/
def State.switchCheck (s : State) : State :=
  let s := match s.teth.tkoAt with
    | some t =>
      if s.active && s.allReport s.teth.epoch then
        { s with teth := { s.teth with tkoAt := none, lastSwitch := min ((s.clk.now - t) / 10) 65535 } }
      else s
    | none => s
  match s.teth.hand with
  | .offered e => if s.active && s.allReport (nextEpoch e) then (s.stepDown .standby).endTakeover stOk 0 else s
  | .taken e => if s.active && s.allReport e then s.endTakeover stOk 0 else s
  | _ => s

/-- A port becomes LOST: level 3 with cause 8 (R142, R143, R284). Its service accesses go on, and end by R132. -/
def State.loseTrained (s : State) (p : Nat) : State :=
  let s := s.setPort p (fun P => { P with state := .lost, lostSeen := true })
  if (s.port p).isCell then s.ladder (.cell p) 3 8 15 else s.ladder (.cell p) 1 8 15

end Sys2Proof.Machine
end

