-- ==== Sys2Proof/Machine/Telemetry.lean ====
section
/-!
DEFINITION. Telemetry and the detectors that work per frame period, per 1 ms window and per 100 ms (R115, R157 to R164,
R294 to R297).
-/

namespace Sys2Proof.Machine

open Sys2Proof

/-! ### Averages and peaks (R294, R295) -/

/-- One good sample. -/
def Chan.add (c : Chan) (v : Int) : Chan :=
  { c with sum := c.sum + v, cnt := c.cnt + 1, mn := min c.mn v, mx := max c.mx v }

/-- End of a 1 ms window. -/
def Chan.end1 (c : Chan) : Chan :=
  if c.cnt = 0 then { c with noData := true }
  else
    let a := divRne c.sum c.cnt
    { c with sum := 0, cnt := 0, avg1 := a, noData := false, sum100 := c.sum100 + a, cnt100 := c.cnt100 + 1,
             sum1k := c.sum1k + a, cnt1k := c.cnt1k + 1 }

/-- End of a 100 ms window. -/
def Chan.end100 (c : Chan) : Chan :=
  { c with avg100 := if c.cnt100 = 0 then c.avg100 else divRne c.sum100 c.cnt100, sum100 := 0, cnt100 := 0 }

/-- End of a 1 s window. -/
def Chan.end1k (c : Chan) : Chan :=
  { c with avg1k := if c.cnt1k = 0 then c.avg1k else divRne c.sum1k c.cnt1k, sum1k := 0, cnt1k := 0 }

/-- The 1 ms window that ends in frame period f; windows of 100 ms and 1 s end with F mod 200,000 = 0 and F mod 2,000,000 = 0
(R294). -/
def Chan.endWindow (f : Nat) (c : Chan) : Chan :=
  let c := c.end1
  let c := if f % 200000 = 0 then c.end100 else c
  if f % 2000000 = 0 then c.end1k else c

/-- BR_CAPS and BR_LAYOUT give the channel a lane (R126, R128). -/
def Port.lanesOf (P : Port) (ch : Nat) : List Nat :=
  let on := (List.range 8).filter (fun k => bitAt P.laneEn k && bits P.layout.toNat (4 * k + 2) (4 * k) == ch)
  on.filter (fun k => !bitAt P.layout.toNat (4 * k + 3)) ++ on.filter (fun k => bitAt P.layout.toNat (4 * k + 3))

/-- An enabled lane channel of a port that has been trained; a LOST port still is one (R294, assumption 60). -/
def Port.chanOn (P : Port) (ch : Nat) : Bool := (P.state == .trained || P.state == .lost) && !(P.lanesOf ch).isEmpty

/-! ### Currents the detectors use (R458) -/

/-- The sample channel of a cell's current. -/
def State.currentCh (s : State) (p : Nat) : Nat :=
  let G := s.group (s.port p).group
  let x := s.slot (if G.gtype = 1 then (s.port p).cellSlot else G.currSlot)
  if x.loaded && (selType x.meas == 1 || selType x.meas == 2) then selChannel x.meas else 0

/-- The cell's 1 ms average current. -/
def State.cellCurrent (s : State) (p : Nat) : Int := (nth (s.port p).tele (s.currentCh p) {}).avg1

/-- The group's 1 ms average current. -/
def State.groupCurrent (s : State) (g : Nat) : Int := sumOf (s.activeMembers g) s.cellCurrent

/-! ### Frame period (R161, R296, R297) -/

/-- DC-link groups: grid and storage. -/
def Group.onLink (G : Group) : Bool := G.gtype == 1 || G.gtype == 3

def GroupState.regulates : GroupState → Bool
  | .regulating => true
  | .burstRun => true
  | .burstSleep => true
  | _ => false

/-- The group's voltage limits are tested (R161). -/
def State.vTested (s : State) (g : Nat) : Bool :=
  if (s.group g).gtype = 1 then s.groups.any (fun G => G.onLink && G.state != .off)
  else (s.group g).gtype != 0 && (s.group g).state != .off

/-- Undervoltage time counts (R161). -/
def State.uvCounts (s : State) (g : Nat) : Bool :=
  let G := s.group g
  if G.gtype = 1 then s.groups.any (fun G => G.onLink && G.state.regulates)
  else G.state.regulates && (G.gtype != 2 || ((s.slot G.currSlot).closed && (s.slot G.currSlot).clamp == 1))

/-- The voltage timers of a group at one frame period: each good sample counts one period (R161). -/
def State.vTimers (s : State) (g : Nat) : State :=
  let G := s.group g
  let v := s.readSel G.pbOut
  if !s.vTested g then s.setGroup g (fun G => { G with ovNs := 0, uvNs := 0 })
  else if !s.uvCounts g && v.stale then s.setGroup g (fun G => { G with uvNs := 0 })
  else if v.stale then s
  else
    let hi := G.ov != 0 && decide (G.ov < v.v)
    let lo := G.uv != 0 && decide (v.v < G.uv) && s.uvCounts g
    s.setGroup g (fun G => { G with ovNs := if hi then G.ovNs + 500 else 0, uvNs := if lo then G.uvNs + 500 else 0 })

/-- V, I and P of a group in one frame period (R296). -/
def State.groupFrame (s : State) (g : Nat) : State :=
  let G := s.group g
  if G.gtype = 0 then s
  else
    let v := s.readSel G.vUse.toNat
    let c := s.readSel G.iUse.toNat
    let p := if selType G.pUse.toNat = 0 then
        { v := satI 32 (divRne (v.v * c.v) 1000000), stale := v.stale || c.stale : SrcVal }
      else s.readSel G.pUse.toNat
    s.setGroup g (fun G => { G with
      tv := if v.stale then G.tv else G.tv.add v.v
      ti := if c.stale then G.ti else G.ti.add c.v
      tp := if p.stale then G.tp else G.tp.add p.v
      pNow := p.v, pStale := p.stale })

/-- The grid group, where the shelf has one. -/
def State.gridGroup (s : State) : Option Nat := (List.range 16).find? (fun g => (s.group g).gtype == 1)

/-- Selectors outside a port whose 1 ms average the estimator or the Planisher reads: string voltages and currents, and the
grid input (R172, R187, R456). -/
def State.avgSels (s : State) : List Nat :=
  let grid := match s.gridGroup with
    | some g => [(s.group g).pbIn]
    | none => []
  ((s.pl.strs.flatMap (fun x => [(s.group x.1).pbOut, x.2.iSrc]) ++ grid).filter
    (fun v => selType v == 3 || selType v == 4)).eraseDups

/-- One frame period of those selectors. -/
def State.selFrame (s : State) : State :=
  { s with sh := { s.sh with selTele := s.avgSels.map (fun v =>
      let c := (look s.sh.selTele v).getD {}
      (v, if (s.readSel v).stale then c else c.add (s.readSel v).v)) } }

/-- The frames of a period have been taken: group and shelf telemetry, voltage timers, burst (R112, R161, R296, R297). -/
def State.framePeriod (s : State) : State :=
  let s := s.selFrame
  let s := (List.range 16).foldl (fun s g => (s.groupFrame g).vTimers g) s
  let out := sumOf (s.groups.filter (fun G => G.gtype == 2)) (fun G => G.pNow)
  let old := s.groups.any (fun G => G.gtype == 2 && G.pStale)
  let s := { s with sh := { s.sh with
    gridHist := (((s.groups.find? (fun (G : Group) => G.gtype == 1)).map (fun (G : Group) => G.pNow)).getD 0 :: s.sh.gridHist).take 20
    outHist := (out :: s.sh.outHist).take 20, outStale := (old :: s.sh.outStale).take 2, outTele := s.sh.outTele.add out } }
  let s := if s.active then s.burstFrame else s
  s.mapPorts (fun P => { P with fresh := false })

/-- lm of R297: the mean shelf output of the last 20 frame periods. -/
def State.lm (s : State) : Int := divRne s.sh.outHist.sum 20

/-- pg of R180: the grid group's 1 ms average input power. -/
def State.pg (s : State) : Int := match s.gridGroup with
  | some g => (s.group g).tp.avg1
  | none => 0

/-- 1 ms average of a source; none when it, or a sample it reads, had none in the window: a port in training or FAILED has
none. -/
def State.avgSel (s : State) (sel : Nat) : Option Int :=
  let one := fun p =>
    let c := nth (s.port p).tele (selChannel sel) {}
    if c.noData || !(s.port p).chanOn (selChannel sel) then none else some c.avg1
  if selType sel = 1 then one (selIndex sel)
  else if selType sel = 2 then
    let l := (s.activeMembers (selIndex sel)).map one
    if l.contains none then none else some (l.filterMap id).sum
  else if selType sel = 3 ∨ selType sel = 4 then
    match look s.sh.selTele sel with
    | some c => if c.noData then none else some c.avg1
    | none => none
  else some (s.readSel sel).v

/-- One frame period in which nothing arrives: with no port TRAINED the module's telemetry goes on by itself (R297,
assumption 4). -/
def State.quietPeriod (s : State) : State :=
  let t := s.idlePeriod
  if s.rc.power != .off && !s.rc.badClk.contains 0 && s.rc.on 4 && !s.ports.any (fun P => P.state == .trained) then t.framePeriod
  else t

/-! ### 1 ms detectors -/

/-- x of R157: at most 2^64 - 1; with a zero reference the spec states no value and it is free. -/
def State.heatX (s : State) (i : Int) (num den : Nat) : Nat × State :=
  let top := 2 ^ 64 - 1
  if num = 0 then let f := s.freeNat; (min f.1 top, f.2)
  else (min ((i * i).toNat * 2 ^ 32 * (den * den) / (num * num)) top, s)

/-- ol_update of R157. -/
def heatNext (h x tau : Nat) : Nat := ((h : Int) + divFloor ((x : Int) - h) tau).toNat

/-- The three thresholds of R158 after an update: warning, derate and trip as they now stand. -/
def heatFlags (h : Nat) (w d : Bool) : Bool × Bool × Bool :=
  let at_ := fun p => decide (p * 2 ^ 32 ≤ 100 * h)
  (at_ 100 || (w && at_ 95), at_ 110 || (d && at_ 100), at_ 120)

/-- A condition that clears by itself, put at its present level without a record, whatever else stands on its subject
(R153). -/
def State.settle (s : State) (x : Subj) (code : Nat) (w d : Bool) : State :=
  if d || s.acted x code then s else if w then s.stand x code 1 else s.unstand x code

/-- A detector run over a list of subjects; the findings are kept for the ladder (R152). -/
def gather (f : State → Nat → State × List Found) (l : List Nat) (a : State × List Found) : State × List Found :=
  l.foldl (fun a k => let r := f a.1 k; (r.1, a.2 ++ r.2)) a

/-- Overload of one cell at a 1 ms update (R157, R158). A retired cell makes no finding; what stood on it for its heat clears as
H falls. A standby keeps a trip as still to be found (R154). -/
def State.cellHeat (s : State) (p : Nat) : State × List Found :=
  let P := s.port p
  let G := s.group P.group
  let x := s.heatX (if P.retired then 0 else s.cellCurrent p) (G.refPct * P.ratingMa) 100
  let s := x.2
  let h := heatNext P.heat x.1 G.tauMs
  let f := heatFlags h P.olWarn P.olDerate
  if P.retired then
    let w := P.olWarn && f.1 && !s.acted (.cell p) 4
    let d := P.olDerate && f.2.1 && !s.acted (.cell p) 4
    let s := s.setPort p (fun P => { P with heat := h, olWarn := w, olDerate := d, olTrip := false })
    (if (P.olWarn && !w) || (P.olDerate && !d) then s.settle (.cell p) 4 w d else s, [])
  else
    let s := s.setPort p (fun P => { P with heat := h, olWarn := f.1, olDerate := f.2.1, olTrip := f.2.2 && s.active })
    let new := (if f.2.2 && !P.olTrip then [(Subj.cell p, 3, 5, 4)] else []) ++
      (if f.2.1 && !P.olDerate then [(Subj.cell p, 2, 5, 4)] else []) ++
      (if f.1 && !P.olWarn then [(Subj.cell p, 1, 5, 4)] else [])
    (if (P.olWarn && !f.1) || (P.olDerate && !f.2.1) then s.settle (.cell p) 4 f.1 f.2.1 else s, new)

/-- Overload of one group (R157, R158). -/
def State.groupHeat (s : State) (g : Nat) : State × List Found :=
  let G := s.group g
  if G.gtype = 0 then (s, [])
  else if G.state = .off then
    (if G.olWarn || G.olDerate || G.olTrip then
      (s.setGroup g (fun G => { G with olWarn := false, olDerate := false, olTrip := false })).settle (.group g) 5 false false
    else s, [])
  else
    let x := s.heatX (s.groupCurrent g) (G.refPct * G.ratingMa * (s.activeMembers g).length) (100 * (s.members g).length)
    let s := x.2
    let h := heatNext G.heat x.1 G.tauMs
    let f := heatFlags h G.olWarn G.olDerate
    let s := s.setGroup g (fun G => { G with heat := h, olWarn := f.1, olDerate := f.2.1, olTrip := f.2.2 && s.active })
    let new := (if f.2.2 && !G.olTrip then [(Subj.group g, 4, 0, 5)] else []) ++
      (if f.2.1 && !G.olDerate then [(Subj.group g, 2, 0, 5)] else []) ++
      (if f.1 && !G.olWarn then [(Subj.group g, 1, 0, 5)] else [])
    (if (G.olWarn && !f.1) || (G.olDerate && !f.2.1) then s.settle (.group g) 5 f.1 f.2.1 else s, new)

/-- Temperature of one cell (R159); the window's highest report is used up. A retired cell makes no finding; what stood on it
for its temperature clears as T falls. A standby keeps T at SHUT as still to be found (R154). -/
def State.cellTemp (s : State) (p : Nat) : State × List Found :=
  let P := s.port p
  let G := s.group P.group
  match P.tempMax with
  | none => (s, [])
  | some t =>
    let s := s.setPort p (fun P => { P with tempMax := none })
    if P.retired then
      let find := P.tempFind && decide (G.warnT - G.hyst ≤ t) && !s.acted (.cell p) 6
      let s := s.setPort p (fun P => { P with tempShut := false, tempFind := find, tempFactor := 100 })
      (if P.tempFind && !find then s.calm (.cell p) 6 else s, [])
    else
      let hot := P.tempShut && decide (G.shutT - G.hyst ≤ t)
      let shut := decide (G.shutT ≤ t)
      let again := P.tempAgain && decide (G.shutT - G.hyst ≤ t)
      let find := decide (G.warnT ≤ t) || (P.tempFind && decide (G.warnT - G.hyst ≤ t))
      let fac : Nat := if find then
          (min 100 (max 0 (100 - divFloor (50 * (t - G.warnT)) (G.shutT - G.warnT).toNat))).toNat
        else 100
      let s := s.setPort p (fun P => { P with tempShut := (shut || hot) && s.active, tempAgain := false, tempFind := find, tempFactor := fac })
      (if P.tempFind && !find then s.calm (.cell p) 6 else s,
        (if (shut && !P.tempShut) || again then [(Subj.cell p, 3, 4, 6)] else []) ++
        (if find && !P.tempFind then [(Subj.cell p, 2, 4, 6)] else []))

/-- The comparison set of a cell (R115, R162): its group, or for a grid cell the cells of its phase; retired ones out. -/
def State.compareSet (s : State) (p : Nat) : List Nat :=
  let g := (s.port p).group
  if (s.group g).gtype = 1 then (s.activeMembers g).filter (fun q => (s.port q).phase == (s.port p).phase)
  else s.activeMembers g

/-- Sum and number of the mates' currents: m_c (R162). -/
def State.matesOf (s : State) (p : Nat) : Int × Nat :=
  let l := (s.compareSet p).filter (· != p)
  (sumOf l s.cellCurrent, l.length)

/-- The deviation count of a cell (R162, R163). -/
def State.senseWindow (s : State) (p : Nat) : State :=
  let P := s.port p
  let g := P.group
  let G := s.group g
  let m := s.matesOf p
  let a := s.cellCurrent p
  let gate := decide ((20 * G.ratingMa * (s.activeMembers g).length : Nat) ≤ 100 * s.groupCurrent g * (s.members g).length)
  if m.2 < 2 ∨ !gate then s
  else if 100 * absI (a * m.2 - m.1) > (G.senseDev : Int) * absI (m.1) then
    let rose := match P.mGood with
      | some b => decide (b.1 * m.2 * (2 * m.2 + 1) ≤ m.1 * b.2 * (2 * m.2))
      | none => false
    s.setPort p (fun P => { P with
      devCount := P.devCount + 1, devOpen := decide (100 * absI a ≤ 2 * (P.ratingMa : Int)) && rose })
  else s.setPort p (fun P => { P with devCount := 0, mGood := some m })

/-- The comparator and frozen-lane cases of R164 at the end of a window. -/
def State.compWindow (s : State) (p : Nat) : State × List Found :=
  let P := s.port p
  let m := s.matesOf p
  let lane := if P.laneConst then P.laneSeen else none
  let moved := match P.mPrev with
    | some b => decide (0 < m.2) && decide (absI (b.1 * m.2) < 10 * absI (m.1 * b.2 - b.1 * m.2))
    | none => false
  let frozen := lane.isSome && lane == P.lanePrev && moved
  let comp := decide (2 ≤ P.compLow)
  let s := s.setPort p (fun P => { P with
    compLow := 0, laneSeen := none, laneConst := true, lanePrev := lane, mPrev := if m.2 = 0 then none else some m })
  (s, if P.retired then [] else (if comp then [(Subj.cell p, 3, 7, 14)] else []) ++ (if frozen then [(Subj.cell p, 3, 7, 13)] else []))

/-- The imbalance count of a cell (R115). -/
def State.imbWindow (s : State) (p : Nat) : State :=
  let P := s.port p
  let g := P.group
  let G := s.group g
  let l := s.compareSet p
  let n := l.length
  let sum := sumOf l s.cellCurrent
  let d := absI (s.cellCurrent p * n - sum)
  let gate := decide (2 ≤ (s.activeMembers g).length) && decide (2 ≤ n) &&
    decide ((G.imbGateEff * G.ratingMa : Nat) ≤ 100 * s.groupCurrent g)
  if P.retired then s.setPort p (fun P => { P with imbCount := 0, imbOk := 0 })
  else if !gate then s.setPort p (fun P => { P with imbFlag := P.imbFlag || P.imbOn })
  else if P.imbOn then
    let ok := decide (10000 * d ≤ 80 * (G.imbPctEff : Int) * absI sum)
    if ok && decide (G.imbPersistEff ≤ P.imbOk + 1) then
      (s.setPort p (fun P => { P with imbOn := false, imbFlag := false, imbOk := 0, imbCount := 0 })).unstand (.cell p) 18
    else s.setPort p (fun P => { P with imbFlag := true, imbOk := if ok then P.imbOk + 1 else 0 })
  else
    let bad := decide (100 * d > (G.imbPctEff : Int) * absI sum)
    s.setPort p (fun P => { P with
      imbCount := if bad then P.imbCount + 1 else 0, imbDev := (min (divZero (10000 * d) sum.natAbs) (2 ^ 32 - 1)).toNat })

/-- The highest temperature of a group's non-retired members in the window (R296 T). -/
def State.groupTemp (s : State) (g : Nat) : State :=
  match (s.activeMembers g).filterMap (fun p => (s.port p).tempMax) with
  | [] => s
  | t :: l => s.setGroup g (fun G => { G with tt := G.tt.add (maxI (t :: l) t) })

/-- Burst counters at the end of a 1 ms window; the burst registers take effect, and a new BURST_HI moves the target of the
groups in BURST_RUN (R112 to R114). -/
def State.burstWindow (s : State) : State :=
  let out := s.sh.outTele.avg1
  let moved := s.sh.useBand != s.sh.burstBand
  let s := { s with sh := { s.sh with useEnter := s.sh.burstEnter, useDwell := s.sh.burstDwell, useBand := s.sh.burstBand } }
  let s := if moved then (s.burstGroups.filter (fun g => (s.group g).state == .burstRun)).foldl State.aimGroup s else s
  let s := if s.active && !s.burstGroups.isEmpty && decide (2 * (s.sh.useEnter : Int) < out) then s.burstExit
    else { s with sh := { s.sh with burstHold := s.sh.burstHold - 1 } }
  { s with sh := { s.sh with burstLow := if out < s.sh.useEnter then s.sh.burstLow + 1 else 0 } }

def execMsWindow (s : State) : Host.Outcome State Fault Refusal :=
  let n := s.le.frame
  let cells := (List.range s.part.ports).filter (fun p => (s.port p).isCell)
  let s := (List.range 16).foldl State.groupTemp s
  let s := { s with
    sh := { s.sh with
      windows := s.sh.windows + 1, outTele := s.sh.outTele.endWindow n, selTele := s.sh.selTele.map (fun x => (x.1, x.2.end1)) }
    ports := s.ports.map (fun P =>
      { P with tele := P.tele.mapIdx (fun ch (c : Chan) => if (P.lanesOf ch).isEmpty then c else c.endWindow n) })
    groups := s.groups.map (fun G => if G.gtype = 0 then G else { G with
      tv := G.tv.endWindow n, ti := G.ti.endWindow n, tp := G.tp.endWindow n, tt := G.tt.endWindow n
      vUse := G.vSrc, iUse := G.iSrc, pUse := G.pSrc }) }
  let s := cells.foldl (fun s p => if (s.port p).out then s else s.senseWindow p) s
  let s := cells.foldl State.imbWindow s
  let a := gather State.cellHeat cells (s, [])
  let a := gather State.groupHeat (List.range 16) a
  let a := gather State.cellTemp cells a
  let a := gather State.compWindow cells a
  .next (a.1.ladderAll a.2).burstWindow

def execSenseFinding (port : Nat) (s : State) : Host.Outcome State Fault Refusal :=
  let P := s.port port
  if s.active && P.isCell && !P.out && decide ((s.group P.group).sensePersist ≤ P.devCount) && decide (P.devCount ≠ 0) then
    .next ((s.setPort port (fun P => { P with devCount := 0 })).ladder (.cell port) 3 (if P.devOpen then 6 else 7) 13)
  else .next s

def execVoltageLimitTrip (group : Nat) (s : State) : Host.Outcome State Fault Refusal :=
  let G := s.group group
  let ov := decide (0 < G.ovNs) && decide (G.ovUs * 1000 ≤ G.ovNs)
  let uv := decide (0 < G.uvNs) && decide (G.uvUs * 1000 ≤ G.uvNs)
  if !s.active || (!ov && !uv) then .next s
  else
    let s := s.setGroup group (fun G => { G with ovNs := if ov then 0 else G.ovNs, uvNs := if uv then 0 else G.uvNs })
    if G.gtype = 1 then .next (s.ladder .shelf 5 0 9)
    else if G.gtype = 2 then .next (s.busGroups.foldl (fun s g => s.ladder (.group g) 4 0 (if ov then 10 else 11)) s)
    else .next (s.ladder (.group group) 4 0 12)

/-! ### Coolant (R160) -/

/-- cool_target of R160. -/
def Shelf.coolTarget (h : Shelf) (t : Int) : Nat :=
  let t0 : Int := bits h.coolT.toNat 15 0
  let t1 : Int := bits h.coolT.toNat 31 16
  let fmin := bits h.coolCfg.toNat 23 16
  if t ≤ t0 then 100 else if t1 ≤ t then fmin
  else (100 - divFloor ((100 - (fmin : Int)) * (t - t0)) (t1 - t0).toNat).toNat

/-- Telemetry of the channel a coolant source names (Table 6-11: TYPE 0 or 1). -/
def State.coolChan (s : State) (k : Nat) : Option (PortState × Chan) :=
  let v := (nth s.sh.coolSrc k 0).toNat
  if selType v = 1 then some ((s.port (selIndex v)).state, nth (s.port (selIndex v)).tele (selChannel v) {}) else none

def execCoolantUpdate (s : State) : Host.Outcome State Fault Refusal :=
  let h := s.sh
  let tick := h.coolTick + 1
  let h' : Shelf := match s.coolChan 1 with
    | some (.trained, c) =>
      if h.windows < 100 then h
      else
        let tgt := h.coolTarget c.avg100
        if tgt ≤ h.coolFactor then { h with coolHold := false, coolFactor := tgt, coolTick := if tgt < h.coolFactor then 0 else tick }
        else if 2 ≤ tick then { h with coolHold := false, coolFactor := h.coolFactor + 1, coolTick := 0 }
        else { h with coolHold := false, coolTick := tick }
    | _ => { h with coolHold := true, coolTick := tick }
  let flowMin := bits h.coolCfg.toNat 15 0
  let low := match s.coolChan 2 with
    | some (.trained, c) => flowMin != 0 && decide (1000 ≤ h.windows) && decide (c.avg1k < (flowMin : Int))
    | _ => h.flowLow && flowMin != 0
  let s := { s with sh := { h' with flowLow := low } }
  let was := decide (h.coolFactor < 100)
  let now := decide (s.sh.coolFactor < 100)
  let s := if was && !now then s.unstand .shelf 7 else s
  let s := if h.flowLow && !low then s.unstand .shelf 8 else s
  .next (s.ladderAll ((if now && !was then [(Subj.shelf, 2, 0, 7)] else []) ++
    (if low && !h.flowLow then [(Subj.shelf, 1, 0, 8)] else [])))

/-! ### Telemetry registers (Tables 12-5 to 12-9) -/

/-- A word of a telemetry sub-block. -/
def Chan.word (c : Chan) (on : Bool) (off : Nat) : Nat :=
  if off = 0x00 then ofSigned 32 c.avg1
  else if off = 0x04 then ofSigned 32 c.avg100
  else if off = 0x08 then ofSigned 32 c.avg1k
  else if off = 0x0C then ofSigned 32 c.mn
  else if off = 0x10 then ofSigned 32 c.mx
  else if off = 0x14 then flagAt on 1 + flagAt c.noData 0
  else 0

def Group.chan (G : Group) (k : Nat) : Chan := if k = 0 then G.tv else if k = 1 then G.ti else if k = 2 then G.tp else G.tt

/-- Channel of a signal and whether it is enabled; a port beyond the part has none (R10). -/
def State.sig (s : State) : Sig → Option (Chan × Bool)
  | .port p ch => if p < s.part.ports ∧ ch < 8 then some (nth (s.port p).tele ch {}, (s.port p).chanOn ch) else none
  | .group g k => if g < 16 ∧ k < 4 then some ((s.group g).chan k, (s.group g).gtype != 0) else none
  | .shelf => some (s.sh.outTele, true)

/-- BAR0 address of a sub-block. -/
def sigAddr : Sig → Nat
  | .port p ch => 0x01C00000 + 0x200 * p + 0x40 * ch
  | .group g k => 0x01C10000 + 0x100 * g + 0x20 * k
  | .shelf => 0x01C20000

/-- A signal's channel replaced. -/
def State.setSig (s : State) (f : Chan → Chan) : Sig → State
  | .port p ch => s.setPort p (fun P => { P with tele := upd P.tele ch f })
  | .group g k => s.setGroup g (fun G =>
      if k = 0 then { G with tv := f G.tv } else if k = 1 then { G with ti := f G.ti }
      else if k = 2 then { G with tp := f G.tp } else { G with tt := f G.tt })
  | .shelf => { s with sh := { s.sh with outTele := f s.sh.outTele } }

/-- The sub-block an address lies in and the offset. -/
def sigOf (a : Nat) : Option (Sig × Nat) :=
  if 0x01C00000 ≤ a ∧ a < 0x01C0A000 then
    some (.port ((a - 0x01C00000) / 0x200) ((a - 0x01C00000) % 0x200 / 0x40), (a - 0x01C00000) % 0x40)
  else if 0x01C10000 ≤ a ∧ a < 0x01C11000 ∧ (a - 0x01C10000) % 0x100 < 0x80 then
    some (.group ((a - 0x01C10000) / 0x100) ((a - 0x01C10000) % 0x100 / 0x20), (a - 0x01C10000) % 0x20)
  else if 0x01C20000 ≤ a ∧ a < 0x01C20020 then some (.shelf, a - 0x01C20000)
  else none

/-- TM_MIN and TM_MAX: the held value is answered and the hold re-armed (R295). -/
def execTmMin (sig : Sig) (s : State) : Host.Outcome State Fault Refusal :=
  match s.sig sig with
  | none => .next (s.emit (.regRead (sigAddr sig + 0x0C) 0))
  | some (c, _) =>
    .next ((s.setSig (fun c => { c with mn := 2 ^ 31 - 1 }) sig).emit (.regRead (sigAddr sig + 0x0C) (ofSigned 32 c.mn)))

def execTmMax (sig : Sig) (s : State) : Host.Outcome State Fault Refusal :=
  match s.sig sig with
  | none => .next (s.emit (.regRead (sigAddr sig + 0x10) 0))
  | some (c, _) =>
    .next ((s.setSig (fun c => { c with mx := -(2 ^ 31) }) sig).emit (.regRead (sigAddr sig + 0x10) (ofSigned 32 c.mx)))

/-- A word of the telemetry registers by BAR0 address. -/
def State.tmRead (s : State) (a : Nat) : Nat :=
  match sigOf a with
  | some (x, off) => match s.sig x with
    | some (c, on) => c.word on off
    | none => 0
  | none =>
    if 0x01C0C000 ≤ a ∧ a < 0x01C0D400 then
      let p := (a - 0x01C0C000) / 0x40
      let t := (a - 0x01C0C000) % 0x40 / 4
      if p < s.part.ports ∧ t < 8 then ofSigned 16 (nth (s.port p).temps t (-32768)) else 0
    else if 0x01C10000 ≤ a ∧ a < 0x01C11000 then
      let G := s.group ((a - 0x01C10000) / 0x100)
      let o := (a - 0x01C10000) % 0x100
      if o = 0x80 then G.vSrc.toNat else if o = 0x84 then G.iSrc.toNat else if o = 0x88 then G.pSrc.toNat else 0
    else if a = 0x01C20100 then
      s.cal.writes * 2 ^ 16 + flagAt s.cal.pending 2 + flagAt (s.cal.writer == 1) 1 + flagAt s.cal.invalid 0
    else 0

end Sys2Proof.Machine
end

