-- ==== Sys2Proof/Machine/Faldon.lean ====
section
/-!
DEFINITION. The Faldon cell link: frames, service accesses, training, loss and the port registers (chapter 5).
-/

namespace Sys2Proof.Machine

open Sys2Proof

/-! ### Frames -/

/-- CRC of a fast frame of a block type (R127). -/
def fastCrcOf (type hdr : Nat) (payload : Bytes) : Nat := crc16 (leBytes 1 type ++ leBytes 5 hdr ++ payload)

/-- CRC of a service frame of a block type (R130). -/
def svcCrcOf (type hdr data mask : Nat) : Nat := crc16 (leBytes 1 type ++ leBytes 5 hdr ++ leBytes 4 data ++ leBytes 4 mask)

/-- A good fast frame: one control block of the type and three data blocks, and its CRC (R120, R125, R127). -/
def goodFast (type : Nat) (f : FastFrame) : Bool :=
  f.syncs == [2, 1, 1, 1] && f.type == type && f.payload.length == 16 && f.crc == fastCrcOf type f.hdr f.payload

/-- A good upstream service frame (R120, R130). -/
def svcGood (f : SvcFrame) : Bool := f.syncs == [2, 1, 1] && f.type == 0x55 && f.crc == svcCrcOf 0x55 f.hdr f.data f.mask

/-- LINK_REV of this link (Table 5-8). -/
def linkRev : Nat := 1

/-- Header of the module's TRAIN blocks on a port (R135 step 1). -/
def State.trainHeader (s : State) (p : Nat) : Nat := fieldAt p 8 0 + flagAt s.teth.slotB 8 + fieldAt linkRev 8 16

/-- Header of a port's FAST_DN (Table 5-3); a standby that trains claims nothing (R279). -/
def State.dnHeader (s : State) (p : Nat) : Nat :=
  fieldAt s.teth.epoch 16 24 + flagAt s.active 23 + flagAt (s.runFlag p) 22 + flagAt (s.srFlag p) 21 +
    fieldAt s.le.frame 8 8

/-- A scheduled slot writes a command field of a port (R59, R82). -/
def State.fieldWritten (s : State) (p f : Nat) : Bool :=
  s.le.table.ents.any (fun e =>
    let x := s.slot e.slot
    x.loaded && x.destField == f && ((x.destType == 1 && x.destIndex == p) ||
      (x.destType == 2 && (s.port p).isCell && (s.port p).group == x.destIndex)))

/-- Command fields of a port's frame: 0 for a port that is out (R105, R126). A slot without an entry sends nothing (R81): a
field that no scheduled slot writes carries 0 (assumption 96). -/
def State.dnPayload (s : State) (p : Nat) : Bytes :=
  if (s.port p).out then List.replicate 16 0
  else (List.range 4).flatMap (fun f => leBytesI 4 (if s.fieldWritten p f then nth (s.port p).cmd f 0 else 0))

/-- UI of the period at which a launch cycle falls (R123): 400 cycles are 1,250 UI. -/
def launchUi (l : Nat) : Nat := l % 400 * 25 / 8

/-- A forced takeover is done when the first frame of every port has left (R287). -/
def State.forcedSent (s : State) (p : Nat) : State :=
  match s.teth.hand with
  | .forced l =>
    let l := l.filter (· != p)
    if l.isEmpty then s.endTakeover stOk 0 else { s with teth := { s.teth with hand := .forced l } }
  | _ => s

/-- The module sends normal periods on a port (Table 11-1, R135 step 3, R143, R279). -/
def State.sendsOn (s : State) (p : Nat) : Bool :=
  let P := s.port p
  decide (p < s.part.ports) && s.rc.portOn p &&
    ((s.active && (P.state == .trained || P.state == .lost || P.state == .training)) ||
      (s.role == .standby && P.state == .training))

/-- The launch cycle in use: cycle 0 while a port is trained (R123, R135). -/
def Port.launchNow (P : Port) : Nat := if P.state = .training then 0 else P.launch

/-- The period under way leaves, with a LAUNCH_MOVE in its block 24 where the launch cycle has moved (R122, R123). -/
def State.endPeriod (s : State) (p : Nat) (d : Nat) : State :=
  let P := s.port p
  let r := P.line.period (if d = 0 then none else some (d / 50, d % 50))
  let s := if d = 0 then s else s.emit (.launchMove p (d / 50) (d % 50))
  if P.line.begun.isEmpty then s
  else (s.setPort p (fun P => { P with line := { begun := [], hist := r.2 } })).emit (.line p r.1 (d % 50))

def execFastDn (port : Nat) (s : State) : Host.Outcome State Fault Refusal :=
  let P := s.port port
  if !s.sendsOn port then .next s
  else
    let s := s.endPeriod port ((launchUi P.launchNow + 1250 - launchUi P.sentLaunch) % 1250)
    let h := s.dnHeader port
    let b := s.dnPayload port
    let s := s.setPort port (fun P => { P with
      sentLaunch := P.launchNow, line := { P.line with begun := fastBlocks 0x2D h b (fastCrcOf 0x2D h b) } })
    .next ((s.emit (.fastDn port h b (fastCrcOf 0x2D h b))).forcedSent port)

/-! ### Latches (R147, R148) -/

/-- BR_FAULT as now known; a latch not yet handed over is a level 3 finding (Table 6-2). A standby hands nothing over
(R154). -/
def State.brFaults (s : State) (p v : Nat) : State × List Found :=
  let told := (s.port p).latchTold
  (s.setPort p (fun P => { P with brFault := v, latchTold := if s.active then v % 16 else 0 }),
    (if bitAt v 0 && !bitAt told 0 then [(Subj.cell p, 3, 2, 2)] else []) ++
    (if bitAt v 3 && !bitAt told 3 then [(Subj.cell p, 3, 3, 3)] else []))

/-- BR_FAULT of a port: of a cell, with its findings. -/
def State.takeFault (s : State) (p v : Nat) : State :=
  if (s.port p).isCell then (s.brFaults p v).1.ladderAll (s.brFaults p v).2 else s.setPort p (fun P => { P with brFault := v })

/-! ### Upstream fast frames (R126 to R128, R142, R290) -/

/-- A bad or missing frame (Table 5-17). -/
def State.badUp (s : State) (p : Nat) : State :=
  s.setPort p (fun P => { P with
    fastCrc := satInc 16 P.fastCrc, badRun := P.badRun + 1, badThisS := P.badThisS + 1, stale := true, fresh := true })

/-- Raw lane k of a payload. -/
def laneOf (b : Bytes) (k : Nat) : Int := i b (2 * k) 2

/-- convert of R290. -/
def State.convert (s : State) (p ch : Nat) (lane : Int) : Int :=
  let e := nth s.cal.entries (8 * p + ch) {}
  (sat32 (roundHalfEven (lane * e.gain) 16 + e.offset)).1

/-- The samples of a good frame taken (R126, R128, R294). -/
def State.deposit (s : State) (p : Nat) (b : Bytes) : State :=
  let raw := (List.range 8).map (laneOf b)
  let smp := (List.range 8).map (fun ch => ((s.port p).lanesOf ch).map (fun k => s.convert p ch (nth raw k 0)))
  s.setPort p (fun P => { P with
    smp := smp, raw := raw, stale := false, fresh := true
    tele := P.tele.mapIdx (fun ch (c : Chan) => (nth smp ch []).foldl Chan.add c) })

/-- What the detectors keep of a good frame: the raw current lane of the window, and comparator trips (R164). -/
def State.frameSense (s : State) (p : Nat) : State × List Found :=
  let P := s.port p
  let ch := s.currentCh p
  let lane := (P.lanesOf ch).getLast?.map (fun k => nth P.raw k 0)
  let s := s.setPort p (fun P => { P with
    laneSeen := if P.laneSeen.isSome then P.laneSeen else lane
    laneConst := P.laneConst && (P.laneSeen.isNone || P.laneSeen == lane) })
  let low := decide (100 * (nth P.smp ch []).getLastD 0 < 50 * (P.ratingMa : Int))
  if !bitAt P.hdr 15 then (s, [])
  else if low then (s.setPort p (fun P => { P with compLow := P.compLow + 1 }), [])
  else (s, [(Subj.cell p, 0, 0, 14)])

/-- The latch and the cycle trips that the header of a good frame of a cell shows (R147, Table 6-2). -/
def State.frameFaults (s : State) (p : Nat) : State × List Found :=
  let h := (s.port p).hdr
  let a := if bitAt h 16 then s.brFaults p (setBit (s.port p).brFault 0 true) else (s, [])
  let due := match (s.port p).scNoteAt with
    | some t => decide (t + 1000000000 ≤ s.clk.now)
    | none => true
  if bitAt h 17 && due then (a.1.setPort p (fun P => { P with scNoteAt := some s.clk.now }), a.2 ++ [(Subj.cell p, 0, 0, 1)])
  else a

/-- The findings of one good frame of a cell, highest level first (R152). -/
def State.frameFindings (s : State) (p : Nat) : State :=
  let a := s.frameFaults p
  let b := a.1.frameSense p
  b.1.ladderAll (a.2 ++ b.2)

/-- The stop that the header of a good frame of a cell shows (R103, R106, R374). -/
def State.frameStop (s : State) (p : Nat) : State :=
  if bitAt (s.port p).hdr 22 then s
  else
    let s := s.setPort p (fun P => { P with stopSeen := true })
    let s := if (s.port p).retired then s.completeWhere (· == Wait.retire p) stOk 0 else s
    let g := (s.port p).group
    if s.quenchSettled g then s.groupOff g else s

/-- A good frame (R142, R285). -/
def State.goodUp (s : State) (p : Nat) (f : FastFrame) : State :=
  let P := s.port p
  let seq := f.hdr % 256
  let gap := match P.upSeq with
    | some q => (seq + 255 - q) % 256 - P.badRun
    | none => 0
  let notObeyed := s.active && !bitAt f.hdr 23 && s.teth.hand == .none &&
    (bits f.hdr 39 24 == 0 || newer s.teth.epoch (bits f.hdr 39 24))
  let s := s.setPort p (fun P => { P with
    hdr := f.hdr, upSeq := some seq, badRun := 0
    fastCrc := satAdd 16 P.fastCrc gap, badThisS := P.badThisS + gap
    obeyRun := if notObeyed then P.obeyRun + 1 else 0 })
  let s := s.deposit p f.payload
  let s := if (s.port p).isCell then (s.frameFindings p).frameStop p else s
  (s.ownership p).switchCheck

/-- Every TRAINED port has had its frame of the period. -/
def State.allFresh (s : State) : Bool := s.trainedPorts.all (fun p => (s.port p).fresh)

/-- A good frame of a LOST port: its header and samples are taken and UP_SEQ gaps counted; nothing is reported from it and
it moves no ownership (R142, R294, assumption 60). -/
def State.lostUp (s : State) (p : Nat) (f : FastFrame) : State :=
  let P := s.port p
  let seq := f.hdr % 256
  let gap := match P.upSeq with
    | some q => (seq + 255 - q) % 256 - P.badRun
    | none => 0
  (s.setPort p (fun P => { P with
    hdr := f.hdr, upSeq := some seq, badRun := 0, fastCrc := satAdd 16 P.fastCrc gap, badThisS := P.badThisS + gap })).deposit p f.payload

def execFastUp (port : Nat) (frame : Option FastFrame) (s : State) : Host.Outcome State Fault Refusal :=
  if s.part.ports ≤ port then .next s
  else if (s.port port).state = .lost then
    match frame with
    | some f => .next (if goodFast 0x33 f then s.lostUp port f else s.badUp port)
    | none => .next (s.badUp port)
  else if (s.port port).state ≠ .trained then .next s
  else
    let s := if (s.port port).fresh then s.framePeriod else s
    let s := match frame with
      | some f => if goodFast 0x33 f then s.goodUp port f else s.badUp port
      | none => s.badUp port
    .next (if s.allFresh then s.framePeriod else s)

/-! ### Loss and quality (R121, R142 to R144) -/

/-- BLOCK_LOCK_LOST: with 16 of the last 64 sync headers invalid the lock is lost (R121). -/
def execBlockLockLost (rx : PortHeads) (s : State) : Host.Outcome State Fault Refusal :=
  let port := rx.port
  if s.part.ports ≤ port ∨ ¬ (s.port port).lock ∨ ¬ losesLock rx.heads then .next s
  else
    let s := s.setPort port (fun P => { P with lock := false, lockLoss := satInc 8 P.lockLoss })
    .next (if (s.port port).state = .trained then s.loseTrained port else s)

def execPortLost (port : Nat) (s : State) : Host.Outcome State Fault Refusal :=
  let P := s.port port
  if P.state = .trained ∧ (8 ≤ P.badRun ∨ 8 ≤ P.obeyRun) then .next (s.loseTrained port) else .next s

/-- The reads of discovery (R135 steps 5 and 6): BR_ID, BR_CAPS, BR_LAYOUT, BR_HOLD and BR_FAULT. -/
def discoveryReads : List SvcReq :=
  [0, 1, 2, 3, 5].map (fun a => { tag := 0, op := 1, addr := a, data := 0, mask := 0, sends := 0, use := .discover })

/-- An attempt to train a port begins: TRAIN blocks with port, slot and LINK_REV; then periods at launch cycle 0, and the reads
of discovery (R135). What was being carried on the port ends. A transmitter whose domains stand sends nothing (Table 17-2). -/
def State.trainAttempt (s : State) (p : Nat) : State :=
  let s := (s.endAccesses p).setPort p (fun P => { P with
    sentLaunch := 0, line := { P.line with begun := [] }, brRead := [], svcWait := discoveryReads })
  if s.rc.portOn p then s.emit (.train p (s.trainHeader p)) else s

/-- Training begins on a port (R135). -/
def State.startTraining (s : State) (p : Nat) : State :=
  (s.setPort p (fun P => { P with state := .training, trainTries := 1, held := [none, none, none, none] })).trainAttempt p

/-- Every port the store populates that is still DOWN is trained (R135, R279); an OFFLINE module's ports stay idle
(Table 11-1). -/
def State.trainDown (s : State) : State :=
  if s.role = .offline then s
  else ((List.range s.part.ports).filter (fun p =>
    ((s.port p).kind == 1 || (s.port p).kind == 2) && (s.port p).state == .down)).foldl State.startTraining s

/-- PORT_RETRAIN; an OFFLINE module's transmitters stay idle (Table 11-1). -/
def execPortRetrain (port : Nat) (s : State) : Host.Outcome State Fault Refusal :=
  let P := s.port port
  let recent := P.retrainAt.filter (fun t => decide (s.clk.now < t + 10000000000))
  if P.state ≠ .lost ∨ 3 ≤ recent.length ∨ s.role = .offline then .next s
  else
    let s := s.setPort port (fun P => { P with retrains := satInc 8 P.retrains, retrainAt := recent ++ [s.clk.now] })
    .next (s.startTraining port)

/-- DEGRADED: a 1 s window ends, also while the port is LOST or trained again (R142, R144). -/
def execDegraded (port margin : Nat) (s : State) : Host.Outcome State Fault Refusal :=
  let P := s.port port
  if P.state = .down ∨ P.state = .failed then .next s
  else
    let bad := decide (1000 < P.badThisS) || decide (margin < 20)
    let last := min P.badThisS 65535
    let s := s.setPort port (fun P => { P with badLastS := last, badThisS := 0, margin := margin % 256, degraded := bad })
    if bad && !P.degraded then
      .next ((s.record 0x0B04 1 kPort port (leBytes 2 last ++ leBytes 1 (margin % 256))).raisePort 5 port)
    else if !bad && P.degraded then .next (s.clearPort 5 port)
    else .next s

/-! ### Service accesses (R130 to R132, R165) -/

/-- A request sent in the next service slot of the period under way: header of Table 5-5 (Table 5-2, R130). -/
def State.svcSend (s : State) (p : Nat) (r : SvcReq) : State :=
  let h := fieldAt r.op 4 36 + fieldAt r.tag 4 32 + fieldAt r.addr 16 16
  let c := svcCrcOf 0x4B h r.data r.mask
  (s.setPort p (fun P => { P with line := { P.line with begun := P.line.begun ++ svcBlocks 0x4B h r.data r.mask c } })).emit
    (.svcDn p h r.data r.mask c)

/-- The lowest tag no outstanding request of the port uses. -/
def Port.freeTag (P : Port) : Nat := ((List.range 16).find? (fun t => P.svcOut.all (fun r => r.tag != t))).getD 0

/-- SVC_DN: a request leaves in a service slot of a period, at most three in each (R122, R132). -/
def execSvcDn (port : Nat) (s : State) : Host.Outcome State Fault Refusal :=
  let P := s.port port
  match P.svcWait with
  | [] => .next s
  | r :: rest =>
    if !s.sendsOn port || !P.line.slotFree || decide (4 ≤ P.svcOut.length) then .next s
    else
      let r := { r with tag := P.freeTag, sends := 1 }
      .next ((s.setPort port (fun P => { P with svcWait := rest, svcOut := P.svcOut ++ [r] })).svcSend port r)

/-- SVC_TIMEOUT: the request is sent again while the port's line carries one; after the third send the access ends (R132). -/
def execSvcTimeout (port tag : Nat) (s : State) : Host.Outcome State Fault Refusal :=
  let P := s.port port
  match P.svcOut.find? (fun r => r.tag == tag) with
  | none => .next s
  | some r =>
    if r.sends < 3 then
      let out := P.svcOut.map (fun (q : SvcReq) => if q.tag = tag then { q with sends := q.sends + 1 } else q)
      let s := s.setPort port (fun P => { P with svcOut := out })
      .next (if s.sendsOn port && P.line.slotFree then s.svcSend port r else s)
    else .next ((s.setPort port (fun P => { P with svcOut := P.svcOut.filter (fun q => q.tag != tag) })).endAccess port r)

/-- What a response leads to: a register known at discovery; the read-back after CLEAR_FAULT, then R107 (R135, R165). -/
def State.svcDone (s : State) (p : Nat) (r : SvcReq) (status data : Nat) : State :=
  match r.use with
  | .unlatch => s
  | .discover => if status = 0 then s.setPort p (fun P => { P with brRead := P.brRead ++ [(r.addr, data)] }) else s
  | .clearFault => s.svcQueue p { tag := 0, op := 1, addr := 5, data := 0, mask := 0, sends := 0, use := .readFault }
  | .readFault =>
    let s := if status = 0 then s.setPort p (fun P => { P with brFault := data }) else s
    if (s.port p).restore = some .clearing then
      (s.setPort p (fun P => { P with restore := none })).applyRestore p
    else s

/-- A bad service frame, or an operation the slot does not carry (R130, R142). -/
def State.badSvc (s : State) (p : Nat) : State := s.setPort p (fun P => { P with svcCrc := satInc 8 P.svcCrc })

/-- The module takes service frames of a port: the receiver runs (R130, R142). -/
def State.hears (s : State) (p : Nat) : Bool :=
  decide (p < s.part.ports) && ((s.port p).state == .trained || (s.port p).state == .lost || (s.port p).state == .training)

def svcOp (f : SvcFrame) : Nat := bits f.hdr 39 36
def svcTag (f : SvcFrame) : Nat := bits f.hdr 35 32
def svcIndex (f : SvcFrame) : Nat := bits f.hdr 7 0

def execSvcResponse (port : Nat) (frame : SvcFrame) (s : State) : Host.Outcome State Fault Refusal :=
  if !s.hears port then .next s
  else if !svcGood frame || (svcOp frame != 9 && svcOp frame != 10) then .next (s.badSvc port)
  else
    match (s.port port).svcOut.find? (fun r => r.tag == svcTag frame) with
    | none => .next s
    | some r =>
      let s := s.setPort port (fun P => { P with svcOut := P.svcOut.filter (fun q => q.tag != svcTag frame) })
      .next (s.svcDone port r (bits frame.hdr 15 8) frame.data)

def execHeld (port : Nat) (frame : SvcFrame) (s : State) : Host.Outcome State Fault Refusal :=
  if !s.hears port then .next s
  else if !svcGood frame || svcOp frame != 11 || decide (3 < svcIndex frame) then .next (s.badSvc port)
  else if (s.port port).state = .training then .next s
  else .next (s.setPort port (fun P => { P with held := P.held.set (svcIndex frame) (some (toSigned 32 frame.data)) }))

def execStatus (port : Nat) (frame : SvcFrame) (s : State) : Host.Outcome State Fault Refusal :=
  if !s.hears port then .next s
  else if !svcGood frame || svcOp frame != 12 || decide (3 < svcIndex frame) then .next (s.badSvc port)
  else
    let a := toSigned 16 (bits frame.data 15 0)
    let b := toSigned 16 (bits frame.data 31 16)
    let seen := [a, b].filter (· != -32768)
    let s := s.setPort port (fun P => { P with
      temps := (P.temps.set (2 * svcIndex frame) a).set (2 * svcIndex frame + 1) b
      tempMax := seen.foldl (fun m t => some (match m with | some x => max x t | none => t)) P.tempMax })
    .next (s.takeFault port (frame.mask % 16))

/-! ### Training and discovery (R134 to R136, R141, R290) -/

/-- A port fails: event with the step reached, replacement request. -/
def State.failPort (s : State) (p step : Nat) : State :=
  let s := (s.endAccesses p).setPort p (fun P => { P with state := .failed, line := { P.line with begun := [] } })
  (s.record 0x0B01 3 kPort p (leBytes 1 step)).raisePort 5 p

/-- An attempt ends without TRAINED (R136); each further attempt counts in RETRAINS (Table 5-20, assumption 61). -/
def State.trainAgain (s : State) (p step : Nat) : State :=
  if 3 ≤ (s.port p).trainTries then s.failPort p step
  else (s.setPort p (fun P => { P with trainTries := P.trainTries + 1, retrains := satInc 8 P.retrains })).trainAttempt p

def execTrainingTimeout (port step : Nat) (s : State) : Host.Outcome State Fault Refusal :=
  if (s.port port).state = .training then .next (s.trainAgain port step) else .next s

/-- A layout R134 allows. -/
def layoutOk (laneEn layout : Nat) : Bool :=
  let on := (List.range 8).filter (bitAt laneEn ·)
  let ch := fun k => bits layout (4 * k + 2) (4 * k)
  let late := fun k => bitAt layout (4 * k + 3)
  (List.range 8).all (fun c => (on.filter (fun k => ch k == c && late k)).length ≤ 1 &&
    (on.filter (fun k => ch k == c && !late k)).length ≤ 1)

/-- Every enabled lane's channel has a VALID calibration entry (R290); with an invalid page every port is trained all the
same (R291, assumption 23). -/
def State.calCovers (s : State) (p laneEn layout : Nat) : Bool :=
  s.cal.invalid || (List.range 8).all (fun k => !bitAt laneEn k || (nth s.cal.entries (8 * p + bits layout (4 * k + 2) (4 * k)) {}).valid)

/-- A port of the ports retired before the last cold start is retired again (R408). -/
def State.retireAgain (s : State) (p : Nat) : State :=
  if (s.port p).isCell && !(s.port p).retired && s.rc.retiredBk.contains p then s.retire p 10 else s

/-- A bridge register as discovery has read it. -/
def Port.brReg (P : Port) (a : Nat) : Nat := (look P.brRead a).getD 0

/-- Every read of discovery is answered. -/
def Port.discovered (P : Port) : Bool := [0, 1, 2, 3, 5].all (fun a => (look P.brRead a).isSome)

/-- What discovery keeps of a bridge's registers. -/
def Port.adopt (P : Port) (arrival : Nat) : Port := { P with
  bridgeId := bits (P.brReg 0) 31 16, layout := BitVec.ofNat 32 (P.brReg 2), laneEn := bits (P.brReg 1) 7 0
  pwm := bits (P.brReg 1) 31 24, cmdFields := bits (P.brReg 1) 23 16, holdUs := bits (P.brReg 3) 8 0, arrival := arrival }

/-- The identity, the layout and the calibration that let a port be TRAINED (R134 to R136, R290). -/
def State.bridgeOk (s : State) (p : Nat) : Bool :=
  let P := s.port p
  bits (P.brReg 0) 31 16 == P.bridgeRec && bits (P.brReg 0) 15 8 == linkRev &&
    layoutOk (bits (P.brReg 1) 7 0) (P.brReg 2) && s.calCovers p (bits (P.brReg 1) 7 0) (P.brReg 2)

/-- PORT_TRAINED: steps 2 to 6 of R135. DEGRADED and what it raised stay until a full window clears them (R144). -/
def execPortTrained (port : Nat) (found : Training) (s : State) : Host.Outcome State Fault Refusal :=
  let P := s.port port
  let lo := found.arrivals.foldl min (found.arrivals.headD 0)
  let hi := found.arrivals.foldl max 0
  if P.state ≠ .training then .next s
  else if !gainsLock found.heads || !bitAt found.answer 9 then .next (s.trainAgain port 2)
  else if decide (2 < hi - lo) || found.arrivals.length != 16 then .next (s.trainAgain port 4)
  else if !P.discovered then .next s
  else
    let ok := s.bridgeOk port
    let s := s.setPort port (fun P => P.adopt (hi % 400))
    if !ok then .next (s.failPort port 5)
    else
      let s := if bitAt (P.brReg 5) 1 && !s.standbyFlag then
          s.svcQueue port { tag := 0, op := 2, addr := 4, data := 1, mask := 1, sends := 0, use := .unlatch }
        else s
      let s := s.setPort port (fun P => { P with
        state := .trained, lock := true, badRun := 0, obeyRun := 0, upSeq := none, fresh := false, stale := true
        held := [none, none, none, none]
        line := if s.active then P.line else { P.line with begun := [] } })
      let s := ((if P.degraded then s else s.clearPort 5 port).holdCheck port).retireAgain port
      .next (s.takeFault port (P.brReg 5 % 16))

/-! ### Registers (Tables 5-19 to 5-29) -/

/-- A replacement request names the port (R323). -/
def State.portReplace (s : State) (p : Nat) : Bool := s.ev.portCause.contains p || s.ev.cellCause.contains p

/-- A word of a port's registers. -/
def State.portReg (s : State) (p off : Nat) : Nat :=
  let P := s.port p
  if off = 0x00 then
    fieldAt P.bridgeId 16 16 + fieldAt P.retrains 8 8 + flagAt P.holdShort 5 + flagAt (s.portReplace p) 4 + P.state.code
  else if off = 0x04 then flagAt (decide (399 < P.launch)) 25 + fieldAt (P.launch % 400) 9 16 + fieldAt P.arrival 9 0
  else if off = 0x08 then P.layout.toNat
  else if off = 0x0C then fieldAt P.holdUs 9 16 + fieldAt P.laneEn 8 8 + fieldAt P.pwm 8 0
  else if off = 0x10 then fieldAt (bits P.hdr 39 24) 16 16 + fieldAt (bits P.hdr 23 13) 11 5
  else if off = 0x14 then fieldAt P.fastCrc 16 16 + fieldAt P.svcCrc 8 8 + fieldAt P.lockLoss 8 0
  else if off = 0x18 then
    fieldAt P.badLastS 16 16 + fieldAt P.margin 8 8 + flagAt P.svcTimeout 2 + flagAt P.lostSeen 1 + flagAt P.degraded 0
  else if 0x20 ≤ off ∧ off < 0x30 then ofSigned 32 ((nth P.held ((off - 0x20) / 4) none).getD 0)
  else 0

/-- FL_OWN (Table 5-29). -/
def State.flOwn (s : State) : Nat := fieldAt s.teth.epoch 16 16 + flagAt s.teth.slotB 1 + flagAt s.active 0

/-- FL_CAPS (Table 5-28). -/
def Part.flCaps (p : Part) : Nat := match p with
  | .csm480 => 0x00010550
  | .csm240 => 0x00010328

end Sys2Proof.Machine
end

