-- ==== Sys2Proof/Machine/Crucible.lean ====
section
/-!
DEFINITION. The Crucible capture recorder (R298 to R307) and the calibration page (R289 to R293).
-/

namespace Sys2Proof.Machine

open Sys2Proof

def State.setCr (s : State) (f : Crucible → Crucible) : State := { s with cr := f s.cr }
def State.setCal (s : State) (f : CalPage → CalPage) : State := { s with cal := f s.cal }

/-! ### CAPTURE_ARM (R298 to R300, R303) -/

/-- A channel record of Table 12-2. -/
def crRecord (b : Bytes) : CrChan :=
  { ctype := u b 0 1, index := u b 1 1, channel := u b 2 1, shift := u b 3 1, div := u b 4 2, base := 0, len := 0, wr := 0,
    trigIdx := none, left := none, last := none, nowN := 0 }

/-- The trigger record of Table 12-3. -/
def crTrigRecord (b : Bytes) : CrTrig :=
  { sources := u b 0 1, ladderMin := u b 1 1, trigCh := u b 2 1, edge := u b 3 1, threshold := i b 4 2, postPct := u b 6 1 }

def CrChan.on (c : CrChan) : Bool := c.ctype != 0

/-- Number of objects a TYPE can name (R303). -/
def Part.crCount (p : Part) (ctype : Nat) : Nat :=
  if ctype = 1 then p.ports else if ctype = 2 then p.slots else if ctype = 3 then 32 else 16

/-- Offset in its record of the first field found wrong. -/
def Part.crRecordFault (p : Part) (b : Bytes) : Option Nat :=
  let c := crRecord b
  if c.ctype > 4 then some 0
  else if c.on && decide (p.crCount c.ctype ≤ c.index) then some 1
  else if decide (c.channel > 7) || (c.ctype != 1 && c.channel != 0) then some 2
  else if decide (c.shift > 31) || ((c.ctype == 0 || c.ctype == 1) && c.shift != 0) then some 3
  else if c.ctype != 0 && c.ctype != 1 && c.div == 0 then some 4
  else if !zeros b 6 10 then some 6
  else none

/-- Offset in the table of the first field found wrong: channel records, then the trigger record at 16 × count. -/
def Part.crFault (p : Part) (data : Bytes) (count : Nat) : Option Nat :=
  let recs := (List.range count).map (fun k => slice data (16 * k) 16)
  let t := slice data (16 * count) 16
  let T := crTrigRecord t
  match (List.range count).findSome? (fun k => (p.crRecordFault (nth recs k [])).map (fun o => 16 * k + o)) with
  | some o => some o
  | none =>
    if recs.all (fun b => !(crRecord b).on) then some 0
    else if T.sources > 31 then some (16 * count)
    else if T.ladderMin < 1 ∨ 5 < T.ladderMin then some (16 * count + 1)
    else if !((recs[T.trigCh]?).map (fun b => (crRecord b).on)).getD false then some (16 * count + 2)
    else if T.edge > 1 then some (16 * count + 3)
    else if T.postPct > 100 then some (16 * count + 6)
    else if !zeros t 7 9 then some (16 * count + 7)
    else none

/-- Rate of a channel in units common to the table: `l` is a common multiple of the divisors (R300). -/
def CrChan.weight (l : Nat) (c : CrChan) : Nat := if !c.on then 0 else if c.div = 0 then 2 * l else l / c.div

/-- Slices of the channels that are on (R300). -/
def crSlices (ring : Nat) (l : List CrChan) : List CrChan :=
  let m := l.foldl (fun a c => if c.div = 0 then a else Nat.lcm a c.div) 1
  let tot := (l.map (CrChan.weight m)).sum
  (l.foldl (fun (acc : List CrChan × Nat) c =>
    let n := ring * c.weight m / (tot * 4096) * 4096
    (acc.1 ++ [if c.on then { c with base := acc.2, len := n / 2 } else c], acc.2 + n)) ([], 0)).1

/-- Span of a slice [ns]: samples come every 250 ns at 4 MS/s, else every DIV frame periods. -/
def CrChan.span (c : CrChan) : Nat := c.len * (if c.div = 0 then 250 else 500 * c.div)

/-- CR_SPAN_NS: the least span of the channels that are on. -/
def crSpan (l : List CrChan) : Nat :=
  match (l.filter CrChan.on).map CrChan.span with
  | [] => 0
  | a :: r => r.foldl min a

/-- Samples a channel writes from F_T on (R302). -/
def CrChan.post (c : CrChan) (pct : Nat) : Nat := c.len * pct / 100

/-- ARM: the tables are taken and the capture begins in the next frame period (R299, R303). -/
def State.crArm (s : State) (data : Bytes) (count : Nat) : State :=
  let chans := crSlices (s.part.ringGib * 2 ^ 30) ((List.range count).map (fun k => crRecord (slice data (16 * k) 16)))
  let s := s.setCr (fun c => { c with
    state := .armed, chans := chans, trig := crTrigRecord (slice data (16 * count) 16), f0 := s.le.frame + 1, trigF := 0
    trigSrc := 0, lateTrigs := 0, spanNs := crSpan chans, seen := 0, sampledF := none })
  { s with sh := { s.sh with ladderSeen := 0 } }

/-- A channel at 4 MS/s needs two lanes, read from the port's layout (R298, R303). -/
def State.crLanesOk (s : State) (c : CrChan) : Bool :=
  c.ctype != 1 || c.div != 0 || ((s.port c.index).lanesOf c.channel).length == 2

def execCaptureArm (h : CmdHdr) (buf : Buf) (count : Nat) (s : State) : Host.Outcome State Fault Refusal :=
  let data := s.bufRead buf 0 (16 * (count + 1))
  .next (s.start h
    { op := 0x0801, early := true,
      chk := need (count != 0) stBadLength 0x1C <|> need (buf.len = 16 * (count + 1)) stBadLength 0x18
        <|> param (count ≤ s.part.captureChannels) 0x1C <|> param (bufOk buf (16 * (count + 1))) 0x10
        <|> (match s.part.crFault data count with
          | some o => some (stBadParam, 0x10 + o * 2 ^ 32)
          | none => none),
      chk6 := (match (List.range count).find? (fun k => !s.crLanesOk (crRecord (slice data (16 * k) 16))) with
          | some k => some (stBadParam, 0x10 + (16 * k + 4) * 2 ^ 32)
          | none => none)
        <|> need (s.cr.state == .idle || s.cr.state == .armed) stBusy 0 }
    (fun s => (s.crArm data count).done h stOk 0))

/-! ### Trigger and freeze (R301, R302) -/

/-- The present frame period becomes F_T. -/
def State.crTrigger (s : State) (src : Nat) : State :=
  let now := fun (c : CrChan) => if s.cr.sampledF = some s.le.frame then c.nowN else 0
  s.setCr (fun r => { r with
    state := .triggered, trigF := s.le.frame, trigSrc := src
    preShort := r.preShort || r.chans.any (fun c => c.on && decide (c.wr - now c < c.len))
    chans := r.chans.map (fun c => if c.on then
      { c with trigIdx := some (c.wr - now c), left := some (c.post r.trig.postPct - now c) } else c) })

/-- The event of a freeze (R302). -/
def State.crFreeze (s : State) : State :=
  (s.setCr (fun r => { r with state := .frozen })).record 0x0801 1 kNone 0 (leBytes 1 s.cr.trigSrc)

def execCaptureTrigger (h : CmdHdr) (s : State) : Host.Outcome State Fault Refusal :=
  .next (s.start h { op := 0x0801, early := true }
    (fun s => (if s.cr.state = .armed then s.crTrigger 0x20 else s).done h stOk 0))

def execCaptureFreeze (h : CmdHdr) (s : State) : Host.Outcome State Fault Refusal :=
  .next (s.start h { op := 0x0801, early := true }
    (fun s => (if s.cr.state = .armed then s.crFreeze else s).done h stOk 0))

def execCaptureRelease (h : CmdHdr) (s : State) : Host.Outcome State Fault Refusal :=
  .next (s.start h { op := 0x0801, early := true }
    (fun s => (if s.cr.state = .armed ∨ s.cr.state = .frozen then s.setCr (fun r => { r with state := .idle }) else s).done
      h stOk 0))

/-- A captured value: 16 bits, -32,768 kept for "no sample" (R298). -/
def crSat (x : Int) : Int := clampI (-32767) 32767 x

/-- The samples a channel takes in a frame period, earlier first (R299). -/
def State.crValues (s : State) (c : CrChan) : List Int :=
  if c.ctype = 1 then
    let P := s.port c.index
    let ls := (P.lanesOf c.channel).map (fun k => crSat (nth P.raw k 0))
    let ls := if (P.state != .trained && P.state != .lost) || P.stale then [] else ls
    if c.div = 0 then [nth ls 0 (-32768), nth ls 1 (-32768)] else [ls.getLastD (-32768)]
  else
    let x := if c.ctype = 2 then (s.slot c.index).out
      else if c.ctype = 3 then (s.readSel (4 + 16 * c.index)).v
      else (s.group c.index).pNow
    [crSat (roundHalfEven x c.shift)]

/-- The channel takes samples in this frame period. -/
def CrChan.due (c : CrChan) (f0 f : Nat) : Bool :=
  c.on && decide (f0 ≤ f) && (f - f0) % max c.div 1 == 0 && c.left != some 0

/-- The CHAN condition over the samples of a frame period, from the sample before them. -/
def crEdge (t : CrTrig) : Option Int → List Int → Bool
  | _, [] => false
  | o, v :: r =>
    if v = -32768 then crEdge t o r
    else (match o with
      | some w => if t.edge = 0 then decide (w ≤ t.threshold) && decide (t.threshold < v)
          else decide (t.threshold ≤ w) && decide (v < t.threshold)
      | none => false) || crEdge t (some v) r

/-- One sample written into a channel's slice; a fresh word has fresh check bits. -/
def Crucible.put (r : Crucible) (k : Nat) (v : Int) : Crucible :=
  let c := nth r.chans k { ctype := 0, index := 0, channel := 0, shift := 0, div := 0, base := 0, len := 0, wr := 0,
                           trigIdx := none, left := none, last := none, nowN := 0 }
  if c.left = some 0 then r
  else
    let a := c.base + 2 * (c.wr % c.len)
    let r := if c.len = 0 then r
      else { r with ring := Mem.writeN 0 r.ring a (leBytesI 2 v), badWords := r.badWords.filter (· != a / 8) }
    { r with chans := upd r.chans k (fun c => { c with
        wr := c.wr + 1, nowN := c.nowN + 1, left := c.left.map (· - 1), last := if v = -32768 then c.last else some v }) }

/-- Samples of every channel written. -/
def Crucible.putAll (r : Crucible) (vals : List (List Int)) : Crucible :=
  (List.range vals.length).foldl (fun r k => (nth vals k []).foldl (fun r v => r.put k v) r) r

def execCaptureSample (s : State) : Host.Outcome State Fault Refusal :=
  let r := s.cr
  let f := s.le.frame
  if r.sampledF = some f then .next s
  else
    let live := r.state == .armed || r.state == .triggered
    let vals := r.chans.map (fun c => if live && c.due r.f0 f then s.crValues c else [])
    let edge := crEdge r.trig (r.chans[r.trig.trigCh]?.bind (fun c => c.last)) (nth vals r.trig.trigCh [])
    let arose := (flagAt (decide (r.trig.ladderMin ≤ s.sh.ladderSeen)) 0 + flagAt edge 1 + r.seen) &&& r.trig.sources
    let holds := arose ||| (flagAt s.gv.sense 2 &&& r.trig.sources)
    let s := s.setCr (fun r => { r with sampledF := some f, chans := r.chans.map (fun c => { c with nowN := 0 }) })
    let s :=
      if r.state = .armed then (if holds = 0 then s else s.crTrigger holds)
      else if r.state = .idle then s
      else s.setCr (fun r => { r with
        lateTrigs := satAdd 16 r.lateTrigs ((List.range 5).filter (fun k => bitAt arose k)).length })
    let s := s.setCr (fun r => { r.putAll vals with seen := 0 })
    .next { s with sh := { s.sh with ladderSeen := 0 } }

/-- Every channel that is on has stopped. -/
def Crucible.stopped (r : Crucible) : Bool := r.chans.all (fun c => !c.on || c.left == some 0)

def execCaptureFrozen (s : State) : Host.Outcome State Fault Refusal :=
  .next (if s.cr.state = .triggered ∧ s.cr.stopped then s.crFreeze else s)

/-! ### Reading (R304, R305) -/

/-- Bytes of the ring as a read returns them: 0x8000 samples for words with uncorrectable errors. -/
def Crucible.readRing (r : Crucible) (a n : Nat) : Bytes :=
  (List.range n).map (fun k =>
    if r.badWords.contains ((a + k) / 8) then (if (a + k) % 2 = 0 then 0x00 else 0x80) else Mem.read 0 r.ring (a + k))

/-- Words with uncorrectable errors among those a set of byte addresses lies in. -/
def Crucible.badCount (r : Crucible) (addrs : List Nat) : Nat :=
  (r.badWords.filter (fun w => addrs.any (fun a => a / 8 == w))).length

/-- Byte addresses of samples start .. start + count - 1 of a channel. -/
def CrChan.addrs (c : CrChan) (start count : Nat) : List Nat :=
  (List.range count).map (fun k => c.base + 2 * ((start + k) % c.len))

/-- The range is held. -/
def CrChan.holds (c : CrChan) (start count : Nat) : Bool :=
  c.on && decide (c.wr - c.len ≤ start) && decide (start + count ≤ c.wr)

def execCaptureRead (h : CmdHdr) (buf : Buf) (channel start count : Nat) (s : State) : Host.Outcome State Fault Refusal :=
  .next (s.start h
    { op := 0x0802, early := true, zero := count == 0,
      chk := param (bufOk buf (2 * count)) 0x08 <|> param (channel < s.part.captureChannels) 0x14,
      chk6 := need (s.cr.state == .frozen) stDenied 0
        <|> param (((s.cr.chans[channel]?).map (fun c => c.holds start count)).getD false) 0x18 }
    (fun s =>
      match s.cr.chans[channel]? with
      | none => s.done h stOk count
      | some c =>
        let as_ := c.addrs start count
        let data := as_.flatMap (fun a => s.cr.readRing a 2)
        ((s.setCr (fun r => { r with ue := satAdd 32 r.ue (r.badCount as_) })).bufWrite buf data).done h stOk count))

/-- A word of the Crucible registers at BAR0 0x01D0_0000 plus an offset. -/
def State.crRead (s : State) (off : Nat) : Nat :=
  let r := s.cr
  let st := match r.state with | .idle => 0 | .armed => 1 | .triggered => 2 | .frozen => 3
  if off = 0x000 then s.part.ringGib * 2 ^ 16 + s.part.captureChannels
  else if off = 0x004 then r.lateTrigs * 2 ^ 16 + fieldAt r.trigSrc 6 8 + flagAt r.preShort 3 + st
  else if off = 0x008 then r.f0 % 2 ^ 32
  else if off = 0x010 then r.trigF % 2 ^ 32
  else if off = 0x018 then r.spanNs % 2 ^ 32
  else if off = 0x020 then r.ue
  else if 0x1000 ≤ off ∧ off < 0x1000 + 0x20 * s.part.captureChannels then
    let o := (off - 0x1000) % 0x20
    match r.chans[(off - 0x1000) / 0x20]? with
    | none => if o = 0x18 then 2 ^ 32 - 1 else 0
    | some c =>
      if o = 0x00 then c.ctype + c.index * 2 ^ 8 + c.div * 2 ^ 16
      else if o = 0x04 then c.base % 2 ^ 32
      else if o = 0x0C then c.len
      else if o = 0x10 then c.wr % 2 ^ 32
      else if o = 0x18 then (match c.trigIdx with | some k => k % 2 ^ 32 | none => 2 ^ 32 - 1)
      else 0
  else 0

/-- Full 64-bit value whose low half a _LO register of the Crucible shows. -/
def State.crWide (s : State) (off : Nat) : Option Nat :=
  let r := s.cr
  if off = 0x008 then some r.f0 else if off = 0x010 then some r.trigF else if off = 0x018 then some r.spanNs
  else if 0x1000 ≤ off ∧ off < 0x1000 + 0x20 * s.part.captureChannels then
    let o := (off - 0x1000) % 0x20
    let c := r.chans[(off - 0x1000) / 0x20]?
    if o = 0x04 then some ((c.map (fun c => c.base)).getD 0) else if o = 0x10 then some ((c.map (fun c => c.wr)).getD 0)
    else if o = 0x18 then some ((c.bind (fun c => c.trigIdx)).getD (2 ^ 64 - 1))
    else none
  else none

/-! ### The calibration page (R289 to R293) -/

/-- First check of R291 that a page fails, with its code and the offset of the field. -/
def calFault (p : Bytes) : Option (Nat × Nat) :=
  if u p 0 4 ≠ 0x4C414343 then some (1, 0)
  else if u p 4 2 ≠ 1 then some (2, 4)
  else if u p 6 2 ≠ 640 then some (3, 6)
  else if u p 8 4 ≠ 0x2840 then some (4, 8)
  else if u p 0x0C 4 ≠ crc32c (slice p 0x10 0x2830) then some (5, 0x0C)
  else if !zeros p 0x29 23 then some (6, 0x29)
  else
    match (List.range 640).find? (fun n => decide (u p (0x40 + 16 * n + 9) 1 > 1) || !zeros p (0x40 + 16 * n + 10) 6) with
    | some n => some (6, 0x40 + 16 * n + 9)
    | none => if zeros p 0x2840 (0x10000 - 0x2840) then none else some (6, 0x2840)

/-- Entries of a page (Table 12-1). -/
def calEntries (p : Bytes) : List CalEntry :=
  (List.range 640).map (fun n =>
    { gain := i p (0x40 + 16 * n) 4, offset := i p (0x40 + 16 * n + 4) 4, valid := bitAt (u p (0x40 + 16 * n + 9) 1) 0 })

/-- The flash page, whole. -/
def CalPage.page (c : CalPage) : Bytes := Mem.readN 0xFF c.flash 0 65536

/-- The page read at cold start (R291). -/
def State.loadCal (s : State) : State :=
  let p := s.cal.page
  let bad := calFault p
  let s := s.setCal (fun c => { c with
    entries := calEntries p, invalid := bad.isSome, writer := u p 0x28 1, used := c.flash })
  let s := { s with sh := { s.sh with calOk := bad.isNone } }
  match bad with
  | some (k, _) => s.record 0x0901 3 kNone 0 (leBytes 1 k)
  | none => s

def execCalRead (h : CmdHdr) (buf : Buf) (s : State) : Host.Outcome State Fault Refusal :=
  .next (s.start h
    { op := 0x0901, early := true, zero := buf.len == 0,
      chk := need (buf.len = 65536) stBadLength 0x10 <|> param (bufOk buf 65536) 0x08 }
    (fun s => (s.bufWrite buf s.cal.page).done h stOk 0))

def execCalWrite (h : CmdHdr) (buf : Buf) (s : State) : Host.Outcome State Fault Refusal :=
  let img := s.bufRead buf 0 65536
  .next (s.start h
    { op := 0x0902,
      chk := need (buf.len = 65536) stBadLength 0x10 <|> param (bufOk buf 65536) 0x08
        <|> (match calFault img with
          | some (_, o) => some (stBadParam, 0x08 + o * 2 ^ 32)
          | none => none),
      chk6 := need s.cal.writing.isNone stBusy 0 }
    (fun s => (s.setCal (fun c => { c with writing := some img })).await h 0x0902 .calWrite))

/-- A page write that did not end well leaves an invalid page: a part of the image, whose length is free, and erased
bytes after it (R292, R293). -/
def State.calCut (s : State) (img : Bytes) : State :=
  let (n, s) := s.freeNat
  s.setCal (fun c => { c with flash := Mem.writeN 0xFF [] 0 (img.take (n % 65536)), writing := none })

/-- CAL_WRITE_DONE: `good` when the read-back is equal. -/
def execCalWriteDone (good : Bool) (s : State) : Host.Outcome State Fault Refusal :=
  match s.cal.writing with
  | none => .next s
  | some img =>
    let s := s.setCal (fun c => { c with writes := satInc 16 c.writes })
    if good then
      let s := s.setCal (fun c => { c with flash := Mem.writeN 0xFF [] 0 img, writing := none })
      .next ((s.record 0x0902 1 kNone 0 (leBytes 4 s.cal.writes)).completeWhere (· == Wait.calWrite) stOk 0)
    else .next ((s.calCut img).completeWhere (· == Wait.calWrite) stTimeout 0)

end Sys2Proof.Machine
end

