-- ==== Sys2Proof/Machine/Sha.lean ====
section
/-!
DEFINITION. SHA-256 and HMAC-SHA-256 as the Gulene tag (R258) and the hashes of chapter 18 name them; the spec gives
their names, the functions are those of FIPS 180-4 and RFC 2104 (assumption 20).
-/

namespace Sys2Proof.Machine

open Sys2Proof

/-- Round constants. -/
def shaK : List Nat :=
  [0x428a2f98, 0x71374491, 0xb5c0fbcf, 0xe9b5dba5, 0x3956c25b, 0x59f111f1, 0x923f82a4, 0xab1c5ed5,
   0xd807aa98, 0x12835b01, 0x243185be, 0x550c7dc3, 0x72be5d74, 0x80deb1fe, 0x9bdc06a7, 0xc19bf174] ++
  [0xe49b69c1, 0xefbe4786, 0x0fc19dc6, 0x240ca1cc, 0x2de92c6f, 0x4a7484aa, 0x5cb0a9dc, 0x76f988da,
   0x983e5152, 0xa831c66d, 0xb00327c8, 0xbf597fc7, 0xc6e00bf3, 0xd5a79147, 0x06ca6351, 0x14292967] ++
  [0x27b70a85, 0x2e1b2138, 0x4d2c6dfc, 0x53380d13, 0x650a7354, 0x766a0abb, 0x81c2c92e, 0x92722c85,
   0xa2bfe8a1, 0xa81a664b, 0xc24b8b70, 0xc76c51a3, 0xd192e819, 0xd6990624, 0xf40e3585, 0x106aa070] ++
  [0x19a4c116, 0x1e376c08, 0x2748774c, 0x34b0bcb5, 0x391c0cb3, 0x4ed8aa4a, 0x5b9cca4f, 0x682e6ff3,
   0x748f82ee, 0x78a5636f, 0x84c87814, 0x8cc70208, 0x90befffa, 0xa4506ceb, 0xbef9a3f7, 0xc67178f2]

/-- Initial hash value. -/
def shaInit : List Nat :=
  [0x6a09e667, 0xbb67ae85, 0x3c6ef372, 0xa54ff53a, 0x510e527f, 0x9b05688c, 0x1f83d9ab, 0x5be0cd19]

/-- Rotation of a 32-bit word to the right. -/
def rotr (n x : Nat) : Nat := x / 2 ^ n + x % 2 ^ n * 2 ^ (32 - n)

def shaXor3 (a b c : Nat) : Nat := Nat.xor (Nat.xor a b) c

/-- n further words of the message schedule, newest first. -/
def shaSchedule : Nat → List Nat → List Nat
  | 0, w => w
  | n + 1, w =>
    let a := nth w 14 0
    let b := nth w 1 0
    let s0 := shaXor3 (rotr 7 a) (rotr 18 a) (a / 2 ^ 3)
    let s1 := shaXor3 (rotr 17 b) (rotr 19 b) (b / 2 ^ 10)
    shaSchedule n (((nth w 15 0 + s0 + nth w 6 0 + s1) % 2 ^ 32) :: w)

/-- One round on the eight working words. -/
def shaRound (v : List Nat) (kw : Nat) : List Nat :=
  match v with
  | [a, b, c, d, e, f, g, h] =>
    let s1 := shaXor3 (rotr 6 e) (rotr 11 e) (rotr 25 e)
    let ch := Nat.xor (Nat.land e f) (Nat.land (Nat.xor e (2 ^ 32 - 1)) g)
    let t1 := h + s1 + ch + kw
    let s0 := shaXor3 (rotr 2 a) (rotr 13 a) (rotr 22 a)
    let maj := shaXor3 (Nat.land a b) (Nat.land a c) (Nat.land b c)
    [(t1 + s0 + maj) % 2 ^ 32, a, b, c, (d + t1) % 2 ^ 32, e, f, g]
  | _ => v

/-- One 64-byte block. -/
def shaBlock (h : List Nat) (b : Bytes) : List Nat :=
  let w0 := ((List.range 16).map (fun k => beNat (slice b (4 * k) 4))).reverse
  let w := (shaSchedule 48 w0).reverse
  let v := (shaK.zip w).foldl (fun v x => shaRound v (x.1 + x.2)) h
  h.zipWith (fun a c => (a + c) % 2 ^ 32) v

/-- A message with its padding: a one bit, zeros, the length in bits as 8 bytes in network order. -/
def shaPad (m : Bytes) : Bytes :=
  m ++ [0x80] ++ List.replicate ((119 - m.length % 64) % 64) 0 ++ beBytes 8 (8 * m.length)

/-- SHA-256 of a byte string. -/
def sha256 (m : Bytes) : Bytes :=
  let p := shaPad m
  ((List.range (p.length / 64)).foldl (fun h k => shaBlock h (slice p (64 * k) 64)) shaInit).flatMap (beBytes 4)

/-- HMAC-SHA-256 under a key of at most 64 bytes. -/
def hmacSha256 (key m : Bytes) : Bytes :=
  let k := padTo 64 key
  let x (c : Byte) : Bytes := k.map (fun b => b ^^^ c)
  sha256 (x 0x5c ++ sha256 (x 0x36 ++ m))

/-- The Gulene tag: the first 16 bytes (R258). -/
def gnTag (key m : Bytes) : Bytes := (hmacSha256 key m).take 16

end Sys2Proof.Machine
end

