-- ==== Sys2Proof/Machine/Gulene.lean ====
section
/-!
DEFINITION. The Ethernet port, PTP, keys, and the sending and receiving of Gulene messages (chapter 10; R379, R388).
-/

namespace Sys2Proof.Machine

open Sys2Proof

def State.setGn (s : State) (f : Gulene → Gulene) : State := { s with gn := f s.gn }
def State.setGv (s : State) (f : Governor → Governor) : State := { s with gv := f s.gv }

/-- This module's SENDER (Table 10-3). -/
def State.gnSelf (s : State) : Nat := 0x200 + 2 * s.gv.shelf + (if s.teth.slotB then 1 else 0)

/-- RACK_ID, 0 when the module takes part in no rack (R215). -/
def State.rackId (s : State) : Nat := if s.gv.ok then s.gv.rack else 0

/-- This module leads its rack. -/
def State.isLead (s : State) : Bool := s.active && s.gv.role == 2

def State.ptpLock (s : State) : Bool := s.clk.ptpState == .lock

/-! ### Messages (R257, R258, R250, R251) -/

/-- Header of a message (Table 10-4). -/
def gnHeader (typ len : Nat) (timeOk : Bool) (rack sender keyId seq : Nat) (origin : Int) : Bytes :=
  leBytes 2 0x474C ++ leBytes 1 1 ++ leBytes 1 typ ++ leBytes 2 len ++ leBytes 2 (flagAt timeOk 0) ++ leBytes 4 rack ++
    leBytes 2 sender ++ leBytes 1 keyId ++ leBytes 1 0 ++ leBytes 4 seq ++ leBytes 4 0 ++ leBytesI 8 origin

/-- Rack and row groups in the address family in use (Table 10-2). -/
def rackGroup (v4 : Bool) (rack : Nat) : Nat :=
  if v4 then 239 * 2 ^ 24 + 194 * 2 ^ 16 + rack % 2 ^ 16 else 0xff15 * 2 ^ 112 + 0x4755 * 2 ^ 32 + rack

def rowGroup (v4 : Bool) (rack : Nat) : Nat :=
  if v4 then 239 * 2 ^ 24 + 195 * 2 ^ 16 + rack / 2 ^ 16 else 0xff15 * 2 ^ 112 + 0x4756 * 2 ^ 32 + rack / 2 ^ 16

/-- A Gulene message can leave: an active module of a rack with a link and a rack key, 1 s or more after its SEQ restarted
(R253, R259, R261). -/
def State.canSend (s : State) : Bool :=
  s.active && s.gv.ok && s.gn.linkUp && s.gn.rackKey.cur.isSome && s.rc.on 3 && decide (s.gn.quietTo ≤ s.clk.now)

/-- Sending of a message under a key (R257, R258, R261). -/
def State.gnSend (s : State) (key : Key) (typ : Nat) (head : UdpHead) (body : Bytes) : State :=
  if !s.canSend then s
  else
    let m := gnHeader typ (48 + body.length) s.ptpLock s.rackId s.gnSelf key.id s.gn.seq s.clk.ptp ++ body
    (s.setGn (fun g => { g with seq := (g.seq + 1) % 2 ^ 32, txOk := (g.txOk + 1) % 2 ^ 32 })).emit
      (.datagram head (m ++ gnTag key.key m))

/-- A multicast group, by its address (R250). -/
def toGroup (addr : Nat) : UdpHead := { dst := addr, dport := 49870, hops := some 8 }

/-- Sending to the rack group under the rack key. -/
def State.rackSend (s : State) (typ : Nat) (body : Bytes) : State := match s.gn.rackKey.cur with
  | some k => s.gnSend k typ (toGroup (rackGroup k.v4 s.rackId)) body
  | none => s

/-- Sending of LANTERN to the row group under the row key, or to the rack group without one (R259). -/
def State.rowSend (s : State) (body : Bytes) : State := match s.gn.rackKey.cur, s.gn.rowKey.cur with
  | some r, some k => s.gnSend k 0x04 (toGroup (rowGroup r.v4 s.rackId)) body
  | some _, none => s.rackSend 0x04 body
  | none, _ => s

/-! ### Receiving (R260, R261, R266) -/

/-- SENDER values valid for a TYPE (Tables 10-3 and 10-6). -/
def senderOk (typ sender : Nat) : Bool :=
  if typ = 1 ∨ typ = 2 then decide (sender < 0x100)
  else (decide (0x200 ≤ sender) && decide (sender < 0x208)) || (typ == 8 && sender == 0x300)

/-- Length and reserved fields of a body (Tables 10-6 to 10-15, R265). -/
def bodyFits (typ sender : Nat) (b : Bytes) : Bool :=
  if typ = 1 then b.length == 24 && decide (u b 0 1 ≤ 1) && zeros b 2 2 && zeros b 0x0C 4
  else if typ = 2 then b.length == 32 && decide (u b 0 1 ≤ 1) && zeros b 1 3
  else if typ = 4 then b.length == 48 && decide (u b 0x2E 1 ≤ 3) && zeros b 0x2F 1 &&
    bits (u b 0 4) 15 10 == 0 && bits (u b 0 4) 31 19 == 0
  else if typ = 5 then b.length == 32 && decide (u b 0 1 ≤ 2) && zeros b 3 1
  else if typ = 6 then b.length == 8 && decide (u b 4 1 ≤ 3) && zeros b 5 3
  else if typ = 7 then
    (u b 0 1 == 0 && b.length == 112 && bits (u b 8 4) 31 7 == 0 && zeros b 0x1B 5) ||
    (decide (1 ≤ u b 0 1) && decide (u b 0 1 ≤ 16) && b.length == 912 && zeros b 0x0A 6 && (List.range 16).all (fun k =>
      bits (u b (0x11 + 56 * k) 1) 7 4 == 0 && zeros b (0x10 + 56 * k + 0x2C) 4))
  else if typ = 8 then b.length == 16 && decide (u b 0 1 ≤ 2) && (sender == 0x300) == (u b 0 1 == 2) &&
    decide (u b 1 1 ≤ 1) && zeros b 3 1 && zeros b 8 8
  else false

/-- The key of a role that a KEY_ID names: current, next or old (R259). -/
def KeyRole.held (r : KeyRole) (id : Nat) : Option Key :=
  (r.cur.toList ++ r.next.toList ++ r.old).find? (fun k => k.id == id)

/-- The key a message must be tagged with, when it is held (check 4). -/
def State.keyFor (s : State) (typ : Nat) (m : GnMsg) : Option Key :=
  if s.gn.rackKey.cur.isNone then none
  else if typ = 4 then
    match s.gn.rowKey.held m.keyId with
    | some k => some k
    | none => if m.rack = s.rackId then s.gn.rackKey.held m.keyId else none
  else s.gn.rackKey.held m.keyId

/-- The tag a received message should carry (R258). -/
def msgTag (key : Bytes) (typ : Nat) (m : GnMsg) : Bytes :=
  gnTag key (gnHeader typ (48 + m.body.length) m.timeOk m.rack m.sender m.keyId m.seq m.origin ++ m.body)

/-- SEQ a is newer than b (R261). -/
def seqAhead (a b : Nat) : Nat := (a + 2 ^ 32 - b % 2 ^ 32) % 2 ^ 32

/-- SEQ fresh against a record (R261). -/
def Replay.fresh (r : Replay) (seq : Nat) : Bool :=
  let a := seqAhead seq r.hi
  let d := seqAhead r.hi seq
  (decide (1 ≤ a) && decide (a < 2 ^ 31)) || (decide (1 ≤ d) && decide (d ≤ 64) && !r.below.contains seq)

/-- The record after a SEQ is accepted. -/
def Replay.take (r : Replay) (seq : Nat) : Replay :=
  let a := seqAhead seq r.hi
  if 1 ≤ a ∧ a < 2 ^ 31 then
    { r with hi := seq, below := (r.hi :: r.below).filter (fun x => decide (seqAhead seq x ≤ 64)) }
  else { r with below := seq :: r.below }

def Replay.is (r : Replay) (m : GnMsg) : Bool := r.rack == m.rack && r.sender == m.sender

/-- Freshness of a message (check 5). -/
def State.msgFresh (s : State) (m : GnMsg) : Bool :=
  (match s.gn.replay.find? (fun r => r.is m) with
    | some r => r.fresh m.seq
    | none => true) &&
  (!(s.ptpLock && m.timeOk) || (decide (m.origin - s.clk.ptp ≤ 500000000) && decide (-500000000 ≤ m.origin - s.clk.ptp)))

/-- The buckets a message draws on: whose, limit per second, burst (Table 10-17); the sender's comes first. -/
def State.bucketsOf (s : State) (typ : Nat) (m : GnMsg) : List (BucketKey × Nat × Nat) :=
  if typ = 1 then [(.wick m.sender, 2000, 32), (.wickRack, 200000, 400)]
  else if typ = 2 then
    if (s.gv.ep m.sender).isSome then [(.report m.sender, 10000, 4)] else [(.unregistered m.sender, 10, 2)]
  else if typ = 4 then [(.lantern m.rack m.sender, 1000, 4)]
  else if typ = 7 then [(.share m.sender, 17000, 34)]
  else if typ = 8 then if m.sender = 0x300 then [(.host, 1, 1)] else [(.alert m.sender, 1000, 4)]
  else [(.request m.sender, 1000, 16)]

/-- Limit and burst of a bucket. -/
def BucketKey.size : BucketKey → Nat × Nat
  | .wick _ => (2000, 32)
  | .wickRack => (200000, 400)
  | .report _ => (10000, 4)
  | .unregistered _ => (10, 2)
  | .lantern _ _ => (1000, 4)
  | .request _ => (1000, 16)
  | .share _ => (17000, 34)
  | .alert _ => (1000, 4)
  | .host => (1, 1)

/-- Thousandths of a token a bucket holds; an unlisted bucket is full. -/
def Gulene.tokens (g : Gulene) (k : BucketKey) (burst : Nat) : Nat :=
  ((g.buckets.find? (fun b => b.key == k)).map (·.milli)).getD (1000 * burst)

/-- One token taken. -/
def Gulene.takeToken (g : Gulene) (k : BucketKey) (burst : Nat) : Gulene :=
  { g with buckets := { key := k, milli := g.tokens k burst - 1000 } :: g.buckets.filter (fun b => b.key != k) }

/-- INPUT_DROPPED, at most one a second for a sender (R36, R266): 0 rate, 1 late, 2 queue. -/
def State.dropRecord (s : State) (kind sender count : Nat) : State :=
  let pay := leBytes 4 kind ++ leBytes 4 count
  if sender < 0x100 then s.record 0x0708 0 kEndpoint sender pay else s.record 0x0708 0 kNone 0 pay

/-- A message over its rate limit (R266). -/
def State.rateDrop (s : State) (sender : Nat) : State :=
  let s := s.setGn (fun g => { g with rateCnt := satInc 16 g.rateCnt })
  let s := if sender < 0x100 then
      s.setGv (fun g => { g with dropped := putKey g.dropped sender (satInc 8 ((look g.dropped sender).getD 0)) })
    else s
  let quiet := match look s.gn.dropAt sender with
    | some t => decide (s.clk.now < t + 1000000000)
    | none => false
  if quiet then s
  else (s.setGn (fun g => { g with dropAt := putKey g.dropAt sender s.clk.now })).dropRecord 0 sender
    ((look s.gv.dropped sender).getD 1)

/-- The checks of Table 10-5 on a message of a TYPE; true when it is accepted. -/
def State.gnCheck (s : State) (typ : Nat) (m : GnMsg) : State × Bool :=
  let bad (f : Gulene → Gulene) : State × Bool := (s.setGn f, false)
  if !s.rc.on 3 then (s, false)
  else if !senderOk typ m.sender || !bodyFits typ m.sender m.body then bad (fun g => { g with malformed := satInc 16 g.malformed })
  else if s.rackId = 0 ∨ ¬ (m.rack = s.rackId ∨ (typ = 4 ∧ m.rack / 2 ^ 16 = s.rackId / 2 ^ 16)) then (s, false)
  else
    let good := match s.keyFor typ m with
      | some k => m.tag == msgTag k.key typ m
      | none => false
    if !good then bad (fun g => { g with authFail := satInc 16 g.authFail })
    else if !s.msgFresh m then bad (fun g => { g with replayCnt := satInc 16 g.replayCnt })
    else
      let l := s.bucketsOf typ m
      if l.any (fun b => decide (s.gn.tokens b.1 b.2.2 < 1000)) then (s.rateDrop m.sender, false)
      else
        (s.setGn (fun g =>
          let g := l.foldl (fun g b => g.takeToken b.1 b.2.2) g
          let r := (g.replay.find? (fun r => r.is m)).getD { rack := m.rack, sender := m.sender, hi := (m.seq + 2 ^ 32 - 1) % 2 ^ 32, below := [] }
          let known := g.replay.any (fun r => r.is m)
          let r := if known then r.take m.seq else { r with hi := m.seq }
          { g with
            replay := r :: g.replay.filter (fun r => !r.is m), rxOk := (g.rxOk + 1) % 2 ^ 32
            wickNow := if typ = 1 then g.wickNow + 1 else g.wickNow }), true)

/-- An accepted message joins the receive queue (R267). -/
def State.gnQueue (s : State) (typ : Nat) (m : GnMsg) : State :=
  if s.gn.queue.length ≥ 4096 then
    let s := s.setGn (fun g => { g with rateCnt := satInc 16 g.rateCnt })
    let quiet := match s.gn.queueDropAt with
      | some t => decide (s.clk.now < t + 1000000000)
      | none => false
    if quiet then s else (s.setGn (fun g => { g with queueDropAt := some s.clk.now })).dropRecord 2 0x200 s.gn.rateCnt
  else s.setGn (fun g => { g with queue := g.queue ++ [{ typ := typ, msg := m, at_ := s.clk.now, ptpAt := s.clk.ptp }] })

/-- Receipt of a message: checks, then the receive queue. -/
def State.gnReceive (s : State) (typ : Nat) (m : GnMsg) : State :=
  let r := s.gnCheck typ m
  if r.2 then r.1.gnQueue typ m else r.1

def execWick (m : GnMsg) (s : State) : Host.Outcome State Fault Refusal := .next (s.gnReceive 1 m)

def execReport (m : GnMsg) (s : State) : Host.Outcome State Fault Refusal := .next (s.gnReceive 2 m)

def execLantern (m : GnMsg) (s : State) : Host.Outcome State Fault Refusal := .next (s.gnReceive 4 m)

def execBudget (m : GnMsg) (s : State) : Host.Outcome State Fault Refusal := .next (s.gnReceive 5 m)

def execElectReceived (m : GnMsg) (s : State) : Host.Outcome State Fault Refusal := .next (s.gnReceive 6 m)

def execShareReceived (m : GnMsg) (s : State) : Host.Outcome State Fault Refusal := .next (s.gnReceive 7 m)

def execGrantReceived (s : State) : Host.Outcome State Fault Refusal :=
  .next (s.setGn (fun g => { g with malformed := satInc 16 g.malformed }))

def execMalformedDatagram (s : State) : Host.Outcome State Fault Refusal :=
  .next (s.setGn (fun g => { g with malformed := satInc 16 g.malformed }))

/-- A bucket one refill later; a full one is not kept. -/
def Bucket.refill (b : Bucket) : Option Bucket :=
  let n := b.milli + b.key.size.1
  if n ≥ 1000 * b.key.size.2 then none else some { b with milli := n }

def execBucketRefill (s : State) : Host.Outcome State Fault Refusal :=
  .next (s.setGn (fun g =>
    let last := g.msTick + 1 ≥ 1000
    { g with
      buckets := g.buckets.filterMap Bucket.refill, msTick := if last then 0 else g.msTick + 1
      wickLast := if last then g.wickNow else g.wickLast, wickNow := if last then 0 else g.wickNow }))

def execReplayRecordExpiry (rack sender : Nat) (s : State) : Host.Outcome State Fault Refusal :=
  .next (s.setGn (fun g => { g with replay := g.replay.filter (fun r => !(r.rack == rack && r.sender == sender)) }))

/-! ### Keys (R259, R379) -/

def Gulene.setRole (g : Gulene) (row : Bool) (f : KeyRole → KeyRole) : Gulene :=
  if row then { g with rowKey := f g.rowKey } else { g with rackKey := f g.rackKey }

def Gulene.role (g : Gulene) (row : Bool) : KeyRole := if row then g.rowKey else g.rackKey

/-- The next key becomes current; the old one is still accepted. -/
def KeyRole.switch (r : KeyRole) : KeyRole := match r.next with
  | some k => { cur := some k, next := none, old := r.cur.toList ++ r.old }
  | none => r

/-- The rack and row groups in the family of the current rack key, with a link (R249, R251). -/
def State.groupsWanted (s : State) : List Nat := match s.gn.rackKey.cur with
  | some k => if s.gn.linkUp && s.gv.ok then [rackGroup k.v4 s.rackId, rowGroup k.v4 s.rackId] else []
  | none => []

/-- Those groups joined, each new one with a report (R251). -/
def State.joinGroups (s : State) : State :=
  let l := s.groupsWanted
  ((l.filter (fun a => !s.gn.joined.contains a)).foldl (fun s a => s.emit (.net 5 a)) s).setGn (fun g => { g with joined := l })

def execKeyActivate (row : Bool) (s : State) : Host.Outcome State Fault Refusal :=
  .next (s.setGn (fun g => g.setRole row KeyRole.switch)).joinGroups

def execOldKeyExpiry (row : Bool) (s : State) : Host.Outcome State Fault Refusal :=
  .next (s.setGn (fun g => g.setRole row (fun r => { r with old := r.old.dropLast })))

/-- The key a key block holds (Table 16-13). -/
def keyOf (b : Bytes) : Key :=
  let v4 := u b 1 1 == 1
  { id := u b 0 1, v4 := v4, activate := i b 8 8, key := slice b 0x20 32,
    hostAddr := if v4 then beNat (slice b 0x10 4) else beNat (slice b 0x10 16) }

/-- Offset of the first field of a key block refused (R379, R14). -/
def State.keyFault (s : State) (b : Bytes) : Option Nat :=
  let row := decide (0x80 < u b 0 1)
  let cur := match (s.gn.role row).cur with
    | some k => k.id == u b 0 1
    | none => false
  if u b 0 1 == 0 || u b 0 1 == 0x80 || cur then some 0
  else if 1 < u b 1 1 ∨ (row ∧ u b 1 1 ≠ 0) then some 1
  else if !zeros b 2 6 then some 2
  else if row && !zeros b 0x10 16 then some 0x10
  else none

/-- A key taken: current at once without a current key, otherwise next, and current at once when its time is 0 or has
passed. -/
def State.loadKey (s : State) (k : Key) : State :=
  let row := decide (0x80 < k.id)
  s.setGn (fun g => g.setRole row (fun r =>
    if r.cur.isNone then { r with cur := some k }
    else
      let r := { r with next := some k }
      if k.activate = 0 ∨ k.activate ≤ s.clk.ptp then r.switch else r))

def execKeyLoad (h : CmdHdr) (buf : Buf) (s : State) : Host.Outcome State Fault Refusal :=
  let b := s.bufRead buf 0 64
  .next (s.start h
    { op := 0x0704,
      chk := need (buf.len = 64) stBadLength 0x10 <|> param (bufOk buf 64) 0x08 <|>
        (s.keyFault b).map (fun off => (stBadParam, 0x08 + off * 2 ^ 32)) }
    (fun s => (s.loadKey (keyOf b)).joinGroups.complete h stOk 0))

/-! ### The port (R248, R249, R269) -/

/-- Interface identifier formed from the MAC address (RFC 4291: modified EUI-64). -/
def eui64 (mac : Nat) : Nat :=
  Nat.xor (mac / 2 ^ 24 * 2 ^ 40 + 0xFFFE * 2 ^ 24 + mac % 2 ^ 24) (2 ^ 57)

/-- Link-local address (R249). -/
def Gulene.linkLocal (g : Gulene) : Nat := 0xFE80 * 2 ^ 112 + eui64 g.mac

/-- An address of this module. -/
def Gulene.own (g : Gulene) (a : Nat) : Bool := a == g.linkLocal || g.ipv6 == some a || g.ipv4 == some a

/-- All four modes of Table 10-1 offered (R248). -/
def State.negotiate (s : State) : State := if s.rc.ethOn then s.emit (.autoneg [1, 2, 3, 4] Config.hyewardOui) else s

/-- NEG_FAIL: the record of the first failure since the link was lost, and the retry (R248). -/
def execNegFail (s : State) : Host.Outcome State Fault Refusal :=
  if s.gn.linkUp || !s.rc.ethOn then .next s
  else
    .next (if s.gn.negFailed then s
      else (s.setGn (fun g => { g with negFailed := true })).record 0x0D01 1 kLink 0 []).negotiate

/-- The highest mode of Table 10-1 the partner offers as well; 0: none (R248). -/
def modeOf (offer : List Nat) : Nat := ([1, 2, 3, 4].find? (fun m => offer.contains m)).getD 0

def execNeighbourDiscovery (r : NetReq) (s : State) : Host.Outcome State Fault Refusal :=
  match r with
  | .solicit a => .next (if s.gn.own a then s.emit (.net 0 a) else s)
  | .arp a => .next (if s.gn.ipv4 == some a then s.emit (.net 1 a) else s)
  | .echo a => .next (if s.gn.own a then s.emit (.net 2 a) else s)
  | .router p => .next (s.setGn (fun g => { g with ipv6 := some (p % 2 ^ 64 * 2 ^ 64 + eui64 g.mac) }))

def execDhcpReply (addr : Nat) (s : State) : Host.Outcome State Fault Refusal :=
  .next (s.setGn (fun g => { g with ipv4 := some (addr % 2 ^ 32) }))

/-! ### PTP (R254 to R256, R388) -/

/-- Grants by responsive timing until lock is regained (R235). -/
def State.suspendEpochs (s : State) : State :=
  (s.setGv (fun g => { g with detSusp := true })).record 0x0707 1 kNone 0 (leBytes 1 1)

/-- Lock lost: holdover, and deterministic timing suspended on a lead (R235, R255). -/
def State.loseLock (s : State) : State :=
  if !s.ptpLock then s
  else
    let s := { s with clk := { s.clk with ptpState := .holdover } }.setGn (fun g => { g with goodSync := 0, lostAt := s.clk.now })
    if s.gv.timing = 1 ∧ s.isLead then
      s.suspendEpochs
    else s

/-- clockClass this module announces (R256). -/
def State.clockClass (s : State) : Nat :=
  if s.ptpLock || (s.clk.ptpState == .holdover && decide (s.clk.now ≤ s.gn.lostAt + 60000000000)) then 187 else 248

/-- Clock a comes before clock b (IEEE 1588: the smaller of the compared fields in order). -/
def Announced.before (a b : List Nat) : Bool := match a, b with
  | x :: r, y :: t => decide (x < y) || (x == y && Announced.before r t)
  | _, _ => false

def announcedKey (a : Announced) : List Nat := [a.priority1, a.clockClass, a.accuracy, a.variance, a.priority2, a.identity]

/-- This module's own clock as it would announce it (R256); the fields the spec does not give are those of a clock of
unknown quality (assumption 21). -/
def State.ownClock (s : State) : List Nat := [250, s.clockClass, 0xFE, 0xFFFF, 128, eui64 s.gn.mac]

/-- Whether the module acts as the rack's time transmitter (R256). -/
def Gulene.elect (g : Gulene) : Gulene :=
  let on := g.rackSource && g.better.isNone
  { g with transmitter := on, announceCnt := if on && g.transmitter then g.announceCnt else 0 }

def execAnnounce (a : Announced) (s : State) : Host.Outcome State Fault Refusal :=
  if a.domain ≠ s.gn.domain then .next s
  else
    let wins := !s.gn.rackSource || Announced.before (announcedKey a) s.ownClock
    let best := match s.gn.better with
      | none => if wins then some a else none
      | some b =>
        if a.identity = b.identity then (if wins then some a else none)
        else if wins && Announced.before (announcedKey a) (announcedKey b) then some a else some b
    .next (s.setGn (fun g => { g with better := best }.elect))

/-- The timer and its frequency as the servo leaves them: its law is not stated, so both values are free
(assumption 113). -/
def State.steer (s : State) : State :=
  let r := s.freeNat
  let f := r.2.freeNat
  { f.2 with clk := { f.2.clk with ptp := toSigned 64 r.1, ptpFreq := toSigned 32 f.1 } }

/-- A Sync this module steers by: of its domain, from the time transmitter selected, at an interval of R254. -/
def Gulene.follows (g : Gulene) (domain source : Nat) (logInterval : Int) : Bool :=
  domain == g.domain && !g.transmitter && g.better.map (·.identity) == some source && decide (-7 ≤ logInterval) &&
    decide (logInterval ≤ 0)

def execPtpSync (sync : PtpHead) (origin : Int) (s : State) :
    Host.Outcome State Fault Refusal :=
  if !s.gn.follows sync.domain sync.source sync.logInterval then .next s
  else
    let t2 := s.clk.ptp
    let off := t2 - origin - s.gn.pathDelay
    let good := if absI off ≤ 100 then s.gn.goodSync + 1 else 0
    let bad := if 1000 < absI off then s.gn.badSync + 1 else 0
    let s := s.setGn (fun g => { g with
      offset := satI 32 off, goodSync := min good 8, badSync := min bad 2, syncT1 := origin, syncT2 := t2, reqT3 := some t2 })
    let s := s.emit (.ptp 1 sync.via t2)
    let s := if 2 ≤ bad then s.loseLock else s
    let s := if 8 ≤ good then { s with clk := { s.clk with ptpState := .lock, ptpHeld := true } } else s
    .next s.steer

def execPtpSyncTimeout (s : State) : Host.Outcome State Fault Refusal :=
  .next ((s.loseLock).setGn (fun g => { g with goodSync := 0, badSync := 0, better := none }.elect))

/-- PTP_SYNC_SEND: Sync, and with every 32nd an Announce of this module's clock (R256; assumption 111). -/
def execPtpSyncSend (s : State) : Host.Outcome State Fault Refusal :=
  if !s.gn.transmitter then .next s
  else
    let s := if s.gn.announceCnt = 0 then s.emit (.announce s.gn.domain s.ownClock) else s
    .next ((s.emit (.ptp 0 .ethernet s.clk.ptp)).setGn (fun g => { g with announceCnt := (g.announceCnt + 1) % 32 }))

def execDelayReq (s : State) : Host.Outcome State Fault Refusal :=
  .next (if s.gn.transmitter then s.emit (.ptp 9 .ethernet s.clk.ptp) else s)

def execDelayResp (received : Int) (s : State) : Host.Outcome State Fault Refusal :=
  match s.gn.reqT3 with
  | some t3 => .next (s.setGn (fun g => { g with
      pathDelay := divRne ((g.syncT2 - g.syncT1) + (received - t3)) 2, reqT3 := none }))
  | none => .next s

def execTimeSet (h : CmdHdr) (role domain : Nat) (setTime : Bool) (timeNs : Int) (s : State) :
    Host.Outcome State Fault Refusal :=
  .next (s.start h { op := 0x0B02, chk := param (role ≤ 1) 0x08 <|> param (domain ≤ 127) 0x09 }
    (fun s =>
      let s := if domain ≠ s.gn.domain then
          (s.loseLock).setGn (fun g => { g with domain := domain, better := none, goodSync := 0, badSync := 0 })
        else s
      let s := s.setGn (fun g => { g with rackSource := role == 1 }.elect)
      let apply := setTime && !s.clk.ptpHeld
      let s := if apply then { s with clk := { s.clk with ptp := timeNs, ptpState := .set } } else s
      s.complete h stOk (if apply then 1 else 0)))

/-! ### Registers (Tables 10-19 to 10-31) -/

/-- A word of an address in network order, byte 4n in bits [7:0]. -/
def addrWord (a bytes n : Nat) : Nat := leNat (slice (beBytes bytes a) (4 * n) 4)

/-- A Gulene or Ethernet register, by offset from 0x01A0_0000. -/
def State.gnRead (s : State) (off : Nat) : Nat :=
  let g := s.gn
  let id (k : Option Key) : Nat := (k.map (·.id)).getD 0
  if off = 0x000 then
    flagAt g.isolated 8 + fieldAt g.mode 4 4 + flagAt g.ipv4.isSome 2 + flagAt g.ipv6.isSome 1 + flagAt g.linkUp 0
  else if off = 0x004 then
    fieldAt g.domain 8 24 + flagAt g.transmitter 3 + flagAt g.rackSource 2 + flagAt (s.clk.ptpState == .holdover) 1 +
      flagAt s.ptpLock 0
  else if off = 0x008 then ofSigned 32 g.offset
  else if off = 0x00C then
    fieldAt (id g.rowKey.next) 8 24 + fieldAt (id g.rowKey.cur) 8 16 + fieldAt (id g.rackKey.next) 8 8 + id g.rackKey.cur
  else if off = 0x010 then g.rxOk
  else if off = 0x014 then g.txOk
  else if off = 0x018 then fieldAt g.authFail 16 16 + g.replayCnt
  else if off = 0x01C then fieldAt g.rateCnt 16 16 + g.malformed
  else if off = 0x020 then g.wickLast
  else if off = 0x030 then g.mac % 2 ^ 32
  else if off = 0x034 then bits g.mac 47 32
  else if 0x040 ≤ off ∧ off < 0x050 then
    match g.ipv6 with
    | some a => addrWord a 16 ((off - 0x040) / 4)
    | none => 0
  else if off = 0x050 then
    match g.ipv4 with
    | some a => addrWord a 4 0
    | none => 0
  else 0

end Sys2Proof.Machine
end

