-- ==== Sys2Proof/Machine/Profile.lean ====
section
/-!
DEFINITION. The Profile Engine and power plans (chapter 8; R375 to R377).
-/

namespace Sys2Proof.Machine

open Sys2Proof

def State.setPf (s : State) (f : Profile → Profile) : State := { s with pf := f s.pf }

/-- Scale of the Profile Engine's real numbers. -/
def pfOne : Int := 2 ^ Config.profileFracBits

/-! ### Bins (R195, R196) -/

/-- Width of a bin [2^-16 µs]. -/
def binWidth (n : Nat) : Nat := 2 ^ (16 + n)

/-- N of a period at a bin exponent (R196). -/
def binsOf (t : Int) (n : Nat) : Nat := ceilDiv t.toNat (binWidth n)

/-- The exponent a setting gives a period; none where it does not fit. -/
def Part.chooseBin (part : Part) (setting : Nat) (t : Int) : Option Nat :=
  if setting = 0xFF then (List.range 21).find? (fun n => decide (binsOf t n ≤ part.profileEntries))
  else if binsOf t setting ≤ part.profileEntries then some setting else none

/-- Entry of a bin. -/
def pfEntry (tab : List (Nat × PfEntry)) (b : Nat) : PfEntry := (look tab b).getD {}

/-- A phase modulo the period. -/
def wrapT (x t : Int) : Int := if t ≤ 0 then 0 else x % t

/-- Bins met by an interval of `len` from a phase, with the time spent in each, modulo the period; `k` bounds the walk. -/
def walkBins (t : Int) (w : Nat) : Nat → Int → Int → List (Nat × Int)
  | 0, _, _ => []
  | k + 1, phi, len =>
    if len ≤ 0 ∨ t ≤ 0 then []
    else
      let b := (phi / w).toNat
      let stop := min (((b : Int) + 1) * w) t
      let d := min len (stop - phi)
      (b, d) :: walkBins t w k (if phi + d ≥ t then phi + d - t else phi + d) (len - d)

/-- Bound of that walk. -/
def walkBound (t : Int) (w : Nat) (len : Int) : Nat := (len / w).toNat + 2 * (divFloor len t.toNat).toNat + 3

def Profile.cover (p : Profile) (phi len : Int) : List (Nat × Int) :=
  walkBins p.period (binWidth p.n) (walkBound p.period (binWidth p.n) len) (wrapT phi p.period) len

/-- Time-weighted sum of the entries over an interval. -/
def Profile.coverSum (p : Profile) (phi len : Int) : Int :=
  sumOf (p.cover phi len) (fun x => (pfEntry p.table x.1).mean * x.2)

/-- The period average a (R209). -/
def Profile.periodAvg (p : Profile) : Int := divRne (p.coverSum 0 p.period) p.period.toNat

/-! ### Skill and forecast (R209, R210) -/

/-- Skill as a numerator over EA; none while it is 1. -/
def Profile.skillOne (p : Profile) : Bool := p.ea == 0 || decide (p.windows < 64)

/-- Q at least k / 256. -/
def Profile.qAtLeast (p : Profile) (k : Int) : Bool :=
  if p.skillOne then decide (k ≤ 256) else decide (k * p.ea ≤ 256 * (p.ea - p.ef))

/-- CONF (R209). -/
def Profile.conf (p : Profile) : Bool := p.state == PfState.locked && p.qAtLeast p.cfg.confMin

/-- Q as PF_QUALITY shows it, in 1/256. -/
def Profile.qShown (p : Profile) : Int :=
  if p.state != PfState.locked then 0
  else if p.skillOne then 256 else satI 16 (divRne (256 * (p.ea - p.ef)) p.ea.toNat)

/-- Answer of the forecast port for a lead in µs: value and validity (R210). -/
def Profile.forecast (p : Profile) (leadUs : Nat) : Int × Bool :=
  if p.period ≤ 0 then (0, false)
  else
    let e := pfEntry p.table (wrapT (p.phase + leadUs * 2 ^ 16) p.period / binWidth p.n).toNat
    (e.mean, p.conf && decide (p.cfg.minCount ≤ e.count) && decide (e.spread * 4 ≤ p.cfg.spreadMax))

/-! ### Entering states -/

/-- Table, anchors and rejections cleared (R206). -/
def Profile.clear (p : Profile) : Profile :=
  { p with table := [], anchors := [], rejects := [], planned := false, snap := [], periodBins := [], binSum := 0, binCnt := 0
           recross := false }

/-- The correlator starts anew. -/
def Profile.restart (p : Profile) : Profile := { p with decSum := 0, decCnt := 0, hist := [], got := 0, cands := [], seen := [] }

/-- SEARCH, with no period. -/
def Profile.toSearch (p : Profile) : Profile :=
  { p.clear.restart with state := .search, period := 0, phase := 0, n := 0, plan := none, winCover := none, limitRun := 0, lowWin := 0 }

/-- Entry into LOCKED with the present table. -/
def Profile.toLocked (p : Profile) (phi : Int) : Profile :=
  let p := { p with state := .locked, phase := wrapT phi p.period, ef := 0, ea := 0, windows := 0, lowWin := 0, limitRun := 0,
                    periods := 0, locks := satInc 8 p.locks, binSum := 0, binCnt := 0, periodBins := [], wickJump := false,
                    recross := false,
                    winCover := none, cands := [], seen := [], noFit := false }
  { p with snap := p.table, avg := p.periodAvg }

/-- The engine stays out of LOCKED: the period does not fit (R196). -/
def State.pfNoFit (s : State) (t : Int) : State :=
  (s.setPf (fun p => { p with noFit := true })).record 0x0602 1 kNone 0 (leBytesI 8 (divRne t (2 ^ 16)))

/-- A period found in SEARCH or COAST (R198, R201, R205): `phiNew` is the phase of a new table, `phiKeep` of a kept one. -/
def State.pfFound (s : State) (t phiNew phiKeep : Int) : State :=
  let p := s.pf
  let keep := p.state == PfState.coast && decide (absI (t - p.period) * 100 ≤ 2 * p.period)
  let fit := if keep && decide (binsOf t p.n ≤ s.part.profileEntries) then some p.n else s.part.chooseBin p.cfg.binExp t
  match fit with
  | none => s.pfNoFit t
  | some n =>
    if keep && n == p.n then
      s.setPf (fun p => ({ p with period := t, table := p.table.filter (fun x => decide (x.1 < binsOf t n)) }).toLocked phiKeep)
    else s.setPf (fun p => ({ p.clear with period := t, n := n }).toLocked phiNew)

/-! ### Correlator (R200, R201) -/

/-- m of R200. -/
def decM (maxUs : Nat) : Nat := ((List.range 21).find? (fun m => decide (maxUs ≤ 4096 * 2 ^ m))).getD 20

def Profile.m (p : Profile) : Nat := decM p.cfg.maxUs

/-- The three sums of rho(tau) over the last L decimated samples. -/
def corrSums (hist : List Int) (tau : Nat) : Int × Int × Int :=
  let l := max tau 64
  let z := ((hist.take l).zip ((hist.drop tau).take l))
  (sumOf z (fun q => q.1 * q.2), sumOf z (fun q => q.1 * q.1), sumOf z (fun q => q.2 * q.2))

/-- rho(tau), in units of 2^-profileFracBits; 0 where a sum of squares is 0. -/
def Profile.rho (p : Profile) (tau : Nat) : Int :=
  let c := corrSums p.hist tau
  let d := (c.2.1 * c.2.2).toNat
  let q := if d = 0 then 0 else Nat.sqrt ((c.1 * pfOne).natAbs ^ 2 / d)
  if c.1 < 0 then -q else q

/-- The lag and its neighbours are evaluable. -/
def Profile.lagOk (p : Profile) (tau : Nat) : Bool := decide (max (tau + 1) 64 + tau + 1 ≤ p.got)

/-- RMS gate of R200. -/
def Profile.rmsOk (p : Profile) (rating : Nat) : Bool :=
  let l := p.hist.take 4096
  decide ((rating : Int) ^ 2 * pfOne ^ 2 * l.length ≤ sumOf l (fun x => x * x) * 200 ^ 2)

/-- The candidate lag (R201). -/
def Profile.candidate (p : Profile) (rating : Nat) : Option Nat :=
  let m := p.m
  let lo := max 1 (ceilDiv p.cfg.minUs (2 ^ m))
  let hi := p.cfg.maxUs / 2 ^ m
  let lags := ((List.range (hi + 1)).drop lo).filter p.lagOk
  let top := maxI (lags.map p.rho) (-pfOne)
  if !p.rmsOk rating then none
  else lags.find? (fun k =>
    let r := p.rho k
    decide (p.rho (k - 1) ≤ r) && decide (p.rho (k + 1) ≤ r) && decide ((p.cfg.lockRho : Int) * pfOne ≤ 256 * r) &&
      decide (20 * top - pfOne ≤ 20 * r))

/-- T of a candidate by the parabola of R201; where its denominator is 0 the spec states no value and T is free. -/
def State.refine (s : State) (tau : Nat) : Int × State :=
  let p := s.pf
  let num := p.rho (tau - 1) - p.rho (tau + 1)
  let den := 2 * (p.rho (tau - 1) - 2 * p.rho tau + p.rho (tau + 1))
  if den = 0 then let f := s.freeNat; ((f.1 : Int), f.2)
  else (divRne ((tau * absI den - num) * 2 ^ (p.m + 16)) den.natAbs, s)

/-- Three candidates lie within 1 % of their mean. -/
def agree (l : List Int) : Bool :=
  l.length == 3 && l.all (fun t => decide (100 * absI (3 * t - l.sum) ≤ l.sum))

/-- An evaluation of the correlator, every 256 decimated samples. -/
def State.correlate (s : State) : State :=
  if s.pf.state ≠ .search ∧ s.pf.state ≠ .coast then s
  else
    match s.pf.candidate s.sh.ratingW with
    | none => s.setPf (fun p => { p with cands := [] })
    | some tau =>
      let r := s.refine tau
      let s := r.2.setPf (fun p => { p with cands := (r.1 :: p.cands).take 3 })
      if agree s.pf.cands then (s.setPf (fun p => { p with cands := [] })).pfFound r.1 0 s.pf.phase else s

/-- A good sample taken by the decimator. -/
def State.decimate (s : State) (x : Int) : State :=
  let p := s.pf
  if p.decCnt + 1 < 2 ^ p.m then s.setPf (fun p => { p with decSum := p.decSum + x, decCnt := p.decCnt + 1 })
  else
    let d := divRne (p.decSum + x) (2 ^ p.m)
    let mu := p.mu + divRne (d * pfOne - p.mu) 256
    let s := s.setPf (fun p => { p with
      decSum := 0, decCnt := 0, mu := mu, hist := ((d * pfOne - mu) :: p.hist).take 8193, got := p.got + 1 })
    if s.pf.got % 256 = 0 then s.correlate else s

/-! ### Averager and phase detector (R202, R204) -/

/-- update_entry of R202. -/
def PfEntry.update (e : PfEntry) (avgK : Nat) (x : Int) : PfEntry :=
  let w := min (e.count + 1) (2 ^ avgK)
  let d := x - e.mean
  let dev : Int := ((min d.natAbs 262140 / 4 : Nat) : Int)
  { e with mean := satI 24 (e.mean + divRne d w),
           spread := (clampI 0 65535 (e.spread + divRne (dev - e.spread) w)).toNat,
           count := min (e.count + 1) 65535 }

/-- The phase leaves a bin. -/
def Profile.leaveBin (p : Profile) (b : Nat) : Profile :=
  if p.binCnt = 0 then { p with binSum := 0 }
  else
    let x := divRne p.binSum p.binCnt
    { p with binSum := 0, binCnt := 0, periodBins := p.periodBins ++ [(b, x)],
             table := putKey p.table b ((pfEntry p.table b).update p.cfg.avgK x) }

/-- Bins the phase detector may use with twice their slope (R204): COUNT is tested in the table at the period's end, and the
means are those the averages of this period have not yet changed. -/
def Profile.slopes (p : Profile) : List (Int × Int) :=
  let n := binsOf p.period p.n
  let e := fun b => pfEntry p.snap (b % n)
  let full := fun b => decide (p.cfg.minCount ≤ (pfEntry p.table (b % n)).count)
  (p.periodBins.filter (fun x => [x.1 + n - 1, x.1, x.1 + 1].all full)).map
    (fun x => (x.2 - (e x.1).mean, (e (x.1 + 1)).mean - (e (x.1 + n - 1)).mean))

/-- The period ends: phase detector, period average, next period (R204, R209, assumption 106). -/
def Profile.endPeriod (p : Profile) : Profile :=
  let l := p.slopes
  let num := -2 * sumOf l (fun q => q.1 * q.2)
  let den := sumOf l (fun q => q.2 * q.2)
  let use_ := !p.wickJump && den != 0 && decide (16 ≤ l.length)
  let hit := use_ && decide (4 * den < absI num)
  let q := if num > 4 * den then 4 * den else if num < -(4 * den) then -(4 * den) else num
  let step := fun (k : Nat) => divRne (q * 2 ^ (p.n + 16)) (den.toNat * k)
  let t := if use_ then max 1 (p.period + step 16) else p.period
  let moved := if use_ then p.phase - step 4 else p.phase
  let p := { p with period := t, phase := wrapT moved t, recross := decide (moved < 0), periods := satInc 16 p.periods, wickJump := false,
                    periodBins := [],
                    limitRun := if hit then p.limitRun + 1 else 0,
                    table := p.table.filter (fun x => decide (x.1 < binsOf t p.n)) }
  { p with snap := p.table, avg := p.periodAvg }

/-- The phase runs over the end of the table: a period ends, unless the phase was moved back over that end before (R204). -/
def Profile.cross (p : Profile) : Profile :=
  if p.recross then { p with recross := false, periodBins := [] } else p.endPeriod

/-- The phase advances by 1 µs (R202). -/
def Profile.advance (p : Profile) : Profile :=
  let b := (p.phase / binWidth p.n).toNat
  let phi := p.phase + 2 ^ 16
  let averages := p.state == PfState.locked
  if p.period ≤ 0 then p
  else if phi ≥ p.period then
    let p := { p with phase := wrapT phi p.period }
    if averages then (p.leaveBin b).cross else p
  else
    let p := { p with phase := phi }
    if averages && (phi / binWidth p.n).toNat != b then p.leaveBin b else p

/-- A 1 ms window of the skill ends and the next begins (R209). -/
def Profile.endWindow (p : Profile) : Profile :=
  let len : Int := 1000 * 2 ^ 16
  let p := match p.winCover with
    | some f =>
      if p.state = PfState.locked ∧ p.winCnt ≠ 0 then
        let m := divRne p.winSum p.winCnt
        let ef := p.ef + divRne (divRne (absI (m * len - f) * pfOne) len.toNat - p.ef) 64
        let ea := p.ea + divRne (absI (m - p.avg) * pfOne - p.ea) 64
        let p := { p with ef := ef, ea := ea, windows := p.windows + 1 }
        { p with lowWin := if p.qAtLeast p.cfg.lossQ then 0 else p.lowWin + 1 }
      else p
    | none => p
  { p with winSum := 0, winCnt := 0, winPos := 0,
           winCover := if p.state = PfState.locked then some (p.coverSum p.phase len) else none }

/-- A phase jump by `d` in LOCKED (R205): the bin left is averaged (R202), and a jump over the table's end ends the period. -/
def Profile.jump (p : Profile) (d : Int) : Profile :=
  let b := (p.phase / binWidth p.n).toNat
  let moved := p.phase + d
  let q : Profile := { p with phase := wrapT moved p.period, wickJump := true }
  let q := if (q.phase / binWidth p.n).toNat = b then q else q.leaveBin b
  if p.period ≤ moved then q.cross
  else if moved < 0 then { q with recross := true }
  else q

/-- A period that has grown past the table (R196): AUTO takes a larger exponent with the table cleared, and a fixed exponent
leaves LOCKED. -/
def State.pfRefit (s : State) : State :=
  let p := s.pf
  if p.state ≠ .locked ∨ binsOf p.period p.n ≤ s.part.profileEntries then s
  else
    match s.part.chooseBin p.cfg.binExp p.period with
    | some n => s.setPf (fun p => { p.clear with n := n, avg := 0 })
    | none => (s.setPf Profile.toSearch).pfNoFit p.period

/-- An entry with a parity error is treated as empty and written as 0 (R197). -/
def State.pfParity (s : State) (b : Nat) : State :=
  (s.setPf (fun p => { p with table := dropKey p.table b, parityFlag := true })).record 0x0603 1 kNone 0 (leBytes 4 b)

/-- The 1 µs sample: the mean of two frame periods, or missing while a source is stale (R199, R297). -/
def State.pfSample (s : State) : Option Int :=
  if s.sh.outHist.length < 2 ∨ (s.sh.outStale.take 2).any id then none else some (meanI (s.sh.outHist.take 2))

def execProfileSample (parity : Bool) (s : State) : Host.Outcome State Fault Refusal :=
  if !s.rc.profile || s.pf.state == PfState.idle then .next s
  else
    let x := s.pfSample
    let s := if parity && s.pf.state == PfState.locked then s.pfParity (s.pf.phase / binWidth s.pf.n).toNat else s
    let s : State := match x with
      | some v => (s.setPf (fun p => { p with
          binSum := if p.state = PfState.locked then p.binSum + v else p.binSum
          binCnt := if p.state = PfState.locked then p.binCnt + 1 else p.binCnt
          winSum := p.winSum + v, winCnt := p.winCnt + 1 })).decimate v
      | none => s
    let s := s.setPf (fun p => { p with recent := (x :: p.recent).take ((p.period / 2 ^ 16).toNat + 2), winPos := p.winPos + 1 })
    let s := if s.pf.state = .locked ∨ s.pf.state = .coast then (s.setPf Profile.advance).pfRefit else s
    .next (if s.pf.winPos ≥ 1000 then s.setPf Profile.endWindow else s)

def execLockLost (s : State) : Host.Outcome State Fault Refusal :=
  let p := s.pf
  let skill := decide (p.cfg.lossMs ≤ p.lowWin)
  if p.state = .locked ∧ (skill ∨ 3 ≤ p.limitRun) then
    let f := s.freeNat
    let s := f.2.setPf (fun p => { p with
      state := .coast, lostFlag := true, losses := satInc 8 p.losses, lowWin := 0, limitRun := 0, cands := [], seen := [],
      binSum := 0, binCnt := 0, winCover := none })
    .next (s.record 0x0601 1 kNone 0 (leBytes 1 f.1))
  else .next s

def execCoastTimeout (s : State) : Host.Outcome State Fault Refusal :=
  .next (if s.pf.state = .coast then s.setPf Profile.toSearch else s)

/-! ### WICK notices (R205, R206) -/

/-- Phase distance of a time in ns [2^-16 µs]. -/
def phaseOf (ns : Int) : Int := divRne (ns * 2 ^ 16) 1000

/-- phi at T_w, run back or forward from the present phase. -/
def State.phaseAt (s : State) (t : Int) : Int := wrapT (s.pf.phase - phaseOf (s.clk.ptp - t)) s.pf.period

/-- A difference wrapped into (-T/2, T/2]. -/
def wrapHalf (x t : Int) : Int := let r := wrapT x t; if 2 * r > t then r - t else r

/-- The last good sample before T_w. -/
def State.sampleBefore (s : State) (t : Int) : Int :=
  ((s.pf.recent.drop (divFloor (s.clk.ptp - t) 1000).toNat).findSome? id).getD 0

def State.pfReject (s : State) : State := s.setPf (fun p => { p with rejected := satInc 16 p.rejected })
def State.pfApplied (s : State) : State := s.setPf (fun p => { p with applied := (p.applied + 1) % 2 ^ 16 })

/-- A notice in LOCKED whose tag has no anchor: the anchor and the tags are set (R205). -/
def State.newAnchor (s : State) (w : Notice) : State :=
  let phi := s.phaseAt w.at_
  let seed := satI 24 (s.sampleBefore w.at_ + w.delta)
  let bins := (s.pf.cover phi (w.durUs * 2 ^ 16)).map (·.1)
  let put := fun (t : List (Nat × PfEntry)) b =>
    let e := pfEntry t b
    putKey t b (if e.count = 0 then { e with tag := w.tag, mean := seed, count := 1 } else { e with tag := w.tag })
  s.setPf (fun p => { p with anchors := putKey p.anchors w.tag phi, table := bins.foldl put p.table })

/-- A notice in LOCKED whose tag has an anchor: a jump or a rejection (R205). -/
def State.anchorJump (s : State) (w : Notice) (a : Int) : State :=
  let p := s.pf
  let d := wrapHalf (a - s.phaseAt w.at_) p.period
  let again := match look p.rejects w.tag with
    | some r => decide (absI (d - r) ≤ (binWidth p.n : Int))
    | none => false
  if decide (absI d * 100 ≤ p.cfg.snapPct * p.period) || again then
    (s.setPf (fun p => { p.jump d with rejects := dropKey p.rejects w.tag })).pfApplied
  else (s.setPf (fun p => { p with rejects := putKey p.rejects w.tag d })).pfReject

/-- A notice in SEARCH or COAST (R205): three successive notices of one tag may give a period. -/
def State.noticeSearch (s : State) (w : Notice) : State :=
  let l := (w.at_ :: (look s.pf.seen w.tag).getD []).take 3
  let s := s.setPf (fun p => { p with seen := putKey p.seen w.tag l })
  match l with
  | [c, b, a] =>
    let d := absI ((c - b) - (b - a))
    let t := phaseOf (divRne (c - a) 2)
    let run := phaseOf (s.clk.ptp - w.at_)
    let near := decide (200 * d ≤ c - a) &&
      decide ((s.pf.cfg.minUs : Int) * 2 ^ 16 ≤ t) && decide (t ≤ (s.pf.cfg.maxUs : Int) * 2 ^ 16)
    if near then (s.pfFound t (wrapT run t) (wrapT ((look s.pf.anchors w.tag).getD 0 + run) t)).pfApplied else s
  | _ => s

/-- The plan waits for a notice and this one's tag has an anchor (R208). -/
def State.planNotice (s : State) (w : Notice) : Bool :=
  match s.pf.plan with
  | some q => q.mode == 2 && q.written && (look s.pf.anchors w.tag).isSome
  | none => false

/-- T of a plan [2^-16 µs]. -/
def planPeriod (l : List PlanPhase) : Int := sumOf l (fun q => (q.durUs : Int)) * 2 ^ 16

/-- The period a notice's age is held against: the plan's while one is LOADING (R206, R208). -/
def Profile.noticePeriod (p : Profile) : Int := match p.plan with
  | some q => planPeriod q.phases
  | none => p.period

/-- Activation of a plan: its exponent and period come into force, LOCKED at a phase, PLANNED, PLAN_LOAD completes OK (R208, R214). -/
def State.activatePlan (s : State) (phi : Int) : State :=
  (s.setPf (fun p => match p.plan with
    | some q =>
      { ({ p with plan := none, n := q.binN, period := planPeriod q.phases }).toLocked phi with planned := true }
    | none => p)).completeWhere (· == Wait.planLoad) stOk 0

/-- A notice applied, at T_w or after it (R205, R206). -/
def State.applyNotice (s : State) (w : Notice) : State :=
  let p := s.pf
  let t := p.noticePeriod
  let old := p.state != PfState.search && decide (0 < t) && decide (t < phaseOf (s.clk.ptp - w.at_))
  if w.tag = 0 ∨ p.state = .idle ∨ old then s.pfReject
  else if p.state = .locked then
    match look p.anchors w.tag with
    | none => (s.newAnchor w).pfApplied
    | some a => s.anchorJump w a
  else if p.state = .loading then
    if s.planNotice w then
      (s.activatePlan (((look p.anchors w.tag).getD 0) + phaseOf (s.clk.ptp - w.at_))).pfApplied
    else s.pfReject
  else s.noticeSearch w

/-- A PHASE notice passed on by the governor: burst exit (R113), then the Profile Engine (R205, R206). -/
def State.takeNotice (s : State) (w : Notice) : State :=
  let s := if s.active && decide (0 < w.delta) then s.burstExit else s
  if !s.rc.profile then s
  else if w.at_ > s.clk.ptp then
    s.setPf (fun p => { p with waiting := insertBy (fun a b => decide (a.at_ < b.at_)) w p.waiting })
  else s.applyNotice w

def execWickNotice (tag : Nat) (tw delta : Int) (durUs : Nat) (s : State) : Host.Outcome State Fault Refusal :=
  .next (s.takeNotice { tag := tag, at_ := tw, delta := delta, durUs := durUs })

def execWickApply (s : State) : Host.Outcome State Fault Refusal :=
  match s.pf.waiting with
  | [] => .next s
  | w :: l =>
    let s := s.setPf (fun p => { p with waiting := l })
    .next (if s.rc.profile then s.applyNotice { w with at_ := min w.at_ s.clk.ptp } else s)

/-! ### Plans (R207, R208, R376) -/

/-- Phases of a plan buffer (Table 8-4). -/
def phasesOf (data : Bytes) (count : Nat) : List PlanPhase :=
  (List.range count).map (fun k =>
    { durUs := u data (16 * k) 4, power := i data (16 * k + 4) 4, spreadW := u data (16 * k + 8) 4, tag := u data (16 * k + 12) 1 })

/-- Phases with their start times [µs]. -/
def startsOf (l : List PlanPhase) : List (Nat × PlanPhase) :=
  (l.foldl (fun (a : Nat × List (Nat × PlanPhase)) q => (a.1 + q.durUs, a.2 ++ [(a.1, q)])) (0, [])).2

/-- The entry a plan gives bin b (R208). -/
def planEntry (l : List (Nat × PlanPhase)) (t n weight b : Nat) : PfEntry :=
  let lo := b * 2 ^ n
  let hi := min ((b + 1) * 2 ^ n) t
  let part := sumOf l (fun q => q.2.power * max 0 (((min hi (q.1 + q.2.durUs) : Nat) : Int) - ((max lo q.1 : Nat) : Int)))
  let at_ := (l.find? (fun q => decide (lo < q.1 + q.2.durUs))).map (·.2)
  { mean := satI 24 (divRne part (hi - lo)), count := weight,
    spread := (at_.map (fun q => min (q.spreadW / 4) 65535)).getD 0, tag := (at_.map (·.tag)).getD 0 }

/-- Table of a plan. -/
def planTable (q : Plan) : List (Nat × PfEntry) :=
  let t := planPeriod q.phases
  (List.range (binsOf t q.binN)).map
    (fun b => (b, planEntry (startsOf q.phases) (t / 2 ^ 16).toNat q.binN q.weight b))

/-- Anchors of a plan: the start phase of each tag's first phase. -/
def planAnchors (q : Plan) : List (Nat × Int) :=
  (startsOf q.phases).foldl (fun a x =>
    if x.2.tag = 0 ∨ (look a x.2.tag).isSome then a else putKey a x.2.tag ((x.1 : Int) * 2 ^ 16)) []

/-- Offset of the first field of a plan buffer refused (R207). -/
def phaseFault (data : Bytes) (count : Nat) : Option Nat :=
  (List.range count).findSome? (fun k =>
    let o := 16 * k
    if u data o 4 = 0 then some o
    else if i data (o + 4) 4 < -8388608 ∨ 8388607 < i data (o + 4) 4 then some (o + 4)
    else if !zeros data (o + 13) 3 then some (o + 13)
    else none)

def execPlanLoad (h : CmdHdr) (buf : Buf) (count binExp actMode weight timeoutMs : Nat) (actTime : Int) (s : State) :
    Host.Outcome State Fault Refusal :=
  let data := s.bufRead buf 0 (16 * count)
  let l := phasesOf data count
  let t := planPeriod l
  let n := s.part.chooseBin binExp t
  .next (s.start h
    { op := 0x0601,
      chk := need (count != 0) stBadLength 0x14 <|> need (buf.len = 16 * count) stBadLength 0x10
        <|> param (count ≤ 4096) 0x14 <|> param (binExp ≤ 20 ∨ binExp = 0xFF) 0x16 <|> param (actMode ≤ 2) 0x17
        <|> param (weight ≠ 0) 0x18
        <|> param (if actMode = 0 then timeoutMs = 0 else 1 ≤ timeoutMs ∧ timeoutMs ≤ 3600000) 0x1C
        <|> param (actMode = 1 ∨ actTime = 0) 0x20 <|> param (bufOk buf (16 * count)) 0x08
        <|> (match phaseFault data count with
          | some o => some (stBadParam, bufField 0x08 o)
          | none => none)
        <|> param (decide (8 * 2 ^ 16 ≤ t)) 0x08 <|> param n.isSome 0x16,
      chk6 := need (s.pf.state != PfState.loading) stBusy 0 }
    (fun s =>
      let q : Plan := { hdr := h.tag, phases := l, binN := n.getD 0, mode := actMode, weight := weight, actTime := actTime,
                        written := false }
      (s.setPf (fun p => { p.clear with
        state := .loading, plan := some q, period := 0, phase := 0, n := 0, winCover := none })).await h 0x0601 .planLoad))

def execPlanWritten (s : State) : Host.Outcome State Fault Refusal :=
  match s.pf.plan with
  | none => .next s
  | some q =>
    if q.written then .next s
    else
      let s := s.setPf (fun p => { p with
        plan := some { q with written := true }, table := planTable q, anchors := planAnchors q })
      .next (if q.mode = 0 ∨ (q.mode = 1 ∧ q.actTime ≤ s.clk.ptp) then s.activatePlan 0 else s)

def execPlanActivateAtTime (s : State) : Host.Outcome State Fault Refusal :=
  match s.pf.plan with
  | some q => .next (if q.mode = 1 ∧ q.written then s.activatePlan 0 else s)
  | none => .next s

def execPlanActTimeout (s : State) : Host.Outcome State Fault Refusal :=
  match s.pf.plan with
  | some q =>
    .next (if q.mode = 0 then s
      else (s.setPf Profile.toSearch).completeWhere (· == Wait.planLoad) stTimeout 0)
  | none => .next s

/-! ### Learning control (R211, R377) -/

/-- Checks of the parameters of START and SET. -/
def pfFault (c : PfSet) : Refuse :=
  let m := decM c.maxUs
  param (c.avgK ≤ 10) 0x09 <|> param (c.binExp ≤ 20 ∨ c.binExp = 0xFF) 0x0A
    <|> param (128 ≤ c.lockRho ∧ c.lockRho ≤ 255) 0x0B <|> param (1 ≤ c.snapPct ∧ c.snapPct ≤ 50) 0x0E
    <|> param (1 ≤ c.coastMaxS) 0x0F <|> param (8 * 2 ^ m ≤ c.minUs ∧ c.minUs < c.maxUs) 0x10 <|> param (8 ≤ c.maxUs) 0x14
    <|> param (4 ≤ c.spreadMax ∧ c.spreadMax ≤ 262140) 0x18 <|> param (1 ≤ c.minCount) 0x1C <|> param (1 ≤ c.lossMs) 0x1E

/-- RESULT of an OK completion. -/
def pfResult (c : PfSet) : Nat := c.minCount + c.lossMs * 2 ^ 16

/-- A PROFILE_CTRL command. -/
def State.profileCtrl (s : State) (h : CmdHdr) (chk : Refuse) (act : State → State) : State :=
  s.start h { op := 0x0602, chk := chk, chk6 := need (s.pf.state != PfState.loading) stBusy 0 }
    (fun s => let s := act s; s.done h stOk (pfResult s.pf.cfg))

/-- The search range changes. -/
def newRange (c d : PfSet) : Bool := decide (c.minUs ≠ d.minUs) || decide (c.maxUs ≠ d.maxUs)

/-- The settings alone: another decimation m starts the correlator anew, since its samples are means of 2^m (R200). -/
def Profile.putSet (p : Profile) (c : PfSet) : Profile :=
  let q := { p with cfg := c }
  if decM c.maxUs = decM p.cfg.maxUs then q else q.restart

/-- SET: a change of the exponent in force or of the range clears the table, and the state stays (R211). A period the new exponent
does not fit leaves LOCKED (R196); elsewhere its own exponent stays. -/
def State.newPfSet (s : State) (c : PfSet) : State :=
  let p := s.pf
  let s := s.setPf (fun p => p.putSet c)
  if p.period ≤ 0 then s
  else
    match s.part.chooseBin c.binExp p.period with
    | none => (s.setPf (fun q => if q.state = .locked then q.toSearch else q.clear)).pfNoFit p.period
    | some k => if newRange c p.cfg || k != p.n then s.setPf (fun q => { q.clear with n := k }) else s

/-- START: learning begins in SEARCH; the table goes where SET would clear it (R211). -/
def State.startLearning (s : State) (c : PfSet) : State :=
  let p := s.pf
  let keep := decide (0 < p.period) && !newRange c p.cfg && s.part.chooseBin c.binExp p.period == some p.n
  s.setPf (fun p =>
    let q := { p with cfg := c, learn := true, noFit := false }
    if keep then
      { q.restart with state := .search, phase := 0, winCover := none, limitRun := 0, lowWin := 0, binSum := 0, binCnt := 0 }
    else q.toSearch)

def execProfileStart (h : CmdHdr) (set : PfSet) (s : State) : Host.Outcome State Fault Refusal :=
  .next (s.profileCtrl h (pfFault set) (fun s => s.startLearning set))

def execProfileStop (h : CmdHdr) (s : State) : Host.Outcome State Fault Refusal :=
  .next (s.profileCtrl h none (fun s => s.setPf (fun p => { p with state := .idle, learn := false, winCover := none })))

def execProfileClear (h : CmdHdr) (s : State) : Host.Outcome State Fault Refusal :=
  .next (s.profileCtrl h none (fun s => s.setPf (fun p =>
    if p.learn then p.toSearch else { p.toSearch with state := .idle })))

def execProfileSet (h : CmdHdr) (set : PfSet) (s : State) : Host.Outcome State Fault Refusal :=
  .next (s.profileCtrl h (pfFault set) (fun s => s.newPfSet set))

/-! ### Forecast port and registers (R210, R212, R213) -/

/-- The entry the forecast port reads for a lead, emptied where its parity is wrong (R197). -/
def State.forecastParity (s : State) (parity : Bool) (leadUs : Nat) : State :=
  if parity && decide (0 < s.pf.period) then
    s.pfParity (wrapT (s.pf.phase + leadUs * 2 ^ 16) s.pf.period / binWidth s.pf.n).toNat
  else s

def execForecastWrite (parity : Bool) (s : State) : Host.Outcome State Fault Refusal :=
  let write := fun (s : State) (v : Int) (ok : Bool) =>
    { s with le := { s.le with xinVal := s.le.xinVal.set 0 v, xinValid := setBit s.le.xinValid 0 ok } }
  if !s.rc.profile then .next { s with le := { s.le with xinValid := setBit s.le.xinValid 0 false } }
  else
    let s := s.forecastParity parity s.sh.leadUs
    let f := s.pf.forecast s.sh.leadUs
    .next ((write s f.1 f.2).setPf (fun p => { p with fcXin := f.1 }))

/-- An entry as its 64-bit word (Table 8-1). -/
def PfEntry.word (e : PfEntry) : Nat := fieldAt e.count 16 48 + fieldAt e.tag 8 40 + fieldAt e.spread 16 24 + ofSigned 24 e.mean

def execProfileTableRead (off : Nat) (wide : Bool) (s : State) : Host.Outcome State Fault Refusal :=
  let b := off / 8
  let w := if b < s.part.profileEntries then (pfEntry s.pf.table b).word else 0
  let a := 0x01000000 + off
  if wide then .next (s.emit (.regRead a w))
  else if off % 8 = 0 then .next ((s.setPf (fun p => { p with tabShadow := w / 2 ^ 32 })).emit (.regRead a (w % 2 ^ 32)))
  else .next (s.emit (.regRead a s.pf.tabShadow))

/-- A word of the Profile Engine registers, by offset from 0x00D0_0000. -/
def State.pfRead (s : State) (off : Nat) : Nat :=
  let p := s.pf
  if off = 0x000 then s.part.profileEntries
  else if off = 0x004 then fieldAt p.cfg.avgK 4 16 + fieldAt p.cfg.binExp 8 8 + flagAt p.learn 0
  else if off = 0x008 then
    flagAt p.parityFlag 8 + flagAt p.noFit 7 + flagAt p.lostFlag 6 + flagAt p.planned 5 + flagAt p.conf 4 + p.state.code
  else if off = 0x00C then p.cfg.minUs
  else if off = 0x010 then p.cfg.maxUs
  else if off = 0x014 then
    fieldAt p.cfg.lockRho 8 24 + fieldAt p.cfg.confMin 8 16 + fieldAt (ofSigned 8 p.cfg.lossQ) 8 8 + fieldAt p.cfg.snapPct 8 0
  else if off = 0x018 then fieldAt p.cfg.coastMaxS 8 24 + fieldAt p.cfg.spreadMax 24 0
  else if off = 0x020 then ofSigned 64 p.period % 2 ^ 32
  else if off = 0x028 then ofSigned 64 p.phase % 2 ^ 32
  else if off = 0x030 then fieldAt p.n 5 25 + fieldAt p.m 5 20 + fieldAt (binsOf p.period p.n) 20 0
  else if off = 0x034 then fieldAt (ofSigned 16 p.qShown) 16 16 + p.periods
  else if off = 0x038 then ofSigned 32 p.avg
  else if off = 0x03C then ofSigned 32 p.fcXin
  else if off = 0x040 then fieldAt p.rejected 16 16 + p.applied
  else if off = 0x044 then fieldAt p.m 5 27 + fieldAt p.losses 8 8 + fieldAt p.locks 8 0
  else 0

end Sys2Proof.Machine
end

