-- ==== Sys2Proof/Machine/Planisher.lean ====
section
/-!
DEFINITION. Storage and the Planisher: limits, estimator, fast and slow step, absence, ride-through, row fill
(chapter 7; R375).
-/

namespace Sys2Proof.Machine

open Sys2Proof

def State.setPl (s : State) (f : Planisher → Planisher) : State := { s with pl := f s.pl }

/-! ### The limits section (R170, R171, Tables 7-2 and 7-3) -/

/-- A field of Table 7-2: offset, size, range and default for a shelf rating. -/
structure LimField where
  off : Nat
  size : Nat
  lo : Nat
  hi : Nat
  dflt : Nat → Nat

def limFields : List LimField :=
  [⟨0x00, 4, 1, 160000, fun _ => 20000⟩, ⟨0x04, 1, 0, 98, fun _ => 30⟩, ⟨0x05, 1, 2, 100, fun _ => 90⟩,
   ⟨0x06, 1, 1, 99, fun _ => 60⟩, ⟨0x07, 1, 0, 50, fun _ => 10⟩, ⟨0x08, 4, 1, 1000000, fun r => r * 2 / 100⟩,
   ⟨0x0C, 2, 1, 3600, fun _ => 60⟩, ⟨0x0E, 2, 1, 65535, fun _ => 20⟩, ⟨0x10, 4, 1, 160000, fun _ => 20000⟩,
   ⟨0x14, 4, 1000, 1000000, fun _ => 10000⟩, ⟨0x18, 2, 0, 1000, fun _ => 20⟩, ⟨0x1A, 2, 1, 65535, fun _ => 1000⟩,
   ⟨0x1C, 4, 1, 1000000, fun _ => 10000⟩, ⟨0x20, 4, 1, 1000000, fun r => r * 10 / 100⟩, ⟨0x24, 2, 1, 1000, fun _ => 10⟩,
   ⟨0x26, 2, 1, 60000, fun _ => 1000⟩, ⟨0x28, 4, 1000, 200000, fun _ => 24000⟩, ⟨0x2C, 4, 0, 50000, fun _ => 4000⟩,
   ⟨0x30, 4, 1, 10000, fun _ => 40⟩, ⟨0x34, 1, 0, 2, fun _ => 0⟩]

/-- Values in force before any section is accepted (R170). -/
def limDefaults (rating : Nat) : List Nat := limFields.map (fun f => f.dflt rating)

/-- Value of a field as given: 0 takes the default where the range excludes it. -/
def limValue (rating : Nat) (b : Bytes) (f : LimField) : Nat :=
  let v := u b f.off f.size
  if v = 0 ∧ 0 < f.lo then f.dflt rating else v

/-- The shelf part a byte string gives, or the offset of the first field refused (R171). -/
def limParse (rating : Nat) (b : Bytes) : Nat ⊕ List Nat :=
  let l := limFields.map (limValue rating b)
  let out := limFields.find? (fun f => let v := limValue rating b f; u b f.off f.size != 0 && (decide (v < f.lo) || decide (f.hi < v)))
  match out with
  | some f => .inl f.off
  | none =>
    if !zeros b 0x35 11 then .inl 0x35
    else if nth l 3 0 ≤ nth l 1 0 then .inl 0x04
    else if nth l 2 0 ≤ nth l 3 0 then .inl 0x06
    else .inr l

/-- The 64 bytes of the shelf part in force (PL_LIM). -/
def limBytes (l : List Nat) : Bytes :=
  (limFields.zip l).foldl (fun b x => b.take x.1.off ++ leBytes x.1.size x.2 ++ b.drop (x.1.off + x.1.size)) (List.replicate 64 0)

/-- A storage-string record, before any window (Table 7-3). -/
def strParse (b : Bytes) : StrRec :=
  { vBot := i b 0 4, vTop := i b 4 4, eUse := u b 8 4, esr := i b 0x0C 4, iSrc := u b 0x10 4,
    tauS := if u b 0x14 2 = 0 then 30 else u b 0x14 2, guard := u b 0x16 1,
    e := 0, voc := 0, seed := true, regd := false, floor := false, ceil := false, wasOff := true }

/-- Offset of the first field of a string record refused (R170); `free` names a free slot (R93). -/
def Part.strFault (part : Part) (free : Nat → Bool) (b : Bytes) : Option Nat :=
  if i b 4 4 ≤ i b 0 4 then some 0
  else if u b 8 4 = 0 then some 8
  else if !part.srcOk 4 (u b 0x10 4) then some 0x10
  else if 3600 < u b 0x14 2 then some 0x14
  else if u b 0x16 1 ≠ 0xFF ∧ !free (u b 0x16 1) then some 0x16
  else if !zeros b 0x17 9 then some 0x17
  else none

/-! ### Commands (R169, R171, R375) -/

def execStoreMode (h : CmdHdr) (mode : Nat) (s : State) : Host.Outcome State Fault Refusal :=
  .next (s.start h { op := 0x0501, activeOnly := true, chk := param (mode ≤ 2) 0x08 }
    (fun s => (s.setPl (fun p => { p with modeNext := some mode })).await h 0x0501 .storeMode))

def execPlanLimits (h : CmdHdr) (buf : Buf) (s : State) : Host.Outcome State Fault Refusal :=
  match limParse s.sh.ratingW (s.bufRead buf 0 64) with
  | .inl off =>
    .next (s.start h
      { op := 0x0502, activeOnly := true,
        chk := param (buf.len = 64) 0x10 <|> param (bufOk buf 64) 0x08 <|> some (stBadParam, bufField 0x08 off) } id)
  | .inr l =>
    .next (s.start h
      { op := 0x0502, activeOnly := true, chk := param (buf.len = 64) 0x10 <|> param (bufOk buf 64) 0x08 }
      (fun s => (s.setPl (fun p => { p with limNext := some l })).await h 0x0502 .planLimits))

/-! ### State of charge (R172 to R174) -/

/-- estimate of R172 for one string with its 1 ms averages. -/
def StrRec.estimate (r : StrRec) (v c : Int) : StrRec :=
  let voc := v + divRne (c * r.esr) 1000000
  let ev := divFloor ((r.eUse : Int) * 1000 * (voc ^ 2 - r.vBot ^ 2)) (r.vTop ^ 2 - r.vBot ^ 2).toNat
  let e := r.e - divRne (v * c) 1000000
  { r with voc := voc, seed := false, e := if r.seed then ev else e + divFloor (ev - e) (r.tauS * 1000) }

/-- A storage group the Planisher divides p among (R173). -/
def State.dispatchable (s : State) (g : Nat) : Bool :=
  let G := s.group g
  G.gtype == 3 && (G.state == .regulating || G.state == .burstRun) && (look s.pl.strs g).isSome

def State.strings (s : State) : List (Nat × StrRec) := s.pl.strs.filter (fun x => s.dispatchable x.1)

/-- Usable energy and energy of the shelf [mJ]; both 0 with no storage (R173, R174). -/
def State.eUse (s : State) : Int := sumOf s.strings (fun x => (x.2.eUse : Int) * 1000)
def State.eNow (s : State) : Int := sumOf s.strings (fun x => x.2.e)

/-- NO_STORAGE (R174). -/
def State.noStorage (s : State) : Bool := s.strings.isEmpty

def execEstimatorUpdate (s : State) : Host.Outcome State Fault Refusal :=
  if !s.rc.on 4 then .next s
  else .next (s.setPl (fun p => { p with strs := p.strs.map (fun x =>
    let G := s.group x.1
    let first := !x.2.regd && (G.state == .regulating || G.state == .burstRun)
    let r := if first then { x.2 with regd := true, seed := true } else x.2
    match s.avgSel G.pbOut, s.avgSel r.iSrc with
    | some v, some c => (x.1, r.estimate v c)
    | _, _ => (x.1, r)) }))

/-- A figure in 0.01 %, rounded down and held to 0 to 10,000. -/
def socOf (e use : Int) : Nat := (clampI 0 10000 (divFloor (e * 10000) use.toNat)).toNat

/-- Shelf SoC as PL_SOC and LANTERN show it. -/
def State.soc (s : State) : Nat := if s.noStorage then 0xFFFF else socOf s.eNow s.eUse

/-! ### Grid target (R177 to R180) -/

/-- AVAIL_W of the grid group, 0 without one. -/
def State.availGrid (s : State) : Int := match s.gridGroup with
  | some g => s.availW g
  | none => 0

/-- G seeded from the measured grid draw (R180). -/
def State.seedGrid (s : State) : State :=
  s.setPl (fun p => { p with g := min s.pg (min p.budget s.availGrid) * 1000000, trim := 0, seeded := true })

/-- soc_correction of R178; energies are compared exactly, times 100. -/
def State.socCorrection (s : State) : Int :=
  let p := s.pl
  let use := s.eUse
  let d := 100 * s.eNow - p.targetPct * use
  let x := divRne d (100 * p.tSoc * 1000)
  if absI d ≤ p.deadPct * use then 0
  else if p.floorPct * use ≤ 100 * s.eNow ∧ 100 * s.eNow ≤ p.ceilPct * use then clampI (-(p.corrMax : Int)) p.corrMax x
  else x

/-- Sum of the fills as a fraction [W]. -/
def fillSum (l : List Fill) : Int × Nat :=
  l.foldl (fun a f => (a.1 * (100000 * f.den) + f.num * a.2, a.2 * (100000 * f.den))) (0, 1)

/-- PL_FILL: the fill in force, rounded down. -/
def Planisher.fillW (p : Planisher) : Int := let f := fillSum p.fills; divFloor f.1 f.2

/-- Fills one fast step later; AT_CEIL ends them (R192, R193). -/
def Planisher.decayFills (p : Planisher) : List Fill :=
  if p.atCeil then []
  else (p.fills.map (fun f => { f with num := f.num - f.dec })).filter (fun f => decide (0 < f.num))

/-- G moved toward the request, and G_pub (R179). -/
def State.gStep (s : State) : State :=
  let cap := min s.pl.budget s.availGrid
  s.setPl (fun p =>
    let goal := p.gReq * 1000000
    let step : Int := p.ramp * 10
    let g := if p.mode ≠ 0 then p.g else if p.g < goal then min (p.g + step) goal else max (p.g - step) goal
    let g := min g (cap * 1000000)
    let fills := p.decayFills
    let f := fillSum fills
    let pub := min cap (divFloor (g * f.2 + f.1 * 1000000) (1000000 * f.2))
    if p.ride then { p with fills := fills, g := 0, gPub := 0 } else { p with fills := fills, g := g, gPub := pub })

/-! ### Storage set-point (R181 to R183) -/

/-- Floor and ceiling flags with their 1 % hysteresis (R182). -/
def bandFlags (p : Planisher) (e use : Int) (fl ce : Bool) : Bool × Bool :=
  (decide (100 * e ≤ p.floorPct * use) || (fl && decide (100 * e ≤ (p.floorPct + 1) * use)),
   decide (p.ceilPct * use ≤ 100 * e) || (ce && decide (((p.ceilPct : Int) - 1) * use < 100 * e)))

/-- Every band flag brought up to date; with no storage both shelf flags are set (R174). -/
def State.bandStep (s : State) : State :=
  let f := bandFlags s.pl s.eNow s.eUse s.pl.atFloor s.pl.atCeil
  let f := if s.noStorage then (true, true) else f
  s.setPl (fun p => { p with
    atFloor := f.1, atCeil := f.2, noStore := s.noStorage
    strs := p.strs.map (fun x =>
      let b := bandFlags p x.2.e ((x.2.eUse : Int) * 1000) x.2.floor x.2.ceil
      (x.1, { x.2 with floor := b.1, ceil := b.2 })) })

/-- p_g of one group and whether it was clamped (R183); in OFF every set-point is 0 W (Table 7-1). -/
def State.shareOf (s : State) (x : Nat × StrRec) : Int × Bool :=
  let l := s.strings
  let avail : Int := s.availW x.1
  let total := sumOf l (fun y => ((s.availW y.1 : Nat) : Int))
  let n := l.length
  let v := divRne (s.pl.p * avail) total.toNat + divRne (n * x.2.e - s.eNow) (n * s.pl.tSoc * 1000)
  let w := if !s.pl.ride && ((x.2.floor && decide (0 < v)) || (x.2.ceil && decide (v < 0))) then 0 else v
  let r := clampI (-avail) avail w
  if s.pl.mode = 2 then (0, false) else (r, r != v)

/-- Storage set-points written to LE_XIN_VAL (R183); every storage group has one. -/
def State.writeSets (s : State) : State :=
  (List.range 16).foldl (fun s g =>
    if (s.group g).gtype = 3 then
      let v := match s.strings.find? (fun x => x.1 == g) with
        | some x => (s.shareOf x).1
        | none => 0
      { s with le := { s.le with xinVal := s.le.xinVal.set (g + 1) v, xinValid := setBit s.le.xinValid (g + 1) true } }
    else s) s

/-- Load term of a fast step (R175). -/
def State.loadTerm (s : State) : Int × Bool :=
  let f := s.pf.forecast s.pl.leadUs
  if f.2 && s.rc.profile && !s.pl.fcHold then (f.1, true) else (s.lm, false)

/-- Forecast errors counted when their time has come (R176). -/
def State.forecastCheck (s : State) (l : Int) (used : Bool) : State :=
  s.setPl (fun p =>
    let w := if used then p.fcWait ++ [(p.leadUs / 10, l)] else p.fcWait
    let due := w.filter (fun x => x.1 == 0)
    { p with
      fcSum := p.fcSum + sumOf due (fun x => x.2 - s.lm), fcCnt := p.fcCnt + due.length
      fcWait := (w.filter (fun x => x.1 != 0)).map (fun x => (x.1 - 1, x.2)) })

/-- The guard slot of a string closed with PRELOAD_VALUE 0 (R186), once it is loaded and scheduled (R69). -/
def State.closeGuard (s : State) (x : StrRec) : State :=
  if x.guard != 0xFF && s.ready x.guard then s.handSlot x.guard (.closeIt (.value 0)) else s

/-- Guard slots closed at each start of their group (R186). -/
def State.guardStep (s : State) : State :=
  let s := s.pl.strs.foldl (fun s x => if x.2.wasOff && (s.group x.1).state != .off then s.closeGuard x.2 else s) s
  s.setPl (fun p => { p with strs := p.strs.map (fun x => (x.1, { x.2 with wasOff := (s.group x.1).state == .off })) })

/-- Ride-through may be entered (R187). -/
def State.canRide (s : State) : Bool :=
  s.pl.mode != 2 && !s.pl.ride && (match s.gridGroup with
    | some g => (s.group g).state == .regulating
    | none => false)

def State.enterRide (s : State) : State :=
  (s.setPl (fun p => { p with ride := true, g := 0, gPub := 0, shed := 0, fillReq := 0, dropRun := 0 })).record 0x0502 1 kNone 0
    (leBytes 1 1)

/-- DC-link voltage and its set-point [mV]. -/
def State.dcLink (s : State) : SrcVal × Int := match s.gridGroup with
  | some g => (s.readSel (s.group g).pbOut, (s.group g).vnom)
  | none => ({}, 0)

/-- Entry by the DC-link voltage in two consecutive fast steps (R187). -/
def State.rideStep (s : State) : State :=
  if !s.canRide then s.setPl (fun p => { p with dropRun := 0 })
  else
    let v := s.dcLink
    let low := !v.1.stale && decide (v.1.v < v.2 - s.pl.rideDrop)
    let s := s.setPl (fun p => { p with dropRun := if low then p.dropRun + 1 else 0 })
    if 2 ≤ s.pl.dropRun then s.enterRide else s

/-- The shelf set-point before the band, by mode (Table 7-1, R181, R187). -/
def State.setPoint (s : State) : Int :=
  let p := s.pl
  if p.ride then s.lm + p.rideKp * (s.dcLink.2 + p.rideOffset - s.dcLink.1.v)
  else if p.mode = 0 then p.l - p.gPub + p.trim
  else if p.mode = 1 then if 100 * s.eNow < ((p.ceilPct : Int) - 1) * s.eUse then -(p.corrMax : Int) else 0
  else 0

/-- pg10 of R181. -/
def State.pg10 (s : State) : Int := divRne s.sh.gridHist.sum 20

/-- The end of ride-through: G is seeded, and an event recorded (R180, R187, R188). -/
def State.endRide (s : State) : State :=
  ((s.setPl (fun p => { p with ride := false, dropRun := 0 })).seedGrid).record 0x0502 1 kNone 0 (leBytes 1 0)

/-- A mode set by STORE_MODE in force; OFF ends ride-through (R169, Table 7-1). -/
def State.takeMode (s : State) : State := match s.pl.modeNext with
  | some m =>
    let s := (s.setPl (fun p => { p with mode := m, modeNext := none })).completeWhere (· == Wait.storeMode) stOk 0
    if m = 2 ∧ s.pl.ride then s.endRide else s
  | none => s

/-- The fast step (R181). -/
def State.fastStep (s : State) : State :=
  let s := s.takeMode
  let s := if s.pl.absent || s.pl.resume then (s.seedGrid).setPl (fun p => { p with absent := false, resume := false }) else s
  let s := s.guardStep.bandStep
  let l := s.loadTerm
  let s := (s.setPl (fun p => { p with l := l.1, fcUsed := l.2 })).forecastCheck l.1 l.2
  let s := s.rideStep.gStep
  let want := s.setPoint
  let band := !s.pl.ride && ((s.pl.atFloor && decide (0 < want)) || (s.pl.atCeil && decide (want < 0)))
  let s := s.setPl (fun p => { p with p := if band then 0 else want })
  let held := s.strings.any (fun x => (s.shareOf x).2)
  let s := s.writeSets
  s.setPl (fun p =>
    let step := divRne ((s.pg10 - p.gPub) * 10) (p.trimTau * 1000)
    { p with
      trim := if p.mode = 0 ∧ ¬ p.ride ∧ ¬ band ∧ ¬ held then clampI (-(p.trimMax : Int)) p.trimMax (p.trim + step) else p.trim
      winClamp := p.winClamp && (band || held || s.noStorage) })

/-- FAST_STEP; a standby's Planisher runs it too, from the latest copy (Table 11-4). The forecast port's read of the Planisher's
entry may show a parity error (R197, R210). -/
def execFastStep (s : State) (parity : Bool := false) : Host.Outcome State Fault Refusal :=
  if s.rc.gov && (s.active || s.role == .standby) then
    .next (s.forecastParity (parity && s.rc.profile) s.pl.leadUs).fastStep
  else .next s

/-! ### Slow step (R176, R177, R184, R187, R190) -/

/-- Mean of the shelf output over the last second (R177). -/
def Planisher.lastSecond (p : Planisher) : Int := meanI p.laHist

/-- The error energy of the last 100 windows, and the hold-off (R176). -/
def State.forecastWindow (s : State) : State :=
  let s := s.setPl (fun p => { p with
    fcErr := ((if p.fcCnt = 0 then 0 else divRne p.fcSum p.fcCnt) :: p.fcErr).take 100, fcSum := 0, fcCnt := 0 })
  let e := s.pl.fcErr.sum
  if !s.pl.fcHold && decide ((s.pl.fcErrJ : Int) * 1000 < absI e) then
    (s.setPl (fun p => { p with fcHold := true, fcDropped := true })).record 0x0501 1 kNone 0 (leBytesI 8 (divRne e 1000))
  else s

/-- SHED_W and FILL_REQ_W (R184). -/
def State.requests (s : State) : State :=
  let p := s.pl
  let d := s.sh.outTele.avg1 * 1000000 - p.g
  let k : Int := 8 * p.ramp * 1000000000000
  let low := 100 * s.eNow - p.floorPct * s.eUse
  let room := p.ceilPct * s.eUse - 100 * s.eNow
  let shed := !p.ride && decide (0 < d) && decide (k * low ≤ d ^ 2 * 500000)
  let fill := !p.ride && decide (d < 0) && decide (k * room ≤ d ^ 2 * 500000)
  s.setPl (fun p => { p with
    shed := if shed then divFloor d 1000000 else 0, fillReq := if fill then divFloor (-d) 1000000 else 0 })

/-- The fill offer (R190). -/
def State.fillOffer (s : State) : Int :=
  let p := s.pl
  let la := s.sh.outTele.avg1
  let stop := p.mode != 0 || p.ride || p.atCeil || p.absent || s.gn.isolated ||
    decide (p.g < (p.gReq - 1000) * 1000000) || decide (p.g < (la - 1000) * 1000000)
  let avail := sumOf ((List.range 16).filter (fun g => (s.group g).gtype == 3)) (fun g => ((s.availW g : Nat) : Int))
  let room := max 0 (p.ceilPct * s.eUse - 100 * s.eNow)
  let root : Int := Nat.sqrt (2 * p.fillRamp * room.toNat / 100000)
  if stop then 0
  else max 0 (min (min (p.budget - p.gPub) (s.availGrid - p.gPub)) (min (avail + p.p) root))

/-- The slow step (R168, R177). -/
def State.slowStep (s : State) : State :=
  let s := match s.pl.limNext with
    | some l => (s.setPl (fun p => { p with lim := l, limNext := none })).completeWhere (· == Wait.planLimits) stOk 0
    | none => s
  let s := s.setPl (fun p => { p with laHist := (s.sh.outTele.avg1 :: p.laHist).take 1000 })
  let outside := match s.gridGroup with
    | some g => match s.avgSel (s.group g).pbIn with
      | some v => decide (v < (s.group g).vinMin) || decide ((s.group g).vinMax < v)
      | none => false
    | none => false
  let s := if s.canRide && outside then s.enterRide else s
  let s := if !s.pl.ride && (s.pl.mode != 0 || s.pl.winClamp) then s.seedGrid else s
  let s := (s.setPl (fun p => { p with winClamp := true })).forecastWindow
  let a := if s.pf.conf && s.rc.profile then s.pf.avg else s.pl.lastSecond
  let req := max 0 (min (a - s.socCorrection) (min s.pl.budget s.availGrid))
  let s := (s.setPl (fun p => { p with gReq := req })).requests
  s.setPl (fun p => { p with offer := s.fillOffer, socReg := s.soc })

def execFcHoldEnd (s : State) : Host.Outcome State Fault Refusal :=
  .next (s.setPl (fun p => { p with fcHold := false }))

def execRideExit (s : State) : Host.Outcome State Fault Refusal :=
  let back := match s.gridGroup with
    | some g => (s.group g).state == .regulating && (match s.avgSel (s.group g).pbIn with
      | some v => decide ((s.group g).vinMin ≤ v) && decide (v ≤ (s.group g).vinMax)
      | none => false)
    | none => false
  .next (if s.pl.ride && back then s.endRide else s)

/-! ### Absence (R185) -/

def execAbsenceDetect (s : State) : Host.Outcome State Fault Refusal :=
  if s.rc.on 4 then .next (s.setPl (fun p => { p with absent := true })) else .next s

/-- A value moved toward 0, not across it. -/
def toward0 (v rate : Int) : Int := if 0 < v then max 0 (v - rate) else min 0 (v + rate)

def execAbsenceDecay (s : State) : Host.Outcome State Fault Refusal :=
  if !s.pl.absent || !s.rc.on 4 then .next s
  else .next { s with le := { s.le with
    xinVal := s.le.xinVal.mapIdx (fun k v => if 1 ≤ k ∧ k ≤ 16 ∧ (s.group (k - 1)).gtype = 3 then toward0 v s.pl.absRate else v) } }

/-! ### Row fill (R191, R192) -/

/-- A peer step D (R192). -/
def State.peerStep (s : State) (d : Int) : State :=
  let p := s.pl
  let sum := p.offer + sumOf (p.peers.filter (fun x => decide (0 < x.2.offer))) (fun x => x.2.offer)
  if p.offer ≤ 0 ∨ d ≤ 0 ∨ s.gn.isolated then s
  else
    let f : Fill := { num := divFloor (d * p.offer) sum.toNat * 100000 * sum, dec := p.fillRamp * p.offer, den := sum.toNat }
    s.setPl (fun p => { p with fills := p.fills ++ [f] })

/-- A peer's LANTERN frame as the Planisher takes it (R191). -/
def State.peerFrame (s : State) (key : Nat) (gridW offer : Int) : State :=
  let old := look s.pl.peers key
  let s := s.setPl (fun p => { p with peers := putKey p.peers key { gridW := gridW, offer := offer } })
  match old with
  | some o => if (s.pl.fillTrig : Int) < o.gridW - gridW then s.peerStep (o.gridW - gridW) else s
  | none => s

/-- A peer silent for 3 ms (R191). -/
def State.peerGone (s : State) (key : Nat) : State := match look s.pl.peers key with
  | none => s
  | some o => (s.setPl (fun p => { p with peers := dropKey p.peers key })).peerStep o.gridW

/-! ### Registers (Tables 7-6 to 7-12) -/

/-- Sign-extended word of a register of Table 7-8. -/
def State.plWord (s : State) (n : Nat) : Int :=
  let p := s.pl
  nth [p.gPub, s.pg, p.l, p.p, p.trim, p.budget, p.fillW, p.offer, p.shed, p.fillReq] n 0

/-- A word of the Planisher registers, by offset from 0x00C0_0000. -/
def State.plRead (s : State) (off : Nat) : Nat :=
  let p := s.pl
  if off = 0x000 then
    flagAt (p.fillReq != 0) 13 + flagAt (p.shed != 0) 12 + flagAt p.noStore 11 + flagAt (!p.fills.isEmpty) 10 +
      flagAt p.seeded 9 + flagAt p.atCeil 8 + flagAt p.atFloor 7 + flagAt p.fcDropped 6 + flagAt p.fcUsed 5 +
      flagAt p.absent 4 + flagAt p.ride 3 + p.mode
  else if 0x004 ≤ off ∧ off ≤ 0x028 then ofSigned 32 (s.plWord ((off - 4) / 4))
  else if off = 0x02C then p.socReg
  else if 0x100 ≤ off ∧ off < 0x140 then u (limBytes p.lim) (off - 0x100) 4
  else if 0x200 ≤ off ∧ off < 0x400 then
    let g := (off - 0x200) / 0x20
    match look p.strs g with
    | none => 0
    | some r =>
      let o := (off - 0x200) % 0x20
      if o = 0x00 then ofSigned 64 r.e % 2 ^ 32
      else if o = 0x08 then socOf r.e ((r.eUse : Int) * 1000)
      else if o = 0x0C then ofSigned 32 (nth s.le.xinVal (g + 1) 0)
      else if o = 0x10 then ofSigned 32 r.voc
      else 0
  else 0

end Sys2Proof.Machine
end

