-- ==== Sys2Proof/Machine/Governor.lean ====
section
/-!
DEFINITION. The rack governor: election, budgets and modes, endpoints, pool and caps, grants, escalation, accounting
(chapter 9; R37 to R40; R263, R264, R269).
-/

namespace Sys2Proof.Machine

open Sys2Proof

/-! ### The defaults section (R215, R246) -/

/-- The 64 bytes in force that a section gives, its fields given as 0 resolved, or the offset of the first one refused. -/
def govParse (b : Bytes) : Nat ⊕ Bytes :=
  let val (f : Nat × Nat × Nat × Nat × Nat) : Nat := if u b f.1 f.2.1 = 0 then f.2.2.2.2 else u b f.1 f.2.1
  match govFields.find? (fun f => decide (val f < f.2.2.1) || decide (f.2.2.2.1 < val f)) with
  | some f => .inl f.1
  | none =>
    if !zeros b 0x34 12 then .inl 0x34
    else if (if u b 5 1 = 0 then 1 else u b 5 1) ≤ u b 4 1 then .inl 4
    else .inr (govBytes (govFields.map val))

/-! ### This shelf and the rack (R216, R222, Table 10-10) -/

/-- R216, and not isolated (R269). -/
def State.eligible (s : State) : Bool :=
  s.active && s.sh.storeOk && s.gv.ok && s.rc.gov && s.gn.rackKey.cur.isSome && !s.gn.isolated &&
    s.groups.any (fun G => G.gtype == 2 &&
      (G.state == .regulating || G.state == .burstRun || G.state == .burstSleep))

/-- cap_s (R222). -/
def State.capS (s : State) : Int :=
  if s.eligible then min (s.sh.ratingW : Int) (sumOf s.busGroups (fun g => ((s.availW g : Nat) : Int))) else 0

/-- Some group of the shelf is derated below 100 % (R150). -/
def State.derated (s : State) : Bool := (List.range 16).any (fun g => (s.group g).gtype != 0 && decide (s.factor g < 100))

/-- Bus output current, 1 ms average [mA]. -/
def State.busMa (s : State) : Int := sumOf s.busGroups (fun g => (s.group g).ti.avg1)

/-- This shelf as its own LANTERN frame shows it. -/
def State.ownView (s : State) : ShelfView :=
  { shelf := s.gv.shelf, elig := s.eligible, lead := s.isLead, floor := s.pl.atFloor, derated := s.derated
    epoch := if s.gv.role = 0 then 0 else s.gv.leadEpoch, cap := s.capS, grid := s.pg, gPub := s.pl.gPub
    out := s.sh.outTele.avg1, shed := s.pl.shed, fillReq := s.pl.fillReq, busMa := s.busMa }

/-- The LANTERN body (Table 10-10). -/
def State.lanternBody (s : State) : Bytes :=
  let v := s.ownView
  let st := flagAt v.elig 0 + flagAt v.lead 1 + flagAt v.floor 2 + flagAt s.pl.atCeil 3 + flagAt s.pl.ride 4 +
    flagAt v.derated 5 + flagAt s.ev.replace 6 + flagAt s.gv.hostAbsent 7 + flagAt (!s.pl.fills.isEmpty) 8 +
    flagAt s.gv.snuffOut 9 + fieldAt s.levelNow 3 16
  leBytes 4 st ++ leBytes 4 v.epoch ++ leBytesI 4 v.out ++ leBytesI 4 v.grid ++ leBytesI 4 v.gPub ++ leBytesI 4 v.cap ++
    leBytesI 4 (v.cap - v.out) ++ leBytesI 4 s.pl.offer ++ leBytesI 4 v.shed ++ leBytesI 4 v.fillReq ++
    leBytesI 4 v.busMa ++ leBytes 2 s.soc ++ leBytes 1 v.shelf ++ leBytes 1 0

/-- A received LANTERN body. -/
def viewOf (b : Bytes) : ShelfView :=
  let st := u b 0 4
  { shelf := u b 0x2E 1, elig := bitAt st 0, lead := bitAt st 1, floor := bitAt st 2, derated := bitAt st 5
    epoch := u b 4 4, out := i b 8 4, grid := i b 0x0C 4, gPub := i b 0x10 4, cap := i b 0x14 4
    shed := i b 0x20 4, fillReq := i b 0x24 4, busMa := i b 0x28 4 }

/-- The rack's shelves as they stand. -/
def State.rackViews (s : State) : List ShelfView := s.ownView :: s.gv.peers.map (·.2)

/-- The rack's shelves as the epochs' inputs show them (R37). -/
def State.epochViews (s : State) : List ShelfView := s.ownView :: s.gv.epochPeers.map (·.2)

/-- Grants are computed at epochs alone (R233, R235). -/
def Governor.atEpochs (g : Governor) : Bool := g.timing == 1 && !g.detSusp

/-! ### SNUFF_N (R240, R241) -/

/-- SNUFF_N driven or released, with its record. -/
def State.driveSnuff (s : State) (on : Bool) : State :=
  if s.gv.snuffOut = on then s
  else (((s.setGv (fun g => { g with snuffOut := on, relRun := 0 })).emit (.pin "SNUFF_N" (!on))).record 0x0702 2 kNone 0
    (leBytes 1 (if on then 1 else 0)))

/-- ALERT to the rack: 0 asserted, 1 released. -/
def State.sendAlert (s : State) (kind : Nat) : State :=
  s.rackSend 0x08 (leBytes 4 kind ++ leBytes 4 s.gv.leadEpoch ++ leBytes 8 0)

/-! ### SHARE (R218, R264, Tables 10-13 and 10-14) -/

/-- g_i as CAL_GAIN, in units of 2^-16 (R237). -/
def Endpoint.gain (e : Endpoint) : Int := divRne ((2 ^ Config.calFracBits + e.gainDev) * 2 ^ 16) (2 ^ Config.calFracBits)

/-- o_i in W. -/
def Endpoint.ofsW (e : Endpoint) : Int := divRne e.ofs (2 ^ Config.calFracBits)

/-- An endpoint record (Table 10-14). -/
def Endpoint.record (e : Endpoint) (now holdS : Nat) : Bytes :=
  let left := if e.noncomp then ceilDiv (e.ncAt + holdS * 1000000000 - now) 1000000000 else 0
  leBytes 1 e.id ++ leBytes 1 (1 + flagAt e.stale 1 + flagAt e.noncomp 2 + flagAt e.floorMiss 3) ++ leBytes 1 e.pace ++
    leBytes 1 e.reason ++ leBytesI 4 e.minW ++ leBytesI 4 e.maxW ++ leBytesI 4 e.fallback ++ leBytes 4 e.complyUs ++
    leBytes 4 e.reportUs ++ leBytesI 4 e.cap ++ leBytesI 4 e.floor ++ leBytesI 4 e.gain ++ leBytesI 4 e.ofsW ++
    leBytes 2 (min e.lbar 0xFFFF) ++ leBytes 2 left ++ leBytes 4 0 ++ leBytesI 8 e.energy

/-- PENDING: entries not final first, then the newest; at most eight. -/
def Governor.pendBytes (g : Governor) : Bytes :=
  let l := (g.pend.filter (fun p => p.state == 1) ++ (g.pend.filter (fun p => p.state != 1)).reverse).take 8
  padTo 64 (l.flatMap (fun p => leBytes 2 p.req.sender ++ leBytes 1 p.req.kind ++ leBytes 1 p.state ++ leBytes 4 p.req.id))

/-- One SHARE set (R218); `final` marks the last one of a lead (R217). -/
def State.sendShare (s : State) (final : Bool) : State :=
  let g := s.gv
  let blocks := (List.range 16).filter (fun b => g.eps.any (fun e => e.id / 16 == b))
  let n := 1 + blocks.length
  let set := (g.set_ + 1) % 2 ^ 16
  let head (k : Nat) : Bytes := leBytes 1 k ++ leBytes 1 n ++ leBytes 2 set ++ leBytes 4 g.leadEpoch
  let flags := flagAt final 0 + flagAt g.hostAbsent 1 + flagAt (g.floorLeft != 0) 2 + flagAt g.snuffOut 3 +
    flagAt g.detSusp 4 + flagAt g.unattainable 5 + flagAt g.never 6
  let seg0 := head 0 ++ leBytes 4 flags ++ leBytesI 4 g.budget ++ leBytesI 8 g.validEnd ++ leBytes 1 g.timing ++
    leBytes 1 g.alloc ++ leBytes 1 g.know ++ leBytes 5 0 ++ leBytesI 8 g.rackOut ++ leBytesI 8 g.rackIn ++ g.pendBytes
  let seg (b : Nat) : Bytes := head (b + 1) ++ leBytes 2 (16 * b) ++ leBytes 6 0 ++
    (List.range 16).flatMap (fun k => match g.ep (16 * b + k) with
      | some e => e.record s.clk.now g.holdS
      | none => leBytes 1 (16 * b + k) ++ List.replicate 55 0)
  blocks.foldl (fun s b => s.rackSend 0x07 (seg b)) ((s.setGv (fun g => { g with set_ := set })).rackSend 0x07 seg0)

/-! ### Requests (R219, R233, R263, R264) -/

/-- Status of a final state of PENDING (Table 10-13). -/
def pendStatus (st : Nat) : Nat :=
  if st = 2 then stOk else if st = 3 then stSuperseded else if st = 4 then stUnattainable else if st = 5 then stDenied
  else stTimeout

/-- Completion of this module's own request, and its end. -/
def State.endOwn (s : State) (id status result : Nat) : State :=
  match s.gv.own.find? (fun o => o.req.id == id) with
  | none => s
  | some o =>
    let s := s.setGv (fun g => { g with own := g.own.filter (fun o => o.req.id != id) })
    match o.hdr with
    | some h => s.complete h status result
    | none => s

/-- An entry reaches a final state (R221, R264). -/
def State.settleReq (s : State) (r : Req) (st result : Nat) : State :=
  let s := s.setGv (fun g => { g with pend := g.pend.map (fun p =>
    if p.req = r then { p with state := st, finalAt := s.clk.now } else p) })
  if r.sender = s.gnSelf then s.endOwn r.id (pendStatus st) result else s

/-- Adoption by the lead (R219, R233, R263). -/
def State.adopt (s : State) (r : Req) : State :=
  if s.gv.seen.contains (r.sender, r.id) then s
  else
    let s := s.setGv (fun g => { g with seen := (r.sender, r.id) :: g.seen })
    let due := if r.kind = 0 then 0 else (s.clk.ptp / 1000000 + 1) * 1000000
    let add (s : State) : State := s.setGv (fun g => { g with
      pend := g.pend ++ [{ req := r, state := 1, due := due, finalAt := 0 }]
      own := g.own.map (fun o => if o.req = r then { o with adopted := true } else o) })
    if r.kind = 1 ∧ r.value = 1 ∧ ¬ s.ptpLock then (add s).settleReq r 5 0
    else
      let s := add ((s.gv.pend.filter (fun p => p.state == 1 && p.req.kind == r.kind)).foldl (fun s p => s.settleReq p.req 3 0) s)
      if r.kind = 0 then s.setGv (fun g => { g with newBudget := some (r.w, r.ms) }) else s

/-- The adopted budget comes into force (R220). -/
def State.inForce (s : State) : State := match s.gv.newBudget with
  | none => s
  | some (w, ms) =>
    let v := if ms = 0 then s.gv.validDef else ms
    s.setGv (fun g => { g with
      budgetMw := w * 1000, validMs := v, validEnd := s.clk.ptp + v * 1000000, hostAbsent := false, never := false
      newBudget := none })

/-- Settings whose millisecond has come (R233). -/
def State.applyModes (s : State) : State :=
  (s.gv.pend.filter (fun p => p.state == 1 && p.req.kind != 0 && decide (p.due ≤ s.clk.ptp))).foldl (fun s p =>
    let s := s.setGv (fun g =>
      if p.req.kind = 1 then { g with timing := p.req.value, detSusp := false }
      else if p.req.kind = 2 then { g with alloc := p.req.value, steady := none }
      else { g with know := p.req.value })
    let s := if p.req.kind = 1 ∧ p.req.value = 1 ∧ ¬ s.ptpLock then s.suspendEpochs else s
    s.settleReq p.req 2 0) s

/-- The BUDGET body of a request (Table 10-11). -/
def Req.body (r : Req) : Bytes :=
  leBytes 1 (if r.kind = 0 then 0 else 1) ++ leBytes 1 r.kind ++ leBytes 1 r.value ++ leBytes 1 0 ++ leBytes 4 r.id ++
    leBytesI 4 r.w ++ leBytes 4 r.ms ++ List.replicate 16 0

/-- Sending of a request to the lead (R263). -/
def State.sendReq (s : State) (r : Req) : State := s.rackSend 0x05 r.body

/-- A lead's own request as a message: its origin time is that of its arrival (R220). -/
def State.ownMsg (s : State) (r : Req) : GnMsg :=
  { src := 0, sport := 0, timeOk := true, rack := s.rackId, sender := r.sender, keyId := 0, seq := r.id, origin := s.clk.ptp
    body := r.body, tag := [] }

/-- A lead's own request takes the path of the others through the receive queue, and is not sent (R263). -/
def State.leadTake (s : State) (r : Req) : State := s.gnQueue 5 (s.ownMsg r)

/-- A host command becomes a request. -/
def State.request (s : State) (h : CmdHdr) (op kind : Nat) (w : Int) (ms value : Nat) : State :=
  let id := if (s.gv.reqId + 1) % 2 ^ 32 = 0 then 1 else (s.gv.reqId + 1) % 2 ^ 32
  let r : Req := { sender := s.gnSelf, id := id, kind := kind, w := w, ms := ms, value := value }
  let s := s.setGv (fun g => { g with reqId := id, own := g.own ++ [{ req := r, hdr := some h, adopted := false }] })
  let s := s.await h op (if kind = 0 then .budget else .setting kind value)
  if s.isLead then s.leadTake r else s.sendReq r

def execBudgetSet (h : CmdHdr) (budgetW : Int) (validMs : Nat) (s : State) : Host.Outcome State Fault Refusal :=
  .next (s.start h
    { op := 0x0701, activeOnly := true,
      chk := param (decide (0 ≤ budgetW)) 0x08 <|> param (validMs = 0 || (decide (100 ≤ validMs) && decide (validMs ≤ 3600000))) 0x0C
      chk6 := need s.gv.ok stDenied 0 }
    (fun s => s.request h 0x0701 0 budgetW validMs 0))

def execGovMode (h : CmdHdr) (setting value : Nat) (s : State) : Host.Outcome State Fault Refusal :=
  .next (s.start h
    { op := 0x0702, activeOnly := true,
      chk := param (setting = 1 || setting = 3) 0x08 <|> param (if setting = 1 then value ≤ 1 else value ≤ 2) 0x09
      chk6 := need s.gv.ok stDenied 0 }
    (fun s => s.request h 0x0702 setting 0 0 value))

def execGrantMode (h : CmdHdr) (value : Nat) (s : State) : Host.Outcome State Fault Refusal :=
  .next (s.start h
    { op := 0x0703, activeOnly := true, chk := param (value ≤ 1) 0x08, chk6 := need s.gv.ok stDenied 0 }
    (fun s => s.request h 0x0703 2 0 0 value))

def execBudgetReqRepeat (req : Nat) (s : State) : Host.Outcome State Fault Refusal :=
  match s.gv.own.find? (fun o => o.req.id == req) with
  | some o => .next (if o.adopted || !s.rc.gov then s else if s.isLead then s.leadTake o.req else s.sendReq o.req)
  | none => .next s

def execBudgetTimeout (req : Nat) (s : State) : Host.Outcome State Fault Refusal :=
  match s.gv.own.find? (fun o => o.req.id == req) with
  | some o =>
    .next (if o.adopted then s
      else
        let mine (x : GnIn) : Bool := x.typ == 5 && x.msg.sender == o.req.sender && x.msg.body == o.req.body
        ((s.setGv (fun g => { g with inputs := g.inputs.filter (fun x => !mine x) })).setGn (fun g => { g with
          queue := g.queue.filter (fun x => !mine x) })).endOwn req stTimeout 0)
  | none => .next s

/-- BUDGET_EXPIRY: a budget adopted and not yet in force is the renewal, whose own validity has not begun (R221, R223). -/
def execBudgetExpiry (s : State) : Host.Outcome State Fault Refusal :=
  if ¬ s.isLead ∨ s.gv.hostAbsent ∨ s.gv.newBudget.isSome ∨ ¬ s.rc.gov then .next s
  else
    let s := s.setGv (fun g => { g with hostAbsent := true })
    .next ((s.gv.pend.filter (fun p => p.state == 1 && p.req.kind == 0)).foldl (fun s p => s.settleReq p.req 6 0) s)

/-! ### The pool and the caps (R229, R230, R231, R239) -/

/-- P and the pool reason from K, sum cap_s, L_conv and sum G_pub of a shedding rack (R229). -/
def poolOf (budget known caps conv : Int) (shed : Option Int) (derated : Bool) : Int × Nat :=
  let a : Int × Nat := (caps - known + conv, if derated then 2 else 3)
  let b : Int × Nat := match shed with
    | some g => if g - known < a.1 then (g - known, 1) else a
    | none => a
  let c : Int × Nat := if budget - known < b.1 then (budget - known, 0) else b
  (max 0 c.1, c.2)

/-- Largest n of [lo, hi] that a falling test admits, by halving. -/
def searchMax (p : Nat → Bool) : Nat → Nat → Nat → Nat
  | 0, lo, _ => lo
  | k + 1, lo, hi =>
    if hi ≤ lo then lo
    else if p ((lo + hi + 1) / 2) then searchMax p k ((lo + hi + 1) / 2) hi else searchMax p k lo ((lo + hi + 1) / 2 - 1)

/-- Smallest n of [lo, hi] that a rising test admits, by halving. -/
def searchMin (p : Nat → Bool) : Nat → Nat → Nat → Nat
  | 0, lo, _ => lo
  | k + 1, lo, hi =>
    if hi ≤ lo then lo
    else if p ((lo + hi) / 2) then searchMin p k lo ((lo + hi) / 2) else searchMin p k ((lo + hi) / 2 + 1) hi

/-- A free endpoint of `allocate`: MIN_W, MAX_W, and its weight times the common divisor. -/
structure Free where
  minW : Int
  maxW : Int
  w : Nat
deriving DecidableEq, Repr

/-- min(1, f w_i) (max - min) for f = n / 2^24, times 2^24 times the divisor. -/
def Free.part (e : Free) (den n : Nat) : Int := min (2 ^ 24 * den : Int) (n * e.w) * (e.maxW - e.minW)

/-- `allocate` of R230; weights are w / den. -/
def allocate (p : Int) (den : Nat) (l : List Free) : List Int :=
  if sumOf l (·.maxW) ≤ p then l.map (·.maxW)
  else if p ≤ sumOf l (·.minW) then l.map (·.minW)
  else
    let ok (n : Nat) : Bool := decide (sumOf l (·.minW) * (2 ^ 24 * den) + sumOf l (fun e => e.part den n) ≤ p * (2 ^ 24 * den))
    let n := searchMax ok 25 0 (2 ^ 24)
    l.map (fun e => e.minW + divFloor (e.part den n) (2 ^ 24 * den))

/-- floor_i for phi = n / 2^24 (R239); entries are MIN_W and CAP_W. -/
def floorAt (n : Nat) (e : Int × Int) : Int := min e.2 (e.1 + divFloor (n * (e.2 - e.1)) (2 ^ 24))

/-- Floors of R239. -/
def floorsOf (f : Int) (l : List (Int × Int)) : List Int :=
  if sumOf l (·.2) < f then l.map (·.2)
  else
    let n := searchMin (fun n => decide (f ≤ sumOf l (floorAt n))) 25 0 (2 ^ 24)
    l.map (floorAt n)

/-- Largest smoothed lateness. -/
def Governor.maxLbar (g : Governor) : Nat := g.eps.foldl (fun m e => max m e.lbar) 0

/-- Weight of an endpoint times the divisor of R231 (1 when no endpoint is late). -/
def Governor.weight (g : Governor) (e : Endpoint) : Nat := if g.maxLbar = 0 then 1 else g.maxLbar + e.lbar

def Governor.weightDen (g : Governor) : Nat := max 1 g.maxLbar

/-- Averaging window of a grant (Table 9-1). -/
def State.wAvg (s : State) : Nat :=
  if s.pf.conf && s.rc.profile then (clampI 100 5000000 (divRne s.pf.period (2 ^ 16))).toNat else 1000

/-- Held at its cap: non-compliant or STALE (R230). -/
def Endpoint.held (e : Endpoint) : Bool := e.noncomp || e.stale

/-- Caps of the free endpoints, the steady fixing as it then stands, and whether the fixed caps are in use (R234). -/
def Governor.capsOf (g : Governor) (p : Int) : List (Nat × Int) × Option Steady × Bool :=
  let free := g.eps.filter (fun e => !e.held)
  let pf := p - sumOf (g.eps.filter Endpoint.held) (fun e => if e.noncomp then e.minW else e.cap)
  let regs := g.eps.map (fun e => (e.id, e.minW, e.maxW))
  let pace := allocate pf g.weightDen (free.map (fun e => ⟨e.minW, e.maxW, g.weight e⟩))
  let tag (l : List Int) : List (Nat × Int) := (free.map (·.id)).zip l
  if g.alloc = 0 then (tag pace, none, false)
  else
    let flat := allocate pf 1 (free.map (fun e => ⟨e.minW, e.maxW, 1⟩))
    let fx : Steady := match g.steady with
      | some f => if f.regs = regs then f else { p := p, regs := regs, caps := tag flat, lapsed := false }
      | none => { p := p, regs := regs, caps := tag flat, lapsed := false }
    let fixed := (free.zip flat).map (fun x => (look fx.caps x.1.id).getD x.2)
    let lapsed := fx.lapsed && decide (p < fx.p)
    if !lapsed && decide (fixed.sum ≤ pf) then (tag fixed, some { fx with lapsed := false }, true)
    else (tag flat, some { fx with lapsed := true }, false)

/-- Pool, caps, floors and grants of all endpoints over the given shelves (R229 to R234, R239, R242). -/
def State.computeGrants (s : State) (v : List ShelfView) : State × List (Nat × Grant) :=
  let g := s.gv
  let shed := if v.any (fun x => decide (0 < x.shed)) then some (sumOf v (·.gPub)) else none
  let conv := meanI g.convHist
  let pr := poolOf g.budget g.known (sumOf v (·.cap)) conv shed (v.any (·.derated))
  let c := g.capsOf pr.1
  let free := g.eps.filter (fun e => !e.held)
  let left := pr.1 - sumOf (g.eps.filter Endpoint.held) (fun e => if e.noncomp then e.minW else e.cap)
  let pace := (free.map (·.id)).zip (allocate left g.weightDen (free.map (fun e => ⟨e.minW, e.maxW, g.weight e⟩)))
  let capOf (e : Endpoint) : Int := if e.noncomp then e.minW else (look c.1 e.id).getD e.cap
  let fe := g.eps.filter (fun e => !e.noncomp)
  let floors := if g.floorLeft ≠ 0 ∧ ¬ g.snuffOut ∧ ¬ g.sense then
      (fe.map (·.id)).zip (floorsOf (sumOf v (·.gPub) - g.known) (fe.map (fun e => (e.minW, capOf e))))
    else []
  let grants := g.eps.map (fun e =>
    let cap := capOf e
    let reason := if e.maxW ≤ cap then 0xFF else if g.sense then 4
      else if c.2.2 && decide (cap < (look pace e.id).getD cap) then 5 else pr.2
    (e.id, ({ cap := cap, floor := (look floors e.id).getD 0, wAvg := s.wAvg, stagger := e.stagger, tag := e.tag
              pace := if g.sense then 3 else if e.noncomp then 2 else g.alloc
              reason := reason, gain := e.gain, ofs := e.ofsW } : Grant)))
  (s.setGv (fun g => { g with
    pool := pr.1, steady := c.2.1
    poolReason := if left < sumOf free (·.maxW) then pr.2 else 7 }), grants)

/-! ### Grants on the wire (R226, R228, R238, Table 10-9) -/

def Grant.body (x : Grant) (epoch : Nat) (valid : Int) : Bytes :=
  leBytes 4 epoch ++ leBytesI 4 x.cap ++ leBytesI 4 x.floor ++ leBytes 4 x.wAvg ++ leBytes 1 x.stagger ++ leBytes 1 x.tag ++
    leBytes 1 x.pace ++ leBytes 1 x.reason ++ leBytesI 4 x.gain ++ leBytesI 4 x.ofs ++ leBytes 4 0 ++ leBytesI 8 valid

/-- Whether a grant must be sent again (R228): at least every GRANT_VALID_MS / 4, so at a step after which the next would be
too late. -/
def Governor.resend (g : Governor) (now : Nat) (e : Endpoint) (x : Grant) : Bool := match e.sent with
  | none => true
  | some (o, t) =>
    decide ((g.hyst : Int) ≤ absI (x.cap - o.cap)) || decide ((g.hyst : Int) ≤ absI (x.floor - o.floor)) ||
      { x with cap := o.cap, floor := o.floor } != o || decide (t + g.validGrant * 250000 < now + 1000000)

/-- GRANT: sending to one endpoint where due (R228); `force` restarts the compliance timer (R218, R241). -/
def State.issueGrant (s : State) (force : Bool) (id : Nat) (x : Grant) : State :=
  match s.gv.ep id, look s.gv.heard id, s.gn.rackKey.cur with
  | some e, some (addr, port), some key =>
    if !s.canSend || !(force || s.gv.resend s.clk.now e x) then s
    else
      let moved := force || e.tg.isNone || x.cap != e.cap || x.floor != e.floor
      let now := s.clk.now
      (s.gnSend key 0x03 { dst := addr, dport := port } (x.body s.gv.leadEpoch (s.clk.ptp + s.gv.validGrant * 1000000))).setGv (fun g => { g with
        eps := g.eps.map (fun e => if e.id = id then { e with
            cap := x.cap, floor := x.floor, pace := x.pace, reason := x.reason, sent := some (x, now)
            tg := if moved then some now else e.tg }
          else e) })
  | _, _, _ => s

def State.issueAll (s : State) (force : Bool) (l : List (Nat × Grant)) : State :=
  l.foldl (fun s x => s.issueGrant force x.1 x.2) s

/-- Grants computed and sent at once: responsive timing, and every fresh issue (R233, R218, R241). -/
def State.govern (s : State) (force : Bool) : State :=
  let r := s.computeGrants s.rackViews
  r.1.issueAll force r.2

/-- An endpoint has a grant in force: a cap, or a reason for a cap of 0. -/
def Endpoint.granted (e : Endpoint) : Bool := e.sent.isSome || e.cap != 0 || e.reason != 0xFF

/-- Grants in force issued again as they stand, with their compliance timers restarted (R218, R283): all of them, or those
this module has not itself sent. -/
def State.reissue (s : State) (all : Bool) : State :=
  s.issueAll true ((s.gv.eps.filter (fun e => e.granted && (all || e.sent.isNone))).map (fun e =>
    (e.id, { cap := e.cap, floor := e.floor, wAvg := s.wAvg, stagger := e.stagger, tag := e.tag, pace := e.pace
             reason := e.reason, gain := e.gain, ofs := e.ofsW })))

/-! ### Shares (R222) -/

/-- Shares of the rack budget (R222). -/
def State.sharesOf (s : State) : List Int :=
  let v := s.rackViews
  let total := sumOf v (·.cap)
  let n := (v.filter (·.elig)).length
  let of_ (sh : Nat) : Int := match v.find? (fun x => x.shelf == sh) with
    | some x => if total ≠ 0 then divFloor (s.gv.budget * x.cap) total.toNat else if x.elig then divFloor s.gv.budget n else 0
    | none => 0
  (List.range 4).map of_

/-- Shares of the rack budget sent and taken by this shelf (assumption 108). -/
def State.shareOut (s : State) : State :=
  let l := s.sharesOf
  let s := s.setGv (fun g => { g with shares := l })
  let s := s.rackSend 0x05 (leBytes 1 2 ++ leBytes 15 0 ++ l.flatMap (leBytesI 4))
  s.setPl (fun p => { p with budget := nth l s.gv.shelf 0 })

/-- A lead sends shares again when one has changed (R222, R263). -/
def State.reshare (s : State) : State := if s.isLead && s.sharesOf != s.gv.shares then s.shareOut else s

/-! ### Throttle intervals (R245) -/

def State.setEp (s : State) (id : Nat) (f : Endpoint → Endpoint) : State :=
  s.setGv (fun g => { g with eps := g.eps.map (fun e => if e.id = id then f e else e) })

/-- The end of a throttle interval (R245). -/
def State.endThrottle (s : State) (e : Endpoint) : State := match e.thr with
  | none => s
  | some (r, t, ms) =>
    let s := s.setEp e.id (fun e => { e with thr := none, intervals := (e.intervals + 1) % 256 })
    if s.gv.thrLog ≤ ms then
      s.record 0x0705 0 kEndpoint e.id (leBytes 8 r ++ leBytesI 8 t ++ leBytes 4 ms)
    else s

/-! ### Election (R217, R269) -/

/-- The lead role ends: SNUFF_N is released with it and its ALERT sent (R241, Table 10-6), the throttle intervals it counted
end, and what it adopted or fixed and has not shared goes (R218). -/
def State.yieldLead (s : State) (final : Bool) : State :=
  if ¬ s.isLead then s
  else
    let s := if s.gv.snuffOut then (s.driveSnuff false).sendAlert 1 else s
    let s := s.gv.eps.foldl State.endThrottle s
    let s := if final then s.sendShare true else s
    s.setGv (fun g => { g with role := 0, leadShelf := none, epochGrants := [], newBudget := none, steady := none })

/-- The follower's view of the lead. -/
def State.follow (s : State) : State :=
  let leads := (s.gv.peers.map (·.2)).filter (·.lead)
  match leads with
  | [] => s.setGv (fun g => { g with role := 0, leadShelf := none })
  | a :: r =>
    let b := r.foldl (fun b x => if b.epoch < x.epoch ∨ (x.epoch = b.epoch ∧ x.shelf < b.shelf) then x else b) a
    s.setGv (fun g => { g with role := 1, leadShelf := some b.shelf, leadEpoch := b.epoch })

/-- ELECT: a claim of the lead with a new epoch. -/
def State.sendElect (s : State) : State :=
  let e := s.gv.maxEpoch + 1
  (s.setGv (fun g => { g with maxEpoch := e, claim := some e, lowMs := 0 })).rackSend 0x06
    (leBytes 4 e ++ leBytes 1 s.gv.shelf ++ leBytes 3 0)

/-- The lowest eligible shelf of those heard. -/
def State.lowest (s : State) : Bool :=
  s.eligible && s.gv.peers.all (fun x => !x.2.elig || decide (s.gv.shelf < x.1))

/-- The rules of R217 over what is heard; `tick` counts a step toward LEAD_RETURN_MS. A claim sent runs its 2 ms while the module
is eligible, whoever else is heard. -/
def State.electRules (s : State) (tick : Bool) : State :=
  let g := s.gv
  let leads := (g.peers.map (·.2)).filter (·.lead)
  let s := if g.role = 2 then
      if !s.eligible then s.yieldLead true
      else if g.dupMs ≠ 0 ∨ leads.any (fun x => x.epoch == g.leadEpoch && decide (x.shelf < g.shelf)) then s.yieldLead false
      else s
    else s
  if s.isLead then s
  else
    let s := s.follow
    if s.gv.dupMs ≠ 0 ∨ ¬ s.lowest ∨ leads.any (fun x => decide (x.shelf ≤ g.shelf)) then
      s.setGv (fun g => { g with lowMs := 0, claim := if g.dupMs ≠ 0 ∨ ¬ s.eligible then none else g.claim })
    else if s.gv.claim.isSome then s
    else if leads.isEmpty then s.sendElect
    else
      let n := if tick then s.gv.lowMs + 1 else s.gv.lowMs
      if g.leadReturn ≤ n then s.sendElect else s.setGv (fun g => { g with lowMs := n })

/-- Election where it runs: an active module of a rack, not isolated. -/
def State.elect (s : State) (tick : Bool) : State :=
  if !s.active then s
  else if s.gv.ok && !s.gn.isolated && s.rc.gov then s.electRules tick
  else (s.yieldLead false).setGv (fun g => { g with role := 0, leadShelf := none, claim := none, lowMs := 0 })

/-- Start of the lead role: every grant re-issued under the new epoch with its timers restarted (R218), and no epochs without
lock (R235, assumption 109). -/
def State.becomeLead (s : State) (epoch : Nat) : State :=
  let s := s.setGv (fun g => { g with
    role := 2, leadEpoch := epoch, leadShelf := some g.shelf, claim := none, lowMs := 0, relRun := 0, barriers := []
    newBudget := none, steady := none, eps := g.eps.map (fun e => { e with ncOwn := false, thr := none }) })
  let s := if s.gv.atEpochs && !s.ptpLock then s.suspendEpochs else s
  ((s.reissue true).reshare).sendShare false

def execLeadClaim (s : State) : Host.Outcome State Fault Refusal :=
  match s.gv.claim with
  | none => .next s
  | some e =>
    .next (if s.rc.gov && s.eligible && s.gv.dupMs == 0 && !s.isLead then s.becomeLead e
      else s.setGv (fun g => { g with claim := none }))

/-- A duplicate of this SHELF_ID in the rack is heard (R217). -/
def State.duplicate (s : State) : State :=
  (s.setGv (fun g => { g with conflict := true, dupMs := 3, claim := none })).elect false

/-- A sender with this SHELF_ID that is not this module's tether partner. -/
def State.foreignTwin (s : State) (sender : Nat) : Bool := sender == s.gnSelf || !s.teth.trained

/-- Isolation begins (R269). -/
def State.isolate (s : State) : State :=
  if s.gn.isolated then s
  else
    let s := ((s.yieldLead false).setGn (fun g => { g with isolated := true })).setGv (fun g => { g with
      role := 0, leadShelf := none, claim := none, lowMs := 0, peers := [] })
    s.record 0x0D02 1 kNone 0 (leBytes 1 1)

/-- Isolation ends (R269). -/
def State.endIsolation (s : State) : State :=
  if s.gn.isolated then (s.setGn (fun g => { g with isolated := false })).record 0x0D02 1 kNone 0 (leBytes 1 0) else s

def execIsolated (s : State) : Host.Outcome State Fault Refusal :=
  .next (if !s.gn.linkUp || decide (1 < s.gv.shelves) then s.isolate else s)

/-- The link is up in a mode: groups joined, addresses asked for (R249, R251). -/
def State.linkUp (s : State) : State :=
  let s := s.joinGroups
  let s := (s.emit (.net 3 s.gn.linkLocal)).emit (.net 4 s.gn.mac)
  if s.gv.shelves ≤ 1 then s.endIsolation else s

/-- The link is down: the module isolates itself (R269). -/
def State.linkDown (s : State) : State := ((s.setGn (fun g => { g with mode := 0 })).joinGroups).isolate

/-- ETHERNET_LINK: the highest mode both offer, or no link and a new negotiation (R248). -/
def execEthernetLink (offer : List Nat) (s : State) : Host.Outcome State Fault Refusal :=
  if !s.rc.ethOn then .next s
  else
    let s := s.setGn (fun g => { g with mode := modeOf offer, negFailed := false })
    .next (if s.gn.linkUp then s.linkUp else s.linkDown.negotiate)

/-! ### What the drain does with each message (R224, R225, R231, R232, R264, R267) -/

/-- Power of an endpoint by the power-knowledge mode (R236), STALE at its cap (R225). -/
def State.powerOf (s : State) (e : Endpoint) : Int :=
  if e.stale then e.cap
  else if s.gv.know = 1 then
    divRne (e.raw * s.gv.measured) (sumOf s.gv.eps (·.raw)).toNat
  else if s.gv.know = 2 then divRne ((2 ^ Config.calFracBits + e.gainDev) * e.raw + e.ofs) (2 ^ Config.calFracBits)
  else e.raw

/-- History entries down to the first one at or before a time. -/
def histKeep (cut : Nat) : List (Nat × Int) → List (Nat × Int)
  | [] => []
  | x :: r => if x.1 ≤ cut then [x] else x :: histKeep cut r

/-- A value that holds from a time on, in a history newest first. -/
def histAdd (t : Nat) (v : Int) (l : List (Nat × Int)) : List (Nat × Int) :=
  histKeep (t - 5200000000) (insertBy (fun a b => decide (b.1 < a.1)) (t, v) (l.filter (fun x => x.1 != t)))

/-- Time integral from `a` to `b` of a history newest first. -/
def histSum (a : Nat) : Nat → List (Nat × Int) → Int
  | _, [] => 0
  | b, (t, v) :: r =>
    let lo := max a t
    (if lo < b then v * (b - lo : Nat) else 0) + (if t ≤ a then 0 else histSum a (min b t) r)

/-- The declarations of a registration lie in their ranges (R224). -/
def regOk (b : Bytes) : Bool :=
  let mn := i b 0x08 4; let mx := i b 0x0C 4; let fb := i b 0x10 4
  decide (mn ≤ mx) && decide (1 ≤ mx) && decide (mx ≤ 1000000) && decide (fb ≤ mx) &&
    decide (10 ≤ u b 0x14 4) && decide (u b 0x14 4 ≤ 100000) && decide (100 ≤ u b 0x18 4) && decide (u b 0x18 4 ≤ 10000)

/-- Registration at the lead (R224): refused, new, or its declarations replaced. -/
def State.register (s : State) (q : GnIn) : State × Bool :=
  let b := q.msg.body
  let id := q.msg.sender
  let old := s.gv.ep id
  let taken := match old.bind (·.addr) with
    | some a => a != q.msg.src
    | none => false
  if !regOk b || taken || (old.isNone && decide (256 ≤ s.gv.eps.length)) then
    ((s.setGv (fun g => { g with refused := g.refused + 1 })).record 0x0706 0 kEndpoint id (leBytes 1 0), false)
  else
    let e := old.getD { id := id }
    let e := { e with addr := some q.msg.src, minW := i b 0x08 4, maxW := i b 0x0C 4, fallback := i b 0x10 4, complyUs := u b 0x14 4, reportUs := u b 0x18 4 }
    (s.setGv (fun g => { g with eps := insertBy (fun a b => decide (a.id < b.id)) e (g.eps.filter (fun x => x.id != id)) }), true)

/-- Root time from which a REPORT's power counts: its arrival, or in deterministic timing its origin, so that grants do not
depend on the network's delay (R39, R267). -/
def State.powerFrom (s : State) (q : GnIn) : Nat :=
  if s.gv.atEpochs then ((q.at_ : Int) + (q.msg.origin - q.ptpAt)).toNat else q.at_

/-- A REPORT as the governor takes it; true when a grant's input changed. -/
def State.takeReport (s : State) (q : GnIn) : State × Bool :=
  let id := q.msg.sender
  let reg := bitAt (u q.msg.body 0 1) 0
  let r := if reg && s.isLead then s.register q else (s, true)
  if (reg && s.isLead && !r.2) || (!reg && (s.gv.ep id).isNone) then (r.1, false)
  else
    let was := match s.gv.ep id with
      | some e => e.stale
      | none => false
    let s := r.1.setGv (fun g => { g with heard := putKey g.heard id (q.msg.src, q.msg.sport) })
    let s := s.setEp id (fun e => { e with
      raw := i q.msg.body 4 4, stale := if s.isLead then false else e.stale, addr := some (e.addr.getD q.msg.src) })
    match s.gv.ep id with
    | some e => (s.setEp id (fun e' => { e' with hist := histAdd (s.powerFrom q) (s.powerOf e) e'.hist }), s.isLead && (reg || was))
    | none => (s, false)

/-- A barrier taken as complete: lateness (R231) and staggers (R232). -/
def State.barrierDone (s : State) (o : Barrier) : State :=
  let g := s.gv
  let arr := o.arrived.filter (fun a => (g.ep a.1).isSome)
  let t0 := minI (arr.map (·.2.1)) 0
  let late := arr.map (fun a => (a.1, divFloor (a.2.1 - t0) 1000))
  let big := maxI (late.map (·.2)) 0
  let eps := g.eps.map (fun e =>
    { e with lbar := ((e.lbar : Int) + divFloor ((look late e.id).getD big - e.lbar) 8).toNat })
  let dw := sumOf arr (·.2.2)
  let span := if 0 < dw then min g.staggerMax (ceilDiv dw.toNat g.slope) else 0
  let here := eps.filter (fun e => arr.any (fun a => a.1 == e.id))
  let rank := (sortBy (fun (a b : Endpoint) =>
    if g.alloc = 1 then decide (a.id < b.id) else decide (b.lbar < a.lbar) || (a.lbar == b.lbar && decide (a.id < b.id))) here).map (·.id)
  let n := rank.length
  s.setGv (fun g => { g with
    barriers := g.barriers.filter (fun b => b.tag != o.tag)
    eps := if arr.isEmpty then g.eps else eps.map (fun e =>
      if rank.contains e.id then
        { e with tag := o.tag, stagger := if n ≤ 1 then 0 else (rank.idxOf e.id) * span / (n - 1) }
      else if e.tag = o.tag then { e with stagger := 0, tag := 0 } else e) })

/-- A WICK notice as the governor takes it (Table 10-7). -/
def State.takeWick (s : State) (q : GnIn) : State × Bool :=
  let b := q.msg.body
  if u b 0 1 = 0 then (s.takeNotice { tag := u b 1 1, at_ := i b 0x10 8, delta := i b 4 4, durUs := u b 8 4 }, false)
  else if ¬ s.isLead ∨ (s.gv.ep q.msg.sender).isNone then (s, false)
  else
    let tag := u b 1 1
    let o := (s.gv.barriers.find? (fun x => x.tag == tag)).getD { tag := tag, arrived := [] }
    let o := { o with arrived := o.arrived.filter (fun a => a.1 != q.msg.sender) ++ [(q.msg.sender, i b 0x10 8, i b 4 4)] }
    let s := s.setGv (fun g => { g with barriers := g.barriers.filter (fun x => x.tag != tag) ++ [o] })
    if s.gv.eps.all (fun e => o.arrived.any (fun a => a.1 == e.id)) then (s.barrierDone o, true) else (s, false)

/-- A LANTERN frame as the governor takes it: election, fill, isolation (R191, R217, R269). -/
def State.takeLantern (s : State) (q : GnIn) : State :=
  let v := viewOf q.msg.body
  let mine := decide (q.msg.rack = s.rackId)
  if mine && v.shelf == s.gv.shelf then if s.foreignTwin q.msg.sender then s.duplicate else s
  else
    let s := if mine then
        ((s.endIsolation).setGv (fun g => { g with peers := putKey g.peers v.shelf v, maxEpoch := max g.maxEpoch v.epoch })).elect false
      else s
    s.peerFrame (q.msg.rack * 4 + v.shelf) v.grid (i q.msg.body 0x1C 4)

/-- An ELECT as the governor takes it (R217). -/
def State.takeElect (s : State) (q : GnIn) : State :=
  let e := u q.msg.body 0 4
  let sh := u q.msg.body 4 1
  let s := s.setGv (fun g => { g with maxEpoch := max g.maxEpoch e })
  if sh = s.gv.shelf then if s.foreignTwin q.msg.sender then s.duplicate else s
  else
    let s := if sh < s.gv.shelf then s.setGv (fun g => { g with claim := none }) else s
    if s.isLead ∧ s.gv.leadEpoch < e then s.yieldLead true else s

/-- The request a BUDGET message carries. -/
def reqOf (m : GnMsg) : Req :=
  let kind := if u m.body 0 1 = 0 then 0 else u m.body 1 1
  { sender := m.sender, id := u m.body 4 4, kind := kind, w := i m.body 8 4, ms := u m.body 0x0C 4, value := u m.body 2 1 }

/-- A request whose values the lead can act on. -/
def reqOk (r : Req) : Bool :=
  decide (r.kind ≤ 3) && decide (0 ≤ r.w) && (r.ms == 0 || (decide (100 ≤ r.ms) && decide (r.ms ≤ 3600000))) &&
    decide (r.value ≤ if r.kind = 3 then 2 else 1)

/-- A BUDGET message as the governor takes it (R222, R263). -/
def State.takeBudget (s : State) (q : GnIn) : State :=
  let b := q.msg.body
  if u b 0 1 = 2 then
    if ¬ s.isLead ∧ s.gv.leadShelf = some ((q.msg.sender - 0x200) / 2) then
      (s.setGv (fun g => { g with shares := (List.range 4).map (fun k => i b (0x10 + 4 * k) 4) })).setPl
        (fun p => { p with budget := i b (0x10 + 4 * s.gv.shelf) 4 })
    else s
  else if s.isLead ∧ reqOk (reqOf q.msg) ∧ (u b 0 1 = 0 ∨ u b 1 1 ≠ 0) then s.adopt (reqOf q.msg)
  else s

/-- An endpoint as a SHARE record gives it; what the record lacks is kept. -/
def Endpoint.ofRecord (old : Endpoint) (now holdS : Nat) (b : Bytes) : Endpoint :=
  { old with
    minW := i b 0x04 4, maxW := i b 0x08 4, fallback := i b 0x0C 4, complyUs := u b 0x10 4, reportUs := u b 0x14 4
    cap := i b 0x18 4, floor := i b 0x1C 4, pace := u b 2 1, reason := u b 3 1
    stale := bitAt (u b 1 1) 1, noncomp := bitAt (u b 1 1) 2, floorMiss := bitAt (u b 1 1) 3
    gainDev := divRne ((i b 0x20 4 - 2 ^ 16) * 2 ^ Config.calFracBits) (2 ^ 16), ofs := i b 0x24 4 * 2 ^ Config.calFracBits
    lbar := u b 0x28 2, ncAt := now + u b 0x2A 2 * 1000000000 - holdS * 1000000000, energy := i b 0x30 8 }

/-- A complete SHARE set taken into use (R218, R264, assumption 110). -/
def State.useShare (s : State) (segs : List (Nat × Bytes)) : State :=
  let z := (look segs 0).getD []
  let recs := (segs.filter (fun x => x.1 != 0)).flatMap (fun x => (List.range 16).map (fun k => slice x.2 (0x10 + 56 * k) 56))
  let recs := recs.filter (fun b => bitAt (u b 1 1) 0)
  let f := u z 8 4
  let pend := (List.range 8).map (fun k => slice z (0x30 + 8 * k) 8) |>.filter (fun b => u b 3 1 != 0)
  let s := s.setGv (fun g => { g with
    hostAbsent := bitAt f 1, floorLeft := if bitAt f 2 then 10 else 0, detSusp := bitAt f 4, unattainable := bitAt f 5, never := bitAt f 6
    budgetMw := i z 0x0C 4 * 1000, validEnd := i z 0x10 8, timing := u z 0x18 1, alloc := u z 0x19 1, know := u z 0x1A 1
    rackOut := i z 0x20 8, rackIn := i z 0x28 8
    seen := pend.foldl (fun l b => if l.contains (u b 0 2, u b 4 4) then l else (u b 0 2, u b 4 4) :: l) g.seen
    pend := (pend.filter (fun b => u b 3 1 == 1 && u b 2 1 == 0)).map (fun b =>
      { req := { sender := u b 0 2, id := u b 4 4, kind := 0, w := i z 0x0C 4, ms := 0, value := 0 }, state := 1, due := 0, finalAt := 0 })
    validMs := if i z 0x10 8 = g.validEnd then g.validMs else ceilDiv (i z 0x10 8 - s.clk.ptp).toNat 1000000
    newBudget := none, steady := none
    eps := recs.map (fun b => Endpoint.ofRecord ((g.ep (u b 0 1)).getD { id := u b 0 1, addr := (look g.heard (u b 0 1)).map (·.1) })
      s.clk.now g.holdS b) })
  pend.foldl (fun s b =>
    if u b 0 2 ≠ s.gnSelf then s
    else if u b 3 1 = 1 then
      s.setGv (fun g => { g with own := g.own.map (fun o => if o.req.id = u b 4 4 then { o with adopted := true } else o) })
    else s.endOwn (u b 4 4) (pendStatus (u b 3 1)) (if u b 3 1 = 4 then ofSigned 32 s.gv.gridNow else 0)) s

/-- A SHARE segment as the governor takes it (R264). -/
def State.takeShare (s : State) (q : GnIn) : State :=
  let b := q.msg.body
  let e := u b 4 4
  let from_ := s.gv.leadShelf == some ((q.msg.sender - 0x200) / 2) || decide (s.gv.leadEpoch < e)
  if s.isLead ∨ ¬ from_ then s
  else
    let key := (u b 2 2, e)
    let s := if s.gv.rxSet = some key then s else s.setGv (fun g => { g with rxSet := some key, rxSegs := [] })
    let s := s.setGv (fun g => { g with rxSegs := putKey g.rxSegs (u b 0 1) b, maxEpoch := max g.maxEpoch e })
    if s.gv.rxSegs.length = u b 1 1 ∧ (look s.gv.rxSegs 0).isSome then
      (s.useShare s.gv.rxSegs).setGv (fun g => { g with rxSet := none, rxSegs := [] })
    else s

/-- The epoch in whose window an origin time lies (R37). -/
def epochOf (origin : Int) : Int := ((origin + 200000) / 1000000 + 1) * 1000000

/-- A late input: counted for its sender, recorded, used in no epoch (R38). -/
def State.lateInput (s : State) (q : GnIn) : State :=
  let n := satInc 8 ((look s.gv.late q.msg.sender).getD 0)
  (s.setGv (fun g => { g with late := putKey g.late q.msg.sender n })).dropRecord 1 q.msg.sender n

/-- The address of an endpoint's accepted REPORT, which is kept whatever epoch it belongs to (Table 10-8). -/
def State.hearReport (s : State) (q : GnIn) : State :=
  let reg := bitAt (u q.msg.body 0 1) 0
  if q.typ = 2 ∧ ((s.gv.ep q.msg.sender).isSome ∨ (reg ∧ ¬ s.isLead)) then
    s.setGv (fun g => { g with heard := putKey g.heard q.msg.sender (q.msg.src, q.msg.sport) })
  else s

/-- An input set aside for its epoch, or late. -/
def State.epochInput (s : State) (q : GnIn) : State :=
  let due := epochOf q.msg.origin
  let gone := match s.gv.lastEpoch with
    | some e => decide (due ≤ e)
    | none => false
  let s := s.hearReport q
  if !q.msg.timeOk || decide (due < q.ptpAt) || gone then s.lateInput q
  else s.setGv (fun g => { g with inputs := g.inputs ++ [q] })

/-- One message of the receive queue; true when a grant's input changed. -/
def State.takeMsg (s : State) (q : GnIn) : State × Bool :=
  if q.typ = 4 then (if s.gv.atEpochs then (s.takeLantern q).epochInput q else s.takeLantern q, false)
  else if q.typ = 6 then (s.takeElect q, false)
  else if q.typ = 7 then (s.takeShare q, false)
  else if q.typ = 8 then (s, false)
  else if q.typ = 5 ∧ u q.msg.body 0 1 = 2 then (s.takeBudget q, false)
  else if s.gv.atEpochs then (s.epochInput q, false)
  else if q.typ = 1 then s.takeWick q
  else if q.typ = 2 then s.takeReport q
  else (s.takeBudget q, false)

/-- Every message queued, in order of arrival (R267). -/
def State.drain (s : State) : State × Bool :=
  let l := s.gn.queue
  l.foldl (fun r q => let x := r.1.takeMsg q; (x.1, r.2 || x.2)) (s.setGn (fun g => { g with queue := [] }), false)

def execGuleneDrain (s : State) : Host.Outcome State Fault Refusal :=
  if !s.rc.gov then .next s
  else
    let r := s.drain
    .next (if r.2 && r.1.isLead && !r.1.gv.atEpochs then r.1.govern false else r.1).reshare

def execEndpointStale (endpoint : Nat) (s : State) : Host.Outcome State Fault Refusal :=
  .next (if s.isLead ∧ s.rc.gov then s.setEp endpoint (fun e => { e with stale := true }) else s)

def execEndpointDeregister (endpoint : Nat) (s : State) : Host.Outcome State Fault Refusal :=
  if ¬ s.isLead ∨ ¬ s.rc.gov ∨ (s.gv.ep endpoint).isNone then .next s
  else
    let s := (s.gv.eps.filter (fun e => e.id == endpoint)).foldl State.endThrottle s
    let s := (s.setGv (fun g => { g with eps := g.eps.filter (fun e => e.id != endpoint) })).record 0x0706 0 kEndpoint endpoint
      (leBytes 1 1)
    .next (if s.gv.atEpochs then s else s.govern false)

def execBarrierTimeout (tag : Nat) (s : State) : Host.Outcome State Fault Refusal :=
  match s.gv.barriers.find? (fun b => b.tag == tag) with
  | some o =>
    if ¬ s.isLead ∨ ¬ s.rc.gov then .next s
    else
      let s := s.barrierDone o
      .next (if s.gv.atEpochs then s else s.govern false)
  | none => .next s

/-! ### Rack figures (R221, R229, R236, R239) -/

/-- L_conv, K and M over the shelves as given (R229, R236). -/
def State.loadFigures (s : State) (v : List ShelfView) : State :=
  let grid := sumOf v (·.grid)
  let out := sumOf v (·.out)
  let ma := sumOf v (·.busMa)
  s.setGv (fun g =>
    let conv := ((grid - out) :: g.convHist).take 1000
    let bar := divRne (g.rBus * ma ^ 2) 1000000000000
    { g with convHist := conv, known := meanI conv + g.overhead + bar, measured := out - g.overhead - bar })

/-- Whether floor grants stand, over the shelves as given: for 10 steps after the last FILL_REQ_W (R239). -/
def State.floorCount (s : State) (v : List ShelfView) : State :=
  s.setGv (fun g => { g with floorLeft := if v.any (fun x => decide (0 < x.fillReq)) then 10 else g.floorLeft - 1 })

/-- Rack figures of the window: the grid draw as received, and, but in deterministic timing, where the epochs' input sets give
them (R37, R39), the figures grants are computed from. -/
def State.rackFigures (s : State) : State :=
  let grid := sumOf s.rackViews (·.grid)
  let s := s.setGv (fun g => { g with gridHist := (grid :: g.gridHist).take 100, gridNow := grid })
  if s.gv.atEpochs then s else s.loadFigures s.rackViews

/-! ### Epochs (R37 to R39) -/

/-- Order of an epoch's inputs: origin, sender, SEQ. -/
def GnIn.before (a b : GnIn) : Bool :=
  let x := a.msg; let y := b.msg
  decide (x.origin < y.origin) || (x.origin == y.origin &&
    (decide (x.sender < y.sender) || (x.sender == y.sender && decide (x.seq < y.seq))))

/-- One input of an epoch. -/
def State.takeInput (s : State) (x : GnIn) : State :=
  if x.typ = 1 then (s.takeWick x).1
  else if x.typ = 2 then (s.takeReport x).1
  else if x.typ = 4 then
    if x.msg.rack = s.rackId then
      s.setGv (fun g => { g with epochPeers := putKey g.epochPeers (viewOf x.msg.body).shelf (viewOf x.msg.body) })
    else s
  else s.takeBudget x

/-- Inputs taken in order, all that are due by a PTP time. -/
def State.takeInputs (s : State) (due : GnIn → Bool) : State :=
  let l := sortBy GnIn.before (s.gv.inputs.filter due)
  l.foldl State.takeInput (s.setGv (fun g => { g with inputs := g.inputs.filter (fun x => !due x) }))

/-- A lead's return to epochs once lock is regained (R235). -/
def State.resumeEpochs (s : State) : State :=
  if s.isLead && s.gv.detSusp && s.ptpLock then
    (s.setGv (fun g => { g with detSusp := false })).record 0x0707 1 kNone 0 (leBytes 1 0)
  else s

def execEpoch (s : State) : Host.Outcome State Fault Refusal :=
  if !s.rc.gov || s.gv.timing != 1 then .next s
  else
    let s := s.resumeEpochs
    if !s.gv.atEpochs then .next s
    else
      let e := s.clk.ptp / 1000000 * 1000000
      let s := s.drain.1
      let s := s.setGv (fun g => { g with epochPeers := g.epochPeers.filter (fun x => (look g.peers x.1).isSome) })
      let s := (s.takeInputs (fun x => decide (epochOf x.msg.origin ≤ e))).setGv (fun g => { g with lastEpoch := some e })
      let s := s.loadFigures s.epochViews
      if ¬ s.isLead then .next s
      else
        let s := ((s.applyModes).inForce.floorCount s.epochViews).reshare
        let r := s.computeGrants s.epochViews
        .next (r.1.setGv (fun g => { g with epochGrants := r.2 }))

def execGrantRelease (s : State) : Host.Outcome State Fault Refusal :=
  if ¬ s.isLead ∨ ¬ s.rc.gov then .next s
  else .next ((s.issueAll false s.gv.epochGrants).setGv (fun g => { g with epochGrants := [] }))

/-! ### The 1 ms step (R218, R222, R223, R229, R236 to R245) -/

/-- ABSENT_BUDGET_W as it stands (R223). -/
def State.absentBudget (s : State) : Int :=
  if s.gv.absentW ≠ 0 then s.gv.absentW else sumOf ((if s.gv.atEpochs then s.epochViews else s.rackViews).filter (·.elig)) (·.cap)

/-- The budget with no host: at ABSENT_BUDGET_W before the first one, otherwise moving toward it (R223). -/
def State.absentRamp (s : State) : State :=
  if !s.gv.hostAbsent then s
  else
    let goal := s.absentBudget * 1000
    s.setGv (fun g =>
      let b := g.budgetMw
      { g with budgetMw := if g.never then goal else if b < goal then min (b + g.hostRamp) goal else max (b - g.hostRamp) goal })

/-- Powers of the window: history, and the sums of the fit (R236, R237). -/
def State.powerStep (s : State) : State :=
  let f : Int := 2 ^ Config.calFracBits
  let now := s.clk.now
  let s := s.setGv (fun g => { g with eps := g.eps.map (fun e =>
    if e.stale || e.hist.isEmpty || e.hist.head?.map (·.2) == some (s.powerOf e) then e
    else { e with hist := histAdd now (s.powerOf e) e.hist }) })
  if s.gv.know ≠ 2 then s
  else
    let g := s.gv
    let eps := g.measured * f - sumOf g.eps (fun e => (f + e.gainDev) * e.raw + e.ofs)
    let sq := (sumOf g.eps (fun e => e.raw ^ 2)).toNat
    s.setGv (fun g => { g with eps := g.eps.map (fun e => { e with
      dg := if sq = 0 then e.dg else e.dg + divRne (eps * e.raw) (g.muInv * sq)
      dO := e.dO + divRne eps (g.muInv * g.eps.length) }) })

def execCalFitUpdate (s : State) : Host.Outcome State Fault Refusal :=
  if ¬ s.isLead ∨ s.gv.know ≠ 2 ∨ ¬ s.rc.gov then .next s
  else
    let f : Int := 2 ^ Config.calFracBits
    .next (s.setGv (fun g => { g with eps := g.eps.map (fun e => { e with
      gainDev := clampI (-(divFloor f 2)) f (e.gainDev + e.dg), dg := 0
      ofs := clampI (-(divFloor (e.maxW * f) 4)) (divFloor (e.maxW * f) 4) (e.ofs + e.dO), dO := 0 }) }))

/-- The averaging interval of R238: its start, once checking begins `after` µs past the compliance time. -/
def Endpoint.interval (e : Endpoint) (now after : Nat) : Option Nat := match e.tg with
  | none => none
  | some t =>
    let from_ := t + e.complyUs * 1000
    let w := ((e.sent.map (fun x => x.1.wAvg)).getD 1000) * 1000
    let a := max from_ (now - w)
    if from_ + after * 1000 ≤ now ∧ a < now ∧ ¬ e.hist.isEmpty then some a else none

/-- Average power above the cap by more than the tolerance (R238). -/
def Endpoint.over (e : Endpoint) (now margin tol : Nat) : Bool := match e.interval now margin with
  | some a => decide (e.cap * (100 + tol) * (now - a : Nat) < histSum a now e.hist * 100)
  | none => false

/-- Average power below the floor by more than the tolerance (R239). -/
def Endpoint.under (e : Endpoint) (now tol : Nat) : Bool := match e.interval now 0 with
  | some a => decide (0 < e.floor) && decide (histSum a now e.hist * 100 < e.floor * (100 - tol) * (now - a : Nat))
  | none => false

/-- COMPLIANCE_CHECK of one endpoint. -/
def State.comply (s : State) (id : Nat) : State := match s.gv.ep id with
  | none => s
  | some e =>
    let g := s.gv
    let now := s.clk.now
    let bad := e.over now g.marginUs g.tol
    let s :=
      if bad && !e.noncomp then
        (s.setEp id (fun e => { e with noncomp := true, ncOwn := true, ncAt := now, ncCnt := satInc 8 e.ncCnt })).record 0x0704 1
          kEndpoint id (leBytes 1 0)
      else if bad then s.setEp id (fun e => { e with ncAt := now, ncOwn := true })
      else if e.noncomp ∧ e.ncAt + g.holdS * 1000000000 ≤ now then s.setEp id (fun e => { e with noncomp := false, ncOwn := false })
      else s
    let low := e.under now g.tol
    let s := if low && !e.floorMiss then
        (s.setEp id (fun e => { e with floorMisses := e.floorMisses + 1 })).record 0x0704 1 kEndpoint id (leBytes 1 1)
      else s
    s.setEp id (fun e => { e with floorMiss := low })

/-- Some shelf of the rack stands at its floor (R240, R243). -/
def State.rackFloor (s : State) : Bool := s.rackViews.any (·.floor)

/-- SNUFF_ASSERT and SNUFF_RELEASE (R240, R241). In deterministic timing the fresh grants of a release are those in force, issued
again: grants are computed at epochs alone (R37). -/
def State.snuffStep (s : State) : State :=
  let g := s.gv
  if !g.snuffOut then
    if s.rackFloor && g.eps.any (fun e => e.noncomp && e.ncOwn) && decide (g.budget < g.gridNow) && !g.snuffDis then
      (s.driveSnuff true).sendAlert 0
    else s
  else
    let v := s.rackViews
    let n := if sumOf v (·.out) ≤ sumOf v (·.gPub) then g.relRun + 1 else 0
    let s := s.setGv (fun g => { g with relRun := n })
    if n < 10 then s
    else
      let s := (s.driveSnuff false).sendAlert 1
      if s.gv.atEpochs then s.reissue true else s.govern true

/-- UNATTAINABLE and the end of a pending budget (R221, R243). -/
def State.budgetEnd (s : State) : State :=
  let g := s.gv
  let cond := s.rackFloor && g.eps.all (fun e => e.cap == e.minW && !e.noncomp) && decide (g.budget < g.gridNow)
  let event (s : State) : State := s.record 0x0701 2 kNone 0 (leBytesI 4 g.budget ++ leBytesI 4 g.gridNow)
  let s := s.setGv (fun g => { g with unattainable := cond })
  if g.newBudget.isSome then s
  else
    (g.pend.filter (fun p => p.state == 1 && p.req.kind == 0)).foldl (fun s p =>
      if g.gridHist.sum * 1000 ≤ 1005 * g.budget * g.gridHist.length then s.settleReq p.req 2 0
      else if cond then (event s).settleReq p.req 4 (ofSigned 32 g.gridNow) else s) s

/-- THROTTLE and the energy of one endpoint (R244, R245). -/
def State.account (s : State) (id : Nat) : State := match s.gv.ep id with
  | none => s
  | some e =>
    let s := s.setEp id (fun x => { x with energy := x.energy + s.powerOf e })
    if e.maxW ≤ e.cap ∨ e.reason = 0xFF then s.endThrottle e
    else
      let same := match e.thr with
        | some x => x.1 == e.reason
        | none => false
      let s := if same then s else s.endThrottle e
      let t := s.clk.ptp
      s.setEp id (fun x => { x with
        thr := some (match x.thr with
          | some y => (y.1, y.2.1, y.2.2 + 1)
          | none => (e.reason, t, 1))
        thrMs := upd x.thrMs e.reason (fun n => satInc 32 n) })

/-- The lead's step. -/
def State.leadStep (s : State) : State :=
  let s := if s.gv.atEpochs then s else (s.takeInputs (fun _ => true))
  let s := s.applyModes
  let s := (if s.gv.atEpochs then s else s.inForce).absentRamp.shareOut
  let s := if s.gv.atEpochs then s else s.floorCount s.rackViews
  let s := s.setGv (fun g => { g with
    rackOut := g.rackOut + sumOf s.rackViews (·.out), rackIn := g.rackIn + sumOf s.rackViews (·.grid) })
  let s := s.powerStep
  let s := (s.gv.eps.map (·.id)).foldl State.comply s
  let s := if s.gv.atEpochs then s.reissue false else s.govern false
  let s := s.snuffStep.budgetEnd
  let s := (s.gv.eps.map (·.id)).foldl State.account s
  let s := s.setGv (fun g => { g with
    pend := g.pend.filter (fun p => p.state == 1 || decide (s.clk.now < p.finalAt + 20000000)) })
  s.sendShare false

/-- A lead that sees SNUFF_SENSE asserted and does not drive SNUFF_N records it, once per assertion (R242). -/
def State.snuffForeign (s : State) : State :=
  if s.gv.sense && s.isLead && !s.gv.snuffOut && !s.gv.foreign then
    (s.setGv (fun g => { g with foreign := true })).record 0x0703 1 kNone 0 []
  else s

def execGovernorStep (s : State) : Host.Outcome State Fault Refusal :=
  if !s.rc.gov then .next s
  else
    let s := s.snuffForeign.setGv (fun g => { g with dupMs := g.dupMs - 1 })
    let s := (if s.gv.ok then s.rackFigures else s).elect true
    .next (if s.isLead then s.leadStep else s)

/-! ### Planisher rows that reach the rack (R168, R191, R217, R244) -/

def execSlowStep (s : State) : Host.Outcome State Fault Refusal :=
  if !s.rc.gov then .next s
  else
    let s := if s.active then s.slowStep else s
    let s := s.setGv (fun g => { g with eOut := g.eOut + s.sh.outTele.avg1, eIn := g.eIn + s.pg })
    .next (if s.active then s.rowSend s.lanternBody else s)

def execPeerSilent (peer : Nat) (s : State) : Host.Outcome State Fault Refusal :=
  let s := s.peerGone peer
  if peer / 4 = s.rackId ∧ s.gv.ok then
    .next (((s.setGv (fun g => { g with peers := dropKey g.peers (peer % 4) })).elect false)).reshare
  else .next s

/-! ### Registers (Tables 9-5 to 9-20) -/

/-- An endpoint register, by offset within its 0x80 bytes. -/
def State.epRead (s : State) (id off : Nat) : Nat :=
  match s.gv.ep id with
  | none => if off = 0 then 0x700 else if off = 0x20 then 0x10000
      else if off = 0x60 then fieldAt ((look s.gv.late id).getD 0) 8 8 + (look s.gv.dropped id).getD 0 else 0
  | some e =>
    if off = 0x00 then
      fieldAt (if e.reason = 0xFF then 7 else e.reason) 3 8 + fieldAt e.pace 2 6 + flagAt e.floorMiss 3 + flagAt e.noncomp 2 +
        flagAt e.stale 1 + 1
    else if off = 0x04 then ofSigned 32 e.minW
    else if off = 0x08 then ofSigned 32 e.maxW
    else if off = 0x0C then e.complyUs
    else if off = 0x10 then ofSigned 32 e.cap
    else if off = 0x14 then ofSigned 32 e.floor
    else if off = 0x18 then
      let now := s.clk.now
      ofSigned 32 (if e.stale then e.cap else divRne (histSum (now - 1000000) now e.hist) 1000000)
    else if off = 0x1C then fieldAt (min e.lbar 0xFFFF) 16 16 + fieldAt e.tag 8 8 + e.stagger
    else if off = 0x20 then ofSigned 18 e.gain
    else if off = 0x24 then ofSigned 32 e.ofsW
    else if off = 0x28 then ofSigned 64 e.energy % 2 ^ 32
    else if 0x40 ≤ off ∧ off < 0x58 then nth e.thrMs ((off - 0x40) / 4) 0
    else if off = 0x60 then
      fieldAt e.intervals 8 24 + fieldAt e.ncCnt 8 16 + fieldAt ((look s.gv.late id).getD 0) 8 8 + (look s.gv.dropped id).getD 0
    else 0

/-- A governor register, by offset from 0x0180_0000. -/
def State.gvRead (s : State) (off : Nat) : Nat :=
  let g := s.gv
  if 0x10000 ≤ off then (if off < 0x18000 then s.epRead ((off - 0x10000) / 0x80) ((off - 0x10000) % 0x80) else 0)
  else if off = 0x000 then
    fieldAt (if s.role = .standby ∨ s.role = .offline then 3 else g.role) 2 14 + flagAt g.hostAbsent 13 + flagAt g.detSusp 12 +
      fieldAt g.know 2 10 + flagAt (g.alloc == 1) 9 + flagAt (g.timing == 1) 8 + flagAt s.drivesSnuff 7 + flagAt g.sense 6 +
      flagAt g.unattainable 5 + flagAt (g.floorLeft != 0) 4 + flagAt g.conflict 1 + flagAt g.ok 0
  else if off = 0x004 then s.rackId
  else if off = 0x008 then fieldAt g.shelf 2 8 + flagAt g.leadShelf.isSome 2 + (g.leadShelf.getD 0) % 4
  else if off = 0x00C then g.leadEpoch % 2 ^ 32
  else if off = 0x010 then ofSigned 32 g.budget
  else if off = 0x014 then ofSigned 32 g.pool
  else if off = 0x018 then ofSigned 32 g.known
  else if off = 0x01C then
    fieldAt (min (g.eps.filter (·.noncomp)).length 0xFF) 8 24 + fieldAt (min (g.eps.filter (·.stale)).length 0xFF) 8 16 +
      fieldAt g.eps.length 9 7 + g.poolReason
  else if off = 0x020 then ofSigned 64 g.validEnd % 2 ^ 32
  else if off = 0x030 then ofSigned 64 g.eOut % 2 ^ 32
  else if off = 0x038 then ofSigned 64 g.eIn % 2 ^ 32
  else if 0x100 ≤ off ∧ off < 0x140 then
    if off = 0x10C ∧ g.absentW = 0 then ofSigned 32 s.absentBudget else u g.defs (off - 0x100) 4
  else 0

end Sys2Proof.Machine
end

