-- ==== Sys2Proof/Machine/Rsa.lean ====
section
/-!
DEFINITION. RSASSA-PSS verification with an RSA-3072 key and SHA-256 (R414; RFC 8017, which the rule names, PRESUMED:
assumption 25), and key hashes.
-/

namespace Sys2Proof.Machine

open Sys2Proof

/-- b ^ e mod n for an exponent below 2^32. -/
def powMod (n b e : Nat) : Nat :=
  (List.range 32).foldr (fun k a => let q := a * a % n; if e.testBit k then q * b % n else q) (1 % n)

/-- MGF1 with SHA-256: n bytes from a seed. -/
def mgf1 (seed : Bytes) (n : Nat) : Bytes :=
  ((List.range ((n + 31) / 32)).flatMap (fun k => sha256 (seed ++ beBytes 4 k))).take n

/-- Bytewise exclusive or. -/
def xorBytes (a b : Bytes) : Bytes := (a.zip b).map (fun p => p.1 ^^^ p.2)

/-- EMSA-PSS verification of an encoded message of 384 bytes against a message hash, salt 32 bytes, 3,071 bits. -/
def pssOk (em mHash : Bytes) : Bool :=
  let masked := em.take 351
  let h := slice em 351 32
  let db := xorBytes masked (mgf1 h 351)
  let db0 := (db.headD 0) &&& 0x7F
  let db := db0 :: db.drop 1
  (slice em 383 1 == [0xBC]) && !bitAt (masked.headD 0).toNat 7 &&
    (db.take 318).all (· == 0) && (slice db 318 1 == [0x01]) &&
    (sha256 (List.replicate 8 0 ++ mHash ++ slice db 319 32) == h)

/-- RSASSA-PSS verification: modulus and signature of 384 bytes in big-endian order, message. -/
def rsaOk (modulus sig : Bytes) (e : Nat) (msg : Bytes) : Bool :=
  let n := beNat modulus
  let s := beNat sig
  decide (2 ^ 3071 ≤ n) && decide (s < n) && pssOk (beBytes 384 (powMod n s e)) (sha256 msg)

/-- The key hash of R414: SHA-256 of the modulus bytes followed by the exponent bytes. -/
def keyHash (modulus exponent : Bytes) : Bytes := sha256 (modulus ++ exponent)

end Sys2Proof.Machine
end

