-- ==== Sys2Proof/Machine/Recorder.lean ====
section
/-!
DEFINITION. The event recorder: flushes, the flash log, replacement requests of memories and links (R312 to R324; R381,
R382, R418, R419), and housekeeping averages that come with the millisecond.
-/

namespace Sys2Proof.Machine

open Sys2Proof

def State.setEv (s : State) (f : Recorder → Recorder) : State := { s with ev := f s.ev }
def State.setSe (s : State) (f : Security → Security) : State := { s with se := f s.se }
def State.setPins (s : State) (f : Pins → Pins) : State := { s with pins := f s.pins }

/-! ### Flash wear (R322, cause 3) -/

/-- An erase of a flash area, with the warning past 80,000 cycles. -/
def State.eraseArea (s : State) (a : Nat) : State :=
  let n := nth s.se.wear a 0 + 1
  let s := s.setSe (fun x => { x with wear := upd x.wear a (· + 1) })
  if n = 80001 then
    (s.record 0x0E03 1 kFlash a (leBytes 1 a ++ leBytes 3 0 ++ leBytes 4 n)).raiseCause 3 kNone 0
  else s

/-! ### Flushes (R315 to R318) -/

/-- Bytes of a used slot of the flash log. -/
def LogSlot.bytes : LogSlot → Bytes
  | .whole r => r.bytes
  | .cut b => b

/-- A flush begins: it copies every record accepted so far. -/
def Recorder.beginFlush (e : Recorder) : Recorder :=
  { e with flushing := true, flushDue := false, flushCount := e.unflushed, flushNo := e.flushNo + 1 }

/-- FLUSH: the flush that a trigger of R315 asks for; it waits while another runs or the log is erased. -/
def execFlush (s : State) : Host.Outcome State Fault Refusal :=
  .next (if s.ev.flushDue && !s.ev.flushing && !s.ev.clearing then s.setEv Recorder.beginFlush else s)

/-- Last slot of the flash log, kept for LOG_FULL. -/
def logLast : Nat := 262143

/-- Records the flush in progress copies, oldest first. -/
def Recorder.flushList (e : Recorder) : List Rec := (e.ring.drop (e.ring.length - e.unflushed)).take e.flushCount

/-- The entry a flush writes to the counter journal (R313, R419). -/
def State.journalNow (s : State) : Journal :=
  { opTime := s.ev.opTime, pwrCycles := s.ev.pwrCycles, nextSeq := s.ev.nextSeq, dropped := s.ev.dropped, authSeq := s.se.authSeq }

/-- Records appended to the flash log; the rest of a full log is counted, and LOG_FULL written into its last slot. -/
def State.appendLog (s : State) (l : List Rec) : State :=
  let l := match s.ev.clearedRec with
    | some r => if s.ev.log.isEmpty then r :: l.filter (fun x => x.seq != r.seq) else l
    | none => l
  let room := logLast - s.ev.log.length
  let lost := ((l.drop room).filter (fun r => r.code != 0x0803)).length
  let full := s.ev.logFull
  let s := s.setEv (fun e => { e with
    log := e.log ++ (l.take room).map LogSlot.whole, clearedRec := none, dropped := satAdd 32 e.dropped lost })
  if !full && decide (logLast ≤ s.ev.log.length) then
    let r := s.mkRec 0x0803 2 kFlash 1 []
    (s.record 0x0803 2 kFlash 1 []).setEv (fun e => { e with logFull := true, log := e.log ++ [.whole r] })
  else s

/-- A LOG_READ of the flash log copies and completes (R319, R381). -/
def State.endLogRead (s : State) (c : CmdHdr) (buf : Buf) (start count : Nat) (flushed : Bool) : State :=
  if start + count ≤ s.ev.log.length then
    (s.bufWrite buf (((s.ev.log.drop start).take count).flatMap LogSlot.bytes)).complete c
      (if flushed && s.ev.logFull then stLogFull else stOk) count
  else s.complete c stBadParam 0x18

/-- LOG_READs waiting for a flush that has ended. -/
def State.endLogReads (s : State) : State :=
  s.hq.inflight.foldl (fun s (f : Flight) => match f.wait with
    | .logRead buf start count k => if k ≤ s.ev.flushNo then s.endLogRead f.hdr buf start count true else s
    | _ => s) s

def execFlushEnd (s : State) : Host.Outcome State Fault Refusal :=
  if !s.ev.flushing || s.ev.clearing then .next s
  else
    let l := s.ev.flushList
    let s := (s.setEv (fun e => { e with flushing := false, unflushed := e.unflushed - l.length, flushCount := 0 })).appendLog l
    let s := (s.setEv (fun e => { e with journal := some s.journalNow })).endLogReads
    .next (if s.ev.flushDue then s.setEv Recorder.beginFlush else s)

/-! ### LOG_READ and LOG_CLEAR (R319, R320, R381, R382, R418, R419) -/

/-- The ring record of a SEQ. -/
def Recorder.bySeq (e : Recorder) (q : Nat) : Option Rec := e.ring.find? (fun r => r.seq == q % 2 ^ 32)

def execLogRead (h : CmdHdr) (buf : Buf) (source flush start count : Nat) (s : State) : Host.Outcome State Fault Refusal :=
  let seqs := (List.range count).map (fun k => start + k)
  .next (s.start h
    { op := 0x0803, early := true, zero := count == 0,
      chk := param (bufOk buf (64 * count)) 0x08 <|> param (source ≤ 1) 0x14
        <|> param (flush = 0 ∨ (flush = 1 ∧ source = 0)) 0x15
        <|> param (count ≤ (if source = 0 then 262144 else 1024)) 0x1C,
      chk6 :=
        if source = 1 then param (seqs.all (fun q => (s.ev.bySeq q).isSome)) 0x18
        else if flush = 1 then none else param (start + count ≤ s.ev.log.length) 0x18 }
    (fun s =>
      if source = 1 then
        (s.bufWrite buf (seqs.flatMap (fun q => ((s.ev.bySeq q).map Rec.bytes).getD []))).done h stOk count
      else if flush = 1 then
        (s.setEv (fun e => { e with flushDue := true })).await h 0x0803 (.logRead buf start count (s.ev.flushNo + 1))
      else s.endLogRead h buf start count false))

/-- A 32-bit number is newer than another in serial arithmetic (R137, R419). -/
def newer32 (a b : Nat) : Bool :=
  let d := (a + 2 ^ 32 - b % 2 ^ 32) % 2 ^ 32
  decide (1 ≤ d) && decide (d < 2 ^ 31)

/-- Offset of the first field of an owner authorisation found wrong (Table 18-3). -/
def authFault (b : Bytes) : Option Nat :=
  if u b 0 4 ≠ 0x41554F57 then some 0
  else if u b 4 2 ≠ 1 then some 4
  else if u b 6 2 ≠ 1 then some 6
  else if !zeros b 0x1C 100 then some 0x1C
  else none

/-- The authorisation verifies (R419). -/
def State.authOk (s : State) (b : Bytes) : Bool :=
  let at_ := u b 0x18 4
  (slice b 8 16 == s.se.serial) && decide ((s.ev.nextSeq + 2 ^ 32 - at_) % 2 ^ 32 ≤ 65535) && newer32 at_ s.se.authSeq &&
    rsaOk (slice s.se.running 0x390 384) (slice b 0x80 384) (s.se.run 0x510 4) (slice b 0 0x80)

def execLogClear (h : CmdHdr) (buf : Buf) (s : State) : Host.Outcome State Fault Refusal :=
  let b := s.bufRead buf 0 512
  .next (s.start h
    { op := 0x0804, chk := param (buf.len = 512) 0x10 <|> param (bufOk buf 512) 0x08,
      chk6 := need s.se.ownerHash.isSome stDenied 0
        <|> (match authFault b with
          | some o => some (stBadParam, 0x08 + o * 2 ^ 32)
          | none => none)
        <|> need (s.authOk b) stAuthFail 0 <|> need (!s.ev.clearing) stBusy 0 }
    (fun s =>
      let q := u b 0x18 4
      let s := s.setSe (fun x => { x with authSeq := q })
      let j := { (s.ev.journal.getD s.journalNow) with authSeq := q }
      ((s.setEv (fun e => { e with clearing := true, journal := some j })).eraseArea 1).await h 0x0804 .logClear))

def execLogClearDone (s : State) : Host.Outcome State Fault Refusal :=
  if !s.ev.clearing then .next s
  else
    let s := s.setEv (fun e => { e with clearing := false, log := [], logFull := false, dropped := 0, badCrc := 0 })
    let r := s.mkRec 0x0804 1 kFlash 1 []
    let s := (s.record 0x0804 1 kFlash 1 []).setEv (fun e => { e with clearedRec := some r })
    .next (s.completeWhere (· == Wait.logClear) stOk 0)

/-! ### Time and housekeeping (R313, R438, R450) -/

/-- OP_TIME_TICK: one more millisecond of operating time while VIN_MAIN is present, and the 1 ms averages of the die
temperature [0.01 °C] and the supplies [mV]. -/
def execOpTimeTick (die : Int) (vinMain vinAux : Nat) (s : State) : Host.Outcome State Fault Refusal :=
  let d := satI 16 die
  let s := s.setPins (fun p => { p with
    die := d, dieMax := max p.dieMax d, vinMain := min vinMain 65535, vinAux := min vinAux 65535 })
  .next (if s.rc.power = .run ∨ s.rc.power = .quiet then s.setEv (fun e => { e with opTime := (e.opTime + 1) % 2 ^ 48 }) else s)

/-- EV_CFG (Table 13-8). -/
def execEvCfg (data : Reg) (s : State) : Host.Outcome State Fault Refusal :=
  let v := bits data.toNat 2 0
  .next (if v ≤ 5 ∧ !s.rc.recovery then s.setEv (fun e => { e with minSev := v }) else s)

/-! ### Memories and links (R305, R322) -/

/-- DRAM_ERROR: `ue` uncorrectable; `ringWord` is the word of the Crucible ring it lies in, where it does. -/
def execDramError (ue : Bool) (channel addr : Nat) (ringWord : Option Nat) (s : State) : Host.Outcome State Fault Refusal :=
  if !ue then .next (s.setEv (fun e => { e with dramCe := e.dramCe + 1 }))
  else
    let s := match ringWord with
      | some w => s.setCr (fun r => { r with badWords := if r.badWords.contains w then r.badWords else w :: r.badWords })
      | none => s
    .next ((s.record 0x0E02 3 kDram channel (leBytes 8 addr)).raiseCause 2 kNone 0)

def execDramCeWindow (s : State) : Host.Outcome State Fault Refusal :=
  let n := s.ev.dramCe
  let s := s.setEv (fun e => { e with dramCe := 0 })
  .next (if 256 < n then (s.record 0x0E01 1 kNone 0 (leBytes 4 (min n (2 ^ 32 - 1)))).raiseCause 1 kNone 0
    else s.clearCause 1 kNone 0)

/-- SERDES_MARGIN: link 0 PCIe or 1 Ethernet; the 60 s average of its margin [% of a UI], or the end of an hour at or
above 20 %. -/
def execSerdesMargin (link margin : Nat) (hour : Bool) (s : State) : Host.Outcome State Fault Refusal :=
  if hour then
    let s := s.setEv (fun e => { e with marginLow := e.marginLow.filter (· != link) })
    .next (if s.ev.marginLow.isEmpty then s.clearCause 4 kLink link else s)
  else
    let s := if link = 0 then { s with hq := { s.hq with margin := margin % 256 } } else s
    if 20 ≤ margin ∨ s.ev.marginLow.contains link then .next s
    else
      let s := s.setEv (fun e => { e with marginLow := e.marginLow ++ [link] })
      .next ((s.record 0x0E04 1 kLink link (leBytes 1 margin)).raiseCause 4 kLink link)

/-! ### Registers (Tables 13-6 to 13-15) -/

/-- Causes that stand, as EV_REPLACE and BKUP[7] show them. -/
def Recorder.causeBits (e : Recorder) : Nat :=
  e.causes.foldl (fun a c => a ||| 2 ^ c) 0 ||| flagAt (!e.portCause.isEmpty) 5 ||| flagAt (!e.cellCause.isEmpty) 6

/-- Word w of the ports that causes 5 and 6 name. -/
def State.replacePorts (s : State) (w : Nat) : Nat :=
  (List.range 32).foldl (fun a b =>
    a + flagAt (s.ev.portCause.contains (32 * w + b) || s.ev.cellCause.contains (32 * w + b)) b) 0

/-- An event register, by offset from 0x01E0_0000. -/
def State.evRead (s : State) (off : Nat) : Nat :=
  let e := s.ev
  if off = 0x000 then
    fieldAt e.badCrc 16 16 + flagAt e.clearing 5 + flagAt e.ringOverwrite 4 + flagAt e.flushing 3 + flagAt e.replace 2 +
      flagAt e.restored 1 + flagAt e.logFull 0
  else if off = 0x004 then e.minSev
  else if off = 0x008 then e.nextSeq
  else if off = 0x00C then e.log.length
  else if off = 0x010 then e.dropped
  else if off = 0x014 then fieldAt e.ringOver 11 21 + fieldAt e.wrPos 10 11 + e.unflushed
  else if off = 0x018 then e.opTime % 2 ^ 32
  else if off = 0x020 then e.pwrCycles
  else if off = 0x024 then e.causeBits
  else if 0x030 ≤ off ∧ off ≤ 0x038 then s.replacePorts ((off - 0x30) / 4)
  else 0

end Sys2Proof.Machine
end

