-- ==== Sys2Proof/Machine/Image.lean ====
section
/-!
DEFINITION. Firmware images: verification, staging, commit (R385, R386, R413 to R423), the security version counter, and
what the module proves of itself over SPDM and JTAG (R428 to R431, R446).
-/

namespace Sys2Proof.Machine

open Sys2Proof

/-! ### Verification (R413 to R415) -/

/-- Largest image: 32 MiB. -/
def imageMax : Nat := 2 ^ 25

/-- Check 1 of R415: offset of the first field of the format found wrong. -/
def formatFault (b : Bytes) : Option Nat :=
  let body := u b 0x10 4
  if u b 0 4 ≠ 0x4B4D4C48 then some 0
  else if u b 4 2 ≠ 1 then some 4
  else if 3 < u b 6 2 then some 6
  else if 32 < u b 0x0C 1 then some 0x0C
  else if !zeros b 0x0D 3 then some 0x0D
  else if body = 0 ∨ 33550336 < body ∨ body % 4 ≠ 0 then some 0x10
  else if !zeros b 0x15 11 then some 0x15
  else if !zeros b 0x40 64 then some 0x40
  else if !zeros b 0x204 12 then some 0x204
  else if !zeros b 0x514 12 then some 0x514
  else if !zeros b 0x6A0 2400 then some 0x6A0
  else if b.length ≠ 4096 + body then some 0x10
  else none

/-- Check 2: the Hyeward root key and its signature over bytes 0x000 to 0x20F. -/
def Security.rootOk (x : Security) (b : Bytes) : Bool :=
  keyHash (slice b 0x80 384) (slice b 0x200 4) == x.rootHash &&
    rsaOk (slice b 0x80 384) (slice b 0x210 384) (u b 0x200 4) (slice b 0 0x210)

/-- Check 3: the owner countersign over bytes 0x000 to 0x51F, where an owner key is fused. -/
def Security.ownerOk (x : Security) (b : Bytes) : Bool := match x.ownerHash with
  | none => true
  | some k =>
    bitAt (u b 6 2) 0 && keyHash (slice b 0x390 384) (slice b 0x510 4) == k &&
      rsaOk (slice b 0x390 384) (slice b 0x520 384) (u b 0x510 4) (slice b 0 0x520)

/-- The first check of R415 that an image fails, with the offset of the field for check 1. -/
def Security.imageFault (x : Security) (b : Bytes) : Option (Nat × Nat) :=
  match formatFault b with
  | some o => some (1, o)
  | none =>
    if !x.rootOk b then some (2, 0)
    else if !x.ownerOk b then some (3, 0)
    else if u b 0x0C 1 < x.svn then some (4, 0)
    else if sha256 (b.drop 4096) ≠ slice b 0x20 32 then some (5, 0)
    else none

/-- The whole image the flash area holds: its length stands in its hallmark. -/
def Security.flashImage (x : Security) : Bytes :=
  Mem.readN 0xFF x.image 0 (min imageMax (4096 + leNat (Mem.readN 0xFF x.image 0x10 4)))

/-- Flash verification of the image area. -/
def Security.flashFault (x : Security) : Option (Nat × Nat) := x.imageFault x.flashImage

/-- The area as an interruption, or a write that fails, leaves it: a hallmark still erased over a part of the body whose
length is free (R422). -/
def State.imageCut (s : State) (b : Bytes) : State :=
  let (n, s) := s.freeNat
  let body := b.drop 4096
  s.setSe (fun x => { x with image := Mem.writeN 0xFF [] 4096 (body.take (n % (body.length + 1))), areaInvalid := true })

/-- Step 1 of R422: the area erased. -/
def State.imageErase (s : State) : State :=
  (s.setSe (fun x => { x with image := [], areaInvalid := true })).eraseArea 0

/-- The area written whole and read back (R422). -/
def State.imageWrite (s : State) (b : Bytes) : State :=
  s.setSe (fun x => { x with image := Mem.writeN 0xFF [] 0 b, areaInvalid := false })

/-! ### IMAGE_STAGE and IMAGE_COMMIT (R385, R386) -/

/-- Completion of IMAGE_STAGE for an image found wrong (R415). -/
def stageStatus : Nat × Nat → Nat × Nat
  | (1, o) => (stBadParam, 0x08 + o * 2 ^ 32)
  | (4, _) => (stDenied, 0)
  | _ => (stAuthFail, 0)

def execImageStage (h : CmdHdr) (buf : Buf) (s : State) : Host.Outcome State Fault Refusal :=
  let img := s.bufRead buf 0 buf.len
  .next (s.start h
    { op := 0x0A01,
      chk := need (decide (buf.len ≠ 0) && decide (buf.len ≤ imageMax)) stBadLength 0x10 <|> param (bufOk buf buf.len) 0x08,
      chk6 := need s.se.commit.isNone stBusy 0
        <|> (if h.checkOnly then (s.se.imageFault img).map stageStatus else none) }
    (fun s => (s.setSe (fun x => { x with staging := x.staging ++ [(some h, img)] })).await h 0x0A01 .imageStage))

/-- Completion of the first command in flight that waits so. -/
def State.completeFirst (s : State) (p : Wait → Bool) (status result : Nat) : State :=
  match s.hq.inflight.find? (fun f => p f.wait) with
  | some f => s.complete f.hdr status result
  | none => s

/-- Completion of a command that a reset may have ended. -/
def State.completeOpt (s : State) (h : Option CmdHdr) (status result : Nat) : State := match h with
  | some c => s.complete c status result
  | none => s

/-- IMAGE_STAGE_DONE: the oldest copy has been verified; an image accepted replaces the staged one. -/
def execImageStageDone (s : State) : Host.Outcome State Fault Refusal :=
  match s.se.staging with
  | [] => .next s
  | (h, b) :: r =>
    let s := s.setSe (fun x => { x with staging := r })
    match s.se.imageFault b with
    | some f => .next (s.completeOpt h (stageStatus f).1 (stageStatus f).2)
    | none => .next ((s.setSe (fun x => { x with staged := some b })).completeOpt h stOk (u b 0x0C 1))

def execImageCommit (h : CmdHdr) (activate : Nat) (s : State) : Host.Outcome State Fault Refusal :=
  .next (s.start h
    { op := 0x0A02, chk := param (activate ≤ 1) 0x08,
      chk6 := need s.se.staged.isSome stDenied 0
        <|> need (s.se.staging.isEmpty && s.se.commit.isNone) stBusy 0
        <|> need ((s.se.imageFault (s.se.staged.getD [])).isNone) stAuthFail 0 }
    (fun s =>
      ((s.setSe (fun x => { x with commit := some (activate == 1) })).imageErase).await h 0x0A02 (.imageCommit (activate == 1))))

/-- A command that commits an image. -/
def isCommit : Wait → Bool
  | .imageCommit _ => true
  | _ => false

/-- IMAGE_COMMIT_DONE: `good` when the image was written and its read-back verifies. -/
def execImageCommitDone (good : Bool) (s : State) : Host.Outcome State Fault Refusal :=
  match s.se.commit with
  | none => .next s
  | some act =>
    let b := s.se.staged.getD []
    let s := s.setSe (fun x => { x with commit := none })
    if good then
      let s := s.imageWrite b
      let s := { s with rc := { s.rc with imageChanged := true } }
      .next ((s.setSe (fun x => { x with activateDue := x.activateDue || act })).completeFirst isCommit stOk 0)
    else .next ((s.imageCut b).completeFirst isCommit stTimeout 0)

/-- SVN_RAISE: 60 s in RUN with an image that advances the counter (R417). -/
def execSvnRaise (s : State) : Host.Outcome State Fault Refusal :=
  let sec := s.se.run 0x0C 1
  .next (if s.rc.run ∧ bitAt (s.se.run 6 2) 1 ∧ s.se.svn < sec then
      s.setSe (fun x => { x with svn := sec, svnRaised := true })
    else s)

/-! ### SPDM (R429, R430) -/

/-- The DOE mailbox answers: not in the recovery loader, and with the security block and the host interface running. -/
def State.spdmOn (s : State) : Bool := !s.rc.recovery && s.rc.on 8 && s.rc.on 13

/-- An SPDM answer, where the mailbox answers. -/
def State.spdm (s : State) (a : SpdmAnswer) : State := if s.spdmOn then s.emit (.spdm a) else s

/-- The two certificates of the certificate area, device first, each preceded by its length (R428). -/
def Security.cert (x : Security) (k : Nat) : Bytes :=
  let n0 := leNat (Mem.readN 0xFF x.certs 0 4) % 65536
  let o := if k = 0 then 0 else 4 + n0
  Mem.readN 0xFF x.certs (o + 4) (leNat (Mem.readN 0xFF x.certs o 4) % 65536)

/-- The chain of slot 0: root, intermediate, device (Table 18-6). -/
def Security.chain (x : Security) : Bytes := Config.rootCert ++ x.cert 1 ++ x.cert 0

/-- The calibration page in use, whole. -/
def CalPage.usedPage (c : CalPage) : Bytes := Mem.readN 0xFF c.used 0 65536

/-- A measurement block (Table 18-7). -/
def State.measure (s : State) (k : Nat) : Bytes :=
  if k = 1 then s.se.romDigest
  else if k = 2 then s.se.digest
  else if k = 3 then s.se.storeDigest
  else if k = 4 then sha256 s.cal.usedPage
  else leBytes 1 s.se.svn ++ leBytes 1 (s.se.run 0x0C 1) ++
    leBytes 1 (flagAt s.se.ownerHash.isSome 0 + flagAt s.se.jtagLocked 1) ++ [0]

def execGetVersion (s : State) : Host.Outcome State Fault Refusal := .next (s.spdm (.version 0x12))

def execGetCapabilities (s : State) : Host.Outcome State Fault Refusal := .next (s.spdm (.capabilities true true true 20))

/-- NEGOTIATE_ALGORITHMS: whether the requester offers each algorithm the module has. -/
def execNegotiateAlgorithms (pss3072 sha256 dmtf : Bool) (s : State) : Host.Outcome State Fault Refusal :=
  .next (s.spdm (.algorithms pss3072 sha256 dmtf))

def execGetDigests (s : State) : Host.Outcome State Fault Refusal := .next (s.spdm (.digests 1 (sha256 s.se.chain)))

def execGetCertificate (slot off len : Nat) (s : State) : Host.Outcome State Fault Refusal :=
  let c := s.se.chain
  let p := (c.drop off).take len
  .next (s.spdm (if slot = 0 ∧ off < c.length then .certificate p (c.length - off - p.length) else .error))

/-- CHALLENGE: `summary` asks for no measurement summary (0), or for that of every block. The nonce and the signature of
the device key are free. -/
def execChallenge (slot summary : Nat) (s : State) : Host.Outcome State Fault Refusal :=
  if slot ≠ 0 then .next (s.spdm .error)
  else
    let n := s.freeBytes 32
    let g := n.2.freeBytes 384
    let sum := if summary = 0 then [] else sha256 ((List.range 5).flatMap (fun k => s.measure (k + 1)))
    .next (g.2.spdm (.challengeAuth (sha256 s.se.chain) n.1 sum g.1))

/-- GET_MEASUREMENTS: index 0 asks for the number of blocks, 0xFF for every block. -/
def execGetMeasurements (index : Nat) (signed : Bool) (s : State) : Host.Outcome State Fault Refusal :=
  let ks := if index = 0 then [] else if index = 0xFF then [1, 2, 3, 4, 5] else [index]
  if 5 < index ∧ index ≠ 0xFF then .next (s.spdm .error)
  else
    let bl := ks.map (fun k => (k, s.measure k))
    if signed then
      let n := s.freeBytes 32
      let g := n.2.freeBytes 384
      .next (g.2.spdm (.measurements 5 bl (some (n.1, g.1))))
    else .next (s.spdm (.measurements 5 bl none))

/-! ### JTAG (R431, R446) -/

/-- IDCODE (R446). -/
def Part.idcode (p : Part) : Nat := match p with
  | .csm480 => 0x04801D43
  | .csm240 => 0x02401D43

/-- JTAG_ACCESS: instruction 0 selects IDCODE and any other BYPASS, whose register captures 0. -/
def execJtagAccess (ir : Nat) (s : State) : Host.Outcome State Fault Refusal :=
  .next (s.emit (.jtag ir (if ir = 0 then s.part.idcode else 0)))

end Sys2Proof.Machine
end

