-- ==== Sys2Proof/Machine/Tether.lean ====
section
/-!
DEFINITION. The tether between the modules of a pair: roles, heartbeats, state copies, takeovers (chapter 11; R389).
-/

namespace Sys2Proof.Machine

open Sys2Proof

def State.setTeth (s : State) (f : Tether → Tether) : State := { s with teth := f s.teth }

def Role.code : Role → Nat
  | .starting => 0
  | .active => 1
  | .standby => 2
  | .offline => 3

/-- A state copy has been applied in the last 2 ms. -/
def State.copyFresh (s : State) : Bool := match s.teth.appliedAt with
  | some t => decide (s.clk.now ≤ t + 2000000)
  | none => false

/-- READY of Table 11-3; PORTS needs a cell map that names a port (Table 11-8 resets it to 0). -/
def State.ready5 (s : State) : Nat :=
  let map := (List.range s.part.ports).filter (fun p => (s.port p).kind != 0)
  flagAt (!map.isEmpty && map.all (fun p => (s.port p).state == .trained || (s.port p).state == .failed)) 0 +
    flagAt s.sh.storeOk 1 +
    flagAt (!s.le.table.ents.isEmpty) 2 + flagAt (s.role == .standby && s.copyFresh) 3 +
    flagAt (s.role == .standby && s.teth.appliedAt.isSome && !s.teth.formatMismatch) 4

/-- ARMED: 16 heartbeats from an ACTIVE partner, and READY bits 0 to 2 set (R280). -/
def State.isArmed (s : State) : Bool := s.teth.armed && s.ready5 % 8 == 7

/-- The role a module takes (R272); none enters STANDBY beside a partner of other capability sizes (R9). -/
def State.roleFor (s : State) : Role :=
  let waiting : Role := if s.teth.capsMismatch then .offline else .standby
  if !s.teth.trained || !s.teth.seen then .active
  else if s.teth.partnerRole = 1 then waiting
  else if s.teth.partnerRole = 0 then (if s.teth.slotB then waiting else .active)
  else .active

def execRoleDecision (s : State) : Host.Outcome State Fault Refusal :=
  if s.role ≠ .starting then .next s
  else match s.roleFor with
    | .active => .next s.becomeActive
    | r => .next { s with role := r }

/-! ### Training and frames (R274 to R277) -/

/-- Header of the module's tether TRAIN blocks: that of R135 for the tether's port, bit 9 once it has lock, FL_CAPS PORTS and
LE_CAPS SLOTS (R274). The tether's block of registers lies where port 80's would: it trains as port 80 (assumption 103). -/
def State.tetherTrainHeader (s : State) (lock : Bool) : Nat :=
  s.trainHeader 80 + flagAt lock 9 + fieldAt s.part.ports 8 24 + fieldAt s.part.slots 8 32

/-- D_T: half the mean of the round trips, in cycles (R274); a fraction is dropped (assumption 103). -/
def Tether.delay (t : Tether) : Nat := t.trips.sum / (2 * t.trips.length) % 400

/-- TETHER_TRAIN: `hdr` is the partner's TRAIN header, `heads` the last sync headers received, `trips` the round trips of 16
exchanges in cycles, `serial` the serial number it carries. The tether is trained once both ends have lock (R121, R135 step 2). CAPS_MISMATCH carries the partner's PORTS and SLOTS as two 4-byte numbers (assumption 90). -/
def execTetherTrain (hdr : Nat) (heads trips : List Nat) (serial : Bytes) (s : State) : Host.Outcome State Fault Refusal :=
  let ports := bits hdr 31 24
  let slots := bits hdr 39 32
  let bad := ports ≠ s.part.ports ∨ slots ≠ s.part.slots
  if !s.rc.tetherOn then .next s
  else
  let lock := gainsLock heads
  let s := s.emit (.tetherTrain (s.tetherTrainHeader lock))
  if !(lock && bitAt hdr 9) then .next s
  else
  let s := s.setTeth (fun t => { t with
    trained := true, seen := false, partnerPorts := ports, partnerSlots := slots, capsMismatch := decide bad, trips := trips
    partnerSerial := padTo 16 serial })
  .next (if bad then s.record 0x0104 1 kNone 0 (leBytes 4 ports ++ leBytes 4 slots) else s)

/-- Header of TETHER_FAST (Table 11-2). -/
def State.tetherHeader (s : State) : Nat :=
  let hand := match s.teth.hand with
    | .offered _ => true
    | .asked => true
    | _ => false
  fieldAt s.teth.epoch 16 24 + flagAt (s.le.frame % 2 == 0 && !(s.teth.partnerArmed && s.rc.beatHeld)) 23 + fieldAt s.role.code 2 21 + flagAt s.teth.slotB 20 +
    flagAt hand 19 + flagAt s.isArmed 18 + fieldAt s.le.frame 8 8

/-- Payload of TETHER_FAST (Table 11-3). -/
def State.tetherPayload (s : State) : Bytes :=
  leBytes 8 s.le.frame ++ leBytesI 4 (if s.active then s.sh.target else 0) ++
    leBytes 4 (fieldAt (if s.active then s.sh.slew else 0) 10 0 + fieldAt s.ready5 5 16)

/-- CRC of a TETHER_BULK frame (R278). -/
def bulkCrcOf (hdr : Nat) (data : Bytes) : Nat := crc32c (leBytes 1 0xA5 ++ leBytes 5 hdr ++ data)

/-- Blocks 4 to 24 of a tether period: the next chunk of the copy under way from the active, else IDLE (R275). -/
def State.bulkPart (s : State) : List Block := match s.teth.chunks with
  | (h, d) :: _ => if s.active then bulkBlocks h d (bulkCrcOf h d) else List.replicate 21 idleBlock
  | [] => List.replicate 21 idleBlock

/-- A chunk has left; HANDOVER is set once the copy of a planned takeover has been sent (R286 step 1). -/
def Tether.sent (t : Tether) : Tether :=
  let l := t.chunks.drop 1
  { t with chunks := l, hand := if l.isEmpty && t.hand == .copying then .offered t.epoch else t.hand }

/-- TETHER_FAST_SEND: one tether period of 25 blocks (R275). -/
def execTetherFastSend (s : State) : Host.Outcome State Fault Refusal :=
  if !s.teth.trained || !s.rc.tetherOn then .next s
  else
    let h := s.tetherHeader
    let b := s.tetherPayload
    let c := fastCrcOf 0x99 h b
    let r := scrambleBlocks s.teth.hist (fastBlocks 0x99 h b c ++ s.bulkPart)
    .next (((s.setTeth (fun t => { t.sent with hist := r.2 })).emit (.tetherFast h b c)).emit (.tetherLine r.1))

/-- Byte order of serial numbers: byte 0 first (R444). -/
def serialLt : Bytes → Bytes → Bool
  | a :: x, b :: y => if a = b then serialLt x y else decide (a.toNat < b.toNat)
  | [], _ :: _ => true
  | _, [] => false

/-- The slot in use, read from SLOT_SENSE, and settled by serial number where the partner carries the same SLOT (R444,
assumption 24). -/
def State.slotRule (s : State) (partnerB : Bool) : State :=
  let same := partnerB == s.teth.slotLevel
  let greater := serialLt s.teth.partnerSerial s.se.serial
  s.setTeth (fun t => { t with
    slotB := if same then greater else t.slotLevel, slotConflict := same && greater })

/-- A missed expected heartbeat: every second period after the last one. -/
def State.tetherMiss (s : State) : State :=
  s.setTeth (fun t =>
    let n := t.sinceHb + 1
    if n % 2 = 0 then { t with sinceHb := n, missRun := t.missRun + 1, missedHb := satInc 16 t.missedHb, hbRun := 0 }
    else { t with sinceHb := n })

/-- A standby in step with a planned takeover takes over once it has applied the copy sent before HANDOVER (R286 step 2). -/
def State.takeOffered (s : State) : State :=
  if s.role == .standby && s.teth.partnerHand && s.teth.partnerRole == 1 && s.copyFresh && s.teth.copyWhole then
    let s := s.takeover 2
    s.setTeth (fun t => { t with hand := .taken t.epoch })
  else s

/-- The new active of a failed handover idles and takes STANDBY (R286 step 4). -/
def State.yieldHandover (s : State) : State := match s.teth.hand with
  | .taken e =>
    if s.active && s.teth.partnerRole == 1 && newer s.teth.partnerEpoch e then
      (s.stepDown .standby).endTakeover stDenied ((s.trainedPorts.filter (fun p => (s.port p).epochObeyed != e)).length)
    else s
  | _ => s

/-- The heartbeat of a good frame (R277, R280, R285). -/
def State.heartbeat (s : State) : State :=
  let act := s.teth.partnerRole == 1
  let s := s.setTeth (fun t => { t with
    sinceHb := 0, missRun := 0, lost := false, seen := true, hbRun := if act then min (t.hbRun + 1) 16 else 0 })
  let s := s.clearCause 7 kNone 0
  let s := if s.role == .offline && act && !s.teth.capsMismatch then { s with role := .standby } else s
  if s.role == .standby && decide (16 ≤ s.teth.hbRun) then s.setTeth (fun t => { t with armed := true }) else s

/-- A standby whose start has come so far trains the ports that are still DOWN once its partner shows PORTS (R279). -/
def State.trainStandby (s : State) : State :=
  if s.role == .standby && decide (8 ≤ s.rc.startStep) && bitAt s.teth.partnerReady 0 then s.trainDown else s

/-- A standby follows the active's frame counter, bus target and slew (R276, Table 11-4). -/
def State.followActive (s : State) (b : Bytes) : State :=
  if s.role ≠ .standby ∨ s.teth.partnerRole ≠ 1 then s
  else
    let s := { s with le := { s.le with frame := u b 0 8 }, sh := { s.sh with target := i b 8 4, slew := u b 0x0C 4 % 2 ^ 10 } }
    s.aimAll

def execTetherFast (frame : Option FastFrame) (alignErr : Int) (s : State) : Host.Outcome State Fault Refusal :=
  if !s.teth.trained then .next s
  else match frame with
    | none => .next s.tetherMiss
    | some f =>
      if !goodFast 0x99 f then .next s.tetherMiss
      else
        let s := s.setTeth (fun t => { t with
          partnerEpoch := bits f.hdr 39 24, partnerRole := bits f.hdr 22 21, partnerSlotB := bitAt f.hdr 20
          partnerHand := bitAt f.hdr 19, partnerArmed := bitAt f.hdr 18, partnerReady := bits (u f.payload 0x0C 4) 20 16
          alignErr := satI 8 alignErr, seen := true })
        let s := s.slotRule (bitAt f.hdr 20)
        let s := if bitAt f.hdr 23 then s.heartbeat else s.tetherMiss
        let s := s.trainStandby.followActive f.payload
        let s := if s.active && s.teth.partnerHand && s.teth.partnerRole == 2 && s.teth.partnerArmed && s.teth.hand == .none then
            s.setTeth (fun t => { t with hand := .copyDue, failed := [] })
          else s
        .next s.yieldHandover.takeOffered

/-- PARTNER_LOST: an armed standby takes over (R277, R280). -/
def State.partnerLost (s : State) : State :=
  if !s.teth.seen || s.teth.lost then s
  else
    let armed := s.role == .standby && s.isArmed
    let s := s.setTeth (fun t => { t with
      lost := true, lostFlag := true, losses := satInc 8 t.losses, hbRun := 0, missRun := 8
      missedHb := satAdd 16 t.missedHb (8 - t.missRun) })
    let s := s.record 0x0C01 1 kNone 0 (leBytes 1 (if armed then 1 else 0))
    if armed then s.takeover 1 else s

def execPartnerLost (s : State) : Host.Outcome State Fault Refusal := .next s.partnerLost

def execPartnerReplace (s : State) : Host.Outcome State Fault Refusal :=
  .next (if s.teth.lost || !s.teth.seen then s.raiseCause 7 kNone 0 else s)

/-! ### State copies (R278, Table 11-4) -/

/-- The copy an active module sends. -/
def State.makeCopy (s : State) : StateCopy :=
  let ports := List.range s.part.ports
  { groups := s.groups.map (fun (G : Group) =>
      { state := G.state, startPend := G.startPend, wakePend := G.wakePend, toReg := G.toReg, autoTried := G.autoTried })
    retired := (ports.filter (fun p => (s.port p).retired)).map (fun p => (p, (s.port p).cause))
    failed := ports.filter (fun p => (s.port p).isCell && ((s.port p).state == .failed || (s.port p).state == .lost))
    pl := s.pl, gv := s.gv }

/-- The chunks of a copy: 112 bytes each, with COPY_SEQ, CHUNK, LAST and FORMAT in the header (R278). -/
def bulkChunks (seq format : Nat) (b : Bytes) : List (Nat × Bytes) :=
  let n := max 1 (min 2000 ((b.length + 111) / 112))
  (List.range n).map (fun k =>
    (fieldAt seq 16 24 + fieldAt k 12 12 + flagAt (k + 1 == n) 11 + fieldAt format 8 0, slice b (112 * k) 112))

/-- STATE_COPY_SEND: a copy is begun; its frames leave in the tether periods that follow (R275, R278). -/
def execStateCopySend (s : State) : Host.Outcome State Fault Refusal :=
  if !s.active || !s.teth.trained then .next s
  else
    let q := (s.teth.copySeq + 1) % 2 ^ 16
    let c := s.makeCopy
    let s := s.emit (.tetherCopy q s.se.copyFormat c)
    .next (s.setTeth (fun t => { t with
      copySeq := q, copyAt := some s.clk.now, chunks := bulkChunks q s.se.copyFormat (Config.copyBytes c)
      hand := match t.hand with
        | .copyDue => .copying
        | h => h }))

/-- The sequencer of a standby matches one group of the copy, sending nothing. A slot it closes for a group that is past its
start takes PRELOAD_OUT (assumption 105). -/
def State.matchGroup (s : State) (g : Nat) (c : GroupCopy) : State :=
  let s := s.setGroup g (fun G => { G with
    state := c.state, startPend := c.startPend, toReg := c.toReg, autoTried := c.autoTried
    wakePend := c.wakePend || (!c.startPend && c.state != .starting) })
  if c.state = .off ∨ c.state = .quenching ∨ c.state = .burstSleep ∨ c.startPend then s.openGroup g
  else if (s.slot (s.group g).voltSlot).closing then s.setGroup g (fun G => { G with wakePend := c.wakePend })
  else (s.closeGroup g).setGroup g (fun G => { G with startPend := c.startPend, wakePend := c.wakePend })

/-- The Planisher items of a copy (Table 11-4). -/
def Planisher.fromCopy (p c : Planisher) : Planisher :=
  { p with
    mode := c.mode, lim := c.lim, g := c.g, gPub := c.gPub, gReq := c.gReq, trim := c.trim, fills := c.fills, shed := c.shed
    fillReq := c.fillReq, offer := c.offer, budget := c.budget
    strs := p.strs.map (fun x => match look c.strs x.1 with
      | some r => (x.1, { x.2 with e := r.e, seed := r.seed, regd := r.regd })
      | none => x) }

/-- The governor items of a copy: lead role and epoch, budget and validity, pending requests, modes, endpoint table, energy
totals, SNUFF_OUT; compliance timers restart (R283). -/
def Governor.fromCopy (g c : Governor) : Governor :=
  { g with
    role := c.role, leadEpoch := c.leadEpoch, maxEpoch := max g.maxEpoch c.maxEpoch, leadShelf := c.leadShelf, lowMs := c.lowMs
    budgetMw := c.budgetMw, newBudget := c.newBudget, validEnd := c.validEnd, validMs := c.validMs, hostAbsent := c.hostAbsent
    never := c.never, pend := c.pend, seen := c.seen, timing := c.timing, alloc := c.alloc, know := c.know, detSusp := c.detSusp
    steady := c.steady, unattainable := c.unattainable, floorLeft := c.floorLeft, set_ := c.set_
    eps := c.eps.map (fun e => { e with tg := none, sent := none, ncOwn := false })
    eOut := c.eOut, eIn := c.eIn, rackOut := c.rackOut, rackIn := c.rackIn, snuffOut := c.snuffOut }

/-- A complete copy applied (R278). -/
def State.applyCopy (s : State) (q : Nat) (c : StateCopy) : State :=
  let s := (List.range 16).foldl (fun s g => s.matchGroup g (nth c.groups g {})) s
  let cell (p : Nat) (P : Port) : Port :=
    { P with retired := (look c.retired p).isSome, cause := (look c.retired p).getD P.cause, copyFailed := c.failed.contains p }
  let s := { s with ports := s.ports.mapIdx cell }
  let s := { s with rc := { s.rc with retiredBk := c.retired.map Prod.fst } }
  let s := (c.retired.filter (fun x => (s.group (s.port x.1).group).gtype == 1)).foldl
    (fun s x => s.openSlots [(s.port x.1).cellSlot]) s
  let s := { s with pl := s.pl.fromCopy c.pl, gv := s.gv.fromCopy c.gv }
  (s.setTeth (fun t => { t with copySeq := q, copyAt := some s.clk.now, appliedAt := some s.clk.now, copyWhole := true })).takeOffered

/-- A good TETHER_BULK frame: its blocks, its type, 112 bytes and their CRC (R278). -/
def goodBulk (f : BulkFrame) : Bool :=
  f.syncs == 2 :: List.replicate 20 1 && f.type == 0xA5 && f.data.length == 112 && f.crc == bulkCrcOf f.hdr f.data

/-- TETHER_BULK: one chunk of a copy, in a frame with its sync headers, its control block and its check. `copy` is what the bytes of the whole copy say, where it is the last chunk (assumption
22). -/
def execTetherBulk (syncs : List Nat) (type hdr : Nat) (data : Bytes) (crc : Nat) (copy : Option StateCopy) (s : State) :
    Host.Outcome State Fault Refusal :=
  let seq := bits hdr 39 24
  let chunk := bits hdr 23 12
  let last := bitAt hdr 11
  let format := bits hdr 7 0
  if s.role ≠ .standby ∨ ¬ s.teth.trained then .next s
  else if !goodBulk { syncs := syncs, type := type, hdr := hdr, data := data, crc := crc } then
    .next (s.setTeth (fun t => { t with bulkCrc := satInc 8 t.bulkCrc, rxGood := false, copyWhole := false }))
  else
    let first := chunk == 0
    let inOrder := first || (s.teth.rxGood && s.teth.rxSeq == seq && s.teth.rxNext == chunk)
    let s := s.setTeth (fun t => { t with rxSeq := seq, rxNext := chunk + 1, rxGood := inOrder, copyWhole := false })
    if !last || !inOrder then .next s
    else
      let s := s.setTeth (fun t => { t with rxGood := false, formatMismatch := decide (format ≠ s.se.copyFormat) })
      match copy with
      | some c => .next (if s.teth.formatMismatch then s else s.applyCopy seq c)
      | none => .next s

/-! ### Takeover (R284, R286, R287, R389) -/

/-- Ports of a list marked in FL_TETH_FAILED, with the takeover record and a replacement request for each. -/
def State.markFailed (s : State) (l : List Nat) : State :=
  let s := (s.setTeth (fun t => { t with failed := l })).record 0x0C02 2 kNone 0 (leBytes 1 s.teth.lastCause ++ leBytes 1 l.length)
  l.foldl (fun s p => s.raisePort 5 p) s

/-- A port that was TRAINED at the takeover reports an older epoch, or none: it is TRAINED still, or LOST already because its
frames show OBEYS = 0 (R142, R284). -/
def State.behind (s : State) (p : Nat) : Bool :=
  let P := s.port p
  (P.state == .trained || (P.state == .lost && decide (8 ≤ P.obeyRun))) && P.epochObeyed != s.teth.epoch &&
    (P.epochObeyed == 0 || !newer P.epochObeyed s.teth.epoch)

def execTakeoverPortCheck (s : State) : Host.Outcome State Fault Refusal :=
  let planned := match s.teth.hand with
    | .taken _ => true
    | _ => false
  if !s.active || !s.teth.checkDue || planned then .next s
  else
    let l := s.teth.checkPorts.filter s.behind
    let lost := l.filter (fun p => (s.port p).state == .trained)
    let s := (s.setTeth (fun t => { t with checkDue := false })).markFailed l
    .next (lost.foldl State.loseTrained s)

def execHandoverFail (s : State) : Host.Outcome State Fault Refusal :=
  match s.teth.hand with
  | .offered e =>
    if !s.active then .next s
    else
      let l := s.trainedPorts.filter (fun p => (s.port p).epochObeyed != nextEpoch e)
      if l.isEmpty then .next s
      else
        let s := (s.takeEpoch (nextEpoch (nextEpoch e))).setTeth (fun t => { t with lastCause := 4 })
        .next ((s.markFailed l).endTakeover stDenied l.length)
  | _ => .next s

def execTakeoverTimeout (s : State) : Host.Outcome State Fault Refusal :=
  match s.teth.hand with
  | .none => .next s
  | _ => .next (s.endTakeover stTimeout 0)

/-- A takeover is in progress: one asked for here or shown by the partner's HANDOVER, or one whose ports have still to switch
(R287). -/
def State.handing (s : State) : Bool :=
  s.teth.hand != .none || (s.teth.partnerHand && s.teth.seen && !s.teth.lost) || (s.active && s.teth.tkoAt.isSome)

/-- The pair can hand over: an armed standby and its active hear each other (R287). -/
def State.canHand (s : State) : Bool :=
  s.teth.trained && s.teth.seen && !s.teth.lost &&
    (if s.active then s.teth.partnerRole == 2 && s.teth.partnerArmed
     else s.role == .standby && s.isArmed && s.teth.partnerRole == 1)

def execTakeover (h : CmdHdr) (s : State) : Host.Outcome State Fault Refusal :=
  .next (s.start h { op := 0x0B03, chk6 := need (!s.handing) stBusy 0 <|> need s.canHand stDenied 0 }
    (fun s => (s.setTeth (fun t => { t with hand := if s.active then .copyDue else .asked, failed := [] })).await h 0x0B03 .takeover))

def execTakeoverForce (h : CmdHdr) (s : State) : Host.Outcome State Fault Refusal :=
  .next (s.start h
    { op := 0x0B03, chk := param (!s.active) 0x08
      chk6 := need (!s.handing) stBusy 0 <|> need (s.role == .standby && s.teth.trained) stDenied 0 }
    (fun s =>
      let s := (s.await h 0x0B03 .takeover).takeover 3
      let l := s.trainedPorts
      if l.isEmpty then s.endTakeover stOk 0 else s.setTeth (fun t => { t with hand := .forced l })))

/-! ### Registers (Tables 11-7 to 11-13) -/

/-- FL_TETH_STATE (Table 11-8). -/
def State.tethState (s : State) : Nat :=
  let t := s.teth
  fieldAt t.partnerReady 5 21 + fieldAt s.ready5 5 16 + fieldAt t.partnerRole 2 14 + fieldAt s.role.code 2 12 +
    flagAt (s.ev.causes.contains 7) 7 + flagAt t.capsMismatch 6 + flagAt t.formatMismatch 5 +
    flagAt (s.ports.any (fun (P : Port) => P.holdShort)) 4 + flagAt t.deposed 3 + flagAt t.lostFlag 2 + flagAt s.isArmed 1 +
    flagAt (t.trained && t.seen && !t.lost) 0

/-- A tether register, by offset from 0x0080_5000. -/
def State.tethRead (s : State) (off : Nat) : Nat :=
  let t := s.teth
  if off = 0x00 then s.tethState
  else if off = 0x04 then fieldAt (if s.role = .standby then t.delay else 0) 9 16 + ofSigned 8 t.alignErr
  else if off = 0x08 then fieldAt t.missedHb 16 16 + fieldAt t.bulkCrc 8 8 + fieldAt t.losses 8 0
  else if off = 0x0C then
    let age := match t.copyAt with
      | some a => min ((s.clk.now - a) / 1000000) 255
      | none => 255
    fieldAt t.copySeq 16 16 + fieldAt age 8 8 + s.se.copyFormat
  else if off = 0x10 then fieldAt t.takeovers 8 24 + fieldAt t.lastCause 8 16 + fieldAt t.lastSwitch 16 0
  else if 0x20 ≤ off ∧ off < 0x2C then s.portBits ((off - 0x20) / 4) (fun p => t.failed.contains p)
  else 0

end Sys2Proof.Machine
end

