-- ==== Sys2Proof/Machine/Reset.lean ====
section
/-!
DEFINITION. Resets: sources, scopes and what each loses, the reset ledger, block resets, the release sequence, clock
faults, supplies and the thermal trip (R345, R360, R387, R391 to R400, R405 to R410, R439, R442, R443, R450).
-/

namespace Sys2Proof.Machine

open Sys2Proof

def State.setRc (s : State) (f : ResetCtl → ResetCtl) : State := { s with rc := f s.rc }
def State.setHq (s : State) (f : HostIf → HostIf) : State := { s with hq := f s.hq }

/-! ### Scopes (R394, R395, Tables 17-1 and 17-5) -/

/-- Clock domains of the part. -/
def Part.domains (p : Part) : List Nat := List.range p.clockDomains

/-- Domains a step of Table 17-5 releases on the part. -/
def Part.stepDomains (p : Part) (step : Nat) : List Nat :=
  (if step = 1 then [2]
   else if step = 2 then [1]
   else if step = 3 then [3]
   else if step = 4 then 11 :: (List.range 8).map (· + 22) ++ (List.range 8).map (· + 32)
   else if step = 5 then [8]
   else if step = 6 then [7, 9, 10]
   else if step = 7 then [6]
   else if step = 8 then [5]
   else if step = 9 then [18, 19, 20, 21, 30, 31]
   else if step = 10 then [4]
   else if step = 11 then [12, 13]
   else if step = 12 then [14, 15, 16, 17]
   else []).filter (fun d => p.domains.contains d)

/-- Steps a scope performs; source 0 adds step 1. -/
def Scope.steps (c : Scope) (powerOn : Bool) : List Nat := match c with
  | .cold => (if powerOn then [1] else []) ++ [2, 3, 4, 5, 6, 7, 8, 9, 10, 11, 12]
  | .warm => [2, 3, 5, 6, 7, 8, 11, 12]
  | .host => [11]

/-- Steps whose domains a scope resets: a WARM reset stops no clock in step 2 and part of the network in step 3. -/
def Scope.resetSteps (c : Scope) (powerOn : Bool) : List Nat := match c with
  | .warm => [5, 6, 7, 8, 11, 12]
  | c => c.steps powerOn

/-- Domains a scope resets. -/
def Part.resetDomains (p : Part) (c : Scope) (powerOn : Bool) : List Nat := (c.resetSteps powerOn).flatMap p.stepDomains

/-- The step after a given one. -/
def Scope.after (c : Scope) (powerOn : Bool) (step : Nat) : Option Nat := (c.steps powerOn).find? (fun k => decide (step < k))

/-- A release from its first step. -/
def Scope.fresh (c : Scope) (powerOn asserted : Bool) : Release :=
  { scope := c, powerOn := powerOn, asserted := asserted, step := (c.steps powerOn).headD 0, tries := 0, stopped := false }

def scopeOf (code : Nat) : Scope := if code = 0 then .cold else if code = 1 then .warm else .host

/-- A record that the reset controller writes straight into the retained ring (R393, R394). -/
def State.hwRecord (s : State) (code sev : Nat) (noTime : Bool) (payload : Bytes) : State :=
  let r := s.mkRec code sev kNone 0 payload
  s.setEv (fun e => e.push (if noTime then { r with flags := r.flags / 4 * 4, calTime := 0 } else r))

/-! ### The reset ledger (R360) -/

/-- Every command in flight, in fetch order. -/
def HostIf.flights (q : HostIf) : List (Nat × CmdHdr) :=
  sortBy (fun a b => decide (a.1 < b.1)) (q.inflight.map (fun f => (f.no, f.hdr)) ++ q.parked.map (fun p => (p.no, p.hdr)))

/-- The commands in flight entered in the ledger; `cmd` is the RESET command that caused the reset. -/
def State.enterLedger (s : State) (scope source seq : Nat) (cmd : Option CmdHdr) : State :=
  s.hq.flights.foldl (fun s f =>
    let c := f.2
    if 512 ≤ s.hq.ledger.length then s.setHq (fun q => { q with ledgerLost := satInc 16 q.ledgerLost })
    else s.setHq (fun q => { q with ledger := q.ledger ++
      [{ tag := c.tag, queue := c.queue, sqIndex := c.sqIndex, status := if cmd = some c then stOk else stAborted
         scope := scope, source := source, seq := seq }] })) s

/-- Entries of a narrower reset that is still under way take the wider scope (R396). -/
def State.rescope (s : State) (scope : Nat) : State :=
  if s.rc.release.any (fun x => x.scope != .cold) then
    s.setHq (fun q => { q with ledger := q.ledger.map (fun e => if e.seq = s.rc.resetSeq then { e with scope := scope } else e) })
  else s

/-! ### What a reset loses (R345, R399, R409, R410, Table 17-11) -/

/-- Requests of this module's host that no command waits for any more. -/
def State.forget (s : State) (gone : CmdHdr → Bool) : State := { s with
  gv := { s.gv with own := s.gv.own.map (fun o => { o with hdr := o.hdr.filter (fun c => !gone c) }) }
  se := { s.se with staging := s.se.staging.map (fun x => (x.1.filter (fun c => !gone c), x.2)) } }

def State.forgetHost (s : State) : State := s.forget (fun _ => true)

/-- The high words latched from a range of addresses are lost with the block that holds them (R410). -/
def State.dropShadows (s : State) (lo hi : Nat) : State :=
  s.setHq (fun q => { q with shadows := q.shadows.filter (fun x => decide (x.1 < lo) || decide (hi ≤ x.1)) })

/-- The host interface reset (R345): queues, bootstrap registers, HQ_ERR, MSI-X table and link. -/
def State.resetHost (s : State) : State :=
  let q := s.hq
  ({ s with hq := { ledger := q.ledger, ledgerLost := q.ledgerLost, fetchNo := q.fetchNo, shadows := q.shadows } }).forgetHost

/-- Writes to flash under way stop where they are: a flush after a free number of records, a LOG_CLEAR after a free
number of slots, the calibration page and the image in a free place (R292, R318, R422, R423). -/
def State.flushCut (s : State) : State :=
  if !s.ev.flushing then s.setEv (fun e => { e with flushDue := false })
  else
    let n := s.freeNat
    let m := n.2.freeNat
    let c := m.2.freeBit
    let s := c.2
    let l := s.ev.flushList
    let k := n.1 % (l.length + 1)
    let s := s.setEv (fun e => { e with flushing := false, flushDue := false, flushCount := 0, unflushed := e.unflushed - k })
    let s := s.appendLog (l.take k)
    match l[k]? with
    | some r =>
      if c.1 && decide (s.ev.log.length < logLast) then
        s.setEv (fun e => { e with log := e.log ++ [.cut (r.bytes.take (1 + m.1 % 63) ++ List.replicate (63 - m.1 % 63) 0xFF)] })
      else s
    | none => s

def State.clearCut (s : State) : State :=
  if !s.ev.clearing then s
  else
    let n := s.freeNat
    n.2.setEv (fun e => { e with clearing := false, log := e.log.take (n.1 % (e.log.length + 1)) })

/-- An IMAGE_COMMIT stops where it is (Table 18-4). -/
def State.commitCut (s : State) : State :=
  if s.se.commit.isSome then (s.imageCut (s.se.staged.getD [])).setSe (fun x => { x with commit := none }) else s

def State.flashCut (s : State) : State :=
  let s := s.flushCut.clearCut.commitCut
  let s := match s.cal.writing with
    | some img => s.calCut img
    | none => s
  let s := if s.se.rcvState = 2 then s.imageCut (Mem.readN 0 s.hdma 0 s.se.rcvLen) else s
  s.setSe (fun x => { x with staging := [] })

/-- SNUFF_N released by the pin alone, PPS_OUT low (Table 17-7). -/
def State.dropPins (s : State) : State :=
  let s := if s.drivesSnuff then s.emit (.pin "SNUFF_N" true) else s
  let s := if s.pins.ppsOut then s.emit (.pin "PPS_OUT" false) else s
  s.setPins (fun p => { p with ppsOut := false })

/-- What survives of the network side where its domains alone are reset: keys, SEQ and replay records, PTP role and
domain. -/
def Gulene.relink (g : Gulene) : Gulene :=
  { mac := g.mac, rackKey := g.rackKey, rowKey := g.rowKey, seq := g.seq, quietTo := g.quietTo, replay := g.replay
    rackSource := g.rackSource, domain := g.domain, isolated := g.isolated }

/-- PTP timer and lock lost. -/
def State.losePtp (s : State) (cold : Bool) : State :=
  { s with clk := { s.clk with ptp := 0, ptpState := .free, ptpHeld := s.clk.ptpHeld && !cold, ptpFreq := 0, ptpFrac := 0 } }

/-- The Planisher's terms that are re-seeded (Table 17-11), the commands it has not yet taken up, and its flags and working
values, which lie in the governor's domain (R410). -/
def Planisher.reseed (p : Planisher) : Planisher :=
  { p with
    modeNext := none, limNext := none, resume := true, fills := [], trim := 0, fcWait := [], fcSum := 0, fcCnt := 0
    seeded := false, fcUsed := false, fcDropped := false, fcHold := false, fcErr := [], ride := false, dropRun := 0
    atFloor := false, atCeil := false, peers := [] }

/-- The Profile Engine over a WARM reset: a table with a period enters COAST, any other SEARCH (R198, Table 17-11); a plan not
yet activated goes (R208), and the counts of Table 8-20 run on from the cold reset (assumption 107). -/
def Profile.survive (p : Profile) : Profile :=
  let q : Profile := { cfg := p.cfg, learn := p.learn, locks := p.locks, losses := p.losses }
  if p.period = 0 ∨ p.state = .loading then q
  else
    { q with state := .coast, table := p.table, anchors := p.anchors, n := p.n, period := p.period, phase := p.phase,
             planned := p.planned }

/-- XIN 0 has no valid value: the Profile Engine does not run (Table 17-2). -/
def State.noForecast (s : State) : State := { s with le := { s.le with xinValid := setBit s.le.xinValid 0 false } }

/-- A COLD reset, or a loss of VIN_MAIN: everything but the retained domain, flash, fuses and pins. -/
def State.loseCold (s : State) : State :=
  let s := (s.flashCut.dropPins.resetHost).dropShadows 0 (2 ^ 26)
  let e := s.ev
  ({ s with
    role := .starting
    teth := { slotLevel := s.teth.slotLevel, slotB := s.teth.slotLevel, bkEpoch := s.teth.bkEpoch }
    le := {}, ports := List.replicate 80 {}, groups := List.replicate 16 {}, sh := {}, pf := {}, pl := {}, cr := {}
    gn := { mac := s.gn.mac, quietTo := s.clk.now + 1000000000 }, gv := { sense := s.gv.sense }, checkpoint := none, hdma := []
    ev := { e with minSev := 0, ringOver := 0, dramCe := 0, alert := e.replace, badCrc := 0,
                   dropped := (e.journal.map (fun (j : Journal) => j.dropped)).getD 0 }
    se := { s.se with
      running := [], digest := List.replicate 32 0, staged := none, imageBad := false, svnRaised := false,
      activateDue := false, rcvCause := 0, rcvLen := 0, rcvState := 0, rcvReason := 0 }
    pins := { s.pins with die := -32768, dieMax := -32768, vinMain := 0, vinAux := 0, ppsSeen := false, ppsTime := 0 }
    rc := { s.rc with
      start := .cold, startStep := 1, startAt := s.clk.now, runAt := 0, lastStartMs := 0, govRun := false, held := []
      badClk := [], inRelease := false, firstDomain := none, quietEn := true, quietDwell := 10, blockActive := false
      blockCode := 0, blockTries := 0, blockStopped := false, assayFail := false } }).losePtp true

/-- A WARM reset: management, governor, host interface and network. -/
def State.loseWarm (s : State) : State :=
  let s := ((s.flashCut.dropPins.resetHost).dropShadows 0 0x01D00000).dropShadows 0x01E00000 (2 ^ 26)
  let g := s.gv
  (({ s with
    teth := { s.teth with hand := .none }
    le := { s.le with assay := none }
    pf := s.pf.survive, pl := s.pl.reseed, gn := s.gn.relink
    gv := { ok := g.ok, defs := g.defs, sense := g.sense, reqId := g.reqId }
    cr := { s.cr with seen := s.cr.seen ||| 2 ^ 4 }
    ev := { s.ev with alert := s.ev.replace }
    se := { s.se with imageBad := false, svnRaised := false, activateDue := false }
    rc := { s.rc with
      start := .warm, startStep := 1, startAt := s.clk.now, runAt := 0, govRun := false, power := .run
      blockActive := false, blockTries := 0, blockStopped := false } }).losePtp false).noForecast

/-! ### Assertion (R394, R396, R404) -/

/-- A cold start cut off by a watchdog before RUN counts as failed (R404); the newest three are kept. -/
def State.countFailed (s : State) (src : Nat) : State :=
  if (src = 2 ∨ src = 3) ∧ s.rc.start = .cold then
    s.setRc (fun r => { r with failed := (r.failed ++ [s.ev.opTime % 2 ^ 32]).drop (r.failed.length + 1 - 3) })
  else s

/-- A reset meets one of equal or wider scope that is asserted or releasing; a sequence given up after three attempts
yields to RESET_N (R396, R398). -/
def ResetCtl.absorbs (r : ResetCtl) (src scope : Nat) : Bool := match r.release with
  | some x => decide (x.scope.code ≤ scope) && !(src == 1 && x.stopped && decide (3 ≤ x.tries))
  | none => false

/-- The scope a reset is performed at: WARM before a cold start has reached RUN is COLD (R396). -/
def ResetCtl.scopeNow (r : ResetCtl) (scope : Nat) : Nat :=
  if scope = 1 ∧ (r.start = .cold ∨ r.start = .recovery) then 0 else scope

/-- The RESET record: by the firmware for sources 4 and 5, otherwise by the reset controller (R394). -/
def State.resetRecord (s : State) (src scope block : Nat) : State :=
  let b := leBytes 1 src ++ leBytes 1 scope ++ leBytes 1 block
  if src = 4 ∨ src = 5 then s.record 0x0201 0 kNone 0 b else s.hwRecord 0x0201 0 false b

/-- The retained note of a reset (Tables 17-10, 17-15, 17-16). -/
def State.noteReset (s : State) (src scope block seq : Nat) : State :=
  s.setRc (fun r => { r with
    lastSource := src, lastScope := scope, lastBlock := block, resets := (r.resets + 1) % 65536, resetSeq := seq })

/-- The domains of a scope go into reset and their release begins with the end of assertion. -/
def State.holdScope (s : State) (c : Scope) (powerOn asserted : Bool) : State :=
  let d := s.part.resetDomains c powerOn
  s.setRc (fun r => { r with
    off := r.off.filter (fun k => !d.contains k) ++ d
    held := r.held.filter (fun k => !d.contains k), badClk := r.badClk.filter (fun k => !d.contains k), release := some (c.fresh powerOn asserted)
    power := if c = .cold then .run else r.power })

/-- A reset asserted from a source (R394 to R396); `held` keeps it asserted, `cmd` is the RESET command behind it. -/
def State.assertReset (s : State) (src scope0 : Nat) (held : Bool) (cmd : Option CmdHdr) : State :=
  let scope := s.rc.scopeNow scope0
  if s.rc.power = .aux ∨ s.rc.power = .off then s
  else if s.rc.absorbs src scope then
    s.setRc (fun r => { r with
      absorbed := satInc 16 r.absorbed
      release := if held then r.release.map (fun x => { x.scope.fresh x.powerOn true with tries := x.tries }) else r.release })
  else
    let c := scopeOf scope
    let seq := s.ev.nextSeq
    let s := ((s.resetRecord src scope 0).rescope scope).enterLedger scope src seq cmd
    let s := s.countFailed src
    let s := match c with
      | .cold => s.loseCold
      | .warm => s.loseWarm
      | .host => s.commitCut.resetHost
    ((s.noteReset src scope 0 seq).holdScope c false held)

/-! ### Reset commands and sources (R265, R386, R387, R394, R427) -/

def execReset (h : CmdHdr) (scope : Nat) (s : State) : Host.Outcome State Fault Refusal :=
  .next (s.start h { op := 0x0B01, early := true, chk := param (scope ≤ 2) 0x08 }
    (fun s => (s.await h 0x0B01 .reset).assertReset 4 scope false (some h)))

/-- IMAGE_ACTIVATE: the WARM reset that an IMAGE_COMMIT with ACTIVATE 1 asked for. -/
def execImageActivate (s : State) : Host.Outcome State Fault Refusal :=
  .next (if s.se.activateDue then (s.setSe (fun x => { x with activateDue := false })).assertReset 4 1 false none else s)

def execStewardWatchdog (s : State) : Host.Outcome State Fault Refusal := .next (s.assertReset 2 0 false none)

def execLoopWatchdog (s : State) : Host.Outcome State Fault Refusal := .next (s.assertReset 3 0 false none)

/-- PCIE_RESET: the PCIe base resets of R325, and PCIE_PERST_N (R437); one of them while a COLD or WARM reset keeps the
interface in reset is part of that reset (R396). -/
def execPcieReset (s : State) : Host.Outcome State Fault Refusal :=
  let part : Bool := match s.rc.release with
    | some r => r.scope != .host && !s.rc.on 13
    | none => false
  .next (if part then s else s.assertReset 6 2 false none)

/-- RESET_N at a level, low for a time: below 200 ns ignored, from 1 µs a COLD reset held until it rises, and between
them either (R394, R443). -/
def execResetN (lowNs : Nat) (high : Bool) (s : State) : Host.Outcome State Fault Refusal :=
  if s.pins.resetLow then
    if high then
      let s := (s.setPins (fun p => { p with resetLow := false })).setRc (fun r => { r with
        startAt := s.clk.now, release := r.release.map (fun x => { x with asserted := false }) })
      .next s
    else .next s
  else if lowNs < 200 then .next s
  else
    let f := if lowNs < 1000 then s.freeBit else (true, s)
    let s := f.2
    if !f.1 then .next s
    else
      let s := s.setPins (fun p => { p with resetLow := !high })
      .next (if s.rc.power = .aux ∨ s.rc.power = .off then s else s.assertReset 1 0 (!high) none)

def execSeRcvRetry (s : State) : Host.Outcome State Fault Refusal :=
  if !s.rc.recovery ∨ s.se.rcvState = 1 ∨ s.se.rcvState = 2 then .next s
  else .next ((s.setRc (fun r => { r with failed := [] })).assertReset 4 0 false none)

def execSeRcvRestart (s : State) : Host.Outcome State Fault Refusal :=
  if s.rc.recovery ∧ (s.se.rcvState = 3 ∨ s.se.rcvState = 4) then .next (s.assertReset 4 0 false none) else .next s

/-- Write of LOAD with the length in SE_RCV_LEN (R427). -/
def execSeRcvLoad (s : State) : Host.Outcome State Fault Refusal :=
  let x := s.se
  if !s.rc.recovery ∨ x.rcvState = 1 ∨ x.rcvState = 2 then .next s
  else if x.rcvLen < 4097 ∨ imageMax < x.rcvLen then .next (s.setSe (fun x => { x with rcvState := 4, rcvReason := 1 }))
  else .next (s.setSe (fun x => { x with rcvState := 1, rcvReason := 0 }))

/-- REASON of Table 18-17 for a check of R415. -/
def rcvReasonOf (check : Nat) : Nat := check + 1

/-- RECOVERY_WRITE_DONE: the end of VERIFYING, and then of WRITING with `good` telling the outcome (R422, R427). -/
def execRecoveryWriteDone (good : Bool) (s : State) : Host.Outcome State Fault Refusal :=
  let b := Mem.readN 0 s.hdma 0 s.se.rcvLen
  if !s.rc.recovery then .next s
  else if s.se.rcvState = 1 then
    match s.se.imageFault b with
    | some f => .next (s.setSe (fun x => { x with rcvState := 4, rcvReason := rcvReasonOf f.1 }))
    | none => .next (s.imageErase.setSe (fun x => { x with rcvState := 2 }))
  else if s.se.rcvState = 2 then
    if good then .next (((s.imageWrite b).setSe (fun x => { x with rcvState := 3 })).setRc (fun r => { r with failed := [] }))
    else .next ((s.imageCut b).setSe (fun x => { x with rcvState := 4, rcvReason := 7 }))
  else .next s

/-- Hosts' addresses are held by the current rack key; RESET_REQUEST names this module (R265). -/
def State.resetRequested (s : State) (m : GnMsg) : Bool :=
  m.sender == 0x300 && u m.body 0 1 == 2 && u m.body 2 1 == s.gnSelf - 0x200 &&
    s.gn.rackKey.cur.any (fun k => k.hostAddr == m.src)

/-- ALERT: a RESET_REQUEST that passes acts at receipt; the others join the receive queue (R265, R267). -/
def execAlert (m : GnMsg) (s : State) : Host.Outcome State Fault Refusal :=
  let r := s.gnCheck 8 m
  if !r.2 then .next r.1
  else if u m.body 0 1 ≠ 2 then .next (r.1.gnQueue 8 m)
  else if r.1.resetRequested m then
    let scope := u m.body 1 1
    .next ((r.1.record 0x0203 1 kNone 0 (leBytes 1 scope)).assertReset 5 scope false none)
  else .next r.1

/-! ### Block resets (R397, Table 17-4) -/

/-- Domains of a block code. -/
def blockDomains (b : Nat) : List Nat :=
  if b = 1 then [11] else if b = 2 then [5] else if b = 3 then [6] else if b = 4 then [14, 15, 16, 17]
  else if b = 5 then [8] else if b = 6 then [9] else []

/-- A domain's clock is good (R392): domains 12, 14 and 15 only while their link is up. -/
def State.clockGood (s : State) (d : Nat) : Bool :=
  d == 0 && !s.rc.badClk.contains 0 ||
    d != 0 && s.rc.on 1 && !s.rc.badClk.contains d && !s.rc.held.contains d && s.part.domains.contains d &&
      (if d = 12 then s.hq.speed != 0 else if d = 14 ∨ d = 15 then s.gn.linkUp else true)

/-- The block is idle (Table 17-4). -/
def State.blockIdle (s : State) (b : Nat) : Bool :=
  let none_ (l : List Nat) : Bool := s.hq.inflight.all (fun f => !l.contains f.op)
  none_ (blockOps b) &&
    (if b = 1 then s.cr.state == .idle || s.cr.state == .frozen
     else if b = 6 then !s.ev.flushing
     else true)

/-- What a block loses; the governor's cores lose their role and are restored from their checkpoint at release
(assumption 114). -/
def State.loseBlock (s : State) (b : Nat) : State :=
  if b = 1 then ({ s with cr := {} }).dropShadows 0x01D00000 0x01E00000
  else if b = 2 then
    { s with pf := { cfg := s.pf.cfg, learn := s.pf.learn, state := if s.pf.learn then .search else .idle,
                         locks := s.pf.locks, losses := s.pf.losses } }.noForecast.dropShadows 0x00D00000 0x00E00000
  else if b = 3 then
    let s := (s.dropLead.dropShadows 0x00C00000 0x00D00000).dropShadows 0x01800000 0x01A00000
    let g := s.gv
    { s with pl := s.pl.reseed, gv := { ok := g.ok, defs := g.defs, sense := g.sense, reqId := g.reqId } }
  else if b = 4 then (({ s with gn := s.gn.relink }).losePtp false).linkDown
  else if b = 5 then s.setSe (fun x => { x with staged := none, imageBad := false, svnRaised := false })
  else s

def execBlockReset (h : CmdHdr) (block : Nat) (s : State) : Host.Outcome State Fault Refusal :=
  .next (s.start h
    { op := 0x0B01, early := true,
      chk6 := param (decide (1 ≤ block) && decide (block ≤ 6)) 0x09
        <|> need (!s.rc.blockActive && s.rc.run) stBusy 0
        <|> need ((blockDomains block).all s.clockGood) stClockNotGood 0
        <|> need (s.blockIdle block) stBlockNotIdle 0 }
    (fun s =>
      let seq := s.ev.nextSeq
      let s := (s.resetRecord 4 4 block).await h 0x0B01 (.blockReset block)
      let s := (s.loseBlock block).noteReset 4 4 block seq
      s.setRc (fun r => { r with
        off := r.off ++ blockDomains block, blockActive := true, blockCode := block, blockTries := 0, blockStopped := false })))

/-- The governor's state from the newest checkpoint (R402): every item of Table 11-4 but the lead role, which passes by
election; grid target, trim and fills are re-seeded and the budget's validity restarts (Table 17-11). -/
def State.restoreCheckpoint (s : State) : State := match s.checkpoint with
  | none => s
  | some c =>
    let g := s.gv.fromCopy c.gv
    let g := { g with role := 0, leadShelf := none, lowMs := 0, snuffOut := false
                      validEnd := if g.hostAbsent then g.validEnd else s.clk.ptp + g.validMs * 1000000 }
    { s with pl := { s.pl.fromCopy c.pl with strs := s.pl.strs, fills := [], trim := 0, resume := true }, gv := g }

/-- A block comes out of reset and its command ends (R397). -/
def State.blockReleased (s : State) : State :=
  let b := s.rc.blockCode
  let s := s.setRc (fun r => { r with off := r.off.filter (fun d => !(blockDomains b).contains d), blockActive := false })
  let s := if b = 3 then s.restoreCheckpoint else s
  s.completeWhere (· == Wait.blockReset b) stOk 0

/-! ### Release (R398, Table 17-5) -/

/-- The note of a clock fault (R393, R398). -/
def State.clockFault (s : State) (d : Nat) (inRelease : Bool) : State :=
  (s.hwRecord 0x0202 3 true (leBytes 1 d)).setRc (fun r => { r with
    faults := satInc 16 r.faults, inRelease := r.inRelease || inRelease
    firstDomain := if r.firstDomain.isNone then some d else r.firstDomain })

/-- RELEASE_STEP of a scope's sequence, or of a BLOCK reset. `fault` names a domain whose clock dropped in the gap. -/
def execReleaseStep (block : Bool) (fault : Option Nat) (s : State) : Host.Outcome State Fault Refusal :=
  if block then
    if !s.rc.blockActive || s.rc.blockStopped then .next s
    else match fault with
      | none => .next s.blockReleased
      | some d =>
        .next ((s.clockFault d true).setRc (fun r => { r with blockTries := r.blockTries + 1, blockStopped := true }))
  else match s.rc.release with
    | none => .next s
    | some x =>
      if x.asserted || x.stopped then .next s
      else match fault with
        | some d =>
          .next ((s.clockFault d true).setRc (fun r => { r with
            release := some { x with tries := x.tries + 1, stopped := true } }))
        | none =>
          .next (s.setRc (fun r => { r with
            off := r.off.filter (fun d => !(s.part.stepDomains x.step).contains d)
            release := (x.scope.after x.powerOn x.step).map (fun k => { x with step := k }) }))

/-- RELEASE_RETRY: 100 ms after a fault the sequence runs again from its first step, twice at most. -/
def execReleaseRetry (block : Bool) (s : State) : Host.Outcome State Fault Refusal :=
  if block then
    .next (if s.rc.blockActive && s.rc.blockStopped && decide (s.rc.blockTries < 3) then
        s.setRc (fun r => { r with blockStopped := false })
      else s)
  else match s.rc.release with
    | some x =>
      .next (if x.stopped && decide (x.tries < 3) then
          s.setRc (fun r => { r with release := some { x.scope.fresh x.powerOn x.asserted with tries := x.tries } })
        else s)
    | none => .next s

/-- HELD (R393, R398). -/
def ResetCtl.heldFlag (r : ResetCtl) : Bool :=
  !r.held.isEmpty || r.release.any (fun x => x.stopped && decide (3 ≤ x.tries)) ||
    (r.blockActive && r.blockStopped && decide (3 ≤ r.blockTries))

/-! ### Clock faults while running (R393, Table 17-2) -/

/-- The action of Table 17-2 for a domain. -/
def State.clockAction (s : State) (d : Nat) : State :=
  if d = 5 then s.noForecast
  else if d = 11 then (if s.cr.state = .armed ∨ s.cr.state = .triggered then s.crFreeze else s)
  else if d = 12 ∨ d = 13 then s.setHq (fun q => { q with speed := 0, width := 0, flit := false })
  else if 14 ≤ d ∧ d ≤ 16 then s.linkDown.loseLock
  else if d = 17 then s.loseLock
  else if d = 18 then (s.setTeth (fun t => { t with trained := false })).partnerLost
  else if (22 ≤ d ∧ d ≤ 29) ∨ (32 ≤ d ∧ d ≤ 39) then s.raiseCause 2 kNone 0
  else if (19 ≤ d ∧ d ≤ 21) ∨ d = 30 ∨ d = 31 then
    (s.trainedPorts.filter (fun p => clusterOf p == d)).foldl State.loseTrained s
  else s

/-- RC_CLOCK_FAULT: a released domain becomes not good. With the clock monitor itself lost, a fault goes unseen; a PHY
whose link is down is not at fault (R392). -/
def execRcClockFault (domain : Nat) (s : State) : Host.Outcome State Fault Refusal :=
  let idlePhy := (domain == 12 && s.hq.speed == 0) || ((domain == 14 || domain == 15) && !s.gn.linkUp)
  if !s.part.domains.contains domain || !s.rc.on domain || !s.rc.on 1 || idlePhy then .next s
  else
    let s := (s.clockFault domain false).setRc (fun r => { r with held := r.held ++ [domain], badClk := r.badClk ++ [domain] })
    .next (s.clockAction domain)

/-! ### Supplies (R405, R406, R439, R442) -/

def execPfWarn (asserted : Bool) (s : State) : Host.Outcome State Fault Refusal :=
  let rise := asserted && !s.pins.pfWarn
  let s := s.setPins (fun p => { p with pfWarn := asserted })
  if !rise then .next s
  else
    let s := (s.record 0x0204 1 kNone 0 []).setEv (fun e => { e with flushDue := true })
    .next (s.setCr (fun r => { r with seen := r.seen ||| 2 ^ 3 }))

/-- Power loss with VIN_AUX kept: every domain but the retained one is held, the ledger takes scope 3 (R360, R406). -/
def State.powerLoss (s : State) : State :=
  if s.rc.power = .aux ∨ s.rc.power = .off then s
  else
    let seq := s.ev.nextSeq
    let s := ((s.resetRecord 7 3 0).rescope 3).enterLedger 3 7 seq none
    let s := (s.loseCold).noteReset 7 3 0 seq
    s.setRc (fun r => { r with power := .aux, release := none, off := s.part.domains.filter (fun d => d != 0 && d != 2) })

def execVinMainLoss (s : State) : Host.Outcome State Fault Refusal := .next s.powerLoss

/-- Return of VIN_MAIN with the retained domain valid: the COLD reset of source 7 is released (R394, R439). -/
def State.powerReturn (s : State) : State :=
  if (s.rc.power = .aux ∨ s.rc.power = .off) ∧ s.rc.valid then
    let s := s.setEv (fun e => { e with pwrCycles := min (e.pwrCycles + 1) (2 ^ 24 - 1) })
    let s := s.setRc (fun r => { r with startAt := s.clk.now })
    s.holdScope .cold false s.pins.resetLow
  else s

def execVinMainReturn (s : State) : Host.Outcome State Fault Refusal := .next (if s.pins.railOpen then s else s.powerReturn)

/-- The retained domain lost (R313, R407, R439): every field that lies in it. -/
def State.loseRetained (s : State) : State :=
  { s with
    teth := { s.teth with bkEpoch := 0 }
    ev := { log := s.ev.log, logFull := s.ev.logFull, journal := s.ev.journal }
    hq := { s.hq with ledger := [], ledgerLost := 0 }
    se := { s.se with authSeq := 0 }
    pins := { s.pins with tripped := false }
    rc := { s.rc with
      valid := false, lastSource := 0, lastScope := 0, lastBlock := 0, resets := 0, absorbed := 0, failed := [], faults := 0
      imageChanged := false, retiredBk := [], resetSeq := 0, firmware := List.replicate 17 0 } }

/-- RETAINED_LOSS: both supplies below 10.8 V; below 7.0 V (`deep`) the retained domain is lost, above it either. -/
def execRetainedLoss (deep : Bool) (s : State) : Host.Outcome State Fault Refusal :=
  let s := s.powerLoss
  let f := if deep then (true, s) else s.freeBit
  let s := f.2
  let s := if f.1 then s.loseRetained else s
  .next (s.setRc (fun r => { r with power := .off }))

/-- POWER_ON: the supplies rise with the retained domain invalid: COLD and the retained domain, source 0 (R394, R407).
Its RESET record follows the counters' restore, in the first start step (assumption 27). -/
def execPowerOn (s : State) : Host.Outcome State Fault Refusal :=
  if (s.rc.power = .aux ∨ s.rc.power = .off) ∧ !s.rc.valid ∧ !s.pins.railOpen then
    let s := s.loseRetained.setRc (fun r => { r with startAt := s.clk.now })
    .next (s.holdScope .cold true s.pins.resetLow)
  else .next s

/-! ### Temperature (R450) -/

def execTempHigh (up : Bool) (s : State) : Host.Outcome State Fault Refusal :=
  .next (s.setPins (fun p => { p with tempHigh := up }))

/-- THERMAL_TRIP: the main-rail switch opens, as if VIN_MAIN had fallen. -/
def execThermalTrip (s : State) : Host.Outcome State Fault Refusal :=
  .next (s.powerLoss.setPins (fun p => { p with tripped := true, railOpen := true, tempHigh := true }))

/-- THERMAL_RETURN: below 100 °C with VIN_MAIN present. -/
def execThermalReturn (s : State) : Host.Outcome State Fault Refusal :=
  .next (if s.pins.railOpen then (s.setPins (fun p => { p with railOpen := false, tempHigh := false })).powerReturn else s)

/-! ### Quiet (R405) -/

/-- Commands of the storage, profile and governor groups. -/
def quietOp (op : Nat) : Bool := op / 0x100 == 5 || op / 0x100 == 6 || op / 0x100 == 7

/-- QUIET_ENTER: every group has been OFF for QUIET_DWELL_S. A last LANTERN with ELIGIBLE 0 leaves first. -/
def execQuietEnter (s : State) : Host.Outcome State Fault Refusal :=
  if s.rc.power = .run ∧ s.rc.run ∧ s.rc.quietEn ∧ s.groups.all (fun (G : Group) => G.gtype == 0 || G.state == .off) ∧
      s.hq.inflight.all (fun f => !quietOp f.op) then
    let b := s.lanternBody
    let s := if s.canSend then s.rowSend (leBytes 1 (u b 0 1 / 2 * 2) ++ b.drop 1) else s
    .next ((s.setRc (fun r => { r with power := .quiet })).noForecast.loseLock)
  else .next s

/-- RC_PWR_CFG (R411, Table 17-20): a dwell of 0 is ignored; QUIET_EN 0 leaves Quiet. -/
def execRcPwrCfg (data : Reg) (s : State) : Host.Outcome State Fault Refusal :=
  let d := bits data.toNat 15 0
  let en := bitAt data.toNat 16
  if !s.bar0 || d == 0 then .next s
  else
    let s := s.setRc (fun r => { r with quietEn := en, quietDwell := d })
    .next (if en then s else s.leaveQuiet)

end Sys2Proof.Machine
end

