-- ==== Sys2Proof/Machine/Start.lean ====
section
/-!
DEFINITION. Cold and warm start: counters, scrub, image, configuration store and its sections, role, training, governor
start; checkpoints (R11, R95 to R97, R170, R215, R246, R313, R401 to R404, R407, R408, R420, R421).
-/

namespace Sys2Proof.Machine

open Sys2Proof

/-! ### The configuration store (Tables 4-2 to 4-5a) -/

/-- A section: type, offset of its header, length of its body. -/
structure StoreSec where
  type : Nat
  off : Nat
  len : Nat
deriving DecidableEq, Repr

def StoreSec.body (x : StoreSec) (b : Bytes) : Bytes := slice b (x.off + 16) x.len

/-- The first flaw of a list. -/
def flaws (l : List (Bool × Nat × Nat)) : Option (Nat × Nat) := (l.find? (fun x => !x.1)).map (·.2)

/-- The sections from an offset: they follow one another and end at LENGTH. The offset of a field found wrong otherwise. -/
def storeSecs (b : Bytes) (len : Nat) : Nat → Nat → Nat ⊕ List StoreSec
  | 0, off => if off = len then .inr [] else .inl 8
  | n + 1, off =>
    let l := u b (off + 4) 4
    if len < off + 16 then .inl off
    else if len < off + 16 + l then .inl (off + 4)
    else match storeSecs b len n (off + 16 + l) with
      | .inl o => .inl o
      | .inr r => .inr ({ type := u b off 2, off := off, len := l } :: r)

/-- The store as far as its header says, or its header alone. -/
def Security.storeBytes (x : Security) : Bytes :=
  let n := leNat (Mem.readN 0xFF x.store 8 4)
  Mem.readN 0xFF x.store 0 (if 0x40 ≤ n ∧ n ≤ 2 ^ 20 then n else 0x40)

/-- Reason 1: header and extent of the sections; the sections otherwise. -/
def storeHead (b : Bytes) : Nat ⊕ List StoreSec :=
  let len := u b 8 4
  if u b 0 4 ≠ 0x53534D43 then .inl 0
  else if u b 4 2 ≠ 1 then .inl 4
  else if u b 6 2 = 0 ∨ 32 < u b 6 2 then .inl 6
  else if b.length ≠ len then .inl 8
  else if crc32c (b.drop 0x10) ≠ u b 0x0C 4 then .inl 0x0C
  else storeSecs b len (u b 6 2) 0x40

/-- Offsets in the store of the records of a cell map. -/
def groupOff (cell g : Nat) : Nat := cell + 16 + 64 * g
def portOff (cell p : Nat) : Nat := cell + 16 + 1024 + 16 * p

/-- A group record (Table 4-4). -/
def groupRec (b : Bytes) : Group :=
  { gtype := u b 0 1, flags := u b 1 1, startOrder := u b 2 1, voltSlot := u b 3 1, currSlot := u b 4 1, pbMode := u b 5 1
    ratingW := u b 8 4, ratingMa := u b 0x0C 4, vnom := u b 0x10 4, vinMin := u b 0x14 4, vinMax := u b 0x18 4
    pbM := u b 0x1C 4, pbOut := u b 0x20 4, pbIn := u b 0x24 4, regBand := u b 0x28 4, regCount := u b 0x2C 2
    startMax := u b 0x2E 2, imbPct := u b 0x30 1, imbGate := u b 0x31 1, imbPersist := u b 0x32 2 }

/-- A port record (Table 4-5). -/
def portRec (b : Bytes) : Port :=
  { kind := u b 0 1, group := u b 1 1, phase := u b 2 1, cellSlot := u b 3 1, ratingMa := u b 4 4, ratingW := u b 8 4
    bridgeRec := u b 0x0C 2 }

/-- The cell map as records, with the store offset of its section. -/
structure CellMap where
  off : Nat
  groups : List Group
  ports : List Port

def CellMap.group (m : CellMap) (g : Nat) : Group := nth m.groups g {}
def CellMap.port (m : CellMap) (p : Nat) : Port := nth m.ports p {}

/-- Used groups, and cells of grid groups. -/
def CellMap.used (m : CellMap) : List Nat := (List.range 16).filter (fun g => (m.group g).gtype != 0)
def CellMap.gridCell (m : CellMap) (p : Nat) : Bool := (m.port p).isCell && (m.group (m.port p).group).gtype == 1

def cellMap (b : Bytes) (x : StoreSec) : CellMap :=
  { off := x.off
    groups := (List.range 16).map (fun g => groupRec (slice b (groupOff x.off g) 64))
    ports := (List.range 80).map (fun p => portRec (slice b (portOff x.off p) 16)) }

/-- Reserved bits of a source selector are 0, and its PICK is defined. -/
def selReserved (v : Nat) : Bool := bits v 31 18 == 0 && bits v 15 15 == 0 && decide (selPick v ≤ 2)

/-- A selector names nothing beyond the part (R11). -/
def Part.selCap (part : Part) (v : Nat) : Bool :=
  if selType v = 1 then decide (selIndex v < part.ports)
  else if selType v = 2 then decide (selIndex v < 16)
  else if selType v = 3 then decide (selIndex v < part.slots)
  else if selType v = 4 then decide (selIndex v < 32) else true

/-- Reason 4. -/
def reservedFlaw (b : Bytes) (secs : List StoreSec) (m : CellMap) : Option (Nat × Nat) :=
  flaws ([(zeros b 0x24 28, 4, 0x24)] ++
    secs.flatMap (fun x => [(zeros b (x.off + 2) 2, 4, x.off + 2), (zeros b (x.off + 0x0C) 4, 4, x.off + 0x0C)]) ++
    m.used.flatMap (fun g =>
      let o := groupOff m.off g
      [(decide ((m.group g).flags < 4), 4, o + 1), (zeros b (o + 6) 2, 4, o + 6),
       (selReserved (m.group g).pbOut, 4, o + 0x20), (selReserved (m.group g).pbIn, 4, o + 0x24),
       (zeros b (o + 0x34) 12, 4, o + 0x34)]) ++
    (List.range 80).map (fun p => (zeros b (portOff m.off p + 0x0E) 2, 4, portOff m.off p + 0x0E)))

/-- What a section other than the cell map names beyond the capability sizes (R11): slots, ports and groups of slot blocks,
slots of schedule entries, ports, groups and slots that a string record reads. A GUARD_SLOT beyond them refuses its section
alone, as R170 says (assumption 101). -/
def Part.sectionCaps (part : Part) (m : CellMap) (b : Bytes) (x : StoreSec) : List (Bool × Nat × Nat) :=
  let o := x.off + 16
  if x.type = 2 then
    (List.range (x.len / 576)).flatMap (fun k =>
      let o := o + 576 * k
      let dst := u b (o + 0x20) 4
      [(decide (u b o 1 < part.slots), 5, o)] ++
      [0x14, 0x18, 0x1C].map (fun f => (part.selCap (u b (o + f) 4), 5, o + f)) ++
      [(!(bits dst 3 0 == 1 || bits dst 3 0 == 2) || part.selCap dst, 5, o + 0x20)])
  else if x.type = 3 then (List.range (x.len / 8)).map (fun k => (decide (u b (o + 8 * k) 1 < part.slots), 5, o + 8 * k))
  else if x.type = 4 ∧ x.len = 576 then
    ((List.range 16).filter (fun g => (m.group g).gtype == 3)).map
      (fun g => (part.selCap (u b (o + 64 + 32 * g + 0x10) 4), 5, o + 64 + 32 * g + 0x10))
  else []

/-- Reason 5: ports, groups and slots beyond the capability sizes (R11), of the cell map and then of the other sections in
store order; 0xFF names no inner slot and no CELL_SLOT. -/
def Part.capsFlaw (part : Part) (b : Bytes) (secs : List StoreSec) (m : CellMap) : Option (Nat × Nat) :=
  flaws (m.used.flatMap (fun g =>
      let o := groupOff m.off g
      let G := m.group g
      [(decide (G.voltSlot < part.slots), 5, o + 3), (decide (G.currSlot < part.slots) || G.currSlot == 0xFF, 5, o + 4),
       (part.selCap G.pbOut, 5, o + 0x20), (part.selCap G.pbIn, 5, o + 0x24)]) ++
    (List.range 80).flatMap (fun p =>
      let o := portOff m.off p
      let P := m.port p
      [(P.kind == 0 || decide (p < part.ports), 5, o), (!P.isCell || decide (P.group < 16), 5, o + 1),
       (decide (P.cellSlot < part.slots) || P.cellSlot == 0xFF, 5, o + 3)]) ++
    secs.flatMap (part.sectionCaps m b))

/-- Reason 6. -/
def rangeFlaw (m : CellMap) : Option (Nat × Nat) :=
  flaws (m.used.flatMap (fun g =>
      let o := groupOff m.off g
      let G := m.group g
      [(decide (G.gtype ≤ 3), 6, o), (decide (G.startOrder ≤ 15), 6, o + 2), (decide (G.pbMode ≤ 1), 6, o + 5),
       (decide (G.vinMin ≤ G.vinMax), 6, o + 0x14), (decide (selType G.pbOut ≤ 4), 6, o + 0x20),
       (decide (selType G.pbIn ≤ 4), 6, o + 0x24), (G.regCount != 0, 6, o + 0x2C), (G.startMax != 0, 6, o + 0x2E),
       (decide (G.imbPct ≤ 100), 6, o + 0x30), (decide (G.imbGate ≤ 100), 6, o + 0x31)]) ++
    (List.range 80).flatMap (fun p =>
      let o := portOff m.off p
      let P := m.port p
      [(decide (P.kind ≤ 2), 6, o), (P.isCell || P.group == 0xFF, 6, o + 1),
       (if m.gridCell p then decide (P.phase ≤ 2) else P.phase == 0xFF, 6, o + 2)]))

/-- Offset in a slot-images section's body of the field for which LOOP_LOAD would refuse it (R97, R370); `hd` stands for a
length its header gives wrong. -/
def Part.imagesFault (part : Part) (body : Bytes) : Option (Bool × Nat) :=
  if body.isEmpty || body.length % 576 != 0 || decide (part.slots < body.length / 576) then some (true, 4)
  else (part.blocksFault (blocksOf body (body.length / 576))).map (fun o => (false, o))

/-- Blocks of the slot-images sections that are not refused, in store order. -/
def Part.storeBlocks (part : Part) (b : Bytes) (secs : List StoreSec) : List Bytes :=
  (secs.filter (fun x => x.type == 2 && (part.imagesFault (x.body b)).isNone)).flatMap
    (fun x => blocksOf (x.body b) (x.len / 576))

/-- A slot as the store's blocks would load it. -/
def slotImage (blocks : List Bytes) (k : Nat) : Option Slot :=
  ((blocks.filter (fun b => u b 0 1 == k)).getLast?).map (fun b => ({} : Slot).apply (blockLoad b))

/-- A test on a slot's image, passed where the store carries none (R92). -/
def imageOk (blocks : List Bytes) (k : Nat) (test : Slot → Bool) : Bool := match slotImage blocks k with
  | some x => test x
  | none => true

/-- Slots that the records name, with the offset of the field (R93). -/
def CellMap.named (m : CellMap) : List (Nat × Nat) :=
  m.used.flatMap (fun g =>
    let G := m.group g
    [(G.voltSlot, groupOff m.off g + 3)] ++ (if G.gtype = 1 then [] else [(G.currSlot, groupOff m.off g + 4)])) ++
  ((List.range 80).filter m.gridCell).map (fun p => ((m.port p).cellSlot, portOff m.off p + 3))

/-- Reason 7: the load checks of R92, and R93. The slot of a retired grid cell is not required. -/
def structFlaw (blocks : List Bytes) (retired : List Nat) (m : CellMap) : Option (Nat × Nat) :=
  flaws (m.used.flatMap (fun g =>
      let o := groupOff m.off g
      let G := m.group g
      [(imageOk blocks G.voltSlot (outerOk G.gtype g), 7, o + 3), ((G.currSlot == 0xFF) == (G.gtype == 1), 7, o + 4),
       (G.gtype == 1 || imageOk blocks G.currSlot (innerOk G.gtype g 0 G.voltSlot), 7, o + 4)]) ++
    (List.range 80).flatMap (fun p =>
      let P := m.port p
      let o := portOff m.off p + 3
      [((P.cellSlot != 0xFF) == m.gridCell p, 7, o),
       (!m.gridCell p || retired.contains p || imageOk blocks P.cellSlot (innerOk 1 P.group p (m.group P.group).voltSlot), 7, o)]) ++
    m.named.zipIdx.map (fun x => (!((m.named.take x.2).any (fun y => y.1 == x.1.1)), 7, x.1.2)))

/-- Reason 8. -/
def memberFlaw (m : CellMap) : Option (Nat × Nat) :=
  flaws ((List.range 80).map (fun p =>
      (!(m.port p).isCell || (m.group (m.port p).group).gtype != 0, 8, portOff m.off p + 1)) ++
    m.used.map (fun g => ((List.range 80).any (fun p => (m.port p).isCell && (m.port p).group == g), 8, groupOff m.off g)))

/-- Reasons 9 and 10. -/
def busFlaw (b : Bytes) : Option (Nat × Nat) :=
  let lo := u b 0x18 4
  let hi := u b 0x1C 4
  flaws [(decide (40000 ≤ lo) && decide (lo ≤ 60000), 9, 0x18), (decide (40000 ≤ hi) && decide (hi ≤ 60000), 9, 0x1C),
    (decide (lo ≤ u b 0x14 4) && decide (u b 0x14 4 ≤ hi), 9, 0x14),
    (decide (1 ≤ u b 0x20 4) && decide (u b 0x20 4 ≤ 1000), 10, 0x20)]

/-- The store's check (R96): its sections and cell map, or reason and offset of the first condition found. -/
def Part.storeCheck (part : Part) (retired : List Nat) (b : Bytes) : (Nat × Nat) ⊕ (List StoreSec × CellMap) :=
  match storeHead b with
  | .inl o => .inl (1, o)
  | .inr secs =>
    match flaws (secs.flatMap (fun x =>
        [(decide (1 ≤ x.type) && decide (x.type ≤ 5), 2, x.off), (crc32c (x.body b) == u b (x.off + 8) 4, 2, x.off + 8)])) with
    | some r => .inl r
    | none =>
      match secs.filter (fun x => x.type == 1) with
      | [x] =>
        if x.len ≠ 2304 then .inl (3, x.off + 4)
        else
          let m := cellMap b x
          match reservedFlaw b secs m <|> part.capsFlaw b secs m <|> rangeFlaw m
              <|> structFlaw (part.storeBlocks b secs) retired m <|> memberFlaw m <|> busFlaw b with
          | some r => .inl r
          | none => .inr (secs, m)
      | [] => .inl (3, 6)
      | _ :: y :: _ => .inl (3, y.off)

/-! ### What an accepted store sets (R96, R97, R108, R114, R161, R213) -/

/-- Voltage limits of Table 6-5, string windows apart. -/
def voltLimits (gtype vnom vmin vmax : Nat) : Int × Int :=
  if gtype = 1 then ((vnom * 106 / 100 : Nat), (vnom * 90 / 100 : Nat))
  else if gtype = 2 then ((vmax + 2000 : Nat), (vmin * 80 / 100 : Nat))
  else (0, 0)

/-- PT_COOL_SRC at cold start: channels 0 to 2 of the lowest port with KIND 2, PICK LATEST; else NONE (R160). -/
def CellMap.coolSrc (m : CellMap) : List Reg :=
  match (List.range 80).find? (fun p => (m.port p).kind == 2) with
  | some p => (List.range 3).map (fun i => BitVec.ofNat 32 (1 + p * 2 ^ 4 + i * 2 ^ 12))
  | none => [0, 0, 0]

/-- Header and cell map in force. 4 % of the bus groups' ratings is rounded down (assumption 102). PT_BUS_VSET and PT_BUS_SLEW
keep their reset values: the target and slew in force stand apart from them (R108, R118). -/
def State.putStore (s : State) (b : Bytes) (m : CellMap) : State :=
  let rating := u b 0x10 4
  let enter := m.groups.foldl (fun a (G : Group) => if G.gtype = 2 then a + G.ratingW else a) 0 * 4 / 100
  let lim := fun (G : Group) => voltLimits G.gtype G.vnom (u b 0x18 4) (u b 0x1C 4)
  { s with
    groups := m.groups.map (fun (G : Group) => if G.gtype = 0 then {} else { G with ov := (lim G).1, uv := (lim G).2 })
    ports := m.ports
    pf := { s.pf with cfg := { s.pf.cfg with spreadMax := rating * 5 / 100 } }
    sh := { s.sh with
      storeOk := true, ratingW := rating, busVnom := u b 0x14 4, busVmin := u b 0x18 4, busVmax := u b 0x1C 4
      target := u b 0x14 4, slew := u b 0x20 4, burstEnter := enter, useEnter := enter, coolSrc := m.coolSrc } }

/-- STORE_REFUSED or the store in force, and the digest of measurement 3 (Table 18-7). -/
def State.loadStore (s : State) : State :=
  let b := s.se.storeBytes
  match s.part.storeCheck s.rc.retiredBk b with
  | .inl (r, o) =>
    (s.setSe (fun x => { x with storeDigest := sha256 [] })).record 0x0102 1 kNone 0 (leBytes 4 r ++ leBytes 4 o)
  | .inr (_, m) => (s.setSe (fun x => { x with storeDigest := sha256 b })).putStore b m

/-- A section refused alone (R97), or one that the store does not hold. -/
def State.sectionRefused (s : State) (type off : Nat) : State :=
  s.record 0x0103 1 kNone 0 (leBytes 1 type ++ List.replicate 3 0 ++ leBytes 4 off)

/-- Sections of the store in force, with whether an earlier one has the same type. -/
def State.sections (s : State) (b : Bytes) : List (StoreSec × Bool) :=
  if !s.sh.storeOk then []
  else match storeHead b with
    | .inl _ => []
    | .inr l => l.zipIdx.map (fun x => (x.1, (l.take x.2).any (fun y => y.type == x.1.type)))

/-- Index in the table of the entry a refusal names. -/
def badEntry (t : List SchedEnt) (r : SchedRefusal) : Nat :=
  ((List.range t.length).find? (fun j => (nth t j ⟨0, 0, 0, 0, 0⟩).pipe == r.pipe && SchedCtx.indexIn t j == r.entry)).getD 0

/-- A slot-images section (R97). -/
def State.putImages (s : State) (b : Bytes) (x : StoreSec) : State :=
  match s.part.imagesFault (x.body b) with
  | some (hd, o) => s.sectionRefused 2 (if hd then x.off + o else x.off + 16 + o)
  | none => s.handBlocks (blocksOf (x.body b) (x.len / 576))

/-- A schedule section (R97): what LOOP_SCHEDULE would refuse is refused. -/
def State.putSchedule (s : State) (b : Bytes) (x : StoreSec) (again : Bool) : State :=
  let t := entriesOf (x.body b) (x.len / 8)
  if again then s.sectionRefused 3 x.off
  else if x.len = 0 ∨ x.len % 8 ≠ 0 ∨ 256 * s.part.pipes < x.len / 8 then s.sectionRefused 3 (x.off + 4)
  else match s.schedCtx.check true t with
    | some r => (s.noteRefusal r).sectionRefused 3 (x.off + 16 + 8 * badEntry t r)
    | none => s.acceptTable t

/-- Default telemetry sources of a group, set once the slots are loaded (R296). -/
def State.groupSources (s : State) (g : Nat) : State :=
  let G := s.group g
  if G.gtype = 0 then s
  else
    let sel (k : Nat) : Nat := (s.slot k).meas
    let ch : Option Nat := ((s.members g).head?).bind (fun p =>
      let v := sel (s.port p).cellSlot
      if selType v = 1 ∨ selType v = 2 then some (selChannel v) else none)
    let iSrc : Nat := if G.gtype = 1 then (match ch with
        | some c => 2 + g * 2 ^ 4 + c * 2 ^ 12
        | none => 0)
      else sel G.currSlot
    let v := BitVec.ofNat 32 G.pbOut
    let i := srcMask (BitVec.ofNat 32 iSrc)
    let p : Reg := if G.gtype = 1 then BitVec.ofNat 32 (2 + g * 2 ^ 4 + 7 * 2 ^ 12 + 2 * 2 ^ 16) else 0
    s.setGroup g (fun G => { G with vSrc := v, iSrc := i, pSrc := p, vUse := v, iUse := i, pUse := p })

/-- Step 8: slot images, then the schedule. -/
def State.loadLoops (s : State) : State :=
  let b := s.se.storeBytes
  let l := s.sections b
  let s := (l.filter (fun x => x.1.type == 2)).foldl (fun s x => s.putImages b x.1) s
  let s := (l.filter (fun x => x.1.type == 3)).foldl (fun s x => s.putSchedule b x.1 x.2) s
  (List.range 16).foldl State.groupSources s

/-- Without limits the Planisher runs in OFF, with no string record and no voltage limits of strings (R170). -/
def State.noLimits (s : State) : State :=
  s.setPl (fun p => { p with mode := 2, lim := limDefaults s.sh.ratingW, strs := [] })

/-- First flaw of the string records of the storage groups, as an offset in the section's body. -/
def State.stringFlaw (s : State) (body : Bytes) : Option Nat :=
  let free (k : Nat) : Bool := decide (k < s.part.slots) && (s.groupsOfSlot k).isEmpty
  (List.range 16).findSome? (fun g =>
    if (s.group g).gtype = 3 then (s.part.strFault free (slice body (64 + 32 * g) 32)).map (fun o => 64 + 32 * g + o) else none)

/-- A limits section; the guard slots close as it is accepted (R170, R171, R186; Table 6-5). -/
def State.putLimits (s : State) (b : Bytes) (x : StoreSec) (again : Bool) : State :=
  let body := x.body b
  if again then s.sectionRefused 4 x.off
  else if x.len ≠ 576 then (s.noLimits).sectionRefused 4 (x.off + 4)
  else match limParse s.sh.ratingW (slice body 0 64), s.stringFlaw body with
    | .inl o, _ => (s.noLimits).sectionRefused 4 (x.off + 16 + o)
    | _, some o => (s.noLimits).sectionRefused 4 (x.off + 16 + o)
    | .inr l, none =>
      let strs := ((List.range 16).filter (fun g => (s.group g).gtype == 3)).map
        (fun g => (g, strParse (slice body (64 + 32 * g) 32)))
      let s := s.setPl (fun p => { p with mode := nth l 19 0, lim := l, strs := strs })
      strs.foldl (fun s x => s.setGroup x.1 (fun G =>
        { G with ov := divFloor (x.2.vTop * 102) 100, uv := divFloor (x.2.vBot * 98) 100 })) (strs.foldl (fun s x => s.closeGuard x.2) s)

/-- Without a defaults section the governor takes no part in any rack (R215). -/
def State.noDefaults (s : State) : State :=
  { s with gv := { s.gv with ok := false }, pl := { s.pl with budget := s.sh.ratingW } }

/-- The governor's modes as its section in force gives them. -/
def Governor.initial (g : Governor) : Governor := { g with timing := g.d 0x06 1, alloc := g.d 0x07 1, know := g.d 0x08 1 }

/-- A governor defaults section (R215, R246). -/
def State.putDefaults (s : State) (b : Bytes) (x : StoreSec) (again : Bool) : State :=
  if again then s.sectionRefused 5 x.off
  else if x.len ≠ 64 then s.noDefaults.sectionRefused 5 (x.off + 4)
  else match govParse (x.body b) with
    | .inl o => s.noDefaults.sectionRefused 5 (x.off + 16 + o)
    | .inr d => ({ s with gv := ({ s.gv with ok := true, defs := d }).initial, pl := { s.pl with budget := 0 } }).joinGroups

/-- Step 9: the remaining sections in store order. Without limits R170's four points hold; without governor defaults, in a
refused store too, the module also records an event (R215). -/
def State.loadRest (s : State) : State :=
  let b := s.se.storeBytes
  let l := s.sections b
  let s := s.noLimits.noDefaults
  let s := l.foldl (fun s x =>
    if x.1.type = 4 then s.putLimits b x.1 x.2 else if x.1.type = 5 then s.putDefaults b x.1 x.2 else s) s
  if l.all (fun x => x.1.type != 5) then s.sectionRefused 5 0 else s

/-! ### Step 1: the retained domain and its counters (R313, R318, R407) -/

/-- Counters of an invalid retained domain restored from the journal (R313). -/
def State.restoreCounters (s : State) : State := match s.ev.journal with
  | none => s
  | some j =>
    let s := s.setEv (fun e => { e with
      opTime := j.opTime, pwrCycles := j.pwrCycles, nextSeq := j.nextSeq, dropped := j.dropped, restored := true })
    (s.setSe (fun x => { x with authSeq := j.authSeq })).record 0x0106 1 kNone 0 (leBytes 8 j.opTime)

/-- Slots of the flash log whose write was cut short. -/
def cutCount (l : List LogSlot) : Nat := (l.filter (fun x => match x with
  | .cut _ => true
  | .whole _ => false)).length

/-- The first step of a cold start: the retained domain is accepted or begun anew, and POWER_ON recorded. -/
def State.firstStep (s : State) : State :=
  let s :=
    if s.rc.valid then s.setEv (fun e => { e with flushDue := e.flushDue || decide (0 < e.unflushed) })
    else
      let s := s.restoreCounters.setEv (fun e => { e with pwrCycles := min (e.pwrCycles + 1) (2 ^ 24 - 1) })
      let seq := s.ev.nextSeq
      let s := if s.rc.lastSource = 0 then s.hwRecord 0x0201 0 false (leBytes 3 0) else s
      s.setRc (fun r => { r with valid := true, resetSeq := if r.lastSource = 0 then seq else r.resetSeq })
  let s := s.setEv (fun e => { e with badCrc := cutCount e.log, logFull := decide (262144 ≤ e.log.length) })
  s.record 0x0101 0 kNone 0 (leBytes 1 s.rc.lastSource ++ leBytes 1 0)

/-! ### Step 3 and step 4 -/

/-- The scrub: each word found uncorrectable, by channel and address, or cause 2 cleared (R322). -/
def State.scrub (s : State) (ues : List (Nat × Nat)) : State :=
  if ues.isEmpty then s.clearCause 2 kNone 0
  else ues.foldl (fun s x => (s.record 0x0E02 3 kDram x.1 (leBytes 8 x.2)).raiseCause 2 kNone 0) s

/-- Three failed cold starts lie within 600,000 ms (R404). -/
def ResetCtl.threeFailed (r : ResetCtl) : Bool := match r.failed with
  | [a, _, c] => decide ((c + 2 ^ 32 - a) % 2 ^ 32 ≤ 600000)
  | _ => false

/-- RECOVERY_ENTER (R424). -/
def State.recover (s : State) (cause : Nat) : State :=
  (s.setRc (fun r => { r with start := .recovery })).setSe (fun x => { x with
    rcvCause := cause, areaInvalid := x.areaInvalid || cause == 1 })

/-- The image in flash becomes the running one (R420). -/
def State.runImage (s : State) : State :=
  (s.setSe (fun x => { x with running := x.flashImage, digest := sha256 x.flashImage, areaInvalid := false })).setRc
    (fun r => { r with imageChanged := false })

/-- HALLMARK_CHECK at a cold start (R420). -/
def State.coldImage (s : State) : State :=
  if s.rc.threeFailed then s.recover 2 else if s.se.flashFault.isSome then s.recover 1 else s.runImage

/-- HALLMARK_CHECK at a warm start (R420, R421). -/
def State.warmImage (s : State) : State :=
  if !s.rc.imageChanged then s
  else if s.se.flashFault.isNone then s.runImage
  else (s.setSe (fun x => { x with imageBad := true, areaInvalid := true })).setRc (fun r => { r with imageChanged := false })

/-! ### The starts (R401, Table 17-6) -/

/-- START_STATE reaches RUN. -/
def State.reachRun (s : State) : State :=
  s.setRc (fun r => { r with
    start := .run, govRun := true, runAt := s.clk.now, lastStartMs := min ((s.clk.now - r.startAt) / 1000000) 65535 })

/-- The start goes on with the next step of its column. -/
def State.nextStep (s : State) (step : Nat) : State := s.setRc (fun r => { r with startStep := step })

/-- A start step is due: the start runs, and after its first step the hardware release is complete. -/
def ResetCtl.due (r : ResetCtl) (start : StartState) (step : Nat) : Bool :=
  r.start == start && r.power == .run && step == r.startStep &&
    (match r.release with
      | some x => step == 1 && !x.asserted
      | none => true)

/-- A standby's ports wait for its partner's PORTS (R279); the start does not (R401, assumption 33). -/
def State.portsWait (s : State) : Bool := s.role == .standby && !bitAt s.teth.partnerReady 0 && !s.teth.lost

/-- COLD_START: one step of Table 17-6. `ues` are the words, by channel and address, that the scrub of step 3 finds
uncorrectable. -/
def execColdStart (step : Nat) (ues : List (Nat × Nat)) (s : State) : Host.Outcome State Fault Refusal :=
  if !s.rc.due .cold step then .next s
  else if step = 1 then .next (s.firstStep.nextStep 2)
  else if step = 2 then .next (s.nextStep 3)
  else if step = 3 then .next ((s.scrub ues).nextStep 4)
  else if step = 4 then .next (s.coldImage.nextStep 5)
  else if step = 5 then .next (s.loadStore.loadCal.nextStep 6)
  else if step = 6 then
    .next ((if s.role ≠ .starting then s else match s.roleFor with
      | .active => s.becomeActive
      | r => { s with role := r }).nextStep 7)
  else if step = 7 then .next ((if s.portsWait then s else s.trainDown).nextStep 8)
  else if step = 8 then .next (s.loadLoops.nextStep 9)
  else
    let s := s.loadRest
    let s := if s.le.pipes.all (fun x => !x.failed) then s.clearCause 0 kNone 0 else s
    .next (s.reachRun.nextStep 10)

/-- The step of a warm start after a given one. -/
def warmAfter (step : Nat) : Nat := if step = 2 then 4 else if step = 5 then 9 else step + 1

/-- WARM_START: one step of Table 17-6. Step 5 reads and checks and changes nothing in force. -/
def execWarmStart (step : Nat) (s : State) : Host.Outcome State Fault Refusal :=
  if !s.rc.due .warm step then .next s
  else if step = 4 then .next (s.warmImage.nextStep 5)
  else if step = 9 then
    let s := if s.checkpoint.isSome then s.restoreCheckpoint else { s with gv := s.gv.initial }
    .next (s.reachRun.nextStep 10)
  else .next (s.nextStep (warmAfter step))

def execCheckpointWrite (s : State) : Host.Outcome State Fault Refusal :=
  .next (if s.rc.gov then { s with checkpoint := some s.makeCopy } else s)

/-- FAILED_START_CLEAR: 60 s in RUN. -/
def execFailedStartClear (s : State) : Host.Outcome State Fault Refusal :=
  .next (if s.rc.run then s.setRc (fun r => { r with failed := [] }) else s)

end Sys2Proof.Machine
end

