-- ==== Sys2Proof/Machine/HostQueue.lean ====
section
/-!
DEFINITION. The host queues: bootstrap, doorbells, fetching and starting of commands, ledger delivery, coalescing, stalls,
request errors, BAR4, link; DEV_IDENTIFY, DEV_CAPS, QUEUE_CREATE, QUEUE_DELETE (chapters 14 and 15; R361, R362 to R367).
-/

namespace Sys2Proof.Machine

open Sys2Proof

/-! ### Device commands (R365, Tables 16-3 and 16-4) -/

/-- A byte string with pieces laid over zeros: offset and bytes, ascending. -/
def layOut (n : Nat) (l : List (Nat × Bytes)) : Bytes :=
  padTo n (l.foldl (fun b x => padTo x.1 b ++ x.2) [])

/-- The identity record. -/
def State.identity (s : State) : Bytes :=
  layOut 128
    [(0x00, padTo 16 s.se.serial), (0x10, leBytes 2 (match s.part with | .csm480 => 0x0480 | .csm240 => 0x0240)),
     (0x12, leBytes 1 (if s.se.suffixCC then 1 else 0)), (0x13, leBytes 1 (if s.teth.slotB then 1 else 0)),
     (0x14, leBytes 1 s.role.code), (0x15, leBytes 1 (if s.gv.ok then s.gv.shelf else 0xFF)),
     (0x18, leBytes 4 s.rackId), (0x1C, leBytes 4 (s.se.run 8 4)), (0x20, leBytes 4 (s.se.run 0x0C 1)),
     (0x30, padTo 16 (if s.teth.trained then s.teth.partnerSerial else [])), (0x40, leBytes 8 s.gn.mac),
     (0x48, leBytes 8 s.ev.opTime), (0x50, leBytes 4 s.ev.pwrCycles)]

/-- The function's configuration header: the Device ID tells a recovery loader from a running image (R326, Table 14-1a). -/
def State.pciHeader (s : State) : PciHeader :=
  let device := match s.part with
    | .csm480 => if s.rc.recovery then 0x04FE else 0x0480
    | .csm240 => if s.rc.recovery then 0x02FE else 0x0240
  { vendor := 0x1F5A, device := device, classCode := 0x118000
    revision := Config.dieRevision.toNat, subVendor := 0x1F5A, subsystem := if s.se.suffixCC then 1 else 0 }

/-- HQ_CAPS (Table 14-8). -/
def Part.hqCaps (p : Part) : Nat := 0x40400014 + fieldAt p.ringGib 8 8

/-- The capabilities record. -/
def State.capsRecord (s : State) : Bytes :=
  let big := decide (s.part = .csm480)
  layOut 64
    [(0x00, leBytes 4 (s.leGlobal 0)), (0x04, leBytes 4 s.part.flCaps), (0x08, leBytes 4 (s.pfRead 0)), (0x0C, leBytes 4 (s.crRead 0)),
     (0x10, leBytes 4 s.part.hqCaps), (0x14, leBytes 2 16), (0x16, [8, 4]), (0x18, if big then [2, 12, 16] else [1, 12, 8]),
     (0x1B, leBytes 1 s.part.clockDomains), (0x1C, leBytes 2 (if big then 48 else 24)), (0x20, leBytes 4 128),
     (0x24, leBytes 4 128)]

def execDevIdentify (h : CmdHdr) (buf : Buf) (s : State) : Host.Outcome State Fault Refusal :=
  .next (s.start h { op := 0x0101, early := true, chk := param (bufOk buf 128) 0x08 }
    (fun s => (s.bufWrite buf s.identity).done h stOk 0))

def execDevCaps (h : CmdHdr) (buf : Buf) (s : State) : Host.Outcome State Fault Refusal :=
  .next (s.start h { op := 0x0102, early := true, chk := param (bufOk buf 64) 0x08 }
    (fun s => (s.bufWrite buf s.capsRecord).done h stOk 0))

/-! ### Rings (R330, R331, R333, R334, R366, R367) -/

def HostIf.setQ (x : HostIf) (q : Nat) (f : CmdQueue → CmdQueue) : HostIf := { x with queues := upd x.queues q f }

/-- N of a ring. -/
def ringOk (n : Nat) : Bool := (List.range 13).any (fun k => n == 2 ^ (k + 4))

def execQueueCreate (h : CmdHdr) (qid vec coalCnt coalUs sqBase cqBase sqN cqN : Nat) (s : State) :
    Host.Outcome State Fault Refusal :=
  .next (s.start h
    { op := 0x0110, early := true
      chk := param (decide (1 ≤ qid) && decide (qid ≤ 3)) 0x08 <|> param (vec < 64) 0x09 <|> param (sqBase % 4096 = 0) 0x10
        <|> param (cqBase % 4096 = 0) 0x18 <|> param (ringOk sqN) 0x20 <|> param (ringOk cqN) 0x24
      chk6 := param (!(nth s.hq.queues qid {}).present && s.hq.busMaster) 0x08 }
    (fun s =>
      let q : CmdQueue :=
        { present := true, sqBase := sqBase, cqBase := cqBase, sqN := sqN, cqN := cqN, vec := vec, coalCnt := coalCnt % 256
          coalUs := coalUs % 256 }
      let s := s.setHq (fun x => x.setQ qid (fun _ => q))
      let s := s.withHost ((s.hostSide.writeBack (0x20 + 4 * qid) 0).writeBack (4 * qid) 0)
      s.done h stOk 0))

def execQueueDelete (h : CmdHdr) (qid : Nat) (s : State) : Host.Outcome State Fault Refusal :=
  .next (s.start h
    { op := 0x0111, early := true, chk := param (decide (1 ≤ qid) && decide (qid ≤ 3) && h.queue != qid) 0x08
      chk6 := param (nth s.hq.queues qid {}).present 0x08 }
    (fun s =>
      let s := (s.setHq (fun x => x.setQ qid (fun q => { q with deleting := true }))).await h 0x0111 (.queueDelete qid)
      s.withHost (s.hostSide.settleDeletes 4 s.standbyFlag)))

/-- The checks of R333. -/
def HostIf.bootOk (x : HostIf) : Bool :=
  let z := x.bootSizes.toNat
  let log (v : Nat) : Bool := decide (4 ≤ v) && decide (v ≤ 16)
  log (bits z 9 5) && log (bits z 14 10) && log (bits z 19 15) && x.sq0Lo.toNat % 4096 == 0 && x.cq0Lo.toNat % 4096 == 0 &&
    x.eqLo.toNat % 4096 == 0 && x.wbLo.toNat % 64 == 0 && x.busMaster

/-- The bootstrap rings, every index 0. -/
def HostIf.boot (x : HostIf) : HostIf :=
  let z := x.bootSizes.toNat
  let c := x.bootCoal.toNat
  let q : CmdQueue :=
    { present := true, sqBase := x.sq0Hi.toNat * 2 ^ 32 + x.sq0Lo.toNat, cqBase := x.cq0Hi.toNat * 2 ^ 32 + x.cq0Lo.toNat
      sqN := 2 ^ bits z 9 5, cqN := 2 ^ bits z 14 10, vec := bits z 25 20, coalCnt := bits c 7 0, coalUs := bits c 15 8 }
  let e : EvQueue :=
    { present := true, base := x.eqHi.toNat * 2 ^ 32 + x.eqLo.toNat, n := 2 ^ bits z 19 15, vec := bits z 31 26
      coalCnt := bits c 23 16, coalUs := bits c 31 24 }
  { x with enable := true, bootFault := false, queues := [q, {}, {}, {}], eq := e, run0 := 0, rrQueue := 1, rrLeft := 4 }

def execBootstrapEnable (s : State) : Host.Outcome State Fault Refusal :=
  if s.hq.enable || !s.bar0 then .next s
  else if s.hq.bootOk then
    let s := s.setHq HostIf.boot
    .next (s.withHost (s.hostSide.write s.hq.wbBase (List.replicate 64 0)))
  else .next (s.setHq (fun x => { x with bootFault := true }))

/-- BOOTSTRAP_DISABLE: every queue goes at once; what the commands in flight do carries on, and they never complete
(R334, R345). -/
def execBootstrapDisable (s : State) : Host.Outcome State Fault Refusal :=
  if !s.hq.enable || !s.bar0 then .next s
  else
    .next ((s.setHq (fun x => { x with
      enable := false, bootFault := false, queues := List.replicate 4 {}, eq := {}, inflight := [], parked := [] })).forgetHost)

/-! ### Doorbells (R332, R344) -/

def State.reject (s : State) : State := s.setHq (fun x => { x with dbReject := satInc 8 x.dbReject })

/-- A head may move up to the tail. -/
def headOk (n head tail d : Nat) : Bool := decide (d < n) && decide ((d + n - head) % n ≤ (tail + n - head) % n)

/-- A stall flag goes once an entry is free. -/
def HostIf.unstall (x : HostIf) (q : Nat) : HostIf := if 0 < x.cqFree q then x.setQ q (fun c => { c with stall := false }) else x

def execSqTail (q : Nat) (data : Reg) (s : State) : Host.Outcome State Fault Refusal :=
  let d := data.toNat % 65536
  let c := nth s.hq.queues q {}
  if !s.bar0 || decide (4 ≤ q) then .next s
  else if c.present && decide (d < c.sqN) then .next (s.setHq (fun x => x.setQ q (fun c => { c with sqTail := d })))
  else .next s.reject

def execCqHead (q : Nat) (data : Reg) (s : State) : Host.Outcome State Fault Refusal :=
  let d := data.toNat % 65536
  let c := nth s.hq.queues q {}
  if !s.bar0 || decide (4 ≤ q) then .next s
  else if c.present && headOk c.cqN c.cqHead c.cqTail d then
    .next (s.setHq (fun x => (x.setQ q (fun c => { c with cqHead := d })).unstall q))
  else .next s.reject

/-- EVQ_OVERFLOW: with two entries free the count of records not queued is queued first, whatever EVQ_MIN_SEV says (R35,
R343). -/
def State.overflow (s : State) : State :=
  let q := s.hq.eq
  if q.notQueued = 0 ∨ q.free < 2 ∨ q.faulted then s
  else
    let r := s.mkRec 0x0802 1 kNone 0 (leBytes 4 q.notQueued)
    let s := s.setHq (fun x => { x with eq := { x.eq with notQueued := 0 } })
    (s.withHost (s.hostSide.postEvent r)).setEv (fun e => e.push r)

def execEqHead (data : Reg) (s : State) : Host.Outcome State Fault Refusal :=
  let d := data.toNat % 65536
  let q := s.hq.eq
  if !s.bar0 then .next s
  else if q.present && headOk q.n q.head q.tail d then
    let s := s.setHq (fun x => { x with eq := { x.eq with head := d } })
    let s := if 0 < s.hq.eq.free then s.setHq (fun x => { x with eq := { x.eq with stall := false } }) else s
    .next s.overflow
  else .next s.reject

/-- CQ_STALL: 10 ms without a free, unreserved entry. -/
def execCqStall (q : Nat) (s : State) : Host.Outcome State Fault Refusal :=
  .next (if (nth s.hq.queues q {}).present ∧ s.hq.cqFree q = 0 then s.setHq (fun x => x.setQ q (fun c => { c with stall := true }))
    else s)

def execEqStall (s : State) : Host.Outcome State Fault Refusal :=
  .next (if s.hq.eq.present ∧ s.hq.eq.free = 0 then s.setHq (fun x => { x with eq := { x.eq with stall := true } }) else s)

/-- MSIX_COALESCE_TIMEOUT of completion queue q, or of the event queue for q = 4. -/
def execMsixCoalesceTimeout (q : Nat) (s : State) : Host.Outcome State Fault Refusal :=
  if !s.hq.msixEnable then .next s
  else if q = 4 then
    let e := s.hq.eq
    .next (if e.present ∧ e.coalUs ≠ 0 ∧ 0 < e.unsig then
        (s.setHq (fun x => { x with eq := { x.eq with unsig := 0 } })).withHost
          ((s.setHq (fun x => { x with eq := { x.eq with unsig := 0 } })).hostSide.msix e.vec)
      else s)
  else
    let c := nth s.hq.queues q {}
    .next (if c.present ∧ c.coalUs ≠ 0 ∧ 0 < c.unsig then
        (s.setHq (fun x => x.setQ q (fun c => { c with unsig := 0 }))).withHost
          ((s.setHq (fun x => x.setQ q (fun c => { c with unsig := 0 }))).hostSide.msix c.vec)
      else s)

/-! ### Ledger delivery (R361) -/

/-- RESULT of a ledger completion. -/
def LedgerEntry.result (e : LedgerEntry) (lost : Nat) : Nat :=
  e.scope + e.source * 2 ^ 8 + e.seq * 2 ^ 16 + lost * 2 ^ 48

/-- One ledger completion, while completion queue 0 has room. -/
def State.deliverOne (s : State) : State :=
  match s.hq.ledger with
  | [] => s
  | e :: r =>
    if s.hq.cqFree 0 = 0 then s
    else
      let s := s.withHost (s.hostSide.postCompletion 0 e.tag e.status (if s.standbyFlag then 3 else 1) e.queue e.sqIndex
        (e.result s.hq.ledgerLost))
      s.setHq (fun x => { x with ledger := r, ledgerLost := if r.isEmpty then 0 else x.ledgerLost })

def execLedgerDelivery (s : State) : Host.Outcome State Fault Refusal :=
  let c := nth s.hq.queues 0 {}
  if !s.hq.enable || !c.present || c.faulted then .next s
  else .next (s.hq.ledger.foldl (fun s _ => s.deliverOne) s)

/-! ### Request errors (R346, R367) -/

def dmaStatus : DmaFail → Nat
  | .timeout => stTimeout
  | .refused => stDenied

/-- Commands of a queue, or one command, end with a status; a copy or a plan under way for one of them is dropped. -/
def State.endCommands (s : State) (gone : CmdHdr → Bool) (status : Nat) : State :=
  let l := (s.hq.flights.map (·.2)).filter gone
  let plan := s.hq.inflight.any (fun f => gone f.hdr && f.wait == Wait.planLoad)
  let s := s.setHq (fun x => { x with parked := x.parked.filter (fun p => !gone p.hdr) })
  let s := (s.setSe (fun x => { x with staging := x.staging.filter (fun y => !(y.1.any gone)) })).forget gone
  let s := if plan && s.pf.state == .loading then s.setPf Profile.toSearch else s
  l.foldl (fun s c => s.complete c status 0) s

def execDmaErr (target : DmaTarget) (fail : DmaFail) (s : State) : Host.Outcome State Fault Refusal :=
  let s := s.setHq (fun x => { x with dmaErr := satInc 8 x.dmaErr })
  match target with
  | .queue q =>
    if !(nth s.hq.queues q {}).present then .next s
    else
      let s := s.setHq (fun x => { x.setQ q (fun c => { c with faulted := true }) with bootFault := x.bootFault || q == 0 })
      .next (s.endCommands (fun c => c.queue == q) (dmaStatus fail))
  | .events =>
    if !s.hq.eq.present then .next s
    else .next (s.setHq (fun x => { x with eq := { x.eq with faulted := true }, bootFault := true }))
  | .buffer h => .next (s.endCommands (· == h) (dmaStatus fail))

/-! ### BAR0, BAR2 and BAR4 accesses outside the registers (R328, R329) -/

/-- BAD_ACCESS: neither a whole aligned dword nor a whole aligned qword; a read answers 0. -/
def execBadAccess (read : Bool) (addr : Nat) (s : State) : Host.Outcome State Fault Refusal :=
  let s := s.setHq (fun x => { x with badAccess := satInc 8 x.badAccess })
  .next (if read then s.emit (.regRead addr 0) else s)

/-- A byte of BAR4. -/
def State.bar4 (s : State) (a : Nat) : Byte :=
  let ring := s.part.ringGib * 2 ^ 30
  if a < ring then (if s.rc.recovery then 0 else ((s.cr.readRing a 1).headD 0))
  else if a < ring + 2 ^ 28 then Mem.read 0 s.hdma (a - ring) else 0

/-- BAR4_ACCESS: a write of bytes, or a read of n bytes, at an offset. A write that leaves the host DMA region is dropped. -/
def execBar4Access (write : Bool) (off n : Nat) (data : Bytes) (s : State) : Host.Outcome State Fault Refusal :=
  let ring := s.part.ringGib * 2 ^ 30
  if !write then .next (s.emit (.barRead off ((List.range n).map (fun k => s.bar4 (off + k)))))
  else if ring ≤ off ∧ off + data.length ≤ ring + 2 ^ 28 then .next { s with hdma := Mem.writeN 0 s.hdma (off - ring) data }
  else .next (s.setHq (fun x => { x with barDrop := satInc 8 x.barDrop }))

def execPcieLinkUp (speed width : Nat) (flit busMaster msixEnable : Bool) (s : State) : Host.Outcome State Fault Refusal :=
  if !(s.rc.on 12 && s.rc.on 13) then .next s
  else
    .next (s.setHq (fun x => { x with
      speed := speed % 16, width := width % 32, flit := flit, busMaster := busMaster, msixEnable := msixEnable }))

/-! ### The command entry (R349, R357 steps 1 and 2, R362; chapter 16) -/

/-- A buffer parameter at offset 0x08 of an entry, or at another one. -/
def bufAt (b : Bytes) (off : Nat) : Buf := { addr := u b off 8, len := u b (off + 8) 4 }

/-- Parameters of an opcode in an entry, as offset and size; none for an opcode that is not defined. -/
def opParams (op : Nat) (b : Bytes) : Option (List (Nat × Nat)) :=
  if op = 0x0101 ∨ op = 0x0102 ∨ op = 0x0502 ∨ op = 0x0704 ∨ op = 0x0804 ∨ op = 0x0901 ∨ op = 0x0902 ∨ op = 0x0A01 then
    some [(0x08, 12)]
  else if op = 0x0110 then some [(0x08, 4), (0x10, 24)]
  else if op = 0x0111 ∨ op = 0x0301 ∨ op = 0x0401 ∨ op = 0x0402 ∨ op = 0x0404 ∨ op = 0x0501 ∨ op = 0x0703 ∨ op = 0x0903 ∨
      op = 0x0A02 ∨ op = 0x0B03 then
    some [(0x08, 1)]
  else if op = 0x0302 then some (if u b 9 1 = 3 then [(0x08, 2), (0x0C, 4)] else [(0x08, 2)])
  else if op = 0x0303 ∨ op = 0x0305 then some [(0x08, 12), (0x14, 2)]
  else if op = 0x0304 then some [(0x08, 12), (0x14, 1), (0x16, 2)]
  else if op = 0x0403 ∨ op = 0x0701 then some [(0x08, 8)]
  else if op = 0x0405 ∨ op = 0x0702 then some [(0x08, 2)]
  else if op = 0x0601 then
    some ([(0x08, 12), (0x14, 6)] ++ (if u b 0x17 1 = 0 then [] else [(0x1C, 4)]) ++ (if u b 0x17 1 = 1 then [(0x20, 8)] else []))
  else if op = 0x0602 then some (if u b 8 1 = 1 ∨ u b 8 1 = 2 then [(0x08, 1)] else [(0x08, 24)])
  else if op = 0x0801 then some (if u b 8 1 = 0 then [(0x08, 1), (0x10, 12), (0x1C, 2)] else [(0x08, 1)])
  else if op = 0x0802 then some [(0x08, 12), (0x14, 2), (0x18, 12)]
  else if op = 0x0803 then some [(0x08, 12), (0x14, 2), (0x18, 8)]
  else if op = 0x0B01 then some (if u b 8 1 = 3 then [(0x08, 2)] else [(0x08, 1)])
  else if op = 0x0B02 then some (if bitAt (u b 0x0A 1) 0 then [(0x08, 3), (0x10, 8)] else [(0x08, 3)])
  else none

/-- Reserved bits of parameters that carry flags. -/
def flagBytes (op : Nat) : List Nat :=
  if op = 0x0405 then [9] else if op = 0x0B02 then [0x0A] else if op = 0x0B03 then [8] else []

/-- First reserved byte that is not 0. -/
def reservedByte (op : Nat) (b : Bytes) (ps : List (Nat × Nat)) : Option Nat :=
  if 4 ≤ u b 2 2 then some 2
  else (List.range 64).find? (fun k =>
    let used := decide (k < 6) || ps.any (fun p => decide (p.1 ≤ k) && decide (k < p.1 + p.2))
    if used then (flagBytes op).contains k && decide (2 ≤ u b k 1) else u b k 1 != 0)

/-- Settings of a PROFILE_CTRL entry (Table 16-11). -/
def pfSetAt (b : Bytes) : PfSet :=
  { avgK := u b 0x09 1, binExp := u b 0x0A 1, lockRho := u b 0x0B 1, confMin := u b 0x0C 1, lossQ := i b 0x0D 1
    snapPct := u b 0x0E 1, coastMaxS := u b 0x0F 1, minUs := u b 0x10 4, maxUs := u b 0x14 4, spreadMax := u b 0x18 4
    minCount := u b 0x1C 2, lossMs := u b 0x1E 2 }

/-- The meaning a fetched entry has, once steps 1 and 2 of R357 have passed. -/
def runOp (op : Nat) (h : CmdHdr) (b : Bytes) (s : State) : Host.Outcome State Fault Refusal :=
  let buf := bufAt b 0x08
  let x := u b 8 1
  if op = 0x0101 then execDevIdentify h buf s
  else if op = 0x0102 then execDevCaps h buf s
  else if op = 0x0110 then execQueueCreate h x (u b 9 1) (u b 0xA 1) (u b 0xB 1) (u b 0x10 8) (u b 0x18 8) (u b 0x20 4) (u b 0x24 4) s
  else if op = 0x0111 then execQueueDelete h x s
  else if op = 0x0301 then execLoopOpen h x s
  else if op = 0x0302 then execLoopClose h x (u b 9 1) (i b 0xC 4) s
  else if op = 0x0303 then execLoopLoad h buf (u b 0x14 2) s
  else if op = 0x0304 then execLoopRead h buf (u b 0x14 1) (u b 0x16 2) s
  else if op = 0x0305 then execLoopSchedule h buf (u b 0x14 2) s
  else if op = 0x0401 then execGroupEnable h x s
  else if op = 0x0402 then execGroupQuench h x s
  else if op = 0x0403 then execBusVset h (i b 8 4) (u b 0xC 4) s
  else if op = 0x0404 then execCellRetire h x s
  else if op = 0x0405 then execCellRestore h x (bitAt (u b 9 1) 0) s
  else if op = 0x0501 then execStoreMode h x s
  else if op = 0x0502 then execPlanLimits h buf s
  else if op = 0x0601 then
    execPlanLoad h buf (u b 0x14 2) (u b 0x16 1) (u b 0x17 1) (u b 0x18 2) (u b 0x1C 4) (i b 0x20 8) s
  else if op = 0x0602 then
    if x = 0 then execProfileStart h (pfSetAt b) s
    else if x = 1 then execProfileStop h s
    else if x = 2 then execProfileClear h s
    else if x = 3 then execProfileSet h (pfSetAt b) s
    else .next (s.complete h stBadParam 0x08)
  else if op = 0x0701 then execBudgetSet h (i b 8 4) (u b 0xC 4) s
  else if op = 0x0702 then execGovMode h x (u b 9 1) s
  else if op = 0x0703 then execGrantMode h x s
  else if op = 0x0704 then execKeyLoad h buf s
  else if op = 0x0801 then
    if x = 0 then execCaptureArm h (bufAt b 0x10) (u b 0x1C 2) s
    else if x = 1 then execCaptureTrigger h s
    else if x = 2 then execCaptureFreeze h s
    else if x = 3 then execCaptureRelease h s
    else .next (s.complete h stBadParam 0x08)
  else if op = 0x0802 then execCaptureRead h buf (u b 0x14 2) (u b 0x18 8) (u b 0x20 4) s
  else if op = 0x0803 then execLogRead h buf (u b 0x14 1) (u b 0x15 1) (u b 0x18 4) (u b 0x1C 4) s
  else if op = 0x0804 then execLogClear h buf s
  else if op = 0x0901 then execCalRead h buf s
  else if op = 0x0902 then execCalWrite h buf s
  else if op = 0x0903 then execAssay h x s
  else if op = 0x0A01 then execImageStage h buf s
  else if op = 0x0A02 then execImageCommit h x s
  else if op = 0x0B01 then (if x = 3 then execBlockReset h (u b 9 1) s else execReset h x s)
  else if op = 0x0B02 then execTimeSet h x (u b 9 1) (bitAt (u b 0xA 1) 0) (i b 0x10 8) s
  else if bitAt x 0 then execTakeoverForce h s
  else execTakeover h s

/-- COMMAND_CHECK and start of a fetched entry (R357): steps 1 and 2, then the opcode's own checks. -/
def State.runEntry (s : State) (p : Parked) : State :=
  let op := u p.entry 0 2
  let s := s.setHq (fun x => { x with curNo := some p.no })
  let s := match opParams op p.entry with
    | none => s.complete p.hdr stBadOpcode 0
    | some ps =>
      match reservedByte op p.entry ps with
      | some k => s.complete p.hdr stBadParam k
      | none => match runOp op p.hdr p.entry s with
        | .next t => t
        | _ => s
  s.setHq (fun x => { x with curNo := none })

/-- An entry may start: no earlier one of its queue waits to start, and for a FENCE none is in flight (Table 15-3). -/
def HostIf.mayStart (x : HostIf) (p : Parked) : Bool :=
  x.parked.all (fun y => y.hdr.queue != p.hdr.queue || decide (p.no ≤ y.no)) &&
    (!p.hdr.fence || x.inflight.all (fun f => f.hdr.queue != p.hdr.queue || decide (p.no ≤ f.no)))

/-- Entries that wait start where they now may, in fetch order; `n` bounds their number. -/
def State.startParked : Nat → State → State
  | 0, s => s
  | n + 1, s =>
    match s.hq.parked.find? s.hq.mayStart with
    | none => s
    | some p => State.startParked n ((s.setHq (fun x => { x with parked := x.parked.filter (· != p) })).runEntry p)

/-- A queue's next entry is fetchable (R335). -/
def HostIf.fetchable (x : HostIf) (q : Nat) : Bool :=
  let c := nth x.queues q {}
  c.present && !c.faulted && !c.deleting && c.sqHead != c.sqTail && decide (x.inFlight q < 64) && decide (0 < x.cqFree q)

/-- Weight of a queue in the round robin (R336). -/
def rrWeight (q : Nat) : Nat := if q = 1 then 4 else if q = 2 then 2 else 1

/-- The queue served next, with the arbitration as it then stands (R336). -/
def HostIf.arbitrate (x : HostIf) : Option (Nat × HostIf) :=
  let others := [1, 2, 3].filter x.fetchable
  if x.fetchable 0 && (decide (x.run0 < 16) || others.isEmpty) then some (0, { x with run0 := x.run0 + 1 })
  else if others.isEmpty then none
  else if others.contains x.rrQueue && decide (0 < x.rrLeft) then
    some (x.rrQueue, { x with run0 := 0, rrLeft := x.rrLeft - 1 })
  else
    match [1, 2, 3].map (fun k => (x.rrQueue + k - 1) % 3 + 1) |>.find? (fun q => others.contains q) with
    | some q => some (q, { x with run0 := 0, rrQueue := q, rrLeft := rrWeight q - 1 })
    | none => none

/-- The command processor runs and has a host to serve: its queues exist, its cores, flash and network run, and the ledger
is empty (R361, R393). -/
def State.fetches (s : State) : Bool :=
  s.hq.enable && s.bar0 && s.hq.ledger.isEmpty && s.rc.on 7 && s.rc.on 9 && s.rc.on 10

/-- COMMAND_FETCH: commands that wait for a FENCE start where they may; then one entry is fetched, its slot handed back and,
where nothing holds it, the command started (R335, R336, R338). -/
def execCommandFetch (s : State) : Host.Outcome State Fault Refusal :=
  if !s.fetches then .next s
  else
    let s := State.startParked 256 s
    match s.hq.arbitrate with
    | none => .next s
    | some (q, x) =>
      let c := nth x.queues q {}
      let b := Mem.readN 0 s.hostMem (c.sqBase + 64 * c.sqHead) 64
      let f := u b 2 2
      let hdr : CmdHdr := { queue := q, sqIndex := c.sqHead, tag := u b 4 2, fence := bitAt f 0, checkOnly := bitAt f 1 }
      let p : Parked := { hdr := hdr, entry := b, no := x.fetchNo }
      let head := (c.sqHead + 1) % c.sqN
      let s := { s with hq := { x.setQ q (fun c => { c with sqHead := head }) with fetchNo := x.fetchNo + 1 } }
      let s := s.withHost (s.hostSide.writeBack (0x20 + 4 * q) head)
      if s.hq.mayStart p then .next (s.runEntry p)
      else .next (s.setHq (fun x => { x with parked := x.parked ++ [p] }))

end Sys2Proof.Machine
end

