-- ==== Sys2Proof/Machine/Registers.lean ====
section
/-!
DEFINITION. BAR0 registers: what each reads, the latching of _LO and _HI pairs (R64), writes of registers without a row of
their own and of W1C bits (R10, R14 to R17, R348, R411, R426, R432, R452).
-/

namespace Sys2Proof.Machine

open Sys2Proof

/-! ### LEDs (R323, Table 17-7) -/

/-- On-half of a blink of the given period [ns]. -/
def blinkOn (now period : Nat) : Bool := decide ((now + Config.blinkPhase) % period < period / 2)

/-- A release sequence has been given up (R398). -/
def ResetCtl.givenUp (r : ResetCtl) : Bool := r.release.any (fun x => x.stopped && decide (3 ≤ x.tries))

/-- STATUS_LED[0]. -/
def State.led0 (s : State) : Bool :=
  let t := (s.clk.now + Config.blinkPhase) % 1000000000
  if s.rc.power = .aux ∨ s.rc.power = .off then false
  else if s.rc.givenUp then blinkOn s.clk.now 125000000
  else if s.rc.recovery then
    decide (t < 100000000) || (decide (Config.flashGap ≤ t) && decide (t < Config.flashGap + 100000000))
  else if s.rc.run then true
  else blinkOn s.clk.now 250000000

/-- STATUS_LED[1]: off until step 6 of the release. -/
def State.led1 (s : State) : Bool :=
  if !s.rc.on 10 then false
  else if s.ev.causes.any (fun c => decide (c ≤ 4)) then true
  else s.ev.replace && blinkOn s.clk.now 1000000000

/-! ### Identity, reset and clock, security, host queue registers -/

/-- By offset from BAR0 0x0000_0000 (Tables 19-10 to 19-16). -/
def State.idRead (s : State) (off : Nat) : Nat :=
  let p := s.pins
  if off = 0x000 then (match s.part with | .csm480 => 0xC2255900 | .csm240 => 0x6112B900)
  else if off = 0x004 then
    flagAt p.tripped 10 + flagAt p.tempHigh 9 + flagAt s.teth.slotConflict 8 + flagAt p.ppsSeen 7 + flagAt s.led1 6 +
      flagAt s.led0 5 + flagAt s.drivesSnuff 4 + flagAt s.gv.sense 3 + flagAt p.pfWarn 2 + flagAt s.teth.slotB 1 +
      flagAt s.teth.slotLevel 0
  else if off = 0x008 then fieldAt p.vinAux 16 16 + fieldAt p.vinMain 16 0
  else if off = 0x00C then fieldAt (ofSigned 16 p.dieMax) 16 16 + ofSigned 16 p.die
  else if off = 0x010 then ofSigned 64 p.ppsTime % 2 ^ 32
  else 0

/-- Backup register n (Table 17-10). -/
def State.bkup (s : State) (n : Nat) : Nat :=
  let r := s.rc
  if n = 0 then r.failed.length
  else if n ≤ 3 then nth r.failed (n - 1) 0
  else if n = 4 then s.teth.bkEpoch
  else if n = 5 then flagAt r.imageChanged 0
  else if n = 6 then (if r.valid then 0x5A3CC3A5 else 0)
  else if n = 7 then s.ev.causeBits
  else if n ≤ 10 then s.replacePorts (n - 8)
  else if n ≤ 13 then (List.range 32).foldl (fun a b => a + flagAt (r.retiredBk.contains (32 * (n - 11) + b)) b) 0
  else if n = 14 then fieldAt r.lastBlock 8 16 + fieldAt r.lastScope 8 8 + fieldAt r.lastSource 8 0
  else (nth r.firmware (n - 15) 0).toNat

/-- By offset from BAR0 0x0010_0000 (Tables 17-12 to 17-22). -/
def State.rcRead (s : State) (off : Nat) : Nat :=
  let r := s.rc
  if off = 0x000 then s.part.clockDomains
  else if off = 0x004 then
    flagAt (r.power == .quiet) 8 + fieldAt r.start.code 2 4 + flagAt r.heldFlag 2 + flagAt r.blockActive 1 + flagAt r.imageChanged 0
  else if off = 0x008 then fieldAt r.lastBlock 8 16 + fieldAt r.lastScope 8 8 + fieldAt r.lastSource 8 0
  else if off = 0x00C then fieldAt r.resets 16 16 + fieldAt r.absorbed 16 0
  else if off = 0x010 ∨ off = 0x014 then
    (List.range 32).foldl (fun a b => a + flagAt (s.clockGood (8 * (off - 0x010) + b)) b) 0
  else if off = 0x018 then
    fieldAt r.faults 16 16 + flagAt r.heldFlag 7 + flagAt r.inRelease 6 + fieldAt (r.firstDomain.getD 0) 6 0
  else if off = 0x01C then fieldAt r.lastStartMs 16 16 + fieldAt r.failed.length 2 0
  else if off = 0x020 then flagAt r.quietEn 16 + fieldAt r.quietDwell 16 0
  else if off = 0x024 then flagAt r.blockActive 8 + fieldAt r.blockCode 8 0
  else if 0x080 ≤ off ∧ off < 0x100 then s.bkup ((off - 0x080) / 4)
  else 0

/-- By offset from BAR0 0x01F0_0000 (Tables 18-8 to 18-17). -/
def State.seRead (s : State) (off : Nat) : Nat :=
  let x := s.se
  if off = 0x000 then
    fieldAt x.rcvCause 2 6 + flagAt x.svnRaised 5 + flagAt x.imageBad 4 + flagAt x.areaInvalid 3 + flagAt x.staged.isSome 2 +
      flagAt s.rc.imageChanged 1 + flagAt (bitAt (x.run 6 2) 0) 0
  else if off = 0x004 then x.run 8 4
  else if off = 0x008 then
    flagAt x.jtagLocked 17 + flagAt x.ownerHash.isSome 16 + fieldAt (x.run 0x0C 1) 8 8 + fieldAt x.svn 6 0
  else if off = 0x00C then u (x.staged.getD []) 0x0C 1
  else if off = 0x010 then x.authSeq
  else if 0x020 ≤ off ∧ off < 0x040 then u x.digest (off - 0x020) 4
  else if off = 0x104 then (if s.rc.recovery then x.rcvLen else 0)
  else if off = 0x108 then (if s.rc.recovery then fieldAt x.rcvReason 8 8 + x.rcvState else 0)
  else 0

/-- STATE of a queue. -/
def queueState (present faulted : Bool) : Nat := if !present then 0 else if faulted then 2 else 1

/-- log2 of a ring's size as shown; 0 where there is none. -/
def ringLog (n : Nat) : Nat := if n = 0 then 0 else Nat.log2 n

/-- By offset from BAR0 0x0020_0000 (Tables 14-7 to 14-17). -/
def State.hqRead (s : State) (off : Nat) : Nat :=
  let q := s.hq
  if off = 0x000 then s.part.hqCaps
  else if off = 0x004 then
    fieldAt q.margin 8 16 + flagAt q.busMaster 10 + flagAt q.flit 9 + fieldAt q.width 5 4 + fieldAt q.speed 4 0
  else if off = 0x008 then
    fieldAt q.dmaErr 8 24 + fieldAt q.dbReject 8 16 + fieldAt q.barDrop 8 8 + fieldAt q.badAccess 8 0
  else if off = 0x010 then flagAt q.bootFault 1 + flagAt q.enable 0
  else if off = 0x014 then q.bootSizes.toNat
  else if off = 0x018 then q.bootCoal.toNat
  else if off = 0x020 then q.sq0Lo.toNat
  else if off = 0x024 then q.sq0Hi.toNat
  else if off = 0x028 then q.cq0Lo.toNat
  else if off = 0x02C then q.cq0Hi.toNat
  else if off = 0x030 then q.eqLo.toNat
  else if off = 0x034 then q.eqHi.toNat
  else if off = 0x038 then q.wbLo.toNat
  else if off = 0x03C then q.wbHi.toNat
  else if 0x040 ≤ off ∧ off < 0x050 then
    let k := (off - 0x040) / 4
    let c := nth q.queues k {}
    fieldAt (queueState c.present c.faulted) 2 30 + fieldAt c.vec 6 24 + fieldAt (q.inFlight k) 7 16 + fieldAt (ringLog c.sqN) 5 11 +
      fieldAt (ringLog c.cqN) 5 6 + flagAt c.stall 5
  else if off = 0x050 then
    let e := q.eq
    fieldAt (queueState e.present e.faulted) 2 30 + fieldAt e.vec 6 24 + fieldAt (ringLog e.n) 5 19 + flagAt e.stall 18 +
      min e.notQueued 65535
  else if 0x8000 ≤ off ∧ off < 0x8400 then
    let m := nth q.msix ((off - 0x8000) / 16) {}
    let k := (off - 0x8000) % 16 / 4
    (if k = 0 then m.addrLo else if k = 1 then m.addrHi else if k = 2 then m.data else m.ctl).toNat
  else if off = 0x9000 then q.pba % 2 ^ 32
  else if off = 0x9004 then q.pba / 2 ^ 32 % 2 ^ 32
  else 0

/-! ### The whole map -/

/-- By offset from BAR0 0x0080_0000: cell ports, the tether port and the globals (Tables 5-19 and 11-7). -/
def State.flRead (s : State) (off : Nat) : Nat :=
  if off < 0x5000 then (if off / 0x100 < s.part.ports then s.portReg (off / 0x100) (off % 0x100) else 0)
  else if off < 0x5100 then s.tethRead (off - 0x5000)
  else if off = 0x8000 then s.part.flCaps
  else if off = 0x8004 then s.flOwn
  else 0

/-- The 64-bit value whose low word the _LO register at an address shows. -/
def State.wide (s : State) (a : Nat) : Option Nat :=
  if a = 0x00000010 then some (ofSigned 64 s.pins.ppsTime)
  else if 0x00C00200 ≤ a ∧ a < 0x00C00400 ∧ a % 0x20 = 0 then
    some (match look s.pl.strs ((a - 0x00C00200) / 0x20) with
      | some r => ofSigned 64 r.e
      | none => 0)
  else if a = 0x00D00020 then some (ofSigned 64 s.pf.period)
  else if a = 0x00D00028 then some (ofSigned 64 s.pf.phase)
  else if a = 0x01800020 then some (ofSigned 64 s.gv.validEnd)
  else if a = 0x01800030 then some (ofSigned 64 s.gv.eOut)
  else if a = 0x01800038 then some (ofSigned 64 s.gv.eIn)
  else if 0x01810000 ≤ a ∧ a < 0x01818000 ∧ a % 0x80 = 0x28 then
    some (match s.gv.ep ((a - 0x01810000) / 0x80) with
      | some e => ofSigned 64 e.energy
      | none => 0)
  else if 0x01D00000 ≤ a ∧ a < 0x01E00000 then s.crWide (a - 0x01D00000)
  else if a = 0x01E00018 then some s.ev.opTime
  else none

/-- A register word by BAR0 address; a _HI register answers its shadow. The recovery loader answers the SE_ block,
RC_STATUS, RC_LAST_RESET and RC_BKUP alone (R426). -/
def State.regRead (s : State) (a : Nat) : Nat :=
  let rcv := decide (0x01F00000 ≤ a) || a == 0x00100004 || a == 0x00100008 || (decide (0x00100080 ≤ a) && decide (a < 0x00100100))
  if s.rc.recovery && !rcv then 0
  else if 4 ≤ a ∧ (s.wide (a - 4)).isSome then (look s.hq.shadows (a - 4)).getD 0
  else if a < 0x00100000 then s.idRead a
  else if a < 0x00200000 then s.rcRead (a - 0x00100000)
  else if a < 0x00400000 then s.hqRead (a - 0x00200000)
  else if a < 0x00800000 then s.leRead (a - 0x00400000)
  else if a < 0x00A00000 then s.flRead (a - 0x00800000)
  else if a < 0x00C00000 then s.ptRead (a - 0x00A00000)
  else if a < 0x00D00000 then s.plRead (a - 0x00C00000)
  else if a < 0x01000000 then s.pfRead (a - 0x00D00000)
  else if a < 0x01800000 then 0
  else if a < 0x01A00000 then s.gvRead (a - 0x01800000)
  else if a < 0x01C00000 then s.gnRead (a - 0x01A00000)
  else if a < 0x01D00000 then s.tmRead a
  else if a < 0x01E00000 then s.crRead (a - 0x01D00000)
  else if a < 0x01F00000 then s.evRead (a - 0x01E00000)
  else if a < 0x02000000 then s.seRead (a - 0x01F00000)
  else 0

/-- Slot whose LE_INTEG_LO lies at an address. -/
def State.integAt (s : State) (a : Nat) : Option Nat :=
  if 0x00400000 ≤ a ∧ a < 0x00440000 ∧ a % 0x400 = 0x218 ∧ (a - 0x00400000) / 0x400 < s.part.slots then
    some ((a - 0x00400000) / 0x400)
  else none

/-- What reading a word does beside answering it: LE_TAPER_FRAC copies the integer part of the Taper position (R91), TM_MIN and
TM_MAX re-arm their holds (R295). -/
def State.afterRead (s : State) (a : Nat) : State :=
  if 0x00400000 ≤ a ∧ a < 0x00440000 ∧ a % 0x400 = 0x314 ∧ (a - 0x00400000) / 0x400 < s.part.slots then
    s.setSlot ((a - 0x00400000) / 0x400) (fun x => { x with taperShadow := ofSigned 32 (x.taperPos / 2 ^ 16) })
  else match sigOf a with
    | some (x, off) =>
      if (s.sig x).isNone then s
      else if off = 0x0C then s.setSig (fun c => { c with mn := 2 ^ 31 - 1 }) x
      else if off = 0x10 then s.setSig (fun c => { c with mx := -(2 ^ 31) }) x
      else s
    | none => s

/-- LO_READ: the read latches the high word; a qword read answers both words from one instant (R64, R328). A register
that is no _LO register latches nothing and answers its word; the Profile Table window answers as R213 gives. -/
def execLoRead (addr : Nat) (whole : Bool) (s : State) : Host.Outcome State Fault Refusal :=
  if !s.bar0 then .next (s.emit (.regRead addr (s.regRead addr)))
  else if 0x01000000 ≤ addr ∧ addr < 0x01400000 then execProfileTableRead (addr - 0x01000000) whole s
  else match s.integAt addr, s.wide addr with
    | some k, _ =>
      let v := ofSigned 64 (s.slot k).integ
      .next ((s.setSlot k (fun x => { x with integShadow := v / 2 ^ 32 })).emit (.regRead addr (if whole then v else v % 2 ^ 32)))
    | none, some v =>
      .next ((s.setHq (fun q => { q with shadows := putKey q.shadows addr (v / 2 ^ 32 % 2 ^ 32) })).emit
        (.regRead addr (if whole then v % 2 ^ 64 else v % 2 ^ 32)))
    | none, none =>
      let v := if whole then s.regRead addr + s.regRead (addr + 4) * 2 ^ 32 else s.regRead addr
      .next ((if whole then (s.afterRead addr).afterRead (addr + 4) else s.afterRead addr).emit (.regRead addr v))

/-! ### Writes -/

/-- A bootstrap register, while ENABLE is 0 (R333). -/
def HostIf.bootWrite (q : HostIf) (off : Nat) (v : Reg) : HostIf :=
  if off = 0x014 then { q with bootSizes := BitVec.ofNat 32 (v.toNat / 32 * 32) }
  else if off = 0x018 then { q with bootCoal := v }
  else if off = 0x020 then { q with sq0Lo := v }
  else if off = 0x024 then { q with sq0Hi := v }
  else if off = 0x028 then { q with cq0Lo := v }
  else if off = 0x02C then { q with cq0Hi := v }
  else if off = 0x030 then { q with eqLo := v }
  else if off = 0x034 then { q with eqHi := v }
  else if off = 0x038 then { q with wbLo := v }
  else if off = 0x03C then { q with wbHi := v }
  else q

/-- A word of the MSI-X table; a vector unmasked with its message pending sends it (PCIe base specification). -/
def State.msixWrite (s : State) (off : Nat) (v : Reg) : State :=
  let k := off / 16
  let f := off % 16 / 4
  let s := s.setHq (fun q => { q with msix := upd q.msix k (fun m =>
    if f = 0 then { m with addrLo := v } else if f = 1 then { m with addrHi := v } else if f = 2 then { m with data := v }
    else { m with ctl := BitVec.ofNat 32 (v.toNat % 2) }) })
  if f = 3 ∧ v.toNat % 2 = 0 ∧ bitAt s.hq.pba k then
    let s := s.setHq (fun q => { q with pba := setBit q.pba k false })
    if s.hq.msixEnable then s.withHost (s.hostSide.msix k) else s
  else s

/-- One dword written to a register without a row of its own: RW registers take it, every other ignores it (R15). -/
def State.regWrite (s : State) (a : Nat) (v : Reg) : State :=
  if s.rc.recovery then
    (if a = 0x01F00104 then s.setSe (fun x => { x with rcvLen := v.toNat % 2 ^ 26 }) else s)
  else if !s.bar0 then s
  else if 0x00200014 ≤ a ∧ a < 0x00200040 then
    (if s.hq.enable then s else s.setHq (fun q => q.bootWrite (a - 0x00200000) v))
  else if 0x00208000 ≤ a ∧ a < 0x00208400 then s.msixWrite (a - 0x00208000) v
  else s

/-- REGISTER_WRITE: a dword, or a qword whose upper word is `high`. -/
def execRegisterWrite (addr : Nat) (data : Reg) (high : Option Reg) (s : State) : Host.Outcome State Fault Refusal :=
  let s := s.regWrite addr data
  match high with
  | some v => .next (s.regWrite (addr + 4) v)
  | none => .next s

/-- W1C bits of the register at an address cleared where `c` holds a 1. -/
def State.clearBits (s : State) (a c : Nat) : State :=
  let off (k : Nat) (b : Bool) : Bool := b && !bitAt c k
  if 0x00400000 ≤ a ∧ a < 0x00440000 then
    let k := (a - 0x00400000) / 0x400
    if s.part.slots ≤ k then s
    else if a % 0x400 = 0x200 then s.setSlot k (fun x => { x with parity := off 6 x.parity, sat := off 5 x.sat })
    else if a % 0x400 = 0x320 then s.setSlot k (fun x => { x with openTrip := off 4 x.openTrip, feTrip := off 3 x.feTrip })
    else s
  else if 0x00A00000 ≤ a ∧ a < 0x00A10000 ∧ 0x020 ≤ a % 0x1000 ∧ a % 0x1000 ≤ 0x028 then
    let g := (a - 0x00A00000) / 0x1000
    let w := (a % 0x1000 - 0x020) / 4
    { s with ports := s.ports.mapIdx (fun p (P : Port) =>
        if P.isCell && P.group == g && p / 32 == w then { P with imbFlag := off (p % 32) P.imbFlag } else P) }
  else if a = 0x00A1000C then
    { s with sh := { s.sh with
        burstReject := off 6 s.sh.burstReject, slewReject := off 4 s.sh.slewReject, vsetReject := off 3 s.sh.vsetReject
        superseded := off 2 s.sh.superseded } }
  else if a = 0x00A10100 then
    { s with sh := { s.sh with protReject := off 4 s.sh.protReject, shelfQuench := off 1 s.sh.shelfQuench } }
  else if 0x00800000 ≤ a ∧ a < 0x00805000 ∧ a % 0x100 = 0x18 then
    s.setPort ((a - 0x00800000) / 0x100) (fun P => { P with svcTimeout := off 2 P.svcTimeout, lostSeen := off 1 P.lostSeen })
  else if a = 0x00805000 then
    s.setTeth (fun t => { t with deposed := off 3 t.deposed, lostFlag := off 2 t.lostFlag })
  else if a = 0x00C00000 then
    s.setPl (fun p => { p with seeded := off 9 p.seeded, fcDropped := off 6 p.fcDropped })
  else if a = 0x00D00008 then
    s.setPf (fun p => { p with parityFlag := off 8 p.parityFlag, lostFlag := off 6 p.lostFlag })
  else if a = 0x01800000 then s.setGv (fun g => { g with conflict := off 1 g.conflict })
  else if a = 0x01D00004 then s.setCr (fun r => { r with preShort := off 3 r.preShort })
  else if a = 0x01E00000 then
    s.setEv (fun e => { e with ringOverwrite := off 4 e.ringOverwrite, restored := off 1 e.restored })
  else if a = 0x00100018 then s.setRc (fun r => { r with inRelease := off 6 r.inRelease })
  else if a = 0x01F00000 then s.setSe (fun x => { x with svnRaised := off 5 x.svnRaised, imageBad := off 4 x.imageBad })
  else if a = 0x00000004 then s.setPins (fun p => { p with tripped := off 10 p.tripped, ppsSeen := off 7 p.ppsSeen })
  else s

/-- W1C_WRITE: `kept` are the bits that an event sets in the same cycle; they stay set (R16). The recovery loader takes it
for the SE_ block alone (R426). -/
def execW1cWrite (addr : Nat) (data kept : Reg) (s : State) : Host.Outcome State Fault Refusal :=
  if s.rc.recovery && decide (addr < 0x01F00000) then .next s
  else if !s.rc.recovery && !s.bar0 then .next s
  else .next (s.clearBits addr (data &&& ~~~kept).toNat)

end Sys2Proof.Machine
end

