-- ==== Sys2Proof/Machine/Signals.lean ====
section
/-!
DEFINITION. Discrete signals and the SMBus target (R242, R441, R443, R445).
-/

namespace Sys2Proof.Machine

open Sys2Proof

/-- SNUFF_SENSE at a level, after its filter: a trigger of the Crucible (R301) and the lead's event (R242). -/
def execSnuffSense (asserted : Bool) (s : State) : Host.Outcome State Fault Refusal :=
  let s := s.setGv (fun g => { g with sense := asserted, foreign := g.foreign && asserted })
  if asserted then .next ((s.setCr (fun r => { r with seen := r.seen ||| 2 ^ 2 })).snuffForeign) else .next s

/-- PPS_IN: the PTP time of a rising edge, which never steers the timer (R443). -/
def execPpsIn (s : State) : Host.Outcome State Fault Refusal :=
  .next (if s.rc.on 17 then s.setPins (fun p => { p with ppsTime := s.clk.ptp, ppsSeen := true }) else s)

/-- PPS_OUT rises at a whole second of the PTP timer, in lock and in holdover, and falls 100 ms later (R443). -/
def execPpsOut (rise : Bool) (s : State) : Host.Outcome State Fault Refusal :=
  let on := s.rc.on 17 && (s.clk.ptpState == .lock || s.clk.ptpState == .holdover)
  if rise && !on then .next s
  else if s.pins.ppsOut = rise then .next s
  else .next ((s.setPins (fun p => { p with ppsOut := rise })).emit (.pin "PPS_OUT" rise))

/-- The SMBus target answers: from step 6 of the release, not in Aux-only and not in the recovery loader (R445). -/
def State.smbusOn (s : State) : Bool :=
  s.rc.on 10 && !s.rc.recovery && (s.rc.power == .run || s.rc.power == .quiet)

/-- Commands of Table 19-5. -/
def State.smbusByte (s : State) (cmd : Nat) : Option Nat :=
  if cmd = 1 then some (match s.part with | .csm480 => 0x48 | .csm240 => 0x24)
  else if cmd = 2 then
    some (flagAt (s.rc.power == .quiet) 5 + flagAt s.rc.heldFlag 4 + fieldAt s.role.code 2 2 + s.rc.start.code)
  else if cmd = 3 then some (s.ev.causeBits % 256)
  else if cmd = 4 then some (clampI 0 255 (divFloor s.pins.die 100)).toNat
  else if cmd = 5 then some (min (s.pins.vinMain / 100) 255)
  else none

/-- SMBUS_READ_BYTE: the answer, or no acknowledgement. -/
def execSmbusReadByte (cmd : Nat) (s : State) : Host.Outcome State Fault Refusal :=
  .next (s.emit (.smbus (if s.smbusOn then (s.smbusByte cmd).map (BitVec.ofNat 8) else none)))

/-- SMBUS_ALERT_RESPONSE: answered with the target's address while SMB_ALERT_N is asserted, which is released once no
request stands (R445). -/
def execSmbusAlertResponse (s : State) : Host.Outcome State Fault Refusal :=
  if s.smbusOn && s.ev.alert then
    let s := s.emit (.smbus (some (if s.teth.slotB then 0x59 else 0x58)))
    .next (s.setEv (fun e => { e with alert := e.replace }))
  else .next (s.emit (.smbus none))

end Sys2Proof.Machine
end

