-- ==== Sys2Proof/Machine/Dispatch.lean ====
section
/-!
DEFINITION. One arm per constructor of Instr, each one direct call of that command's own meaning.
-/

namespace Sys2Proof.Machine

open Sys2Proof

def exec (i : Instr) (s : State) : Host.Outcome State Fault Refusal :=
  match i with
  | .devIdentify h buf => Sys2Proof.Machine.execDevIdentify h buf s
  | .devCaps h buf => Sys2Proof.Machine.execDevCaps h buf s
  | .queueCreate h qid vec coalCnt coalUs sqBase cqBase sqN cqN => Sys2Proof.Machine.execQueueCreate h qid vec coalCnt coalUs sqBase cqBase sqN cqN s
  | .queueDelete h qid => Sys2Proof.Machine.execQueueDelete h qid s
  | .loopOpen h slot => Sys2Proof.Machine.execLoopOpen h slot s
  | .loopClose h slot preload value => Sys2Proof.Machine.execLoopClose h slot preload value s
  | .loopLoad h buf count => Sys2Proof.Machine.execLoopLoad h buf count s
  | .loopRead h buf first count => Sys2Proof.Machine.execLoopRead h buf first count s
  | .loopSchedule h buf count => Sys2Proof.Machine.execLoopSchedule h buf count s
  | .groupEnable h group => Sys2Proof.Machine.execGroupEnable h group s
  | .groupQuench h group => Sys2Proof.Machine.execGroupQuench h group s
  | .busVset h vset slew => Sys2Proof.Machine.execBusVset h vset slew s
  | .cellRetire h port => Sys2Proof.Machine.execCellRetire h port s
  | .cellRestore h port clear => Sys2Proof.Machine.execCellRestore h port clear s
  | .storeMode h mode => Sys2Proof.Machine.execStoreMode h mode s
  | .planLimits h buf => Sys2Proof.Machine.execPlanLimits h buf s
  | .planLoad h buf count binExp actMode weight timeoutMs actTime => Sys2Proof.Machine.execPlanLoad h buf count binExp actMode weight timeoutMs actTime s
  | .profileStart h set => Sys2Proof.Machine.execProfileStart h set s
  | .profileStop h => Sys2Proof.Machine.execProfileStop h s
  | .profileClear h => Sys2Proof.Machine.execProfileClear h s
  | .profileSet h set => Sys2Proof.Machine.execProfileSet h set s
  | .budgetSet h budgetW validMs => Sys2Proof.Machine.execBudgetSet h budgetW validMs s
  | .govMode h setting value => Sys2Proof.Machine.execGovMode h setting value s
  | .grantMode h value => Sys2Proof.Machine.execGrantMode h value s
  | .keyLoad h buf => Sys2Proof.Machine.execKeyLoad h buf s
  | .captureArm h buf count => Sys2Proof.Machine.execCaptureArm h buf count s
  | .captureTrigger h => Sys2Proof.Machine.execCaptureTrigger h s
  | .captureFreeze h => Sys2Proof.Machine.execCaptureFreeze h s
  | .captureRelease h => Sys2Proof.Machine.execCaptureRelease h s
  | .captureRead h buf channel start count => Sys2Proof.Machine.execCaptureRead h buf channel start count s
  | .logRead h buf source flush start count => Sys2Proof.Machine.execLogRead h buf source flush start count s
  | .logClear h buf => Sys2Proof.Machine.execLogClear h buf s
  | .calRead h buf => Sys2Proof.Machine.execCalRead h buf s
  | .calWrite h buf => Sys2Proof.Machine.execCalWrite h buf s
  | .assay h mask => Sys2Proof.Machine.execAssay h mask s
  | .imageStage h buf => Sys2Proof.Machine.execImageStage h buf s
  | .imageCommit h activate => Sys2Proof.Machine.execImageCommit h activate s
  | .imageActivate => Sys2Proof.Machine.execImageActivate s
  | .reset h scope => Sys2Proof.Machine.execReset h scope s
  | .blockReset h block => Sys2Proof.Machine.execBlockReset h block s
  | .timeSet h role domain setTime timeNs => Sys2Proof.Machine.execTimeSet h role domain setTime timeNs s
  | .takeover h => Sys2Proof.Machine.execTakeover h s
  | .takeoverForce h => Sys2Proof.Machine.execTakeoverForce h s
  | .commandFetch => Sys2Proof.Machine.execCommandFetch s
  | .sqTail q data => Sys2Proof.Machine.execSqTail q data s
  | .cqHead q data => Sys2Proof.Machine.execCqHead q data s
  | .eqHead data => Sys2Proof.Machine.execEqHead data s
  | .bootstrapEnable => Sys2Proof.Machine.execBootstrapEnable s
  | .bootstrapDisable => Sys2Proof.Machine.execBootstrapDisable s
  | .ledgerDelivery => Sys2Proof.Machine.execLedgerDelivery s
  | .msixCoalesceTimeout q => Sys2Proof.Machine.execMsixCoalesceTimeout q s
  | .cqStall q => Sys2Proof.Machine.execCqStall q s
  | .eqStall => Sys2Proof.Machine.execEqStall s
  | .dmaErr target fail => Sys2Proof.Machine.execDmaErr target fail s
  | .badAccess read addr => Sys2Proof.Machine.execBadAccess read addr s
  | .bar4Access write off n data => Sys2Proof.Machine.execBar4Access write off n data s
  | .registerWrite addr data high => Sys2Proof.Machine.execRegisterWrite addr data high s
  | .w1cWrite addr data kept => Sys2Proof.Machine.execW1cWrite addr data kept s
  | .loRead addr whole => Sys2Proof.Machine.execLoRead addr whole s
  | .leTaperFrac slot => Sys2Proof.Machine.execLeTaperFrac slot s
  | .profileTableRead off wide => Sys2Proof.Machine.execProfileTableRead off wide s
  | .tmMin sig => Sys2Proof.Machine.execTmMin sig s
  | .tmMax sig => Sys2Proof.Machine.execTmMax sig s
  | .ptBusVset data => Sys2Proof.Machine.execPtBusVset data s
  | .ptBusSlew data => Sys2Proof.Machine.execPtBusSlew data s
  | .ptFfCfg data => Sys2Proof.Machine.execPtFfCfg data s
  | .ptBurstEnter data => Sys2Proof.Machine.execPtBurstEnter data s
  | .ptBurstDwell data => Sys2Proof.Machine.execPtBurstDwell data s
  | .ptBurstBand data => Sys2Proof.Machine.execPtBurstBand data s
  | .protRegisterWrite addr data => Sys2Proof.Machine.execProtRegisterWrite addr data s
  | .tmGrpSrcWrite group which data => Sys2Proof.Machine.execTmGrpSrcWrite group which data s
  | .evCfg data => Sys2Proof.Machine.execEvCfg data s
  | .rcPwrCfg data => Sys2Proof.Machine.execRcPwrCfg data s
  | .seRcvLoad => Sys2Proof.Machine.execSeRcvLoad s
  | .seRcvRetry => Sys2Proof.Machine.execSeRcvRetry s
  | .seRcvRestart => Sys2Proof.Machine.execSeRcvRestart s
  | .recoveryWriteDone good => Sys2Proof.Machine.execRecoveryWriteDone good s
  | .slotEvaluation slot parity => Sys2Proof.Machine.execSlotEvaluation slot parity s
  | .feTrip slot => Sys2Proof.Machine.execFeTrip slot s
  | .openTrip slot => Sys2Proof.Machine.execOpenTrip slot s
  | .scheduleSwitch => Sys2Proof.Machine.execScheduleSwitch s
  | .assayEvaluation pipe mismatch => Sys2Proof.Machine.execAssayEvaluation pipe mismatch s
  | .fallbackSwitch => Sys2Proof.Machine.execFallbackSwitch s
  | .fastDn port => Sys2Proof.Machine.execFastDn port s
  | .fastUp port frame => Sys2Proof.Machine.execFastUp port frame s
  | .blockLockLost rx => Sys2Proof.Machine.execBlockLockLost rx s
  | .portLost port => Sys2Proof.Machine.execPortLost port s
  | .portRetrain port => Sys2Proof.Machine.execPortRetrain port s
  | .degraded port margin => Sys2Proof.Machine.execDegraded port margin s
  | .svcDn port => Sys2Proof.Machine.execSvcDn port s
  | .svcResponse port frame => Sys2Proof.Machine.execSvcResponse port frame s
  | .svcTimeout port tag => Sys2Proof.Machine.execSvcTimeout port tag s
  | .held port frame => Sys2Proof.Machine.execHeld port frame s
  | .status port frame => Sys2Proof.Machine.execStatus port frame s
  | .portTrained port found => Sys2Proof.Machine.execPortTrained port found s
  | .trainingTimeout port step => Sys2Proof.Machine.execTrainingTimeout port step s
  | .autostart => Sys2Proof.Machine.execAutostart s
  | .preBiasedStart group => Sys2Proof.Machine.execPreBiasedStart group s
  | .regulationReached group => Sys2Proof.Machine.execRegulationReached group s
  | .startTimeout group => Sys2Proof.Machine.execStartTimeout group s
  | .quenchTimeout group => Sys2Proof.Machine.execQuenchTimeout group s
  | .retireTimeout port => Sys2Proof.Machine.execRetireTimeout port s
  | .restoreSrStep port => Sys2Proof.Machine.execRestoreSrStep port s
  | .burstEnter => Sys2Proof.Machine.execBurstEnter s
  | .msWindow => Sys2Proof.Machine.execMsWindow s
  | .imbalance port => Sys2Proof.Machine.execImbalance port s
  | .senseFinding port => Sys2Proof.Machine.execSenseFinding port s
  | .coolantUpdate => Sys2Proof.Machine.execCoolantUpdate s
  | .voltageLimitTrip group => Sys2Proof.Machine.execVoltageLimitTrip group s
  | .estimatorUpdate => Sys2Proof.Machine.execEstimatorUpdate s
  | .fastStep parity => Sys2Proof.Machine.execFastStep s parity
  | .rideExit => Sys2Proof.Machine.execRideExit s
  | .slowStep => Sys2Proof.Machine.execSlowStep s
  | .fcHoldEnd => Sys2Proof.Machine.execFcHoldEnd s
  | .absenceDetect => Sys2Proof.Machine.execAbsenceDetect s
  | .absenceDecay => Sys2Proof.Machine.execAbsenceDecay s
  | .peerSilent peer => Sys2Proof.Machine.execPeerSilent peer s
  | .profileSample parity => Sys2Proof.Machine.execProfileSample parity s
  | .lockLost => Sys2Proof.Machine.execLockLost s
  | .coastTimeout => Sys2Proof.Machine.execCoastTimeout s
  | .wickNotice tag tw delta durUs => Sys2Proof.Machine.execWickNotice tag tw delta durUs s
  | .wickApply => Sys2Proof.Machine.execWickApply s
  | .planWritten => Sys2Proof.Machine.execPlanWritten s
  | .planActivateAtTime => Sys2Proof.Machine.execPlanActivateAtTime s
  | .planActTimeout => Sys2Proof.Machine.execPlanActTimeout s
  | .forecastWrite parity => Sys2Proof.Machine.execForecastWrite parity s
  | .governorStep => Sys2Proof.Machine.execGovernorStep s
  | .leadClaim => Sys2Proof.Machine.execLeadClaim s
  | .epoch => Sys2Proof.Machine.execEpoch s
  | .grantRelease => Sys2Proof.Machine.execGrantRelease s
  | .budgetTimeout req => Sys2Proof.Machine.execBudgetTimeout req s
  | .budgetReqRepeat req => Sys2Proof.Machine.execBudgetReqRepeat req s
  | .budgetExpiry => Sys2Proof.Machine.execBudgetExpiry s
  | .endpointStale endpoint => Sys2Proof.Machine.execEndpointStale endpoint s
  | .endpointDeregister endpoint => Sys2Proof.Machine.execEndpointDeregister endpoint s
  | .barrierTimeout tag => Sys2Proof.Machine.execBarrierTimeout tag s
  | .calFitUpdate => Sys2Proof.Machine.execCalFitUpdate s
  | .guleneDrain => Sys2Proof.Machine.execGuleneDrain s
  | .wick m => Sys2Proof.Machine.execWick m s
  | .report m => Sys2Proof.Machine.execReport m s
  | .lantern m => Sys2Proof.Machine.execLantern m s
  | .budget m => Sys2Proof.Machine.execBudget m s
  | .electReceived m => Sys2Proof.Machine.execElectReceived m s
  | .shareReceived m => Sys2Proof.Machine.execShareReceived m s
  | .alert m => Sys2Proof.Machine.execAlert m s
  | .grantReceived => Sys2Proof.Machine.execGrantReceived s
  | .bucketRefill => Sys2Proof.Machine.execBucketRefill s
  | .replayRecordExpiry rack sender => Sys2Proof.Machine.execReplayRecordExpiry rack sender s
  | .keyActivate row => Sys2Proof.Machine.execKeyActivate row s
  | .oldKeyExpiry row => Sys2Proof.Machine.execOldKeyExpiry row s
  | .isolated => Sys2Proof.Machine.execIsolated s
  | .ethernetLink offer => Sys2Proof.Machine.execEthernetLink offer s
  | .negFail => Sys2Proof.Machine.execNegFail s
  | .ptpSync sync origin => Sys2Proof.Machine.execPtpSync sync origin s
  | .ptpSyncTimeout => Sys2Proof.Machine.execPtpSyncTimeout s
  | .ptpSyncSend => Sys2Proof.Machine.execPtpSyncSend s
  | .tetherFast frame alignErr => Sys2Proof.Machine.execTetherFast frame alignErr s
  | .tetherFastSend => Sys2Proof.Machine.execTetherFastSend s
  | .roleDecision => Sys2Proof.Machine.execRoleDecision s
  | .partnerLost => Sys2Proof.Machine.execPartnerLost s
  | .partnerReplace => Sys2Proof.Machine.execPartnerReplace s
  | .stateCopySend => Sys2Proof.Machine.execStateCopySend s
  | .tetherBulk syncs type hdr data crc copy => Sys2Proof.Machine.execTetherBulk syncs type hdr data crc copy s
  | .takeoverPortCheck => Sys2Proof.Machine.execTakeoverPortCheck s
  | .handoverFail => Sys2Proof.Machine.execHandoverFail s
  | .takeoverTimeout => Sys2Proof.Machine.execTakeoverTimeout s
  | .captureSample => Sys2Proof.Machine.execCaptureSample s
  | .captureFrozen => Sys2Proof.Machine.execCaptureFrozen s
  | .flush => Sys2Proof.Machine.execFlush s
  | .flushEnd => Sys2Proof.Machine.execFlushEnd s
  | .logClearDone => Sys2Proof.Machine.execLogClearDone s
  | .opTimeTick die vinMain vinAux => Sys2Proof.Machine.execOpTimeTick die vinMain vinAux s
  | .powerOn => Sys2Proof.Machine.execPowerOn s
  | .resetN lowNs high => Sys2Proof.Machine.execResetN lowNs high s
  | .stewardWatchdog => Sys2Proof.Machine.execStewardWatchdog s
  | .loopWatchdog => Sys2Proof.Machine.execLoopWatchdog s
  | .pcieReset => Sys2Proof.Machine.execPcieReset s
  | .pfWarn asserted => Sys2Proof.Machine.execPfWarn asserted s
  | .vinMainLoss => Sys2Proof.Machine.execVinMainLoss s
  | .vinMainReturn => Sys2Proof.Machine.execVinMainReturn s
  | .retainedLoss deep => Sys2Proof.Machine.execRetainedLoss deep s
  | .releaseStep block fault => Sys2Proof.Machine.execReleaseStep block fault s
  | .releaseRetry block => Sys2Proof.Machine.execReleaseRetry block s
  | .rcClockFault domain => Sys2Proof.Machine.execRcClockFault domain s
  | .coldStart step ues => Sys2Proof.Machine.execColdStart step ues s
  | .warmStart step => Sys2Proof.Machine.execWarmStart step s
  | .checkpointWrite => Sys2Proof.Machine.execCheckpointWrite s
  | .failedStartClear => Sys2Proof.Machine.execFailedStartClear s
  | .svnRaise => Sys2Proof.Machine.execSvnRaise s
  | .quietEnter => Sys2Proof.Machine.execQuietEnter s
  | .thermalTrip => Sys2Proof.Machine.execThermalTrip s
  | .thermalReturn => Sys2Proof.Machine.execThermalReturn s
  | .snuffSense asserted => Sys2Proof.Machine.execSnuffSense asserted s
  | .ppsIn => Sys2Proof.Machine.execPpsIn s
  | .ppsOut rise => Sys2Proof.Machine.execPpsOut rise s
  | .smbusReadByte cmd => Sys2Proof.Machine.execSmbusReadByte cmd s
  | .smbusAlertResponse => Sys2Proof.Machine.execSmbusAlertResponse s
  | .getVersion => Sys2Proof.Machine.execGetVersion s
  | .getCapabilities => Sys2Proof.Machine.execGetCapabilities s
  | .negotiateAlgorithms pss3072 sha256 dmtf => Sys2Proof.Machine.execNegotiateAlgorithms pss3072 sha256 dmtf s
  | .getDigests => Sys2Proof.Machine.execGetDigests s
  | .getCertificate slot off len => Sys2Proof.Machine.execGetCertificate slot off len s
  | .challenge slot summary => Sys2Proof.Machine.execChallenge slot summary s
  | .getMeasurements index signed => Sys2Proof.Machine.execGetMeasurements index signed s
  | .calWriteDone good => Sys2Proof.Machine.execCalWriteDone good s
  | .imageStageDone => Sys2Proof.Machine.execImageStageDone s
  | .imageCommitDone good => Sys2Proof.Machine.execImageCommitDone good s
  | .pcieLinkUp speed width flit busMaster msixEnable => Sys2Proof.Machine.execPcieLinkUp speed width flit busMaster msixEnable s
  | .tetherTrain hdr heads trips serial => Sys2Proof.Machine.execTetherTrain hdr heads trips serial s
  | .announce a => Sys2Proof.Machine.execAnnounce a s
  | .delayResp received => Sys2Proof.Machine.execDelayResp received s
  | .delayReq => Sys2Proof.Machine.execDelayReq s
  | .neighbourDiscovery r => Sys2Proof.Machine.execNeighbourDiscovery r s
  | .dhcpReply addr => Sys2Proof.Machine.execDhcpReply addr s
  | .malformedDatagram => Sys2Proof.Machine.execMalformedDatagram s
  | .dramError ue channel addr ringWord => Sys2Proof.Machine.execDramError ue channel addr ringWord s
  | .dramCeWindow => Sys2Proof.Machine.execDramCeWindow s
  | .serdesMargin link margin hour => Sys2Proof.Machine.execSerdesMargin link margin hour s
  | .tempHigh up => Sys2Proof.Machine.execTempHigh up s
  | .jtagAccess ir => Sys2Proof.Machine.execJtagAccess ir s

end Sys2Proof.Machine
end

