-- ==== Sys2Proof/Machine/Step.lean ====
section
/-!
DEFINITION. One step of the block: the command at the front of the queue, or, on an empty queue, one frame period
of time with no event in it (assumption 4).
-/

namespace Sys2Proof.Machine

open Sys2Proof

/-- Take the front command and run it with the queue's rest; with nothing waiting, a frame period passes. -/
def step (s : State) : Host.Outcome State Fault Refusal :=
  match s.pending with
  | [] => .next s.quietPeriod
  | c :: rest => exec c (s.withPending rest)

/-- The state with the command a table word spells put at the front of the queue; the table's rows have no bits, so
no word spells one and the state is unchanged. -/
def State.withFetchWord (s : State) (nbits w : Nat) : State :=
  match Sys2Proof.decodeTableWord nbits w with
  | some c => s.withPending (c :: s.pending)
  | none => s

end Sys2Proof.Machine
end

