-- ==== Sys2Proof/Safety.lean ====
section
/-!
DEFINITION. What statements about runs of the block are said in: how a command ends, what stays unchanged, and the shape
every state reached from a well-shaped one keeps.
-/

namespace Sys2Proof

open Sys2Proof.Machine

/-- The command runs to completion from this state, and what it leaves satisfies `P`. -/
def Completes (c : Instr) (s : State) (P : State → Prop) : Prop := ∃ t, exec c s = .next t ∧ P t

/-- Whatever state the command leaves satisfies `P`. -/
def Leaves (c : Instr) (s : State) (P : State → Prop) : Prop := ∀ t, exec c s = .next t → P t

/-- From `s` to `t` the block puts out `o`. -/
def Puts (s t : State) (o : Output) : Prop := ∃ l, t.out = l ++ s.out ∧ o ∈ l

/-- From `s` to `t` the command with header `h` completes with a status and RESULT; CFLAGS bit 1 is STANDBY. -/
def Answered (s t : State) (h : CmdHdr) (status result : Nat) : Prop :=
  Puts s t (.completion h.tag status (if s.standbyFlag then 2 else 0) h.queue h.sqIndex result)

/-- The command with header `h` is in flight and waits for `w`. -/
def Waits (t : State) (h : CmdHdr) (w : Wait) : Prop := ∃ f ∈ t.hq.inflight, f.hdr = h ∧ f.wait = w

/-- A host command has become the request `r` (R263): a lead queues it behind the messages that arrived before it, another
module sends it to the rack group. -/
structure Requested (s t : State) (h : CmdHdr) (r : Req) (w : Wait) : Prop where
  waits : Waits t h w
  governor : t.gv = { s.gv with reqId := r.id, own := s.gv.own ++ [{ req := r, hdr := some h, adopted := false }] }
  lead : s.gv.role = 2 → s.gn.queue.length < 4096 →
    t.gn.queue = s.gn.queue ++ [{ typ := 5, msg := s.ownMsg r, at_ := s.clk.now, ptpAt := s.clk.ptp }]
  sent : s.gv.role ≠ 2 → s.canSend = true → ∀ k, s.gn.rackKey.cur = some k →
    Puts s t (.datagram (toGroup (rackGroup k.v4 s.rackId))
      ((gnHeader 0x05 80 s.ptpLock s.rackId s.gnSelf k.id s.gn.seq s.clk.ptp ++ r.body) ++
        gnTag k.key (gnHeader 0x05 80 s.ptpLock s.rackId s.gnSelf k.id s.gn.seq s.clk.ptp ++ r.body)))

/-- Data returned to a host buffer: in the host DMA region, or as a posted write. -/
def Stored (s t : State) (b : Buf) (data : Bytes) : Prop :=
  (bufInDma b = true → t.hdma = Mem.writeN 0 s.hdma (bufBase b) data) ∧
    (bufInDma b = false → Puts s t (.hostWrite (bufBase b) data))

/-- The newest record of the retained ring is the one a condition gives as the recorder stands in `s`. -/
def Newest (s t : State) (code sev kind subject : Nat) (payload : Bytes) : Prop :=
  t.ev.ring.getLast? = some (s.mkRec code sev kind subject payload)

/-- A host command may start: CHECK_ONLY 0, no BLOCK reset under way, the module not in Quiet. -/
structure Accepted (s : State) (h : CmdHdr) : Prop where
  real : h.checkOnly = false
  block : s.rc.blockActive = false
  awake : s.rc.power ≠ .quiet

/-- It may start although it is accepted only in RUN (R403). -/
structure AcceptedRun (s : State) (h : CmdHdr) : Prop extends Accepted s h where
  run : s.rc.run = true

/-- It may start although it is marked Active only (Table 15-8). -/
structure AcceptedActive (s : State) (h : CmdHdr) : Prop extends AcceptedRun s h where
  role : s.role = .active

/-- A reset has been asserted from a source at a scope: it is noted in the retained domain, its domains are in reset, its
release stands at its first step, no command is in flight, and the ledger holds every one that was, while it has room
(R360, R394 to R398). `cmd` is the RESET command behind it. -/
structure ResetBy (s t : State) (src : Nat) (c : Scope) (cmd : Option CmdHdr) : Prop where
  source : t.rc.lastSource = src
  scope : t.rc.lastScope = c.code
  count : t.rc.resets = (s.rc.resets + 1) % 65536
  release : ∃ r, t.rc.release = some r ∧ r.scope = c ∧ r.step = (c.steps false).headD 0 ∧ r.tries = 0 ∧ r.stopped = false
  domains : ∀ d ∈ s.part.resetDomains c false, d ∈ t.rc.off
  ended : t.hq.inflight = [] ∧ t.hq.parked = [] ∧ t.hq.queues = List.replicate 4 {}
  ledger : s.hq.ledger.length + s.hq.flights.length ≤ 512 → ∀ f ∈ s.hq.flights,
    { tag := f.2.tag, queue := f.2.queue, sqIndex := f.2.sqIndex, status := if cmd = some f.2 then stOk else stAborted
      scope := c.code, source := src, seq := s.ev.nextSeq } ∈ t.hq.ledger

/-- What stands after a COLD reset: nothing is trained, closed, learned, granted or captured, and the role is STARTING
(R395, R399, Table 17-11). -/
structure ColdLost (t : State) : Prop where
  role : t.role = .starting
  start : t.rc.start = .cold
  loops : t.le = {}
  cells : t.ports = List.replicate 80 {}
  groups : t.groups = List.replicate 16 {}
  shelf : t.sh = {}
  profile : t.pf = {}
  storage : t.pl = {}
  capture : t.cr = {}
  checkpoint : t.checkpoint = none
  time : t.clk.ptpState = .free

/-- What a WARM reset keeps: the loops, the cells, the groups and the role (R395, R399, Table 17-11). -/
structure WarmKept (s t : State) : Prop where
  role : t.role = s.role
  start : t.rc.start = .warm
  slots : t.le.slots = s.le.slots
  table : t.le.table = s.le.table
  frame : t.le.frame = s.le.frame
  cells : t.ports = s.ports
  groups : t.groups = s.groups
  shelf : t.sh = s.sh

/-- What a HOST reset keeps: everything but the host interface and what waits for it (R345, R395). -/
structure HostKept (s t : State) : Prop where
  role : t.role = s.role
  loops : t.le = s.le
  cells : t.ports = s.ports
  groups : t.groups = s.groups
  shelf : t.sh = s.sh
  profile : t.pf = s.pf
  storage : t.pl = s.pl
  capture : t.cr = s.cr
  tether : t.teth = s.teth
  start : t.rc.start = s.rc.start

/-- The host memory after the writes of a list of outputs, newest first, have been made to it. -/
def replay : List Output → List Host.Cell → List Host.Cell
  | [], m => m
  | .hostWrite a b :: l, m => Mem.writeN 0 (replay l m) a b
  | _ :: l, m => replay l m

/-- Sizes the spec fixes, and the canonical form of the two memories: 80 port, 16 group and 128 slot places (a CSM-240
leaves the upper ones unused), 4 pipelines, 4 command queues (Table 14-1), 1,024 records in the retained ring (R314),
4,096 messages in the receive queue (R267), 512 entries in the reset ledger (R360). -/
structure WellShaped (s : State) : Prop where
  ports : s.ports.length = 80
  groups : s.groups.length = 16
  slots : s.le.slots.length = 128
  pipes : s.le.pipes.length = 4
  queues : s.hq.queues.length = 4
  ring : s.ev.ring.length ≤ 1024
  received : s.gn.queue.length ≤ 4096
  ledger : s.hq.ledger.length ≤ 512
  host : Mem.wf 0 s.hostMem = true
  hdma : Mem.wf 0 s.hdma = true

/-- The parts of the state a frame speaks of. -/
inductive Area where
  | clock | role | tether | loops | ports | groups | shelf | profile | storage | gulene | governor | capture | calibration
  | recorder | resets | host | security | pins | checkpoint | dma | free | out
deriving DecidableEq, Repr

def Area.all : List Area :=
  [.clock, .role, .tether, .loops, .ports, .groups, .shelf, .profile, .storage, .gulene, .governor, .capture, .calibration,
    .recorder, .resets, .host, .security, .pins, .checkpoint, .dma, .free, .out]

/-- An area is the same in two states; `out` is what the block has put out and the host memory its posted writes made. -/
def Area.same : Area → State → State → Prop
  | .clock, s, t => t.clk = s.clk
  | .role, s, t => t.role = s.role
  | .tether, s, t => t.teth = s.teth
  | .loops, s, t => t.le = s.le
  | .ports, s, t => t.ports = s.ports
  | .groups, s, t => t.groups = s.groups
  | .shelf, s, t => t.sh = s.sh
  | .profile, s, t => t.pf = s.pf
  | .storage, s, t => t.pl = s.pl
  | .gulene, s, t => t.gn = s.gn
  | .governor, s, t => t.gv = s.gv
  | .capture, s, t => t.cr = s.cr
  | .calibration, s, t => t.cal = s.cal
  | .recorder, s, t => t.ev = s.ev
  | .resets, s, t => t.rc = s.rc
  | .host, s, t => t.hq = s.hq
  | .security, s, t => t.se = s.se
  | .pins, s, t => t.pins = s.pins
  | .checkpoint, s, t => t.checkpoint = s.checkpoint
  | .dma, s, t => t.hdma = s.hdma
  | .free, s, t => t.free = s.free
  | .out, s, t => t.out = s.out ∧ t.hostMem = s.hostMem

/-- Everything but some areas is unchanged; the part and the queue of waiting commands always are. -/
def KeepsBut (l : List Area) (s t : State) : Prop :=
  t.part = s.part ∧ t.pending = s.pending ∧ ∀ a : Area, a ∉ l → a.same s t

/-- The areas a command may change. A host command starts in `resets` too, where it may end Quiet (R405). -/
def mayChange : Instr → List Area
  | .devIdentify _ _ | .devCaps _ _ | .loopRead _ _ _ _ | .calRead _ _ => [.resets, .host, .dma, .out]
  | .queueCreate _ _ _ _ _ _ _ _ _ | .queueDelete _ _ => [.resets, .host, .out]
  | .loopOpen _ _ | .loopClose _ _ _ _ | .loopLoad _ _ _ | .assay _ _ => [.loops, .resets, .host, .out]
  | .loopSchedule _ _ _ => [.loops, .recorder, .resets, .host, .out]
  | .groupEnable _ _ => [.loops, .ports, .groups, .shelf, .resets, .host, .out]
  | .busVset _ _ _ => [.loops, .groups, .shelf, .resets, .host, .out]
  | .groupQuench _ _ | .feTrip _ | .openTrip _ | .fallbackSwitch | .blockLockLost _ | .portLost _ | .status _ _ |
    .portTrained _ _ | .startTimeout _ | .imbalance _ | .senseFinding _ | .coolantUpdate | .voltageLimitTrip _ =>
    [.loops, .ports, .groups, .shelf, .recorder, .resets, .host, .out]
  | .cellRetire _ _ => [.loops, .ports, .recorder, .resets, .host, .out]
  | .cellRestore _ _ _ | .svcResponse _ _ => [.loops, .ports, .shelf, .recorder, .resets, .host, .out]
  | .storeMode _ _ | .planLimits _ _ => [.storage, .resets, .host, .out]
  | .planLoad _ _ _ _ _ _ _ _ | .profileStart _ _ | .profileStop _ | .profileClear _ => [.profile, .resets, .host, .out]
  | .profileSet _ _ => [.profile, .recorder, .resets, .host, .out]
  | .budgetSet _ _ _ | .govMode _ _ _ | .grantMode _ _ => [.gulene, .governor, .recorder, .resets, .host, .out]
  | .keyLoad _ _ => [.gulene, .resets, .host, .out]
  | .captureArm _ _ _ => [.shelf, .capture, .resets, .host, .out]
  | .captureTrigger _ | .captureRelease _ => [.capture, .resets, .host, .out]
  | .captureFreeze _ => [.capture, .recorder, .resets, .host, .out]
  | .captureRead _ _ _ _ _ => [.capture, .resets, .host, .dma, .out]
  | .logRead _ _ _ _ _ _ => [.recorder, .resets, .host, .dma, .out]
  | .logClear _ _ | .imageCommit _ _ => [.recorder, .resets, .host, .security, .out]
  | .calWrite _ _ => [.calibration, .resets, .host, .out]
  | .imageStage _ _ => [.resets, .host, .security, .out]
  | .imageActivate | .reset _ _ | .commandFetch | .seRcvRetry | .seRcvRestart | .alert _ | .resetN _ _ |
    .stewardWatchdog | .loopWatchdog | .pcieReset | .vinMainLoss | .retainedLoss _ | .thermalTrip => Area.all
  | .blockReset _ _ =>
    [.clock, .loops, .profile, .storage, .gulene, .governor, .capture, .recorder, .resets, .host, .security, .out]
  | .timeSet _ _ _ _ _ => [.clock, .gulene, .governor, .recorder, .resets, .host, .out]
  | .takeover _ => [.tether, .resets, .host, .out]
  | .takeoverForce _ => [.role, .tether, .loops, .ports, .governor, .recorder, .resets, .host, .out]
  | .sqTail _ _ | .cqHead _ _ | .cqStall _ | .eqStall | .pcieLinkUp _ _ _ _ _ => [.host]
  | .eqHead _ | .partnerReplace | .logClearDone | .dramCeWindow | .serdesMargin _ _ _ => [.recorder, .host, .out]
  | .bootstrapEnable | .ledgerDelivery | .msixCoalesceTimeout _ | .badAccess _ _ | .retireTimeout _ => [.host, .out]
  | .bootstrapDisable => [.governor, .host, .security]
  | .dmaErr _ _ => [.profile, .governor, .host, .security, .out]
  | .bar4Access _ _ _ _ => [.host, .dma, .out]
  | .registerWrite _ _ _ | .imageStageDone => [.host, .security, .out]
  | .w1cWrite _ _ _ =>
    [.tether, .loops, .ports, .shelf, .profile, .storage, .governor, .capture, .recorder, .resets, .security, .pins]
  | .loRead _ _ => [.loops, .ports, .groups, .shelf, .profile, .host, .out]
  | .leTaperFrac _ => [.loops, .out]
  | .profileTableRead _ _ => [.profile, .out]
  | .tmMin _ | .tmMax _ => [.ports, .groups, .shelf, .out]
  | .ptBusVset _ => [.loops, .groups, .shelf, .recorder, .host, .out]
  | .ptBusSlew _ => [.loops, .shelf, .recorder, .host, .out]
  | .ptFfCfg _ => [.shelf]
  | .ptBurstEnter _ | .ptBurstDwell _ | .ptBurstBand _ => [.shelf, .recorder, .host, .out]
  | .protRegisterWrite _ _ => [.groups, .shelf, .recorder, .host, .out]
  | .tmGrpSrcWrite _ _ _ => [.groups]
  | .evCfg _ | .flush => [.recorder]
  | .rcPwrCfg _ | .releaseRetry _ | .failedStartClear => [.resets]
  | .seRcvLoad | .svnRaise => [.security]
  | .recoveryWriteDone _ => [.recorder, .resets, .host, .security, .free, .out]
  | .slotEvaluation _ _ => [.loops, .ports, .groups, .shelf, .recorder, .host, .out]
  | .scheduleSwitch => [.loops, .ports, .groups, .shelf, .recorder, .resets, .host, .out]
  | .assayEvaluation _ _ => [.loops, .recorder, .host, .out]
  | .fastDn _ => [.tether, .ports, .host, .out]
  | .fastUp _ _ => [.role, .tether, .loops, .ports, .groups, .shelf, .governor, .recorder, .resets, .host, .out]
  | .svcDn _ => [.ports, .out]
  | .portRetrain _ | .degraded _ _ | .svcTimeout _ _ | .trainingTimeout _ _ => [.ports, .recorder, .host, .out]
  | .held _ _ => [.ports]
  | .autostart => [.loops, .ports, .groups, .shelf]
  | .preBiasedStart _ | .burstEnter => [.loops, .groups]
  | .regulationReached _ | .quenchTimeout _ => [.groups, .host, .out]
  | .restoreSrStep _ => [.ports, .host, .out]
  | .msWindow => [.loops, .ports, .groups, .shelf, .recorder, .resets, .host, .free, .out]
  | .estimatorUpdate | .fcHoldEnd | .absenceDetect => [.storage]
  | .fastStep _ => [.loops, .profile, .storage, .recorder, .host, .out]
  | .rideExit => [.storage, .recorder, .host, .out]
  | .slowStep | .peerSilent _ => [.storage, .gulene, .governor, .recorder, .host, .out]
  | .absenceDecay => [.loops]
  | .profileSample _ | .lockLost => [.profile, .recorder, .host, .free, .out]
  | .coastTimeout => [.profile]
  | .wickNotice _ _ _ _ => [.loops, .groups, .shelf, .profile, .recorder, .host, .out]
  | .wickApply => [.profile, .recorder, .host, .out]
  | .planWritten | .planActivateAtTime | .planActTimeout => [.profile, .host, .out]
  | .forecastWrite _ => [.loops, .profile, .recorder, .host, .out]
  | .governorStep | .epoch | .guleneDrain =>
    [.loops, .groups, .shelf, .profile, .storage, .gulene, .governor, .recorder, .host, .out]
  | .leadClaim => [.storage, .gulene, .governor, .recorder, .host, .out]
  | .grantRelease | .barrierTimeout _ => [.gulene, .governor, .out]
  | .budgetTimeout _ => [.gulene, .governor, .host, .out]
  | .budgetExpiry => [.governor, .host, .out]
  | .budgetReqRepeat _ => [.gulene, .recorder, .host, .out]
  | .endpointStale _ | .calFitUpdate => [.governor]
  | .endpointDeregister _ | .wick _ | .report _ | .lantern _ | .budget _ | .electReceived _ | .shareReceived _ |
    .isolated | .ethernetLink _ => [.gulene, .governor, .recorder, .host, .out]
  | .grantReceived | .bucketRefill | .replayRecordExpiry _ _ | .oldKeyExpiry _ | .announce _ |
    .delayResp _ | .dhcpReply _ | .malformedDatagram => [.gulene]
  | .negFail => [.gulene, .recorder, .host, .out]
  | .ptpSync _ _ => [.clock, .gulene, .governor, .recorder, .host, .free, .out]
  | .ptpSyncTimeout => [.clock, .gulene, .governor, .recorder, .host, .out]
  | .smbusReadByte _ | .getVersion | .getCapabilities |
    .negotiateAlgorithms _ _ _ | .getDigests | .getCertificate _ _ _ | .delayReq | .jtagAccess _ => [.out]
  | .tetherFast _ _ => [.role, .tether, .loops, .ports, .shelf, .governor, .recorder, .host, .out]
  | .roleDecision => [.role, .tether]
  | .partnerLost => [.role, .tether, .loops, .ports, .governor, .recorder, .host, .out]
  | .stateCopySend | .tetherFastSend => [.tether, .out]
  | .tetherBulk _ _ _ _ _ _ =>
    [.role, .tether, .loops, .ports, .groups, .storage, .governor, .recorder, .resets, .host, .out]
  | .takeoverPortCheck => [.tether, .loops, .ports, .groups, .shelf, .recorder, .resets, .host, .out]
  | .handoverFail | .tetherTrain _ _ _ _ => [.tether, .recorder, .host, .out]
  | .takeoverTimeout => [.tether, .host, .out]
  | .captureSample => [.shelf, .capture]
  | .captureFrozen | .dramError _ _ _ _ => [.capture, .recorder, .host, .out]
  | .flushEnd => [.recorder, .host, .dma, .out]
  | .opTimeTick _ _ _ => [.recorder, .pins]
  | .powerOn => [.tether, .recorder, .resets, .host, .security, .pins]
  | .pfWarn _ => [.capture, .recorder, .host, .pins, .out]
  | .vinMainReturn => [.recorder, .resets]
  | .releaseStep _ _ => [.storage, .governor, .recorder, .resets, .host, .out]
  | .rcClockFault _ =>
    [.clock, .role, .tether, .loops, .ports, .groups, .shelf, .gulene, .governor, .capture, .recorder, .resets, .host, .out]
  | .coldStart _ _ => Area.all.removeAll [.clock, .capture, .pins, .checkpoint, .dma, .free]
  | .warmStart _ => [.storage, .governor, .resets, .security]
  | .checkpointWrite => [.checkpoint]
  | .quietEnter => [.clock, .loops, .gulene, .governor, .recorder, .resets, .host, .out]
  | .thermalReturn => [.recorder, .resets, .pins]
  | .snuffSense _ => [.governor, .capture, .recorder, .host, .out]
  | .ppsIn | .tempHigh _ => [.pins]
  | .ppsOut _ => [.pins, .out]
  | .smbusAlertResponse => [.recorder, .out]
  | .challenge _ _ | .getMeasurements _ _ => [.free, .out]
  | .calWriteDone _ => [.calibration, .recorder, .host, .free, .out]
  | .imageCommitDone _ => [.resets, .host, .security, .free, .out]
  | .neighbourDiscovery _ | .keyActivate _ | .ptpSyncSend => [.gulene, .out]

/-- The header of a host command. -/
def hdrOf : Instr → Option CmdHdr
  | .devIdentify h _ | .devCaps h _ | .queueCreate h _ _ _ _ _ _ _ _ | .queueDelete h _ | .loopOpen h _ |
    .loopClose h _ _ _ | .loopLoad h _ _ | .loopRead h _ _ _ | .loopSchedule h _ _ | .groupEnable h _ |
    .groupQuench h _ | .busVset h _ _ | .cellRetire h _ | .cellRestore h _ _ | .storeMode h _ | .planLimits h _ |
    .planLoad h _ _ _ _ _ _ _ | .profileStart h _ | .profileStop h | .profileClear h | .profileSet h _ |
    .budgetSet h _ _ | .govMode h _ _ | .grantMode h _ | .keyLoad h _ | .captureArm h _ _ | .captureTrigger h |
    .captureFreeze h | .captureRelease h | .captureRead h _ _ _ _ | .logRead h _ _ _ _ _ | .logClear h _ |
    .calRead h _ | .calWrite h _ | .assay h _ | .imageStage h _ | .imageCommit h _ | .reset h _ |
    .blockReset h _ | .timeSet h _ _ _ _ | .takeover h | .takeoverForce h => some h
  | _ => none

/-- The host commands marked Active only (Table 15-8). -/
def activeOnly : Instr → Bool
  | .groupEnable _ _ | .groupQuench _ _ | .busVset _ _ _ | .cellRetire _ _ | .cellRestore _ _ _ | .storeMode _ _ |
    .planLimits _ _ | .budgetSet _ _ _ | .govMode _ _ _ | .grantMode _ _ => true
  | _ => false

/-- The host commands that answer BUSY until START_STATE reaches RUN (R403). -/
def waitsForRun : Instr → Bool
  | .loopOpen _ _ | .loopClose _ _ _ _ | .loopLoad _ _ _ | .loopSchedule _ _ _ | .groupEnable _ _ |
    .groupQuench _ _ | .busVset _ _ _ | .cellRetire _ _ | .cellRestore _ _ _ | .storeMode _ _ | .planLimits _ _ |
    .planLoad _ _ _ _ _ _ _ _ | .profileStart _ _ | .profileStop _ | .profileClear _ | .profileSet _ _ |
    .budgetSet _ _ _ | .govMode _ _ _ | .grantMode _ _ | .keyLoad _ _ | .logClear _ _ | .calWrite _ _ |
    .assay _ _ | .imageStage _ _ | .imageCommit _ _ | .timeSet _ _ _ _ _ | .takeover _ | .takeoverForce _ => true
  | _ => false

/-- The host commands that reset nothing and retire or restore no cell: of `resets` they change only Quiet. -/
def onlyWakes : Instr → Bool
  | .reset _ _ | .blockReset _ _ | .cellRetire _ _ | .cellRestore _ _ _ | .groupQuench _ _ => false
  | c => (hdrOf c).isSome

end Sys2Proof
end

