-- ==== Sys2Proof/Certificates/Slice0/Obligations.lean ====
section
/-!
DEFINITION. The statements about the block. Names of registers, commands and rules are those of the spec; a clause that rests
on a choice of the model says so.
-/

open Sys2Proof Sys2Proof.Machine

/-- R365 to R367: the device and queue commands. DEV_IDENTIFY and DEV_CAPS return their records and answer OK; QUEUE_CREATE
makes the queue with every index 0 and puts its write-back dwords to 0; QUEUE_DELETE stops the queue and waits for its
commands in flight, or, with none, deletes it at once. -/
def Obligations.DeviceCommandsComplete : Prop :=
  (∀ (h : CmdHdr) (buf : Buf) (s : State), Accepted s h → bufOk buf 128 = true →
    Completes (.devIdentify h buf) s (fun t => Stored s t buf s.identity ∧ Answered s t h stOk 0)) ∧
  (∀ (h : CmdHdr) (buf : Buf) (s : State), Accepted s h → bufOk buf 64 = true →
    Completes (.devCaps h buf) s (fun t => Stored s t buf s.capsRecord ∧ Answered s t h stOk 0)) ∧
  (∀ (h : CmdHdr) (q vec cnt us sqB cqB sqN cqN : Nat) (s : State), Accepted s h → 1 ≤ q → q ≤ 3 → vec < 64 →
    sqB % 4096 = 0 → cqB % 4096 = 0 → ringOk sqN = true → ringOk cqN = true → (nth s.hq.queues q {}).present = false →
    s.hq.busMaster = true → h.queue ≠ q → s.hq.queues.length = 4 → (∀ f ∈ s.hq.inflight, ∀ k, f.wait ≠ .queueDelete k) →
    Completes (.queueCreate h q vec cnt us sqB cqB sqN cqN) s (fun t =>
      nth t.hq.queues q {} =
        { present := true, sqBase := sqB, cqBase := cqB, sqN := sqN, cqN := cqN
          vec := vec, coalCnt := cnt % 256, coalUs := us % 256 } ∧
      Puts s t (.hostWrite ((s.hq.wbBase + (0x20 + 4 * q)) % 2 ^ 64) [0, 0, 0, 0]) ∧
      Puts s t (.hostWrite ((s.hq.wbBase + 4 * q) % 2 ^ 64) [0, 0, 0, 0]) ∧ Answered s t h stOk 0)) ∧
  (∀ (h : CmdHdr) (q : Nat) (s : State), Accepted s h → 1 ≤ q → q ≤ 3 → h.queue ≠ q → (nth s.hq.queues q {}).present = true →
    s.hq.queues.length = 4 → (∀ f ∈ s.hq.inflight, ∀ k, f.wait ≠ .queueDelete k) →
    (s.hq.inFlight q ≠ 0 → Completes (.queueDelete h q) s (fun t =>
      (nth t.hq.queues q {}).deleting = true ∧ Waits t h (.queueDelete q))) ∧
    (s.hq.inFlight q = 0 → Completes (.queueDelete h q) s (fun t =>
      nth t.hq.queues q {} = {} ∧ Answered s t h stOk 0)))

/-- R66, R70, R368 to R372: the loop commands. LOOP_OPEN and LOOP_CLOSE of a scheduled slot hand it the change and wait for
its next evaluation; a slot already so answers OK at once. LOOP_LOAD hands every block to its slot and answers when the
scheduled ones have taken theirs. LOOP_READ returns the register blocks. LOOP_SCHEDULE keeps an accepted table with its
fallbacks for its switch, and answers a refusal by its reason, which LE_SCHED_STATUS then shows. -/
def Obligations.LoopCommandsComplete : Prop :=
  (∀ (h : CmdHdr) (k : Nat) (s : State), AcceptedRun s h → WellShaped s → k < s.part.slots → (s.slot k).loaded = true →
    (s.slotBusy k = false → (s.slot k).closing = true → (s.entry k).isSome = true →
      Completes (.loopOpen h k) s (fun t => (t.slot k).pend = (s.slot k).pend ++ [.openIt] ∧ Waits t h (.loopOpen k))) ∧
    (s.slotBusy k = false → (s.slot k).closing = true → (s.entry k).isSome = false →
      Completes (.loopOpen h k) s (fun t => (t.slot k).closed = false ∧ Answered s t h stOk 0)) ∧
    (s.slotBusy k = false → (s.slot k).closing = false →
      Completes (.loopOpen h k) s (fun t => t.le = s.le ∧ Answered s t h stOk 0))) ∧
  (∀ (h : CmdHdr) (k mode : Nat) (v : Int) (s : State), AcceptedRun s h → WellShaped s → k < s.part.slots → mode ≤ 3 →
    (mode = 3 ∨ v = 0) → (s.slot k).loaded = true → (s.entry k).isSome = true →
    (mode = 2 → (s.heldOf (s.slot k)).isSome = true) → s.slotBusy k = false →
    ((s.slot k).closing = false → Completes (.loopClose h k mode v) s (fun t =>
      (t.slot k).pend = (s.slot k).pend ++ [.closeIt (preloadOf mode v)] ∧ Waits t h (.loopClose k))) ∧
    ((s.slot k).closing = true → Completes (.loopClose h k mode v) s (fun t => t.le = s.le ∧ Answered s t h stOk 0))) ∧
  (∀ (h : CmdHdr) (buf : Buf) (n : Nat) (s : State), AcceptedRun s h → WellShaped s → n ≠ 0 → buf.len = 576 * n →
    n ≤ s.part.slots → bufOk buf (576 * n) = true → s.part.blocksFault (blocksOf (s.bufRead buf 0 (576 * n)) n) = none →
    (∀ b ∈ blocksOf (s.bufRead buf 0 (576 * n)) n, (s.slot (u b 0 1)).closing = false) →
    Completes (.loopLoad h buf n) s (fun t =>
      (∀ b ∈ blocksOf (s.bufRead buf 0 (576 * n)) n,
        if (s.entry (u b 0 1)).isSome then (t.slot (u b 0 1)).pend = (s.slot (u b 0 1)).pend ++ [blockLoad b]
        else t.slot (u b 0 1) = (s.slot (u b 0 1)).apply (blockLoad b)) ∧
      (let wait := (blockSlots (blocksOf (s.bufRead buf 0 (576 * n)) n)).filter (fun k => (s.entry k).isSome)
       if wait = [] then Answered s t h stOk n else Waits t h (.loopLoad wait n)))) ∧
  (∀ (h : CmdHdr) (buf : Buf) (a n : Nat) (s : State), Accepted s h → n ≠ 0 → a + n ≤ s.part.slots →
    bufOk buf (1024 * n) = true → Completes (.loopRead h buf a n) s (fun t =>
      Stored s t buf ((List.range n).flatMap (fun j => s.slotBlock (a + j))) ∧ Answered s t h stOk n)) ∧
  (∀ (h : CmdHdr) (buf : Buf) (n : Nat) (s : State), AcceptedRun s h → n ≠ 0 → buf.len = 8 * n →
    n ≤ 256 * s.part.pipes → bufOk buf (8 * n) = true → s.le.pendTable = none →
    (s.schedCtx.check true (entriesOf (s.bufRead buf 0 (8 * n)) n) = none → Completes (.loopSchedule h buf n) s (fun t =>
      t.le.pendTable = some (s.schedCtx.build (entriesOf (s.bufRead buf 0 (8 * n)) n)) ∧ Waits t h .schedule)) ∧
    (∀ r, s.schedCtx.check true (entriesOf (s.bufRead buf 0 (8 * n)) n) = some r → Completes (.loopSchedule h buf n) s (fun t =>
      t.le = { s.le with lastReason := r.reason, lastPipe := r.pipe % 256, lastEntry := r.entry % 256 } ∧
      Answered s t h (schedRefuse r).1 (schedRefuse r).2)))

/-- R50 to R60, R65, R70, R75, R76, R80, R88: what a scheduled evaluation leaves in its slot and sends to the cells, what the
following-error and open-time trips do, and the read of LE_TAPER_FRAC. A slot is evaluated in the frame periods with
F mod k = phase, and in no other; an evaluation of a FAILED pipeline only counts. A trip on a standby keeps its finding for a
takeover: it has no action yet (R154). -/
def Obligations.EvaluationsComplete : Prop :=
  (∀ (k : Nat) (parity : Bool) (s : State), (∀ e, s.entry k = some e → s.le.frame % e.k ≠ e.phase) →
    Completes (.slotEvaluation k parity) s (fun t => t = s)) ∧
  (∀ (k : Nat) (e : SchedEnt) (parity : Bool) (s : State), WellShaped s → k < 128 → s.entry k = some e →
    s.le.frame % e.k = e.phase →
    ((nth s.le.pipes e.pipe {}).failed = true → Completes (.slotEvaluation k parity) s (fun t =>
      t = s.setSlot k (fun x => { x with evals := (x.evals + 1) % 2 ^ 32 }))) ∧
    ((nth s.le.pipes e.pipe {}).failed = false → Completes (.slotEvaluation k parity) s (fun t =>
      let v := s.takeChanges k
      let x := v.slot k
      let y := if parity then x.discard
        else if x.closed then x.evalClosed (v.evalIn k) ((v.heldOf x).getD x.out) else x.evalOpen (v.evalIn k)
      t.slot k = { y with prevOut := x.out, evalAt := some (400 * s.le.frame + e.start) } ∧
      (∀ p ∈ v.destPorts x, p < 80 → x.destField < (s.port p).cmd.length → nth (t.port p).cmd x.destField 0 = y.out) ∧
      (∀ p, p ∉ v.destPorts x → t.port p = s.port p)))) ∧
  (∀ (k : Nat) (s : State), WellShaped s → k < s.part.slots → (s.slot k).feDue = true →
    (s.role ≠ .active → Completes (.feTrip k) s (fun t =>
      t = s.setSlot k (fun x => { x with feDue := true, feTrip := true }))) ∧
    (s.role = .active → Completes (.feTrip k) s (fun t =>
      t = (s.slotSubjects k).foldl (fun v y => v.ladder y (s.slot k).feAction 9 16)
        ((s.setSlot k (fun x => { x with feDue := false, feTrip := true })).record 0x0302 1 kSlot k
          (leBytes 1 (s.slot k).feAction))))) ∧
  (∀ (k : Nat) (s : State), WellShaped s → k < s.part.slots → (s.slot k).loaded = true → (s.slot k).closed = false →
    (s.slot k).openMax ≠ 0 → (s.slot k).openDone = false →
    (s.role ≠ .active → Completes (.openTrip k) s (fun t =>
      (t.slot k).openTrip = true ∧ (t.slot k).openDone = false ∧ ((s.slot k).openMax + 1) * 1000 ≤ (t.slot k).openNs ∧
      t.ports = s.ports ∧ t.groups = s.groups)) ∧
    (s.role = .active → Completes (.openTrip k) s (fun t =>
      t = (s.slotSubjects k).foldl (fun v y => v.ladder y (s.slot k).openAction 9 16)
        ((s.setSlot k (fun x => { x with openTrip := true, openDone := true
                                         openNs := max x.openNs ((x.openMax + 1) * 1000) })).record 0x0303 1 kSlot k
          (leBytes 1 (s.slot k).openAction))))) ∧
  (∀ (k : Nat) (s : State), WellShaped s → k < s.part.slots → Completes (.leTaperFrac k) s (fun t =>
    (t.slot k).taperShadow = ofSigned 32 ((s.slot k).taperPos / 2 ^ 16) ∧
    t.out = .regRead (0x400000 + 0x400 * k + 0x314) ((s.slot k).taperPos % 2 ^ 16).toNat :: s.out))

/-- R84 to R89, R384: ASSAY and its vectors, the switch to an accepted table, and the switch to a fallback placement. A second
mismatch in a row makes the pipeline FAILED, raises cause 0 and makes its fallback switch due, beside those that already are.
The fallback placement is the first FAILED pipeline's; the slots of a later one have none. A table that still names a
pipeline whose switch has been made leaves it too. -/
def Obligations.SchedulesAndVectorsComplete : Prop :=
  (∀ (h : CmdHdr) (m : Nat) (s : State), AcceptedRun s h → m ≠ 0 → m < 2 ^ s.part.pipes →
    (∀ p < 4, bitAt m p = true → (nth s.le.pipes p {}).failed = false) → s.le.assay = none →
    Completes (.assay h m) s (fun t =>
      t.le.assay = some { mask := m, left := (List.range 4).map (fun p => if bitAt m p then 32 else 0), miss := [0, 0, 0, 0] } ∧
      Waits t h .assay)) ∧
  (∀ (p : Nat) (miss : Bool) (s : State), WellShaped s → p < s.part.pipes → (nth s.le.pipes p {}).failed = false →
    Completes (.assayEvaluation p miss) s (fun t =>
      let x := nth s.le.pipes p {}
      nth t.le.pipes p {} =
        { x with vectors := (x.vectors + 1) % 2 ^ 16
                 mismatches := if miss then satInc 16 x.mismatches else x.mismatches
                 repeatV := miss && !x.repeatV
                 vector := if miss then x.vector else (x.vector + 1) % 32
                 failed := miss && x.repeatV } ∧
      ((miss && x.repeatV) = true →
        t.le.pendFall = s.le.pendFall ++ [p] ∧ t.le.fallen = s.le.fallen ++ [p] ∧ 0 ∈ t.ev.causes) ∧
      ((miss && x.repeatV) = false → t.le.pendFall = s.le.pendFall ∧ t.le.fallen = s.le.fallen))) ∧
  (∀ (p : Nat) (a : AssayRun) (s : State), WellShaped s → p < s.part.pipes → (nth s.le.pipes p {}).failed = false →
    s.le.assay = some a → bitAt a.mask p = true → nth a.left p 0 = 1 →
    (∀ q < 4, q ≠ p → bitAt a.mask q = true → nth a.left q 0 = 0 ∨ (nth s.le.pipes q {}).failed = true) →
    Completes (.assayEvaluation p false) s (fun t => t.le.assay = none ∧
      ∀ f ∈ s.hq.inflight, f.wait = .assay → Answered s t f.hdr stOk ((List.range 4).foldl (fun r q =>
        r + (if !bitAt a.mask q then 0 else if (nth s.le.pipes q {}).failed then 0xFF else min (nth a.miss q 0) 0xFE) *
          2 ^ (8 * q)) 0))) ∧
  (∀ (n : SchedTable) (s : State), s.le.pendTable = some n →
    Completes .scheduleSwitch s (fun t => t.le.pendTable = none ∧ t.le.gen = (s.le.gen + 1) % 256 ∧
      (∃ v : State, v.le.table = n ∧ v.le.fallen = s.le.fallen ∧ v.le.pendFall = s.le.pendFall ∧
        (∀ k, (v.slot k).remapped = false) ∧ v.groups = s.groups ∧ t.le = v.healTable.le ∧ t.groups = v.healTable.groups) ∧
      ((∀ p ∈ s.le.fallen, p ∈ s.le.pendFall ∨ ∀ e ∈ n.ents, e.pipe ≠ p) →
        t.le.table = n ∧ t.groups = s.groups ∧ ((∀ k, (s.slot k).pend = []) →
          ∀ f ∈ s.hq.inflight, f.wait = .schedule → Answered s t f.hdr stOk ((s.le.gen + 1) % 256))))) ∧
  (∀ s : State, Completes .fallbackSwitch s (fun t =>
    t = s.le.pendFall.foldl State.fallOver { s with le := { s.le with pendFall := [] } })) ∧
  (∀ (p : Nat) (s : State), WellShaped s → s.le.pendFall = [p] →
    Completes .fallbackSwitch s (fun t =>
      let new := if s.le.fallen.head? = some p then nth s.le.table.fall p []
        else s.le.table.ents.filter (fun e => e.pipe != p)
      let moved := (s.le.table.ents.filter (fun e => e.pipe == p)).map (·.slot)
      let lost := moved.filter (fun k => !(new.any (fun e => e.slot == k)))
      ∃ v : State, v.le.pendFall = [] ∧ v.le.gen = s.le.gen ∧ v.le.table = { s.le.table with ents := new } ∧
        (∀ k < 128, k ∈ moved → k ∉ lost → (v.slot k).remapped = true) ∧ v.groups = s.groups ∧ t = v.quenchUnplaced lost))

/-- R100, R101, R103, R108 to R110, R373: GROUP_ENABLE starts a group that is OFF and waits for REGULATING; GROUP_QUENCH
quenches it with LAST_QUENCH 1 and waits for OFF; BUS_VSET puts the target and slew in force, ends an earlier BUS_VSET
SUPERSEDED and answers when every bus group is at the target. -/
def Obligations.GroupCommandsComplete : Prop :=
  (∀ (h : CmdHdr) (g : Nat) (s : State), AcceptedActive s h → WellShaped s → g < 16 → (s.group g).gtype ≠ 0 →
    ((s.group g).state = .off → s.startRefusal g = none → Completes (.groupEnable h g) s (fun t =>
      (t.group g).state = .starting ∧ (t.group g).startPend = true ∧ (t.group g).toReg = true ∧ (t.group g).regRun = 0 ∧
      Waits t h (.groupEnable g))) ∧
    ((s.group g).state ≠ .off → (s.group g).state ≠ .quenching → Completes (.groupEnable h g) s (fun t =>
      t.groups = s.groups ∧ Answered s t h stOk 0))) ∧
  (∀ (h : CmdHdr) (g : Nat) (s : State), AcceptedActive s h → WellShaped s → g < 16 → (s.group g).gtype ≠ 0 →
    ((s.group g).state = .off → Completes (.groupQuench h g) s (fun t => t.groups = s.groups ∧ Answered s t h stOk 0)) ∧
    ((s.group g).state ≠ .off → Completes (.groupQuench h g) s (fun t =>
      (t.group g).state = .quenching ∧
      (t.group g).lastQuench = (if (s.group g).state = .quenching then (s.group g).lastQuench else 1) ∧
      Waits t h (.groupQuench g)))) ∧
  (∀ (h : CmdHdr) (v : Int) (slew : Nat) (s : State), AcceptedActive s h → s.vsetOk v = true → slewOk slew = true →
    Completes (.busVset h v slew) s (fun t => t.sh.target = v ∧ t.sh.slew = slew ∧
      (∀ f ∈ s.hq.inflight, f.wait = .busVset → Answered s t f.hdr stSuperseded 0) ∧
      (let x := s.supersedeBus.setBus v slew
       (x.busLive = [] → Answered s t h stOk 0) ∧
       (x.busLive ≠ [] → x.busLive.all x.atTarget = true → Answered s t h stOk (x.busLive.foldl (fun m g => m + 2 ^ g) 0)) ∧
       (x.busLive.all x.atTarget = false → Waits t h .busVset))))

/-- R105 to R107, R374: CELL_RETIRE retires a cell and waits for its stopped report; CELL_RESTORE clears a fault first where
asked, else makes the cell a member again and waits out its SR_DE step, or is answered by the state of bridge and group; the
two time limits. A restore met by QUENCHING is DENIED with the cell a member (R374). -/
def Obligations.CellCommandsComplete : Prop :=
  (∀ (h : CmdHdr) (p : Nat) (s : State), AcceptedActive s h → WellShaped s → p < s.part.ports → (s.port p).isCell = true →
    ((s.port p).retired = false → s.lastCell p = false → Completes (.cellRetire h p) s (fun t =>
      (t.port p).retired = true ∧ (t.port p).cause = 1 ∧ (t.port p).stopSeen = false ∧ p ∈ t.rc.retiredBk ∧
      Waits t h (.retire p))) ∧
    (s.lastCell p = true → Completes (.cellRetire h p) s (fun t => t.ports = s.ports ∧ Answered s t h stDenied 0)) ∧
    ((s.port p).retired = true → Completes (.cellRetire h p) s (fun t => t.ports = s.ports ∧ Answered s t h stOk 0))) ∧
  (∀ (h : CmdHdr) (p : Nat) (s : State), AcceptedActive s h → WellShaped s → p < s.part.ports → (s.port p).isCell = true →
    (s.port p).state = .trained → Completes (.cellRestore h p true) s (fun t =>
      (t.port p).restore = some .clearing ∧ (t.port p).svcWait = (s.port p).svcWait ++
        [{ tag := 0, op := 2, addr := 4, data := 2, mask := 2, sends := 0, use := .clearFault }] ∧ Waits t h (.restore p))) ∧
  (∀ (h : CmdHdr) (p : Nat) (s : State), AcceptedActive s h → WellShaped s → p < s.part.ports → (s.port p).isCell = true →
    ((s.port p).latched = true → Completes (.cellRestore h p false) s (fun t =>
      (t.port p).retired = (s.port p).retired ∧ Answered s t h stDenied 1)) ∧
    ((s.port p).latched = false → (s.port p).state ≠ .trained → Completes (.cellRestore h p false) s (fun t =>
      (t.port p).retired = (s.port p).retired ∧ Answered s t h stDenied 2)) ∧
    ((s.port p).latched = false → (s.port p).state = .trained →
      ((s.port p).retired = false → Completes (.cellRestore h p false) s (fun t => Answered s t h stOk 0)) ∧
      ((s.port p).retired = true → (s.group (s.port p).group).state = .off → Completes (.cellRestore h p false) s (fun t =>
        (t.port p).retired = false ∧ p ∉ t.rc.retiredBk ∧ Answered s t h stOk 0)) ∧
      ((s.port p).retired = true → (s.group (s.port p).group).state = .quenching →
        ((s.group (s.port p).group).gtype = 1 → s.cellSlotOk p = true) → Completes (.cellRestore h p false) s (fun t =>
          (t.port p).retired = false ∧ Answered s t h stDenied 3)) ∧
      ((s.port p).retired = true → (s.group (s.port p).group).state ≠ .off → (s.group (s.port p).group).gtype = 1 →
        s.cellSlotOk p = false → Completes (.cellRestore h p false) s (fun t =>
          (t.port p).retired = true ∧ Answered s t h stDenied 4)) ∧
      ((s.port p).retired = true → (s.group (s.port p).group).state ≠ .off → (s.group (s.port p).group).state ≠ .quenching →
        ((s.group (s.port p).group).gtype = 1 → s.cellSlotOk p = true) → Completes (.cellRestore h p false) s (fun t =>
          (t.port p).retired = false ∧ (t.port p).restore = some .srStep ∧ p ∉ t.rc.retiredBk ∧ Waits t h (.restore p))))) ∧
  (∀ (p : Nat) (s : State), Completes (.retireTimeout p) s (fun t => t.ports = s.ports ∧
    ∀ f ∈ s.hq.inflight, f.wait = .retire p → Answered s t f.hdr stTimeout 0)) ∧
  (∀ (p : Nat) (s : State), WellShaped s → p < s.part.ports → (s.port p).restore = some .srStep →
    Completes (.restoreSrStep p) s (fun t => (t.port p).restore = none ∧
      ∀ f ∈ s.hq.inflight, f.wait = .restore p → Answered s t f.hdr stOk 0))

/-- R111, R114, R116: writes of the bus target, the slew, the feed-forward lead and the burst registers. A value outside its
range changes nothing but the reject flag and gives a BUS_WRITE_REJECT record; PT_FF_CFG above 100 is ignored. -/
def Obligations.BusWritesComplete : Prop :=
  (∀ (d : Reg) (s : State), s.bar0 = true → s.standbyFlag = false →
    (s.vsetOk d.toInt = true → Completes (.ptBusVset d) s (fun t =>
      t.sh.vset = d ∧ t.sh.target = d.toInt ∧ t.sh.slew = s.sh.slew ∧
      ∀ f ∈ s.hq.inflight, f.wait = .busVset → Answered s t f.hdr stSuperseded 0)) ∧
    (s.vsetOk d.toInt = false → Completes (.ptBusVset d) s (fun t =>
      t.sh = { s.sh with vsetReject := true } ∧ Newest s t 0x0404 0 kNone 0 (leBytes 4 d.toNat)))) ∧
  (∀ (d : Reg) (s : State), s.bar0 = true → s.standbyFlag = false →
    (slewOk (bits d.toNat 9 0) = true → Completes (.ptBusSlew d) s (fun t =>
      t.sh = { s.sh with slewReg := bits d.toNat 9 0, slew := bits d.toNat 9 0 })) ∧
    (slewOk (bits d.toNat 9 0) = false → Completes (.ptBusSlew d) s (fun t =>
      t.sh = { s.sh with slewReject := true } ∧ Newest s t 0x0404 0 kNone 0 (leBytes 4 d.toNat)))) ∧
  (∀ (d : Reg) (s : State), s.bar0 = true →
    Completes (.ptFfCfg d) s (fun t => t.sh.leadUs = if bits d.toNat 6 0 ≤ 100 then bits d.toNat 6 0 else s.sh.leadUs)) ∧
  (∀ (d : Reg) (s : State), s.bar0 = true →
    (1 ≤ d.toNat → d.toNat < 2 ^ 31 → Completes (.ptBurstEnter d) s (fun t => t.sh = { s.sh with burstEnter := d.toNat })) ∧
    (d.toNat = 0 ∨ 2 ^ 31 ≤ d.toNat → Completes (.ptBurstEnter d) s (fun t =>
      t.sh = { s.sh with burstReject := true } ∧ Newest s t 0x0404 0 kNone 0 (leBytes 4 d.toNat)))) ∧
  (∀ (d : Reg) (s : State), s.bar0 = true →
    (1 ≤ bits d.toNat 15 0 → Completes (.ptBurstDwell d) s (fun t => t.sh = { s.sh with burstDwell := bits d.toNat 15 0 })) ∧
    (bits d.toNat 15 0 = 0 → Completes (.ptBurstDwell d) s (fun t =>
      t.sh = { s.sh with burstReject := true } ∧ Newest s t 0x0404 0 kNone 0 (leBytes 4 d.toNat)))) ∧
  (∀ (d : Reg) (s : State), s.bar0 = true →
    (1 ≤ bits d.toNat 9 0 → 1 ≤ bits d.toNat 19 10 → bits d.toNat 19 10 < bits d.toNat 29 20 →
      Completes (.ptBurstBand d) s (fun t => t.sh = { s.sh with burstBand := d.toNat % 2 ^ 30 })) ∧
    (bits d.toNat 9 0 = 0 ∨ bits d.toNat 19 10 = 0 ∨ bits d.toNat 29 20 ≤ bits d.toNat 19 10 →
      Completes (.ptBurstBand d) s (fun t =>
        t.sh = { s.sh with burstReject := true } ∧ Newest s t 0x0404 0 kNone 0 (leBytes 4 d.toNat))))

/-- R14 to R16, R167, R296, R333, R405: register writes. A protection register takes a value in its range and refuses another
with PROT_REJECT; a telemetry source takes its stored bits; EV_CFG and RC_PWR_CFG take values in range; a W1C bit is cleared by
a 1 unless an event sets it in the same cycle; a bootstrap register takes its value while ENABLE is 0. -/
def Obligations.RegisterWritesComplete : Prop :=
  (∀ (a : Nat) (d : Reg) (s : State), s.bar0 = true → WellShaped s → 0xA00000 ≤ a → a < 0xA10000 →
    (∀ G, (s.group ((a - 0xA00000) / 0x1000)).protWrite (a % 0x1000) d = some G → Completes (.protRegisterWrite a d) s (fun t =>
      t.group ((a - 0xA00000) / 0x1000) = G ∧ (∀ g, g ≠ (a - 0xA00000) / 0x1000 → t.group g = s.group g) ∧ t.sh = s.sh)) ∧
    ((s.group ((a - 0xA00000) / 0x1000)).protWrite (a % 0x1000) d = none → Completes (.protRegisterWrite a d) s (fun t =>
      t.groups = s.groups ∧ t.sh = { s.sh with protReject := true } ∧ Newest s t 0x0405 0 kNone 0 (leBytes 4 a)))) ∧
  (∀ (d : Reg) (s : State), s.bar0 = true →
    (bits d.toNat 15 0 < bits d.toNat 31 16 → Completes (.protRegisterWrite 0xA10104 d) s (fun t =>
      t.sh = { s.sh with coolT := d })) ∧
    (bits d.toNat 31 16 ≤ bits d.toNat 15 0 → Completes (.protRegisterWrite 0xA10104 d) s (fun t =>
      t.sh = { s.sh with protReject := true })) ∧
    (bits d.toNat 23 16 ≤ 100 → Completes (.protRegisterWrite 0xA10108 d) s (fun t =>
      t.sh.coolCfg = BitVec.ofNat 32 (d.toNat % 2 ^ 24) ∧ t.sh.protReject = s.sh.protReject)) ∧
    (100 < bits d.toNat 23 16 → Completes (.protRegisterWrite 0xA10108 d) s (fun t =>
      t.sh = { s.sh with protReject := true }))) ∧
  (∀ (i : Nat) (d : Reg) (s : State), s.bar0 = true → i < 3 →
    (s.part.srcOk 1 d.toNat = true → Completes (.protRegisterWrite (0xA1010C + 4 * i) d) s (fun t =>
      t.sh = { s.sh with coolSrc := s.sh.coolSrc.set i (srcMask d) })) ∧
    (s.part.srcOk 1 d.toNat = false → Completes (.protRegisterWrite (0xA1010C + 4 * i) d) s (fun t =>
      t.sh = { s.sh with protReject := true }))) ∧
  (∀ (g which : Nat) (d : Reg) (s : State), s.bar0 = true → WellShaped s → g < 16 → which < 3 →
    (s.part.srcOk 4 d.toNat = true → Completes (.tmGrpSrcWrite g which d) s (fun t => t.group g =
      if which = 0 then { s.group g with vSrc := srcMask d } else if which = 1 then { s.group g with iSrc := srcMask d }
      else { s.group g with pSrc := srcMask d })) ∧
    (s.part.srcOk 4 d.toNat = false → Completes (.tmGrpSrcWrite g which d) s (fun t => t = s))) ∧
  (∀ (d : Reg) (s : State), s.rc.recovery = false → Completes (.evCfg d) s (fun t =>
    t.ev.minSev = if bits d.toNat 2 0 ≤ 5 then bits d.toNat 2 0 else s.ev.minSev)) ∧
  (∀ (d : Reg) (s : State), s.bar0 = true →
    (bits d.toNat 15 0 ≠ 0 → Completes (.rcPwrCfg d) s (fun t =>
      t.rc.quietEn = bitAt d.toNat 16 ∧ t.rc.quietDwell = bits d.toNat 15 0 ∧
      t.rc.power = (if bitAt d.toNat 16 = false ∧ s.rc.power = .quiet then .run else s.rc.power))) ∧
    (bits d.toNat 15 0 = 0 → Completes (.rcPwrCfg d) s (fun t => t = s))) ∧
  (∀ (d kept : Reg) (s : State), s.bar0 = true →
    let c := fun k : Nat => d.toNat.testBit k && !kept.toNat.testBit k
    Completes (.w1cWrite 0x00A1000C d kept) s (fun t => t.sh = { s.sh with
      burstReject := s.sh.burstReject && !c 6, slewReject := s.sh.slewReject && !c 4
      vsetReject := s.sh.vsetReject && !c 3, superseded := s.sh.superseded && !c 2 }) ∧
    Completes (.w1cWrite 0x00A10100 d kept) s (fun t => t.sh = { s.sh with
      protReject := s.sh.protReject && !c 4, shelfQuench := s.sh.shelfQuench && !c 1 }) ∧
    Completes (.w1cWrite 0x00805000 d kept) s (fun t => t.teth = { s.teth with
      deposed := s.teth.deposed && !c 3, lostFlag := s.teth.lostFlag && !c 2 }) ∧
    Completes (.w1cWrite 0x00C00000 d kept) s (fun t => t.pl = { s.pl with
      seeded := s.pl.seeded && !c 9, fcDropped := s.pl.fcDropped && !c 6 }) ∧
    Completes (.w1cWrite 0x00D00008 d kept) s (fun t => t.pf = { s.pf with
      parityFlag := s.pf.parityFlag && !c 8, lostFlag := s.pf.lostFlag && !c 6 }) ∧
    Completes (.w1cWrite 0x01E00000 d kept) s (fun t => t.ev = { s.ev with
      ringOverwrite := s.ev.ringOverwrite && !c 4, restored := s.ev.restored && !c 1 }) ∧
    Completes (.w1cWrite 0x00000004 d kept) s (fun t => t.pins = { s.pins with
      tripped := s.pins.tripped && !c 10, ppsSeen := s.pins.ppsSeen && !c 7 })) ∧
  (∀ (d : Reg) (s : State), s.bar0 = true →
    (s.hq.enable = false → Completes (.registerWrite 0x00200020 d none) s (fun t => t.hq = { s.hq with sq0Lo := d }) ∧
      Completes (.registerWrite 0x00200018 d none) s (fun t => t.hq = { s.hq with bootCoal := d })) ∧
    (s.hq.enable = true → Completes (.registerWrite 0x00200020 d none) s (fun t => t = s))) ∧
  (∀ (d : Reg) (s : State), s.rc.recovery = true →
    Completes (.registerWrite 0x01F00104 d none) s (fun t => t.se = { s.se with rcvLen := d.toNat % 2 ^ 26 }))

/-- R332, R335, R336, R338, R343, R357: doorbells and the fetch. A doorbell out of range is counted and changes nothing else.
A fetch takes the entry at the head of the queue that arbitration gives, hands its place back, and starts it; a FENCE with an
earlier command of its queue in flight waits. An entry whose opcode is not defined is answered BAD_OPCODE. -/
def Obligations.DoorbellsAndFetchComplete : Prop :=
  (∀ (q : Nat) (d : Reg) (s : State), WellShaped s → s.bar0 = true → q < 4 →
    ((nth s.hq.queues q {}).present = true → d.toNat % 65536 < (nth s.hq.queues q {}).sqN →
      Completes (.sqTail q d) s (fun t => nth t.hq.queues q {} = { nth s.hq.queues q {} with sqTail := d.toNat % 65536 } ∧
        t.hq.dbReject = s.hq.dbReject)) ∧
    ((nth s.hq.queues q {}).present = false ∨ (nth s.hq.queues q {}).sqN ≤ d.toNat % 65536 →
      Completes (.sqTail q d) s (fun t => t.hq = { s.hq with dbReject := min (s.hq.dbReject + 1) 255 }))) ∧
  (∀ (q : Nat) (d : Reg) (s : State), WellShaped s → s.bar0 = true → q < 4 →
    let c := nth s.hq.queues q {}
    (c.present = true → headOk c.cqN c.cqHead c.cqTail (d.toNat % 65536) = true → Completes (.cqHead q d) s (fun t =>
      (nth t.hq.queues q {}).cqHead = d.toNat % 65536 ∧ (0 < t.hq.cqFree q → (nth t.hq.queues q {}).stall = false))) ∧
    (c.present = false ∨ headOk c.cqN c.cqHead c.cqTail (d.toNat % 65536) = false → Completes (.cqHead q d) s (fun t =>
      t.hq = { s.hq with dbReject := min (s.hq.dbReject + 1) 255 }))) ∧
  (∀ (d : Reg) (s : State), s.bar0 = true →
    let e := s.hq.eq
    (e.present = true → headOk e.n e.head e.tail (d.toNat % 65536) = true →
      Completes (.eqHead d) s (fun t => t.hq.eq.head = d.toNat % 65536 ∧
        (e.notQueued ≠ 0 → e.faulted = false → 2 ≤ { e with head := d.toNat % 65536 }.free →
          t.hq.eq.notQueued = 0 ∧ Newest s t 0x0802 1 kNone 0 (leBytes 4 e.notQueued)))) ∧
    (e.present = false ∨ headOk e.n e.head e.tail (d.toNat % 65536) = false → Completes (.eqHead d) s (fun t =>
      t.hq = { s.hq with dbReject := min (s.hq.dbReject + 1) 255 }))) ∧
  (∀ (q : Nat) (x : HostIf) (s : State), WellShaped s → s.fetches = true → s.hq.parked = [] → s.hq.arbitrate = some (q, x) →
    let c := nth s.hq.queues q {}
    let b := Mem.readN 0 s.hostMem (c.sqBase + 64 * c.sqHead) 64
    let h : CmdHdr := { queue := q, sqIndex := c.sqHead, tag := u b 4 2, fence := bitAt (u b 2 2) 0, checkOnly := bitAt (u b 2 2) 1 }
    let p : Parked := { hdr := h, entry := b, no := s.hq.fetchNo }
    Completes .commandFetch s (fun t =>
      Puts s t (.hostWrite ((s.hq.wbBase + (0x20 + 4 * q)) % 2 ^ 64) (leBytes 4 ((c.sqHead + 1) % c.sqN))) ∧
      (h.fence = true → (∃ f ∈ s.hq.inflight, f.hdr.queue = q ∧ f.no < s.hq.fetchNo) →
        t.hq.parked = [p] ∧ t.hq.inflight = s.hq.inflight ∧ (nth t.hq.queues q {}).sqHead = (c.sqHead + 1) % c.sqN) ∧
      (h.fence = false ∨ (∀ f ∈ s.hq.inflight, f.hdr.queue ≠ q) →
        ∃ v : State, (nth v.hq.queues q {}).sqHead = (c.sqHead + 1) % c.sqN ∧ v.hq.fetchNo = s.hq.fetchNo + 1 ∧
          v.hq.inflight = s.hq.inflight ∧ v.ports = s.ports ∧ v.groups = s.groups ∧ v.le = s.le ∧ v.rc = s.rc ∧
          t = v.runEntry p) ∧
      (h.fence = false → opParams (u b 0 2) b = none → Answered s t h stBadOpcode 0)))

/-- R333, R334, R342, R344, R361: ENABLE and DISABLE of the bootstrap queue, delivery of the reset ledger, the coalescing time,
and the stall flags. -/
def Obligations.RingEventsComplete : Prop :=
  (∀ (s : State), s.bar0 = true → s.hq.enable = false →
    (s.hq.bootOk = true → Completes .bootstrapEnable s (fun t =>
      t.hq = s.hq.boot ∧ Puts s t (.hostWrite (s.hq.wbBase % 2 ^ 64) (List.replicate 64 0)))) ∧
    (s.hq.bootOk = false → Completes .bootstrapEnable s (fun t => t.hq = { s.hq with bootFault := true } ∧ t.out = s.out))) ∧
  (∀ (s : State), s.bar0 = true → s.hq.enable = true → Completes .bootstrapDisable s (fun t =>
    t.hq.enable = false ∧ t.hq.bootFault = false ∧ t.hq.queues = List.replicate 4 {} ∧ t.hq.eq = {} ∧
    t.hq.inflight = [] ∧ t.hq.parked = [] ∧ t.hq.sq0Lo = s.hq.sq0Lo ∧ t.hq.bootSizes = s.hq.bootSizes ∧ t.out = s.out)) ∧
  (∀ (s : State), s.hq.enable = true → (nth s.hq.queues 0 {}).present = true → (nth s.hq.queues 0 {}).faulted = false →
    WellShaped s → s.hq.ledger ≠ [] → s.hq.ledger.length ≤ s.hq.cqFree 0 → Completes .ledgerDelivery s (fun t =>
      t.hq.ledger = [] ∧ t.hq.ledgerLost = 0 ∧
      ∀ e ∈ s.hq.ledger, Puts s t (.completion e.tag e.status (if s.standbyFlag then 3 else 1) e.queue e.sqIndex
        (e.scope + e.source * 2 ^ 8 + e.seq * 2 ^ 16 + s.hq.ledgerLost * 2 ^ 48)))) ∧
  (∀ (q : Nat) (s : State), WellShaped s → q < 4 → s.hq.msixEnable = true → (nth s.hq.queues q {}).present = true →
    (nth s.hq.queues q {}).coalUs ≠ 0 → 0 < (nth s.hq.queues q {}).unsig →
    Completes (.msixCoalesceTimeout q) s (fun t =>
      let m := nth s.hq.msix (nth s.hq.queues q {}).vec {}
      (nth t.hq.queues q {}).unsig = 0 ∧
      (bitAt m.ctl.toNat 0 = false → t.out = .msix (m.addrHi.toNat * 2 ^ 32 + m.addrLo.toNat) m.data.toNat :: s.out) ∧
      (bitAt m.ctl.toNat 0 = true → t.out = s.out ∧ t.hq.pba = setBit s.hq.pba (nth s.hq.queues q {}).vec true))) ∧
  (∀ (s : State), s.hq.msixEnable = true → s.hq.eq.present = true → s.hq.eq.coalUs ≠ 0 → 0 < s.hq.eq.unsig →
    Completes (.msixCoalesceTimeout 4) s (fun t =>
      let m := nth s.hq.msix s.hq.eq.vec {}
      t.hq.eq.unsig = 0 ∧
      (bitAt m.ctl.toNat 0 = false → t.out = .msix (m.addrHi.toNat * 2 ^ 32 + m.addrLo.toNat) m.data.toNat :: s.out) ∧
      (bitAt m.ctl.toNat 0 = true → t.out = s.out ∧ t.hq.pba = setBit s.hq.pba s.hq.eq.vec true))) ∧
  (∀ (q : Nat) (s : State), WellShaped s → q < 4 → (nth s.hq.queues q {}).present = true → s.hq.cqFree q = 0 →
    Completes (.cqStall q) s (fun t => nth t.hq.queues q {} = { nth s.hq.queues q {} with stall := true })) ∧
  (∀ (s : State), s.hq.eq.present = true → s.hq.eq.free = 0 →
    Completes .eqStall s (fun t => t.hq = { s.hq with eq := { s.hq.eq with stall := true } }))

/-- R325, R326, R328, R329, R345, R346: request errors, accesses refused, BAR4, the link, and the identity in the configuration
header, whose Device ID tells a recovery loader. -/
def Obligations.HostAccessesComplete : Prop :=
  (∀ s : State,
    s.pciHeader.word 0 = (if s.part = .csm480 then (if s.rc.recovery then 0x04FE else 0x0480)
      else (if s.rc.recovery then 0x02FE else 0x0240)) * 2 ^ 16 + 0x1F5A ∧
    s.pciHeader.word 8 / 2 ^ 8 = 0x118000 ∧ s.pciHeader.word 0x2C = (if s.se.suffixCC then 1 else 0) * 2 ^ 16 + 0x1F5A) ∧
  (∀ (q : Nat) (fail : DmaFail) (s : State), WellShaped s → q < 4 → (nth s.hq.queues q {}).present = true →
    Completes (.dmaErr (.queue q) fail) s (fun t => t.hq.dmaErr = min (s.hq.dmaErr + 1) 255 ∧
      (∀ f ∈ t.hq.inflight, f.hdr.queue ≠ q) ∧ (∀ p ∈ t.hq.parked, p.hdr.queue ≠ q) ∧
      (∀ f ∈ s.hq.inflight, f.hdr.queue = q → Answered s t f.hdr (dmaStatus fail) 0))) ∧
  (∀ (fail : DmaFail) (s : State), s.hq.eq.present = true → Completes (.dmaErr .events fail) s (fun t =>
    t.hq = { s.hq with dmaErr := min (s.hq.dmaErr + 1) 255, eq := { s.hq.eq with faulted := true }, bootFault := true })) ∧
  (∀ (h : CmdHdr) (fail : DmaFail) (s : State), (∃ f ∈ s.hq.inflight, f.hdr = h) →
    Completes (.dmaErr (.buffer h) fail) s (fun t => t.hq.dmaErr = min (s.hq.dmaErr + 1) 255 ∧
      (∀ f ∈ t.hq.inflight, f.hdr ≠ h) ∧ Answered s t h (dmaStatus fail) 0)) ∧
  (∀ (read : Bool) (a : Nat) (s : State), Completes (.badAccess read a) s (fun t =>
    t.hq = { s.hq with badAccess := min (s.hq.badAccess + 1) 255 } ∧
    t.out = (if read then [.regRead a 0] else []) ++ s.out)) ∧
  (∀ (off n : Nat) (data : Bytes) (s : State),
    (∀ k < n, s.part.ringGib * 2 ^ 30 ≤ off + k ∧ off + k < s.part.ringGib * 2 ^ 30 + 2 ^ 28) →
      Completes (.bar4Access false off n data) s (fun t =>
        t.out = .barRead off ((List.range n).map (fun k => Mem.read 0 s.hdma (off + k - s.part.ringGib * 2 ^ 30))) :: s.out ∧
        t.hdma = s.hdma)) ∧
  (∀ (off n : Nat) (data : Bytes) (s : State), off + n ≤ s.part.ringGib * 2 ^ 30 → s.rc.recovery = false →
    Completes (.bar4Access false off n data) s (fun t =>
      t.out = .barRead off ((List.range n).map (fun k => (s.cr.readRing (off + k) 1).headD 0)) :: s.out)) ∧
  (∀ (off n : Nat) (data : Bytes) (s : State),
    (s.part.ringGib * 2 ^ 30 ≤ off → off + data.length ≤ s.part.ringGib * 2 ^ 30 + 2 ^ 28 →
      Completes (.bar4Access true off n data) s (fun t =>
        t.hdma = Mem.writeN 0 s.hdma (off - s.part.ringGib * 2 ^ 30) data ∧ t.hq = s.hq)) ∧
    (off < s.part.ringGib * 2 ^ 30 ∨ s.part.ringGib * 2 ^ 30 + 2 ^ 28 < off + data.length →
      Completes (.bar4Access true off n data) s (fun t =>
        t.hdma = s.hdma ∧ t.hq = { s.hq with barDrop := min (s.hq.barDrop + 1) 255 }))) ∧
  (∀ (sp w : Nat) (flit bm mx : Bool) (s : State), s.rc.on 12 = true → s.rc.on 13 = true →
    Completes (.pcieLinkUp sp w flit bm mx) s (fun t =>
      t.hq = { s.hq with speed := sp % 16, width := w % 32, flit := flit, busMaster := bm, msixEnable := mx }))

/-- R64, R295, R328, and the reads of chapters 8 and 12: a read of a _LO register latches the high word, which the read of
_HI answers; a read of the Profile Table latches its upper word; TM_MIN and TM_MAX answer the peak and start it again. -/
def Obligations.ReadsComplete : Prop :=
  (∀ (k : Nat) (whole : Bool) (s : State), WellShaped s → s.bar0 = true → k < s.part.slots →
    Completes (.loRead (0x00400218 + 0x400 * k) whole) s (fun t =>
      (t.slot k).integShadow = ofSigned 64 (s.slot k).integ / 2 ^ 32 ∧
      t.out = .regRead (0x00400218 + 0x400 * k)
        (if whole then ofSigned 64 (s.slot k).integ else ofSigned 64 (s.slot k).integ % 2 ^ 32) :: s.out)) ∧
  (∀ (a v : Nat) (s : State), s.bar0 = true → s.integAt a = none → s.wide a = some v →
    Completes (.loRead a false) s (fun t => look t.hq.shadows a = some (v / 2 ^ 32 % 2 ^ 32) ∧
      t.out = .regRead a (v % 2 ^ 32) :: s.out) ∧
    Completes (.loRead a true) s (fun t => t.out = .regRead a (v % 2 ^ 64) :: s.out)) ∧
  (∀ (b : Nat) (s : State), b < s.part.profileEntries →
    Completes (.profileTableRead (8 * b) false) s (fun t =>
      t.out = .regRead (0x01000000 + 8 * b) ((pfEntry s.pf.table b).word % 2 ^ 32) :: s.out ∧
      t.pf.tabShadow = (pfEntry s.pf.table b).word / 2 ^ 32) ∧
    Completes (.profileTableRead (8 * b + 4) false) s (fun t =>
      t.out = .regRead (0x01000000 + (8 * b + 4)) s.pf.tabShadow :: s.out) ∧
    Completes (.profileTableRead (8 * b) true) s (fun t =>
      t.out = .regRead (0x01000000 + 8 * b) (pfEntry s.pf.table b).word :: s.out)) ∧
  (∀ (p ch : Nat) (s : State), WellShaped s → p < s.part.ports → ch < (s.port p).tele.length → ch < 8 →
    Completes (.tmMin (.port p ch)) s (fun t =>
      t.out = .regRead (0x01C0000C + 0x200 * p + 0x40 * ch) (ofSigned 32 (nth (s.port p).tele ch {}).mn) :: s.out ∧
      nth (t.port p).tele ch {} = { nth (s.port p).tele ch {} with mn := 2 ^ 31 - 1 }) ∧
    Completes (.tmMax (.port p ch)) s (fun t =>
      t.out = .regRead (0x01C00010 + 0x200 * p + 0x40 * ch) (ofSigned 32 (nth (s.port p).tele ch {}).mx) :: s.out ∧
      nth (t.port p).tele ch {} = { nth (s.port p).tele ch {} with mx := -(2 ^ 31) })) ∧
  (∀ (g k : Nat) (s : State), WellShaped s → g < 16 → k < 4 →
    Completes (.tmMin (.group g k)) s (fun t =>
      t.out = .regRead (0x01C1000C + 0x100 * g + 0x20 * k) (ofSigned 32 ((s.group g).chan k).mn) :: s.out ∧
      (t.group g).chan k = { (s.group g).chan k with mn := 2 ^ 31 - 1 }) ∧
    Completes (.tmMax (.group g k)) s (fun t =>
      t.out = .regRead (0x01C10010 + 0x100 * g + 0x20 * k) (ofSigned 32 ((s.group g).chan k).mx) :: s.out ∧
      (t.group g).chan k = { (s.group g).chan k with mx := -(2 ^ 31) })) ∧
  (∀ (s : State),
    Completes (.tmMin .shelf) s (fun t => t.out = .regRead 0x01C2000C (ofSigned 32 s.sh.outTele.mn) :: s.out ∧
      t.sh = { s.sh with outTele := { s.sh.outTele with mn := 2 ^ 31 - 1 } }) ∧
    Completes (.tmMax .shelf) s (fun t => t.out = .regRead 0x01C20010 (ofSigned 32 s.sh.outTele.mx) :: s.out ∧
      t.sh = { s.sh with outTele := { s.sh.outTele with mx := -(2 ^ 31) } }))

/-- R169, R171, R375: STORE_MODE takes effect at the next fast step, PLAN_LIMITS at the next slow step; both wait for it. -/
def Obligations.PlanisherCommandsComplete : Prop :=
  (∀ (h : CmdHdr) (m : Nat) (s : State), AcceptedActive s h → m ≤ 2 →
    Completes (.storeMode h m) s (fun t => t.pl = { s.pl with modeNext := some m } ∧ Waits t h .storeMode)) ∧
  (∀ (h : CmdHdr) (buf : Buf) (l : List Nat) (s : State), AcceptedActive s h → buf.len = 64 → bufOk buf 64 = true →
    limParse s.sh.ratingW (s.bufRead buf 0 64) = .inr l →
    Completes (.planLimits h buf) s (fun t => t.pl = { s.pl with limNext := some l } ∧ Waits t h .planLimits)) ∧
  (∀ (h : CmdHdr) (buf : Buf) (off : Nat) (s : State), AcceptedActive s h → buf.len = 64 → bufOk buf 64 = true →
    limParse s.sh.ratingW (s.bufRead buf 0 64) = .inl off →
    Completes (.planLimits h buf) s (fun t => t.pl = s.pl ∧ Answered s t h stBadParam (8 + off * 2 ^ 32)))

/-- R207, R211, R375, R377: PLAN_LOAD enters LOADING with the plan and waits for its activation; the PROFILE_CTRL actions act at
once and return MIN_COUNT and LOSS_MS; in LOADING they answer BUSY. START and SET keep the table while neither the search range
nor the exponent in force changes; another decimation starts the correlator anew. -/
def Obligations.ProfileCommandsComplete : Prop :=
  (∀ (h : CmdHdr) (buf : Buf) (count binExp mode weight timeoutMs n : Nat) (actTime : Int) (s : State),
    AcceptedRun s h → s.pf.state ≠ .loading → 1 ≤ count → count ≤ 4096 → buf.len = 16 * count →
    (binExp ≤ 20 ∨ binExp = 0xFF) → mode ≤ 2 → weight ≠ 0 →
    (if mode = 0 then timeoutMs = 0 else 1 ≤ timeoutMs ∧ timeoutMs ≤ 3600000) → (mode = 1 ∨ actTime = 0) →
    bufOk buf (16 * count) = true → phaseFault (s.bufRead buf 0 (16 * count)) count = none →
    8 * 2 ^ 16 ≤ planPeriod (phasesOf (s.bufRead buf 0 (16 * count)) count) →
    s.part.chooseBin binExp (planPeriod (phasesOf (s.bufRead buf 0 (16 * count)) count)) = some n →
    Completes (.planLoad h buf count binExp mode weight timeoutMs actTime) s (fun t =>
      t.pf.state = .loading ∧ t.pf.table = [] ∧ t.pf.anchors = [] ∧ t.pf.period = 0 ∧ t.pf.cfg = s.pf.cfg ∧
      t.pf.plan = some { hdr := h.tag, phases := phasesOf (s.bufRead buf 0 (16 * count)) count, binN := n, mode := mode
                         weight := weight, actTime := actTime, written := false } ∧ Waits t h .planLoad)) ∧
  (∀ (h : CmdHdr) (c : PfSet) (s : State), AcceptedRun s h → s.pf.state ≠ .loading → pfFault c = none →
    Completes (.profileStart h c) s (fun t =>
      let same := 0 < s.pf.period ∧ c.minUs = s.pf.cfg.minUs ∧ c.maxUs = s.pf.cfg.maxUs ∧
        s.part.chooseBin c.binExp s.pf.period = some s.pf.n
      t.pf.state = .search ∧ t.pf.learn = true ∧ t.pf.cfg = c ∧ t.pf.hist = [] ∧ t.pf.got = 0 ∧
      (same → t.pf.table = s.pf.table ∧ t.pf.anchors = s.pf.anchors ∧ t.pf.period = s.pf.period ∧ t.pf.n = s.pf.n) ∧
      (¬ same → t.pf.table = [] ∧ t.pf.anchors = [] ∧ t.pf.period = 0) ∧
      Answered s t h stOk (c.minCount + c.lossMs * 2 ^ 16))) ∧
  (∀ (h : CmdHdr) (s : State), AcceptedRun s h → s.pf.state ≠ .loading →
    Completes (.profileStop h) s (fun t =>
      t.pf = { s.pf with state := .idle, learn := false, winCover := none } ∧
      Answered s t h stOk (s.pf.cfg.minCount + s.pf.cfg.lossMs * 2 ^ 16)) ∧
    Completes (.profileClear h) s (fun t =>
      t.pf.table = [] ∧ t.pf.anchors = [] ∧ t.pf.period = 0 ∧ t.pf.cfg = s.pf.cfg ∧ t.pf.learn = s.pf.learn ∧
      t.pf.state = (if s.pf.learn then .search else .idle) ∧
      Answered s t h stOk (s.pf.cfg.minCount + s.pf.cfg.lossMs * 2 ^ 16))) ∧
  (∀ (h : CmdHdr) (c : PfSet) (s : State), AcceptedRun s h → s.pf.state ≠ .loading → pfFault c = none →
    Completes (.profileSet h c) s (fun t => Answered s t h stOk (c.minCount + c.lossMs * 2 ^ 16) ∧ t.pf.cfg = c ∧
      (s.pf.period ≤ 0 → decM c.maxUs = decM s.pf.cfg.maxUs → t.pf = { s.pf with cfg := c }) ∧
      (s.pf.period ≤ 0 → decM c.maxUs ≠ decM s.pf.cfg.maxUs → t.pf =
        { s.pf with cfg := c, decSum := 0, decCnt := 0, hist := [], got := 0, cands := [], seen := [] }) ∧
      (0 < s.pf.period → ∀ k, s.part.chooseBin c.binExp s.pf.period = some k → t.pf.state = s.pf.state ∧
        t.pf.period = s.pf.period ∧ t.pf.n = k ∧
        t.pf.table = if c.minUs = s.pf.cfg.minUs ∧ c.maxUs = s.pf.cfg.maxUs ∧ k = s.pf.n then s.pf.table else []) ∧
      (0 < s.pf.period → s.part.chooseBin c.binExp s.pf.period = none → t.pf.table = [] ∧ t.pf.noFit = true ∧
        t.pf.state = (if s.pf.state = .locked then .search else s.pf.state) ∧
        t.pf.period = (if s.pf.state = .locked then 0 else s.pf.period) ∧ Newest s t 0x0602 1 kNone 0 (leBytesI 8 (divRne s.pf.period (2 ^ 16)))))) ∧
  (∀ (h : CmdHdr) (c : PfSet) (s : State), AcceptedRun s h → s.pf.state = .loading → pfFault c = none →
    ∀ a ∈ [Instr.profileStart h c, .profileStop h, .profileClear h, .profileSet h c],
      Completes a s (fun t => t.pf = s.pf ∧ Answered s t h stBusy 0))

/-- R219, R233, R259, R263, R379, R388: BUDGET_SET, GOV_MODE and GRANT_MODE become requests, sent to the lead or queued by it
among those of the others; they are DENIED without governor defaults. The lead's drain adopts a budget request, ending the
pending one SUPERSEDED, or a mode request for the next millisecond; deterministic timing is DENIED without lock. KEY_LOAD and
TIME_SET act at once. -/
def Obligations.GovernorCommandsComplete : Prop :=
  (∀ (h : CmdHdr) (w : Int) (ms id : Nat) (s : State), AcceptedActive s h → s.gv.ok = true → 0 ≤ w →
    (ms = 0 ∨ 100 ≤ ms ∧ ms ≤ 3600000) → id = (if (s.gv.reqId + 1) % 2 ^ 32 = 0 then 1 else (s.gv.reqId + 1) % 2 ^ 32) →
    Completes (.budgetSet h w ms) s (fun t => Requested s t h ⟨s.gnSelf, id, 0, w, ms, 0⟩ .budget)) ∧
  (∀ (h : CmdHdr) (k v id : Nat) (s : State), AcceptedActive s h → s.gv.ok = true → (k = 1 ∧ v ≤ 1 ∨ k = 3 ∧ v ≤ 2) →
    id = (if (s.gv.reqId + 1) % 2 ^ 32 = 0 then 1 else (s.gv.reqId + 1) % 2 ^ 32) →
    Completes (.govMode h k v) s (fun t => Requested s t h ⟨s.gnSelf, id, k, 0, 0, v⟩ (.setting k v))) ∧
  (∀ (h : CmdHdr) (v id : Nat) (s : State), AcceptedActive s h → s.gv.ok = true → v ≤ 1 →
    id = (if (s.gv.reqId + 1) % 2 ^ 32 = 0 then 1 else (s.gv.reqId + 1) % 2 ^ 32) →
    Completes (.grantMode h v) s (fun t => Requested s t h ⟨s.gnSelf, id, 2, 0, 0, v⟩ (.setting 2 v))) ∧
  (∀ (h : CmdHdr) (w : Int) (k v : Nat) (s : State), AcceptedActive s h → s.gv.ok = false → 0 ≤ w → v ≤ 1 → (k = 1 ∨ k = 3) →
    Completes (.budgetSet h w 0) s (fun t => t.gv = s.gv ∧ Answered s t h stDenied 0) ∧
    Completes (.govMode h k v) s (fun t => t.gv = s.gv ∧ Answered s t h stDenied 0) ∧
    Completes (.grantMode h v) s (fun t => t.gv = s.gv ∧ Answered s t h stDenied 0)) ∧
  (∀ (q : GnIn) (r : Req) (s : State), s.rc.gov = true → s.isLead = true → s.gv.atEpochs = false → s.gn.queue = [q] →
    q.typ = 5 → u q.msg.body 0 1 ≤ 1 → r = reqOf q.msg → reqOk r = true → (r.sender, r.id) ∉ s.gv.seen →
    (r.kind = 0 → s.gv.pend = [] → u q.msg.body 0 1 = 0 → Completes .guleneDrain s (fun t =>
      t.gn.queue = [] ∧ t.gv.newBudget = some (r.w, r.ms) ∧ (r.sender, r.id) ∈ t.gv.seen ∧
      t.gv.pend = [{ req := r, state := 1, due := 0, finalAt := 0 }])) ∧
    (∀ p : Pend, r.kind = 0 → u q.msg.body 0 1 = 0 → s.gv.pend = [p] → p.state = 1 → p.req.kind = 0 →
      p.req.sender ≠ s.gnSelf → Completes .guleneDrain s (fun t => t.gv.newBudget = some (r.w, r.ms) ∧
        t.gv.pend = [{ p with state := 3, finalAt := s.clk.now }, { req := r, state := 1, due := 0, finalAt := 0 }])) ∧
    (r.kind ≠ 0 → s.gv.pend = [] → (r.kind = 1 → r.value = 1 → s.ptpLock = true) → Completes .guleneDrain s (fun t =>
      t.gv.timing = s.gv.timing ∧ t.gv.alloc = s.gv.alloc ∧ t.gv.know = s.gv.know ∧
      t.gv.pend = [{ req := r, state := 1, due := (s.clk.ptp / 1000000 + 1) * 1000000, finalAt := 0 }])) ∧
    (∀ (o : OwnReq) (h : CmdHdr), r.kind = 1 → r.value = 1 → s.ptpLock = false → r.sender = s.gnSelf → s.gv.own = [o] →
      o.req = r → o.hdr = some h → Completes .guleneDrain s (fun t =>
        t.gv.timing = s.gv.timing ∧ t.gv.own = [] ∧ Answered s t h stDenied 0))) ∧
  (∀ (h : CmdHdr) (buf : Buf) (s : State), AcceptedRun s h → buf.len = 64 → bufOk buf 64 = true →
    s.keyFault (s.bufRead buf 0 64) = none → ∀ k, k = keyOf (s.bufRead buf 0 64) → ∀ row, row = decide (0x80 < k.id) →
    Completes (.keyLoad h buf) s (fun t => Answered s t h stOk 0 ∧
      ((s.gn.role row).cur = none → t.gn.role row = { s.gn.role row with cur := some k }) ∧
      (∀ c, (s.gn.role row).cur = some c → k.activate ≠ 0 → s.clk.ptp < k.activate →
        t.gn.role row = { s.gn.role row with next := some k }) ∧
      (∀ c, (s.gn.role row).cur = some c → (k.activate = 0 ∨ k.activate ≤ s.clk.ptp) →
        t.gn.role row = { cur := some k, next := none, old := c :: (s.gn.role row).old }) ∧
      t.gn.role (!row) = s.gn.role (!row))) ∧
  (∀ (h : CmdHdr) (role domain : Nat) (setTime : Bool) (time : Int) (s : State), AcceptedRun s h → role ≤ 1 →
    domain ≤ 127 → Completes (.timeSet h role domain setTime time) s (fun t =>
      t.gn.domain = domain ∧ t.gn.rackSource = (role == 1) ∧
      (setTime = true → s.clk.ptpHeld = false →
        t.clk.ptp = time ∧ t.clk.ptpState = .set ∧ Answered s t h stOk 1) ∧
      (setTime = false ∨ s.clk.ptpHeld = true → t.clk.ptp = s.clk.ptp ∧ Answered s t h stOk 0) ∧
      (domain ≠ s.gn.domain → s.clk.ptpState = .lock → setTime = false ∨ s.clk.ptpHeld = true →
        t.clk.ptpState = .holdover)))

/-- R299 to R305, R308: the Crucible's commands. ARM takes the tables and captures from the next frame period; TRIGGER makes
the present frame period F_T; FREEZE stops every channel and gives CAPTURE_FROZEN (assumption 63); RELEASE returns to IDLE;
CAPTURE_READ returns held samples and counts the words with uncorrectable errors among them. -/
def Obligations.CaptureCommandsComplete : Prop :=
  (∀ (h : CmdHdr) (buf : Buf) (n : Nat) (s : State), Accepted s h → n ≠ 0 → buf.len = 16 * (n + 1) →
    n ≤ s.part.captureChannels → bufOk buf (16 * (n + 1)) = true →
    s.part.crFault (s.bufRead buf 0 (16 * (n + 1))) n = none →
    (∀ k < n, s.crLanesOk (crRecord (slice (s.bufRead buf 0 (16 * (n + 1))) (16 * k) 16)) = true) →
    s.cr.state = .idle ∨ s.cr.state = .armed →
    Completes (.captureArm h buf n) s (fun t => t.cr.state = .armed ∧ t.cr.f0 = s.le.frame + 1 ∧
      t.cr.chans = crSlices (s.part.ringGib * 2 ^ 30)
        ((List.range n).map (fun k => crRecord (slice (s.bufRead buf 0 (16 * (n + 1))) (16 * k) 16))) ∧
      t.cr.trig = crTrigRecord (slice (s.bufRead buf 0 (16 * (n + 1))) (16 * n) 16) ∧ t.cr.lateTrigs = 0 ∧
      Answered s t h stOk 0)) ∧
  (∀ (h : CmdHdr) (s : State), Accepted s h →
    (s.cr.state = .armed → Completes (.captureTrigger h) s (fun t => t.cr.state = .triggered ∧ t.cr.trigF = s.le.frame ∧
      t.cr.trigSrc = 0x20 ∧ Answered s t h stOk 0)) ∧
    (s.cr.state ≠ .armed → Completes (.captureTrigger h) s (fun t => t.cr = s.cr ∧ Answered s t h stOk 0))) ∧
  (∀ (h : CmdHdr) (s : State), Accepted s h →
    (s.cr.state = .armed → Completes (.captureFreeze h) s (fun t => t.cr = { s.cr with state := .frozen } ∧
      Newest s t 0x0801 1 kNone 0 (leBytes 1 s.cr.trigSrc) ∧ Answered s t h stOk 0)) ∧
    (s.cr.state ≠ .armed → Completes (.captureFreeze h) s (fun t => t.cr = s.cr ∧ Answered s t h stOk 0))) ∧
  (∀ (h : CmdHdr) (s : State), Accepted s h →
    (s.cr.state = .armed ∨ s.cr.state = .frozen → Completes (.captureRelease h) s (fun t =>
      t.cr = { s.cr with state := .idle } ∧ Answered s t h stOk 0)) ∧
    (s.cr.state = .idle ∨ s.cr.state = .triggered → Completes (.captureRelease h) s (fun t =>
      t.cr = s.cr ∧ Answered s t h stOk 0))) ∧
  (∀ (h : CmdHdr) (buf : Buf) (ch a n : Nat) (c : CrChan) (s : State), Accepted s h → n ≠ 0 → bufOk buf (2 * n) = true →
    ch < s.part.captureChannels → s.cr.state = .frozen → s.cr.chans[ch]? = some c → c.holds a n = true →
    Completes (.captureRead h buf ch a n) s (fun t =>
      Stored s t buf ((List.range n).flatMap (fun k => s.cr.readRing (c.base + 2 * ((a + k) % c.len)) 2)) ∧
      t.cr = { s.cr with ue := satAdd 32 s.cr.ue (s.cr.badCount (c.addrs a n)) } ∧ Answered s t h stOk n))

/-- R292, R293, R319, R320, R381 to R383: LOG_READ, LOG_CLEAR, CAL_READ, CAL_WRITE and the end of its write. A page whose
read-back differs is left as a part of the image whose length is free, with erased bytes after it (assumption 64). -/
def Obligations.LogAndCalibrationCommandsComplete : Prop :=
  (∀ (h : CmdHdr) (buf : Buf) (a n : Nat) (s : State), Accepted s h → n ≠ 0 → bufOk buf (64 * n) = true →
    (n ≤ 1024 → (∀ k < n, (s.ev.bySeq (a + k)).isSome = true) → Completes (.logRead h buf 1 0 a n) s (fun t =>
      Stored s t buf ((List.range n).flatMap (fun k => ((s.ev.bySeq (a + k)).map Rec.bytes).getD [])) ∧ Answered s t h stOk n)) ∧
    (a + n ≤ s.ev.log.length → n ≤ 262144 → Completes (.logRead h buf 0 0 a n) s (fun t =>
      Stored s t buf (((s.ev.log.drop a).take n).flatMap LogSlot.bytes) ∧ Answered s t h stOk n)) ∧
    (n ≤ 262144 → Completes (.logRead h buf 0 1 a n) s (fun t =>
      t.ev.flushDue = true ∧ Waits t h (.logRead buf a n (s.ev.flushNo + 1))))) ∧
  (∀ (h : CmdHdr) (buf : Buf) (s : State), AcceptedRun s h → buf.len = 512 → bufOk buf 512 = true →
    s.se.ownerHash.isSome = true → authFault (s.bufRead buf 0 512) = none → s.authOk (s.bufRead buf 0 512) = true →
    s.ev.clearing = false → Completes (.logClear h buf) s (fun t =>
      t.ev.clearing = true ∧ t.se.authSeq = u (s.bufRead buf 0 512) 0x18 4 ∧ Waits t h .logClear)) ∧
  (∀ (h : CmdHdr) (buf : Buf) (s : State), Accepted s h → buf.len = 65536 → bufOk buf 65536 = true →
    Completes (.calRead h buf) s (fun t => Stored s t buf (Mem.readN 0xFF s.cal.flash 0 65536) ∧ Answered s t h stOk 0)) ∧
  (∀ (h : CmdHdr) (buf : Buf) (s : State), AcceptedRun s h → buf.len = 65536 → bufOk buf 65536 = true →
    calFault (s.bufRead buf 0 65536) = none → s.cal.writing = none → Completes (.calWrite h buf) s (fun t =>
      t.cal = { s.cal with writing := some (s.bufRead buf 0 65536) } ∧ Waits t h .calWrite)) ∧
  (∀ (img : Bytes) (s : State), s.cal.writing = some img →
    Completes (.calWriteDone true) s (fun t =>
      t.cal = { s.cal with writes := min (s.cal.writes + 1) 65535, flash := Mem.writeN 0xFF [] 0 img, writing := none } ∧
      Newest s t 0x0902 1 kNone 0 (leBytes 4 (min (s.cal.writes + 1) 65535)) ∧
      ∀ f ∈ s.hq.inflight, f.wait = .calWrite → Answered s t f.hdr stOk 0) ∧
    Completes (.calWriteDone false) s (fun t =>
      t.cal.writing = none ∧ t.cal.writes = min (s.cal.writes + 1) 65535 ∧ t.cal.used = s.cal.used ∧
      (∃ n < 65536, t.cal.flash = Mem.writeN 0xFF [] 0 (img.take n)) ∧
      ∀ f ∈ s.hq.inflight, f.wait = .calWrite → Answered s t f.hdr stTimeout 0))

/-- R385, R386, R415, R420 to R423: staging and committing an image. IMAGE_STAGE copies and waits; an image that verifies
replaces the staged one and answers its SECURITY_VERSION, any other is answered by the check it fails. IMAGE_COMMIT writes the
staged image; IMAGE_ACTIVATE is the WARM reset an ACTIVATE 1 asked for. A write that fails leaves a part of the body, whose
length is free, under an erased hallmark (assumption 64). -/
def Obligations.ImageCommandsComplete : Prop :=
  (∀ (h : CmdHdr) (buf : Buf) (s : State), AcceptedRun s h → buf.len ≠ 0 → buf.len ≤ 2 ^ 25 → bufOk buf buf.len = true →
    s.se.commit = none → Completes (.imageStage h buf) s (fun t =>
      t.se = { s.se with staging := s.se.staging ++ [(some h, s.bufRead buf 0 buf.len)] } ∧ Waits t h .imageStage)) ∧
  (∀ (h : CmdHdr) (b : Bytes) (r : List (Option CmdHdr × Bytes)) (s : State), s.se.staging = (some h, b) :: r →
    (s.se.imageFault b = none → Completes .imageStageDone s (fun t =>
      t.se = { s.se with staging := r, staged := some b } ∧ Answered s t h stOk (u b 0x0C 1))) ∧
    (∀ k o, s.se.imageFault b = some (k, o) → Completes .imageStageDone s (fun t =>
      t.se = { s.se with staging := r } ∧
      Answered s t h (if k = 1 then stBadParam else if k = 4 then stDenied else stAuthFail)
        (if k = 1 then 8 + o * 2 ^ 32 else 0)))) ∧
  (∀ (h : CmdHdr) (a : Nat) (b : Bytes) (s : State), AcceptedRun s h → a ≤ 1 → s.se.staged = some b → s.se.staging = [] →
    s.se.commit = none → s.se.imageFault b = none → Completes (.imageCommit h a) s (fun t =>
      t.se.commit = some (a == 1) ∧ t.se.staged = some b ∧ t.se.image = [] ∧ t.se.areaInvalid = true ∧
      Waits t h (.imageCommit (a == 1)))) ∧
  (∀ (act : Bool) (b : Bytes) (s : State), s.se.commit = some act → s.se.staged = some b →
    Completes (.imageCommitDone true) s (fun t => t.se = { s.se with
        commit := none, image := Mem.writeN 0xFF [] 0 b, areaInvalid := false, activateDue := s.se.activateDue || act } ∧
      t.rc.imageChanged = true ∧
      ∀ f l, s.hq.inflight = f :: l → isCommit f.wait = true → Answered s t f.hdr stOk 0) ∧
    Completes (.imageCommitDone false) s (fun t => t.se.commit = none ∧ t.se.areaInvalid = true ∧
      (∃ n ≤ (b.drop 4096).length, t.se.image = Mem.writeN 0xFF [] 4096 ((b.drop 4096).take n)) ∧
      t.rc.imageChanged = s.rc.imageChanged ∧
      ∀ f l, s.hq.inflight = f :: l → isCommit f.wait = true → Answered s t f.hdr stTimeout 0)) ∧
  (∀ (s : State), s.se.activateDue = true → s.rc.power = .run ∨ s.rc.power = .quiet → s.rc.start = .run →
    s.rc.absorbs 4 1 = false → Completes .imageActivate s (fun t => ResetBy s t 4 .warm none ∧ WarmKept s t)) ∧
  (∀ (s : State), s.rc.run = true → bitAt (s.se.run 6 2) 1 = true → s.se.svn < s.se.run 0x0C 1 →
    Completes .svnRaise s (fun t => t.se = { s.se with svn := s.se.run 0x0C 1, svnRaised := true }))

/-- R345, R387, R394 to R397, Tables 17-4 and 17-11: RESET asserts a COLD, WARM or HOST reset of source 4, which ends the
command itself OK in the ledger and every other command in flight ABORTED; PCIE_RESET is the HOST reset of source 6; the
watchdogs are COLD resets of sources 2 and 3. A reset met by one of equal or wider scope is absorbed. BLOCK_RESET resets one
idle block. -/
def Obligations.ResetsComplete : Prop :=
  (∀ (h : CmdHdr) (s : State), Accepted s h → s.rc.power = .run →
    (s.rc.absorbs 4 0 = false → Completes (.reset h 0) s (fun t =>
      ResetBy (s.await h 0x0B01 .reset) t 4 .cold (some h) ∧ ColdLost t)) ∧
    (s.rc.absorbs 4 1 = false → s.rc.start = .run ∨ s.rc.start = .warm → Completes (.reset h 1) s (fun t =>
      ResetBy (s.await h 0x0B01 .reset) t 4 .warm (some h) ∧ WarmKept s t)) ∧
    (s.rc.absorbs 4 0 = false → s.rc.start = .cold ∨ s.rc.start = .recovery → Completes (.reset h 1) s (fun t =>
      ResetBy (s.await h 0x0B01 .reset) t 4 .cold (some h) ∧ ColdLost t)) ∧
    (s.rc.absorbs 4 2 = false → Completes (.reset h 2) s (fun t =>
      ResetBy (s.await h 0x0B01 .reset) t 4 .host (some h) ∧ HostKept s t))) ∧
  (∀ (s : State), s.rc.power = .run ∨ s.rc.power = .quiet → s.rc.absorbs 6 2 = false →
    (∀ r, s.rc.release = some r → r.scope = .host ∨ s.rc.on 13 = true) →
    Completes .pcieReset s (fun t => ResetBy s t 6 .host none ∧ HostKept s t)) ∧
  (∀ (s : State), s.rc.power = .run ∨ s.rc.power = .quiet →
    (s.rc.absorbs 2 0 = false → Completes .stewardWatchdog s (fun t => ResetBy s t 2 .cold none ∧ ColdLost t)) ∧
    (s.rc.absorbs 3 0 = false → Completes .loopWatchdog s (fun t => ResetBy s t 3 .cold none ∧ ColdLost t)) ∧
    (s.rc.absorbs 2 0 = true → Completes .stewardWatchdog s (fun t =>
      t = { s with rc := { s.rc with absorbed := min (s.rc.absorbed + 1) 65535 } }))) ∧
  (∀ (h : CmdHdr) (b : Nat) (s : State), Accepted s h → 1 ≤ b → b ≤ 6 → s.rc.run = true →
    (blockDomains b).all s.clockGood = true → s.blockIdle b = true → Completes (.blockReset h b) s (fun t =>
      t.rc.blockActive = true ∧ t.rc.blockCode = b ∧ (∀ d ∈ blockDomains b, d ∈ t.rc.off) ∧ t.rc.lastSource = 4 ∧
      t.rc.lastScope = 4 ∧ t.rc.lastBlock = b ∧ Waits t h (.blockReset b) ∧ t.le.slots = s.le.slots ∧ t.ports = s.ports ∧
      t.groups = s.groups ∧ (b = 1 → t.cr = {}) ∧ (b = 2 → t.pf.period = 0 ∧ t.pf.table = []) ∧
      (b = 4 → t.clk.ptpState = .free ∧ t.gn.mode = 0 ∧ t.gn.isolated = true) ∧ (b = 5 → t.se.staged = none)))

/-- R141, R281, R284, R286, R287, R389: the takeover commands and the ends of a takeover. A forced takeover acts whether or not
heartbeats arrive, checks HOLD_US of every trained port, and completes when the first frame of every such port has left, at
once with none. -/
def Obligations.TakeoversComplete : Prop :=
  (∀ (h : CmdHdr) (s : State), AcceptedRun s h → s.handing = false →
    (s.canHand = true → Completes (.takeover h) s (fun t =>
      t.teth = { s.teth with hand := if s.role = .active then .copyDue else .asked, failed := [] } ∧ Waits t h .takeover)) ∧
    (s.canHand = false → Completes (.takeover h) s (fun t => t.teth = s.teth ∧ Answered s t h stDenied 0))) ∧
  (∀ (h : CmdHdr) (s : State), AcceptedRun s h → s.handing = true →
    Completes (.takeover h) s (fun t => t.teth = s.teth ∧ Answered s t h stBusy 0)) ∧
  (∀ (h : CmdHdr) (s : State), AcceptedRun s h → s.handing = false → s.role = .standby → s.teth.trained = true →
    Completes (.takeoverForce h) s (fun t =>
      t.role = .active ∧ t.teth.epoch = s.chooseEpoch ∧ t.teth.bkEpoch = s.chooseEpoch ∧ t.teth.lastCause = 3 ∧
      t.teth.takeovers = satInc 8 s.teth.takeovers ∧ t.teth.armed = false ∧ t.teth.checkPorts = s.trainedPorts ∧
      t.le = { s.le with slots := s.le.slots.map Slot.markTakeover } ∧
      (WellShaped s → ∀ p ∈ s.trainedPorts, (t.port p).holdShort = decide ((s.port p).holdUs < 20)) ∧
      (s.trainedPorts ≠ [] → t.teth.hand = .forced s.trainedPorts ∧ Waits t h .takeover) ∧
      (s.trainedPorts = [] → t.teth.hand = .none ∧ Puts s t (.completion h.tag stOk 0 h.queue h.sqIndex 0)))) ∧
  (∀ (h : CmdHdr) (s : State), AcceptedRun s h → s.role = .active →
    Completes (.takeoverForce h) s (fun t => t.teth = s.teth ∧ Answered s t h stBadParam 8)) ∧
  (∀ (s : State), s.teth.hand ≠ .none → Completes .takeoverTimeout s (fun t => t.teth = { s.teth with hand := .none } ∧
    ∀ f ∈ s.hq.inflight, f.wait = .takeover → Answered s t f.hdr stTimeout 0)) ∧
  (∀ (s : State), s.teth.hand = .none → Completes .takeoverTimeout s (fun t => t = s)) ∧
  (∀ (s : State) (l : List Nat), WellShaped s → s.role = .active → s.teth.checkDue = true → (∀ e, s.teth.hand ≠ .taken e) →
    l = s.teth.checkPorts.filter s.behind → Completes .takeoverPortCheck s (fun t =>
      t.teth.checkDue = false ∧ t.teth.failed = l ∧
      (∀ p ∈ l, (t.port p).state = .lost ∧ p ∈ t.ev.portCause ∧
        ((s.port p).state = .trained → (t.port p).lostSeen = true)) ∧
      (l = [] → Newest s t 0x0C02 2 kNone 0 (leBytes 1 s.teth.lastCause ++ leBytes 1 0)))) ∧
  (∀ (s : State) (e : Nat) (l : List Nat), s.role = .active → s.teth.hand = .offered e →
    l = s.trainedPorts.filter (fun p => (s.port p).epochObeyed != nextEpoch e) → l ≠ [] →
    Completes .handoverFail s (fun t => t.role = .active ∧ t.teth.epoch = nextEpoch (nextEpoch e) ∧ t.teth.failed = l ∧
      t.teth.lastCause = 4 ∧ t.teth.hand = .none ∧
      ∀ f ∈ s.hq.inflight, f.wait = .takeover → Answered s t f.hdr stDenied l.length))

/-- R120 to R123, R125 to R128, R142 to R144, R279, R294: the fast frames of a port, the line that carries them, and its loss. -/
def Obligations.FastFramesComplete : Prop :=
  (∀ (s : State) (p : Nat), p < s.part.ports → s.rc.portOn p = true →
    (s.role = .active ∧ ((s.port p).state = .trained ∨ (s.port p).state = .lost ∨ (s.port p).state = .training) ∨
      s.role = .standby ∧ (s.port p).state = .training) →
    Completes (.fastDn p) s (fun t =>
      let now := if (s.port p).state = .training then 0 else (s.port p).launch
      let d := (launchUi now + 1250 - launchUi (s.port p).sentLaunch) % 1250
      Puts s t (.fastDn p (s.dnHeader p) (s.dnPayload p) (fastCrcOf 0x2D (s.dnHeader p) (s.dnPayload p))) ∧
      (WellShaped s → (t.port p).sentLaunch = now ∧ (t.port p).line.begun =
        fastBlocks 0x2D (s.dnHeader p) (s.dnPayload p) (fastCrcOf 0x2D (s.dnHeader p) (s.dnPayload p))) ∧
      (d ≠ 0 → Puts s t (.launchMove p (d / 50) (d % 50))) ∧
      ((s.port p).line.begun ≠ [] → Puts s t
        (.line p ((s.port p).line.period (if d = 0 then none else some (d / 50, d % 50))).1 (d % 50))) ∧
      (∀ q, q ≠ p → t.port q = s.port q) ∧
      (∀ l, s.teth.hand = .forced l → l.filter (· != p) = [] → t.teth.hand = .none ∧
        ∀ f ∈ s.hq.inflight, f.wait = .takeover → Answered s t f.hdr stOk 0))) ∧
  (∀ (s : State) (p : Nat), s.sendsOn p = false → Completes (.fastDn p) s (fun t => t = s)) ∧
  (∀ (s : State) (p q : Nat), WellShaped s → p < s.part.ports → (s.port p).state = .trained → (s.port p).fresh = false →
    q < s.part.ports → q ≠ p → (s.port q).state = .trained → (s.port q).fresh = false →
    (∀ f : Option FastFrame, (∀ g, f = some g → goodFast 0x33 g = false) → Completes (.fastUp p f) s (fun t =>
      t.port p = { (s.port p) with fastCrc := satInc 16 (s.port p).fastCrc, badRun := (s.port p).badRun + 1
                                   badThisS := (s.port p).badThisS + 1, stale := true, fresh := true } ∧
      ∀ r, r ≠ p → t.port r = s.port r)) ∧
    (∀ f : FastFrame, goodFast 0x33 f = true → Completes (.fastUp p (some f)) s (fun t =>
      (t.port p).hdr = f.hdr ∧ (t.port p).badRun = 0 ∧ (t.port p).stale = false ∧ (t.port p).fresh = true ∧
      (t.port p).upSeq = some (f.hdr % 256) ∧ (t.port p).raw = (List.range 8).map (laneOf f.payload)))) ∧
  (∀ (s : State) (p : Nat), p < s.part.ports → s.trainedPorts = [p] → (s.port p).fresh = false → WellShaped s →
    Completes (.fastUp p none) s (fun t => t = (s.badUp p).framePeriod)) ∧
  (∀ (s : State) (p : Nat), p < s.part.ports → (s.port p).state = .lost → WellShaped s →
    Completes (.fastUp p none) s (fun t => t = s.badUp p) ∧
    (∀ f : FastFrame, goodFast 0x33 f = true → Completes (.fastUp p (some f)) s (fun t =>
      (t.port p).hdr = f.hdr ∧ (t.port p).state = .lost ∧ (t.port p).badRun = 0 ∧
      (t.port p).raw = (List.range 8).map (laneOf f.payload) ∧ t.teth = s.teth))) ∧
  (∀ (s : State) (p : Nat), WellShaped s → p < s.part.ports →
    (∀ heads : List Nat, (s.port p).lock = true → 16 ≤ ((heads.drop (heads.length - 64)).filter badSync).length →
      ((s.port p).state = .trained → Completes (.blockLockLost ⟨p, heads⟩) s (fun t => (t.port p).state = .lost ∧
        (t.port p).lostSeen = true ∧ (t.port p).lock = false ∧ (t.port p).lockLoss = satInc 8 (s.port p).lockLoss)) ∧
      ((s.port p).state ≠ .trained → Completes (.blockLockLost ⟨p, heads⟩) s (fun t =>
        t.port p = { (s.port p) with lock := false, lockLoss := satInc 8 (s.port p).lockLoss } ∧ t.ev = s.ev))) ∧
    (∀ heads : List Nat, (s.port p).lock = false ∨ ((heads.drop (heads.length - 64)).filter badSync).length < 16 →
      Completes (.blockLockLost ⟨p, heads⟩) s (fun t => t = s)) ∧
    ((s.port p).state = .trained → (8 ≤ (s.port p).badRun ∨ 8 ≤ (s.port p).obeyRun) → Completes (.portLost p) s (fun t =>
      (t.port p).state = .lost ∧ (t.port p).lostSeen = true ∧
      (s.role = .active → (s.port p).isCell = false → t.ev.ring.getLast?.map (·.sev) = some 1) ∧
      (s.role = .active → (s.port p).isCell = true → (s.port p).retired = false → s.levelOn (.cell p) < 3 →
        (∃ q ∈ s.activeMembers (s.port p).group, q ≠ p) → (t.port p).retired = true ∧ (t.port p).cause = 8) ∧
      (s.role = .active → (s.port p).isCell = true → (s.port p).retired = false → (s.port p).group < 16 →
        s.levelOn (.group (s.port p).group) < 4 → (s.group (s.port p).group).state = .regulating →
        (∀ q ∈ s.activeMembers (s.port p).group, q = p) → (t.group (s.port p).group).state = .quenching ∧
        (t.group (s.port p).group).lastQuench = 2))) ∧
    ((s.port p).state = .trained → (s.port p).badRun < 8 → (s.port p).obeyRun < 8 →
      Completes (.portLost p) s (fun t => t = s))) ∧
  (∀ (s : State) (p margin : Nat), WellShaped s → p < s.part.ports → (s.port p).state ≠ .down → (s.port p).state ≠ .failed →
    Completes (.degraded p margin) s (fun t => (t.port p).degraded = (decide (1000 < (s.port p).badThisS) || decide (margin < 20)) ∧
      (t.port p).badThisS = 0 ∧ (t.port p).badLastS = min (s.port p).badThisS 65535 ∧ (t.port p).margin = margin % 256 ∧
      ((t.port p).degraded = true → (s.port p).degraded = false → p ∈ t.ev.portCause) ∧
      ((t.port p).degraded = false → (s.port p).degraded = true → p ∉ t.ev.portCause)))

/-- R134 to R136, R141, R143: training of a port, its end and its repeats. What was being carried on the port ends with each
attempt, and discovery reads the bridge anew. -/
def Obligations.TrainingCompletes : Prop :=
  (∀ (s : State) (p : Nat), WellShaped s → p < s.part.ports → (s.port p).state = .lost → s.role ≠ .offline →
    ((s.port p).retrainAt.filter (fun t => decide (s.clk.now < t + 10000000000))).length < 3 →
    Completes (.portRetrain p) s (fun t => (t.port p).state = .training ∧ (t.port p).trainTries = 1 ∧
      (t.port p).retrains = satInc 8 (s.port p).retrains ∧ (t.port p).held = [none, none, none, none] ∧
      (t.port p).sentLaunch = 0 ∧ (t.port p).brRead = [] ∧ (t.port p).svcOut = [] ∧ (t.port p).svcWait = discoveryReads ∧
      (s.rc.portOn p = true → Puts s t (.train p (s.trainHeader p))) ∧ ∀ q, q ≠ p → t.port q = s.port q)) ∧
  (∀ (s : State) (p : Nat), ((s.port p).state ≠ .lost ∨ s.role = .offline ∨
    3 ≤ ((s.port p).retrainAt.filter (fun t => decide (s.clk.now < t + 10000000000))).length) →
    Completes (.portRetrain p) s (fun t => t = s)) ∧
  (∀ (s : State) (p step : Nat), WellShaped s → p < s.part.ports → (s.port p).state = .training →
    ((s.port p).trainTries < 3 → Completes (.trainingTimeout p step) s (fun t => (t.port p).state = .training ∧
      (t.port p).trainTries = (s.port p).trainTries + 1 ∧ (t.port p).retrains = satInc 8 (s.port p).retrains ∧
      (s.rc.portOn p = true → Puts s t (.train p (s.trainHeader p))))) ∧
    (3 ≤ (s.port p).trainTries → Completes (.trainingTimeout p step) s (fun t => (t.port p).state = .failed ∧
      p ∈ t.ev.portCause ∧ (s.ev.portCause.contains p = true →
        (∀ r ∈ (s.port p).svcOut ++ (s.port p).svcWait, r.use = .discover) →
        Newest s t 0x0B01 3 kPort p (leBytes 1 step))))) ∧
  (∀ (s : State) (p step : Nat), (s.port p).state ≠ .training →
    Completes (.trainingTimeout p step) s (fun t => t = s)) ∧
  (∀ (s : State) (p : Nat) (d : Training), WellShaped s → p < s.part.ports → (s.port p).state = .training →
    gainsLock d.heads = true → bitAt d.answer 9 = true → d.arrivals.length = 16 →
    d.arrivals.foldl max 0 - d.arrivals.foldl min (d.arrivals.headD 0) ≤ 2 →
    ((s.port p).discovered = false → Completes (.portTrained p d) s (fun t => t = s)) ∧
    ((s.port p).discovered = true → bits ((s.port p).brReg 0) 31 16 = (s.port p).bridgeRec →
      bits ((s.port p).brReg 0) 15 8 = 1 → layoutOk (bits ((s.port p).brReg 1) 7 0) ((s.port p).brReg 2) = true →
      s.calCovers p (bits ((s.port p).brReg 1) 7 0) ((s.port p).brReg 2) = true → Completes (.portTrained p d) s (fun t =>
        (t.port p).state = .trained ∧ (t.port p).lock = true ∧ (t.port p).bridgeId = bits ((s.port p).brReg 0) 31 16 ∧
        (t.port p).layout = BitVec.ofNat 32 ((s.port p).brReg 2) ∧ (t.port p).laneEn = bits ((s.port p).brReg 1) 7 0 ∧
        (t.port p).holdUs = bits ((s.port p).brReg 3) 8 0 ∧ (t.port p).arrival = d.arrivals.foldl max 0 % 400 ∧
        (t.port p).brFault = (s.port p).brReg 5 % 16 ∧ (t.port p).degraded = (s.port p).degraded ∧
        ((s.port p).degraded = false → p ∉ t.ev.portCause) ∧
        (bitAt ((s.port p).brReg 5) 1 = true → s.standbyFlag = false → (t.port p).svcWait = (s.port p).svcWait ++
          [{ tag := 0, op := 2, addr := 4, data := 1, mask := 1, sends := 0, use := .unlatch }]))) ∧
    ((s.port p).discovered = true → bits ((s.port p).brReg 0) 31 16 ≠ (s.port p).bridgeRec →
      Completes (.portTrained p d) s (fun t =>
        (t.port p).state = .failed ∧ (t.port p).bridgeId = bits ((s.port p).brReg 0) 31 16 ∧ p ∈ t.ev.portCause))) ∧
  (∀ (s : State) (p : Nat) (d : Training), WellShaped s → p < s.part.ports → (s.port p).state = .training →
    (s.port p).trainTries < 3 → (gainsLock d.heads = false ∨ bitAt d.answer 9 = false ∨ d.arrivals.length ≠ 16 ∨
      2 < d.arrivals.foldl max 0 - d.arrivals.foldl min (d.arrivals.headD 0)) →
    Completes (.portTrained p d) s (fun t => (t.port p).state = .training ∧
      (t.port p).trainTries = (s.port p).trainTries + 1 ∧
      (s.rc.portOn p = true → Puts s t (.train p (s.trainHeader p)))))

/-- R130 to R132, R135, R142, R165: service accesses and the bridge's reports; they change no other port. A request leaves in a
free service slot of a period under way. -/
def Obligations.ServiceAccessesComplete : Prop :=
  (∀ (s : State) (p : Nat) (r : SvcReq) (rest : List SvcReq), WellShaped s → p < s.part.ports →
    (s.port p).svcWait = r :: rest → s.sendsOn p = true → (s.port p).line.slotFree = true → (s.port p).svcOut.length < 4 →
    Completes (.svcDn p) s (fun t =>
      let h := fieldAt r.op 4 36 + fieldAt (s.port p).freeTag 4 32 + fieldAt r.addr 16 16
      (t.port p).svcWait = rest ∧
      (t.port p).svcOut = (s.port p).svcOut ++ [{ r with tag := (s.port p).freeTag, sends := 1 }] ∧
      (t.port p).line.begun = (s.port p).line.begun ++ svcBlocks 0x4B h r.data r.mask (svcCrcOf 0x4B h r.data r.mask) ∧
      Puts s t (.svcDn p h r.data r.mask (svcCrcOf 0x4B h r.data r.mask)) ∧ ∀ q, q ≠ p → t.port q = s.port q)) ∧
  (∀ (s : State) (p : Nat), ((s.port p).svcWait = [] ∨ s.sendsOn p = false ∨ (s.port p).line.slotFree = false ∨
    4 ≤ (s.port p).svcOut.length) → Completes (.svcDn p) s (fun t => t = s)) ∧
  (∀ (s : State) (p tag : Nat) (r : SvcReq), WellShaped s → p < s.part.ports →
    (s.port p).svcOut.find? (fun r => r.tag == tag) = some r →
    (r.sends < 3 → Completes (.svcTimeout p tag) s (fun t => t.ev = s.ev ∧
      (s.sendsOn p = true → (s.port p).line.slotFree = true → ∃ h c, Puts s t (.svcDn p h r.data r.mask c)) ∧
      (t.port p).svcOut = (s.port p).svcOut.map (fun q => if q.tag = tag then { q with sends := q.sends + 1 } else q))) ∧
    (3 ≤ r.sends → Completes (.svcTimeout p tag) s (fun t => (t.port p).svcTimeout = true ∧
      (t.port p).svcOut = (s.port p).svcOut.filter (fun q => q.tag != tag) ∧
      Newest s t 0x0B02 0 kPort p (leBytes 2 r.addr) ∧
      (r.use = .clearFault ∨ r.use = .readFault → (t.port p).restore = none ∧
        ∀ f ∈ s.hq.inflight, f.wait = .restore p → Answered s t f.hdr stTimeout 0)))) ∧
  (∀ (s : State) (p : Nat) (f : SvcFrame), WellShaped s → p < s.part.ports →
    ((s.port p).state = .trained ∨ (s.port p).state = .lost ∨ (s.port p).state = .training) →
    (svcGood f = false ∨ svcOp f ≠ 9 ∧ svcOp f ≠ 10 → Completes (.svcResponse p f) s (fun t => t = s.badSvc p)) ∧
    (svcGood f = true → (svcOp f = 9 ∨ svcOp f = 10) → ∀ r,
      (s.port p).svcOut.find? (fun r => r.tag == svcTag f) = some r →
      (r.use = .unlatch → Completes (.svcResponse p f) s (fun t =>
        t.port p = { (s.port p) with svcOut := (s.port p).svcOut.filter (fun q => q.tag != svcTag f) })) ∧
      (r.use = .discover → bits f.hdr 15 8 = 0 → Completes (.svcResponse p f) s (fun t =>
        t.port p = { (s.port p) with svcOut := (s.port p).svcOut.filter (fun q => q.tag != svcTag f)
                                     brRead := (s.port p).brRead ++ [(r.addr, f.data)] })) ∧
      (r.use = .clearFault → Completes (.svcResponse p f) s (fun t =>
        (t.port p).svcOut = (s.port p).svcOut.filter (fun q => q.tag != svcTag f) ∧
        (t.port p).svcWait = (s.port p).svcWait ++
          [{ tag := 0, op := 1, addr := 5, data := 0, mask := 0, sends := 0, use := .readFault }])) ∧
      (r.use = .readFault → bits f.hdr 15 8 = 0 → (s.port p).restore = none → Completes (.svcResponse p f) s (fun t =>
        (t.port p).brFault = f.data))) ∧
    (svcGood f = true → svcOp f = 11 → svcIndex f ≤ 3 → (s.port p).state ≠ .training → Completes (.held p f) s (fun t =>
      t.port p = { (s.port p) with held := (s.port p).held.set (svcIndex f) (some (toSigned 32 f.data)) } ∧
      ∀ q, q ≠ p → t.port q = s.port q)) ∧
    (svcGood f = false ∨ svcOp f ≠ 11 ∨ 3 < svcIndex f → Completes (.held p f) s (fun t => t = s.badSvc p)) ∧
    (svcGood f = true → svcOp f = 12 → svcIndex f ≤ 3 → Completes (.status p f) s (fun t =>
      (t.port p).brFault = f.mask % 16 ∧
      (t.port p).temps = ((s.port p).temps.set (2 * svcIndex f) (toSigned 16 (bits f.data 15 0))).set (2 * svcIndex f + 1)
        (toSigned 16 (bits f.data 31 16)))) ∧
    (svcGood f = false ∨ svcOp f ≠ 12 ∨ 3 < svcIndex f → Completes (.status p f) s (fun t => t = s.badSvc p))) ∧
  (∀ (s : State) (p : Nat) (f : SvcFrame), s.hears p = false → Completes (.svcResponse p f) s (fun t => t = s) ∧
    Completes (.held p f) s (fun t => t = s) ∧ Completes (.status p f) s (fun t => t = s))

/-- R99 to R103: AUTOSTART, the pre-biased closing, REGULATING, and the time limits of start and quench. A group that a burst took
from STARTING keeps its START_MAX_MS until it reaches REGULATING; one that returns from burst asleep closes its inner slots with
PRELOAD_OUT (R112). -/
def Obligations.StartsAndQuenchesComplete : Prop :=
  (∀ (s : State) (g : Nat), WellShaped s → g < 16 → s.role = .active → s.rc.run = true → s.sh.storeOk = true →
    s.sh.calOk = true → (s.group g).gtype ≠ 0 → (s.group g).autostart = true → (s.group g).autoTried = false →
    (s.group g).state = .off →
    (∀ k, k < 16 → k ≠ g → ((s.group k).gtype ≠ 0 → (s.group k).autostart = true → (s.group k).autoTried = false →
      (s.group g).startOrder < (s.group k).startOrder) ∧
      ((s.group k).toReg = true → (s.group g).startOrder ≤ (s.group k).startOrder)) → (s.group g).startOrder ≤ 15 →
    Completes .autostart s (fun t => (t.group g).autoTried = true ∧
      (s.startRefusal g = none → (t.group g).state = .starting ∧ (t.group g).startPend = true) ∧
      (∀ r, s.startRefusal g = some r → (t.group g).state = .off))) ∧
  (∀ (s : State), s.role ≠ .active ∨ s.rc.run = false ∨ s.sh.storeOk = false ∨ s.sh.calOk = false →
    Completes .autostart s (fun t => t = s)) ∧
  (∀ (s : State) (k : Nat), k < 16 → (s.group k).toReg = true → (s.group k).startOrder < 15 →
    (∀ g, g < 16 → (s.group g).gtype ≠ 0 → (s.group g).autostart = true → (s.group g).autoTried = false →
      (s.group k).startOrder < (s.group g).startOrder) → Completes .autostart s (fun t => t = s)) ∧
  (∀ (s : State) (g : Nat), (s.group g).startPend = false → Completes (.preBiasedStart g) s (fun t => t = s)) ∧
  (∀ (s : State) (g v c : Nat), WellShaped s → g < 16 → (s.group g).startPend = true → (s.group g).gtype ≠ 1 →
    v = (s.group g).voltSlot → c = (s.group g).currSlot → v ≠ c → v < 128 → c < 128 → (s.entry v).isSome = true →
    (s.entry c).isSome = true → Completes (.preBiasedStart g) s (fun t =>
      (t.group g).startPend = false ∧ (t.group g).wakePend = false ∧ (t.group g).regRun = 0 ∧
      (t.slot v).pend = (s.slot v).pend ++ [.closeIt (.value (s.readSrc (s.slot c).meas (s.slot c).const).v)] ∧
      (t.slot c).pend = (s.slot c).pend ++ [.closeIt (if (s.group g).wakePend then .out else
        .value ((s.group g).pbValue (s.readSel (s.group g).pbOut).v (s.readSel (s.group g).pbIn).v))])) ∧
  (∀ (s : State) (g : Nat), WellShaped s → g < 16 →
    ((s.group g).state = .starting → (s.group g).startPend = false → (s.group g).regCount ≤ (s.group g).regRun →
      Completes (.regulationReached g) s (fun t => (t.group g).state = .regulating ∧ (t.group g).toReg = false ∧
        ∀ f ∈ s.hq.inflight, f.wait = .groupEnable g → Answered s t f.hdr stOk 0)) ∧
    ((s.group g).state ≠ .starting ∨ (s.group g).startPend = true ∨ (s.group g).regRun < (s.group g).regCount →
      Completes (.regulationReached g) s (fun t => t = s)) ∧
    ((s.group g).state = .starting ∨ ((s.group g).toReg = true ∧ (s.group g).state ≠ .off ∧ (s.group g).state ≠ .quenching) →
      Completes (.startTimeout g) s (fun t => (t.group g).state = .quenching ∧ (t.group g).lastQuench = 3 ∧
      (∀ f ∈ s.hq.inflight, f.wait = .groupEnable g → Answered s t f.hdr stTimeout 0) ∧
      ((∀ p ∈ s.members g, (s.port p).restore = none) → Newest s t 0x0402 4 kGroup g []))) ∧
    ((s.group g).state ≠ .starting → (s.group g).toReg = false → Completes (.startTimeout g) s (fun t => t = s)) ∧
    ((s.group g).state = .quenching → Completes (.quenchTimeout g) s (fun t => (t.group g).state = .off ∧
      ∀ f ∈ s.hq.inflight, f.wait = .groupQuench g → Answered s t f.hdr stOk 0)) ∧
    ((s.group g).state ≠ .quenching → Completes (.quenchTimeout g) s (fun t => t = s)))

/-- R112, R115, R157 to R162, R294, R296: the 1 ms window, burst, and the detectors of protection. A standby takes no action of the
ladder (R154). -/
def Obligations.DetectorsComplete : Prop :=
  (∀ (s : State) (live : List Nat), WellShaped s → s.role = .active → s.sh.useDwell ≤ s.sh.burstLow → s.sh.burstHold = 0 →
    live = s.busGroups.filter (fun g => (s.group g).state != .off) →
    (∀ g ∈ live, (s.group g).burstEn = true) →
    (∃ g ∈ live, (s.group g).state ≠ .quenching ∧ (s.group g).state ≠ .burstRun ∧ (s.group g).state ≠ .burstSleep) →
    Completes .burstEnter s (fun t =>
      (∀ g ∈ live, (s.group g).state ≠ .quenching → (t.group g).state = .burstRun) ∧
      (∀ g ∈ live, (s.group g).state = .quenching → t.group g = s.group g) ∧
      (∀ g, live = [g] → (s.group g).voltSlot < 128 → (t.slot (s.group g).voltSlot).w =
        (s.slot (s.group g).voltSlot).w.set 5 (BitVec.ofInt 32 (s.sh.target + s.sh.burstHi))))) ∧
  (∀ (s : State), s.role ≠ .active ∨ s.sh.burstLow < s.sh.useDwell ∨ s.sh.burstHold ≠ 0 →
    Completes .burstEnter s (fun t => t = s)) ∧
  (∀ (s : State), WellShaped s → Completes .msWindow s (fun t => t.sh.windows = s.sh.windows + 1 ∧
    t.sh.outTele = s.sh.outTele.endWindow s.le.frame ∧ t.sh.useEnter = s.sh.burstEnter ∧
    t.sh.useDwell = s.sh.burstDwell ∧ t.sh.useBand = s.sh.burstBand ∧
    ((s.sh.burstEnter : Int) ≤ t.sh.outTele.avg1 → t.sh.burstLow = 0) ∧
    (s.burstGroups = [] → t.sh.outTele.avg1 < (s.sh.burstEnter : Int) → t.sh.burstLow = s.sh.burstLow + 1) ∧
    (∀ g, (s.group g).gtype ≠ 0 → (t.group g).tv = (s.group g).tv.endWindow s.le.frame ∧
      (t.group g).ti = (s.group g).ti.endWindow s.le.frame ∧
      (t.group g).tp = (s.group g).tp.endWindow s.le.frame ∧ (t.group g).vUse = (s.group g).vSrc ∧
      (t.group g).iUse = (s.group g).iSrc ∧ (t.group g).pUse = (s.group g).pSrc) ∧
    (∀ p, p < s.part.ports → (t.port p).tele = (s.port p).tele.mapIdx (fun ch c =>
      if ((s.port p).lanesOf ch).isEmpty then c else c.endWindow s.le.frame)) ∧
    (∀ p num (i : Int), p < s.part.ports → (s.port p).isCell = true → (s.port p).retired = false →
      num = (s.group (s.port p).group).refPct * (s.port p).ratingMa → num ≠ 0 →
      i = (nth (t.port p).tele (s.currentCh p) {}).avg1 → (t.port p).heat = heatNext (s.port p).heat
        (min ((i * i).toNat * 2 ^ 32 * (100 * 100) / (num * num)) (2 ^ 64 - 1)) (s.group (s.port p).group).tauMs))) ∧
  (∀ (s : State) (p : Nat), WellShaped s → p < s.part.ports → (s.port p).isCell = true → (s.port p).imbOn = false →
    ((s.group (s.port p).group).imbPersistEff ≤ (s.port p).imbCount → Completes (.imbalance p) s (fun t =>
      (t.port p).imbOn = true ∧ (t.port p).imbFlag = true ∧ (t.port p).imbCount = 0 ∧
      (s.role = .active → (t.ev.ring.map (·.code)).reverse.take 2 = [0x0401, 0x0403]) ∧ (s.role ≠ .active → t.ev = s.ev))) ∧
    ((s.port p).imbCount < (s.group (s.port p).group).imbPersistEff → Completes (.imbalance p) s (fun t => t = s))) ∧
  (∀ (s : State) (p : Nat), WellShaped s → p < s.part.ports → (s.port p).isCell = true → (s.port p).out = false →
    (s.port p).devCount ≠ 0 →
    (s.role = .active → (s.group (s.port p).group).sensePersist ≤ (s.port p).devCount → Completes (.senseFinding p) s (fun t =>
      (t.port p).devCount = 0 ∧
      (s.lastCell p = false → s.levelOn (.cell p) < 3 → (t.port p).retired = true ∧
        (t.port p).cause = if (s.port p).devOpen then 6 else 7))) ∧
    (s.role ≠ .active ∨ (s.port p).devCount < (s.group (s.port p).group).sensePersist →
      Completes (.senseFinding p) s (fun t => t = s))) ∧
  (∀ (s : State) (g : Nat) (ov uv : Bool), WellShaped s → g < 16 →
    ov = decide (0 < (s.group g).ovNs ∧ (s.group g).ovUs * 1000 ≤ (s.group g).ovNs) →
    uv = decide (0 < (s.group g).uvNs ∧ (s.group g).uvUs * 1000 ≤ (s.group g).uvNs) →
    (s.role ≠ .active ∨ (ov = false ∧ uv = false) → Completes (.voltageLimitTrip g) s (fun t => t = s)) ∧
    (ov = true ∨ uv = true → s.role = .active → Completes (.voltageLimitTrip g) s (fun t =>
      ((s.group g).gtype = 1 → s.levelOn .shelf < 5 → t.sh.shelfQuench = true ∧ ∀ k, k < 16 → (s.group k).state ≠ .off →
        (t.group k).state = .quenching) ∧
      ((s.group g).gtype = 2 → ∀ k ∈ s.busGroups, (s.group k).state ≠ .off → (s.group k).state ≠ .quenching →
        s.levelOn (.group k) < 4 → (t.group k).state = .quenching ∧ (t.group k).lastQuench = 2) ∧
      ((s.group g).gtype = 3 → (s.group g).state ≠ .off → (s.group g).state ≠ .quenching → s.levelOn (.group g) < 4 →
        (t.group g).state = .quenching ∧ (t.group g).lastQuench = 2)))) ∧
  (∀ (s : State),
    (∀ c, s.coolChan 1 = some (.trained, c) → 100 ≤ s.sh.windows → Completes .coolantUpdate s (fun t =>
      t.sh.coolHold = false ∧ t.sh.coolFactor = if s.sh.coolTarget c.avg100 ≤ s.sh.coolFactor then s.sh.coolTarget c.avg100
        else if 1 ≤ s.sh.coolTick then s.sh.coolFactor + 1 else s.sh.coolFactor)) ∧
    (s.coolChan 1 = none → Completes .coolantUpdate s (fun t => t.sh.coolHold = true ∧ t.sh.coolFactor = s.sh.coolFactor)) ∧
    (∀ c, s.coolChan 1 = some (.trained, c) → s.coolChan 2 = none → 100 ≤ s.sh.windows → s.sh.coolFactor = 100 →
      s.sh.coolTarget c.avg100 < 100 → s.role = .active → Completes .coolantUpdate s (fun t =>
        Newest s t 0x0401 2 kShelf 0 (leBytes 1 2 ++ leBytes 1 0 ++ leBytes 1 7))))

/-- R168, R169, R171 to R173, R176 to R193: the Planisher's fast and slow steps, the estimator, ride-through, absence and peers. The
fast step runs on a standby too (Table 11-4); in OFF no storage has a set-point, and ride-through ends (Table 7-1). -/
def Obligations.PlanisherStepsComplete : Prop :=
  (∀ (s : State) (g : Nat) (r : StrRec) (v c voc ev e : Int), s.rc.on 4 = true → s.pl.strs = [(g, r)] →
    (r.regd = true ∨ (s.group g).state ≠ .regulating ∧ (s.group g).state ≠ .burstRun) →
    s.avgSel (s.group g).pbOut = some v → s.avgSel r.iSrc = some c → voc = v + divRne (c * r.esr) 1000000 →
    ev = divFloor ((r.eUse : Int) * 1000 * (voc ^ 2 - r.vBot ^ 2)) (r.vTop ^ 2 - r.vBot ^ 2).toNat →
    e = r.e - divRne (v * c) 1000000 → Completes .estimatorUpdate s (fun t =>
      t.pl = { s.pl with strs := [(g, { r with voc := voc, seed := false
                                               e := if r.seed then ev else e + divFloor (ev - e) (r.tauS * 1000) })] })) ∧
  (∀ (s : State), s.rc.on 4 = false → Completes .estimatorUpdate s (fun t => t = s) ∧
    Completes .absenceDetect s (fun t => t = s) ∧ Completes .absenceDecay s (fun t => t = s)) ∧
  (∀ (s : State) (parity : Bool), s.rc.gov = true → s.role = .active ∨ s.role = .standby →
    Completes (.fastStep parity) s (fun t => t.pl.absent = false ∧
    t.pl.resume = false ∧
    (∀ m, s.pl.modeNext = some m → t.pl.mode = m ∧ t.pl.modeNext = none ∧
      ∀ f ∈ s.hq.inflight, f.wait = .storeMode → Answered s t f.hdr stOk 0) ∧
    (s.pl.ride = true → s.pl.modeNext ≠ some 2 → t.pl.ride = true ∧ t.pl.g = 0 ∧ t.pl.gPub = 0) ∧
    (s.pl.ride = true → s.pl.modeNext = some 2 → t.pl.ride = false ∧
      (parity = false → Newest s t 0x0502 1 kNone 0 (leBytes 1 0))) ∧
    (s.pl.modeNext = none → s.pl.mode = 0 → s.pl.absent = false → s.pl.resume = false → s.pl.ride = false →
      s.canRide = false → t.pl.g = min (if s.pl.g < s.pl.gReq * 1000000 then min (s.pl.g + s.pl.ramp * 10) (s.pl.gReq * 1000000)
        else max (s.pl.g - s.pl.ramp * 10) (s.pl.gReq * 1000000)) (min s.pl.budget s.availGrid * 1000000)) ∧
    (-(s.pl.trimMax : Int) ≤ s.pl.trim → s.pl.trim ≤ s.pl.trimMax →
      -(s.pl.trimMax : Int) ≤ t.pl.trim ∧ t.pl.trim ≤ s.pl.trimMax) ∧
    (∀ g, g < 16 → (s.group g).gtype = 3 → bitAt t.le.xinValid (g + 1) = true ∧
      -(s.availW g : Int) ≤ nth t.le.xinVal (g + 1) 0 ∧ nth t.le.xinVal (g + 1) 0 ≤ s.availW g ∧
      (t.pl.mode = 2 → nth t.le.xinVal (g + 1) 0 = 0)))) ∧
  (∀ (s : State) (parity : Bool), s.rc.gov = false ∨ (s.role ≠ .active ∧ s.role ≠ .standby) →
    Completes (.fastStep parity) s (fun t => t = s)) ∧
  (∀ (s : State) (g : Nat) (v : Int), s.pl.ride = true → s.gridGroup = some g → (s.group g).state = .regulating →
    s.avgSel (s.group g).pbIn = some v →
    ((s.group g).vinMin ≤ v → v ≤ (s.group g).vinMax → Completes .rideExit s (fun t => t.pl.ride = false ∧
      t.pl.g = min s.pg (min s.pl.budget s.availGrid) * 1000000 ∧ t.pl.trim = 0 ∧
      Newest s t 0x0502 1 kNone 0 (leBytes 1 0))) ∧
    (v < (s.group g).vinMin ∨ (s.group g).vinMax < v → Completes .rideExit s (fun t => t = s))) ∧
  (∀ (s : State), s.rc.gov = true → Completes .slowStep s (fun t =>
    t.gv = { s.gv with eOut := s.gv.eOut + s.sh.outTele.avg1, eIn := s.gv.eIn + s.pg } ∧
    (s.role ≠ .active → t.pl = s.pl ∧ t.gn = s.gn) ∧
    (s.role = .active → 0 ≤ t.pl.gReq ∧ t.pl.gReq ≤ max 0 (min s.pl.budget s.availGrid) ∧ t.pl.winClamp = true ∧
      t.pl.socReg = s.soc ∧ t.pl.laHist = (s.sh.outTele.avg1 :: s.pl.laHist).take 1000 ∧
      (∀ l, s.pl.limNext = some l → t.pl.lim = l ∧ t.pl.limNext = none ∧
        ∀ f ∈ s.hq.inflight, f.wait = .planLimits → Answered s t f.hdr stOk 0) ∧
      (s.canSend = true → t.gn.seq = (s.gn.seq + 1) % 2 ^ 32 ∧ ∃ d b, d.dport = 49870 ∧ Puts s t (.datagram d b))))) ∧
  (∀ (s : State), Completes .fcHoldEnd s (fun t => t = { s with pl := { s.pl with fcHold := false } })) ∧
  (∀ (s : State), s.rc.on 4 = true →
    Completes .absenceDetect s (fun t => t = { s with pl := { s.pl with absent := true } }) ∧
    (s.pl.absent = true → Completes .absenceDecay s (fun t => t.pl = s.pl ∧ t.le.xinVal = s.le.xinVal.mapIdx (fun k (v : Int) =>
      if 1 ≤ k ∧ k ≤ 16 ∧ (s.group (k - 1)).gtype = 3 then
        (if 0 < v then max 0 (v - s.pl.absRate) else min 0 (v + s.pl.absRate)) else v)))) ∧
  (∀ (s : State) (k : Nat) (o : PeerGrid), look s.pl.peers k = some o → Completes (.peerSilent k) s (fun t =>
    t.pl.peers = dropKey s.pl.peers k ∧ (s.pl.offer ≤ 0 ∨ o.gridW ≤ 0 ∨ s.gn.isolated = true → t.pl.fills = s.pl.fills) ∧
    (∀ sum, 0 < s.pl.offer → 0 < o.gridW → s.gn.isolated = false →
      sum = s.pl.offer + sumOf ((dropKey s.pl.peers k).filter (fun x => decide (0 < x.2.offer))) (fun x => x.2.offer) →
      t.pl.fills = s.pl.fills ++ [{ num := divFloor (o.gridW * s.pl.offer) sum.toNat * 100000 * sum
                                    dec := s.pl.fillRamp * s.pl.offer, den := sum.toNat }]) ∧
    (k / 4 = s.rackId → s.gv.ok = true → t.gv.peers = dropKey s.gv.peers (k % 4))))

/-- R197 to R199, R202 to R206: the Profile Engine's sample, loss of lock, the end of COAST and the WICK notices. The cause byte
of LOCK_LOST is a free value. -/
def Obligations.ProfileEngineComplete : Prop :=
  (∀ (s : State) (v : Int), s.rc.profile = true → s.pf.state = .search → s.pfSample = some v → s.pf.winPos < 999 →
    s.pf.decCnt + 1 < 2 ^ s.pf.m →
    Completes (.profileSample false) s (fun t => t.pf = { s.pf with
      decSum := s.pf.decSum + v, decCnt := s.pf.decCnt + 1, winSum := s.pf.winSum + v, winCnt := s.pf.winCnt + 1
      recent := (some v :: s.pf.recent).take ((s.pf.period / 2 ^ 16).toNat + 2), winPos := s.pf.winPos + 1 })) ∧
  (∀ (s : State) (parity : Bool), s.rc.profile = true → s.pf.state = .locked → 0 < s.pf.period →
    Completes (.profileSample parity) s (fun t =>
      (s.pf.phase + 2 ^ 16 < s.pf.period → binsOf s.pf.period s.pf.n ≤ s.part.profileEntries → t.pf.state = .locked ∧
        t.pf.phase = s.pf.phase + 2 ^ 16 ∧ t.pf.periods = s.pf.periods ∧ t.pf.period = s.pf.period) ∧
      (s.pf.period ≤ s.pf.phase + 2 ^ 16 → s.pf.recross = false → t.pf.periods = satInc 16 s.pf.periods ∧
        t.pf.snap = t.pf.table ∧ t.pf.periodBins = [] ∧
        (t.pf.state = .locked ∧ binsOf t.pf.period t.pf.n ≤ s.part.profileEntries ∨ t.pf.state = .search ∧ t.pf.noFit = true)) ∧
      (s.pf.period ≤ s.pf.phase + 2 ^ 16 → s.pf.recross = true → t.pf.periods = s.pf.periods ∧ t.pf.recross = false ∧
        t.pf.periodBins = []) ∧
      (parity = true → t.pf.parityFlag = true ∧ (t.pf.state = .locked →
        Newest s t 0x0603 1 kNone 0 (leBytes 4 (s.pf.phase / binWidth s.pf.n).toNat))))) ∧
  (∀ (s : State), s.pf.state = .locked → s.pf.cfg.lossMs ≤ s.pf.lowWin ∨ 3 ≤ s.pf.limitRun →
    Completes .lockLost s (fun t => t.pf.state = .coast ∧ t.pf.lostFlag = true ∧ t.pf.losses = satInc 8 s.pf.losses ∧
      t.pf.table = s.pf.table ∧ t.pf.period = s.pf.period ∧ t.pf.phase = s.pf.phase ∧
      ∃ n, Newest s t 0x0601 1 kNone 0 (leBytes 1 n))) ∧
  (∀ (s : State), s.pf.state = .coast → Completes .coastTimeout s (fun t =>
    t.pf.state = .search ∧ t.pf.table = [] ∧ t.pf.anchors = [] ∧ t.pf.period = 0 ∧ t.pf.cfg = s.pf.cfg)) ∧
  (∀ (s : State) (tag : Nat) (tw delta : Int) (dur : Nat), s.rc.profile = true →
    Completes (.wickNotice tag tw delta dur) s (fun t =>
      (s.clk.ptp < tw → t.pf = { s.pf with
        waiting := insertBy (fun a b => decide (a.at_ < b.at_)) ⟨tag, tw, delta, dur⟩ s.pf.waiting }) ∧
      (tw ≤ s.clk.ptp → tag = 0 ∨ s.pf.state = .idle → t.pf = { s.pf with rejected := satInc 16 s.pf.rejected }) ∧
      (tw ≤ s.clk.ptp → tag ≠ 0 → s.pf.state = .locked → s.pf.plan = none → phaseOf (s.clk.ptp - tw) ≤ s.pf.period → ∀ a,
        look s.pf.anchors tag = some a →
        absI (wrapHalf (a - s.phaseAt tw) s.pf.period) * 100 ≤ s.pf.cfg.snapPct * s.pf.period →
        t.pf.phase = wrapT (s.pf.phase + wrapHalf (a - s.phaseAt tw) s.pf.period) s.pf.period ∧
        t.pf.applied = (s.pf.applied + 1) % 2 ^ 16 ∧ t.pf.rejected = s.pf.rejected))) ∧
  (∀ (s : State) (w : Notice) (l : List Notice), s.rc.profile = true → s.pf.waiting = w :: l → w.at_ = s.clk.ptp →
    w.tag ≠ 0 → s.pf.state = .locked → look s.pf.anchors w.tag = none →
    Completes .wickApply s (fun t => t.pf.waiting = l ∧ t.pf.applied = (s.pf.applied + 1) % 2 ^ 16 ∧
      t.pf.anchors = putKey s.pf.anchors w.tag (wrapT s.pf.phase s.pf.period)))

/-- R208, R210, R376: a written plan is activated at once or at its PTP time and completes OK; one not activated in time completes
TIMEOUT; the forecast is written every frame period. -/
def Obligations.PlansAndForecastComplete : Prop :=
  (∀ (s : State) (q : Plan), s.pf.plan = some q → q.written = false →
    Completes .planWritten s (fun t => t.pf.table = planTable q ∧ t.pf.anchors = planAnchors q ∧
      (q.mode = 0 ∨ (q.mode = 1 ∧ q.actTime ≤ s.clk.ptp) →
        t.pf.state = .locked ∧ t.pf.planned = true ∧ t.pf.phase = 0 ∧ t.pf.plan = none ∧ t.pf.n = q.binN ∧
        t.pf.period = planPeriod q.phases ∧ ∀ f ∈ s.hq.inflight, f.wait = .planLoad → Answered s t f.hdr stOk 0) ∧
      (q.mode = 2 ∨ (q.mode = 1 ∧ s.clk.ptp < q.actTime) →
        t.pf.state = s.pf.state ∧ t.pf.plan = some { q with written := true } ∧ t.pf.n = s.pf.n ∧
        t.pf.period = s.pf.period ∧ t.hq = s.hq))) ∧
  (∀ (s : State) (q : Plan), s.pf.plan = some q → q.written = true → q.mode = 1 →
    Completes .planActivateAtTime s (fun t => t.pf.state = .locked ∧ t.pf.planned = true ∧ t.pf.phase = 0 ∧
      t.pf.plan = none ∧ t.pf.table = s.pf.table ∧ t.pf.n = q.binN ∧ t.pf.period = planPeriod q.phases ∧
      ∀ f ∈ s.hq.inflight, f.wait = .planLoad → Answered s t f.hdr stOk 0)) ∧
  (∀ (s : State) (q : Plan), s.pf.plan = some q → q.mode ≠ 0 →
    Completes .planActTimeout s (fun t => t.pf.state = .search ∧ t.pf.plan = none ∧ t.pf.table = [] ∧
      ∀ f ∈ s.hq.inflight, f.wait = .planLoad → Answered s t f.hdr stTimeout 0)) ∧
  (∀ (s : State), s.rc.profile = true → Completes (.forecastWrite false) s (fun t =>
    t.le = { s.le with xinVal := s.le.xinVal.set 0 (s.pf.forecast s.sh.leadUs).1
                       xinValid := setBit s.le.xinValid 0 (s.pf.forecast s.sh.leadUs).2 } ∧
    t.pf = { s.pf with fcXin := (s.pf.forecast s.sh.leadUs).1 })) ∧
  (∀ (s : State), s.rc.profile = true → 0 < s.pf.period → Completes (.forecastWrite true) s (fun t =>
    t.pf.parityFlag = true ∧ Newest s t 0x0603 1 kNone 0
      (leBytes 4 (wrapT (s.pf.phase + s.sh.leadUs * 2 ^ 16) s.pf.period / binWidth s.pf.n).toNat))) ∧
  (∀ (s : State) (parity : Bool), s.rc.profile = false → Completes (.forecastWrite parity) s (fun t =>
    t.le = { s.le with xinValid := setBit s.le.xinValid 0 false } ∧ t.pf = s.pf))

/-- R37, R217, R218, R221, R223, R226, R229, R235, R237: the governor's step, the start of a lead, epochs and the release of their
grants, and the calibration fit. -/
def Obligations.GovernorStepsComplete : Prop :=
  (∀ (s : State), s.rc.gov = true → s.active = true → s.gv.ok = true → s.gn.isolated = false → s.gv.role ≠ 2 →
    (∀ k v, s.gv.peers = [(k, v)] → v.lead = true → Completes .governorStep s (fun t =>
      t.gv.role = 1 ∧ t.gv.leadShelf = some v.shelf ∧ t.gv.leadEpoch = v.epoch)) ∧
    (s.gv.peers = [] → s.eligible = true → s.gv.claim = none → s.gv.dupMs ≤ 1 → Completes .governorStep s (fun t =>
      t.gv.claim = some (s.gv.maxEpoch + 1) ∧ t.gv.maxEpoch = s.gv.maxEpoch + 1 ∧ t.gv.role = 0)) ∧
    Completes .governorStep s (fun t => t.gv.dupMs = s.gv.dupMs - 1 ∧ t.gv.role ≠ 2)) ∧
  (∀ (s : State), s.rc.gov = true → s.eligible = true → s.gv.role = 2 → s.gv.dupMs ≤ 1 →
    (∀ x ∈ s.gv.peers, x.2.lead = false) → s.gv.inputs = [] → s.gv.newBudget = none →
    Completes .governorStep s (fun t => t.gv.role = 2 ∧ t.gv.leadEpoch = s.gv.leadEpoch ∧
      t.gv.set_ = (s.gv.set_ + 1) % 2 ^ 16 ∧ t.gv.shares.length = 4 ∧ t.pl.budget = nth t.gv.shares s.gv.shelf 0 ∧
      t.gv.rackOut = s.gv.rackOut + sumOf s.rackViews (·.out) ∧ t.gv.rackIn = s.gv.rackIn + sumOf s.rackViews (·.grid) ∧
      (s.gv.atEpochs = false →
        t.gv.convHist = (((sumOf s.rackViews (·.grid)) - sumOf s.rackViews (·.out)) :: s.gv.convHist).take 1000) ∧
      (s.gv.hostAbsent = false → t.gv.budgetMw = s.gv.budgetMw) ∧
      (s.gv.hostAbsent = true → s.gv.absentW ≠ 0 → t.gv.budgetMw =
        if s.gv.never then (s.gv.absentW : Int) * 1000
        else if s.gv.budgetMw < (s.gv.absentW : Int) * 1000 then
          min (s.gv.budgetMw + s.gv.hostRamp) ((s.gv.absentW : Int) * 1000)
        else max (s.gv.budgetMw - s.gv.hostRamp) ((s.gv.absentW : Int) * 1000)))) ∧
  (∀ (s : State) (e : Nat), s.gv.claim = some e → s.rc.gov = true → s.eligible = true → s.gv.dupMs = 0 →
    s.gv.role ≠ 2 → Completes .leadClaim s (fun t => t.gv.role = 2 ∧ t.gv.leadEpoch = e ∧
      t.gv.leadShelf = some s.gv.shelf ∧ t.gv.claim = none ∧ t.gv.set_ = (s.gv.set_ + 1) % 2 ^ 16 ∧
      t.gv.newBudget = none ∧ t.gv.budgetMw = s.gv.budgetMw ∧
      (s.canSend = true → ∀ y ∈ s.gv.eps, y.granted = true → (look s.gv.heard y.id).isSome = true →
        ∀ x ∈ t.gv.eps, x.id = y.id → x.tg = some s.clk.now))) ∧
  (∀ (s : State) (e : Nat), s.gv.claim = some e → s.rc.gov = false ∨ s.eligible = false ∨ s.gv.dupMs ≠ 0 ∨ s.isLead = true →
    Completes .leadClaim s (fun t => t.gv = { s.gv with claim := none } ∧ t.out = s.out)) ∧
  (∀ (s : State), s.rc.gov = true → s.gv.timing = 1 → s.gv.detSusp = false → s.gn.queue = [] →
    Completes .epoch s (fun t => t.gv.lastEpoch = some (s.clk.ptp / 1000000 * 1000000) ∧
      (∀ x ∈ t.gv.inputs, s.clk.ptp / 1000000 * 1000000 < epochOf x.msg.origin) ∧
      (s.isLead = true → 0 ≤ t.gv.pool ∧ t.gv.epochGrants.map (·.1) = t.gv.eps.map (·.id)))) ∧
  (∀ (s : State), s.rc.gov = true → s.gv.timing = 1 → s.gv.detSusp = true → s.ptpLock = false ∨ s.isLead = false →
    Completes .epoch s (fun t => t = s)) ∧
  (∀ (s : State) (id : Nat) (x : Grant) (e : Endpoint) (k : Key) (a : Nat × Nat), s.isLead = true → s.rc.gov = true →
    s.gv.epochGrants = [(id, x)] → s.gv.ep id = some e → look s.gv.heard id = some a → s.gn.rackKey.cur = some k →
    s.canSend = true → s.gv.resend s.clk.now e x = true → Completes .grantRelease s (fun t =>
      t.gv.epochGrants = [] ∧ t.gn.seq = (s.gn.seq + 1) % 2 ^ 32 ∧ (∃ b, Puts s t (.datagram { dst := a.1, dport := a.2 } b)) ∧
      ∀ y ∈ t.gv.eps, y.id = id → y.cap = x.cap ∧ y.floor = x.floor ∧ y.pace = x.pace ∧ y.reason = x.reason ∧
        y.sent = some (x, s.clk.now))) ∧
  (∀ (s : State), s.isLead = true → s.gv.know = 2 → s.rc.gov = true → Completes .calFitUpdate s (fun t =>
    t.gv.eps.map (·.gainDev) = s.gv.eps.map (fun e => clampI (-(2 ^ Config.calFracBits / 2)) (2 ^ Config.calFracBits)
      (e.gainDev + e.dg)) ∧ (∀ e ∈ t.gv.eps, e.dg = 0 ∧ e.dO = 0) ∧ t.gv.eps.map (·.id) = s.gv.eps.map (·.id)))

/-- R219, R223, R225, R231, R263: expiries of the governor: a request not adopted, its repeat, the end of a budget, a stale or
silent endpoint, and a barrier. -/
def Obligations.GovernorExpiriesComplete : Prop :=
  (∀ (s : State) (o : OwnReq) (h : CmdHdr) (req : Nat), s.gv.own.find? (fun o => o.req.id == req) = some o →
    o.adopted = false → o.hdr = some h → Completes (.budgetTimeout req) s (fun t => Answered s t h stTimeout 0 ∧
      t.gv.own = s.gv.own.filter (fun o => o.req.id != req) ∧ t.gv.budgetMw = s.gv.budgetMw ∧
      ∀ x ∈ t.gn.queue ++ t.gv.inputs, ¬ (x.typ = 5 ∧ x.msg.sender = o.req.sender ∧ x.msg.body = o.req.body))) ∧
  (∀ (s : State) (o : OwnReq) (req : Nat), s.gv.own.find? (fun o => o.req.id == req) = some o → o.adopted = true →
    Completes (.budgetTimeout req) s (fun t => t = s) ∧ Completes (.budgetReqRepeat req) s (fun t => t = s)) ∧
  (∀ (s : State) (o : OwnReq) (req : Nat), s.gv.own.find? (fun o => o.req.id == req) = some o → o.adopted = false →
    s.rc.gov = true →
    (s.gv.role ≠ 2 → s.canSend = true → Completes (.budgetReqRepeat req) s (fun t => t.gv = s.gv ∧
      t.gn.seq = (s.gn.seq + 1) % 2 ^ 32 ∧ ∃ d b, d.dport = 49870 ∧ Puts s t (.datagram d b))) ∧
    (s.isLead = true → s.gn.queue.length < 4096 → Completes (.budgetReqRepeat req) s (fun t => t.gv = s.gv ∧ t.out = s.out ∧
      t.gn.queue = s.gn.queue ++ [{ typ := 5, msg := s.ownMsg o.req, at_ := s.clk.now, ptpAt := s.clk.ptp }]))) ∧
  (∀ (s : State), s.gv.newBudget ≠ none → Completes .budgetExpiry s (fun t => t = s)) ∧
  (∀ (s : State), s.isLead = true → s.gv.hostAbsent = false → s.gv.newBudget = none → s.rc.gov = true →
    Completes .budgetExpiry s (fun t => t.gv.hostAbsent = true ∧ t.gv.budgetMw = s.gv.budgetMw ∧
      ∀ p ∈ s.gv.pend, p.state = 1 → p.req.kind = 0 → ∀ q ∈ t.gv.pend, q.req = p.req → q.state = 6)) ∧
  (∀ (s : State) (k : Nat), s.isLead = true → s.rc.gov = true → Completes (.endpointStale k) s (fun t =>
    t.gv = { s.gv with eps := s.gv.eps.map (fun e => if e.id = k then { e with stale := true } else e) })) ∧
  (∀ (s : State) (k : Nat) (e : Endpoint), s.isLead = true → s.rc.gov = true → s.gv.ep k = some e →
    Completes (.endpointDeregister k) s (fun t => (∀ x ∈ t.gv.eps, x.id ≠ k) ∧
      t.gv.eps.map (·.id) = (s.gv.eps.filter (fun x => x.id != k)).map (·.id) ∧
      t.ev.ring.getLast?.map (·.code) = some 0x0706 ∧
      ((∀ x ∈ s.gv.eps, x.id = k → x.thr = none) → Newest s t 0x0706 0 kEndpoint k (leBytes 1 1)))) ∧
  (∀ (s : State) (tag : Nat) (o : Barrier) (arr : List (Nat × Int × Int)), s.isLead = true → s.rc.gov = true →
    s.gv.barriers.find? (fun b => b.tag == tag) = some o →
    arr = o.arrived.filter (fun a => (s.gv.ep a.1).isSome) → arr ≠ [] → Completes (.barrierTimeout tag) s (fun t =>
      (∀ b ∈ t.gv.barriers, b.tag ≠ tag) ∧
      ∀ late, late = arr.map (fun a => (a.1, divFloor (a.2.1 - minI (arr.map (·.2.1)) 0) 1000)) →
        t.gv.eps.map (fun e => (e.id, e.lbar)) = s.gv.eps.map (fun e => (e.id,
          ((e.lbar : Int) + divFloor ((look late e.id).getD (maxI (late.map (·.2)) 0) - e.lbar) 8).toNat)))) ∧
  (∀ (s : State) (k : Nat), s.isLead = false → ∀ c ∈ [Instr.budgetExpiry, .endpointStale k, .endpointDeregister k,
    .barrierTimeout k, .grantRelease, .calFitUpdate], Completes c s (fun t => t = s))

/-- R224, R231, R260, R263 to R267: a Gulene message that passes the checks joins the receive queue; one that fails a check is
counted; the drain empties the queue and takes each message. A host RESET_REQUEST acts at receipt. -/
def Obligations.GuleneReceiptCompletes : Prop :=
  (∀ (s : State) (m : GnMsg) (c : Instr) (typ : Nat), (c, typ) ∈ [(Instr.wick m, 1), (.report m, 2), (.lantern m, 4),
      (.budget m, 5), (.electReceived m, 6), (.shareReceived m, 7)] ∨ (c, typ) = (.alert m, 8) ∧ u m.body 0 1 ≠ 2 →
    ((s.gnCheck typ m).2 = true → s.gn.queue.length < 4096 → Completes c s (fun t =>
      t.gn.queue = s.gn.queue ++ [{ typ := typ, msg := m, at_ := s.clk.now, ptpAt := s.clk.ptp }] ∧
      t.gn.rxOk = (s.gn.rxOk + 1) % 2 ^ 32 ∧ t.gv = s.gv ∧ t.pl = s.pl ∧ t.pf = s.pf)) ∧
    ((s.gnCheck typ m).2 = true → s.gn.queue.length = 4096 → Completes c s (fun t =>
      t.gn.queue = s.gn.queue ∧ t.gn.rateCnt = satInc 16 s.gn.rateCnt ∧ t.gv = s.gv)) ∧
    (s.rc.on 3 = false → Completes c s (fun t => t = s)) ∧
    (s.rc.on 3 = true → senderOk typ m.sender = false ∨ bodyFits typ m.sender m.body = false → Completes c s (fun t =>
      t = { s with gn := { s.gn with malformed := satInc 16 s.gn.malformed } })) ∧
    (s.rc.on 3 = true → senderOk typ m.sender = true → bodyFits typ m.sender m.body = true → s.rackId ≠ 0 → m.rack = s.rackId →
      (∀ k, s.keyFor typ m = some k → m.tag ≠ msgTag k.key typ m) → Completes c s (fun t =>
        t = { s with gn := { s.gn with authFail := satInc 16 s.gn.authFail } })) ∧
    (∀ k, s.rc.on 3 = true → senderOk typ m.sender = true → bodyFits typ m.sender m.body = true → s.rackId ≠ 0 → m.rack = s.rackId →
      s.keyFor typ m = some k → m.tag = msgTag k.key typ m → s.msgFresh m = false → Completes c s (fun t =>
        t = { s with gn := { s.gn with replayCnt := satInc 16 s.gn.replayCnt } }))) ∧
  (∀ (s : State) (m : GnMsg), (s.gnCheck 8 m).2 = true → u m.body 0 1 = 2 → s.resetRequested m = true →
    s.rc.power = .run ∨ s.rc.power = .quiet → u m.body 1 1 = 0 → s.rc.absorbs 5 0 = false →
    Completes (.alert m) s (fun t => ColdLost t ∧ t.rc.lastSource = 5 ∧ t.rc.lastScope = 0 ∧
      t.rc.resets = (s.rc.resets + 1) % 65536)) ∧
  (∀ (s : State), Completes .grantReceived s (fun t =>
    t = { s with gn := { s.gn with malformed := satInc 16 s.gn.malformed } })) ∧
  (∀ (s : State), s.rc.gov = true → Completes .guleneDrain s (fun t => t.gn.queue = [] ∧ t.gn.rxOk = s.gn.rxOk)) ∧
  (∀ (s : State) (q : GnIn), s.rc.gov = true → s.gn.queue = [q] → s.gv.atEpochs = false →
    (∀ e, q.typ = 2 → u q.msg.body 0 1 = 0 → s.gv.ep q.msg.sender = some e → s.isLead = false →
      Completes .guleneDrain s (fun t => t.gv.heard = putKey s.gv.heard q.msg.sender (q.msg.src, q.msg.sport) ∧
        (∀ x ∈ t.gv.eps, x.id = q.msg.sender → x.raw = i q.msg.body 4 4) ∧ t.gv.budgetMw = s.gv.budgetMw)) ∧
    (q.typ = 5 → u q.msg.body 0 1 = 0 → s.isLead = true → reqOk (reqOf q.msg) = true →
      (q.msg.sender, (reqOf q.msg).id) ∉ s.gv.seen → s.gv.pend = [] → Completes .guleneDrain s (fun t =>
        t.gv.newBudget = some ((reqOf q.msg).w, (reqOf q.msg).ms) ∧
        t.gv.pend = [{ req := reqOf q.msg, state := 1, due := 0, finalAt := 0 }])) ∧
    (q.typ = 1 → u q.msg.body 0 1 = 0 → s.rc.profile = true → s.clk.ptp < i q.msg.body 0x10 8 →
      Completes .guleneDrain s (fun t => t.pf.waiting = insertBy (fun a b => decide (a.at_ < b.at_))
        ⟨u q.msg.body 1 1, i q.msg.body 0x10 8, i q.msg.body 4 4, u q.msg.body 8 4⟩ s.pf.waiting)) ∧
    (q.typ = 6 → u q.msg.body 4 1 < s.gv.shelf → s.isLead = false → Completes .guleneDrain s (fun t =>
      t.gv.claim = none ∧ t.gv.maxEpoch = max s.gv.maxEpoch (u q.msg.body 0 4)))) ∧
  (∀ (s : State), s.rc.gov = false → Completes .guleneDrain s (fun t => t = s))

/-- R251, R259 to R261, R266, R269: token buckets, replay records, key switches and the groups of the current key, isolation,
malformed datagrams. Every key that has been switched away stays accepted until its own 60 s are over: the oldest goes first. -/
def Obligations.GuleneUpkeepCompletes : Prop :=
  (∀ (s : State), Completes .bucketRefill s (fun t => t.gn.buckets = s.gn.buckets.filterMap Bucket.refill ∧
    (s.gn.msTick < 999 → t.gn = { s.gn with buckets := t.gn.buckets, msTick := s.gn.msTick + 1 }) ∧
    (999 ≤ s.gn.msTick → t.gn = { s.gn with buckets := t.gn.buckets, msTick := 0, wickLast := s.gn.wickNow
                                            wickNow := 0 }))) ∧
  (∀ (s : State) (rack sender : Nat), Completes (.replayRecordExpiry rack sender) s (fun t =>
    (∀ r ∈ t.gn.replay, ¬ (r.rack = rack ∧ r.sender = sender)) ∧
    ∀ r ∈ s.gn.replay, ¬ (r.rack = rack ∧ r.sender = sender) → r ∈ t.gn.replay)) ∧
  (∀ (s : State) (row : Bool) (k : Key), (s.gn.role row).next = some k → Completes (.keyActivate row) s (fun t =>
    t.gn.role row = { cur := some k, next := none, old := (s.gn.role row).cur.toList ++ (s.gn.role row).old } ∧
    t.gn.role (!row) = s.gn.role (!row) ∧ t.gn.joined = t.groupsWanted ∧
    ∀ a ∈ t.gn.joined, a ∉ s.gn.joined → Puts s t (.net 5 a))) ∧
  (∀ (s : State) (row : Bool), (s.gn.role row).next = none → Completes (.keyActivate row) s (fun t =>
    (∀ r, t.gn.role r = s.gn.role r) ∧ (s.gn.joined = s.groupsWanted → t = s))) ∧
  (∀ (s : State) (row : Bool), Completes (.oldKeyExpiry row) s (fun t =>
    t.gn.role row = { (s.gn.role row) with old := (s.gn.role row).old.dropLast } ∧ t.gn.role (!row) = s.gn.role (!row))) ∧
  (∀ (s : State), s.gn.mode = 0 ∨ 1 < s.gv.shelves →
    (s.gn.isolated = true → Completes .isolated s (fun t => t = s)) ∧
    (s.gn.isolated = false → s.gv.snuffOut = false → Completes .isolated s (fun t => t.gn = { s.gn with isolated := true } ∧
      t.gv.role = 0 ∧ t.gv.leadShelf = none ∧ t.gv.claim = none ∧ t.gv.peers = [] ∧ t.gv.budgetMw = s.gv.budgetMw ∧
      (s.isLead = false ∨ (∀ x ∈ s.gv.eps, x.thr = none) → Newest s t 0x0D02 1 kNone 0 (leBytes 1 1)))) ∧
    (s.gn.isolated = false → s.isLead = true → s.gv.snuffOut = true → Completes .isolated s (fun t =>
      t.gn.isolated = true ∧ t.gv.role = 0 ∧ t.gv.snuffOut = false ∧ Puts s t (.pin "SNUFF_N" true) ∧
      (s.canSend = true → ∃ d b, d.dport = 49870 ∧ Puts s t (.datagram d b))))) ∧
  (∀ (s : State), s.gn.mode ≠ 0 → s.gv.shelves ≤ 1 → Completes .isolated s (fun t => t = s)) ∧
  (∀ (s : State), Completes .malformedDatagram s (fun t =>
    t = { s with gn := { s.gn with malformed := satInc 16 s.gn.malformed } }))

/-- R248, R249, R251, R269: the link, failed negotiation, address resolution and DHCP. The link takes the highest mode of Table
10-1 that the partner offers too, 1 being the highest; without one it is down, and all four modes are offered again. -/
def Obligations.EthernetPortCompletes : Prop :=
  (∀ (s : State) (offer : List Nat), s.rc.ethOn = false →
    Completes (.ethernetLink offer) s (fun t => t = s) ∧ Completes .negFail s (fun t => t = s)) ∧
  (∀ (s : State) (offer : List Nat) (mode : Nat), s.rc.ethOn = true → 1 ≤ mode → mode ≤ 4 → mode ∈ offer →
    (∀ m ∈ offer, 1 ≤ m → mode ≤ m) → Completes (.ethernetLink offer) s (fun t =>
    t.gn.mode = mode ∧ t.gn.negFailed = false ∧ t.gn.joined = t.groupsWanted ∧ Puts s t (.net 3 s.gn.linkLocal) ∧
    Puts s t (.net 4 s.gn.mac) ∧ (1 < s.gv.shelves → t.gn.isolated = s.gn.isolated ∧ t.ev = s.ev) ∧
    (s.gv.shelves ≤ 1 → t.gn.isolated = false ∧ (s.gn.isolated = false → t.ev = s.ev) ∧
      (s.gn.isolated = true → Newest s t 0x0D02 1 kNone 0 (leBytes 1 0))))) ∧
  (∀ (s : State) (offer : List Nat), s.rc.ethOn = true → (∀ m, 1 ≤ m → m ≤ 4 → m ∉ offer) →
    Completes (.ethernetLink offer) s (fun t => t.gn.mode = 0 ∧ t.gn.isolated = true ∧ t.gn.joined = [] ∧
      Puts s t (.autoneg [1, 2, 3, 4] Config.hyewardOui) ∧
      (s.gn.isolated = false → t.gv.role = 0 ∧ t.gv.peers = [] ∧
        (s.isLead = false → Newest s t 0x0D02 1 kNone 0 (leBytes 1 1))))) ∧
  (∀ (s : State), s.rc.ethOn = true → s.gn.mode = 0 →
    (s.gn.negFailed = false → Completes .negFail s (fun t => t.gn = { s.gn with negFailed := true } ∧
      Newest s t 0x0D01 1 kLink 0 [] ∧ Puts s t (.autoneg [1, 2, 3, 4] Config.hyewardOui))) ∧
    (s.gn.negFailed = true → Completes .negFail s (fun t => t = s.emit (.autoneg [1, 2, 3, 4] Config.hyewardOui)))) ∧
  (∀ (s : State), s.gn.mode ≠ 0 → Completes .negFail s (fun t => t = s)) ∧
  (∀ (s : State) (a : Nat),
    (s.gn.own a = true → Completes (.neighbourDiscovery (.solicit a)) s (fun t => t = s.emit (.net 0 a)) ∧
      Completes (.neighbourDiscovery (.echo a)) s (fun t => t = s.emit (.net 2 a))) ∧
    (s.gn.own a = false → Completes (.neighbourDiscovery (.solicit a)) s (fun t => t = s) ∧
      Completes (.neighbourDiscovery (.echo a)) s (fun t => t = s)) ∧
    (s.gn.ipv4 = some a → Completes (.neighbourDiscovery (.arp a)) s (fun t => t = s.emit (.net 1 a))) ∧
    (s.gn.ipv4 ≠ some a → Completes (.neighbourDiscovery (.arp a)) s (fun t => t = s)) ∧
    Completes (.neighbourDiscovery (.router a)) s (fun t =>
      t = { s with gn := { s.gn with ipv6 := some (a % 2 ^ 64 * 2 ^ 64 + eui64 s.gn.mac) } }) ∧
    Completes (.dhcpReply a) s (fun t => t = { s with gn := { s.gn with ipv4 := some (a % 2 ^ 32) } }))

/-- R235, R254 to R256: PTP. A Sync counts from the time transmitter selected, in the domain, at an interval of R254. The timer
after a Sync, and its frequency, are free values: the law of the steering is not stated. -/
def Obligations.PtpCompletes : Prop :=
  (∀ (s : State) (source : Nat) (interval : Int) (via : PtpTransport) (a : Announced) (origin off : Int),
    s.gn.transmitter = false → s.gn.better = some a → a.identity = source → -7 ≤ interval → interval ≤ 0 →
    off = s.clk.ptp - origin - s.gn.pathDelay → Completes (.ptpSync ⟨s.gn.domain, source, interval, via⟩ origin) s (fun t =>
      t.gn.offset = satI 32 off ∧ Puts s t (.ptp 1 via s.clk.ptp) ∧ t.gn.reqT3 = some s.clk.ptp ∧ t.gn.syncT1 = origin ∧
      t.gn.syncT2 = s.clk.ptp ∧ (s.clk.ptpState ≠ .lock → absI off ≤ 100 → 7 ≤ s.gn.goodSync → t.clk.ptpState = .lock) ∧
      (s.clk.ptpState ≠ .lock → s.gn.goodSync < 7 ∨ 100 < absI off → t.clk.ptpState = s.clk.ptpState) ∧
      (s.clk.ptpState = .lock → 1000 < absI off → 1 ≤ s.gn.badSync → t.clk.ptpState = .holdover) ∧
      (s.clk.ptpState = .lock → absI off ≤ 1000 ∨ s.gn.badSync = 0 → t.clk.ptpState = .lock))) ∧
  (∀ (s : State) (domain source : Nat) (interval : Int) (via : PtpTransport) (origin : Int),
    domain ≠ s.gn.domain ∨ s.gn.transmitter = true ∨ (∀ a, s.gn.better = some a → a.identity ≠ source) ∨ interval < -7 ∨
      0 < interval → Completes (.ptpSync ⟨domain, source, interval, via⟩ origin) s (fun t => t = s)) ∧
  (∀ (s : State), Completes .ptpSyncTimeout s (fun t => t.gn.goodSync = 0 ∧ t.gn.better = none ∧
    t.gn.transmitter = s.gn.rackSource ∧ t.clk.ptp = s.clk.ptp ∧
    t.clk.ptpState = (if s.clk.ptpState = .lock then .holdover else s.clk.ptpState) ∧
    (s.clk.ptpState = .lock → s.gv.timing = 1 → s.isLead = true →
      t.gv.detSusp = true ∧ t.ev.ring.getLast?.map (·.code) = some 0x0707))) ∧
  (∀ (s : State), s.gn.transmitter = true →
    Completes .ptpSyncSend s (fun t => Puts s t (.ptp 0 .ethernet s.clk.ptp) ∧
      (s.gn.announceCnt = 0 → Puts s t (.announce s.gn.domain s.ownClock)) ∧
      t.gn = { s.gn with announceCnt := (s.gn.announceCnt + 1) % 32 }) ∧
    Completes .delayReq s (fun t => t = s.emit (.ptp 9 .ethernet s.clk.ptp))) ∧
  (∀ (s : State), s.gn.transmitter = false →
    Completes .ptpSyncSend s (fun t => t = s) ∧ Completes .delayReq s (fun t => t = s)) ∧
  (∀ (s : State) (received t3 : Int), s.gn.reqT3 = some t3 → Completes (.delayResp received) s (fun t =>
    t = { s with gn := { s.gn with pathDelay := divRne ((s.gn.syncT2 - s.gn.syncT1) + (received - t3)) 2
                                   reqT3 := none } })) ∧
  (∀ (s : State) (a : Announced), a.domain = s.gn.domain → s.gn.better = none → Completes (.announce a) s (fun t =>
    (s.gn.rackSource = false → t.gn.better = some a ∧ t.gn.transmitter = false) ∧
    (s.gn.rackSource = true → Announced.before (announcedKey a) s.ownClock = true →
      t.gn.better = some a ∧ t.gn.transmitter = false) ∧
    (s.gn.rackSource = true → Announced.before (announcedKey a) s.ownClock = false →
      t.gn.better = none ∧ t.gn.transmitter = true))) ∧
  (∀ (s : State) (a : Announced), a.domain ≠ s.gn.domain → Completes (.announce a) s (fun t => t = s))

/-- R9, R272 to R277, R280, R286: the tether's training and frames, and the decision of the role. A module beside a partner of other
capability sizes takes no standby role. The tether is trained once both ends have block lock. A tether period is 25 blocks: TETHER_FAST, then the next chunk of the copy under way from
the active, else IDLE. The two numbers of CAPS_MISMATCH are 4 bytes each (the model's choice, assumption 90). -/
def Obligations.TetherFramesComplete : Prop :=
  (∀ (s : State), s.role = .starting → Completes .roleDecision s (fun t =>
    (s.teth.trained = false ∨ s.teth.seen = false → t.role = .active) ∧
    (s.teth.trained = true → s.teth.seen = true → s.teth.partnerRole = 1 →
      t.role = if s.teth.capsMismatch then .offline else .standby) ∧
    (s.teth.trained = true → s.teth.seen = true → s.teth.partnerRole = 0 →
      t.role = if !s.teth.slotB then .active else if s.teth.capsMismatch then .offline else .standby) ∧
    (s.teth.trained = true → s.teth.seen = true → s.teth.partnerRole ≠ 0 → s.teth.partnerRole ≠ 1 → t.role = .active) ∧
    (t.role = .active → t.teth = { s.teth with epoch := s.chooseEpoch, bkEpoch := s.chooseEpoch }) ∧
    (t.role ≠ .active → t.teth = s.teth))) ∧
  (∀ (s : State), s.role ≠ .starting → Completes .roleDecision s (fun t => t = s)) ∧
  (∀ (s : State) (hdr : Nat) (heads trips : List Nat) (serial : Bytes), s.rc.tetherOn = false →
    Completes (.tetherTrain hdr heads trips serial) s (fun t => t = s)) ∧
  (∀ (s : State) (hdr : Nat) (heads trips : List Nat) (serial : Bytes), s.rc.tetherOn = true →
    gainsLock heads = false ∨ bitAt hdr 9 = false →
    Completes (.tetherTrain hdr heads trips serial) s (fun t => t = s.emit (.tetherTrain (s.tetherTrainHeader (gainsLock heads))))) ∧
  (∀ (s : State) (hdr ports slots : Nat) (heads trips : List Nat) (serial : Bytes), s.rc.tetherOn = true →
    gainsLock heads = true → bitAt hdr 9 = true → ports = bits hdr 31 24 →
    slots = bits hdr 39 32 → Completes (.tetherTrain hdr heads trips serial) s (fun t =>
    Puts s t (.tetherTrain (s.tetherTrainHeader true)) ∧ bits (s.tetherTrainHeader true) 31 24 = s.part.ports ∧
    bits (s.tetherTrainHeader true) 39 32 = s.part.slots ∧ t.teth.trained = true ∧ t.teth.seen = false ∧
    t.teth.partnerPorts = ports ∧ t.teth.partnerSlots = slots ∧ t.teth.delay = trips.sum / (2 * trips.length) % 400 ∧
    t.teth.partnerSerial = padTo 16 serial ∧
    (ports = s.part.ports → slots = s.part.slots → t.teth.capsMismatch = false ∧ t.ev = s.ev) ∧
    (ports ≠ s.part.ports ∨ slots ≠ s.part.slots → t.teth.capsMismatch = true ∧
      Newest s t 0x0104 1 kNone 0 (leBytes 4 ports ++ leBytes 4 slots)))) ∧
  (∀ (s : State) (crc : Nat) (fast : List Block), s.teth.trained = true → s.rc.tetherOn = true →
    crc = fastCrcOf 0x99 s.tetherHeader s.tetherPayload → fast = fastBlocks 0x99 s.tetherHeader s.tetherPayload crc →
    Completes .tetherFastSend s (fun t => Puts s t (.tetherFast s.tetherHeader s.tetherPayload crc) ∧
      t.teth.chunks = s.teth.chunks.drop 1 ∧
      (s.teth.hand = .copying → s.teth.chunks.length ≤ 1 → t.teth.hand = .offered s.teth.epoch) ∧
      (s.teth.hand ≠ .copying ∨ 1 < s.teth.chunks.length → t.teth.hand = s.teth.hand) ∧
      ∃ l, Puts s t (.tetherLine l) ∧ l.length = 25 ∧
        (∀ c r, s.role = .active → s.teth.chunks = c :: r →
          l = (scrambleBlocks s.teth.hist (fast ++ bulkBlocks c.1 c.2 (bulkCrcOf c.1 c.2))).1) ∧
        (s.role ≠ .active ∨ s.teth.chunks = [] →
          l = (scrambleBlocks s.teth.hist (fast ++ List.replicate 21 idleBlock)).1))) ∧
  (∀ (s : State), s.teth.trained = false ∨ s.rc.tetherOn = false → Completes .tetherFastSend s (fun t => t = s)) ∧
  (∀ (s : State) (f : Option FastFrame) (e : Int), s.teth.trained = false →
    Completes (.tetherFast f e) s (fun t => t = s)) ∧
  (∀ (s : State) (f : Option FastFrame) (e : Int), s.teth.trained = true →
    (∀ g, f = some g → goodFast 0x99 g = false) → Completes (.tetherFast f e) s (fun t =>
      (s.teth.sinceHb % 2 = 0 → t.teth = { s.teth with sinceHb := s.teth.sinceHb + 1 }) ∧
      (s.teth.sinceHb % 2 = 1 → t.teth = { s.teth with
        sinceHb := s.teth.sinceHb + 1, missRun := s.teth.missRun + 1, missedHb := satInc 16 s.teth.missedHb, hbRun := 0 }))) ∧
  (∀ (s : State) (f : FastFrame) (e : Int), s.teth.trained = true → goodFast 0x99 f = true → s.teth.hand = .none →
    Completes (.tetherFast (some f) e) s (fun t => t.teth.seen = true ∧ t.teth.partnerEpoch = bits f.hdr 39 24 ∧
      t.teth.partnerRole = bits f.hdr 22 21 ∧ t.teth.partnerArmed = bitAt f.hdr 18 ∧
      t.teth.partnerReady = bits (u f.payload 0x0C 4) 20 16 ∧ t.teth.partnerHand = bitAt f.hdr 19 ∧ t.teth.alignErr = satI 8 e ∧
      (bitAt f.hdr 23 = true → t.teth.lost = false ∧ t.teth.missRun = 0 ∧ t.teth.sinceHb = 0 ∧ 7 ∉ t.ev.causes ∧
        t.teth.hbRun = if bits f.hdr 22 21 = 1 then min (s.teth.hbRun + 1) 16 else 0) ∧
      (s.role = .standby → bits f.hdr 22 21 = 1 → bitAt f.hdr 19 = false →
        t.role = .standby ∧ t.le.frame = u f.payload 0 8 ∧ t.sh.target = i f.payload 8 4 ∧
        t.sh.slew = u f.payload 0x0C 4 % 2 ^ 10) ∧
      (s.role = .standby → bits f.hdr 22 21 = 1 → bitAt f.hdr 19 = true → s.copyFresh = true → s.teth.copyWhole = true →
        t.role = .active ∧ t.teth.hand = .taken t.teth.epoch ∧ t.teth.lastCause = 2) ∧
      (s.role = .offline → bitAt f.hdr 23 = true → bits f.hdr 22 21 = 1 → bitAt f.hdr 19 = false →
        t.role = if s.teth.capsMismatch then .offline else .standby) ∧
      (s.role = .active → t.role = .active ∧ t.le.frame = s.le.frame ∧ t.sh.target = s.sh.target ∧
        (t.teth.hand = .copyDue ↔ bitAt f.hdr 19 = true ∧ bits f.hdr 22 21 = 2 ∧ bitAt f.hdr 18 = true) ∧
        (t.teth.hand = .copyDue → t.teth.failed = []))))

/-- R141, R277, R278, R280, R281, Table 11-4: PARTNER_LOST, its replacement request, and the state copies, by TETHER_BULK frame. -/
def Obligations.PartnerAndCopiesComplete : Prop :=
  (∀ (s : State), s.teth.seen = true → s.teth.lost = false → Completes .partnerLost s (fun t =>
    t.teth.lost = true ∧ t.teth.lostFlag = true ∧ t.teth.losses = satInc 8 s.teth.losses ∧
    (s.role = .standby → s.isArmed = true → t.role = .active ∧ t.teth.epoch = s.chooseEpoch ∧ t.teth.lastCause = 1 ∧
      t.teth.armed = false ∧ t.le = { s.le with slots := s.le.slots.map Slot.markTakeover } ∧
      (WellShaped s → ∀ p ∈ s.trainedPorts, (t.port p).holdShort = (s.teth.trained && decide ((s.port p).holdUs < 20))) ∧
      ((∀ p ∈ s.trainedPorts, 20 ≤ (s.port p).holdUs) → Newest s t 0x0C01 1 kNone 0 (leBytes 1 1))) ∧
    (s.role ≠ .standby ∨ s.isArmed = false → t.role = s.role ∧ t.le = s.le ∧ t.teth.epoch = s.teth.epoch ∧
      Newest s t 0x0C01 1 kNone 0 (leBytes 1 0)))) ∧
  (∀ (s : State), s.teth.seen = false ∨ s.teth.lost = true → Completes .partnerLost s (fun t => t = s)) ∧
  (∀ (s : State), s.teth.lost = true ∨ s.teth.seen = false → Completes .partnerReplace s (fun t =>
    7 ∈ t.ev.causes ∧ (7 ∈ s.ev.causes → t = s))) ∧
  (∀ (s : State), s.teth.lost = false → s.teth.seen = true → Completes .partnerReplace s (fun t => t = s)) ∧
  (∀ (s : State), s.role = .active → s.teth.trained = true → Completes .stateCopySend s (fun t =>
    Puts s t (.tetherCopy ((s.teth.copySeq + 1) % 2 ^ 16) s.se.copyFormat s.makeCopy) ∧
    t.teth.copySeq = (s.teth.copySeq + 1) % 2 ^ 16 ∧ t.teth.copyAt = some s.clk.now ∧
    t.teth.chunks = bulkChunks t.teth.copySeq s.se.copyFormat (Config.copyBytes s.makeCopy) ∧
    t.teth.hand = if s.teth.hand = .copyDue then .copying else s.teth.hand)) ∧
  (∀ (s : State), s.role ≠ .active ∨ s.teth.trained = false → Completes .stateCopySend s (fun t => t = s)) ∧
  (∀ (s : State) (f : BulkFrame) (c : Option StateCopy), s.role ≠ .standby ∨ s.teth.trained = false →
    Completes (.tetherBulk f.syncs f.type f.hdr f.data f.crc c) s (fun t => t = s)) ∧
  (∀ (s : State) (f : BulkFrame) (c : Option StateCopy), s.role = .standby → s.teth.trained = true →
    (goodBulk f = false → Completes (.tetherBulk f.syncs f.type f.hdr f.data f.crc c) s (fun t =>
      t.teth = { s.teth with bulkCrc := satInc 8 s.teth.bulkCrc, rxGood := false, copyWhole := false } ∧
      t.pl = s.pl ∧ t.gv = s.gv)) ∧
    (goodBulk f = true → bits f.hdr 23 12 = 0 → bitAt f.hdr 11 = false → Completes (.tetherBulk f.syncs f.type f.hdr f.data f.crc c) s (fun t =>
      t.teth = { s.teth with rxSeq := bits f.hdr 39 24, rxNext := 1, rxGood := true, copyWhole := false } ∧
      t.pl = s.pl ∧ t.gv = s.gv)) ∧
    (goodBulk f = true → bits f.hdr 23 12 ≠ 0 →
      s.teth.rxGood = false ∨ s.teth.rxSeq ≠ bits f.hdr 39 24 ∨ s.teth.rxNext ≠ bits f.hdr 23 12 →
      Completes (.tetherBulk f.syncs f.type f.hdr f.data f.crc c) s (fun t => t.teth = { s.teth with
        rxSeq := bits f.hdr 39 24, rxNext := bits f.hdr 23 12 + 1, rxGood := false, copyWhole := false } ∧
        t.pl = s.pl ∧ t.gv = s.gv))) ∧
  (∀ (s : State) (f : BulkFrame) (c : StateCopy), WellShaped s → s.role = .standby → s.teth.trained = true →
    goodBulk f = true → bitAt f.hdr 11 = true → bits f.hdr 23 12 = 0 ∨ (s.teth.rxGood = true ∧
      s.teth.rxSeq = bits f.hdr 39 24 ∧ s.teth.rxNext = bits f.hdr 23 12) →
    (bits f.hdr 7 0 ≠ s.se.copyFormat → Completes (.tetherBulk f.syncs f.type f.hdr f.data f.crc (some c)) s (fun t =>
      t.teth.formatMismatch = true ∧ t.pl = s.pl ∧ t.gv = s.gv ∧ t.ports = s.ports)) ∧
    (bits f.hdr 7 0 = s.se.copyFormat → s.teth.partnerHand = false → Completes (.tetherBulk f.syncs f.type f.hdr f.data f.crc (some c)) s (fun t =>
      t.role = .standby ∧ t.teth.copySeq = bits f.hdr 39 24 ∧ t.teth.copyAt = some s.clk.now ∧
      t.teth.appliedAt = some s.clk.now ∧ t.teth.copyWhole = true ∧ t.teth.formatMismatch = false ∧
      (∀ p, p < 80 → (t.port p).retired = (look c.retired p).isSome ∧ (t.port p).copyFailed = c.failed.contains p) ∧
      t.rc.retiredBk = c.retired.map Prod.fst ∧ t.pl.mode = c.pl.mode ∧ t.pl.lim = c.pl.lim ∧ t.pl.g = c.pl.g ∧
      t.gv.leadEpoch = c.gv.leadEpoch ∧ t.gv.budgetMw = c.gv.budgetMw ∧ t.gv.timing = c.gv.timing ∧
      t.gv.eps.map (·.id) = c.gv.eps.map (·.id) ∧ t.gv.snuffOut = c.gv.snuffOut)))

/-- R299 to R302, R313 to R320: the Crucible's samples, trigger and freeze; the flushes of the event recorder and the end of a log
erase. -/
def Obligations.CaptureAndFlushComplete : Prop :=
  (∀ (s : State), s.cr.sampledF = some s.le.frame → Completes .captureSample s (fun t => t = s)) ∧
  (∀ (s : State), s.cr.sampledF ≠ some s.le.frame → s.cr.state = .idle → Completes .captureSample s (fun t =>
    t.cr = { s.cr with sampledF := some s.le.frame, seen := 0, chans := s.cr.chans.map (fun c => { c with nowN := 0 }) } ∧
    t.sh = { s.sh with ladderSeen := 0 })) ∧
  (∀ (s : State) (c : CrChan) (v : Int), s.cr.sampledF ≠ some s.le.frame → s.cr.state = .armed → s.cr.chans = [c] →
    c.ctype = 2 → c.due s.cr.f0 s.le.frame = true → c.left = none → c.len ≠ 0 → s.cr.trig.sources = 0 →
    v = clampI (-32767) 32767 (roundHalfEven (s.slot c.index).out c.shift) → Completes .captureSample s (fun t =>
      t.cr.state = .armed ∧ t.cr.chans = [{ c with wr := c.wr + 1, nowN := 1, last := some v }] ∧
      t.cr.ring = Mem.writeN 0 s.cr.ring (c.base + 2 * (c.wr % c.len)) (leBytesI 2 v) ∧ t.sh.ladderSeen = 0)) ∧
  (∀ (s : State), s.cr.sampledF ≠ some s.le.frame → s.cr.state = .armed → s.gv.sense = true →
    bitAt s.cr.trig.sources 2 = true → Completes .captureSample s (fun t =>
      t.cr.state = .triggered ∧ t.cr.trigF = s.le.frame)) ∧
  (∀ (s : State), s.cr.state = .triggered → s.cr.stopped = true → Completes .captureFrozen s (fun t =>
    t.cr = { s.cr with state := .frozen } ∧ Newest s t 0x0801 1 kNone 0 (leBytes 1 s.cr.trigSrc))) ∧
  (∀ (s : State), s.cr.state ≠ .triggered ∨ s.cr.stopped = false → Completes .captureFrozen s (fun t => t = s)) ∧
  (∀ (s : State), s.ev.flushDue = true → s.ev.flushing = false → s.ev.clearing = false →
    Completes .flush s (fun t => t = { s with ev := { s.ev with
      flushing := true, flushDue := false, flushCount := s.ev.unflushed, flushNo := s.ev.flushNo + 1 } })) ∧
  (∀ (s : State), s.ev.flushDue = false ∨ s.ev.flushing = true ∨ s.ev.clearing = true →
    Completes .flush s (fun t => t = s)) ∧
  (∀ (s : State), s.ev.flushing = true → s.ev.clearing = false → s.ev.clearedRec = none → s.ev.logFull = false → s.ev.dropped < 2 ^ 32 →
    s.ev.log.length + s.ev.flushList.length < 262143 → Completes .flushEnd s (fun t =>
      t.ev.log = s.ev.log ++ s.ev.flushList.map LogSlot.whole ∧ t.ev.dropped = s.ev.dropped ∧
      t.ev.unflushed = s.ev.unflushed - s.ev.flushList.length ∧ t.ev.flushing = s.ev.flushDue ∧ t.ev.ring = s.ev.ring ∧
      t.ev.journal = some { opTime := s.ev.opTime, pwrCycles := s.ev.pwrCycles, nextSeq := s.ev.nextSeq
                            dropped := s.ev.dropped, authSeq := s.se.authSeq } ∧
      ∀ f ∈ s.hq.inflight, ∀ b a n k, f.wait = .logRead b a n k → k ≤ s.ev.flushNo →
        (a + n ≤ t.ev.log.length → Answered s t f.hdr stOk n) ∧
        (t.ev.log.length < a + n → Answered s t f.hdr stBadParam 0x18))) ∧
  (∀ (s : State), s.ev.flushing = false ∨ s.ev.clearing = true → Completes .flushEnd s (fun t => t = s)) ∧
  (∀ (s : State), s.ev.clearing = true → Completes .logClearDone s (fun t => t.ev.clearing = false ∧ t.ev.log = [] ∧
    t.ev.logFull = false ∧ t.ev.dropped = 0 ∧ t.ev.badCrc = 0 ∧ Newest s t 0x0804 1 kFlash 1 [] ∧
    ∀ f ∈ s.hq.inflight, f.wait = .logClear → Answered s t f.hdr stOk 0)) ∧
  (∀ (s : State), s.ev.clearing = false → Completes .logClearDone s (fun t => t = s))

/-- R305, R313, R322, R438, R450: operating time and housekeeping averages, DRAM errors and link margins. -/
def Obligations.HousekeepingCompletes : Prop :=
  (∀ (s : State) (die : Int) (vm va : Nat), Completes (.opTimeTick die vm va) s (fun t =>
    t.pins = { s.pins with die := satI 16 die, dieMax := max s.pins.dieMax (satI 16 die), vinMain := min vm 65535
                           vinAux := min va 65535 } ∧
    (s.rc.power = .run ∨ s.rc.power = .quiet → t.ev = { s.ev with opTime := (s.ev.opTime + 1) % 2 ^ 48 }) ∧
    (s.rc.power = .aux ∨ s.rc.power = .off → t.ev = s.ev))) ∧
  (∀ (s : State) (ch addr : Nat) (w : Option Nat),
    Completes (.dramError false ch addr w) s (fun t => t = { s with ev := { s.ev with dramCe := s.ev.dramCe + 1 } }) ∧
    Completes (.dramError true ch addr w) s (fun t => 2 ∈ t.ev.causes ∧ (∀ k, w = some k → k ∈ t.cr.badWords) ∧
      (w = none → t.cr = s.cr) ∧ (2 ∈ s.ev.causes → Newest s t 0x0E02 3 kDram ch (leBytes 8 addr)))) ∧
  (∀ (s : State), Completes .dramCeWindow s (fun t => t.ev.dramCe = 0 ∧ (256 < s.ev.dramCe → 1 ∈ t.ev.causes) ∧
    (s.ev.dramCe ≤ 256 → 1 ∉ t.ev.causes) ∧
    (256 < s.ev.dramCe → 1 ∈ s.ev.causes → Newest s t 0x0E01 1 kNone 0 (leBytes 4 (min s.ev.dramCe (2 ^ 32 - 1)))))) ∧
  (∀ (s : State) (k m : Nat),
    (m < 20 → k ∉ s.ev.marginLow → Completes (.serdesMargin k m false) s (fun t => k ∈ t.ev.marginLow ∧ 4 ∈ t.ev.causes ∧
      (k = 0 → t.hq.margin = m % 256) ∧ (4 ∈ s.ev.causes → Newest s t 0x0E04 1 kLink k (leBytes 1 m)))) ∧
    (20 ≤ m → Completes (.serdesMargin k m false) s (fun t => t.ev = s.ev ∧ (k = 0 → t.hq.margin = m % 256))) ∧
    Completes (.serdesMargin k m true) s (fun t => t.ev.marginLow = s.ev.marginLow.filter (· != k) ∧
      (t.ev.marginLow = [] → 4 ∉ t.ev.causes) ∧ (t.ev.marginLow ≠ [] → t.ev.causes = s.ev.causes)))

/-- R394, R424, R427, R439, R443: POWER_ON and RESET_N. POWER_ON releases a COLD reset of source 0 with the retained domain
cleared; RESET_N below 200 ns does nothing, from 1 µs it is a COLD reset of source 1 held until it rises; between them either,
as the spec leaves it. -/
def Obligations.PowerOnAndResetPinComplete : Prop :=
  (∀ (s : State), s.rc.power = .aux ∨ s.rc.power = .off → s.rc.valid = false → s.pins.railOpen = false →
    Completes .powerOn s (fun t => t.rc.power = .run ∧
      t.rc.release = some { scope := .cold, powerOn := true, asserted := s.pins.resetLow, step := 1, tries := 0, stopped := false } ∧
      (∀ d ∈ s.part.resetDomains .cold true, d ∈ t.rc.off) ∧ t.rc.resets = 0 ∧ t.ev.ring = [] ∧ t.hq.ledger = [] ∧
      t.rc.retiredBk = [] ∧ t.ev.log = s.ev.log)) ∧
  (∀ (low : Nat) (s : State), s.pins.resetLow = false → low < 200 → ∀ high, Completes (.resetN low high) s (fun t => t = s)) ∧
  (∀ (low : Nat) (high : Bool) (s : State), s.pins.resetLow = false → 1000 ≤ low → s.rc.power = .run ∨ s.rc.power = .quiet →
    s.rc.absorbs 1 0 = false → Completes (.resetN low high) s (fun t => ResetBy s t 1 .cold none ∧ ColdLost t ∧
      t.pins.resetLow = !high ∧ (t.rc.release.map (·.asserted)) = some (!high))) ∧
  (∀ (low : Nat) (s : State), s.pins.resetLow = false → 200 ≤ low → low < 1000 → s.rc.power = .run ∨ s.rc.power = .quiet →
    s.rc.absorbs 1 0 = false → Completes (.resetN low true) s (fun t =>
      t = { s with free := s.free + 1 } ∨ (ResetBy s t 1 .cold none ∧ ColdLost t))) ∧
  (∀ (low : Nat) (s : State), s.pins.resetLow = true → Completes (.resetN low true) s (fun t =>
    t.pins.resetLow = false ∧ t.rc.startAt = s.clk.now ∧ ∀ r, t.rc.release = some r → r.asserted = false))

/-- R313, R360, R406, R407, R439, R442: power-fail warning, loss and return of VIN_MAIN, and loss of the retained domain. With
VIN_MAIN gone every domain but the root and the retained one is held and the ledger takes the commands in flight with scope 3. -/
def Obligations.SuppliesComplete : Prop :=
  (∀ (s : State), s.pins.pfWarn = false → Completes (.pfWarn true) s (fun t =>
    t.pins.pfWarn = true ∧ Newest s t 0x0204 1 kNone 0 [] ∧ t.ev.flushDue = true ∧ t.cr.seen = s.cr.seen ||| 8)) ∧
  (∀ (s : State), Completes (.pfWarn false) s (fun t => t = { s with pins := { s.pins with pfWarn := false } })) ∧
  (∀ (s : State), s.rc.power = .run ∨ s.rc.power = .quiet → Completes .vinMainLoss s (fun t =>
    t.rc.power = .aux ∧ t.rc.release = none ∧ t.rc.lastSource = 7 ∧ t.rc.lastScope = 3 ∧
    (∀ d < s.part.clockDomains, d ≠ 0 → d ≠ 2 → d ∈ t.rc.off) ∧ ColdLost t ∧
    (s.hq.ledger.length + s.hq.flights.length ≤ 512 → ∀ f ∈ s.hq.flights,
      { tag := f.2.tag, queue := f.2.queue, sqIndex := f.2.sqIndex, status := stAborted, scope := 3, source := 7
        seq := s.ev.nextSeq } ∈ t.hq.ledger))) ∧
  (∀ (s : State), s.pins.railOpen = false → s.rc.power = .aux ∨ s.rc.power = .off → s.rc.valid = true →
    Completes .vinMainReturn s (fun t => t.rc.power = .run ∧ t.ev.pwrCycles = min (s.ev.pwrCycles + 1) (2 ^ 24 - 1) ∧
      t.rc.release = some { scope := .cold, powerOn := false, asserted := s.pins.resetLow, step := 2, tries := 0, stopped := false } ∧
      (∀ d ∈ s.part.resetDomains .cold false, d ∈ t.rc.off) ∧ t.ev.ring = s.ev.ring)) ∧
  (∀ (s : State), Completes (.retainedLoss true) s (fun t => t.rc.power = .off ∧ t.rc.valid = false ∧ t.ev.ring = [] ∧
    t.hq.ledger = [] ∧ t.rc.retiredBk = [] ∧ t.se.authSeq = 0 ∧ t.teth.bkEpoch = 0)) ∧
  (∀ (s : State), Completes (.retainedLoss false) s (fun t => t.rc.power = .off)) ∧
  (∀ (s : State), s.rc.power = .run ∨ s.rc.power = .quiet → Completes .thermalTrip s (fun t =>
    t.rc.power = .aux ∧ t.pins.tripped = true ∧ t.pins.railOpen = true ∧ t.pins.tempHigh = true ∧ ColdLost t)) ∧
  (∀ (s : State), s.pins.railOpen = true → s.rc.power = .aux → s.rc.valid = true → Completes .thermalReturn s (fun t =>
    t.rc.power = .run ∧ t.pins.railOpen = false ∧ t.pins.tempHigh = false ∧ t.pins.tripped = s.pins.tripped)) ∧
  (∀ (up : Bool) (s : State), Completes (.tempHigh up) s (fun t => t = { s with pins := { s.pins with tempHigh := up } }))

/-- R392, R393, R396 to R398, Tables 17-2 and 17-5: steps of a release, its stop at a clock fault and its retry 100 ms later,
twice at most, for a scope and for a block; and the clock fault of a running domain, which is held, with the table's action. -/
def Obligations.ReleasesComplete : Prop :=
  (∀ (x : Release) (s : State), s.rc.release = some x → x.asserted = false → x.stopped = false →
    Completes (.releaseStep false none) s (fun t =>
      (∀ d ∈ s.part.stepDomains x.step, d ∉ t.rc.off) ∧ (∀ d ∉ s.part.stepDomains x.step, d ∈ t.rc.off ↔ d ∈ s.rc.off) ∧
      t.rc.release = (x.scope.after x.powerOn x.step).map (fun k => { x with step := k })) ∧
    (∀ d, Completes (.releaseStep false (some d)) s (fun t =>
      t.rc.release = some { x with tries := x.tries + 1, stopped := true } ∧ t.rc.off = s.rc.off ∧
      t.rc.faults = min (s.rc.faults + 1) 65535 ∧ t.rc.inRelease = true))) ∧
  (∀ (s : State), s.rc.blockActive = true → s.rc.blockStopped = false →
    Completes (.releaseStep true none) s (fun t => t.rc.blockActive = false ∧
      (∀ d ∈ blockDomains s.rc.blockCode, d ∉ t.rc.off) ∧
      ∀ f ∈ s.hq.inflight, f.wait = .blockReset s.rc.blockCode → Answered s t f.hdr stOk 0) ∧
    (∀ d, Completes (.releaseStep true (some d)) s (fun t => t.rc.blockActive = true ∧ t.rc.blockStopped = true ∧
      t.rc.blockTries = s.rc.blockTries + 1 ∧ t.rc.off = s.rc.off ∧ t.rc.faults = min (s.rc.faults + 1) 65535))) ∧
  (∀ (x : Release) (s : State), s.rc.release = some x → x.stopped = true →
    (x.tries < 3 → Completes (.releaseRetry false) s (fun t =>
      t.rc.release = some { x with step := (x.scope.steps x.powerOn).headD 0, stopped := false })) ∧
    (3 ≤ x.tries → Completes (.releaseRetry false) s (fun t => t = s))) ∧
  (∀ (s : State), s.rc.blockActive = true → s.rc.blockStopped = true →
    (s.rc.blockTries < 3 → Completes (.releaseRetry true) s (fun t => t.rc.blockStopped = false)) ∧
    (3 ≤ s.rc.blockTries → Completes (.releaseRetry true) s (fun t => t = s))) ∧
  (∀ (d : Nat) (s : State), d < s.part.clockDomains → s.rc.on d = true → s.rc.on 1 = true →
    d < 18 ∨ (22 ≤ d ∧ d ≤ 29) ∨ 32 ≤ d → (d = 12 → s.hq.speed ≠ 0) → (d = 14 ∨ d = 15 → s.gn.linkUp = true) →
    Completes (.rcClockFault d) s (fun t => d ∈ t.rc.held ∧ d ∈ t.rc.badClk ∧ t.rc.faults = min (s.rc.faults + 1) 65535 ∧
      (d = 5 → bitAt t.le.xinValid 0 = false) ∧
      (d = 11 → s.cr.state = .armed ∨ s.cr.state = .triggered → t.cr.state = .frozen) ∧
      (d = 12 ∨ d = 13 → t.hq.speed = 0 ∧ t.hq.width = 0) ∧
      (14 ≤ d → d ≤ 16 → t.gn.mode = 0 ∧ t.gn.isolated = true) ∧ (14 ≤ d → d ≤ 17 → t.clk.ptpState ≠ .lock) ∧ (22 ≤ d → 2 ∈ t.ev.causes))) ∧
  (∀ (s : State), s.rc.on 18 = true → s.rc.on 1 = true → Completes (.rcClockFault 18) s (fun t =>
    t.teth.trained = false ∧ 18 ∈ t.rc.held ∧ (s.teth.seen = true → s.teth.lost = false → t.teth.lost = true)))

/-- R96, R97, R272, R279, R313, R401 to R404, R407, R420, R424, Table 17-6: the steps of a cold and of a warm start, the checkpoint,
and the end of the failed-start count. -/
def Obligations.StartStepsComplete : Prop :=
  (∀ (s : State) (l : List (Nat × Nat)), s.rc.due .cold 1 = true → Completes (.coldStart 1 l) s (fun t =>
    t.rc.startStep = 2 ∧ t.rc.valid = true ∧ t.ev.ring.getLast?.map (·.code) = some 0x0101 ∧
    t.ev.ring.getLast?.map (·.payload) = some (leBytes 1 s.rc.lastSource ++ leBytes 1 0) ∧
    (s.rc.valid = true → t.ev.pwrCycles = s.ev.pwrCycles ∧ t.ev.opTime = s.ev.opTime ∧ Newest s t 0x0101 0 kNone 0
      (leBytes 1 s.rc.lastSource ++ leBytes 1 0)) ∧
    (∀ j, s.rc.valid = false → s.ev.journal = some j → t.ev.pwrCycles = min (j.pwrCycles + 1) (2 ^ 24 - 1) ∧
      t.ev.opTime = j.opTime ∧ t.ev.restored = true ∧ t.se.authSeq = j.authSeq))) ∧
  (∀ (s : State) (l : List (Nat × Nat)),
    (s.rc.due .cold 2 = true → Completes (.coldStart 2 l) s (fun t => t = s.nextStep 3)) ∧
    (s.rc.due .cold 3 = true → Completes (.coldStart 3 l) s (fun t => t.rc.startStep = 4 ∧ (l = [] → 2 ∉ t.ev.causes) ∧
      (l ≠ [] → 2 ∈ t.ev.causes))) ∧
    (s.rc.due .cold 4 = true → Completes (.coldStart 4 l) s (fun t => t.rc.startStep = 5 ∧
      (s.rc.threeFailed = true → t.rc.start = .recovery ∧ t.se.rcvCause = 2) ∧
      (s.rc.threeFailed = false → s.se.flashFault.isSome = true → t.rc.start = .recovery ∧ t.se.rcvCause = 1 ∧
        t.se.areaInvalid = true) ∧
      (s.rc.threeFailed = false → s.se.flashFault = none → t.rc.start = .cold ∧ t.se.running = s.se.flashImage ∧
        t.se.digest = sha256 s.se.flashImage ∧ t.rc.imageChanged = false))) ∧
    (s.rc.due .cold 5 = true → Completes (.coldStart 5 l) s (fun t => t.rc.startStep = 6 ∧
      t.cal.entries = calEntries s.cal.page ∧ t.cal.invalid = (calFault s.cal.page).isSome ∧ t.cal.used = s.cal.flash ∧
      t.sh.calOk = (calFault s.cal.page).isNone ∧
      (∀ secs m, s.part.storeCheck s.rc.retiredBk s.se.storeBytes = .inr (secs, m) → t.sh.storeOk = true ∧ t.ports = m.ports ∧
        t.se.storeDigest = sha256 s.se.storeBytes ∧ t.sh.ratingW = u s.se.storeBytes 0x10 4 ∧
        t.sh.target = u s.se.storeBytes 0x14 4 ∧ (t.groups.map (·.gtype)) = m.groups.map (·.gtype)) ∧
      (∀ r o, s.part.storeCheck s.rc.retiredBk s.se.storeBytes = .inl (r, o) → t.sh.storeOk = s.sh.storeOk ∧
        t.ports = s.ports ∧ t.groups = s.groups ∧ (calFault s.cal.page = none →
          Newest s t 0x0102 1 kNone 0 (leBytes 4 r ++ leBytes 4 o))))) ∧
    (s.rc.due .cold 6 = true → Completes (.coldStart 6 l) s (fun t => t.rc.startStep = 7 ∧
      t.role = if s.role = .starting then s.roleFor else s.role)) ∧
    (s.rc.due .cold 7 = true → WellShaped s → (s.role = .standby → bitAt s.teth.partnerReady 0 = true ∨ s.teth.lost = true) →
      Completes (.coldStart 7 l) s (fun t => t.rc.startStep = 8 ∧ (s.role = .offline → t = s.nextStep 8) ∧
        (s.role ≠ .offline → ∀ p, p < s.part.ports → (s.port p).kind = 1 ∨ (s.port p).kind = 2 → (s.port p).state = .down →
          (t.port p).state = .training ∧ (s.rc.portOn p = true → Puts s t (.train p (s.trainHeader p)))))) ∧
    (s.rc.due .cold 7 = true → s.role = .standby → bitAt s.teth.partnerReady 0 = false → s.teth.lost = false →
      Completes (.coldStart 7 l) s (fun t => t = s.nextStep 8)) ∧
    (s.rc.due .cold 8 = true → Completes (.coldStart 8 l) s (fun t => t = s.loadLoops.nextStep 9)) ∧
    (s.rc.due .cold 9 = true → Completes (.coldStart 9 l) s (fun t => t.rc.start = .run ∧ t.rc.govRun = true ∧
      t.rc.runAt = s.clk.now ∧ t.rc.lastStartMs = min ((s.clk.now - s.rc.startAt) / 1000000) 65535 ∧
      (s.sh.storeOk = false → t.pl.mode = 2 ∧ t.gv.ok = false ∧
        t.pl.budget = s.sh.ratingW ∧ 0x0103 ∈ t.ev.ring.map (·.code))))) ∧
  (∀ (s : State) (k : Nat) (l : List (Nat × Nat)), s.rc.due .cold k = false →
    Completes (.coldStart k l) s (fun t => t = s)) ∧
  (∀ (s : State),
    (∀ k, k ≠ 4 → k ≠ 9 → s.rc.due .warm k = true → Completes (.warmStart k) s (fun t => t = s.nextStep (warmAfter k))) ∧
    (s.rc.due .warm 4 = true → Completes (.warmStart 4) s (fun t => t.rc.startStep = 5 ∧ t.rc.start = .warm ∧
      (s.rc.imageChanged = false → t.se = s.se) ∧
      (s.rc.imageChanged = true → t.rc.imageChanged = false ∧
        (s.se.flashFault = none → t.se.running = s.se.flashImage) ∧
        (s.se.flashFault.isSome = true → t.se.imageBad = true ∧ t.se.running = s.se.running)))) ∧
    (s.rc.due .warm 9 = true → Completes (.warmStart 9) s (fun t => t.rc.start = .run ∧ t.rc.govRun = true ∧
      t.rc.runAt = s.clk.now ∧ t.ports = s.ports ∧ t.groups = s.groups ∧ t.le = s.le ∧
      (∀ c, s.checkpoint = some c → t.gv.role = 0 ∧ t.gv.budgetMw = c.gv.budgetMw ∧ t.pl.mode = c.pl.mode ∧
        t.pl.fills = [] ∧ t.pl.trim = 0 ∧ t.pl.strs = s.pl.strs)))) ∧
  (∀ (s : State) (k : Nat), s.rc.due .warm k = false → Completes (.warmStart k) s (fun t => t = s)) ∧
  (∀ (s : State), Completes .checkpointWrite s (fun t =>
    t = if s.rc.gov then { s with checkpoint := some s.makeCopy } else s)) ∧
  (∀ (s : State), Completes .failedStartClear s (fun t =>
    t = if s.rc.run then { s with rc := { s.rc with failed := [] } } else s))

/-- R424 to R427, Table 18-17: the recovery loader. LOAD checks the length; the end of VERIFYING and of WRITING; RETRY and
RESTART are COLD resets of source 4. -/
def Obligations.RecoveryComplete : Prop :=
  (∀ (s : State), s.rc.recovery = true → s.se.rcvState ≠ 1 → s.se.rcvState ≠ 2 →
    (4097 ≤ s.se.rcvLen → s.se.rcvLen ≤ 2 ^ 25 → Completes .seRcvLoad s (fun t =>
      t.se = { s.se with rcvState := 1, rcvReason := 0 })) ∧
    (s.se.rcvLen < 4097 ∨ 2 ^ 25 < s.se.rcvLen → Completes .seRcvLoad s (fun t =>
      t.se = { s.se with rcvState := 4, rcvReason := 1 }))) ∧
  (∀ (good : Bool) (s : State), s.rc.recovery = true → s.se.rcvState = 1 →
    (s.se.imageFault (Mem.readN 0 s.hdma 0 s.se.rcvLen) = none → Completes (.recoveryWriteDone good) s (fun t =>
      t.se.rcvState = 2 ∧ t.se.image = [] ∧ t.se.areaInvalid = true)) ∧
    (∀ k o, s.se.imageFault (Mem.readN 0 s.hdma 0 s.se.rcvLen) = some (k, o) → Completes (.recoveryWriteDone good) s (fun t =>
      t.se = { s.se with rcvState := 4, rcvReason := k + 1 }))) ∧
  (∀ (s : State), s.rc.recovery = true → s.se.rcvState = 2 →
    Completes (.recoveryWriteDone true) s (fun t => t.se.rcvState = 3 ∧ t.se.areaInvalid = false ∧ t.rc.failed = [] ∧
      t.se.image = Mem.writeN 0xFF [] 0 (Mem.readN 0 s.hdma 0 s.se.rcvLen)) ∧
    Completes (.recoveryWriteDone false) s (fun t => t.se.rcvState = 4 ∧ t.se.rcvReason = 7 ∧ t.se.areaInvalid = true)) ∧
  (∀ (s : State), s.rc.recovery = true → s.se.rcvState ≠ 1 → s.se.rcvState ≠ 2 → s.rc.power = .run ∨ s.rc.power = .quiet →
    s.rc.absorbs 4 0 = false → Completes .seRcvRetry s (fun t => t.rc.failed = [] ∧ t.rc.lastSource = 4 ∧ ColdLost t)) ∧
  (∀ (s : State), s.rc.recovery = true → s.se.rcvState = 3 ∨ s.se.rcvState = 4 → s.rc.power = .run ∨ s.rc.power = .quiet →
    s.rc.absorbs 4 0 = false → Completes .seRcvRestart s (fun t => ResetBy s t 4 .cold none ∧ ColdLost t))

/-- R301, R405, R443, R445: Quiet, SNUFF_SENSE, PPS_IN, PPS_OUT and the SMBus target. -/
def Obligations.PinsAndQuietComplete : Prop :=
  (∀ (s : State), s.rc.power = .run → s.rc.run = true → s.rc.quietEn = true →
    (∀ G ∈ s.groups, G.gtype = 0 ∨ G.state = .off) → (∀ f ∈ s.hq.inflight, quietOp f.op = false) →
    Completes .quietEnter s (fun t => t.rc = { s.rc with power := .quiet } ∧ bitAt t.le.xinValid 0 = false ∧
      t.clk.ptpState ≠ .lock)) ∧
  (∀ (s : State), Completes (.snuffSense true) s (fun t => t.gv.sense = true ∧ t.cr.seen = s.cr.seen ||| 4) ∧
    Completes (.snuffSense false) s (fun t => t.gv = { s.gv with sense := false, foreign := false } ∧ t.cr = s.cr)) ∧
  (∀ (s : State), s.rc.on 17 = true → Completes .ppsIn s (fun t =>
    t = { s with pins := { s.pins with ppsTime := s.clk.ptp, ppsSeen := true } })) ∧
  (∀ (s : State), s.rc.on 17 = true → s.clk.ptpState = .lock ∨ s.clk.ptpState = .holdover → s.pins.ppsOut = false →
    Completes (.ppsOut true) s (fun t => t.pins.ppsOut = true ∧ t.out = .pin "PPS_OUT" true :: s.out)) ∧
  (∀ (s : State), s.pins.ppsOut = true →
    Completes (.ppsOut false) s (fun t => t.pins.ppsOut = false ∧ t.out = .pin "PPS_OUT" false :: s.out)) ∧
  (∀ (s : State), s.smbusOn = true →
    Completes (.smbusReadByte 1) s (fun t => t.out = .smbus (some (match s.part with | .csm480 => 0x48 | .csm240 => 0x24)) :: s.out) ∧
    Completes (.smbusReadByte 3) s (fun t => t.out = .smbus (some (BitVec.ofNat 8 s.ev.causeBits)) :: s.out) ∧
    Completes (.smbusReadByte 5) s (fun t =>
      t.out = .smbus (some (BitVec.ofNat 8 (min (s.pins.vinMain / 100) 255))) :: s.out) ∧
    (∀ c, 6 ≤ c → Completes (.smbusReadByte c) s (fun t => t.out = .smbus none :: s.out))) ∧
  (∀ (s : State), s.smbusOn = true → s.ev.alert = true → Completes .smbusAlertResponse s (fun t =>
    t.out = .smbus (some (if s.teth.slotB then 0x59 else 0x58)) :: s.out ∧ t.ev = { s.ev with alert := s.ev.replace }))

/-- R428 to R431, R446, Tables 18-6 and 18-7: SPDM over DOE, and JTAG. CHALLENGE and signed measurements carry a nonce and a
signature that no party without the device key can foretell: the model's free bytes (assumption 26). -/
def Obligations.AttestationComplete : Prop :=
  (∀ (s : State), s.spdmOn = true →
    Completes .getVersion s (fun t => t.out = .spdm (.version 0x12) :: s.out) ∧
    Completes .getCapabilities s (fun t => t.out = .spdm (.capabilities true true true 20) :: s.out) ∧
    Completes (.negotiateAlgorithms true true true) s (fun t => t.out = .spdm (.algorithms true true true) :: s.out) ∧
    Completes .getDigests s (fun t => t.out = .spdm (.digests 1 (sha256 s.se.chain)) :: s.out)) ∧
  (∀ (off len : Nat) (s : State), s.spdmOn = true → off < s.se.chain.length →
    Completes (.getCertificate 0 off len) s (fun t => t.out = .spdm (.certificate ((s.se.chain.drop off).take len)
      (s.se.chain.length - off - len)) :: s.out)) ∧
  (∀ (slot off len : Nat) (s : State), s.spdmOn = true → slot ≠ 0 →
    Completes (.getCertificate slot off len) s (fun t => t.out = .spdm .error :: s.out)) ∧
  (∀ (summary : Nat) (s : State), s.spdmOn = true → Completes (.challenge 0 summary) s (fun t =>
    ∃ nonce sig : Bytes, nonce.length = 32 ∧ sig.length = 384 ∧ t.out = .spdm (.challengeAuth (sha256 s.se.chain) nonce
      (if summary = 0 then [] else sha256 ((List.range 5).flatMap (fun k => s.measure (k + 1)))) sig) :: s.out)) ∧
  (∀ (index : Nat) (s : State), s.spdmOn = true → index ≤ 5 ∨ index = 0xFF →
    let bl := (if index = 0 then [] else if index = 0xFF then [1, 2, 3, 4, 5] else [index]).map (fun k => (k, s.measure k))
    Completes (.getMeasurements index false) s (fun t => t.out = .spdm (.measurements 5 bl none) :: s.out) ∧
    Completes (.getMeasurements index true) s (fun t => ∃ nonce sig : Bytes, nonce.length = 32 ∧ sig.length = 384 ∧
      t.out = .spdm (.measurements 5 bl (some (nonce, sig))) :: s.out)) ∧
  (∀ (s : State), Completes (.jtagAccess 0) s (fun t => t.out = .jtag 0 s.part.idcode :: s.out)) ∧
  (∀ (ir : Nat) (s : State), ir ≠ 0 → Completes (.jtagAccess ir) s (fun t => t.out = .jtag ir 0 :: s.out))

/-- One step takes the command at the front of the queue and runs it with the rest; on an empty queue nothing happens but a frame
period of time: the clocks and the frame counter go on, and, with no port TRAINED, the module's own telemetry, which may end a
burst (the model's choice, log entry 4). -/
def Obligations.StepRunsFront : Prop :=
  (∀ (c : Instr) (s : State) (rest : List Instr), step (s.withPending (c :: rest)) = exec c (s.withPending rest)) ∧
  (∀ (s : State), s.pending = [] → ∃ t, step s = .next t ∧
    KeepsBut [.clock, .loops, .ports, .groups, .shelf, .host, .out] s t ∧
    (s.ports.any (fun P => P.state == .trained) = true → KeepsBut [.clock, .loops] s t) ∧
    (s.rc.power ≠ .off → s.rc.badClk.contains 0 = false → t.clk.now = s.clk.now + 500 ∧
      t.le.frame = (if s.rc.on 4 then (s.le.frame + 1) % 2 ^ 64 else s.le.frame)) ∧
    (s.rc.power = .off ∨ s.rc.badClk.contains 0 = true → t = s))

/-- R52: the conversion of a 64-bit accumulator to a 32-bit signal. Where the nearest multiple of 2^16, and of two equally near ones
the even multiple, lies in the signal's range, that is the value; beyond the range it is the range's end. -/
def Obligations.RoundSatRoundsHalfToEven : Prop :=
  ∀ (a : Int), -(2 ^ 63) ≤ a → a < 2 ^ 63 → ∃ q : Int,
    2 * (a - q * 2 ^ 16).natAbs ≤ 2 ^ 16 ∧ (2 * (a - q * 2 ^ 16).natAbs = 2 ^ 16 → q % 2 = 0) ∧
    ((-(2 ^ 31) ≤ q ∧ q < 2 ^ 31) → roundSat32 a = (q, false)) ∧
    (2 ^ 31 ≤ q → roundSat32 a = (2 ^ 31 - 1, true)) ∧
    (q < -(2 ^ 31) → roundSat32 a = (-(2 ^ 31), true))

/-- Table 15-8 and chapter 16: what a fetched entry spells. Its opcode picks the command, and each parameter is read from the bytes
that the opcode's table gives it; PROFILE_CTRL, CAPTURE_ARM, RESET and TAKEOVER are told apart by their first parameter byte. -/
def Obligations.EntriesSpellCommands : Prop :=
  ∀ (h : CmdHdr) (b : Bytes) (s : State),
    runOp 0x0101 h b s = exec (.devIdentify h (bufAt b 8)) s ∧
    runOp 0x0102 h b s = exec (.devCaps h (bufAt b 8)) s ∧
    runOp 0x0110 h b s = exec (.queueCreate h (u b 8 1) (u b 9 1) (u b 10 1) (u b 11 1) (u b 16 8) (u b 24 8) (u b 32 4) (u b 36 4)) s ∧
    runOp 0x0111 h b s = exec (.queueDelete h (u b 8 1)) s ∧
    runOp 0x0301 h b s = exec (.loopOpen h (u b 8 1)) s ∧
    runOp 0x0302 h b s = exec (.loopClose h (u b 8 1) (u b 9 1) (i b 12 4)) s ∧
    runOp 0x0303 h b s = exec (.loopLoad h (bufAt b 8) (u b 20 2)) s ∧
    runOp 0x0304 h b s = exec (.loopRead h (bufAt b 8) (u b 20 1) (u b 22 2)) s ∧
    runOp 0x0305 h b s = exec (.loopSchedule h (bufAt b 8) (u b 20 2)) s ∧
    runOp 0x0401 h b s = exec (.groupEnable h (u b 8 1)) s ∧
    runOp 0x0402 h b s = exec (.groupQuench h (u b 8 1)) s ∧
    runOp 0x0403 h b s = exec (.busVset h (i b 8 4) (u b 12 4)) s ∧
    runOp 0x0404 h b s = exec (.cellRetire h (u b 8 1)) s ∧
    runOp 0x0405 h b s = exec (.cellRestore h (u b 8 1) (bitAt (u b 9 1) 0)) s ∧
    runOp 0x0501 h b s = exec (.storeMode h (u b 8 1)) s ∧
    runOp 0x0502 h b s = exec (.planLimits h (bufAt b 8)) s ∧
    runOp 0x0601 h b s = exec (.planLoad h (bufAt b 8) (u b 20 2) (u b 22 1) (u b 23 1) (u b 24 2) (u b 28 4) (i b 32 8)) s ∧
    (u b 8 1 = 0 → runOp 0x0602 h b s = exec (.profileStart h (pfSetAt b)) s) ∧
    (u b 8 1 = 1 → runOp 0x0602 h b s = exec (.profileStop h) s) ∧
    (u b 8 1 = 2 → runOp 0x0602 h b s = exec (.profileClear h) s) ∧
    (u b 8 1 = 3 → runOp 0x0602 h b s = exec (.profileSet h (pfSetAt b)) s) ∧
    runOp 0x0701 h b s = exec (.budgetSet h (i b 8 4) (u b 12 4)) s ∧
    runOp 0x0702 h b s = exec (.govMode h (u b 8 1) (u b 9 1)) s ∧
    runOp 0x0703 h b s = exec (.grantMode h (u b 8 1)) s ∧
    runOp 0x0704 h b s = exec (.keyLoad h (bufAt b 8)) s ∧
    (u b 8 1 = 0 → runOp 0x0801 h b s = exec (.captureArm h (bufAt b 16) (u b 28 2)) s) ∧
    (u b 8 1 = 1 → runOp 0x0801 h b s = exec (.captureTrigger h) s) ∧
    (u b 8 1 = 2 → runOp 0x0801 h b s = exec (.captureFreeze h) s) ∧
    (u b 8 1 = 3 → runOp 0x0801 h b s = exec (.captureRelease h) s) ∧
    runOp 0x0802 h b s = exec (.captureRead h (bufAt b 8) (u b 20 2) (u b 24 8) (u b 32 4)) s ∧
    runOp 0x0803 h b s = exec (.logRead h (bufAt b 8) (u b 20 1) (u b 21 1) (u b 24 4) (u b 28 4)) s ∧
    runOp 0x0804 h b s = exec (.logClear h (bufAt b 8)) s ∧
    runOp 0x0901 h b s = exec (.calRead h (bufAt b 8)) s ∧
    runOp 0x0902 h b s = exec (.calWrite h (bufAt b 8)) s ∧
    runOp 0x0903 h b s = exec (.assay h (u b 8 1)) s ∧
    runOp 0x0A01 h b s = exec (.imageStage h (bufAt b 8)) s ∧
    runOp 0x0A02 h b s = exec (.imageCommit h (u b 8 1)) s ∧
    (u b 8 1 = 3 → runOp 0x0B01 h b s = exec (.blockReset h (u b 9 1)) s) ∧
    (u b 8 1 ≠ 3 → runOp 0x0B01 h b s = exec (.reset h (u b 8 1)) s) ∧
    runOp 0x0B02 h b s = exec (.timeSet h (u b 8 1) (u b 9 1) (bitAt (u b 10 1) 0) (i b 16 8)) s ∧
    (bitAt (u b 8 1) 0 = true → runOp 0x0B03 h b s = exec (.takeoverForce h) s) ∧
    (bitAt (u b 8 1) 0 = false → runOp 0x0B03 h b s = exec (.takeover h) s)

/-- Every command, on every state, runs to completion: nothing stops the block. It leaves the part it is and the commands that wait
behind it as they were. -/
def Obligations.EveryCommandCompletes : Prop :=
  ∀ (c : Instr) (s : State), Completes c s (fun t => t.part = s.part ∧ t.pending = s.pending)

/-- Every step, from every well-shaped state, whatever waits, leaves a well-shaped state: the sizes the spec fixes (80 ports, 16
groups, 128 slots, 4 pipelines, 4 command queues), the bounds of the retained ring, the receive queue and the reset ledger, and the
one canonical form of the two memories (which is the model's own). -/
def Obligations.StepKeepsWellShaped : Prop :=
  ∀ (s t : State), WellShaped s → step s = .next t → WellShaped t

/-- The block right after reset is well shaped. -/
def Obligations.ResetWellShaped : Prop := WellShaped State.reset

/-- R339: host memory changes only by the posted writes the block puts out. After any step it is the memory before with the writes put
out since made to it, oldest first, and every byte outside them reads as before (with the memory
in its canonical form, which every step keeps). -/
def Obligations.HostMemoryByWrites : Prop :=
  ∀ (s t : State), step s = .next t → ∃ l, t.out = l ++ s.out ∧ t.hostMem = replay l s.hostMem ∧
    (Mem.wf 0 s.hostMem = true → ∀ a : Nat, (∀ b d, Output.hostWrite b d ∈ l → a < b ∨ b + d.length ≤ a) →
      Mem.read 0 t.hostMem a = Mem.read 0 s.hostMem a)

/-- The frame of every command: the areas of the state it may change are those its row names, and everything else is unchanged. A host
command that resets nothing and retires or restores no cell changes of the reset state at most that it ends Quiet (R405). -/
def Obligations.CommandFrames : Prop :=
  (∀ (c : Instr) (s : State), Leaves c s (KeepsBut (mayChange c) s)) ∧
  (∀ (c : Instr) (s : State), onlyWakes c = true → Leaves c s (fun t =>
    t.rc = s.rc ∨ (s.rc.power = .quiet ∧ t.rc = { s.rc with power := .run })))

/-- The frames within an area: a command about one slot, port, group or queue leaves every other one as it was. -/
def Obligations.ItemFrames : Prop :=
  (∀ (c : Instr) (h : CmdHdr) (k mode : Nat) (v : Int) (s : State), c = .loopOpen h k ∨ c = .loopClose h k mode v →
    Leaves c s (fun t => t.le = { s.le with slots := t.le.slots } ∧ ∀ j, j ≠ k → t.slot j = s.slot j)) ∧
  (∀ (h : CmdHdr) (buf : Buf) (n : Nat) (s : State), Leaves (.loopLoad h buf n) s (fun t =>
    t.le = { s.le with slots := t.le.slots } ∧
    ∀ j, j ∉ blockSlots (blocksOf (s.bufRead buf 0 (576 * n)) n) → t.slot j = s.slot j)) ∧
  (∀ (k : Nat) (s : State), Leaves (.leTaperFrac k) s (fun t =>
    t.le = { s.le with slots := t.le.slots } ∧ ∀ j, j ≠ k → t.slot j = s.slot j)) ∧
  (∀ (c : Instr) (p : Nat) (s : State), (∃ f, c = .held p f) ∨ c = .svcDn p ∨ (∃ g, c = .svcTimeout p g) ∨ c = .portRetrain p ∨
    (∃ k, c = .trainingTimeout p k) ∨ (∃ m, c = .degraded p m) ∨ c = .restoreSrStep p ∨ (∃ ch, c = .tmMin (.port p ch)) ∨
    (∃ ch, c = .tmMax (.port p ch)) →
    Leaves c s (fun t => (∀ q, q ≠ p → t.port q = s.port q) ∧ t.groups = s.groups)) ∧
  (∀ (c : Instr) (g : Nat) (s : State), c = .regulationReached g ∨ c = .quenchTimeout g ∨ (∃ k d, c = .tmGrpSrcWrite g k d) ∨
    (∃ k, c = .tmMin (.group g k)) ∨ (∃ k, c = .tmMax (.group g k)) →
    Leaves c s (fun t => (∀ j, j ≠ g → t.group j = s.group j) ∧ t.ports = s.ports)) ∧
  (∀ (c : Instr) (q : Nat) (s : State), (∃ d, c = .sqTail q d) ∨ (∃ d, c = .cqHead q d) ∨ c = .cqStall q →
    Leaves c s (fun t => (∀ j, j ≠ q → nth t.hq.queues j {} = nth s.hq.queues j {}) ∧ t.hq.eq = s.hq.eq ∧
      t.hq.inflight = s.hq.inflight ∧ t.hq.parked = s.hq.parked ∧ t.hq.ledger = s.hq.ledger))

/-- R339, R342, R353: what a command writes to host memory, and in what order (newest first here): the data it returns, its completion
entry of 16 bytes at the tail of its completion queue, the new tail in the write-back block, and then at most one MSI-X message. -/
def Obligations.CompletionWritesInOrder : Prop :=
  ∀ (h : CmdHdr) (buf : Buf) (s : State), Accepted s h → WellShaped s → bufOk buf 128 = true → h.queue < 4 →
    (∀ f ∈ s.hq.inflight, ∀ k, f.wait ≠ .queueDelete k) →
    let c := nth s.hq.queues h.queue {}
    let entry := completionBytes h.tag stOk (if s.standbyFlag then 2 else 0) h.queue h.sqIndex 0
    c.present = true → c.faulted = false → c.cqN ≠ 0 →
    Completes (.devIdentify h buf) s (fun t =>
      (nth t.hq.queues h.queue {}).cqTail = (c.cqTail + 1) % c.cqN ∧
      ∃ m, t.out = m ++ [.hostWrite ((s.hq.wbBase + 4 * h.queue) % 2 ^ 64) (leBytes 4 ((c.cqTail + 1) % c.cqN)),
          .hostWrite ((c.cqBase + 16 * c.cqTail) % 2 ^ 64) entry,
          .completion h.tag stOk (if s.standbyFlag then 2 else 0) h.queue h.sqIndex 0] ++
          (if bufInDma buf then [] else [.hostWrite (bufBase buf % 2 ^ 64) s.identity]) ++ s.out ∧
        (s.hq.msixEnable = false → m = []) ∧
        (s.hq.msixEnable = true → c.coalCnt = 0 →
          let v := nth s.hq.msix c.vec {}
          if bitAt v.ctl.toNat 0 then m = [] ∧ t.hq.pba = setBit s.hq.pba c.vec true
          else m = [.msix (v.addrHi.toNat * 2 ^ 32 + v.addrLo.toNat) v.data.toNat]))

/-- The register maps' reset values: what the block's registers read right after reset, where the tables give a value that depends on no
store, fuse or retained content; every port is down, every group off, every slot open, no queue exists and no command waits. The sizes
shown are those of a CSM-480 (the part is the model's choice, log entry 5). -/
def Obligations.ResetValues : Prop :=
  State.reset.pending = [] ∧ State.reset.hq.inflight = [] ∧
  (∀ r ∈ ([(0x00000000, 0xC2255900), (0x0000000C, 0x80008000), (0x00100000, 0x28), (0x00100020, 0x0001000A),
      (0x00200000, 0x40402814), (0x00200010, 0), (0x00440000, 0x20640480), (0x00440100, 0), (0x00440244, 0),
      (0x00805000, 0), (0x0080500C, State.reset.se.copyFormat + 0xFF00),
      (0x00808000, 0x00010550), (0x00A10000, 0), (0x00A10004, 0x32), (0x00A10010, 0x2), (0x00A10018, 0xA), (0x00A1001C, 0x12C19064), (0x00A10100, 0x6400),
      (0x00A10104, 0x1964157C), (0x00A10108, 0x00190000), (0x00C00000, 0), (0x00D00000, 0x80000), (0x00D00004, 0x4FF01),
      (0x00D00008, 1), (0x00D0000C, 0x2000), (0x00D00010, 0x400000), (0x00D00014, 0xCD800005), (0x00D00030, 0x00A00000),
      (0x00D00044, 0x50000000), (0x01800000, 0x2000), (0x0180001C, 7), (0x01D00000, 0x280100), (0x01D00004, 0),
      (0x01E00004, 0)] : List (Nat × Nat)), State.reset.regRead r.1 = r.2) ∧
  (∀ k, k < 128 → State.reset.regRead (0x00400200 + 0x400 * k) = 0) ∧
  (∀ g, g < 16 → ∀ r ∈ ([(0x000, 0xFFFF0000), (0x004, 0), (0x040, 0x27105064), (0x044, 0x30D42904), (0x048, 0x03E80832),
      (0x058, 0x00640014), (0x060, 0x64000000)] : List (Nat × Nat)),
    State.reset.regRead (0x00A00000 + 0x1000 * g + r.1) = r.2) ∧
  (∀ p, p < 80 → State.reset.regRead (0x00800000 + 0x100 * p) = 0)

/-- R351, R357, R403, Table 15-8: a host command turned away has none of its effect. With CHECK_ONLY it answers the status of its
checks and changes nothing but its queue; one marked Active only is NOT_OWNER on a STANDBY or OFFLINE module and BUSY on a STARTING
one; before RUN every command but those R403 names is turned away, BUSY where no earlier check refuses it. -/
def Obligations.RefusedCommandsLeaveState : Prop :=
  (∀ (c : Instr) (h : CmdHdr) (s : State), hdrOf c = some h → h.checkOnly = true → s.rc.power ≠ .quiet →
    Leaves c s (fun t => KeepsBut [.host, .out] s t ∧ ∃ st r, Answered s t h st r)) ∧
  (∀ (c : Instr) (h : CmdHdr) (s : State), hdrOf c = some h → activeOnly c = true → s.rc.power ≠ .quiet →
    (s.role = .standby ∨ s.role = .offline → Completes c s (fun t =>
      KeepsBut [.host, .out] s t ∧ Answered s t h stNotOwner 0)) ∧
    (s.role = .starting → Completes c s (fun t => KeepsBut [.host, .out] s t ∧ Answered s t h stBusy 0))) ∧
  (∀ (c : Instr) (h : CmdHdr) (s : State), hdrOf c = some h → waitsForRun c = true → s.rc.run = false → s.rc.power ≠ .quiet →
    Leaves c s (fun t => KeepsBut [.host, .out] s t ∧ ∃ st r, Answered s t h st r)) ∧
  (∀ (h : CmdHdr) (k : Nat) (s : State), s.rc.run = false → k < s.part.slots →
    Completes (.loopOpen h k) s (fun t => Answered s t h stBusy 0)) ∧
  (∀ (h : CmdHdr) (mask : Nat) (s : State), s.rc.run = false → mask ≠ 0 → mask < 2 ^ s.part.pipes →
    Completes (.assay h mask) s (fun t => Answered s t h stBusy 0))

/-- R137: epochs are 16-bit values in serial arithmetic; epoch 0 means none, so of two epochs the other one stands. -/
def Obligations.EpochsCompareInSerial : Prop :=
  (∀ a b : Nat, a < 65536 → b < 65536 →
    (newer a b = true ↔ 1 ≤ ((a : Int) - b) % 65536 ∧ ((a : Int) - b) % 65536 ≤ 32767)) ∧
  (∀ a : Nat, newest 0 a = a ∧ newest a 0 = a) ∧
  (∀ a b : Nat, a ≠ 0 → b ≠ 0 → newest a b = if newer b a then b else a)

/-- R64, R91: a read of LE_INTEG_LO answers the integrator's low word and copies its high word into a shadow; LE_INTEG_HI then answers
that shadow, and, with no read of LE_INTEG_LO before it, the shadow's last contents. A read of LE_TAPER_FRAC, by its own row or by
any other read of its address, copies the integer part of the Taper position into the shadow that LE_TAPER_POS returns. -/
def Obligations.IntegratorAndTaperReadsLatch : Prop :=
  (∀ (k : Nat) (s : State), WellShaped s → s.bar0 = true → s.rc.recovery = false → k < s.part.slots →
    Completes (.loRead (0x00400218 + 0x400 * k) false) s (fun t =>
      t.out = .regRead (0x00400218 + 0x400 * k) (((s.slot k).integ % 2 ^ 32).toNat) :: s.out ∧
      t.regRead (0x0040021C + 0x400 * k) = ((s.slot k).integ / 2 ^ 32 % 2 ^ 32).toNat)) ∧
  (∀ (k : Nat) (s : State), s.bar0 = true → s.rc.recovery = false → k < s.part.slots →
    Completes (.loRead (0x0040021C + 0x400 * k) false) s (fun t =>
      t.out = .regRead (0x0040021C + 0x400 * k) (s.slot k).integShadow :: s.out ∧ t.slot k = s.slot k)) ∧
  (∀ (c : Instr) (k : Nat) (s : State), c = .leTaperFrac k ∨ (c = .loRead (0x00400314 + 0x400 * k) false ∧ s.bar0 = true) →
    WellShaped s → s.rc.recovery = false → k < s.part.slots →
    Completes c s (fun t =>
      t.out = .regRead (0x00400314 + 0x400 * k) ((s.slot k).taperPos % 2 ^ 16).toNat :: s.out ∧
      t.regRead (0x00400318 + 0x400 * k) = ((s.slot k).taperPos / 2 ^ 16 % 2 ^ 32).toNat))

/-- R16: a host write of 1 clears a W1C bit, but a bit that an event sets in the same cycle (`kept`) stays set. For every W1C bit of
the register maps. -/
def Obligations.KeptBitsStaySet : Prop :=
  ∀ (d kept : Reg) (s : State), WellShaped s → s.bar0 = true → s.rc.recovery = false →
    let keeps := fun k : Nat => !d.toNat.testBit k || kept.toNat.testBit k
    (∀ a, Completes (.w1cWrite a d kept) s (fun t => exec (.w1cWrite a (d &&& ~~~kept) 0) s = .next t)) ∧
    (∀ k, k < s.part.slots →
      Completes (.w1cWrite (0x00400200 + 0x400 * k) d kept) s (fun t =>
        (t.slot k).parity = ((s.slot k).parity && keeps 6) ∧ (t.slot k).sat = ((s.slot k).sat && keeps 5)) ∧
      Completes (.w1cWrite (0x00400320 + 0x400 * k) d kept) s (fun t =>
        (t.slot k).openTrip = ((s.slot k).openTrip && keeps 4) ∧ (t.slot k).feTrip = ((s.slot k).feTrip && keeps 3))) ∧
    (∀ g w p, g < 16 → w < 3 → p < 80 → (s.port p).isCell = true → (s.port p).group = g → p / 32 = w →
      Completes (.w1cWrite (0x00A00020 + 0x1000 * g + 4 * w) d kept) s (fun t =>
        (t.port p).imbFlag = ((s.port p).imbFlag && keeps (p % 32)))) ∧
    (∀ p, p < 80 → Completes (.w1cWrite (0x00800018 + 0x100 * p) d kept) s (fun t =>
      (t.port p).svcTimeout = ((s.port p).svcTimeout && keeps 2) ∧ (t.port p).lostSeen = ((s.port p).lostSeen && keeps 1))) ∧
    Completes (.w1cWrite 0x00A1000C d kept) s (fun t =>
      t.sh.burstReject = (s.sh.burstReject && keeps 6) ∧ t.sh.slewReject = (s.sh.slewReject && keeps 4) ∧
      t.sh.vsetReject = (s.sh.vsetReject && keeps 3) ∧ t.sh.superseded = (s.sh.superseded && keeps 2)) ∧
    Completes (.w1cWrite 0x00A10100 d kept) s (fun t =>
      t.sh.protReject = (s.sh.protReject && keeps 4) ∧ t.sh.shelfQuench = (s.sh.shelfQuench && keeps 1)) ∧
    Completes (.w1cWrite 0x00805000 d kept) s (fun t =>
      t.teth.deposed = (s.teth.deposed && keeps 3) ∧ t.teth.lostFlag = (s.teth.lostFlag && keeps 2)) ∧
    Completes (.w1cWrite 0x00C00000 d kept) s (fun t =>
      t.pl.seeded = (s.pl.seeded && keeps 9) ∧ t.pl.fcDropped = (s.pl.fcDropped && keeps 6)) ∧
    Completes (.w1cWrite 0x00D00008 d kept) s (fun t =>
      t.pf.parityFlag = (s.pf.parityFlag && keeps 8) ∧ t.pf.lostFlag = (s.pf.lostFlag && keeps 6)) ∧
    Completes (.w1cWrite 0x01800000 d kept) s (fun t => t.gv.conflict = (s.gv.conflict && keeps 1)) ∧
    Completes (.w1cWrite 0x01D00004 d kept) s (fun t => t.cr.preShort = (s.cr.preShort && keeps 3)) ∧
    Completes (.w1cWrite 0x01E00000 d kept) s (fun t =>
      t.ev.ringOverwrite = (s.ev.ringOverwrite && keeps 4) ∧ t.ev.restored = (s.ev.restored && keeps 1)) ∧
    Completes (.w1cWrite 0x00100018 d kept) s (fun t => t.rc.inRelease = (s.rc.inRelease && keeps 6)) ∧
    Completes (.w1cWrite 0x01F00000 d kept) s (fun t =>
      t.se.svnRaised = (s.se.svnRaised && keeps 5) ∧ t.se.imageBad = (s.se.imageBad && keeps 4)) ∧
    Completes (.w1cWrite 0x00000004 d kept) s (fun t =>
      t.pins.tripped = (s.pins.tripped && keeps 10) ∧ t.pins.ppsSeen = (s.pins.ppsSeen && keeps 7))
end

