-- ==== Sys2Proof/Laws/Memory.lean ====
section
/-!
SUPPORT. The laws of the sparse byte memories: what a write changes, and that every write keeps the canonical form.
-/

namespace Sys2Proof.Machine

open Sys2Proof

theorem Mem.read_write_same (d : Byte) (m : List Host.Cell) (a : Nat) (v : Byte) (lo : Option Nat)
    (h : Mem.wfFrom d lo m = true) : Mem.read d (Mem.write d m a v) a = v := by
  induction m generalizing lo with
  | nil => by_cases hv : v = d <;> simp [Mem.write, Mem.read, hv]
  | cons c r ih =>
    obtain ⟨k, b⟩ := c
    simp only [Mem.wfFrom, Bool.and_eq_true] at h
    have above : ∀ (r : List Host.Cell) (j : Nat), a ≤ j → Mem.wfFrom d (some j) r = true → Mem.read d r a = d := by
      intro r
      induction r with
      | nil => intros; rfl
      | cons c r ih =>
        obtain ⟨q, e⟩ := c
        intro j hj hw
        simp only [Mem.wfFrom, Bool.and_eq_true, decide_eq_true_eq] at hw
        have : ¬ a = q := by omega
        simp only [Mem.read, this, if_false]
        exact ih q (by omega) hw.2
    by_cases h1 : a < k
    · have h2 : ¬ a = k := by omega
      by_cases hv : v = d
      · simp only [Mem.write, h1, hv, if_true, Mem.read, h2, if_false]
        exact above r k (by omega) h.2
      · simp [Mem.write, h1, hv, Mem.read]
    · by_cases h2 : a = k
      · by_cases hv : v = d
        · simp only [Mem.write, h2, hv, if_true, if_false, Nat.lt_irrefl]
          exact h2 ▸ above r k (by omega) h.2
        · simp [Mem.write, h2, hv, Mem.read]
      · simp only [Mem.write, h1, h2, if_false, Mem.read]
        exact ih _ h.2

theorem Mem.read_write_other (d : Byte) (m : List Host.Cell) (a c : Nat) (v : Byte) (lo : Option Nat)
    (h : Mem.wfFrom d lo m = true) (hc : c ≠ a) : Mem.read d (Mem.write d m a v) c = Mem.read d m c := by
  induction m generalizing lo with
  | nil => by_cases hv : v = d <;> simp [Mem.write, Mem.read, hv, hc]
  | cons x r ih =>
    obtain ⟨k, b⟩ := x
    simp only [Mem.wfFrom, Bool.and_eq_true] at h
    by_cases h1 : a < k
    · by_cases hv : v = d <;> simp [Mem.write, h1, hv, Mem.read, hc]
    · by_cases h2 : a = k
      · have hk : c ≠ k := by omega
        by_cases hv : v = d <;> simp [Mem.write, h2, hv, Mem.read, hk]
      · simp only [Mem.write, h1, h2, if_false, Mem.read]
        rw [ih _ h.2]

theorem Mem.write_wfFrom (d : Byte) (m : List Host.Cell) (a : Nat) (v : Byte) (lo : Option Nat)
    (h : Mem.wfFrom d lo m = true) (hl : ∀ k, lo = some k → k < a) : Mem.wfFrom d lo (Mem.write d m a v) = true := by
  induction m generalizing lo with
  | nil =>
    by_cases hv : v = d
    · simp [Mem.write, Mem.wfFrom, hv]
    · simp only [Mem.write, hv, if_false, Mem.wfFrom, Bool.and_true, Bool.and_eq_true, bne_iff_ne, ne_eq, not_false_eq_true,
        and_true]
      cases lo with | none => rfl | some j => simpa using hl j rfl
  | cons x r ih =>
    obtain ⟨k, b⟩ := x
    have h' := h
    simp only [Mem.wfFrom, Bool.and_eq_true] at h
    by_cases h1 : a < k
    · by_cases hv : v = d
      · simpa [Mem.write, h1, hv] using h'
      · simp only [Mem.write, h1, hv, if_true, if_false, Mem.wfFrom, Bool.and_eq_true, decide_eq_true_eq, bne_iff_ne, ne_eq,
          not_false_eq_true, and_true]
        exact ⟨(by cases lo with | none => rfl | some j => simpa using hl j rfl), by simpa using h.1.2, h.2⟩
    · by_cases h2 : a = k
      · by_cases hv : v = d
        · simp only [Mem.write, h2, hv, if_true, if_false, Nat.lt_irrefl]
          have wk : ∀ (r : List Host.Cell), Mem.wfFrom d (some k) r = true → Mem.wfFrom d lo r = true := by
            intro r hr
            cases r with
            | nil => rfl
            | cons y r =>
              simp only [Mem.wfFrom, Bool.and_eq_true, decide_eq_true_eq] at hr ⊢
              refine ⟨⟨?_, hr.1.2⟩, hr.2⟩
              cases lo with
              | none => rfl
              | some j => have := hl j rfl; simp; omega
          exact wk r h.2
        · simp only [Mem.write, h2, hv, if_true, if_false, Nat.lt_irrefl, Mem.wfFrom, Bool.and_eq_true, bne_iff_ne, ne_eq,
            not_false_eq_true, and_true]
          exact ⟨h2 ▸ (by cases lo with | none => rfl | some j => simpa using hl j rfl), h.2⟩
      · simp only [Mem.write, h1, h2, if_false, Mem.wfFrom, Bool.and_eq_true]
        exact ⟨h.1, ih _ h.2 (fun j hj => by cases hj; omega)⟩

/-- A write keeps the canonical form. -/
theorem Mem.write_wf (d : Byte) (m : List Host.Cell) (a : Nat) (v : Byte) (h : Mem.wf d m = true) :
    Mem.wf d (Mem.write d m a v) = true := Mem.write_wfFrom d m a v none h (fun _ hk => by cases hk)

/-- So does a write of a byte string. -/
theorem Mem.writeN_wf (d : Byte) (m : List Host.Cell) (a : Nat) (b : Bytes) (h : Mem.wf d m = true) :
    Mem.wf d (Mem.writeN d m a b) = true := by
  induction b generalizing m a with
  | nil => exact h
  | cons v r ih => exact ih _ _ (Mem.write_wf d m a v h)

/-- A write of a byte string leaves every byte outside it. -/
theorem Mem.read_writeN_other (d : Byte) (m : List Host.Cell) (a c : Nat) (b : Bytes) (h : Mem.wf d m = true)
    (hc : c < a ∨ a + b.length ≤ c) : Mem.read d (Mem.writeN d m a b) c = Mem.read d m c := by
  induction b generalizing m a with
  | nil => rfl
  | cons v r ih =>
    simp only [List.length_cons] at hc
    rw [Mem.writeN, ih _ _ (Mem.write_wf d m a v h) (by omega), Mem.read_write_other d m a c v none h (by omega)]

/-- Byte k of a byte string just written reads back. -/
theorem Mem.read_writeN_at (d : Byte) (m : List Host.Cell) (a k : Nat) (b : Bytes) (h : Mem.wf d m = true)
    (hk : k < b.length) : Mem.read d (Mem.writeN d m a b) (a + k) = b[k] := by
  induction b generalizing m a k with
  | nil => simp at hk
  | cons v r ih =>
    cases k with
    | zero =>
      rw [Mem.writeN, Mem.read_writeN_other d _ _ _ _ (Mem.write_wf d m a v h) (by omega)]
      exact Mem.read_write_same d m a v none h
    | succ k =>
      have := ih (Mem.write d m a v) (a + 1) k (Mem.write_wf d m a v h) (by simpa using hk)
      rw [Mem.writeN, show a + (k + 1) = a + 1 + k by omega, this]
      rfl

/-- A byte string just written reads back whole. -/
theorem Mem.readN_writeN (d : Byte) (m : List Host.Cell) (a : Nat) (b : Bytes) (h : Mem.wf d m = true) :
    Mem.readN d (Mem.writeN d m a b) a b.length = b := by
  apply List.ext_getElem
  · simp [Mem.readN]
  · intro k h1 h2
    simp only [Mem.readN, List.getElem_map, List.getElem_range]
    exact Mem.read_writeN_at d m a k b h h2

/-! ### Replay of outputs -/

theorem replay_append (l k : List Output) (m : List Host.Cell) : replay (l ++ k) m = replay l (replay k m) := by
  induction l with
  | nil => rfl
  | cons o l ih => cases o <;> simp only [List.cons_append, replay, ih]

theorem replay_wf (l : List Output) (m : List Host.Cell) (h : Mem.wf 0 m = true) : Mem.wf 0 (replay l m) = true := by
  induction l with
  | nil => exact h
  | cons o l ih => cases o <;> simp only [replay] <;> first | exact ih | exact Mem.writeN_wf 0 _ _ _ ih

end Sys2Proof.Machine
end

