-- ==== Sys2Proof/Laws/Touch.lean ====
section
/-!
SUPPORT. What an operation may touch, said once per operation: the fields of the state it leaves alone, that everything it
writes to host memory is also put out, and that it keeps the state well shaped.
-/

namespace Sys2Proof.Machine

open Sys2Proof

/-- From `s` to `t` only fields whose bit is set in `F` change; the part and the queue of waiting commands never do. Bit k
is the k-th field of State. -/
structure Touch (F : Nat) (s t : State) : Prop where
  part : t.part = s.part
  pending : t.pending = s.pending
  clk : F.testBit 1 = true ∨ t.clk = s.clk
  role : F.testBit 2 = true ∨ t.role = s.role
  teth : F.testBit 3 = true ∨ t.teth = s.teth
  le : F.testBit 4 = true ∨ t.le = s.le
  ports : F.testBit 5 = true ∨ t.ports = s.ports
  groups : F.testBit 6 = true ∨ t.groups = s.groups
  sh : F.testBit 7 = true ∨ t.sh = s.sh
  pf : F.testBit 8 = true ∨ t.pf = s.pf
  pl : F.testBit 9 = true ∨ t.pl = s.pl
  gn : F.testBit 10 = true ∨ t.gn = s.gn
  gv : F.testBit 11 = true ∨ t.gv = s.gv
  cr : F.testBit 12 = true ∨ t.cr = s.cr
  cal : F.testBit 13 = true ∨ t.cal = s.cal
  ev : F.testBit 14 = true ∨ t.ev = s.ev
  rc : F.testBit 15 = true ∨ t.rc = s.rc
  hq : F.testBit 16 = true ∨ t.hq = s.hq
  se : F.testBit 17 = true ∨ t.se = s.se
  pins : F.testBit 18 = true ∨ t.pins = s.pins
  checkpoint : F.testBit 19 = true ∨ t.checkpoint = s.checkpoint
  hdma : F.testBit 21 = true ∨ t.hdma = s.hdma
  free : F.testBit 22 = true ∨ t.free = s.free
  out : F.testBit 23 = true ∨ t.out = s.out
  host : ∃ l, t.out = l ++ s.out ∧ t.hostMem = replay l s.hostMem
  shape : WellShaped s → WellShaped t

theorem Touch.refl (F : Nat) (s : State) : Touch F s s where
  part := rfl
  pending := rfl
  clk := .inr rfl
  role := .inr rfl
  teth := .inr rfl
  le := .inr rfl
  ports := .inr rfl
  groups := .inr rfl
  sh := .inr rfl
  pf := .inr rfl
  pl := .inr rfl
  gn := .inr rfl
  gv := .inr rfl
  cr := .inr rfl
  cal := .inr rfl
  ev := .inr rfl
  rc := .inr rfl
  hq := .inr rfl
  se := .inr rfl
  pins := .inr rfl
  checkpoint := .inr rfl
  hdma := .inr rfl
  free := .inr rfl
  out := .inr rfl
  host := ⟨[], rfl, rfl⟩
  shape := id

theorem touch_bit {F G : Nat} (h : G ||| F = F) (k : Nat) (b : G.testBit k = true) : F.testBit k = true := by
  rw [← h, Nat.testBit_or, b, Bool.true_or]

/-- A step that touches no more than `F` is added to a run that touches `F`. -/
theorem Touch.step {F G : Nat} {s t v : State} (h : Touch F s t) (g : Touch G t v) (hG : G ||| F = F) : Touch F s v where
  part := g.part.trans h.part
  pending := g.pending.trans h.pending
  clk := g.clk.elim (fun b => .inl (touch_bit hG 1 b)) (fun e => h.clk.imp id (e.trans ·))
  role := g.role.elim (fun b => .inl (touch_bit hG 2 b)) (fun e => h.role.imp id (e.trans ·))
  teth := g.teth.elim (fun b => .inl (touch_bit hG 3 b)) (fun e => h.teth.imp id (e.trans ·))
  le := g.le.elim (fun b => .inl (touch_bit hG 4 b)) (fun e => h.le.imp id (e.trans ·))
  ports := g.ports.elim (fun b => .inl (touch_bit hG 5 b)) (fun e => h.ports.imp id (e.trans ·))
  groups := g.groups.elim (fun b => .inl (touch_bit hG 6 b)) (fun e => h.groups.imp id (e.trans ·))
  sh := g.sh.elim (fun b => .inl (touch_bit hG 7 b)) (fun e => h.sh.imp id (e.trans ·))
  pf := g.pf.elim (fun b => .inl (touch_bit hG 8 b)) (fun e => h.pf.imp id (e.trans ·))
  pl := g.pl.elim (fun b => .inl (touch_bit hG 9 b)) (fun e => h.pl.imp id (e.trans ·))
  gn := g.gn.elim (fun b => .inl (touch_bit hG 10 b)) (fun e => h.gn.imp id (e.trans ·))
  gv := g.gv.elim (fun b => .inl (touch_bit hG 11 b)) (fun e => h.gv.imp id (e.trans ·))
  cr := g.cr.elim (fun b => .inl (touch_bit hG 12 b)) (fun e => h.cr.imp id (e.trans ·))
  cal := g.cal.elim (fun b => .inl (touch_bit hG 13 b)) (fun e => h.cal.imp id (e.trans ·))
  ev := g.ev.elim (fun b => .inl (touch_bit hG 14 b)) (fun e => h.ev.imp id (e.trans ·))
  rc := g.rc.elim (fun b => .inl (touch_bit hG 15 b)) (fun e => h.rc.imp id (e.trans ·))
  hq := g.hq.elim (fun b => .inl (touch_bit hG 16 b)) (fun e => h.hq.imp id (e.trans ·))
  se := g.se.elim (fun b => .inl (touch_bit hG 17 b)) (fun e => h.se.imp id (e.trans ·))
  pins := g.pins.elim (fun b => .inl (touch_bit hG 18 b)) (fun e => h.pins.imp id (e.trans ·))
  checkpoint := g.checkpoint.elim (fun b => .inl (touch_bit hG 19 b)) (fun e => h.checkpoint.imp id (e.trans ·))
  hdma := g.hdma.elim (fun b => .inl (touch_bit hG 21 b)) (fun e => h.hdma.imp id (e.trans ·))
  free := g.free.elim (fun b => .inl (touch_bit hG 22 b)) (fun e => h.free.imp id (e.trans ·))
  out := g.out.elim (fun b => .inl (touch_bit hG 23 b)) (fun e => h.out.imp id (e.trans ·))
  host := by
    obtain ⟨l, a, b⟩ := h.host
    obtain ⟨k, c, d⟩ := g.host
    exact ⟨k ++ l, by rw [c, a, List.append_assoc], by rw [d, b, replay_append]⟩
  shape := fun w => g.shape (h.shape w)

/-- A wider footprint. -/
theorem Touch.mono {F G : Nat} {s t : State} (g : Touch G s t) (hG : G ||| F = F) : Touch F s t :=
  (Touch.refl F s).step g hG

/-- A record update: the fields that differ have their bit, and the shape is kept. -/
theorem Touch.update {F : Nat} {s t : State} (h : Touch F s t) {clk : Clock} {role : Role} {teth : Tether} {le : LoopEngine} {ports : List Port}
    {groups : List Group} {sh : Shelf} {pf : Profile} {pl : Planisher} {gn : Gulene} {gv : Governor}
    {cr : Crucible} {cal : CalPage} {ev : Recorder} {rc : ResetCtl} {hq : HostIf} {se : Security}
    {pins : Pins} {checkpoint : Option StateCopy} {hdma : List Host.Cell} {free : Nat}
    (h1 : F.testBit 1 = true ∨ clk = t.clk)
    (h2 : F.testBit 2 = true ∨ role = t.role)
    (h3 : F.testBit 3 = true ∨ teth = t.teth)
    (h4 : F.testBit 4 = true ∨ le = t.le)
    (h5 : F.testBit 5 = true ∨ ports = t.ports)
    (h6 : F.testBit 6 = true ∨ groups = t.groups)
    (h7 : F.testBit 7 = true ∨ sh = t.sh)
    (h8 : F.testBit 8 = true ∨ pf = t.pf)
    (h9 : F.testBit 9 = true ∨ pl = t.pl)
    (h10 : F.testBit 10 = true ∨ gn = t.gn)
    (h11 : F.testBit 11 = true ∨ gv = t.gv)
    (h12 : F.testBit 12 = true ∨ cr = t.cr)
    (h13 : F.testBit 13 = true ∨ cal = t.cal)
    (h14 : F.testBit 14 = true ∨ ev = t.ev)
    (h15 : F.testBit 15 = true ∨ rc = t.rc)
    (h16 : F.testBit 16 = true ∨ hq = t.hq)
    (h17 : F.testBit 17 = true ∨ se = t.se)
    (h18 : F.testBit 18 = true ∨ pins = t.pins)
    (h19 : F.testBit 19 = true ∨ checkpoint = t.checkpoint)
    (h21 : F.testBit 21 = true ∨ hdma = t.hdma)
    (h22 : F.testBit 22 = true ∨ free = t.free)
    (hw : WellShaped t → WellShaped ⟨t.part, clk, role, teth, le, ports, groups, sh, pf, pl, gn, gv, cr,
      cal, ev, rc, hq, se, pins, checkpoint, t.hostMem, hdma, free, t.out, t.pending⟩) :
    Touch F s ⟨t.part, clk, role, teth, le, ports, groups, sh, pf, pl, gn, gv, cr,
      cal, ev, rc, hq, se, pins, checkpoint, t.hostMem, hdma, free, t.out, t.pending⟩ :=
  h.step (G := F)
    { part := rfl, pending := rfl, clk := h1, role := h2, teth := h3, le := h4, ports := h5, groups := h6, sh := h7,
      pf := h8, pl := h9, gn := h10, gv := h11, cr := h12, cal := h13, ev := h14,
      rc := h15, hq := h16, se := h17, pins := h18, checkpoint := h19, hdma := h21, free := h22,
      out := .inr rfl, host := ⟨[], rfl, rfl⟩, shape := hw } (Nat.or_self F)

theorem Touch.foldl {α : Type} {F : Nat} {s t : State} {f : State → α → State} {l : List α} (h : Touch F s t)
    (hf : ∀ v a, Touch F v (f v a)) : Touch F s (l.foldl f t) := by
  induction l generalizing t with
  | nil => exact h
  | cons a l ih => exact ih (h.step (hf t a) (Nat.or_self F))

/-- The same for a fold that carries something beside the state. -/
theorem Touch.foldlFst {α β : Type} {F : Nat} {s : State} {t : State × β} {f : State × β → α → State × β} {l : List α}
    (h : Touch F s t.1) (hf : ∀ v a, Touch F v.1 (f v a).1) : Touch F s (l.foldl f t).1 := by
  induction l generalizing t with
  | nil => exact h
  | cons a l ih => exact ih (h.step (hf t a) (Nat.or_self F))

theorem Touch.cond {F : Nat} {s a b : State} {c : Prop} [Decidable c] (ha : Touch F s a) (hb : Touch F s b) :
    Touch F s (if c then a else b) := by
  split <;> assumption

/-- A command answers a next state, and touches no more than `F` on the way. -/
def Goes (F : Nat) (s : State) (o : Host.Outcome State Fault Refusal) : Prop := ∃ t, o = .next t ∧ Touch F s t

theorem Goes.next {F : Nat} {s t : State} (h : Touch F s t) : Goes F s (.next t) := ⟨t, rfl, h⟩

theorem Goes.mono {F G : Nat} {s : State} {o : Host.Outcome State Fault Refusal} (h : Goes G s o) (hG : G ||| F = F) :
    Goes F s o := by
  obtain ⟨t, e, h⟩ := h
  exact ⟨t, e, h.mono hG⟩

/-- A command run after an operation. -/
theorem Goes.after {F G : Nat} {s t : State} {o : Host.Outcome State Fault Refusal} (h : Touch F s t) (g : Goes G t o)
    (hG : G ||| F = F) : Goes F s o := by
  obtain ⟨v, e, g⟩ := g
  exact ⟨v, e, h.step g hG⟩

theorem Goes.cond {F : Nat} {s : State} {a b : Host.Outcome State Fault Refusal} {c : Prop} [Decidable c]
    (ha : Goes F s a) (hb : Goes F s b) : Goes F s (if c then a else b) := by
  split <;> assumption

theorem upd_length {α : Type} (l : List α) (k : Nat) (f : α → α) : (upd l k f).length = l.length := by
  simp [upd]

end Sys2Proof.Machine
end

