-- ==== Sys2Proof/Laws/TouchOps.lean ====
section
/-!
SUPPORT. What the shared operations of Machine/Ops.lean touch.
-/

namespace Sys2Proof.Machine

open Sys2Proof

/-- From `h` to `k` everything written to host memory is put out; the number of queues and the ledger stay. -/
structure HostTouch (h k : HostSide) : Prop where
  host : ∃ l, k.out = l ++ h.out ∧ k.mem = replay l h.mem
  queues : k.hq.queues.length = h.hq.queues.length
  ledger : k.hq.ledger = h.hq.ledger

theorem HostTouch.refl (h : HostSide) : HostTouch h h := ⟨⟨[], rfl, rfl⟩, rfl, rfl⟩

theorem HostTouch.trans {h k l : HostSide} (a : HostTouch h k) (b : HostTouch k l) : HostTouch h l := by
  obtain ⟨x, p, q⟩ := a.host
  obtain ⟨y, r, t⟩ := b.host
  exact ⟨⟨y ++ x, by rw [r, p, List.append_assoc], by rw [t, q, replay_append]⟩, b.queues.trans a.queues,
    b.ledger.trans a.ledger⟩

theorem HostTouch.hq {h k : HostSide} (a : HostTouch h k) {x : HostIf} (q : x.queues.length = k.hq.queues.length)
    (l : x.ledger = k.hq.ledger) : HostTouch h { k with hq := x } :=
  a.trans ⟨⟨[], rfl, rfl⟩, q, l⟩

theorem HostTouch.msg {h k : HostSide} (a : HostTouch h k) (x d : Nat) : HostTouch h { k with out := .msix x d :: k.out } :=
  a.trans ⟨⟨[.msix x d], rfl, rfl⟩, rfl, rfl⟩

theorem HostTouch.note {h k : HostSide} (a : HostTouch h k) (t s f q i r : Nat) :
    HostTouch h { k with out := .completion t s f q i r :: k.out } :=
  a.trans ⟨⟨[.completion t s f q i r], rfl, rfl⟩, rfl, rfl⟩

theorem HostTouch.write {h k : HostSide} (t : HostTouch h k) (a : Nat) (b : Bytes) : HostTouch h (k.write a b) :=
  t.trans ⟨⟨[.hostWrite (a % 2 ^ 64) b], rfl, rfl⟩, rfl, rfl⟩

theorem HostTouch.writeBack {h k : HostSide} (t : HostTouch h k) (off v : Nat) : HostTouch h (k.writeBack off v) :=
  t.write _ _

theorem HostTouch.msix {h k : HostSide} (t : HostTouch h k) (v : Nat) : HostTouch h (k.msix v) := by
  unfold HostSide.msix
  dsimp only
  split
  · refine HostTouch.hq t ?_ ?_ <;> rfl
  · exact t.msg _ _

theorem HostTouch.signalCq {h k : HostSide} (t : HostTouch h k) (q : Nat) : HostTouch h (k.signalCq q) := by
  unfold HostSide.signalCq
  dsimp only
  split
  · refine HostTouch.msix (HostTouch.hq t ?_ ?_) _
    · exact upd_length _ _ _
    · rfl
  · exact t

theorem HostTouch.signalEq {h k : HostSide} (t : HostTouch h k) (b : Bool) : HostTouch h (k.signalEq b) := by
  unfold HostSide.signalEq
  dsimp only
  split
  · refine HostTouch.msix (HostTouch.hq t ?_ ?_) _ <;> rfl
  · exact t

theorem HostTouch.postCompletion {h k : HostSide} (t : HostTouch h k) (cq tag st fl q ix r : Nat) :
    HostTouch h (k.postCompletion cq tag st fl q ix r) := by
  unfold HostSide.postCompletion
  dsimp only
  split
  · refine HostTouch.signalCq (HostTouch.writeBack (HostTouch.hq ((t.note _ _ _ _ _ _).write _ _) ?_ ?_) _ _) _
    · exact upd_length _ _ _
    · rfl
  · exact t.note _ _ _ _ _ _

theorem HostTouch.complete1 {h k : HostSide} (t : HostTouch h k) (b : Bool) (c : CmdHdr) (st r : Nat) :
    HostTouch h (k.complete1 b c st r) := by
  refine HostTouch.hq (t.postCompletion _ _ _ _ _ _ _) ?_ ?_ <;> rfl

theorem HostTouch.settleDeletes {h k : HostSide} (n : Nat) (b : Bool) (t : HostTouch h k) :
    HostTouch h (HostSide.settleDeletes n b k) := by
  induction n generalizing k with
  | zero => exact t
  | succ n ih =>
    unfold HostSide.settleDeletes
    split
    · refine ih (HostTouch.complete1 (HostTouch.hq t ?_ ?_) _ _ _ _)
      · exact List.length_set ..
      · rfl
    · exact t

theorem HostTouch.complete {h k : HostSide} (t : HostTouch h k) (b : Bool) (c : CmdHdr) (st r : Nat) :
    HostTouch h (k.complete b c st r) := (t.complete1 b c st r).settleDeletes 4 b

theorem HostTouch.postEvent {h k : HostSide} (t : HostTouch h k) (r : Rec) : HostTouch h (k.postEvent r) := by
  refine HostTouch.signalEq (HostTouch.writeBack (HostTouch.hq (t.write _ _) ?_ ?_) _ _) _ <;> rfl

theorem HostTouch.queueEvent {h k : HostSide} (t : HostTouch h k) (m : Nat) (r : Rec) : HostTouch h (k.queueEvent m r) := by
  unfold HostSide.queueEvent
  dsimp only
  split
  · exact t
  · split
    · exact t.postEvent r
    · refine HostTouch.hq t ?_ ?_ <;> rfl

/-- The host side put back: fields 16 (hq) and 23 (out, with the host memory). -/
theorem withHost_touch (s : State) {h : HostSide} (t : HostTouch s.hostSide h) : Touch 0x810000 s (s.withHost h) where
  part := rfl
  pending := rfl
  clk := .inr rfl
  role := .inr rfl
  teth := .inr rfl
  le := .inr rfl
  ports := .inr rfl
  groups := .inr rfl
  sh := .inr rfl
  pf := .inr rfl
  pl := .inr rfl
  gn := .inr rfl
  gv := .inr rfl
  cr := .inr rfl
  cal := .inr rfl
  ev := .inr rfl
  rc := .inr rfl
  hq := .inl rfl
  se := .inr rfl
  pins := .inr rfl
  checkpoint := .inr rfl
  hdma := .inr rfl
  free := .inr rfl
  out := .inl rfl
  host := t.host
  shape := fun w => by
    obtain ⟨l, _, m⟩ := t.host
    have q : h.hq.queues.length = s.hq.queues.length := t.queues
    have g : h.hq.ledger = s.hq.ledger := t.ledger
    have e : Mem.wf 0 h.mem = true := by rw [show h.mem = replay l s.hostMem from m]; exact replay_wf l _ w.host
    exact ⟨w.ports, w.groups, w.slots, w.pipes, q.trans w.queues, w.ring, w.received, g ▸ w.ledger, e, w.hdma⟩

theorem State.emit_touch (s : State) (o : Output) (ho : replay [o] s.hostMem = s.hostMem := by rfl) :
    Touch 0x800000 s (s.emit o) where
  part := rfl
  pending := rfl
  clk := .inr rfl
  role := .inr rfl
  teth := .inr rfl
  le := .inr rfl
  ports := .inr rfl
  groups := .inr rfl
  sh := .inr rfl
  pf := .inr rfl
  pl := .inr rfl
  gn := .inr rfl
  gv := .inr rfl
  cr := .inr rfl
  cal := .inr rfl
  ev := .inr rfl
  rc := .inr rfl
  hq := .inr rfl
  se := .inr rfl
  pins := .inr rfl
  checkpoint := .inr rfl
  hdma := .inr rfl
  free := .inr rfl
  out := .inl rfl
  host := ⟨[o], rfl, ho.symm⟩
  shape := fun w => ⟨w.1, w.2, w.3, w.4, w.5, w.6, w.7, w.8, w.9, w.10⟩

theorem State.complete_touch (s : State) (c : CmdHdr) (status result : Nat) :
    Touch 0x810000 s (s.complete c status result) :=
  withHost_touch s ((HostTouch.refl s.hostSide).complete _ _ _ _)

theorem State.completeWhere_touch (s : State) (p : Wait → Bool) (status result : Nat) :
    Touch 0x810000 s (s.completeWhere p status result) :=
  (Touch.refl _ s).foldl (fun v a => v.complete_touch a status result)

theorem Recorder.push_ring (e : Recorder) (r : Rec) (h : e.ring.length ≤ 1024) : (e.push r).ring.length ≤ 1024 := by
  simp only [Recorder.push, List.length_drop, List.length_append, List.length_singleton]
  omega

/-- EVENT_RECORD touches the recorder, the host interface and host memory. -/
theorem State.record_touch (s : State) (code sev kind subject : Nat) (payload : Bytes) :
    Touch 0x814000 s (s.record code sev kind subject payload) := by
  have h := withHost_touch s ((HostTouch.refl s.hostSide).queueEvent s.ev.minSev (s.mkRec code sev kind subject payload))
  unfold State.record
  with_reducible apply Touch.update (h.mono (F := 0x814000) rfl)
  all_goals first
    | exact Or.inl rfl
    | with_reducible exact Or.inr rfl
    | exact fun w => ⟨w.1, w.2, w.3, w.4, w.5, Recorder.push_ring _ _ w.ring, w.7, w.8, w.9, w.10⟩

theorem State.bufWrite_touch (s : State) (b : Buf) (data : Bytes) : Touch 0xA10000 s (s.bufWrite b data) := by
  unfold State.bufWrite
  split
  · with_reducible apply Touch.update (Touch.refl _ s)
    all_goals first
      | exact Or.inl rfl
      | with_reducible exact Or.inr rfl
      | exact fun w => ⟨w.1, w.2, w.3, w.4, w.5, w.6, w.7, w.8, w.9, Mem.writeN_wf 0 _ _ _ w.hdma⟩
  · exact (withHost_touch s ((HostTouch.refl s.hostSide).write _ _)).mono rfl

theorem State.setSlot_touch (s : State) (k : Nat) (f : Slot → Slot) : Touch 0x10 s (s.setSlot k f) := by
  unfold State.setSlot
  with_reducible apply Touch.update (Touch.refl _ s)
  all_goals first
    | exact Or.inl rfl
    | with_reducible exact Or.inr rfl
    | exact fun w => ⟨w.1, w.2, (upd_length _ _ _).trans w.3, w.4, w.5, w.6, w.7, w.8, w.9, w.10⟩

theorem State.setPort_touch (s : State) (p : Nat) (f : Port → Port) : Touch 0x20 s (s.setPort p f) := by
  unfold State.setPort
  with_reducible apply Touch.update (Touch.refl _ s)
  all_goals first
    | exact Or.inl rfl
    | with_reducible exact Or.inr rfl
    | exact fun w => ⟨(upd_length _ _ _).trans w.1, w.2, w.3, w.4, w.5, w.6, w.7, w.8, w.9, w.10⟩

theorem State.setGroup_touch (s : State) (g : Nat) (f : Group → Group) : Touch 0x40 s (s.setGroup g f) := by
  unfold State.setGroup
  with_reducible apply Touch.update (Touch.refl _ s)
  all_goals first
    | exact Or.inl rfl
    | with_reducible exact Or.inr rfl
    | exact fun w => ⟨w.1, (upd_length _ _ _).trans w.2, w.3, w.4, w.5, w.6, w.7, w.8, w.9, w.10⟩

theorem State.mapPorts_touch (s : State) (f : Port → Port) : Touch 0x20 s (s.mapPorts f) := by
  unfold State.mapPorts
  with_reducible apply Touch.update (Touch.refl _ s)
  all_goals first
    | exact Or.inl rfl
    | with_reducible exact Or.inr rfl
    | exact fun w => ⟨(List.length_map _).trans w.1, w.2, w.3, w.4, w.5, w.6, w.7, w.8, w.9, w.10⟩

theorem State.mapGroups_touch (s : State) (f : Group → Group) : Touch 0x40 s (s.mapGroups f) := by
  unfold State.mapGroups
  with_reducible apply Touch.update (Touch.refl _ s)
  all_goals first
    | exact Or.inl rfl
    | with_reducible exact Or.inr rfl
    | exact fun w => ⟨w.1, (List.length_map _).trans w.2, w.3, w.4, w.5, w.6, w.7, w.8, w.9, w.10⟩

/-- What a started command touches beside what its own act does: Quiet (rc) and its completion. -/
theorem State.start_touch {F : Nat} (s : State) (h : CmdHdr) (c : Cmd) (act : State → State) (hF : 0x818000 ||| F = F)
    (ha : ∀ v, Touch F v (act v)) : Touch F s (s.start h c act) := by
  have q : Touch F s (if wakes c.op then s.leaveQuiet else s) := by
    split
    · refine Touch.mono (G := 0x8000) ?_ (by rw [← hF, ← Nat.or_assoc]; rfl)
      unfold State.leaveQuiet
      split
      · with_reducible apply Touch.update (Touch.refl _ s)
        all_goals first
          | with_reducible exact Or.inr rfl
          | exact Or.inl rfl
          | exact fun w => ⟨w.1, w.2, w.3, w.4, w.5, w.6, w.7, w.8, w.9, w.10⟩
      · exact Touch.refl _ _
    · exact Touch.refl _ _
  have done : ∀ (v : State) (st r : Nat), Touch F v (v.complete h st r) := fun v st r =>
    (v.complete_touch h st r).mono (by rw [← hF, ← Nat.or_assoc]; rfl)
  unfold State.start
  dsimp only
  split
  · exact q.step (done _ _ _) (Nat.or_self F)
  · split
    · exact q.step (done _ _ _) (Nat.or_self F)
    · exact q.step (ha _) (Nat.or_self F)

end Sys2Proof.Machine
end

