-- ==== Sys2Proof/Laws/TouchShared.lean ====
section
/-!
SUPPORT. What the operations of Machine/Ops.lean touch.
-/

namespace Sys2Proof.Machine

open Sys2Proof

theorem State.rewait_touch (s : State) (c : CmdHdr) (w : Wait) :
    Touch 0x10000 s (State.rewait s c w) := by
  unfold State.rewait
  try dsimp only
  repeat' first
    | with_reducible apply Touch.refl
    | ((with_reducible apply Touch.foldl); rotate_left; intro v a; try dsimp only)
    | ((with_reducible apply Touch.foldlFst); rotate_left; intro v a; try dsimp only)
    | with_reducible apply Touch.cond
    | split
    | (with_reducible apply Touch.update) <;> first
      | exact Or.inl rfl
      | with_reducible exact Or.inr rfl
      | with_reducible exact fun w => ⟨w.1, w.2, w.3, w.4, w.5, w.6, w.7, w.8, w.9, w.10⟩
      | skip

theorem State.replaceRecord_touch (s : State) (cause kind subject : Nat) (raised : Bool) :
    Touch 0x814000 s (State.replaceRecord s cause kind subject raised) := by
  unfold State.replaceRecord
  try dsimp only
  repeat' first
    | with_reducible apply Touch.refl
    | ((with_reducible apply Touch.step); rotate_left; (first
        | with_reducible apply State.record_touch); exact rfl)
    | ((with_reducible apply Touch.foldl); rotate_left; intro v a; try dsimp only)
    | ((with_reducible apply Touch.foldlFst); rotate_left; intro v a; try dsimp only)
    | with_reducible apply Touch.cond
    | split
    | (with_reducible apply Touch.update) <;> first
      | exact Or.inl rfl
      | with_reducible exact Or.inr rfl
      | with_reducible exact fun w => ⟨w.1, w.2, w.3, w.4, w.5, w.6, w.7, w.8, w.9, w.10⟩
      | skip

theorem State.raiseCause_touch (s : State) (cause kind subject : Nat) :
    Touch 0x814000 s (State.raiseCause s cause kind subject) := by
  unfold State.raiseCause
  try dsimp only
  repeat' first
    | with_reducible apply Touch.refl
    | ((with_reducible apply Touch.step); rotate_left; (first
        | with_reducible apply State.replaceRecord_touch); exact rfl)
    | ((with_reducible apply Touch.foldl); rotate_left; intro v a; try dsimp only)
    | ((with_reducible apply Touch.foldlFst); rotate_left; intro v a; try dsimp only)
    | with_reducible apply Touch.cond
    | split
    | (with_reducible apply Touch.update) <;> first
      | exact Or.inl rfl
      | with_reducible exact Or.inr rfl
      | with_reducible exact fun w => ⟨w.1, w.2, w.3, w.4, w.5, w.6, w.7, w.8, w.9, w.10⟩
      | skip

theorem State.clearCause_touch (s : State) (cause kind subject : Nat) :
    Touch 0x814000 s (State.clearCause s cause kind subject) := by
  unfold State.clearCause
  try dsimp only
  repeat' first
    | with_reducible apply Touch.refl
    | ((with_reducible apply Touch.step); rotate_left; (first
        | with_reducible apply State.replaceRecord_touch); exact rfl)
    | ((with_reducible apply Touch.foldl); rotate_left; intro v a; try dsimp only)
    | ((with_reducible apply Touch.foldlFst); rotate_left; intro v a; try dsimp only)
    | with_reducible apply Touch.cond
    | split
    | (with_reducible apply Touch.update) <;> first
      | exact Or.inl rfl
      | with_reducible exact Or.inr rfl
      | with_reducible exact fun w => ⟨w.1, w.2, w.3, w.4, w.5, w.6, w.7, w.8, w.9, w.10⟩
      | skip

theorem State.raisePort_touch (s : State) (cause p : Nat) :
    Touch 0x814000 s (State.raisePort s cause p) := by
  unfold State.raisePort
  try dsimp only
  repeat' first
    | with_reducible apply Touch.refl
    | ((with_reducible apply Touch.step); rotate_left; (first
        | with_reducible apply State.replaceRecord_touch); exact rfl)
    | ((with_reducible apply Touch.foldl); rotate_left; intro v a; try dsimp only)
    | ((with_reducible apply Touch.foldlFst); rotate_left; intro v a; try dsimp only)
    | with_reducible apply Touch.cond
    | split
    | (with_reducible apply Touch.update) <;> first
      | exact Or.inl rfl
      | with_reducible exact Or.inr rfl
      | with_reducible exact fun w => ⟨w.1, w.2, w.3, w.4, w.5, w.6, w.7, w.8, w.9, w.10⟩
      | skip

theorem State.clearPort_touch (s : State) (cause p : Nat) :
    Touch 0x814000 s (State.clearPort s cause p) := by
  unfold State.clearPort
  try dsimp only
  repeat' first
    | with_reducible apply Touch.refl
    | ((with_reducible apply Touch.step); rotate_left; (first
        | with_reducible apply State.replaceRecord_touch); exact rfl)
    | ((with_reducible apply Touch.foldl); rotate_left; intro v a; try dsimp only)
    | ((with_reducible apply Touch.foldlFst); rotate_left; intro v a; try dsimp only)
    | with_reducible apply Touch.cond
    | split
    | (with_reducible apply Touch.update) <;> first
      | exact Or.inl rfl
      | with_reducible exact Or.inr rfl
      | with_reducible exact fun w => ⟨w.1, w.2, w.3, w.4, w.5, w.6, w.7, w.8, w.9, w.10⟩
      | skip

theorem State.leaveQuiet_touch (s : State) :
    Touch 0x8000 s (State.leaveQuiet s) := by
  unfold State.leaveQuiet
  try dsimp only
  repeat' first
    | with_reducible apply Touch.refl
    | ((with_reducible apply Touch.foldl); rotate_left; intro v a; try dsimp only)
    | ((with_reducible apply Touch.foldlFst); rotate_left; intro v a; try dsimp only)
    | with_reducible apply Touch.cond
    | split
    | (with_reducible apply Touch.update) <;> first
      | exact Or.inl rfl
      | with_reducible exact Or.inr rfl
      | with_reducible exact fun w => ⟨w.1, w.2, w.3, w.4, w.5, w.6, w.7, w.8, w.9, w.10⟩
      | skip

theorem State.await_touch (s : State) (h : CmdHdr) (op : Nat) (w : Wait) :
    Touch 0x10000 s (State.await s h op w) := by
  unfold State.await
  try dsimp only
  repeat' first
    | with_reducible apply Touch.refl
    | ((with_reducible apply Touch.foldl); rotate_left; intro v a; try dsimp only)
    | ((with_reducible apply Touch.foldlFst); rotate_left; intro v a; try dsimp only)
    | with_reducible apply Touch.cond
    | split
    | (with_reducible apply Touch.update) <;> first
      | exact Or.inl rfl
      | with_reducible exact Or.inr rfl
      | with_reducible exact fun w => ⟨w.1, w.2, w.3, w.4, w.5, w.6, w.7, w.8, w.9, w.10⟩
      | skip

theorem State.done_touch (s : State) (h : CmdHdr) (status result : Nat) :
    Touch 0x810000 s (State.done s h status result) := by
  unfold State.done
  try dsimp only
  repeat' first
    | with_reducible apply Touch.refl
    | ((with_reducible apply Touch.step); rotate_left; (first
        | with_reducible apply State.complete_touch); exact rfl)
    | ((with_reducible apply Touch.foldl); rotate_left; intro v a; try dsimp only)
    | ((with_reducible apply Touch.foldlFst); rotate_left; intro v a; try dsimp only)
    | with_reducible apply Touch.cond
    | split
    | (with_reducible apply Touch.update) <;> first
      | exact Or.inl rfl
      | with_reducible exact Or.inr rfl
      | with_reducible exact fun w => ⟨w.1, w.2, w.3, w.4, w.5, w.6, w.7, w.8, w.9, w.10⟩
      | skip

theorem State.freeBit_touch (s : State) :
    Touch 0x400000 s (State.freeBit s).2 := by
  unfold State.freeBit
  try dsimp only
  repeat' first
    | with_reducible apply Touch.refl
    | ((with_reducible apply Touch.foldl); rotate_left; intro v a; try dsimp only)
    | ((with_reducible apply Touch.foldlFst); rotate_left; intro v a; try dsimp only)
    | with_reducible apply Touch.cond
    | split
    | (with_reducible apply Touch.update) <;> first
      | exact Or.inl rfl
      | with_reducible exact Or.inr rfl
      | with_reducible exact fun w => ⟨w.1, w.2, w.3, w.4, w.5, w.6, w.7, w.8, w.9, w.10⟩
      | skip

theorem State.freeNat_touch (s : State) :
    Touch 0x400000 s (State.freeNat s).2 := by
  unfold State.freeNat
  try dsimp only
  repeat' first
    | with_reducible apply Touch.refl
    | ((with_reducible apply Touch.foldl); rotate_left; intro v a; try dsimp only)
    | ((with_reducible apply Touch.foldlFst); rotate_left; intro v a; try dsimp only)
    | with_reducible apply Touch.cond
    | split
    | (with_reducible apply Touch.update) <;> first
      | exact Or.inl rfl
      | with_reducible exact Or.inr rfl
      | with_reducible exact fun w => ⟨w.1, w.2, w.3, w.4, w.5, w.6, w.7, w.8, w.9, w.10⟩
      | skip

theorem State.freeBytes_touch (s : State) (n : Nat) :
    Touch 0x400000 s (State.freeBytes s n).2 := by
  unfold State.freeBytes
  try dsimp only
  repeat' first
    | with_reducible apply Touch.refl
    | ((with_reducible apply Touch.foldl); rotate_left; intro v a; try dsimp only)
    | ((with_reducible apply Touch.foldlFst); rotate_left; intro v a; try dsimp only)
    | with_reducible apply Touch.cond
    | split
    | (with_reducible apply Touch.update) <;> first
      | exact Or.inl rfl
      | with_reducible exact Or.inr rfl
      | with_reducible exact fun w => ⟨w.1, w.2, w.3, w.4, w.5, w.6, w.7, w.8, w.9, w.10⟩
      | skip

theorem State.idlePeriod_touch (s : State) :
    Touch 0x12 s (State.idlePeriod s) := by
  unfold State.idlePeriod
  try dsimp only
  repeat' first
    | with_reducible apply Touch.refl
    | ((with_reducible apply Touch.foldl); rotate_left; intro v a; try dsimp only)
    | ((with_reducible apply Touch.foldlFst); rotate_left; intro v a; try dsimp only)
    | with_reducible apply Touch.cond
    | split
    | (with_reducible apply Touch.update) <;> first
      | exact Or.inl rfl
      | with_reducible exact Or.inr rfl
      | with_reducible exact fun w => ⟨w.1, w.2, w.3, w.4, w.5, w.6, w.7, w.8, w.9, w.10⟩
      | exact fun w => ⟨by first | exact w.1 | simpa using w.1, by first | exact w.2 | simpa using w.2,
          by first | exact w.3 | simpa using w.3, by first | exact w.4 | simpa [upd_length] using w.4, w.5, w.6, w.7, w.8, w.9, w.10⟩
      | skip

end Sys2Proof.Machine
end

