-- ==== Sys2Proof/Laws/TouchOperands.lean ====
section
/-!
SUPPORT. What the operations of Machine/Operands.lean touch.
-/

namespace Sys2Proof.Machine

open Sys2Proof

theorem State.sendOut_touch (s : State) (x : Slot) :
    Touch 0x20 s (State.sendOut s x) := by
  unfold State.sendOut
  try dsimp only
  repeat' first
    | with_reducible apply Touch.refl
    | ((with_reducible apply Touch.step); rotate_left; (first
        | with_reducible apply State.setPort_touch); exact rfl)
    | ((with_reducible apply Touch.foldl); rotate_left; intro v a; try dsimp only)
    | ((with_reducible apply Touch.foldlFst); rotate_left; intro v a; try dsimp only)
    | with_reducible apply Touch.cond
    | split
    | (with_reducible apply Touch.update) <;> first
      | exact Or.inl rfl
      | with_reducible exact Or.inr rfl
      | with_reducible exact fun w => ⟨w.1, w.2, w.3, w.4, w.5, w.6, w.7, w.8, w.9, w.10⟩
      | skip

end Sys2Proof.Machine
end

