-- ==== Sys2Proof/Laws/TouchSequencer.lean ====
section
/-!
SUPPORT. What the operations of Machine/Sequencer.lean touch.
-/

namespace Sys2Proof.Machine

open Sys2Proof

theorem State.handSlot_touch (s : State) (k : Nat) (c : SlotChange) :
    Touch 0x10 s (State.handSlot s k c) := by
  unfold State.handSlot
  try dsimp only
  repeat' first
    | with_reducible apply Touch.refl
    | ((with_reducible apply Touch.step); rotate_left; (first
        | with_reducible apply State.setSlot_touch); exact rfl)
    | ((with_reducible apply Touch.foldl); rotate_left; intro v a; try dsimp only)
    | ((with_reducible apply Touch.foldlFst); rotate_left; intro v a; try dsimp only)
    | with_reducible apply Touch.cond
    | split
    | (with_reducible apply Touch.update) <;> first
      | exact Or.inl rfl
      | with_reducible exact Or.inr rfl
      | with_reducible exact fun w => ⟨w.1, w.2, w.3, w.4, w.5, w.6, w.7, w.8, w.9, w.10⟩
      | skip

theorem State.openSlots_touch (s : State) (l : List Nat) :
    Touch 0x10 s (State.openSlots s l) := by
  unfold State.openSlots
  try dsimp only
  repeat' first
    | with_reducible apply Touch.refl
    | ((with_reducible apply Touch.step); rotate_left; (first
        | with_reducible apply State.handSlot_touch); exact rfl)
    | ((with_reducible apply Touch.foldl); rotate_left; intro v a; try dsimp only)
    | ((with_reducible apply Touch.foldlFst); rotate_left; intro v a; try dsimp only)
    | with_reducible apply Touch.cond
    | split
    | (with_reducible apply Touch.update) <;> first
      | exact Or.inl rfl
      | with_reducible exact Or.inr rfl
      | with_reducible exact fun w => ⟨w.1, w.2, w.3, w.4, w.5, w.6, w.7, w.8, w.9, w.10⟩
      | skip

theorem State.takeChanges_touch (s : State) (k : Nat) :
    Touch 0x10 s (State.takeChanges s k) := by
  unfold State.takeChanges
  try dsimp only
  repeat' first
    | with_reducible apply Touch.refl
    | ((with_reducible apply Touch.step); rotate_left; (first
        | with_reducible apply State.setSlot_touch); exact rfl)
    | ((with_reducible apply Touch.foldl); rotate_left; intro v a; try dsimp only)
    | ((with_reducible apply Touch.foldlFst); rotate_left; intro v a; try dsimp only)
    | with_reducible apply Touch.cond
    | split
    | (with_reducible apply Touch.update) <;> first
      | exact Or.inl rfl
      | with_reducible exact Or.inr rfl
      | with_reducible exact fun w => ⟨w.1, w.2, w.3, w.4, w.5, w.6, w.7, w.8, w.9, w.10⟩
      | exact fun w => ⟨by first | exact w.1 | simpa using w.1, by first | exact w.2 | simpa using w.2,
          by first | exact w.3 | simpa using w.3, by first | exact w.4 | simpa [upd_length] using w.4, w.5, w.6, w.7, w.8, w.9, w.10⟩
      | skip

theorem State.openGroup_touch (s : State) (g : Nat) :
    Touch 0x10 s (State.openGroup s g) := by
  unfold State.openGroup
  try dsimp only
  repeat' first
    | with_reducible apply Touch.refl
    | ((with_reducible apply Touch.step); rotate_left; (first
        | with_reducible apply State.handSlot_touch); exact rfl)
    | ((with_reducible apply Touch.foldl); rotate_left; intro v a; try dsimp only)
    | ((with_reducible apply Touch.foldlFst); rotate_left; intro v a; try dsimp only)
    | with_reducible apply Touch.cond
    | split
    | (with_reducible apply Touch.update) <;> first
      | exact Or.inl rfl
      | with_reducible exact Or.inr rfl
      | with_reducible exact fun w => ⟨w.1, w.2, w.3, w.4, w.5, w.6, w.7, w.8, w.9, w.10⟩
      | skip

theorem State.setConst_touch (s : State) (k : Nat) (v : Int) :
    Touch 0x10 s (State.setConst s k v) := by
  unfold State.setConst
  try dsimp only
  repeat' first
    | with_reducible apply Touch.refl
    | ((with_reducible apply Touch.step); rotate_left; (first
        | with_reducible apply State.setSlot_touch); exact rfl)
    | ((with_reducible apply Touch.foldl); rotate_left; intro v a; try dsimp only)
    | ((with_reducible apply Touch.foldlFst); rotate_left; intro v a; try dsimp only)
    | with_reducible apply Touch.cond
    | split
    | (with_reducible apply Touch.update) <;> first
      | exact Or.inl rfl
      | with_reducible exact Or.inr rfl
      | with_reducible exact fun w => ⟨w.1, w.2, w.3, w.4, w.5, w.6, w.7, w.8, w.9, w.10⟩
      | skip

theorem State.setRate_touch (s : State) (k r : Nat) :
    Touch 0x10 s (State.setRate s k r) := by
  unfold State.setRate
  try dsimp only
  repeat' first
    | with_reducible apply Touch.refl
    | ((with_reducible apply Touch.step); rotate_left; (first
        | with_reducible apply State.setSlot_touch); exact rfl)
    | ((with_reducible apply Touch.foldl); rotate_left; intro v a; try dsimp only)
    | ((with_reducible apply Touch.foldlFst); rotate_left; intro v a; try dsimp only)
    | with_reducible apply Touch.cond
    | split
    | (with_reducible apply Touch.update) <;> first
      | exact Or.inl rfl
      | with_reducible exact Or.inr rfl
      | with_reducible exact fun w => ⟨w.1, w.2, w.3, w.4, w.5, w.6, w.7, w.8, w.9, w.10⟩
      | skip

theorem State.aimGroup_touch (s : State) (g : Nat) :
    Touch 0x10 s (State.aimGroup s g) := by
  unfold State.aimGroup
  try dsimp only
  repeat' first
    | with_reducible apply Touch.refl
    | ((with_reducible apply Touch.step); rotate_left; (first
        | with_reducible apply State.setRate_touch
        | with_reducible apply State.setConst_touch); exact rfl)
    | ((with_reducible apply Touch.foldl); rotate_left; intro v a; try dsimp only)
    | ((with_reducible apply Touch.foldlFst); rotate_left; intro v a; try dsimp only)
    | with_reducible apply Touch.cond
    | split
    | (with_reducible apply Touch.update) <;> first
      | exact Or.inl rfl
      | with_reducible exact Or.inr rfl
      | with_reducible exact fun w => ⟨w.1, w.2, w.3, w.4, w.5, w.6, w.7, w.8, w.9, w.10⟩
      | skip

theorem State.aimAll_touch (s : State) :
    Touch 0x10 s (State.aimAll s) := by
  unfold State.aimAll
  try dsimp only
  repeat' first
    | with_reducible apply Touch.refl
    | ((with_reducible apply Touch.step); rotate_left; (first
        | with_reducible apply State.aimGroup_touch); exact rfl)
    | ((with_reducible apply Touch.foldl); rotate_left; intro v a; try dsimp only)
    | ((with_reducible apply Touch.foldlFst); rotate_left; intro v a; try dsimp only)
    | with_reducible apply Touch.cond
    | split
    | (with_reducible apply Touch.update) <;> first
      | exact Or.inl rfl
      | with_reducible exact Or.inr rfl
      | with_reducible exact fun w => ⟨w.1, w.2, w.3, w.4, w.5, w.6, w.7, w.8, w.9, w.10⟩
      | skip

theorem State.busCheck_touch (s : State) :
    Touch 0x810000 s (State.busCheck s) := by
  unfold State.busCheck
  try dsimp only
  repeat' first
    | with_reducible apply Touch.refl
    | ((with_reducible apply Touch.step); rotate_left; (first
        | with_reducible apply State.completeWhere_touch); exact rfl)
    | ((with_reducible apply Touch.foldl); rotate_left; intro v a; try dsimp only)
    | ((with_reducible apply Touch.foldlFst); rotate_left; intro v a; try dsimp only)
    | with_reducible apply Touch.cond
    | split
    | (with_reducible apply Touch.update) <;> first
      | exact Or.inl rfl
      | with_reducible exact Or.inr rfl
      | with_reducible exact fun w => ⟨w.1, w.2, w.3, w.4, w.5, w.6, w.7, w.8, w.9, w.10⟩
      | skip

theorem State.supersedeBus_touch (s : State) :
    Touch 0x810080 s (State.supersedeBus s) := by
  unfold State.supersedeBus
  try dsimp only
  repeat' first
    | with_reducible apply Touch.refl
    | ((with_reducible apply Touch.step); rotate_left; (first
        | with_reducible apply State.completeWhere_touch); exact rfl)
    | ((with_reducible apply Touch.foldl); rotate_left; intro v a; try dsimp only)
    | ((with_reducible apply Touch.foldlFst); rotate_left; intro v a; try dsimp only)
    | with_reducible apply Touch.cond
    | split
    | (with_reducible apply Touch.update) <;> first
      | exact Or.inl rfl
      | with_reducible exact Or.inr rfl
      | with_reducible exact fun w => ⟨w.1, w.2, w.3, w.4, w.5, w.6, w.7, w.8, w.9, w.10⟩
      | skip

theorem State.leaveBurst_touch (s : State) (g : Nat) :
    Touch 0x810050 s (State.leaveBurst s g) := by
  unfold State.leaveBurst
  try dsimp only
  repeat' first
    | with_reducible apply Touch.refl
    | ((with_reducible apply Touch.step); rotate_left; (first
        | with_reducible apply State.setGroup_touch
        | with_reducible apply State.aimGroup_touch
        | with_reducible apply State.setSlot_touch
        | with_reducible apply State.completeWhere_touch); exact rfl)
    | ((with_reducible apply Touch.foldl); rotate_left; intro v a; try dsimp only)
    | ((with_reducible apply Touch.foldlFst); rotate_left; intro v a; try dsimp only)
    | with_reducible apply Touch.cond
    | split
    | (with_reducible apply Touch.update) <;> first
      | exact Or.inl rfl
      | with_reducible exact Or.inr rfl
      | with_reducible exact fun w => ⟨w.1, w.2, w.3, w.4, w.5, w.6, w.7, w.8, w.9, w.10⟩
      | skip

theorem State.burstExit_touch (s : State) :
    Touch 0x8100d0 s (State.burstExit s) := by
  unfold State.burstExit
  try dsimp only
  repeat' first
    | with_reducible apply Touch.refl
    | ((with_reducible apply Touch.step); rotate_left; (first
        | with_reducible apply State.leaveBurst_touch); exact rfl)
    | ((with_reducible apply Touch.foldl); rotate_left; intro v a; try dsimp only)
    | ((with_reducible apply Touch.foldlFst); rotate_left; intro v a; try dsimp only)
    | with_reducible apply Touch.cond
    | split
    | (with_reducible apply Touch.update) <;> first
      | exact Or.inl rfl
      | with_reducible exact Or.inr rfl
      | with_reducible exact fun w => ⟨w.1, w.2, w.3, w.4, w.5, w.6, w.7, w.8, w.9, w.10⟩
      | skip

theorem State.sleepGroup_touch (s : State) (g : Nat) :
    Touch 0x50 s (State.sleepGroup s g) := by
  unfold State.sleepGroup
  try dsimp only
  repeat' first
    | with_reducible apply Touch.refl
    | ((with_reducible apply Touch.step); rotate_left; (first
        | with_reducible apply State.openGroup_touch
        | with_reducible apply State.setGroup_touch); exact rfl)
    | ((with_reducible apply Touch.foldl); rotate_left; intro v a; try dsimp only)
    | ((with_reducible apply Touch.foldlFst); rotate_left; intro v a; try dsimp only)
    | with_reducible apply Touch.cond
    | split
    | (with_reducible apply Touch.update) <;> first
      | exact Or.inl rfl
      | with_reducible exact Or.inr rfl
      | with_reducible exact fun w => ⟨w.1, w.2, w.3, w.4, w.5, w.6, w.7, w.8, w.9, w.10⟩
      | skip

theorem State.runGroup_touch (s : State) (g : Nat) :
    Touch 0x50 s (State.runGroup s g) := by
  unfold State.runGroup
  try dsimp only
  repeat' first
    | with_reducible apply Touch.refl
    | ((with_reducible apply Touch.step); rotate_left; (first
        | with_reducible apply State.aimGroup_touch
        | with_reducible apply State.setGroup_touch); exact rfl)
    | ((with_reducible apply Touch.foldl); rotate_left; intro v a; try dsimp only)
    | ((with_reducible apply Touch.foldlFst); rotate_left; intro v a; try dsimp only)
    | with_reducible apply Touch.cond
    | split
    | (with_reducible apply Touch.update) <;> first
      | exact Or.inl rfl
      | with_reducible exact Or.inr rfl
      | with_reducible exact fun w => ⟨w.1, w.2, w.3, w.4, w.5, w.6, w.7, w.8, w.9, w.10⟩
      | skip

theorem State.burstSleep_touch (s : State) :
    Touch 0x50 s (State.burstSleep s) := by
  unfold State.burstSleep
  try dsimp only
  repeat' first
    | with_reducible apply Touch.refl
    | ((with_reducible apply Touch.step); rotate_left; (first
        | with_reducible apply State.sleepGroup_touch); exact rfl)
    | ((with_reducible apply Touch.foldl); rotate_left; intro v a; try dsimp only)
    | ((with_reducible apply Touch.foldlFst); rotate_left; intro v a; try dsimp only)
    | with_reducible apply Touch.cond
    | split
    | (with_reducible apply Touch.update) <;> first
      | exact Or.inl rfl
      | with_reducible exact Or.inr rfl
      | with_reducible exact fun w => ⟨w.1, w.2, w.3, w.4, w.5, w.6, w.7, w.8, w.9, w.10⟩
      | skip

theorem State.burstWake_touch (s : State) :
    Touch 0x50 s (State.burstWake s) := by
  unfold State.burstWake
  try dsimp only
  repeat' first
    | with_reducible apply Touch.refl
    | ((with_reducible apply Touch.step); rotate_left; (first
        | with_reducible apply State.runGroup_touch); exact rfl)
    | ((with_reducible apply Touch.foldl); rotate_left; intro v a; try dsimp only)
    | ((with_reducible apply Touch.foldlFst); rotate_left; intro v a; try dsimp only)
    | with_reducible apply Touch.cond
    | split
    | (with_reducible apply Touch.update) <;> first
      | exact Or.inl rfl
      | with_reducible exact Or.inr rfl
      | with_reducible exact fun w => ⟨w.1, w.2, w.3, w.4, w.5, w.6, w.7, w.8, w.9, w.10⟩
      | skip

theorem State.burstFrame_touch (s : State) :
    Touch 0x8100d0 s (State.burstFrame s) := by
  unfold State.burstFrame
  try dsimp only
  repeat' first
    | with_reducible apply Touch.refl
    | ((with_reducible apply Touch.step); rotate_left; (first
        | with_reducible apply State.burstExit_touch
        | with_reducible apply State.burstSleep_touch
        | with_reducible apply State.burstWake_touch); exact rfl)
    | ((with_reducible apply Touch.foldl); rotate_left; intro v a; try dsimp only)
    | ((with_reducible apply Touch.foldlFst); rotate_left; intro v a; try dsimp only)
    | with_reducible apply Touch.cond
    | split
    | (with_reducible apply Touch.update) <;> first
      | exact Or.inl rfl
      | with_reducible exact Or.inr rfl
      | with_reducible exact fun w => ⟨w.1, w.2, w.3, w.4, w.5, w.6, w.7, w.8, w.9, w.10⟩
      | skip

theorem State.setBus_touch (s : State) (target : Int) (slew : Nat) :
    Touch 0x8100d0 s (State.setBus s target slew) := by
  unfold State.setBus
  try dsimp only
  repeat' first
    | with_reducible apply Touch.refl
    | ((with_reducible apply Touch.step); rotate_left; (first
        | with_reducible apply State.aimAll_touch
        | with_reducible apply State.burstExit_touch); exact rfl)
    | ((with_reducible apply Touch.foldl); rotate_left; intro v a; try dsimp only)
    | ((with_reducible apply Touch.foldlFst); rotate_left; intro v a; try dsimp only)
    | with_reducible apply Touch.cond
    | split
    | (with_reducible apply Touch.update) <;> first
      | exact Or.inl rfl
      | with_reducible exact Or.inr rfl
      | with_reducible exact fun w => ⟨w.1, w.2, w.3, w.4, w.5, w.6, w.7, w.8, w.9, w.10⟩
      | skip

theorem State.groupOff_touch (s : State) (g : Nat) :
    Touch 0x810040 s (State.groupOff s g) := by
  unfold State.groupOff
  try dsimp only
  repeat' first
    | with_reducible apply Touch.refl
    | ((with_reducible apply Touch.step); rotate_left; (first
        | with_reducible apply State.setGroup_touch
        | with_reducible apply State.busCheck_touch
        | with_reducible apply State.completeWhere_touch); exact rfl)
    | ((with_reducible apply Touch.foldl); rotate_left; intro v a; try dsimp only)
    | ((with_reducible apply Touch.foldlFst); rotate_left; intro v a; try dsimp only)
    | with_reducible apply Touch.cond
    | split
    | (with_reducible apply Touch.update) <;> first
      | exact Or.inl rfl
      | with_reducible exact Or.inr rfl
      | with_reducible exact fun w => ⟨w.1, w.2, w.3, w.4, w.5, w.6, w.7, w.8, w.9, w.10⟩
      | skip

theorem State.endRestore_touch (s : State) (p : Nat) :
    Touch 0x81c020 s (State.endRestore s p) := by
  unfold State.endRestore
  try dsimp only
  repeat' first
    | with_reducible apply Touch.refl
    | ((with_reducible apply Touch.step); rotate_left; (first
        | with_reducible apply State.setPort_touch
        | with_reducible apply State.completeWhere_touch
        | with_reducible apply State.clearPort_touch); exact rfl)
    | ((with_reducible apply Touch.foldl); rotate_left; intro v a; try dsimp only)
    | ((with_reducible apply Touch.foldlFst); rotate_left; intro v a; try dsimp only)
    | with_reducible apply Touch.cond
    | split
    | (with_reducible apply Touch.update) <;> first
      | exact Or.inl rfl
      | with_reducible exact Or.inr rfl
      | with_reducible exact fun w => ⟨w.1, w.2, w.3, w.4, w.5, w.6, w.7, w.8, w.9, w.10⟩
      | skip

theorem State.quench_touch (s : State) (g cause : Nat) :
    Touch 0x81c0f0 s (State.quench s g cause) := by
  unfold State.quench
  try dsimp only
  repeat' first
    | with_reducible apply Touch.refl
    | ((with_reducible apply Touch.step); rotate_left; (first
        | with_reducible apply State.setGroup_touch
        | with_reducible apply State.setPort_touch
        | with_reducible apply State.openGroup_touch
        | with_reducible apply State.completeWhere_touch
        | with_reducible apply State.endRestore_touch
        | with_reducible apply State.busCheck_touch
        | with_reducible apply State.burstExit_touch); exact rfl)
    | ((with_reducible apply Touch.foldl); rotate_left; intro v a; try dsimp only)
    | ((with_reducible apply Touch.foldlFst); rotate_left; intro v a; try dsimp only)
    | with_reducible apply Touch.cond
    | split
    | (with_reducible apply Touch.update) <;> first
      | exact Or.inl rfl
      | with_reducible exact Or.inr rfl
      | with_reducible exact fun w => ⟨w.1, w.2, w.3, w.4, w.5, w.6, w.7, w.8, w.9, w.10⟩
      | skip

theorem State.quenchShelf_touch (s : State) (cause : Nat) :
    Touch 0x81c0f0 s (State.quenchShelf s cause) := by
  unfold State.quenchShelf
  try dsimp only
  repeat' first
    | with_reducible apply Touch.refl
    | ((with_reducible apply Touch.step); rotate_left; (first
        | with_reducible apply State.quench_touch); exact rfl)
    | ((with_reducible apply Touch.foldl); rotate_left; intro v a; try dsimp only)
    | ((with_reducible apply Touch.foldlFst); rotate_left; intro v a; try dsimp only)
    | with_reducible apply Touch.cond
    | split
    | (with_reducible apply Touch.update) <;> first
      | exact Or.inl rfl
      | with_reducible exact Or.inr rfl
      | with_reducible exact fun w => ⟨w.1, w.2, w.3, w.4, w.5, w.6, w.7, w.8, w.9, w.10⟩
      | skip

theorem State.startGroup_touch (s : State) (g : Nat) :
    Touch 0xf0 s (State.startGroup s g) := by
  unfold State.startGroup
  try dsimp only
  repeat' first
    | with_reducible apply Touch.refl
    | ((with_reducible apply Touch.step); rotate_left; (first
        | with_reducible apply State.setGroup_touch
        | with_reducible apply State.setPort_touch
        | with_reducible apply State.setConst_touch
        | with_reducible apply State.aimGroup_touch); exact rfl)
    | ((with_reducible apply Touch.foldl); rotate_left; intro v a; try dsimp only)
    | ((with_reducible apply Touch.foldlFst); rotate_left; intro v a; try dsimp only)
    | with_reducible apply Touch.cond
    | split
    | (with_reducible apply Touch.update) <;> first
      | exact Or.inl rfl
      | with_reducible exact Or.inr rfl
      | with_reducible exact fun w => ⟨w.1, w.2, w.3, w.4, w.5, w.6, w.7, w.8, w.9, w.10⟩
      | skip

theorem State.closeGroup_touch (s : State) (g : Nat) :
    Touch 0x50 s (State.closeGroup s g) := by
  unfold State.closeGroup
  try dsimp only
  repeat' first
    | with_reducible apply Touch.refl
    | ((with_reducible apply Touch.step); rotate_left; (first
        | with_reducible apply State.handSlot_touch
        | with_reducible apply State.setGroup_touch); exact rfl)
    | ((with_reducible apply Touch.foldl); rotate_left; intro v a; try dsimp only)
    | ((with_reducible apply Touch.foldlFst); rotate_left; intro v a; try dsimp only)
    | with_reducible apply Touch.cond
    | split
    | (with_reducible apply Touch.update) <;> first
      | exact Or.inl rfl
      | with_reducible exact Or.inr rfl
      | with_reducible exact fun w => ⟨w.1, w.2, w.3, w.4, w.5, w.6, w.7, w.8, w.9, w.10⟩
      | skip

theorem State.cutRestore_touch (s : State) (p : Nat) :
    Touch 0x810000 s (State.cutRestore s p) := by
  unfold State.cutRestore
  try dsimp only
  repeat' first
    | with_reducible apply Touch.refl
    | ((with_reducible apply Touch.step); rotate_left; (first
        | with_reducible apply State.completeWhere_touch); exact rfl)
    | ((with_reducible apply Touch.foldl); rotate_left; intro v a; try dsimp only)
    | ((with_reducible apply Touch.foldlFst); rotate_left; intro v a; try dsimp only)
    | with_reducible apply Touch.cond
    | split
    | (with_reducible apply Touch.update) <;> first
      | exact Or.inl rfl
      | with_reducible exact Or.inr rfl
      | with_reducible exact fun w => ⟨w.1, w.2, w.3, w.4, w.5, w.6, w.7, w.8, w.9, w.10⟩
      | skip

theorem State.retire_touch (s : State) (p cause : Nat) :
    Touch 0x81c030 s (State.retire s p cause) := by
  unfold State.retire
  try dsimp only
  repeat' first
    | with_reducible apply Touch.refl
    | ((with_reducible apply Touch.step); rotate_left; (first
        | with_reducible apply State.cutRestore_touch
        | with_reducible apply State.setPort_touch
        | with_reducible apply State.openSlots_touch
        | with_reducible apply State.raisePort_touch); exact rfl)
    | ((with_reducible apply Touch.foldl); rotate_left; intro v a; try dsimp only)
    | ((with_reducible apply Touch.foldlFst); rotate_left; intro v a; try dsimp only)
    | with_reducible apply Touch.cond
    | split
    | (with_reducible apply Touch.update) <;> first
      | exact Or.inl rfl
      | with_reducible exact Or.inr rfl
      | with_reducible exact fun w => ⟨w.1, w.2, w.3, w.4, w.5, w.6, w.7, w.8, w.9, w.10⟩
      | skip

theorem State.rejoin_touch (s : State) (p : Nat) :
    Touch 0x81c0a0 s (State.rejoin s p) := by
  unfold State.rejoin
  try dsimp only
  repeat' first
    | with_reducible apply Touch.refl
    | ((with_reducible apply Touch.step); rotate_left; (first
        | with_reducible apply State.setPort_touch
        | with_reducible apply State.clearPort_touch); exact rfl)
    | ((with_reducible apply Touch.foldl); rotate_left; intro v a; try dsimp only)
    | ((with_reducible apply Touch.foldlFst); rotate_left; intro v a; try dsimp only)
    | with_reducible apply Touch.cond
    | split
    | (with_reducible apply Touch.update) <;> first
      | exact Or.inl rfl
      | with_reducible exact Or.inr rfl
      | with_reducible exact fun w => ⟨w.1, w.2, w.3, w.4, w.5, w.6, w.7, w.8, w.9, w.10⟩
      | skip

theorem State.applyRestore_touch (s : State) (p : Nat) :
    Touch 0x81c0b0 s (State.applyRestore s p) := by
  unfold State.applyRestore
  try dsimp only
  repeat' first
    | with_reducible apply Touch.refl
    | ((with_reducible apply Touch.step); rotate_left; (first
        | with_reducible apply State.completeWhere_touch
        | with_reducible apply State.setPort_touch
        | with_reducible apply State.rejoin_touch
        | with_reducible apply State.handSlot_touch); exact rfl)
    | ((with_reducible apply Touch.foldl); rotate_left; intro v a; try dsimp only)
    | ((with_reducible apply Touch.foldlFst); rotate_left; intro v a; try dsimp only)
    | with_reducible apply Touch.cond
    | split
    | (with_reducible apply Touch.update) <;> first
      | exact Or.inl rfl
      | with_reducible exact Or.inr rfl
      | with_reducible exact fun w => ⟨w.1, w.2, w.3, w.4, w.5, w.6, w.7, w.8, w.9, w.10⟩
      | skip

end Sys2Proof.Machine
end

