-- ==== Sys2Proof/Laws/TouchLadder.lean ====
section
/-!
SUPPORT. What the operations of Machine/Ladder.lean touch.
-/

namespace Sys2Proof.Machine

open Sys2Proof

theorem State.stand_touch (s : State) (x : Subj) (code level : Nat) :
    Touch 0x80 s (State.stand s x code level) := by
  unfold State.stand
  try dsimp only
  repeat' first
    | with_reducible apply Touch.refl
    | ((with_reducible apply Touch.foldl); rotate_left; intro v a; try dsimp only)
    | ((with_reducible apply Touch.foldlFst); rotate_left; intro v a; try dsimp only)
    | with_reducible apply Touch.cond
    | split
    | (with_reducible apply Touch.update) <;> first
      | exact Or.inl rfl
      | with_reducible exact Or.inr rfl
      | with_reducible exact fun w => ⟨w.1, w.2, w.3, w.4, w.5, w.6, w.7, w.8, w.9, w.10⟩
      | skip

theorem State.unstand_touch (s : State) (x : Subj) (code : Nat) :
    Touch 0x80 s (State.unstand s x code) := by
  unfold State.unstand
  try dsimp only
  repeat' first
    | with_reducible apply Touch.refl
    | ((with_reducible apply Touch.foldl); rotate_left; intro v a; try dsimp only)
    | ((with_reducible apply Touch.foldlFst); rotate_left; intro v a; try dsimp only)
    | with_reducible apply Touch.cond
    | split
    | (with_reducible apply Touch.update) <;> first
      | exact Or.inl rfl
      | with_reducible exact Or.inr rfl
      | with_reducible exact fun w => ⟨w.1, w.2, w.3, w.4, w.5, w.6, w.7, w.8, w.9, w.10⟩
      | skip

theorem State.calm_touch (s : State) (x : Subj) (code : Nat) :
    Touch 0x80 s (State.calm s x code) := by
  unfold State.calm
  try dsimp only
  repeat' first
    | with_reducible apply Touch.refl
    | ((with_reducible apply Touch.step); rotate_left; (first
        | with_reducible apply State.unstand_touch); exact rfl)
    | ((with_reducible apply Touch.foldl); rotate_left; intro v a; try dsimp only)
    | ((with_reducible apply Touch.foldlFst); rotate_left; intro v a; try dsimp only)
    | with_reducible apply Touch.cond
    | split
    | (with_reducible apply Touch.update) <;> first
      | exact Or.inl rfl
      | with_reducible exact Or.inr rfl
      | with_reducible exact fun w => ⟨w.1, w.2, w.3, w.4, w.5, w.6, w.7, w.8, w.9, w.10⟩
      | skip

theorem State.ladderRecord_touch (s : State) (x : Subj) (level cause code : Nat) :
    Touch 0x814080 s (State.ladderRecord s x level cause code) := by
  unfold State.ladderRecord
  try dsimp only
  repeat' first
    | with_reducible apply Touch.refl
    | ((with_reducible apply Touch.step); rotate_left; (first
        | with_reducible apply State.record_touch); exact rfl)
    | ((with_reducible apply Touch.foldl); rotate_left; intro v a; try dsimp only)
    | ((with_reducible apply Touch.foldlFst); rotate_left; intro v a; try dsimp only)
    | with_reducible apply Touch.cond
    | split
    | (with_reducible apply Touch.update) <;> first
      | exact Or.inl rfl
      | with_reducible exact Or.inr rfl
      | with_reducible exact fun w => ⟨w.1, w.2, w.3, w.4, w.5, w.6, w.7, w.8, w.9, w.10⟩
      | skip

theorem State.actOn_touch (s : State) (x : Subj) (level cause : Nat) :
    Touch 0x81c0f0 s (State.actOn s x level cause) := by
  unfold State.actOn
  try dsimp only
  repeat' first
    | with_reducible apply Touch.refl
    | ((with_reducible apply Touch.step); rotate_left; (first
        | with_reducible apply State.retire_touch
        | with_reducible apply State.quench_touch
        | with_reducible apply State.quenchShelf_touch); exact rfl)
    | ((with_reducible apply Touch.foldl); rotate_left; intro v a; try dsimp only)
    | ((with_reducible apply Touch.foldlFst); rotate_left; intro v a; try dsimp only)
    | with_reducible apply Touch.cond
    | split
    | (with_reducible apply Touch.update) <;> first
      | exact Or.inl rfl
      | with_reducible exact Or.inr rfl
      | with_reducible exact fun w => ⟨w.1, w.2, w.3, w.4, w.5, w.6, w.7, w.8, w.9, w.10⟩
      | skip

theorem State.ladder_touch (s : State) (x : Subj) (level cause code : Nat) :
    Touch 0x81c0f0 s (State.ladder s x level cause code) := by
  unfold State.ladder
  try dsimp only
  repeat' first
    | with_reducible apply Touch.refl
    | ((with_reducible apply Touch.step); rotate_left; (first
        | with_reducible apply State.stand_touch
        | with_reducible apply State.ladderRecord_touch
        | with_reducible apply State.actOn_touch); exact rfl)
    | ((with_reducible apply Touch.foldl); rotate_left; intro v a; try dsimp only)
    | ((with_reducible apply Touch.foldlFst); rotate_left; intro v a; try dsimp only)
    | with_reducible apply Touch.cond
    | split
    | (with_reducible apply Touch.update) <;> first
      | exact Or.inl rfl
      | with_reducible exact Or.inr rfl
      | with_reducible exact fun w => ⟨w.1, w.2, w.3, w.4, w.5, w.6, w.7, w.8, w.9, w.10⟩
      | skip

theorem State.ladderAll_touch (s : State) (l : List Found) :
    Touch 0x81c0f0 s (State.ladderAll s l) := by
  unfold State.ladderAll
  try dsimp only
  repeat' first
    | with_reducible apply Touch.refl
    | ((with_reducible apply Touch.step); rotate_left; (first
        | with_reducible apply State.ladder_touch); exact rfl)
    | ((with_reducible apply Touch.foldl); rotate_left; intro v a; try dsimp only)
    | ((with_reducible apply Touch.foldlFst); rotate_left; intro v a; try dsimp only)
    | with_reducible apply Touch.cond
    | split
    | (with_reducible apply Touch.update) <;> first
      | exact Or.inl rfl
      | with_reducible exact Or.inr rfl
      | with_reducible exact fun w => ⟨w.1, w.2, w.3, w.4, w.5, w.6, w.7, w.8, w.9, w.10⟩
      | skip

end Sys2Proof.Machine
end

