-- ==== Sys2Proof/Laws/TouchLoop.lean ====
section
/-!
SUPPORT. What the operations of Machine/Loop.lean touch.
-/

namespace Sys2Proof.Machine

open Sys2Proof

theorem State.handBlocks_touch (s : State) (l : List Bytes) :
    Touch 0x10 s (State.handBlocks s l) := by
  unfold State.handBlocks
  try dsimp only
  repeat' first
    | with_reducible apply Touch.refl
    | ((with_reducible apply Touch.step); rotate_left; (first
        | with_reducible apply State.handSlot_touch); exact rfl)
    | ((with_reducible apply Touch.foldl); rotate_left; intro v a; try dsimp only)
    | ((with_reducible apply Touch.foldlFst); rotate_left; intro v a; try dsimp only)
    | with_reducible apply Touch.cond
    | split
    | (with_reducible apply Touch.update) <;> first
      | exact Or.inl rfl
      | with_reducible exact Or.inr rfl
      | with_reducible exact fun w => ⟨w.1, w.2, w.3, w.4, w.5, w.6, w.7, w.8, w.9, w.10⟩
      | skip

theorem State.noteRefusal_touch (s : State) (r : SchedRefusal) :
    Touch 0x10 s (State.noteRefusal s r) := by
  unfold State.noteRefusal
  try dsimp only
  repeat' first
    | with_reducible apply Touch.refl
    | ((with_reducible apply Touch.foldl); rotate_left; intro v a; try dsimp only)
    | ((with_reducible apply Touch.foldlFst); rotate_left; intro v a; try dsimp only)
    | with_reducible apply Touch.cond
    | split
    | (with_reducible apply Touch.update) <;> first
      | exact Or.inl rfl
      | with_reducible exact Or.inr rfl
      | with_reducible exact fun w => ⟨w.1, w.2, w.3, w.4, w.5, w.6, w.7, w.8, w.9, w.10⟩
      | exact fun w => ⟨by first | exact w.1 | simpa using w.1, by first | exact w.2 | simpa using w.2,
          by first | exact w.3 | simpa using w.3, by first | exact w.4 | simpa [upd_length] using w.4, w.5, w.6, w.7, w.8, w.9, w.10⟩
      | skip

theorem State.acceptTable_touch (s : State) (t : List SchedEnt) :
    Touch 0x814010 s (State.acceptTable s t) := by
  unfold State.acceptTable
  try dsimp only
  repeat' first
    | with_reducible apply Touch.refl
    | ((with_reducible apply Touch.step); rotate_left; (first
        | with_reducible apply State.record_touch); exact rfl)
    | ((with_reducible apply Touch.foldl); rotate_left; intro v a; try dsimp only)
    | ((with_reducible apply Touch.foldlFst); rotate_left; intro v a; try dsimp only)
    | with_reducible apply Touch.cond
    | split
    | (with_reducible apply Touch.update) <;> first
      | exact Or.inl rfl
      | with_reducible exact Or.inr rfl
      | with_reducible exact fun w => ⟨w.1, w.2, w.3, w.4, w.5, w.6, w.7, w.8, w.9, w.10⟩
      | exact fun w => ⟨by first | exact w.1 | simpa using w.1, by first | exact w.2 | simpa using w.2,
          by first | exact w.3 | simpa using w.3, by first | exact w.4 | simpa [upd_length] using w.4, w.5, w.6, w.7, w.8, w.9, w.10⟩
      | skip

theorem State.slotAnswered_touch (s : State) (k : Nat) :
    Touch 0x810000 s (State.slotAnswered s k) := by
  unfold State.slotAnswered
  try dsimp only
  repeat' first
    | with_reducible apply Touch.refl
    | ((with_reducible apply Touch.step); rotate_left; (first
        | with_reducible apply State.completeWhere_touch
        | with_reducible apply State.complete_touch); exact rfl)
    | ((with_reducible apply Touch.foldl); rotate_left; intro v a; try dsimp only)
    | ((with_reducible apply Touch.foldlFst); rotate_left; intro v a; try dsimp only)
    | with_reducible apply Touch.cond
    | split
    | (with_reducible apply Touch.update) <;> first
      | exact Or.inl rfl
      | with_reducible exact Or.inr rfl
      | with_reducible exact fun w => ⟨w.1, w.2, w.3, w.4, w.5, w.6, w.7, w.8, w.9, w.10⟩
      | skip

theorem State.watchStart_touch (s : State) (k : Nat) :
    Touch 0x40 s (State.watchStart s k) := by
  unfold State.watchStart
  try dsimp only
  repeat' first
    | with_reducible apply Touch.refl
    | ((with_reducible apply Touch.step); rotate_left; (first
        | with_reducible apply State.setGroup_touch); exact rfl)
    | ((with_reducible apply Touch.foldl); rotate_left; intro v a; try dsimp only)
    | ((with_reducible apply Touch.foldlFst); rotate_left; intro v a; try dsimp only)
    | with_reducible apply Touch.cond
    | split
    | (with_reducible apply Touch.update) <;> first
      | exact Or.inl rfl
      | with_reducible exact Or.inr rfl
      | with_reducible exact fun w => ⟨w.1, w.2, w.3, w.4, w.5, w.6, w.7, w.8, w.9, w.10⟩
      | skip

theorem State.clearFollow_touch (s : State) (k : Nat) :
    Touch 0x80 s (State.clearFollow s k) := by
  unfold State.clearFollow
  try dsimp only
  repeat' first
    | with_reducible apply Touch.refl
    | ((with_reducible apply Touch.step); rotate_left; (first
        | with_reducible apply State.calm_touch); exact rfl)
    | ((with_reducible apply Touch.foldl); rotate_left; intro v a; try dsimp only)
    | ((with_reducible apply Touch.foldlFst); rotate_left; intro v a; try dsimp only)
    | with_reducible apply Touch.cond
    | split
    | (with_reducible apply Touch.update) <;> first
      | exact Or.inl rfl
      | with_reducible exact Or.inr rfl
      | with_reducible exact fun w => ⟨w.1, w.2, w.3, w.4, w.5, w.6, w.7, w.8, w.9, w.10⟩
      | skip

theorem State.flushUnscheduled_touch (s : State) :
    Touch 0x810010 s (State.flushUnscheduled s) := by
  unfold State.flushUnscheduled
  try dsimp only
  repeat' first
    | with_reducible apply Touch.refl
    | ((with_reducible apply Touch.step); rotate_left; (first
        | with_reducible apply State.slotAnswered_touch
        | with_reducible apply State.takeChanges_touch
        | with_reducible apply State.setSlot_touch); exact rfl)
    | ((with_reducible apply Touch.foldl); rotate_left; intro v a; try dsimp only)
    | ((with_reducible apply Touch.foldlFst); rotate_left; intro v a; try dsimp only)
    | with_reducible apply Touch.cond
    | split
    | (with_reducible apply Touch.update) <;> first
      | exact Or.inl rfl
      | with_reducible exact Or.inr rfl
      | with_reducible exact fun w => ⟨w.1, w.2, w.3, w.4, w.5, w.6, w.7, w.8, w.9, w.10⟩
      | skip

theorem State.putTable_touch (s : State) (t : SchedTable) :
    Touch 0x810030 s (State.putTable s t) := by
  unfold State.putTable
  try dsimp only
  repeat' first
    | with_reducible apply Touch.refl
    | ((with_reducible apply Touch.step); rotate_left; (first
        | with_reducible apply State.flushUnscheduled_touch); exact rfl)
    | ((with_reducible apply Touch.foldl); rotate_left; intro v a; try dsimp only)
    | ((with_reducible apply Touch.foldlFst); rotate_left; intro v a; try dsimp only)
    | with_reducible apply Touch.cond
    | split
    | (with_reducible apply Touch.update) <;> first
      | exact Or.inl rfl
      | with_reducible exact Or.inr rfl
      | with_reducible exact fun w => ⟨w.1, w.2, w.3, w.4, w.5, w.6, w.7, w.8, w.9, w.10⟩
      | exact fun w => ⟨by first | exact w.1 | simpa using w.1, by first | exact w.2 | simpa using w.2,
          by first | exact w.3 | simpa using w.3, by first | exact w.4 | simpa [upd_length] using w.4, w.5, w.6, w.7, w.8, w.9, w.10⟩
      | skip

theorem State.quenchUnplaced_touch (s : State) (slots : List Nat) :
    Touch 0x81c0f0 s (State.quenchUnplaced s slots) := by
  unfold State.quenchUnplaced
  try dsimp only
  repeat' first
    | with_reducible apply Touch.refl
    | ((with_reducible apply Touch.step); rotate_left; (first
        | with_reducible apply State.ladder_touch); exact rfl)
    | ((with_reducible apply Touch.foldl); rotate_left; intro v a; try dsimp only)
    | ((with_reducible apply Touch.foldlFst); rotate_left; intro v a; try dsimp only)
    | with_reducible apply Touch.cond
    | split
    | (with_reducible apply Touch.update) <;> first
      | exact Or.inl rfl
      | with_reducible exact Or.inr rfl
      | with_reducible exact fun w => ⟨w.1, w.2, w.3, w.4, w.5, w.6, w.7, w.8, w.9, w.10⟩
      | skip

theorem State.fallOver_touch (s : State) (p : Nat) :
    Touch 0x81c0f0 s (State.fallOver s p) := by
  unfold State.fallOver
  try dsimp only
  repeat' first
    | with_reducible apply Touch.refl
    | ((with_reducible apply Touch.step); rotate_left; (first
        | with_reducible apply State.quenchUnplaced_touch
        | with_reducible apply State.putTable_touch); exact rfl)
    | ((with_reducible apply Touch.foldl); rotate_left; intro v a; try dsimp only)
    | ((with_reducible apply Touch.foldlFst); rotate_left; intro v a; try dsimp only)
    | with_reducible apply Touch.cond
    | split
    | (with_reducible apply Touch.update) <;> first
      | exact Or.inl rfl
      | with_reducible exact Or.inr rfl
      | with_reducible exact fun w => ⟨w.1, w.2, w.3, w.4, w.5, w.6, w.7, w.8, w.9, w.10⟩
      | exact fun w => ⟨by first | exact w.1 | simpa using w.1, by first | exact w.2 | simpa using w.2,
          by first | exact w.3 | simpa using w.3, by first | exact w.4 | simpa [upd_length] using w.4, w.5, w.6, w.7, w.8, w.9, w.10⟩
      | skip

theorem State.healTable_touch (s : State) :
    Touch 0x81c0f0 s (State.healTable s) := by
  unfold State.healTable
  try dsimp only
  repeat' first
    | with_reducible apply Touch.refl
    | ((with_reducible apply Touch.step); rotate_left; (first
        | with_reducible apply State.fallOver_touch); exact rfl)
    | ((with_reducible apply Touch.foldl); rotate_left; intro v a; try dsimp only)
    | ((with_reducible apply Touch.foldlFst); rotate_left; intro v a; try dsimp only)
    | with_reducible apply Touch.cond
    | split
    | (with_reducible apply Touch.update) <;> first
      | exact Or.inl rfl
      | with_reducible exact Or.inr rfl
      | with_reducible exact fun w => ⟨w.1, w.2, w.3, w.4, w.5, w.6, w.7, w.8, w.9, w.10⟩
      | skip

theorem State.assayCheck_touch (s : State) :
    Touch 0x810010 s (State.assayCheck s) := by
  unfold State.assayCheck
  try dsimp only
  repeat' first
    | with_reducible apply Touch.refl
    | ((with_reducible apply Touch.step); rotate_left; (first
        | with_reducible apply State.completeWhere_touch); exact rfl)
    | ((with_reducible apply Touch.foldl); rotate_left; intro v a; try dsimp only)
    | ((with_reducible apply Touch.foldlFst); rotate_left; intro v a; try dsimp only)
    | with_reducible apply Touch.cond
    | split
    | (with_reducible apply Touch.update) <;> first
      | exact Or.inl rfl
      | with_reducible exact Or.inr rfl
      | with_reducible exact fun w => ⟨w.1, w.2, w.3, w.4, w.5, w.6, w.7, w.8, w.9, w.10⟩
      | exact fun w => ⟨by first | exact w.1 | simpa using w.1, by first | exact w.2 | simpa using w.2,
          by first | exact w.3 | simpa using w.3, by first | exact w.4 | simpa [upd_length] using w.4, w.5, w.6, w.7, w.8, w.9, w.10⟩
      | skip

theorem State.pipeFailed_touch (s : State) (p vector : Nat) :
    Touch 0x814010 s (State.pipeFailed s p vector) := by
  unfold State.pipeFailed
  try dsimp only
  repeat' first
    | with_reducible apply Touch.refl
    | ((with_reducible apply Touch.step); rotate_left; (first
        | with_reducible apply State.raiseCause_touch
        | with_reducible apply State.record_touch); exact rfl)
    | ((with_reducible apply Touch.foldl); rotate_left; intro v a; try dsimp only)
    | ((with_reducible apply Touch.foldlFst); rotate_left; intro v a; try dsimp only)
    | with_reducible apply Touch.cond
    | split
    | (with_reducible apply Touch.update) <;> first
      | exact Or.inl rfl
      | with_reducible exact Or.inr rfl
      | with_reducible exact fun w => ⟨w.1, w.2, w.3, w.4, w.5, w.6, w.7, w.8, w.9, w.10⟩
      | exact fun w => ⟨by first | exact w.1 | simpa using w.1, by first | exact w.2 | simpa using w.2,
          by first | exact w.3 | simpa using w.3, by first | exact w.4 | simpa [upd_length] using w.4, w.5, w.6, w.7, w.8, w.9, w.10⟩
      | skip

theorem execLoopOpen_goes (h : CmdHdr) (slot : Nat) (s : State) :
    Goes 0x818010 s (execLoopOpen h slot s) := by
  unfold execLoopOpen
  try dsimp only
  repeat' first
    | with_reducible apply Goes.next
    | with_reducible apply Goes.cond
    | with_reducible apply Touch.refl
    | ((with_reducible apply State.start_touch); exact rfl; intro v; try dsimp only)
    | ((with_reducible apply Touch.step); rotate_left; (first
        | with_reducible apply State.done_touch
        | with_reducible apply State.handSlot_touch
        | with_reducible apply State.await_touch); exact rfl)
    | ((with_reducible apply Touch.foldl); rotate_left; intro v a; try dsimp only)
    | ((with_reducible apply Touch.foldlFst); rotate_left; intro v a; try dsimp only)
    | with_reducible apply Touch.cond
    | split
    | (with_reducible apply Touch.update) <;> first
      | exact Or.inl rfl
      | with_reducible exact Or.inr rfl
      | with_reducible exact fun w => ⟨w.1, w.2, w.3, w.4, w.5, w.6, w.7, w.8, w.9, w.10⟩
      | skip

theorem execLoopClose_goes (h : CmdHdr) (slot preload : Nat) (value : Int) (s : State) :
    Goes 0x818010 s (execLoopClose h slot preload value s) := by
  unfold execLoopClose
  try dsimp only
  repeat' first
    | with_reducible apply Goes.next
    | with_reducible apply Goes.cond
    | with_reducible apply Touch.refl
    | ((with_reducible apply State.start_touch); exact rfl; intro v; try dsimp only)
    | ((with_reducible apply Touch.step); rotate_left; (first
        | with_reducible apply State.done_touch
        | with_reducible apply State.await_touch
        | with_reducible apply State.handSlot_touch); exact rfl)
    | ((with_reducible apply Touch.foldl); rotate_left; intro v a; try dsimp only)
    | ((with_reducible apply Touch.foldlFst); rotate_left; intro v a; try dsimp only)
    | with_reducible apply Touch.cond
    | split
    | (with_reducible apply Touch.update) <;> first
      | exact Or.inl rfl
      | with_reducible exact Or.inr rfl
      | with_reducible exact fun w => ⟨w.1, w.2, w.3, w.4, w.5, w.6, w.7, w.8, w.9, w.10⟩
      | skip

theorem execLoopLoad_goes (h : CmdHdr) (buf : Buf) (count : Nat) (s : State) :
    Goes 0x818010 s (execLoopLoad h buf count s) := by
  unfold execLoopLoad
  try dsimp only
  repeat' first
    | with_reducible apply Goes.next
    | with_reducible apply Goes.cond
    | with_reducible apply Touch.refl
    | ((with_reducible apply State.start_touch); exact rfl; intro v; try dsimp only)
    | ((with_reducible apply Touch.step); rotate_left; (first
        | with_reducible apply State.handBlocks_touch
        | with_reducible apply State.done_touch
        | with_reducible apply State.await_touch); exact rfl)
    | ((with_reducible apply Touch.foldl); rotate_left; intro v a; try dsimp only)
    | ((with_reducible apply Touch.foldlFst); rotate_left; intro v a; try dsimp only)
    | with_reducible apply Touch.cond
    | split
    | (with_reducible apply Touch.update) <;> first
      | exact Or.inl rfl
      | with_reducible exact Or.inr rfl
      | with_reducible exact fun w => ⟨w.1, w.2, w.3, w.4, w.5, w.6, w.7, w.8, w.9, w.10⟩
      | skip

theorem execLoopRead_goes (h : CmdHdr) (buf : Buf) (first count : Nat) (s : State) :
    Goes 0xa18000 s (execLoopRead h buf first count s) := by
  unfold execLoopRead
  try dsimp only
  repeat' first
    | with_reducible apply Goes.next
    | with_reducible apply Goes.cond
    | with_reducible apply Touch.refl
    | ((with_reducible apply State.start_touch); exact rfl; intro v; try dsimp only)
    | ((with_reducible apply Touch.step); rotate_left; (first
        | with_reducible apply State.done_touch
        | with_reducible apply State.bufWrite_touch); exact rfl)
    | ((with_reducible apply Touch.foldl); rotate_left; intro v a; try dsimp only)
    | ((with_reducible apply Touch.foldlFst); rotate_left; intro v a; try dsimp only)
    | with_reducible apply Touch.cond
    | split
    | (with_reducible apply Touch.update) <;> first
      | exact Or.inl rfl
      | with_reducible exact Or.inr rfl
      | with_reducible exact fun w => ⟨w.1, w.2, w.3, w.4, w.5, w.6, w.7, w.8, w.9, w.10⟩
      | skip

theorem execLoopSchedule_goes (h : CmdHdr) (buf : Buf) (count : Nat) (s : State) :
    Goes 0x81c010 s (execLoopSchedule h buf count s) := by
  unfold execLoopSchedule
  try dsimp only
  repeat' first
    | with_reducible apply Goes.next
    | with_reducible apply Goes.cond
    | with_reducible apply Touch.refl
    | ((with_reducible apply State.start_touch); exact rfl; intro v; try dsimp only)
    | ((with_reducible apply Touch.step); rotate_left; (first
        | with_reducible apply State.complete_touch
        | with_reducible apply State.noteRefusal_touch
        | with_reducible apply State.await_touch
        | with_reducible apply State.acceptTable_touch); exact rfl)
    | ((with_reducible apply Touch.foldl); rotate_left; intro v a; try dsimp only)
    | ((with_reducible apply Touch.foldlFst); rotate_left; intro v a; try dsimp only)
    | with_reducible apply Touch.cond
    | split
    | (with_reducible apply Touch.update) <;> first
      | exact Or.inl rfl
      | with_reducible exact Or.inr rfl
      | with_reducible exact fun w => ⟨w.1, w.2, w.3, w.4, w.5, w.6, w.7, w.8, w.9, w.10⟩
      | skip

theorem execAssay_goes (h : CmdHdr) (mask : Nat) (s : State) :
    Goes 0x818010 s (execAssay h mask s) := by
  unfold execAssay
  try dsimp only
  repeat' first
    | with_reducible apply Goes.next
    | with_reducible apply Goes.cond
    | with_reducible apply Touch.refl
    | ((with_reducible apply State.start_touch); exact rfl; intro v; try dsimp only)
    | ((with_reducible apply Touch.step); rotate_left; (first
        | with_reducible apply State.await_touch); exact rfl)
    | ((with_reducible apply Touch.foldl); rotate_left; intro v a; try dsimp only)
    | ((with_reducible apply Touch.foldlFst); rotate_left; intro v a; try dsimp only)
    | with_reducible apply Touch.cond
    | split
    | (with_reducible apply Touch.update) <;> first
      | exact Or.inl rfl
      | with_reducible exact Or.inr rfl
      | with_reducible exact fun w => ⟨w.1, w.2, w.3, w.4, w.5, w.6, w.7, w.8, w.9, w.10⟩
      | exact fun w => ⟨by first | exact w.1 | simpa using w.1, by first | exact w.2 | simpa using w.2,
          by first | exact w.3 | simpa using w.3, by first | exact w.4 | simpa [upd_length] using w.4, w.5, w.6, w.7, w.8, w.9, w.10⟩
      | skip

theorem execSlotEvaluation_goes (slot : Nat) (parity : Bool) (s : State) :
    Goes 0x8140f0 s (execSlotEvaluation slot parity s) := by
  unfold execSlotEvaluation
  split
  · exact Goes.next (Touch.refl _ _)
  with_reducible apply Goes.cond
  · exact Goes.next (Touch.refl _ _)
  with_reducible apply Goes.cond
  · exact Goes.next ((State.setSlot_touch s _ _).mono rfl)
  extract_lets a x inp held differs x' b c d e f g
  have ha : Touch 0x8140f0 s a := (State.takeChanges_touch s slot).mono rfl
  clear_value a
  have hb : Touch 0x8140f0 s b := by
    clear_value x'
    exact ha.step (State.setSlot_touch a _ _) rfl
  clear_value x' b
  have hc : Touch 0x8140f0 s c := Touch.cond (hb.step (State.record_touch _ _ _ _ _ _) rfl) hb
  clear_value c
  have hd : Touch 0x8140f0 s d := Touch.cond (hc.step (State.record_touch _ _ _ _ _ _) rfl) hc
  clear_value d
  have he : Touch 0x8140f0 s e := hd.step (State.sendOut_touch _ _) rfl
  clear_value e
  have hf : Touch 0x8140f0 s f := Touch.cond (he.step (State.clearFollow_touch _ _) rfl) he
  clear_value f
  have hg : Touch 0x8140f0 s g := Touch.cond hf (hf.step (State.watchStart_touch _ _) rfl)
  clear_value g
  exact Goes.next ((Touch.cond (hg.step (State.slotAnswered_touch _ _) rfl) hg).step (State.busCheck_touch _) rfl)

theorem execFeTrip_goes (slot : Nat) (s : State) :
    Goes 0x81c0f0 s (execFeTrip slot s) := by
  unfold execFeTrip
  try dsimp only
  repeat' first
    | with_reducible apply Goes.next
    | with_reducible apply Goes.cond
    | with_reducible apply Touch.refl
    | ((with_reducible apply Touch.step); rotate_left; (first
        | with_reducible apply State.setSlot_touch
        | with_reducible apply State.record_touch
        | with_reducible apply State.ladder_touch); exact rfl)
    | ((with_reducible apply Touch.foldl); rotate_left; intro v a; try dsimp only)
    | ((with_reducible apply Touch.foldlFst); rotate_left; intro v a; try dsimp only)
    | with_reducible apply Touch.cond
    | split
    | (with_reducible apply Touch.update) <;> first
      | exact Or.inl rfl
      | with_reducible exact Or.inr rfl
      | with_reducible exact fun w => ⟨w.1, w.2, w.3, w.4, w.5, w.6, w.7, w.8, w.9, w.10⟩
      | skip

theorem execOpenTrip_goes (slot : Nat) (s : State) :
    Goes 0x81c0f0 s (execOpenTrip slot s) := by
  unfold execOpenTrip
  try dsimp only
  repeat' first
    | with_reducible apply Goes.next
    | with_reducible apply Goes.cond
    | with_reducible apply Touch.refl
    | ((with_reducible apply Touch.step); rotate_left; (first
        | with_reducible apply State.setSlot_touch
        | with_reducible apply State.record_touch
        | with_reducible apply State.ladder_touch); exact rfl)
    | ((with_reducible apply Touch.foldl); rotate_left; intro v a; try dsimp only)
    | ((with_reducible apply Touch.foldlFst); rotate_left; intro v a; try dsimp only)
    | with_reducible apply Touch.cond
    | split
    | (with_reducible apply Touch.update) <;> first
      | exact Or.inl rfl
      | with_reducible exact Or.inr rfl
      | with_reducible exact fun w => ⟨w.1, w.2, w.3, w.4, w.5, w.6, w.7, w.8, w.9, w.10⟩
      | skip

theorem execFallbackSwitch_goes (s : State) :
    Goes 0x81c0f0 s (execFallbackSwitch s) := by
  unfold execFallbackSwitch
  try dsimp only
  repeat' first
    | with_reducible apply Goes.next
    | with_reducible apply Goes.cond
    | with_reducible apply Touch.refl
    | ((with_reducible apply Touch.step); rotate_left; (first
        | with_reducible apply State.fallOver_touch); exact rfl)
    | ((with_reducible apply Touch.foldl); rotate_left; intro v a; try dsimp only)
    | ((with_reducible apply Touch.foldlFst); rotate_left; intro v a; try dsimp only)
    | with_reducible apply Touch.cond
    | split
    | (with_reducible apply Touch.update) <;> first
      | exact Or.inl rfl
      | with_reducible exact Or.inr rfl
      | with_reducible exact fun w => ⟨w.1, w.2, w.3, w.4, w.5, w.6, w.7, w.8, w.9, w.10⟩
      | exact fun w => ⟨by first | exact w.1 | simpa using w.1, by first | exact w.2 | simpa using w.2,
          by first | exact w.3 | simpa using w.3, by first | exact w.4 | simpa [upd_length] using w.4, w.5, w.6, w.7, w.8, w.9, w.10⟩
      | skip

theorem execScheduleSwitch_goes (s : State) :
    Goes 0x81c0f0 s (execScheduleSwitch s) := by
  unfold execScheduleSwitch
  try dsimp only
  repeat' first
    | with_reducible apply Goes.next
    | with_reducible apply Goes.cond
    | with_reducible apply Touch.refl
    | ((with_reducible apply Touch.step); rotate_left; (first
        | with_reducible apply State.healTable_touch
        | with_reducible apply State.putTable_touch
        | with_reducible apply State.completeWhere_touch); exact rfl)
    | ((with_reducible apply Touch.foldl); rotate_left; intro v a; try dsimp only)
    | ((with_reducible apply Touch.foldlFst); rotate_left; intro v a; try dsimp only)
    | with_reducible apply Touch.cond
    | split
    | (with_reducible apply Touch.update) <;> first
      | exact Or.inl rfl
      | with_reducible exact Or.inr rfl
      | with_reducible exact fun w => ⟨w.1, w.2, w.3, w.4, w.5, w.6, w.7, w.8, w.9, w.10⟩
      | exact fun w => ⟨by first | exact w.1 | simpa using w.1, by first | exact w.2 | simpa using w.2,
          by first | exact w.3 | simpa using w.3, by first | exact w.4 | simpa [upd_length] using w.4, w.5, w.6, w.7, w.8, w.9, w.10⟩
      | skip

theorem execAssayEvaluation_goes (pipe : Nat) (mismatch : Bool) (s : State) :
    Goes 0x814010 s (execAssayEvaluation pipe mismatch s) := by
  unfold execAssayEvaluation
  try dsimp only
  repeat' first
    | with_reducible apply Goes.next
    | with_reducible apply Goes.cond
    | with_reducible apply Touch.refl
    | ((with_reducible apply Touch.step); rotate_left; (first
        | with_reducible apply State.pipeFailed_touch
        | with_reducible apply State.assayCheck_touch); exact rfl)
    | ((with_reducible apply Touch.foldl); rotate_left; intro v a; try dsimp only)
    | ((with_reducible apply Touch.foldlFst); rotate_left; intro v a; try dsimp only)
    | with_reducible apply Touch.cond
    | split
    | (with_reducible apply Touch.update) <;> first
      | exact Or.inl rfl
      | with_reducible exact Or.inr rfl
      | with_reducible exact fun w => ⟨w.1, w.2, w.3, w.4, w.5, w.6, w.7, w.8, w.9, w.10⟩
      | exact fun w => ⟨by first | exact w.1 | simpa using w.1, by first | exact w.2 | simpa using w.2,
          by first | exact w.3 | simpa using w.3, by first | exact w.4 | simpa [upd_length] using w.4, w.5, w.6, w.7, w.8, w.9, w.10⟩
      | skip

theorem execLeTaperFrac_goes (slot : Nat) (s : State) :
    Goes 0x800010 s (execLeTaperFrac slot s) := by
  unfold execLeTaperFrac
  try dsimp only
  repeat' first
    | with_reducible apply Goes.next
    | with_reducible apply Goes.cond
    | with_reducible apply Touch.refl
    | ((with_reducible apply Touch.step); rotate_left; (first
        | with_reducible apply State.setSlot_touch); exact rfl)
    | ((with_reducible apply Touch.step); rotate_left; (with_reducible apply State.emit_touch); (exact rfl); exact rfl)
    | ((with_reducible apply Touch.foldl); rotate_left; intro v a; try dsimp only)
    | ((with_reducible apply Touch.foldlFst); rotate_left; intro v a; try dsimp only)
    | with_reducible apply Touch.cond
    | split
    | (with_reducible apply Touch.update) <;> first
      | exact Or.inl rfl
      | with_reducible exact Or.inr rfl
      | with_reducible exact fun w => ⟨w.1, w.2, w.3, w.4, w.5, w.6, w.7, w.8, w.9, w.10⟩
      | skip

end Sys2Proof.Machine
end

