-- ==== Sys2Proof/Laws/TouchPower.lean ====
section
/-!
SUPPORT. What the operations of Machine/Power.lean touch.
-/

namespace Sys2Proof.Machine

open Sys2Proof

theorem State.protShelf_touch (s : State) (off : Nat) (v : Reg) {t : State} (h : s.protShelf off v = some t) :
    Touch 0x80 s t := by
  have key : ∀ x, Touch 0x80 s { s with sh := x } := by
    intro x
    with_reducible apply Touch.update (Touch.refl _ s)
    all_goals first
      | exact Or.inl rfl
      | with_reducible exact Or.inr rfl
      | exact fun w => ⟨w.1, w.2, w.3, w.4, w.5, w.6, w.7, w.8, w.9, w.10⟩
  unfold State.protShelf at h
  repeat' split at h
  all_goals first
    | (cases h; exact key _)
    | (cases h; exact Touch.refl _ _)
    | cases h

theorem State.svcQueue_touch (s : State) (p : Nat) (r : SvcReq) :
    Touch 0x20 s (State.svcQueue s p r) := by
  unfold State.svcQueue
  try dsimp only
  repeat' first
    | with_reducible apply Touch.refl
    | ((with_reducible apply Touch.step); rotate_left; (first
        | with_reducible apply State.setPort_touch); exact rfl)
    | ((with_reducible apply Touch.foldl); rotate_left; intro v a; try dsimp only)
    | ((with_reducible apply Touch.foldlFst); rotate_left; intro v a; try dsimp only)
    | with_reducible apply Touch.cond
    | split
    | (with_reducible apply Touch.update) <;> first
      | exact Or.inl rfl
      | with_reducible exact Or.inr rfl
      | with_reducible exact fun w => ⟨w.1, w.2, w.3, w.4, w.5, w.6, w.7, w.8, w.9, w.10⟩
      | skip

theorem State.burstRefused_touch (s : State) (data : Reg) :
    Touch 0x814080 s (State.burstRefused s data) := by
  unfold State.burstRefused
  try dsimp only
  repeat' first
    | with_reducible apply Touch.refl
    | ((with_reducible apply Touch.step); rotate_left; (first
        | with_reducible apply State.record_touch); exact rfl)
    | ((with_reducible apply Touch.foldl); rotate_left; intro v a; try dsimp only)
    | ((with_reducible apply Touch.foldlFst); rotate_left; intro v a; try dsimp only)
    | with_reducible apply Touch.cond
    | split
    | (with_reducible apply Touch.update) <;> first
      | exact Or.inl rfl
      | with_reducible exact Or.inr rfl
      | with_reducible exact fun w => ⟨w.1, w.2, w.3, w.4, w.5, w.6, w.7, w.8, w.9, w.10⟩
      | skip

theorem State.protRefused_touch (s : State) (addr : Nat) :
    Touch 0x814080 s (State.protRefused s addr) := by
  unfold State.protRefused
  try dsimp only
  repeat' first
    | with_reducible apply Touch.refl
    | ((with_reducible apply Touch.step); rotate_left; (first
        | with_reducible apply State.record_touch); exact rfl)
    | ((with_reducible apply Touch.foldl); rotate_left; intro v a; try dsimp only)
    | ((with_reducible apply Touch.foldlFst); rotate_left; intro v a; try dsimp only)
    | with_reducible apply Touch.cond
    | split
    | (with_reducible apply Touch.update) <;> first
      | exact Or.inl rfl
      | with_reducible exact Or.inr rfl
      | with_reducible exact fun w => ⟨w.1, w.2, w.3, w.4, w.5, w.6, w.7, w.8, w.9, w.10⟩
      | skip

theorem execGroupEnable_goes (h : CmdHdr) (group : Nat) (s : State) :
    Goes 0x8180f0 s (execGroupEnable h group s) := by
  unfold execGroupEnable
  try dsimp only
  repeat' first
    | with_reducible apply Goes.next
    | with_reducible apply Goes.cond
    | with_reducible apply Touch.refl
    | ((with_reducible apply State.start_touch); exact rfl; intro v; try dsimp only)
    | ((with_reducible apply Touch.step); rotate_left; (first
        | with_reducible apply State.done_touch
        | with_reducible apply State.await_touch
        | with_reducible apply State.startGroup_touch); exact rfl)
    | ((with_reducible apply Touch.foldl); rotate_left; intro v a; try dsimp only)
    | ((with_reducible apply Touch.foldlFst); rotate_left; intro v a; try dsimp only)
    | with_reducible apply Touch.cond
    | split
    | (with_reducible apply Touch.update) <;> first
      | exact Or.inl rfl
      | with_reducible exact Or.inr rfl
      | with_reducible exact fun w => ⟨w.1, w.2, w.3, w.4, w.5, w.6, w.7, w.8, w.9, w.10⟩
      | skip

theorem execGroupQuench_goes (h : CmdHdr) (group : Nat) (s : State) :
    Goes 0x81c0f0 s (execGroupQuench h group s) := by
  unfold execGroupQuench
  try dsimp only
  repeat' first
    | with_reducible apply Goes.next
    | with_reducible apply Goes.cond
    | with_reducible apply Touch.refl
    | ((with_reducible apply State.start_touch); exact rfl; intro v; try dsimp only)
    | ((with_reducible apply Touch.step); rotate_left; (first
        | with_reducible apply State.done_touch
        | with_reducible apply State.await_touch
        | with_reducible apply State.quench_touch); exact rfl)
    | ((with_reducible apply Touch.foldl); rotate_left; intro v a; try dsimp only)
    | ((with_reducible apply Touch.foldlFst); rotate_left; intro v a; try dsimp only)
    | with_reducible apply Touch.cond
    | split
    | (with_reducible apply Touch.update) <;> first
      | exact Or.inl rfl
      | with_reducible exact Or.inr rfl
      | with_reducible exact fun w => ⟨w.1, w.2, w.3, w.4, w.5, w.6, w.7, w.8, w.9, w.10⟩
      | skip

theorem execBusVset_goes (h : CmdHdr) (vset : Int) (slew : Nat) (s : State) :
    Goes 0x8180d0 s (execBusVset h vset slew s) := by
  unfold execBusVset
  try dsimp only
  repeat' first
    | with_reducible apply Goes.next
    | with_reducible apply Goes.cond
    | with_reducible apply Touch.refl
    | ((with_reducible apply State.start_touch); exact rfl; intro v; try dsimp only)
    | ((with_reducible apply Touch.step); rotate_left; (first
        | with_reducible apply State.setBus_touch
        | with_reducible apply State.supersedeBus_touch
        | with_reducible apply State.done_touch
        | with_reducible apply State.busCheck_touch
        | with_reducible apply State.await_touch); exact rfl)
    | ((with_reducible apply Touch.foldl); rotate_left; intro v a; try dsimp only)
    | ((with_reducible apply Touch.foldlFst); rotate_left; intro v a; try dsimp only)
    | with_reducible apply Touch.cond
    | split
    | (with_reducible apply Touch.update) <;> first
      | exact Or.inl rfl
      | with_reducible exact Or.inr rfl
      | with_reducible exact fun w => ⟨w.1, w.2, w.3, w.4, w.5, w.6, w.7, w.8, w.9, w.10⟩
      | skip

theorem execCellRetire_goes (h : CmdHdr) (port : Nat) (s : State) :
    Goes 0x81c030 s (execCellRetire h port s) := by
  unfold execCellRetire
  try dsimp only
  repeat' first
    | with_reducible apply Goes.next
    | with_reducible apply Goes.cond
    | with_reducible apply Touch.refl
    | ((with_reducible apply State.start_touch); exact rfl; intro v; try dsimp only)
    | ((with_reducible apply Touch.step); rotate_left; (first
        | with_reducible apply State.done_touch
        | with_reducible apply State.await_touch
        | with_reducible apply State.retire_touch); exact rfl)
    | ((with_reducible apply Touch.foldl); rotate_left; intro v a; try dsimp only)
    | ((with_reducible apply Touch.foldlFst); rotate_left; intro v a; try dsimp only)
    | with_reducible apply Touch.cond
    | split
    | (with_reducible apply Touch.update) <;> first
      | exact Or.inl rfl
      | with_reducible exact Or.inr rfl
      | with_reducible exact fun w => ⟨w.1, w.2, w.3, w.4, w.5, w.6, w.7, w.8, w.9, w.10⟩
      | skip

theorem execCellRestore_goes (h : CmdHdr) (port : Nat) (clear : Bool) (s : State) :
    Goes 0x81c0b0 s (execCellRestore h port clear s) := by
  unfold execCellRestore
  try dsimp only
  repeat' first
    | with_reducible apply Goes.next
    | with_reducible apply Goes.cond
    | with_reducible apply Touch.refl
    | ((with_reducible apply State.start_touch); exact rfl; intro v; try dsimp only)
    | ((with_reducible apply Touch.step); rotate_left; (first
        | with_reducible apply State.await_touch
        | with_reducible apply State.svcQueue_touch
        | with_reducible apply State.setPort_touch
        | with_reducible apply State.applyRestore_touch); exact rfl)
    | ((with_reducible apply Touch.foldl); rotate_left; intro v a; try dsimp only)
    | ((with_reducible apply Touch.foldlFst); rotate_left; intro v a; try dsimp only)
    | with_reducible apply Touch.cond
    | split
    | (with_reducible apply Touch.update) <;> first
      | exact Or.inl rfl
      | with_reducible exact Or.inr rfl
      | with_reducible exact fun w => ⟨w.1, w.2, w.3, w.4, w.5, w.6, w.7, w.8, w.9, w.10⟩
      | skip

theorem execPtBusVset_goes (data : Reg) (s : State) :
    Goes 0x8140d0 s (execPtBusVset data s) := by
  unfold execPtBusVset
  try dsimp only
  repeat' first
    | with_reducible apply Goes.next
    | with_reducible apply Goes.cond
    | with_reducible apply Touch.refl
    | ((with_reducible apply Touch.step); rotate_left; (first
        | with_reducible apply State.setBus_touch
        | with_reducible apply State.supersedeBus_touch
        | with_reducible apply State.record_touch); exact rfl)
    | ((with_reducible apply Touch.foldl); rotate_left; intro v a; try dsimp only)
    | ((with_reducible apply Touch.foldlFst); rotate_left; intro v a; try dsimp only)
    | with_reducible apply Touch.cond
    | split
    | (with_reducible apply Touch.update) <;> first
      | exact Or.inl rfl
      | with_reducible exact Or.inr rfl
      | with_reducible exact fun w => ⟨w.1, w.2, w.3, w.4, w.5, w.6, w.7, w.8, w.9, w.10⟩
      | skip

theorem execPtBusSlew_goes (data : Reg) (s : State) :
    Goes 0x814090 s (execPtBusSlew data s) := by
  unfold execPtBusSlew
  try dsimp only
  repeat' first
    | with_reducible apply Goes.next
    | with_reducible apply Goes.cond
    | with_reducible apply Touch.refl
    | ((with_reducible apply Touch.step); rotate_left; (first
        | with_reducible apply State.aimAll_touch
        | with_reducible apply State.record_touch); exact rfl)
    | ((with_reducible apply Touch.foldl); rotate_left; intro v a; try dsimp only)
    | ((with_reducible apply Touch.foldlFst); rotate_left; intro v a; try dsimp only)
    | with_reducible apply Touch.cond
    | split
    | (with_reducible apply Touch.update) <;> first
      | exact Or.inl rfl
      | with_reducible exact Or.inr rfl
      | with_reducible exact fun w => ⟨w.1, w.2, w.3, w.4, w.5, w.6, w.7, w.8, w.9, w.10⟩
      | skip

theorem execPtFfCfg_goes (data : Reg) (s : State) :
    Goes 0x80 s (execPtFfCfg data s) := by
  unfold execPtFfCfg
  try dsimp only
  repeat' first
    | with_reducible apply Goes.next
    | with_reducible apply Goes.cond
    | with_reducible apply Touch.refl
    | ((with_reducible apply Touch.foldl); rotate_left; intro v a; try dsimp only)
    | ((with_reducible apply Touch.foldlFst); rotate_left; intro v a; try dsimp only)
    | with_reducible apply Touch.cond
    | split
    | (with_reducible apply Touch.update) <;> first
      | exact Or.inl rfl
      | with_reducible exact Or.inr rfl
      | with_reducible exact fun w => ⟨w.1, w.2, w.3, w.4, w.5, w.6, w.7, w.8, w.9, w.10⟩
      | skip

theorem execPtBurstEnter_goes (data : Reg) (s : State) :
    Goes 0x814080 s (execPtBurstEnter data s) := by
  unfold execPtBurstEnter
  try dsimp only
  repeat' first
    | with_reducible apply Goes.next
    | with_reducible apply Goes.cond
    | with_reducible apply Touch.refl
    | ((with_reducible apply Touch.step); rotate_left; (first
        | with_reducible apply State.burstRefused_touch); exact rfl)
    | ((with_reducible apply Touch.foldl); rotate_left; intro v a; try dsimp only)
    | ((with_reducible apply Touch.foldlFst); rotate_left; intro v a; try dsimp only)
    | with_reducible apply Touch.cond
    | split
    | (with_reducible apply Touch.update) <;> first
      | exact Or.inl rfl
      | with_reducible exact Or.inr rfl
      | with_reducible exact fun w => ⟨w.1, w.2, w.3, w.4, w.5, w.6, w.7, w.8, w.9, w.10⟩
      | skip

theorem execPtBurstDwell_goes (data : Reg) (s : State) :
    Goes 0x814080 s (execPtBurstDwell data s) := by
  unfold execPtBurstDwell
  try dsimp only
  repeat' first
    | with_reducible apply Goes.next
    | with_reducible apply Goes.cond
    | with_reducible apply Touch.refl
    | ((with_reducible apply Touch.step); rotate_left; (first
        | with_reducible apply State.burstRefused_touch); exact rfl)
    | ((with_reducible apply Touch.foldl); rotate_left; intro v a; try dsimp only)
    | ((with_reducible apply Touch.foldlFst); rotate_left; intro v a; try dsimp only)
    | with_reducible apply Touch.cond
    | split
    | (with_reducible apply Touch.update) <;> first
      | exact Or.inl rfl
      | with_reducible exact Or.inr rfl
      | with_reducible exact fun w => ⟨w.1, w.2, w.3, w.4, w.5, w.6, w.7, w.8, w.9, w.10⟩
      | skip

theorem execPtBurstBand_goes (data : Reg) (s : State) :
    Goes 0x814080 s (execPtBurstBand data s) := by
  unfold execPtBurstBand
  try dsimp only
  repeat' first
    | with_reducible apply Goes.next
    | with_reducible apply Goes.cond
    | with_reducible apply Touch.refl
    | ((with_reducible apply Touch.step); rotate_left; (first
        | with_reducible apply State.burstRefused_touch); exact rfl)
    | ((with_reducible apply Touch.foldl); rotate_left; intro v a; try dsimp only)
    | ((with_reducible apply Touch.foldlFst); rotate_left; intro v a; try dsimp only)
    | with_reducible apply Touch.cond
    | split
    | (with_reducible apply Touch.update) <;> first
      | exact Or.inl rfl
      | with_reducible exact Or.inr rfl
      | with_reducible exact fun w => ⟨w.1, w.2, w.3, w.4, w.5, w.6, w.7, w.8, w.9, w.10⟩
      | skip

theorem execProtRegisterWrite_goes (addr : Nat) (data : Reg) (s : State) :
    Goes 0x8140c0 s (execProtRegisterWrite addr data s) := by
  unfold execProtRegisterWrite
  with_reducible apply Goes.cond
  · exact Goes.next (Touch.refl _ _)
  with_reducible apply Goes.cond
  · refine Goes.next ?_
    cases h : s.protShelf (addr - 0xA10000) data with
    | none => exact (State.protRefused_touch s addr).mono rfl
    | some t => exact (State.protShelf_touch s _ _ h).mono rfl
  with_reducible apply Goes.cond
  · extract_lets g
    clear_value g
    split
    · exact Goes.next ((State.setGroup_touch s _ _).mono rfl)
    · exact Goes.next ((State.protRefused_touch s addr).mono rfl)
  · exact Goes.next (Touch.refl _ _)

theorem execTmGrpSrcWrite_goes (group which : Nat) (data : Reg) (s : State) :
    Goes 0x40 s (execTmGrpSrcWrite group which data s) := by
  unfold execTmGrpSrcWrite
  try dsimp only
  repeat' first
    | with_reducible apply Goes.next
    | with_reducible apply Goes.cond
    | with_reducible apply Touch.refl
    | ((with_reducible apply Touch.step); rotate_left; (first
        | with_reducible apply State.setGroup_touch); exact rfl)
    | ((with_reducible apply Touch.foldl); rotate_left; intro v a; try dsimp only)
    | ((with_reducible apply Touch.foldlFst); rotate_left; intro v a; try dsimp only)
    | with_reducible apply Touch.cond
    | split
    | (with_reducible apply Touch.update) <;> first
      | exact Or.inl rfl
      | with_reducible exact Or.inr rfl
      | with_reducible exact fun w => ⟨w.1, w.2, w.3, w.4, w.5, w.6, w.7, w.8, w.9, w.10⟩
      | skip

theorem execAutostart_goes (s : State) :
    Goes 0xf0 s (execAutostart s) := by
  unfold execAutostart
  try dsimp only
  repeat' first
    | with_reducible apply Goes.next
    | with_reducible apply Goes.cond
    | with_reducible apply Touch.refl
    | ((with_reducible apply Touch.step); rotate_left; (first
        | with_reducible apply State.setGroup_touch
        | with_reducible apply State.startGroup_touch); exact rfl)
    | ((with_reducible apply Touch.foldl); rotate_left; intro v a; try dsimp only)
    | ((with_reducible apply Touch.foldlFst); rotate_left; intro v a; try dsimp only)
    | with_reducible apply Touch.cond
    | split
    | (with_reducible apply Touch.update) <;> first
      | exact Or.inl rfl
      | with_reducible exact Or.inr rfl
      | with_reducible exact fun w => ⟨w.1, w.2, w.3, w.4, w.5, w.6, w.7, w.8, w.9, w.10⟩
      | skip

theorem execPreBiasedStart_goes (group : Nat) (s : State) :
    Goes 0x50 s (execPreBiasedStart group s) := by
  unfold execPreBiasedStart
  try dsimp only
  repeat' first
    | with_reducible apply Goes.next
    | with_reducible apply Goes.cond
    | with_reducible apply Touch.refl
    | ((with_reducible apply Touch.step); rotate_left; (first
        | with_reducible apply State.closeGroup_touch); exact rfl)
    | ((with_reducible apply Touch.foldl); rotate_left; intro v a; try dsimp only)
    | ((with_reducible apply Touch.foldlFst); rotate_left; intro v a; try dsimp only)
    | with_reducible apply Touch.cond
    | split
    | (with_reducible apply Touch.update) <;> first
      | exact Or.inl rfl
      | with_reducible exact Or.inr rfl
      | with_reducible exact fun w => ⟨w.1, w.2, w.3, w.4, w.5, w.6, w.7, w.8, w.9, w.10⟩
      | skip

theorem execRegulationReached_goes (group : Nat) (s : State) :
    Goes 0x810040 s (execRegulationReached group s) := by
  unfold execRegulationReached
  try dsimp only
  repeat' first
    | with_reducible apply Goes.next
    | with_reducible apply Goes.cond
    | with_reducible apply Touch.refl
    | ((with_reducible apply Touch.step); rotate_left; (first
        | with_reducible apply State.setGroup_touch
        | with_reducible apply State.completeWhere_touch); exact rfl)
    | ((with_reducible apply Touch.foldl); rotate_left; intro v a; try dsimp only)
    | ((with_reducible apply Touch.foldlFst); rotate_left; intro v a; try dsimp only)
    | with_reducible apply Touch.cond
    | split
    | (with_reducible apply Touch.update) <;> first
      | exact Or.inl rfl
      | with_reducible exact Or.inr rfl
      | with_reducible exact fun w => ⟨w.1, w.2, w.3, w.4, w.5, w.6, w.7, w.8, w.9, w.10⟩
      | skip

theorem execStartTimeout_goes (group : Nat) (s : State) :
    Goes 0x81c0f0 s (execStartTimeout group s) := by
  unfold execStartTimeout
  try dsimp only
  repeat' first
    | with_reducible apply Goes.next
    | with_reducible apply Goes.cond
    | with_reducible apply Touch.refl
    | ((with_reducible apply Touch.step); rotate_left; (first
        | with_reducible apply State.completeWhere_touch
        | with_reducible apply State.quench_touch
        | with_reducible apply State.record_touch); exact rfl)
    | ((with_reducible apply Touch.foldl); rotate_left; intro v a; try dsimp only)
    | ((with_reducible apply Touch.foldlFst); rotate_left; intro v a; try dsimp only)
    | with_reducible apply Touch.cond
    | split
    | (with_reducible apply Touch.update) <;> first
      | exact Or.inl rfl
      | with_reducible exact Or.inr rfl
      | with_reducible exact fun w => ⟨w.1, w.2, w.3, w.4, w.5, w.6, w.7, w.8, w.9, w.10⟩
      | skip

theorem execQuenchTimeout_goes (group : Nat) (s : State) :
    Goes 0x810040 s (execQuenchTimeout group s) := by
  unfold execQuenchTimeout
  try dsimp only
  repeat' first
    | with_reducible apply Goes.next
    | with_reducible apply Goes.cond
    | with_reducible apply Touch.refl
    | ((with_reducible apply Touch.step); rotate_left; (first
        | with_reducible apply State.groupOff_touch); exact rfl)
    | ((with_reducible apply Touch.foldl); rotate_left; intro v a; try dsimp only)
    | ((with_reducible apply Touch.foldlFst); rotate_left; intro v a; try dsimp only)
    | with_reducible apply Touch.cond
    | split
    | (with_reducible apply Touch.update) <;> first
      | exact Or.inl rfl
      | with_reducible exact Or.inr rfl
      | with_reducible exact fun w => ⟨w.1, w.2, w.3, w.4, w.5, w.6, w.7, w.8, w.9, w.10⟩
      | skip

theorem execRetireTimeout_goes (port : Nat) (s : State) :
    Goes 0x810000 s (execRetireTimeout port s) := by
  unfold execRetireTimeout
  try dsimp only
  repeat' first
    | with_reducible apply Goes.next
    | with_reducible apply Goes.cond
    | with_reducible apply Touch.refl
    | ((with_reducible apply Touch.step); rotate_left; (first
        | with_reducible apply State.completeWhere_touch); exact rfl)
    | ((with_reducible apply Touch.foldl); rotate_left; intro v a; try dsimp only)
    | ((with_reducible apply Touch.foldlFst); rotate_left; intro v a; try dsimp only)
    | with_reducible apply Touch.cond
    | split
    | (with_reducible apply Touch.update) <;> first
      | exact Or.inl rfl
      | with_reducible exact Or.inr rfl
      | with_reducible exact fun w => ⟨w.1, w.2, w.3, w.4, w.5, w.6, w.7, w.8, w.9, w.10⟩
      | skip

theorem execRestoreSrStep_goes (port : Nat) (s : State) :
    Goes 0x810020 s (execRestoreSrStep port s) := by
  unfold execRestoreSrStep
  try dsimp only
  repeat' first
    | with_reducible apply Goes.next
    | with_reducible apply Goes.cond
    | with_reducible apply Touch.refl
    | ((with_reducible apply Touch.step); rotate_left; (first
        | with_reducible apply State.completeWhere_touch
        | with_reducible apply State.setPort_touch); exact rfl)
    | ((with_reducible apply Touch.foldl); rotate_left; intro v a; try dsimp only)
    | ((with_reducible apply Touch.foldlFst); rotate_left; intro v a; try dsimp only)
    | with_reducible apply Touch.cond
    | split
    | (with_reducible apply Touch.update) <;> first
      | exact Or.inl rfl
      | with_reducible exact Or.inr rfl
      | with_reducible exact fun w => ⟨w.1, w.2, w.3, w.4, w.5, w.6, w.7, w.8, w.9, w.10⟩
      | skip

theorem execBurstEnter_goes (s : State) :
    Goes 0x50 s (execBurstEnter s) := by
  unfold execBurstEnter
  try dsimp only
  repeat' first
    | with_reducible apply Goes.next
    | with_reducible apply Goes.cond
    | with_reducible apply Touch.refl
    | ((with_reducible apply Touch.step); rotate_left; (first
        | with_reducible apply State.runGroup_touch); exact rfl)
    | ((with_reducible apply Touch.foldl); rotate_left; intro v a; try dsimp only)
    | ((with_reducible apply Touch.foldlFst); rotate_left; intro v a; try dsimp only)
    | with_reducible apply Touch.cond
    | split
    | (with_reducible apply Touch.update) <;> first
      | exact Or.inl rfl
      | with_reducible exact Or.inr rfl
      | with_reducible exact fun w => ⟨w.1, w.2, w.3, w.4, w.5, w.6, w.7, w.8, w.9, w.10⟩
      | skip

theorem execImbalance_goes (port : Nat) (s : State) :
    Goes 0x81c0f0 s (execImbalance port s) := by
  unfold execImbalance
  try dsimp only
  repeat' first
    | with_reducible apply Goes.next
    | with_reducible apply Goes.cond
    | with_reducible apply Touch.refl
    | ((with_reducible apply Touch.step); rotate_left; (first
        | with_reducible apply State.setPort_touch
        | with_reducible apply State.ladder_touch
        | with_reducible apply State.record_touch); exact rfl)
    | ((with_reducible apply Touch.foldl); rotate_left; intro v a; try dsimp only)
    | ((with_reducible apply Touch.foldlFst); rotate_left; intro v a; try dsimp only)
    | with_reducible apply Touch.cond
    | split
    | (with_reducible apply Touch.update) <;> first
      | exact Or.inl rfl
      | with_reducible exact Or.inr rfl
      | with_reducible exact fun w => ⟨w.1, w.2, w.3, w.4, w.5, w.6, w.7, w.8, w.9, w.10⟩
      | skip

end Sys2Proof.Machine
end

