-- ==== Sys2Proof/Laws/TouchTelemetry.lean ====
section
/-!
SUPPORT. What the operations of Machine/Telemetry.lean touch.
-/

namespace Sys2Proof.Machine

open Sys2Proof

theorem gather_touch {F : Nat} {s : State} {f : State → Nat → State × List Found} {l : List Nat} {a : State × List Found}
    (h : Touch F s a.1) (hf : ∀ v k, Touch F v (f v k).1) : Touch F s (gather f l a).1 := by
  unfold gather
  exact Touch.foldlFst h (fun v k => hf v.1 k)

theorem State.vTimers_touch (s : State) (g : Nat) :
    Touch 0x40 s (State.vTimers s g) := by
  unfold State.vTimers
  try dsimp only
  repeat' first
    | with_reducible apply Touch.refl
    | ((with_reducible apply Touch.step); rotate_left; (first
        | with_reducible apply State.setGroup_touch); exact rfl)
    | ((with_reducible apply Touch.foldl); rotate_left; intro v a; try dsimp only)
    | ((with_reducible apply Touch.foldlFst); rotate_left; intro v a; try dsimp only)
    | with_reducible apply Touch.cond
    | split
    | (with_reducible apply Touch.update) <;> first
      | exact Or.inl rfl
      | with_reducible exact Or.inr rfl
      | with_reducible exact fun w => ⟨w.1, w.2, w.3, w.4, w.5, w.6, w.7, w.8, w.9, w.10⟩
      | skip

theorem State.groupFrame_touch (s : State) (g : Nat) :
    Touch 0x40 s (State.groupFrame s g) := by
  unfold State.groupFrame
  try dsimp only
  repeat' first
    | with_reducible apply Touch.refl
    | ((with_reducible apply Touch.step); rotate_left; (first
        | with_reducible apply State.setGroup_touch); exact rfl)
    | ((with_reducible apply Touch.foldl); rotate_left; intro v a; try dsimp only)
    | ((with_reducible apply Touch.foldlFst); rotate_left; intro v a; try dsimp only)
    | with_reducible apply Touch.cond
    | split
    | (with_reducible apply Touch.update) <;> first
      | exact Or.inl rfl
      | with_reducible exact Or.inr rfl
      | with_reducible exact fun w => ⟨w.1, w.2, w.3, w.4, w.5, w.6, w.7, w.8, w.9, w.10⟩
      | skip

theorem State.selFrame_touch (s : State) :
    Touch 0x80 s (State.selFrame s) := by
  unfold State.selFrame
  try dsimp only
  repeat' first
    | with_reducible apply Touch.refl
    | ((with_reducible apply Touch.foldl); rotate_left; intro v a; try dsimp only)
    | ((with_reducible apply Touch.foldlFst); rotate_left; intro v a; try dsimp only)
    | with_reducible apply Touch.cond
    | split
    | (with_reducible apply Touch.update) <;> first
      | exact Or.inl rfl
      | with_reducible exact Or.inr rfl
      | with_reducible exact fun w => ⟨w.1, w.2, w.3, w.4, w.5, w.6, w.7, w.8, w.9, w.10⟩
      | skip

theorem State.framePeriod_touch (s : State) :
    Touch 0x8100f0 s (State.framePeriod s) := by
  unfold State.framePeriod
  try dsimp only
  repeat' first
    | with_reducible apply Touch.refl
    | ((with_reducible apply Touch.step); rotate_left; (first
        | with_reducible apply State.selFrame_touch
        | with_reducible apply State.vTimers_touch
        | with_reducible apply State.groupFrame_touch
        | with_reducible apply State.burstFrame_touch
        | with_reducible apply State.mapPorts_touch); exact rfl)
    | ((with_reducible apply Touch.foldl); rotate_left; intro v a; try dsimp only)
    | ((with_reducible apply Touch.foldlFst); rotate_left; intro v a; try dsimp only)
    | with_reducible apply Touch.cond
    | split
    | (with_reducible apply Touch.update) <;> first
      | exact Or.inl rfl
      | with_reducible exact Or.inr rfl
      | with_reducible exact fun w => ⟨w.1, w.2, w.3, w.4, w.5, w.6, w.7, w.8, w.9, w.10⟩
      | skip

theorem State.quietPeriod_touch (s : State) :
    Touch 0x8100f2 s (State.quietPeriod s) := by
  unfold State.quietPeriod
  try dsimp only
  repeat' first
    | with_reducible apply Touch.refl
    | ((with_reducible apply Touch.step); rotate_left; (first
        | with_reducible apply State.idlePeriod_touch
        | with_reducible apply State.framePeriod_touch); exact rfl)
    | ((with_reducible apply Touch.foldl); rotate_left; intro v a; try dsimp only)
    | ((with_reducible apply Touch.foldlFst); rotate_left; intro v a; try dsimp only)
    | with_reducible apply Touch.cond
    | split
    | (with_reducible apply Touch.update) <;> first
      | exact Or.inl rfl
      | with_reducible exact Or.inr rfl
      | with_reducible exact fun w => ⟨w.1, w.2, w.3, w.4, w.5, w.6, w.7, w.8, w.9, w.10⟩
      | skip

theorem State.heatX_touch (s : State) (i : Int) (num den : Nat) :
    Touch 0x400000 s (State.heatX s i num den).2 := by
  unfold State.heatX
  try dsimp only
  repeat' first
    | with_reducible apply Touch.refl
    | ((with_reducible apply Touch.step); rotate_left; (first
        | with_reducible apply State.freeNat_touch); exact rfl)
    | ((with_reducible apply Touch.foldl); rotate_left; intro v a; try dsimp only)
    | ((with_reducible apply Touch.foldlFst); rotate_left; intro v a; try dsimp only)
    | with_reducible apply Touch.cond
    | split
    | (with_reducible apply Touch.update) <;> first
      | exact Or.inl rfl
      | with_reducible exact Or.inr rfl
      | with_reducible exact fun w => ⟨w.1, w.2, w.3, w.4, w.5, w.6, w.7, w.8, w.9, w.10⟩
      | skip

theorem State.settle_touch (s : State) (x : Subj) (code : Nat) (w d : Bool) :
    Touch 0x80 s (State.settle s x code w d) := by
  unfold State.settle
  try dsimp only
  repeat' first
    | with_reducible apply Touch.refl
    | ((with_reducible apply Touch.step); rotate_left; (first
        | with_reducible apply State.stand_touch
        | with_reducible apply State.unstand_touch); exact rfl)
    | ((with_reducible apply Touch.foldl); rotate_left; intro v a; try dsimp only)
    | ((with_reducible apply Touch.foldlFst); rotate_left; intro v a; try dsimp only)
    | with_reducible apply Touch.cond
    | split
    | (with_reducible apply Touch.update) <;> first
      | exact Or.inl rfl
      | with_reducible exact Or.inr rfl
      | with_reducible exact fun w => ⟨w.1, w.2, w.3, w.4, w.5, w.6, w.7, w.8, w.9, w.10⟩
      | skip

theorem State.cellHeat_touch (s : State) (p : Nat) :
    Touch 0x4000a0 s (State.cellHeat s p).1 := by
  unfold State.cellHeat
  try dsimp only
  repeat' first
    | with_reducible apply Touch.refl
    | ((with_reducible apply Touch.step); rotate_left; (first
        | with_reducible apply State.heatX_touch
        | with_reducible apply State.setPort_touch
        | with_reducible apply State.settle_touch); exact rfl)
    | ((with_reducible apply Touch.foldl); rotate_left; intro v a; try dsimp only)
    | ((with_reducible apply Touch.foldlFst); rotate_left; intro v a; try dsimp only)
    | with_reducible apply Touch.cond
    | split
    | (with_reducible apply Touch.update) <;> first
      | exact Or.inl rfl
      | with_reducible exact Or.inr rfl
      | with_reducible exact fun w => ⟨w.1, w.2, w.3, w.4, w.5, w.6, w.7, w.8, w.9, w.10⟩
      | skip

theorem State.groupHeat_touch (s : State) (g : Nat) :
    Touch 0x4000c0 s (State.groupHeat s g).1 := by
  unfold State.groupHeat
  try dsimp only
  repeat' first
    | with_reducible apply Touch.refl
    | ((with_reducible apply Touch.step); rotate_left; (first
        | with_reducible apply State.settle_touch
        | with_reducible apply State.setGroup_touch
        | with_reducible apply State.heatX_touch); exact rfl)
    | ((with_reducible apply Touch.foldl); rotate_left; intro v a; try dsimp only)
    | ((with_reducible apply Touch.foldlFst); rotate_left; intro v a; try dsimp only)
    | with_reducible apply Touch.cond
    | split
    | (with_reducible apply Touch.update) <;> first
      | exact Or.inl rfl
      | with_reducible exact Or.inr rfl
      | with_reducible exact fun w => ⟨w.1, w.2, w.3, w.4, w.5, w.6, w.7, w.8, w.9, w.10⟩
      | skip

theorem State.cellTemp_touch (s : State) (p : Nat) :
    Touch 0xa0 s (State.cellTemp s p).1 := by
  unfold State.cellTemp
  try dsimp only
  repeat' first
    | with_reducible apply Touch.refl
    | ((with_reducible apply Touch.step); rotate_left; (first
        | with_reducible apply State.setPort_touch
        | with_reducible apply State.calm_touch); exact rfl)
    | ((with_reducible apply Touch.foldl); rotate_left; intro v a; try dsimp only)
    | ((with_reducible apply Touch.foldlFst); rotate_left; intro v a; try dsimp only)
    | with_reducible apply Touch.cond
    | split
    | (with_reducible apply Touch.update) <;> first
      | exact Or.inl rfl
      | with_reducible exact Or.inr rfl
      | with_reducible exact fun w => ⟨w.1, w.2, w.3, w.4, w.5, w.6, w.7, w.8, w.9, w.10⟩
      | skip

theorem State.senseWindow_touch (s : State) (p : Nat) :
    Touch 0x20 s (State.senseWindow s p) := by
  unfold State.senseWindow
  try dsimp only
  repeat' first
    | with_reducible apply Touch.refl
    | ((with_reducible apply Touch.step); rotate_left; (first
        | with_reducible apply State.setPort_touch); exact rfl)
    | ((with_reducible apply Touch.foldl); rotate_left; intro v a; try dsimp only)
    | ((with_reducible apply Touch.foldlFst); rotate_left; intro v a; try dsimp only)
    | with_reducible apply Touch.cond
    | split
    | (with_reducible apply Touch.update) <;> first
      | exact Or.inl rfl
      | with_reducible exact Or.inr rfl
      | with_reducible exact fun w => ⟨w.1, w.2, w.3, w.4, w.5, w.6, w.7, w.8, w.9, w.10⟩
      | skip

theorem State.compWindow_touch (s : State) (p : Nat) :
    Touch 0x20 s (State.compWindow s p).1 := by
  unfold State.compWindow
  try dsimp only
  repeat' first
    | with_reducible apply Touch.refl
    | ((with_reducible apply Touch.step); rotate_left; (first
        | with_reducible apply State.setPort_touch); exact rfl)
    | ((with_reducible apply Touch.foldl); rotate_left; intro v a; try dsimp only)
    | ((with_reducible apply Touch.foldlFst); rotate_left; intro v a; try dsimp only)
    | with_reducible apply Touch.cond
    | split
    | (with_reducible apply Touch.update) <;> first
      | exact Or.inl rfl
      | with_reducible exact Or.inr rfl
      | with_reducible exact fun w => ⟨w.1, w.2, w.3, w.4, w.5, w.6, w.7, w.8, w.9, w.10⟩
      | skip

theorem State.imbWindow_touch (s : State) (p : Nat) :
    Touch 0xa0 s (State.imbWindow s p) := by
  unfold State.imbWindow
  try dsimp only
  repeat' first
    | with_reducible apply Touch.refl
    | ((with_reducible apply Touch.step); rotate_left; (first
        | with_reducible apply State.setPort_touch
        | with_reducible apply State.unstand_touch); exact rfl)
    | ((with_reducible apply Touch.foldl); rotate_left; intro v a; try dsimp only)
    | ((with_reducible apply Touch.foldlFst); rotate_left; intro v a; try dsimp only)
    | with_reducible apply Touch.cond
    | split
    | (with_reducible apply Touch.update) <;> first
      | exact Or.inl rfl
      | with_reducible exact Or.inr rfl
      | with_reducible exact fun w => ⟨w.1, w.2, w.3, w.4, w.5, w.6, w.7, w.8, w.9, w.10⟩
      | skip

theorem State.groupTemp_touch (s : State) (g : Nat) :
    Touch 0x40 s (State.groupTemp s g) := by
  unfold State.groupTemp
  try dsimp only
  repeat' first
    | with_reducible apply Touch.refl
    | ((with_reducible apply Touch.step); rotate_left; (first
        | with_reducible apply State.setGroup_touch); exact rfl)
    | ((with_reducible apply Touch.foldl); rotate_left; intro v a; try dsimp only)
    | ((with_reducible apply Touch.foldlFst); rotate_left; intro v a; try dsimp only)
    | with_reducible apply Touch.cond
    | split
    | (with_reducible apply Touch.update) <;> first
      | exact Or.inl rfl
      | with_reducible exact Or.inr rfl
      | with_reducible exact fun w => ⟨w.1, w.2, w.3, w.4, w.5, w.6, w.7, w.8, w.9, w.10⟩
      | skip

theorem State.burstWindow_touch (s : State) :
    Touch 0x8100d0 s (State.burstWindow s) := by
  unfold State.burstWindow
  try dsimp only
  repeat' first
    | with_reducible apply Touch.refl
    | ((with_reducible apply Touch.step); rotate_left; (first
        | with_reducible apply State.aimGroup_touch
        | with_reducible apply State.burstExit_touch); exact rfl)
    | ((with_reducible apply Touch.foldl); rotate_left; intro v a; try dsimp only)
    | ((with_reducible apply Touch.foldlFst); rotate_left; intro v a; try dsimp only)
    | with_reducible apply Touch.cond
    | split
    | (with_reducible apply Touch.update) <;> first
      | exact Or.inl rfl
      | with_reducible exact Or.inr rfl
      | with_reducible exact fun w => ⟨w.1, w.2, w.3, w.4, w.5, w.6, w.7, w.8, w.9, w.10⟩
      | skip

theorem State.setSig_touch (s : State) (f : Chan → Chan) (x0 : Sig) :
    Touch 0xe0 s (State.setSig s f x0) := by
  unfold State.setSig
  try dsimp only
  repeat' first
    | with_reducible apply Touch.refl
    | ((with_reducible apply Touch.step); rotate_left; (first
        | with_reducible apply State.setPort_touch
        | with_reducible apply State.setGroup_touch); exact rfl)
    | ((with_reducible apply Touch.foldl); rotate_left; intro v a; try dsimp only)
    | ((with_reducible apply Touch.foldlFst); rotate_left; intro v a; try dsimp only)
    | with_reducible apply Touch.cond
    | split
    | (with_reducible apply Touch.update) <;> first
      | exact Or.inl rfl
      | with_reducible exact Or.inr rfl
      | with_reducible exact fun w => ⟨w.1, w.2, w.3, w.4, w.5, w.6, w.7, w.8, w.9, w.10⟩
      | skip

theorem execMsWindow_goes (s : State) :
    Goes 0xc1c0f0 s (execMsWindow s) := by
  unfold execMsWindow
  extract_lets n cells a z b c d e f g i
  have ha : Touch 0xc1c0f0 s a := Touch.foldl (Touch.refl _ _) (fun v k => (State.groupTemp_touch v k).mono rfl)
  clear_value a
  have hb : Touch 0xc1c0f0 s b := by
    clear_value z
    with_reducible apply Touch.update ha
    case hw => exact fun w => ⟨(List.length_map _).trans w.1, (List.length_map _).trans w.2, w.3, w.4, w.5, w.6, w.7, w.8,
      w.9, w.10⟩
    all_goals first
      | exact Or.inl rfl
      | with_reducible exact Or.inr rfl
  clear_value b
  have hc : Touch 0xc1c0f0 s c := hb.step (Touch.foldl (F := 0xc1c0f0) (Touch.refl _ _) (fun v k =>
    Touch.cond (Touch.refl _ _) ((State.senseWindow_touch v k).mono rfl))) rfl
  clear_value c
  have hd : Touch 0xc1c0f0 s d := hc.step (Touch.foldl (F := 0xc1c0f0) (Touch.refl _ _) (fun v k =>
    ((State.imbWindow_touch v k).mono rfl))) rfl
  clear_value d
  have he : Touch 0xc1c0f0 s e.1 := gather_touch hd (fun v k => (State.cellHeat_touch v k).mono rfl)
  clear_value e
  have hf : Touch 0xc1c0f0 s f.1 := gather_touch he (fun v k => (State.groupHeat_touch v k).mono rfl)
  clear_value f
  have hg : Touch 0xc1c0f0 s g.1 := gather_touch hf (fun v k => (State.cellTemp_touch v k).mono rfl)
  clear_value g
  have hi : Touch 0xc1c0f0 s i.1 := gather_touch hg (fun v k => (State.compWindow_touch v k).mono rfl)
  clear_value i
  exact Goes.next ((hi.step (State.ladderAll_touch _ _) rfl).step (State.burstWindow_touch _) rfl)

theorem execSenseFinding_goes (port : Nat) (s : State) :
    Goes 0x81c0f0 s (execSenseFinding port s) := by
  unfold execSenseFinding
  try dsimp only
  repeat' first
    | with_reducible apply Goes.next
    | with_reducible apply Goes.cond
    | with_reducible apply Touch.refl
    | ((with_reducible apply Touch.step); rotate_left; (first
        | with_reducible apply State.ladder_touch
        | with_reducible apply State.setPort_touch); exact rfl)
    | ((with_reducible apply Touch.foldl); rotate_left; intro v a; try dsimp only)
    | ((with_reducible apply Touch.foldlFst); rotate_left; intro v a; try dsimp only)
    | with_reducible apply Touch.cond
    | split
    | (with_reducible apply Touch.update) <;> first
      | exact Or.inl rfl
      | with_reducible exact Or.inr rfl
      | with_reducible exact fun w => ⟨w.1, w.2, w.3, w.4, w.5, w.6, w.7, w.8, w.9, w.10⟩
      | skip

theorem execVoltageLimitTrip_goes (group : Nat) (s : State) :
    Goes 0x81c0f0 s (execVoltageLimitTrip group s) := by
  unfold execVoltageLimitTrip
  try dsimp only
  repeat' first
    | with_reducible apply Goes.next
    | with_reducible apply Goes.cond
    | with_reducible apply Touch.refl
    | ((with_reducible apply Touch.step); rotate_left; (first
        | with_reducible apply State.setGroup_touch
        | with_reducible apply State.ladder_touch); exact rfl)
    | ((with_reducible apply Touch.foldl); rotate_left; intro v a; try dsimp only)
    | ((with_reducible apply Touch.foldlFst); rotate_left; intro v a; try dsimp only)
    | with_reducible apply Touch.cond
    | split
    | (with_reducible apply Touch.update) <;> first
      | exact Or.inl rfl
      | with_reducible exact Or.inr rfl
      | with_reducible exact fun w => ⟨w.1, w.2, w.3, w.4, w.5, w.6, w.7, w.8, w.9, w.10⟩
      | skip

theorem execCoolantUpdate_goes (s : State) :
    Goes 0x81c0f0 s (execCoolantUpdate s) := by
  unfold execCoolantUpdate
  try dsimp only
  repeat' first
    | with_reducible apply Goes.next
    | with_reducible apply Goes.cond
    | with_reducible apply Touch.refl
    | ((with_reducible apply Touch.step); rotate_left; (first
        | with_reducible apply State.unstand_touch
        | with_reducible apply State.ladderAll_touch); exact rfl)
    | ((with_reducible apply Touch.foldl); rotate_left; intro v a; try dsimp only)
    | ((with_reducible apply Touch.foldlFst); rotate_left; intro v a; try dsimp only)
    | with_reducible apply Touch.cond
    | split
    | (with_reducible apply Touch.update) <;> first
      | exact Or.inl rfl
      | with_reducible exact Or.inr rfl
      | with_reducible exact fun w => ⟨w.1, w.2, w.3, w.4, w.5, w.6, w.7, w.8, w.9, w.10⟩
      | skip

theorem execTmMin_goes (sig : Sig) (s : State) :
    Goes 0x8000e0 s (execTmMin sig s) := by
  unfold execTmMin
  try dsimp only
  repeat' first
    | with_reducible apply Goes.next
    | with_reducible apply Goes.cond
    | with_reducible apply Touch.refl
    | ((with_reducible apply Touch.step); rotate_left; (first
        | with_reducible apply State.setSig_touch); exact rfl)
    | ((with_reducible apply Touch.step); rotate_left; (with_reducible apply State.emit_touch); (exact rfl); exact rfl)
    | ((with_reducible apply Touch.foldl); rotate_left; intro v a; try dsimp only)
    | ((with_reducible apply Touch.foldlFst); rotate_left; intro v a; try dsimp only)
    | with_reducible apply Touch.cond
    | split
    | (with_reducible apply Touch.update) <;> first
      | exact Or.inl rfl
      | with_reducible exact Or.inr rfl
      | with_reducible exact fun w => ⟨w.1, w.2, w.3, w.4, w.5, w.6, w.7, w.8, w.9, w.10⟩
      | skip

theorem execTmMax_goes (sig : Sig) (s : State) :
    Goes 0x8000e0 s (execTmMax sig s) := by
  unfold execTmMax
  try dsimp only
  repeat' first
    | with_reducible apply Goes.next
    | with_reducible apply Goes.cond
    | with_reducible apply Touch.refl
    | ((with_reducible apply Touch.step); rotate_left; (first
        | with_reducible apply State.setSig_touch); exact rfl)
    | ((with_reducible apply Touch.step); rotate_left; (with_reducible apply State.emit_touch); (exact rfl); exact rfl)
    | ((with_reducible apply Touch.foldl); rotate_left; intro v a; try dsimp only)
    | ((with_reducible apply Touch.foldlFst); rotate_left; intro v a; try dsimp only)
    | with_reducible apply Touch.cond
    | split
    | (with_reducible apply Touch.update) <;> first
      | exact Or.inl rfl
      | with_reducible exact Or.inr rfl
      | with_reducible exact fun w => ⟨w.1, w.2, w.3, w.4, w.5, w.6, w.7, w.8, w.9, w.10⟩
      | skip

end Sys2Proof.Machine
end

