-- ==== Sys2Proof/Laws/TouchProfile.lean ====
section
/-!
SUPPORT. What the operations of Machine/Profile.lean touch.
-/

namespace Sys2Proof.Machine

open Sys2Proof

theorem State.profileCtrl_touch (s : State) {F : Nat} (h : CmdHdr) (chk : Refuse) (act : State → State)
    (hF : 0x818000 ||| F = F) (ha : ∀ v, Touch F v (act v)) : Touch F s (s.profileCtrl h chk act) := by
  unfold State.profileCtrl
  refine (State.start_touch s h _ _ hF ?_)
  intro v
  exact (ha v).step (State.done_touch _ _ _ _) (by rw [← hF, ← Nat.or_assoc]; rfl)

theorem State.setPf_touch (s : State) (f : Profile → Profile) :
    Touch 0x100 s (State.setPf s f) := by
  unfold State.setPf
  try dsimp only
  repeat' first
    | with_reducible apply Touch.refl
    | ((with_reducible apply Touch.foldl); rotate_left; intro v a; try dsimp only)
    | ((with_reducible apply Touch.foldlFst); rotate_left; intro v a; try dsimp only)
    | with_reducible apply Touch.cond
    | split
    | (with_reducible apply Touch.update) <;> first
      | exact Or.inl rfl
      | with_reducible exact Or.inr rfl
      | with_reducible exact fun w => ⟨w.1, w.2, w.3, w.4, w.5, w.6, w.7, w.8, w.9, w.10⟩
      | skip

theorem State.pfNoFit_touch (s : State) (t : Int) :
    Touch 0x814100 s (State.pfNoFit s t) := by
  unfold State.pfNoFit
  try dsimp only
  repeat' first
    | with_reducible apply Touch.refl
    | ((with_reducible apply Touch.step); rotate_left; (first
        | with_reducible apply State.record_touch
        | with_reducible apply State.setPf_touch); exact rfl)
    | ((with_reducible apply Touch.foldl); rotate_left; intro v a; try dsimp only)
    | ((with_reducible apply Touch.foldlFst); rotate_left; intro v a; try dsimp only)
    | with_reducible apply Touch.cond
    | split
    | (with_reducible apply Touch.update) <;> first
      | exact Or.inl rfl
      | with_reducible exact Or.inr rfl
      | with_reducible exact fun w => ⟨w.1, w.2, w.3, w.4, w.5, w.6, w.7, w.8, w.9, w.10⟩
      | skip

theorem State.pfFound_touch (s : State) (t phiNew phiKeep : Int) :
    Touch 0x814100 s (State.pfFound s t phiNew phiKeep) := by
  unfold State.pfFound
  try dsimp only
  repeat' first
    | with_reducible apply Touch.refl
    | ((with_reducible apply Touch.step); rotate_left; (first
        | with_reducible apply State.pfNoFit_touch
        | with_reducible apply State.setPf_touch); exact rfl)
    | ((with_reducible apply Touch.foldl); rotate_left; intro v a; try dsimp only)
    | ((with_reducible apply Touch.foldlFst); rotate_left; intro v a; try dsimp only)
    | with_reducible apply Touch.cond
    | split
    | (with_reducible apply Touch.update) <;> first
      | exact Or.inl rfl
      | with_reducible exact Or.inr rfl
      | with_reducible exact fun w => ⟨w.1, w.2, w.3, w.4, w.5, w.6, w.7, w.8, w.9, w.10⟩
      | skip

theorem State.refine_touch (s : State) (tau : Nat) :
    Touch 0x400000 s (State.refine s tau).2 := by
  unfold State.refine
  try dsimp only
  repeat' first
    | with_reducible apply Touch.refl
    | ((with_reducible apply Touch.step); rotate_left; (first
        | with_reducible apply State.freeNat_touch); exact rfl)
    | ((with_reducible apply Touch.foldl); rotate_left; intro v a; try dsimp only)
    | ((with_reducible apply Touch.foldlFst); rotate_left; intro v a; try dsimp only)
    | with_reducible apply Touch.cond
    | split
    | (with_reducible apply Touch.update) <;> first
      | exact Or.inl rfl
      | with_reducible exact Or.inr rfl
      | with_reducible exact fun w => ⟨w.1, w.2, w.3, w.4, w.5, w.6, w.7, w.8, w.9, w.10⟩
      | skip

theorem State.correlate_touch (s : State) :
    Touch 0xc14100 s (State.correlate s) := by
  unfold State.correlate
  try dsimp only
  repeat' first
    | with_reducible apply Touch.refl
    | ((with_reducible apply Touch.step); rotate_left; (first
        | with_reducible apply State.setPf_touch
        | with_reducible apply State.refine_touch
        | with_reducible apply State.pfFound_touch); exact rfl)
    | ((with_reducible apply Touch.foldl); rotate_left; intro v a; try dsimp only)
    | ((with_reducible apply Touch.foldlFst); rotate_left; intro v a; try dsimp only)
    | with_reducible apply Touch.cond
    | split
    | (with_reducible apply Touch.update) <;> first
      | exact Or.inl rfl
      | with_reducible exact Or.inr rfl
      | with_reducible exact fun w => ⟨w.1, w.2, w.3, w.4, w.5, w.6, w.7, w.8, w.9, w.10⟩
      | skip

theorem State.decimate_touch (s : State) (x : Int) :
    Touch 0xc14100 s (State.decimate s x) := by
  unfold State.decimate
  try dsimp only
  repeat' first
    | with_reducible apply Touch.refl
    | ((with_reducible apply Touch.step); rotate_left; (first
        | with_reducible apply State.setPf_touch
        | with_reducible apply State.correlate_touch); exact rfl)
    | ((with_reducible apply Touch.foldl); rotate_left; intro v a; try dsimp only)
    | ((with_reducible apply Touch.foldlFst); rotate_left; intro v a; try dsimp only)
    | with_reducible apply Touch.cond
    | split
    | (with_reducible apply Touch.update) <;> first
      | exact Or.inl rfl
      | with_reducible exact Or.inr rfl
      | with_reducible exact fun w => ⟨w.1, w.2, w.3, w.4, w.5, w.6, w.7, w.8, w.9, w.10⟩
      | skip

theorem State.pfRefit_touch (s : State) :
    Touch 0x814100 s (State.pfRefit s) := by
  unfold State.pfRefit
  try dsimp only
  repeat' first
    | with_reducible apply Touch.refl
    | ((with_reducible apply Touch.step); rotate_left; (first
        | with_reducible apply State.setPf_touch
        | with_reducible apply State.pfNoFit_touch); exact rfl)
    | ((with_reducible apply Touch.foldl); rotate_left; intro v a; try dsimp only)
    | ((with_reducible apply Touch.foldlFst); rotate_left; intro v a; try dsimp only)
    | with_reducible apply Touch.cond
    | split
    | (with_reducible apply Touch.update) <;> first
      | exact Or.inl rfl
      | with_reducible exact Or.inr rfl
      | with_reducible exact fun w => ⟨w.1, w.2, w.3, w.4, w.5, w.6, w.7, w.8, w.9, w.10⟩
      | skip

theorem State.pfParity_touch (s : State) (b : Nat) :
    Touch 0x814100 s (State.pfParity s b) := by
  unfold State.pfParity
  try dsimp only
  repeat' first
    | with_reducible apply Touch.refl
    | ((with_reducible apply Touch.step); rotate_left; (first
        | with_reducible apply State.record_touch
        | with_reducible apply State.setPf_touch); exact rfl)
    | ((with_reducible apply Touch.foldl); rotate_left; intro v a; try dsimp only)
    | ((with_reducible apply Touch.foldlFst); rotate_left; intro v a; try dsimp only)
    | with_reducible apply Touch.cond
    | split
    | (with_reducible apply Touch.update) <;> first
      | exact Or.inl rfl
      | with_reducible exact Or.inr rfl
      | with_reducible exact fun w => ⟨w.1, w.2, w.3, w.4, w.5, w.6, w.7, w.8, w.9, w.10⟩
      | skip

theorem State.pfReject_touch (s : State) :
    Touch 0x100 s (State.pfReject s) := by
  unfold State.pfReject
  try dsimp only
  repeat' first
    | with_reducible apply Touch.refl
    | ((with_reducible apply Touch.step); rotate_left; (first
        | with_reducible apply State.setPf_touch); exact rfl)
    | ((with_reducible apply Touch.foldl); rotate_left; intro v a; try dsimp only)
    | ((with_reducible apply Touch.foldlFst); rotate_left; intro v a; try dsimp only)
    | with_reducible apply Touch.cond
    | split
    | (with_reducible apply Touch.update) <;> first
      | exact Or.inl rfl
      | with_reducible exact Or.inr rfl
      | with_reducible exact fun w => ⟨w.1, w.2, w.3, w.4, w.5, w.6, w.7, w.8, w.9, w.10⟩
      | skip

theorem State.pfApplied_touch (s : State) :
    Touch 0x100 s (State.pfApplied s) := by
  unfold State.pfApplied
  try dsimp only
  repeat' first
    | with_reducible apply Touch.refl
    | ((with_reducible apply Touch.step); rotate_left; (first
        | with_reducible apply State.setPf_touch); exact rfl)
    | ((with_reducible apply Touch.foldl); rotate_left; intro v a; try dsimp only)
    | ((with_reducible apply Touch.foldlFst); rotate_left; intro v a; try dsimp only)
    | with_reducible apply Touch.cond
    | split
    | (with_reducible apply Touch.update) <;> first
      | exact Or.inl rfl
      | with_reducible exact Or.inr rfl
      | with_reducible exact fun w => ⟨w.1, w.2, w.3, w.4, w.5, w.6, w.7, w.8, w.9, w.10⟩
      | skip

theorem State.newAnchor_touch (s : State) (w : Notice) :
    Touch 0x100 s (State.newAnchor s w) := by
  unfold State.newAnchor
  try dsimp only
  repeat' first
    | with_reducible apply Touch.refl
    | ((with_reducible apply Touch.step); rotate_left; (first
        | with_reducible apply State.setPf_touch); exact rfl)
    | ((with_reducible apply Touch.foldl); rotate_left; intro v a; try dsimp only)
    | ((with_reducible apply Touch.foldlFst); rotate_left; intro v a; try dsimp only)
    | with_reducible apply Touch.cond
    | split
    | (with_reducible apply Touch.update) <;> first
      | exact Or.inl rfl
      | with_reducible exact Or.inr rfl
      | with_reducible exact fun w => ⟨w.1, w.2, w.3, w.4, w.5, w.6, w.7, w.8, w.9, w.10⟩
      | skip

theorem State.anchorJump_touch (s : State) (w : Notice) (a : Int) :
    Touch 0x100 s (State.anchorJump s w a) := by
  unfold State.anchorJump
  try dsimp only
  repeat' first
    | with_reducible apply Touch.refl
    | ((with_reducible apply Touch.step); rotate_left; (first
        | with_reducible apply State.pfApplied_touch
        | with_reducible apply State.setPf_touch
        | with_reducible apply State.pfReject_touch); exact rfl)
    | ((with_reducible apply Touch.foldl); rotate_left; intro v a; try dsimp only)
    | ((with_reducible apply Touch.foldlFst); rotate_left; intro v a; try dsimp only)
    | with_reducible apply Touch.cond
    | split
    | (with_reducible apply Touch.update) <;> first
      | exact Or.inl rfl
      | with_reducible exact Or.inr rfl
      | with_reducible exact fun w => ⟨w.1, w.2, w.3, w.4, w.5, w.6, w.7, w.8, w.9, w.10⟩
      | skip

theorem State.noticeSearch_touch (s : State) (w : Notice) :
    Touch 0x814100 s (State.noticeSearch s w) := by
  unfold State.noticeSearch
  try dsimp only
  repeat' first
    | with_reducible apply Touch.refl
    | ((with_reducible apply Touch.step); rotate_left; (first
        | with_reducible apply State.setPf_touch
        | with_reducible apply State.pfApplied_touch
        | with_reducible apply State.pfFound_touch); exact rfl)
    | ((with_reducible apply Touch.foldl); rotate_left; intro v a; try dsimp only)
    | ((with_reducible apply Touch.foldlFst); rotate_left; intro v a; try dsimp only)
    | with_reducible apply Touch.cond
    | split
    | (with_reducible apply Touch.update) <;> first
      | exact Or.inl rfl
      | with_reducible exact Or.inr rfl
      | with_reducible exact fun w => ⟨w.1, w.2, w.3, w.4, w.5, w.6, w.7, w.8, w.9, w.10⟩
      | skip

theorem State.activatePlan_touch (s : State) (phi : Int) :
    Touch 0x810100 s (State.activatePlan s phi) := by
  unfold State.activatePlan
  try dsimp only
  repeat' first
    | with_reducible apply Touch.refl
    | ((with_reducible apply Touch.step); rotate_left; (first
        | with_reducible apply State.completeWhere_touch
        | with_reducible apply State.setPf_touch); exact rfl)
    | ((with_reducible apply Touch.foldl); rotate_left; intro v a; try dsimp only)
    | ((with_reducible apply Touch.foldlFst); rotate_left; intro v a; try dsimp only)
    | with_reducible apply Touch.cond
    | split
    | (with_reducible apply Touch.update) <;> first
      | exact Or.inl rfl
      | with_reducible exact Or.inr rfl
      | with_reducible exact fun w => ⟨w.1, w.2, w.3, w.4, w.5, w.6, w.7, w.8, w.9, w.10⟩
      | skip

theorem State.applyNotice_touch (s : State) (w : Notice) :
    Touch 0x814100 s (State.applyNotice s w) := by
  unfold State.applyNotice
  try dsimp only
  repeat' first
    | with_reducible apply Touch.refl
    | ((with_reducible apply Touch.step); rotate_left; (first
        | with_reducible apply State.pfReject_touch
        | with_reducible apply State.pfApplied_touch
        | with_reducible apply State.newAnchor_touch
        | with_reducible apply State.anchorJump_touch
        | with_reducible apply State.activatePlan_touch
        | with_reducible apply State.noticeSearch_touch); exact rfl)
    | ((with_reducible apply Touch.foldl); rotate_left; intro v a; try dsimp only)
    | ((with_reducible apply Touch.foldlFst); rotate_left; intro v a; try dsimp only)
    | with_reducible apply Touch.cond
    | split
    | (with_reducible apply Touch.update) <;> first
      | exact Or.inl rfl
      | with_reducible exact Or.inr rfl
      | with_reducible exact fun w => ⟨w.1, w.2, w.3, w.4, w.5, w.6, w.7, w.8, w.9, w.10⟩
      | skip

theorem State.takeNotice_touch (s : State) (w : Notice) :
    Touch 0x8141d0 s (State.takeNotice s w) := by
  unfold State.takeNotice
  try dsimp only
  repeat' first
    | with_reducible apply Touch.refl
    | ((with_reducible apply Touch.step); rotate_left; (first
        | with_reducible apply State.burstExit_touch
        | with_reducible apply State.setPf_touch
        | with_reducible apply State.applyNotice_touch); exact rfl)
    | ((with_reducible apply Touch.foldl); rotate_left; intro v a; try dsimp only)
    | ((with_reducible apply Touch.foldlFst); rotate_left; intro v a; try dsimp only)
    | with_reducible apply Touch.cond
    | split
    | (with_reducible apply Touch.update) <;> first
      | exact Or.inl rfl
      | with_reducible exact Or.inr rfl
      | with_reducible exact fun w => ⟨w.1, w.2, w.3, w.4, w.5, w.6, w.7, w.8, w.9, w.10⟩
      | skip

theorem State.newPfSet_touch (s : State) (c : PfSet) :
    Touch 0x814100 s (State.newPfSet s c) := by
  unfold State.newPfSet
  try dsimp only
  repeat' first
    | with_reducible apply Touch.refl
    | ((with_reducible apply Touch.step); rotate_left; (first
        | with_reducible apply State.setPf_touch
        | with_reducible apply State.pfNoFit_touch); exact rfl)
    | ((with_reducible apply Touch.foldl); rotate_left; intro v a; try dsimp only)
    | ((with_reducible apply Touch.foldlFst); rotate_left; intro v a; try dsimp only)
    | with_reducible apply Touch.cond
    | split
    | (with_reducible apply Touch.update) <;> first
      | exact Or.inl rfl
      | with_reducible exact Or.inr rfl
      | with_reducible exact fun w => ⟨w.1, w.2, w.3, w.4, w.5, w.6, w.7, w.8, w.9, w.10⟩
      | skip

theorem State.startLearning_touch (s : State) (c : PfSet) :
    Touch 0x100 s (State.startLearning s c) := by
  unfold State.startLearning
  try dsimp only
  repeat' first
    | with_reducible apply Touch.refl
    | ((with_reducible apply Touch.step); rotate_left; (first
        | with_reducible apply State.setPf_touch); exact rfl)
    | ((with_reducible apply Touch.foldl); rotate_left; intro v a; try dsimp only)
    | ((with_reducible apply Touch.foldlFst); rotate_left; intro v a; try dsimp only)
    | with_reducible apply Touch.cond
    | split
    | (with_reducible apply Touch.update) <;> first
      | exact Or.inl rfl
      | with_reducible exact Or.inr rfl
      | with_reducible exact fun w => ⟨w.1, w.2, w.3, w.4, w.5, w.6, w.7, w.8, w.9, w.10⟩
      | skip

theorem State.forecastParity_touch (s : State) (parity : Bool) (leadUs : Nat) :
    Touch 0x814100 s (State.forecastParity s parity leadUs) := by
  unfold State.forecastParity
  try dsimp only
  repeat' first
    | with_reducible apply Touch.refl
    | ((with_reducible apply Touch.step); rotate_left; (first
        | with_reducible apply State.pfParity_touch); exact rfl)
    | ((with_reducible apply Touch.foldl); rotate_left; intro v a; try dsimp only)
    | ((with_reducible apply Touch.foldlFst); rotate_left; intro v a; try dsimp only)
    | with_reducible apply Touch.cond
    | split
    | (with_reducible apply Touch.update) <;> first
      | exact Or.inl rfl
      | with_reducible exact Or.inr rfl
      | with_reducible exact fun w => ⟨w.1, w.2, w.3, w.4, w.5, w.6, w.7, w.8, w.9, w.10⟩
      | skip

theorem execProfileSample_goes (parity : Bool) (s : State) :
    Goes 0xc14100 s (execProfileSample parity s) := by
  unfold execProfileSample
  try dsimp only
  repeat' first
    | with_reducible apply Goes.next
    | with_reducible apply Goes.cond
    | with_reducible apply Touch.refl
    | ((with_reducible apply Touch.step); rotate_left; (first
        | with_reducible apply State.pfParity_touch
        | with_reducible apply State.decimate_touch
        | with_reducible apply State.setPf_touch
        | with_reducible apply State.pfRefit_touch); exact rfl)
    | ((with_reducible apply Touch.foldl); rotate_left; intro v a; try dsimp only)
    | ((with_reducible apply Touch.foldlFst); rotate_left; intro v a; try dsimp only)
    | with_reducible apply Touch.cond
    | split
    | (with_reducible apply Touch.update) <;> first
      | exact Or.inl rfl
      | with_reducible exact Or.inr rfl
      | with_reducible exact fun w => ⟨w.1, w.2, w.3, w.4, w.5, w.6, w.7, w.8, w.9, w.10⟩
      | skip

theorem execLockLost_goes (s : State) :
    Goes 0xc14100 s (execLockLost s) := by
  unfold execLockLost
  try dsimp only
  repeat' first
    | with_reducible apply Goes.next
    | with_reducible apply Goes.cond
    | with_reducible apply Touch.refl
    | ((with_reducible apply Touch.step); rotate_left; (first
        | with_reducible apply State.freeNat_touch
        | with_reducible apply State.setPf_touch
        | with_reducible apply State.record_touch); exact rfl)
    | ((with_reducible apply Touch.foldl); rotate_left; intro v a; try dsimp only)
    | ((with_reducible apply Touch.foldlFst); rotate_left; intro v a; try dsimp only)
    | with_reducible apply Touch.cond
    | split
    | (with_reducible apply Touch.update) <;> first
      | exact Or.inl rfl
      | with_reducible exact Or.inr rfl
      | with_reducible exact fun w => ⟨w.1, w.2, w.3, w.4, w.5, w.6, w.7, w.8, w.9, w.10⟩
      | skip

theorem execCoastTimeout_goes (s : State) :
    Goes 0x100 s (execCoastTimeout s) := by
  unfold execCoastTimeout
  try dsimp only
  repeat' first
    | with_reducible apply Goes.next
    | with_reducible apply Goes.cond
    | with_reducible apply Touch.refl
    | ((with_reducible apply Touch.step); rotate_left; (first
        | with_reducible apply State.setPf_touch); exact rfl)
    | ((with_reducible apply Touch.foldl); rotate_left; intro v a; try dsimp only)
    | ((with_reducible apply Touch.foldlFst); rotate_left; intro v a; try dsimp only)
    | with_reducible apply Touch.cond
    | split
    | (with_reducible apply Touch.update) <;> first
      | exact Or.inl rfl
      | with_reducible exact Or.inr rfl
      | with_reducible exact fun w => ⟨w.1, w.2, w.3, w.4, w.5, w.6, w.7, w.8, w.9, w.10⟩
      | skip

theorem execWickNotice_goes (tag : Nat) (tw delta : Int) (durUs : Nat) (s : State) :
    Goes 0x8141d0 s (execWickNotice tag tw delta durUs s) := by
  unfold execWickNotice
  try dsimp only
  repeat' first
    | with_reducible apply Goes.next
    | with_reducible apply Goes.cond
    | with_reducible apply Touch.refl
    | ((with_reducible apply Touch.step); rotate_left; (first
        | with_reducible apply State.takeNotice_touch); exact rfl)
    | ((with_reducible apply Touch.foldl); rotate_left; intro v a; try dsimp only)
    | ((with_reducible apply Touch.foldlFst); rotate_left; intro v a; try dsimp only)
    | with_reducible apply Touch.cond
    | split
    | (with_reducible apply Touch.update) <;> first
      | exact Or.inl rfl
      | with_reducible exact Or.inr rfl
      | with_reducible exact fun w => ⟨w.1, w.2, w.3, w.4, w.5, w.6, w.7, w.8, w.9, w.10⟩
      | skip

theorem execWickApply_goes (s : State) :
    Goes 0x814100 s (execWickApply s) := by
  unfold execWickApply
  try dsimp only
  repeat' first
    | with_reducible apply Goes.next
    | with_reducible apply Goes.cond
    | with_reducible apply Touch.refl
    | ((with_reducible apply Touch.step); rotate_left; (first
        | with_reducible apply State.setPf_touch
        | with_reducible apply State.applyNotice_touch); exact rfl)
    | ((with_reducible apply Touch.foldl); rotate_left; intro v a; try dsimp only)
    | ((with_reducible apply Touch.foldlFst); rotate_left; intro v a; try dsimp only)
    | with_reducible apply Touch.cond
    | split
    | (with_reducible apply Touch.update) <;> first
      | exact Or.inl rfl
      | with_reducible exact Or.inr rfl
      | with_reducible exact fun w => ⟨w.1, w.2, w.3, w.4, w.5, w.6, w.7, w.8, w.9, w.10⟩
      | skip

theorem execPlanLoad_goes (h : CmdHdr) (buf : Buf) (count binExp actMode weight timeoutMs : Nat) (actTime : Int) (s : State) :
    Goes 0x818100 s (execPlanLoad h buf count binExp actMode weight timeoutMs actTime s) := by
  unfold execPlanLoad
  try dsimp only
  repeat' first
    | with_reducible apply Goes.next
    | with_reducible apply Goes.cond
    | with_reducible apply Touch.refl
    | ((with_reducible apply State.start_touch); exact rfl; intro v; try dsimp only)
    | ((with_reducible apply Touch.step); rotate_left; (first
        | with_reducible apply State.await_touch
        | with_reducible apply State.setPf_touch); exact rfl)
    | ((with_reducible apply Touch.foldl); rotate_left; intro v a; try dsimp only)
    | ((with_reducible apply Touch.foldlFst); rotate_left; intro v a; try dsimp only)
    | with_reducible apply Touch.cond
    | split
    | (with_reducible apply Touch.update) <;> first
      | exact Or.inl rfl
      | with_reducible exact Or.inr rfl
      | with_reducible exact fun w => ⟨w.1, w.2, w.3, w.4, w.5, w.6, w.7, w.8, w.9, w.10⟩
      | skip

theorem execPlanWritten_goes (s : State) :
    Goes 0x810100 s (execPlanWritten s) := by
  unfold execPlanWritten
  try dsimp only
  repeat' first
    | with_reducible apply Goes.next
    | with_reducible apply Goes.cond
    | with_reducible apply Touch.refl
    | ((with_reducible apply Touch.step); rotate_left; (first
        | with_reducible apply State.setPf_touch
        | with_reducible apply State.activatePlan_touch); exact rfl)
    | ((with_reducible apply Touch.foldl); rotate_left; intro v a; try dsimp only)
    | ((with_reducible apply Touch.foldlFst); rotate_left; intro v a; try dsimp only)
    | with_reducible apply Touch.cond
    | split
    | (with_reducible apply Touch.update) <;> first
      | exact Or.inl rfl
      | with_reducible exact Or.inr rfl
      | with_reducible exact fun w => ⟨w.1, w.2, w.3, w.4, w.5, w.6, w.7, w.8, w.9, w.10⟩
      | skip

theorem execPlanActivateAtTime_goes (s : State) :
    Goes 0x810100 s (execPlanActivateAtTime s) := by
  unfold execPlanActivateAtTime
  try dsimp only
  repeat' first
    | with_reducible apply Goes.next
    | with_reducible apply Goes.cond
    | with_reducible apply Touch.refl
    | ((with_reducible apply Touch.step); rotate_left; (first
        | with_reducible apply State.activatePlan_touch); exact rfl)
    | ((with_reducible apply Touch.foldl); rotate_left; intro v a; try dsimp only)
    | ((with_reducible apply Touch.foldlFst); rotate_left; intro v a; try dsimp only)
    | with_reducible apply Touch.cond
    | split
    | (with_reducible apply Touch.update) <;> first
      | exact Or.inl rfl
      | with_reducible exact Or.inr rfl
      | with_reducible exact fun w => ⟨w.1, w.2, w.3, w.4, w.5, w.6, w.7, w.8, w.9, w.10⟩
      | skip

theorem execPlanActTimeout_goes (s : State) :
    Goes 0x810100 s (execPlanActTimeout s) := by
  unfold execPlanActTimeout
  try dsimp only
  repeat' first
    | with_reducible apply Goes.next
    | with_reducible apply Goes.cond
    | with_reducible apply Touch.refl
    | ((with_reducible apply Touch.step); rotate_left; (first
        | with_reducible apply State.completeWhere_touch
        | with_reducible apply State.setPf_touch); exact rfl)
    | ((with_reducible apply Touch.foldl); rotate_left; intro v a; try dsimp only)
    | ((with_reducible apply Touch.foldlFst); rotate_left; intro v a; try dsimp only)
    | with_reducible apply Touch.cond
    | split
    | (with_reducible apply Touch.update) <;> first
      | exact Or.inl rfl
      | with_reducible exact Or.inr rfl
      | with_reducible exact fun w => ⟨w.1, w.2, w.3, w.4, w.5, w.6, w.7, w.8, w.9, w.10⟩
      | skip

theorem execProfileStart_goes (h : CmdHdr) (set : PfSet) (s : State) :
    Goes 0x818100 s (execProfileStart h set s) := by
  unfold execProfileStart
  try dsimp only
  repeat' first
    | with_reducible apply Goes.next
    | with_reducible apply Goes.cond
    | with_reducible apply Touch.refl
    | ((with_reducible apply State.profileCtrl_touch); exact rfl; intro v; try dsimp only)
    | ((with_reducible apply Touch.step); rotate_left; (first
        | with_reducible apply State.startLearning_touch); exact rfl)
    | ((with_reducible apply Touch.foldl); rotate_left; intro v a; try dsimp only)
    | ((with_reducible apply Touch.foldlFst); rotate_left; intro v a; try dsimp only)
    | with_reducible apply Touch.cond
    | split
    | (with_reducible apply Touch.update) <;> first
      | exact Or.inl rfl
      | with_reducible exact Or.inr rfl
      | with_reducible exact fun w => ⟨w.1, w.2, w.3, w.4, w.5, w.6, w.7, w.8, w.9, w.10⟩
      | skip

theorem execProfileStop_goes (h : CmdHdr) (s : State) :
    Goes 0x818100 s (execProfileStop h s) := by
  unfold execProfileStop
  try dsimp only
  repeat' first
    | with_reducible apply Goes.next
    | with_reducible apply Goes.cond
    | with_reducible apply Touch.refl
    | ((with_reducible apply State.profileCtrl_touch); exact rfl; intro v; try dsimp only)
    | ((with_reducible apply Touch.step); rotate_left; (first
        | with_reducible apply State.setPf_touch); exact rfl)
    | ((with_reducible apply Touch.foldl); rotate_left; intro v a; try dsimp only)
    | ((with_reducible apply Touch.foldlFst); rotate_left; intro v a; try dsimp only)
    | with_reducible apply Touch.cond
    | split
    | (with_reducible apply Touch.update) <;> first
      | exact Or.inl rfl
      | with_reducible exact Or.inr rfl
      | with_reducible exact fun w => ⟨w.1, w.2, w.3, w.4, w.5, w.6, w.7, w.8, w.9, w.10⟩
      | skip

theorem execProfileClear_goes (h : CmdHdr) (s : State) :
    Goes 0x818100 s (execProfileClear h s) := by
  unfold execProfileClear
  try dsimp only
  repeat' first
    | with_reducible apply Goes.next
    | with_reducible apply Goes.cond
    | with_reducible apply Touch.refl
    | ((with_reducible apply State.profileCtrl_touch); exact rfl; intro v; try dsimp only)
    | ((with_reducible apply Touch.step); rotate_left; (first
        | with_reducible apply State.setPf_touch); exact rfl)
    | ((with_reducible apply Touch.foldl); rotate_left; intro v a; try dsimp only)
    | ((with_reducible apply Touch.foldlFst); rotate_left; intro v a; try dsimp only)
    | with_reducible apply Touch.cond
    | split
    | (with_reducible apply Touch.update) <;> first
      | exact Or.inl rfl
      | with_reducible exact Or.inr rfl
      | with_reducible exact fun w => ⟨w.1, w.2, w.3, w.4, w.5, w.6, w.7, w.8, w.9, w.10⟩
      | skip

theorem execProfileSet_goes (h : CmdHdr) (set : PfSet) (s : State) :
    Goes 0x81c100 s (execProfileSet h set s) := by
  unfold execProfileSet
  try dsimp only
  repeat' first
    | with_reducible apply Goes.next
    | with_reducible apply Goes.cond
    | with_reducible apply Touch.refl
    | ((with_reducible apply State.profileCtrl_touch); exact rfl; intro v; try dsimp only)
    | ((with_reducible apply Touch.step); rotate_left; (first
        | with_reducible apply State.newPfSet_touch); exact rfl)
    | ((with_reducible apply Touch.foldl); rotate_left; intro v a; try dsimp only)
    | ((with_reducible apply Touch.foldlFst); rotate_left; intro v a; try dsimp only)
    | with_reducible apply Touch.cond
    | split
    | (with_reducible apply Touch.update) <;> first
      | exact Or.inl rfl
      | with_reducible exact Or.inr rfl
      | with_reducible exact fun w => ⟨w.1, w.2, w.3, w.4, w.5, w.6, w.7, w.8, w.9, w.10⟩
      | skip

theorem execForecastWrite_goes (parity : Bool) (s : State) :
    Goes 0x814110 s (execForecastWrite parity s) := by
  unfold execForecastWrite
  try dsimp only
  repeat' first
    | with_reducible apply Goes.next
    | with_reducible apply Goes.cond
    | with_reducible apply Touch.refl
    | ((with_reducible apply Touch.step); rotate_left; (first
        | with_reducible apply State.forecastParity_touch
        | with_reducible apply State.setPf_touch); exact rfl)
    | ((with_reducible apply Touch.foldl); rotate_left; intro v a; try dsimp only)
    | ((with_reducible apply Touch.foldlFst); rotate_left; intro v a; try dsimp only)
    | with_reducible apply Touch.cond
    | split
    | (with_reducible apply Touch.update) <;> first
      | exact Or.inl rfl
      | with_reducible exact Or.inr rfl
      | with_reducible exact fun w => ⟨w.1, w.2, w.3, w.4, w.5, w.6, w.7, w.8, w.9, w.10⟩
      | exact fun w => ⟨by first | exact w.1 | simpa using w.1, by first | exact w.2 | simpa using w.2,
          by first | exact w.3 | simpa using w.3, by first | exact w.4 | simpa [upd_length] using w.4, w.5, w.6, w.7, w.8, w.9, w.10⟩
      | skip

theorem execProfileTableRead_goes (off : Nat) (wide : Bool) (s : State) :
    Goes 0x800100 s (execProfileTableRead off wide s) := by
  unfold execProfileTableRead
  try dsimp only
  repeat' first
    | with_reducible apply Goes.next
    | with_reducible apply Goes.cond
    | with_reducible apply Touch.refl
    | ((with_reducible apply Touch.step); rotate_left; (first
        | with_reducible apply State.setPf_touch); exact rfl)
    | ((with_reducible apply Touch.step); rotate_left; (with_reducible apply State.emit_touch); (exact rfl); exact rfl)
    | ((with_reducible apply Touch.foldl); rotate_left; intro v a; try dsimp only)
    | ((with_reducible apply Touch.foldlFst); rotate_left; intro v a; try dsimp only)
    | with_reducible apply Touch.cond
    | split
    | (with_reducible apply Touch.update) <;> first
      | exact Or.inl rfl
      | with_reducible exact Or.inr rfl
      | with_reducible exact fun w => ⟨w.1, w.2, w.3, w.4, w.5, w.6, w.7, w.8, w.9, w.10⟩
      | skip

end Sys2Proof.Machine
end

