-- ==== Sys2Proof/Laws/TouchGulene.lean ====
section
/-!
SUPPORT. What the operations of Machine/Gulene.lean touch.
-/

namespace Sys2Proof.Machine

open Sys2Proof

theorem State.setGn_touch (s : State) (f : Gulene → Gulene)
    (h : s.gn.queue.length ≤ 4096 → (f s.gn).queue.length ≤ 4096) : Touch 0x400 s (State.setGn s f) := by
  unfold State.setGn
  with_reducible apply Touch.update (Touch.refl _ s)
  all_goals first
    | exact Or.inl rfl
    | with_reducible exact Or.inr rfl
    | exact fun w => ⟨w.1, w.2, w.3, w.4, w.5, w.6, h w.7, w.8, w.9, w.10⟩

theorem Gulene.takeTokens_queue (g : Gulene) (l : List (BucketKey × Nat × Nat)) :
    (l.foldl (fun g b => g.takeToken b.1 b.2.2) g).queue = g.queue := by
  induction l generalizing g with
  | nil => rfl
  | cons a l ih => exact (ih _).trans rfl

theorem Gulene.setRole_queue (g : Gulene) (row : Bool) (f : KeyRole → KeyRole) : (g.setRole row f).queue = g.queue := by
  unfold Gulene.setRole
  split <;> rfl

theorem State.setGv_touch (s : State) (f : Governor → Governor) :
    Touch 0x800 s (State.setGv s f) := by
  unfold State.setGv
  try dsimp only
  repeat' first
    | with_reducible apply Touch.refl
    | ((with_reducible apply Touch.foldl); rotate_left; intro v a; try dsimp only)
    | ((with_reducible apply Touch.foldlFst); rotate_left; intro v a; try dsimp only)
    | with_reducible apply Touch.cond
    | split
    | (with_reducible apply Touch.update) <;> first
      | exact Or.inl rfl
      | with_reducible exact Or.inr rfl
      | with_reducible exact fun w => ⟨w.1, w.2, w.3, w.4, w.5, w.6, w.7, w.8, w.9, w.10⟩
      | skip

theorem State.gnSend_touch (s : State) (key : Key) (typ : Nat) (head : UdpHead) (body : Bytes) :
    Touch 0x800400 s (State.gnSend s key typ head body) := by
  unfold State.gnSend
  try dsimp only
  repeat' first
    | with_reducible apply Touch.refl
    | ((with_reducible apply Touch.step); rotate_left; (with_reducible apply State.emit_touch); (exact rfl); exact rfl)
    | ((with_reducible apply Touch.step); rotate_left; (with_reducible apply State.setGn_touch); (exact fun h => h); exact rfl)
    | ((with_reducible apply Touch.foldl); rotate_left; intro v a; try dsimp only)
    | ((with_reducible apply Touch.foldlFst); rotate_left; intro v a; try dsimp only)
    | with_reducible apply Touch.cond
    | split
    | (with_reducible apply Touch.update) <;> first
      | exact Or.inl rfl
      | with_reducible exact Or.inr rfl
      | with_reducible exact fun w => ⟨w.1, w.2, w.3, w.4, w.5, w.6, w.7, w.8, w.9, w.10⟩
      | skip

theorem State.rackSend_touch (s : State) (typ : Nat) (body : Bytes) :
    Touch 0x800400 s (State.rackSend s typ body) := by
  unfold State.rackSend
  try dsimp only
  repeat' first
    | with_reducible apply Touch.refl
    | ((with_reducible apply Touch.step); rotate_left; (first
        | with_reducible apply State.gnSend_touch); exact rfl)
    | ((with_reducible apply Touch.foldl); rotate_left; intro v a; try dsimp only)
    | ((with_reducible apply Touch.foldlFst); rotate_left; intro v a; try dsimp only)
    | with_reducible apply Touch.cond
    | split
    | (with_reducible apply Touch.update) <;> first
      | exact Or.inl rfl
      | with_reducible exact Or.inr rfl
      | with_reducible exact fun w => ⟨w.1, w.2, w.3, w.4, w.5, w.6, w.7, w.8, w.9, w.10⟩
      | skip

theorem State.rowSend_touch (s : State) (body : Bytes) :
    Touch 0x800400 s (State.rowSend s body) := by
  unfold State.rowSend
  try dsimp only
  repeat' first
    | with_reducible apply Touch.refl
    | ((with_reducible apply Touch.step); rotate_left; (first
        | with_reducible apply State.gnSend_touch
        | with_reducible apply State.rackSend_touch); exact rfl)
    | ((with_reducible apply Touch.foldl); rotate_left; intro v a; try dsimp only)
    | ((with_reducible apply Touch.foldlFst); rotate_left; intro v a; try dsimp only)
    | with_reducible apply Touch.cond
    | split
    | (with_reducible apply Touch.update) <;> first
      | exact Or.inl rfl
      | with_reducible exact Or.inr rfl
      | with_reducible exact fun w => ⟨w.1, w.2, w.3, w.4, w.5, w.6, w.7, w.8, w.9, w.10⟩
      | skip

theorem State.dropRecord_touch (s : State) (kind sender count : Nat) :
    Touch 0x814000 s (State.dropRecord s kind sender count) := by
  unfold State.dropRecord
  try dsimp only
  repeat' first
    | with_reducible apply Touch.refl
    | ((with_reducible apply Touch.step); rotate_left; (first
        | with_reducible apply State.record_touch); exact rfl)
    | ((with_reducible apply Touch.foldl); rotate_left; intro v a; try dsimp only)
    | ((with_reducible apply Touch.foldlFst); rotate_left; intro v a; try dsimp only)
    | with_reducible apply Touch.cond
    | split
    | (with_reducible apply Touch.update) <;> first
      | exact Or.inl rfl
      | with_reducible exact Or.inr rfl
      | with_reducible exact fun w => ⟨w.1, w.2, w.3, w.4, w.5, w.6, w.7, w.8, w.9, w.10⟩
      | skip

theorem State.rateDrop_touch (s : State) (sender : Nat) :
    Touch 0x814c00 s (State.rateDrop s sender) := by
  unfold State.rateDrop
  try dsimp only
  repeat' first
    | with_reducible apply Touch.refl
    | ((with_reducible apply Touch.step); rotate_left; (first
        | with_reducible apply State.setGv_touch
        | with_reducible apply State.dropRecord_touch); exact rfl)
    | ((with_reducible apply Touch.step); rotate_left; (with_reducible apply State.setGn_touch); (exact fun h => h); exact rfl)
    | ((with_reducible apply Touch.foldl); rotate_left; intro v a; try dsimp only)
    | ((with_reducible apply Touch.foldlFst); rotate_left; intro v a; try dsimp only)
    | with_reducible apply Touch.cond
    | split
    | (with_reducible apply Touch.update) <;> first
      | exact Or.inl rfl
      | with_reducible exact Or.inr rfl
      | with_reducible exact fun w => ⟨w.1, w.2, w.3, w.4, w.5, w.6, w.7, w.8, w.9, w.10⟩
      | skip

theorem State.gnCheck_touch (s : State) (typ : Nat) (m : GnMsg) :
    Touch 0x814c00 s (State.gnCheck s typ m).1 := by
  unfold State.gnCheck
  dsimp only
  repeat' first
    | with_reducible exact Touch.refl _ _
    | split
    | dsimp only
    | exact State.rateDrop_touch s _
    | (refine Touch.mono (State.setGn_touch s _ ?_) rfl; exact fun h => h)
    | (refine Touch.mono (State.setGn_touch s _ ?_) rfl
       intro h
       rw [← Gulene.takeTokens_queue s.gn (s.bucketsOf typ m)] at h
       exact h)

theorem State.gnQueue_touch (s : State) (typ : Nat) (m : GnMsg) :
    Touch 0x814400 s (State.gnQueue s typ m) := by
  have q := (State.setGn_touch s (fun g => { g with rateCnt := satInc 16 g.rateCnt }) (fun h => h)).mono (F := 0x814400) rfl
  have d : ∀ u : State, Touch 0x814400 u ((u.setGn (fun g => { g with queueDropAt := some u.clk.now })).dropRecord 2 0x200 u.gn.rateCnt) :=
    fun u => ((State.setGn_touch u _ (fun h => h)).mono rfl).step (State.dropRecord_touch _ _ _ _) rfl
  have e : s.gn.queue.length < 4096 → Touch 0x814400 s (s.setGn (fun g => { g with
      queue := g.queue ++ [{ typ := typ, msg := m, at_ := s.clk.now, ptpAt := s.clk.ptp }] })) := fun h =>
    (State.setGn_touch s _ (fun _ => by simp only [List.length_append, List.length_cons, List.length_nil]; omega)).mono rfl
  unfold State.gnQueue
  generalize s.setGn (fun g => { g with rateCnt := satInc 16 g.rateCnt }) = u at *
  with_reducible split
  · dsimp only
    with_reducible apply Touch.cond
    · exact q
    · with_reducible exact Touch.step q (d u) (by decide)
  · exact e (by omega)

theorem State.gnReceive_touch (s : State) (typ : Nat) (m : GnMsg) :
    Touch 0x814c00 s (State.gnReceive s typ m) := by
  unfold State.gnReceive
  dsimp only
  split
  · exact ((State.gnCheck_touch s typ m).mono rfl).step (State.gnQueue_touch _ _ _) rfl
  · exact (State.gnCheck_touch s typ m).mono rfl

theorem State.joinGroups_touch (s : State) :
    Touch 0x800400 s (State.joinGroups s) := by
  unfold State.joinGroups
  try dsimp only
  repeat' first
    | with_reducible apply Touch.refl
    | ((with_reducible apply Touch.step); rotate_left; (with_reducible apply State.setGn_touch); (exact fun h => h); exact rfl)
    | ((with_reducible apply Touch.step); rotate_left; (with_reducible apply State.emit_touch); (exact rfl); exact rfl)
    | ((with_reducible apply Touch.foldl); rotate_left; intro v a; try dsimp only)
    | ((with_reducible apply Touch.foldlFst); rotate_left; intro v a; try dsimp only)
    | with_reducible apply Touch.cond
    | split
    | (with_reducible apply Touch.update) <;> first
      | exact Or.inl rfl
      | with_reducible exact Or.inr rfl
      | with_reducible exact fun w => ⟨w.1, w.2, w.3, w.4, w.5, w.6, w.7, w.8, w.9, w.10⟩
      | skip

theorem State.loadKey_touch (s : State) (k : Key) :
    Touch 0x400 s (State.loadKey s k) := by
  unfold State.loadKey
  dsimp only
  exact (State.setGn_touch s _ (fun h => by rw [Gulene.setRole_queue]; exact h)).mono rfl

theorem State.negotiate_touch (s : State) :
    Touch 0x800000 s (State.negotiate s) := by
  unfold State.negotiate
  try dsimp only
  repeat' first
    | with_reducible apply Touch.refl
    | ((with_reducible apply Touch.step); rotate_left; (with_reducible apply State.emit_touch); (exact rfl); exact rfl)
    | ((with_reducible apply Touch.foldl); rotate_left; intro v a; try dsimp only)
    | ((with_reducible apply Touch.foldlFst); rotate_left; intro v a; try dsimp only)
    | with_reducible apply Touch.cond
    | split
    | (with_reducible apply Touch.update) <;> first
      | exact Or.inl rfl
      | with_reducible exact Or.inr rfl
      | with_reducible exact fun w => ⟨w.1, w.2, w.3, w.4, w.5, w.6, w.7, w.8, w.9, w.10⟩
      | skip

theorem State.suspendEpochs_touch (s : State) :
    Touch 0x814800 s (State.suspendEpochs s) := by
  unfold State.suspendEpochs
  try dsimp only
  repeat' first
    | with_reducible apply Touch.refl
    | ((with_reducible apply Touch.step); rotate_left; (first
        | with_reducible apply State.record_touch
        | with_reducible apply State.setGv_touch); exact rfl)
    | ((with_reducible apply Touch.foldl); rotate_left; intro v a; try dsimp only)
    | ((with_reducible apply Touch.foldlFst); rotate_left; intro v a; try dsimp only)
    | with_reducible apply Touch.cond
    | split
    | (with_reducible apply Touch.update) <;> first
      | exact Or.inl rfl
      | with_reducible exact Or.inr rfl
      | with_reducible exact fun w => ⟨w.1, w.2, w.3, w.4, w.5, w.6, w.7, w.8, w.9, w.10⟩
      | skip

theorem State.loseLock_touch (s : State) :
    Touch 0x814c02 s (State.loseLock s) := by
  unfold State.loseLock
  try dsimp only
  repeat' first
    | with_reducible apply Touch.refl
    | ((with_reducible apply Touch.step); rotate_left; (first
        | with_reducible apply State.suspendEpochs_touch); exact rfl)
    | ((with_reducible apply Touch.step); rotate_left; (with_reducible apply State.setGn_touch); (exact fun h => h); exact rfl)
    | ((with_reducible apply Touch.foldl); rotate_left; intro v a; try dsimp only)
    | ((with_reducible apply Touch.foldlFst); rotate_left; intro v a; try dsimp only)
    | with_reducible apply Touch.cond
    | split
    | (with_reducible apply Touch.update) <;> first
      | exact Or.inl rfl
      | with_reducible exact Or.inr rfl
      | with_reducible exact fun w => ⟨w.1, w.2, w.3, w.4, w.5, w.6, w.7, w.8, w.9, w.10⟩
      | skip

theorem State.steer_touch (s : State) :
    Touch 0x400002 s (State.steer s) := by
  unfold State.steer
  try dsimp only
  repeat' first
    | with_reducible apply Touch.refl
    | ((with_reducible apply Touch.step); rotate_left; (first
        | with_reducible apply State.freeNat_touch); exact rfl)
    | ((with_reducible apply Touch.foldl); rotate_left; intro v a; try dsimp only)
    | ((with_reducible apply Touch.foldlFst); rotate_left; intro v a; try dsimp only)
    | with_reducible apply Touch.cond
    | split
    | (with_reducible apply Touch.update) <;> first
      | exact Or.inl rfl
      | with_reducible exact Or.inr rfl
      | with_reducible exact fun w => ⟨w.1, w.2, w.3, w.4, w.5, w.6, w.7, w.8, w.9, w.10⟩
      | skip

theorem execWick_goes (m : GnMsg) (s : State) :
    Goes 0x814c00 s (execWick m s) := by
  unfold execWick
  try dsimp only
  repeat' first
    | with_reducible apply Goes.next
    | with_reducible apply Goes.cond
    | with_reducible apply Touch.refl
    | ((with_reducible apply Touch.step); rotate_left; (first
        | with_reducible apply State.gnReceive_touch); exact rfl)
    | ((with_reducible apply Touch.foldl); rotate_left; intro v a; try dsimp only)
    | ((with_reducible apply Touch.foldlFst); rotate_left; intro v a; try dsimp only)
    | with_reducible apply Touch.cond
    | split
    | (with_reducible apply Touch.update) <;> first
      | exact Or.inl rfl
      | with_reducible exact Or.inr rfl
      | with_reducible exact fun w => ⟨w.1, w.2, w.3, w.4, w.5, w.6, w.7, w.8, w.9, w.10⟩
      | skip

theorem execReport_goes (m : GnMsg) (s : State) :
    Goes 0x814c00 s (execReport m s) := by
  unfold execReport
  try dsimp only
  repeat' first
    | with_reducible apply Goes.next
    | with_reducible apply Goes.cond
    | with_reducible apply Touch.refl
    | ((with_reducible apply Touch.step); rotate_left; (first
        | with_reducible apply State.gnReceive_touch); exact rfl)
    | ((with_reducible apply Touch.foldl); rotate_left; intro v a; try dsimp only)
    | ((with_reducible apply Touch.foldlFst); rotate_left; intro v a; try dsimp only)
    | with_reducible apply Touch.cond
    | split
    | (with_reducible apply Touch.update) <;> first
      | exact Or.inl rfl
      | with_reducible exact Or.inr rfl
      | with_reducible exact fun w => ⟨w.1, w.2, w.3, w.4, w.5, w.6, w.7, w.8, w.9, w.10⟩
      | skip

theorem execLantern_goes (m : GnMsg) (s : State) :
    Goes 0x814c00 s (execLantern m s) := by
  unfold execLantern
  try dsimp only
  repeat' first
    | with_reducible apply Goes.next
    | with_reducible apply Goes.cond
    | with_reducible apply Touch.refl
    | ((with_reducible apply Touch.step); rotate_left; (first
        | with_reducible apply State.gnReceive_touch); exact rfl)
    | ((with_reducible apply Touch.foldl); rotate_left; intro v a; try dsimp only)
    | ((with_reducible apply Touch.foldlFst); rotate_left; intro v a; try dsimp only)
    | with_reducible apply Touch.cond
    | split
    | (with_reducible apply Touch.update) <;> first
      | exact Or.inl rfl
      | with_reducible exact Or.inr rfl
      | with_reducible exact fun w => ⟨w.1, w.2, w.3, w.4, w.5, w.6, w.7, w.8, w.9, w.10⟩
      | skip

theorem execBudget_goes (m : GnMsg) (s : State) :
    Goes 0x814c00 s (execBudget m s) := by
  unfold execBudget
  try dsimp only
  repeat' first
    | with_reducible apply Goes.next
    | with_reducible apply Goes.cond
    | with_reducible apply Touch.refl
    | ((with_reducible apply Touch.step); rotate_left; (first
        | with_reducible apply State.gnReceive_touch); exact rfl)
    | ((with_reducible apply Touch.foldl); rotate_left; intro v a; try dsimp only)
    | ((with_reducible apply Touch.foldlFst); rotate_left; intro v a; try dsimp only)
    | with_reducible apply Touch.cond
    | split
    | (with_reducible apply Touch.update) <;> first
      | exact Or.inl rfl
      | with_reducible exact Or.inr rfl
      | with_reducible exact fun w => ⟨w.1, w.2, w.3, w.4, w.5, w.6, w.7, w.8, w.9, w.10⟩
      | skip

theorem execElectReceived_goes (m : GnMsg) (s : State) :
    Goes 0x814c00 s (execElectReceived m s) := by
  unfold execElectReceived
  try dsimp only
  repeat' first
    | with_reducible apply Goes.next
    | with_reducible apply Goes.cond
    | with_reducible apply Touch.refl
    | ((with_reducible apply Touch.step); rotate_left; (first
        | with_reducible apply State.gnReceive_touch); exact rfl)
    | ((with_reducible apply Touch.foldl); rotate_left; intro v a; try dsimp only)
    | ((with_reducible apply Touch.foldlFst); rotate_left; intro v a; try dsimp only)
    | with_reducible apply Touch.cond
    | split
    | (with_reducible apply Touch.update) <;> first
      | exact Or.inl rfl
      | with_reducible exact Or.inr rfl
      | with_reducible exact fun w => ⟨w.1, w.2, w.3, w.4, w.5, w.6, w.7, w.8, w.9, w.10⟩
      | skip

theorem execShareReceived_goes (m : GnMsg) (s : State) :
    Goes 0x814c00 s (execShareReceived m s) := by
  unfold execShareReceived
  try dsimp only
  repeat' first
    | with_reducible apply Goes.next
    | with_reducible apply Goes.cond
    | with_reducible apply Touch.refl
    | ((with_reducible apply Touch.step); rotate_left; (first
        | with_reducible apply State.gnReceive_touch); exact rfl)
    | ((with_reducible apply Touch.foldl); rotate_left; intro v a; try dsimp only)
    | ((with_reducible apply Touch.foldlFst); rotate_left; intro v a; try dsimp only)
    | with_reducible apply Touch.cond
    | split
    | (with_reducible apply Touch.update) <;> first
      | exact Or.inl rfl
      | with_reducible exact Or.inr rfl
      | with_reducible exact fun w => ⟨w.1, w.2, w.3, w.4, w.5, w.6, w.7, w.8, w.9, w.10⟩
      | skip

theorem execGrantReceived_goes (s : State) :
    Goes 0x400 s (execGrantReceived s) := by
  unfold execGrantReceived
  try dsimp only
  repeat' first
    | with_reducible apply Goes.next
    | with_reducible apply Goes.cond
    | with_reducible apply Touch.refl
    | ((with_reducible apply Touch.step); rotate_left; (with_reducible apply State.setGn_touch); (exact fun h => h); exact rfl)
    | ((with_reducible apply Touch.foldl); rotate_left; intro v a; try dsimp only)
    | ((with_reducible apply Touch.foldlFst); rotate_left; intro v a; try dsimp only)
    | with_reducible apply Touch.cond
    | split
    | (with_reducible apply Touch.update) <;> first
      | exact Or.inl rfl
      | with_reducible exact Or.inr rfl
      | with_reducible exact fun w => ⟨w.1, w.2, w.3, w.4, w.5, w.6, w.7, w.8, w.9, w.10⟩
      | skip

theorem execMalformedDatagram_goes (s : State) :
    Goes 0x400 s (execMalformedDatagram s) := by
  unfold execMalformedDatagram
  try dsimp only
  repeat' first
    | with_reducible apply Goes.next
    | with_reducible apply Goes.cond
    | with_reducible apply Touch.refl
    | ((with_reducible apply Touch.step); rotate_left; (with_reducible apply State.setGn_touch); (exact fun h => h); exact rfl)
    | ((with_reducible apply Touch.foldl); rotate_left; intro v a; try dsimp only)
    | ((with_reducible apply Touch.foldlFst); rotate_left; intro v a; try dsimp only)
    | with_reducible apply Touch.cond
    | split
    | (with_reducible apply Touch.update) <;> first
      | exact Or.inl rfl
      | with_reducible exact Or.inr rfl
      | with_reducible exact fun w => ⟨w.1, w.2, w.3, w.4, w.5, w.6, w.7, w.8, w.9, w.10⟩
      | skip

theorem execBucketRefill_goes (s : State) :
    Goes 0x400 s (execBucketRefill s) := by
  unfold execBucketRefill
  try dsimp only
  repeat' first
    | with_reducible apply Goes.next
    | with_reducible apply Goes.cond
    | with_reducible apply Touch.refl
    | ((with_reducible apply Touch.step); rotate_left; (with_reducible apply State.setGn_touch); (exact fun h => h); exact rfl)
    | ((with_reducible apply Touch.foldl); rotate_left; intro v a; try dsimp only)
    | ((with_reducible apply Touch.foldlFst); rotate_left; intro v a; try dsimp only)
    | with_reducible apply Touch.cond
    | split
    | (with_reducible apply Touch.update) <;> first
      | exact Or.inl rfl
      | with_reducible exact Or.inr rfl
      | with_reducible exact fun w => ⟨w.1, w.2, w.3, w.4, w.5, w.6, w.7, w.8, w.9, w.10⟩
      | skip

theorem execReplayRecordExpiry_goes (rack sender : Nat) (s : State) :
    Goes 0x400 s (execReplayRecordExpiry rack sender s) := by
  unfold execReplayRecordExpiry
  try dsimp only
  repeat' first
    | with_reducible apply Goes.next
    | with_reducible apply Goes.cond
    | with_reducible apply Touch.refl
    | ((with_reducible apply Touch.step); rotate_left; (with_reducible apply State.setGn_touch); (exact fun h => h); exact rfl)
    | ((with_reducible apply Touch.foldl); rotate_left; intro v a; try dsimp only)
    | ((with_reducible apply Touch.foldlFst); rotate_left; intro v a; try dsimp only)
    | with_reducible apply Touch.cond
    | split
    | (with_reducible apply Touch.update) <;> first
      | exact Or.inl rfl
      | with_reducible exact Or.inr rfl
      | with_reducible exact fun w => ⟨w.1, w.2, w.3, w.4, w.5, w.6, w.7, w.8, w.9, w.10⟩
      | skip

theorem execKeyActivate_goes (row : Bool) (s : State) :
    Goes 0x800400 s (execKeyActivate row s) := by
  unfold execKeyActivate
  refine Goes.next (Touch.step ((State.setGn_touch s _ ?_).mono rfl) (State.joinGroups_touch _) rfl)
  intro h
  rw [Gulene.setRole_queue]
  exact h

theorem execOldKeyExpiry_goes (row : Bool) (s : State) :
    Goes 0x400 s (execOldKeyExpiry row s) := by
  unfold execOldKeyExpiry
  refine Goes.next ((State.setGn_touch s _ ?_).mono rfl)
  intro h
  rw [Gulene.setRole_queue]
  exact h

theorem execKeyLoad_goes (h : CmdHdr) (buf : Buf) (s : State) :
    Goes 0x818400 s (execKeyLoad h buf s) := by
  unfold execKeyLoad
  try dsimp only
  repeat' first
    | with_reducible apply Goes.next
    | with_reducible apply Goes.cond
    | with_reducible apply Touch.refl
    | ((with_reducible apply State.start_touch); exact rfl; intro v; try dsimp only)
    | ((with_reducible apply Touch.step); rotate_left; (first
        | with_reducible apply State.complete_touch
        | with_reducible apply State.joinGroups_touch
        | with_reducible apply State.loadKey_touch); exact rfl)
    | ((with_reducible apply Touch.foldl); rotate_left; intro v a; try dsimp only)
    | ((with_reducible apply Touch.foldlFst); rotate_left; intro v a; try dsimp only)
    | with_reducible apply Touch.cond
    | split
    | (with_reducible apply Touch.update) <;> first
      | exact Or.inl rfl
      | with_reducible exact Or.inr rfl
      | with_reducible exact fun w => ⟨w.1, w.2, w.3, w.4, w.5, w.6, w.7, w.8, w.9, w.10⟩
      | skip

theorem execNegFail_goes (s : State) :
    Goes 0x814400 s (execNegFail s) := by
  unfold execNegFail
  try dsimp only
  repeat' first
    | with_reducible apply Goes.next
    | with_reducible apply Goes.cond
    | with_reducible apply Touch.refl
    | ((with_reducible apply Touch.step); rotate_left; (first
        | with_reducible apply State.negotiate_touch
        | with_reducible apply State.record_touch); exact rfl)
    | ((with_reducible apply Touch.step); rotate_left; (with_reducible apply State.setGn_touch); (exact fun h => h); exact rfl)
    | ((with_reducible apply Touch.foldl); rotate_left; intro v a; try dsimp only)
    | ((with_reducible apply Touch.foldlFst); rotate_left; intro v a; try dsimp only)
    | with_reducible apply Touch.cond
    | split
    | (with_reducible apply Touch.update) <;> first
      | exact Or.inl rfl
      | with_reducible exact Or.inr rfl
      | with_reducible exact fun w => ⟨w.1, w.2, w.3, w.4, w.5, w.6, w.7, w.8, w.9, w.10⟩
      | skip

theorem execNeighbourDiscovery_goes (r : NetReq) (s : State) :
    Goes 0x800400 s (execNeighbourDiscovery r s) := by
  unfold execNeighbourDiscovery
  try dsimp only
  repeat' first
    | with_reducible apply Goes.next
    | with_reducible apply Goes.cond
    | with_reducible apply Touch.refl
    | ((with_reducible apply Touch.step); rotate_left; (with_reducible apply State.emit_touch); (exact rfl); exact rfl)
    | ((with_reducible apply Touch.step); rotate_left; (with_reducible apply State.setGn_touch); (exact fun h => h); exact rfl)
    | ((with_reducible apply Touch.foldl); rotate_left; intro v a; try dsimp only)
    | ((with_reducible apply Touch.foldlFst); rotate_left; intro v a; try dsimp only)
    | with_reducible apply Touch.cond
    | split
    | (with_reducible apply Touch.update) <;> first
      | exact Or.inl rfl
      | with_reducible exact Or.inr rfl
      | with_reducible exact fun w => ⟨w.1, w.2, w.3, w.4, w.5, w.6, w.7, w.8, w.9, w.10⟩
      | skip

theorem execDhcpReply_goes (addr : Nat) (s : State) :
    Goes 0x400 s (execDhcpReply addr s) := by
  unfold execDhcpReply
  try dsimp only
  repeat' first
    | with_reducible apply Goes.next
    | with_reducible apply Goes.cond
    | with_reducible apply Touch.refl
    | ((with_reducible apply Touch.step); rotate_left; (with_reducible apply State.setGn_touch); (exact fun h => h); exact rfl)
    | ((with_reducible apply Touch.foldl); rotate_left; intro v a; try dsimp only)
    | ((with_reducible apply Touch.foldlFst); rotate_left; intro v a; try dsimp only)
    | with_reducible apply Touch.cond
    | split
    | (with_reducible apply Touch.update) <;> first
      | exact Or.inl rfl
      | with_reducible exact Or.inr rfl
      | with_reducible exact fun w => ⟨w.1, w.2, w.3, w.4, w.5, w.6, w.7, w.8, w.9, w.10⟩
      | skip

theorem execAnnounce_goes (a : Announced) (s : State) :
    Goes 0x400 s (execAnnounce a s) := by
  unfold execAnnounce
  try dsimp only
  repeat' first
    | with_reducible apply Goes.next
    | with_reducible apply Goes.cond
    | with_reducible apply Touch.refl
    | ((with_reducible apply Touch.step); rotate_left; (with_reducible apply State.setGn_touch); (exact fun h => h); exact rfl)
    | ((with_reducible apply Touch.foldl); rotate_left; intro v a; try dsimp only)
    | ((with_reducible apply Touch.foldlFst); rotate_left; intro v a; try dsimp only)
    | with_reducible apply Touch.cond
    | split
    | (with_reducible apply Touch.update) <;> first
      | exact Or.inl rfl
      | with_reducible exact Or.inr rfl
      | with_reducible exact fun w => ⟨w.1, w.2, w.3, w.4, w.5, w.6, w.7, w.8, w.9, w.10⟩
      | skip

theorem execPtpSync_goes (sync : PtpHead) (origin : Int) (s : State) :
    Goes 0xc14c02 s (execPtpSync sync origin s) := by
  unfold execPtpSync
  try dsimp only
  repeat' first
    | with_reducible apply Goes.next
    | with_reducible apply Goes.cond
    | with_reducible apply Touch.refl
    | ((with_reducible apply Touch.step); rotate_left; (first
        | with_reducible apply State.loseLock_touch
        | with_reducible apply State.steer_touch); exact rfl)
    | ((with_reducible apply Touch.step); rotate_left; (with_reducible apply State.setGn_touch); (exact fun h => h); exact rfl)
    | ((with_reducible apply Touch.step); rotate_left; (with_reducible apply State.emit_touch); (exact rfl); exact rfl)
    | ((with_reducible apply Touch.foldl); rotate_left; intro v a; try dsimp only)
    | ((with_reducible apply Touch.foldlFst); rotate_left; intro v a; try dsimp only)
    | with_reducible apply Touch.cond
    | split
    | (with_reducible apply Touch.update) <;> first
      | exact Or.inl rfl
      | with_reducible exact Or.inr rfl
      | with_reducible exact fun w => ⟨w.1, w.2, w.3, w.4, w.5, w.6, w.7, w.8, w.9, w.10⟩
      | skip

theorem execPtpSyncTimeout_goes (s : State) :
    Goes 0x814c02 s (execPtpSyncTimeout s) := by
  unfold execPtpSyncTimeout
  try dsimp only
  repeat' first
    | with_reducible apply Goes.next
    | with_reducible apply Goes.cond
    | with_reducible apply Touch.refl
    | ((with_reducible apply Touch.step); rotate_left; (first
        | with_reducible apply State.loseLock_touch); exact rfl)
    | ((with_reducible apply Touch.step); rotate_left; (with_reducible apply State.setGn_touch); (exact fun h => h); exact rfl)
    | ((with_reducible apply Touch.foldl); rotate_left; intro v a; try dsimp only)
    | ((with_reducible apply Touch.foldlFst); rotate_left; intro v a; try dsimp only)
    | with_reducible apply Touch.cond
    | split
    | (with_reducible apply Touch.update) <;> first
      | exact Or.inl rfl
      | with_reducible exact Or.inr rfl
      | with_reducible exact fun w => ⟨w.1, w.2, w.3, w.4, w.5, w.6, w.7, w.8, w.9, w.10⟩
      | skip

theorem execPtpSyncSend_goes (s : State) :
    Goes 0x800400 s (execPtpSyncSend s) := by
  unfold execPtpSyncSend
  try dsimp only
  repeat' first
    | with_reducible apply Goes.next
    | with_reducible apply Goes.cond
    | with_reducible apply Touch.refl
    | ((with_reducible apply Touch.step); rotate_left; (with_reducible apply State.emit_touch); (exact rfl); exact rfl)
    | ((with_reducible apply Touch.step); rotate_left; (with_reducible apply State.setGn_touch); (exact fun h => h); exact rfl)
    | ((with_reducible apply Touch.foldl); rotate_left; intro v a; try dsimp only)
    | ((with_reducible apply Touch.foldlFst); rotate_left; intro v a; try dsimp only)
    | with_reducible apply Touch.cond
    | split
    | (with_reducible apply Touch.update) <;> first
      | exact Or.inl rfl
      | with_reducible exact Or.inr rfl
      | with_reducible exact fun w => ⟨w.1, w.2, w.3, w.4, w.5, w.6, w.7, w.8, w.9, w.10⟩
      | skip

theorem execDelayReq_goes (s : State) :
    Goes 0x800000 s (execDelayReq s) := by
  unfold execDelayReq
  try dsimp only
  repeat' first
    | with_reducible apply Goes.next
    | with_reducible apply Goes.cond
    | with_reducible apply Touch.refl
    | ((with_reducible apply Touch.step); rotate_left; (with_reducible apply State.emit_touch); (exact rfl); exact rfl)
    | ((with_reducible apply Touch.foldl); rotate_left; intro v a; try dsimp only)
    | ((with_reducible apply Touch.foldlFst); rotate_left; intro v a; try dsimp only)
    | with_reducible apply Touch.cond
    | split
    | (with_reducible apply Touch.update) <;> first
      | exact Or.inl rfl
      | with_reducible exact Or.inr rfl
      | with_reducible exact fun w => ⟨w.1, w.2, w.3, w.4, w.5, w.6, w.7, w.8, w.9, w.10⟩
      | skip

theorem execDelayResp_goes (received : Int) (s : State) :
    Goes 0x400 s (execDelayResp received s) := by
  unfold execDelayResp
  try dsimp only
  repeat' first
    | with_reducible apply Goes.next
    | with_reducible apply Goes.cond
    | with_reducible apply Touch.refl
    | ((with_reducible apply Touch.step); rotate_left; (with_reducible apply State.setGn_touch); (exact fun h => h); exact rfl)
    | ((with_reducible apply Touch.foldl); rotate_left; intro v a; try dsimp only)
    | ((with_reducible apply Touch.foldlFst); rotate_left; intro v a; try dsimp only)
    | with_reducible apply Touch.cond
    | split
    | (with_reducible apply Touch.update) <;> first
      | exact Or.inl rfl
      | with_reducible exact Or.inr rfl
      | with_reducible exact fun w => ⟨w.1, w.2, w.3, w.4, w.5, w.6, w.7, w.8, w.9, w.10⟩
      | skip

theorem execTimeSet_goes (h : CmdHdr) (role domain : Nat) (setTime : Bool) (timeNs : Int) (s : State) :
    Goes 0x81cc02 s (execTimeSet h role domain setTime timeNs s) := by
  unfold execTimeSet
  try dsimp only
  repeat' first
    | with_reducible apply Goes.next
    | with_reducible apply Goes.cond
    | with_reducible apply Touch.refl
    | ((with_reducible apply State.start_touch); exact rfl; intro v; try dsimp only)
    | ((with_reducible apply Touch.step); rotate_left; (first
        | with_reducible apply State.loseLock_touch
        | with_reducible apply State.complete_touch); exact rfl)
    | ((with_reducible apply Touch.step); rotate_left; (with_reducible apply State.setGn_touch); (exact fun h => h); exact rfl)
    | ((with_reducible apply Touch.foldl); rotate_left; intro v a; try dsimp only)
    | ((with_reducible apply Touch.foldlFst); rotate_left; intro v a; try dsimp only)
    | with_reducible apply Touch.cond
    | split
    | (with_reducible apply Touch.update) <;> first
      | exact Or.inl rfl
      | with_reducible exact Or.inr rfl
      | with_reducible exact fun w => ⟨w.1, w.2, w.3, w.4, w.5, w.6, w.7, w.8, w.9, w.10⟩
      | skip

end Sys2Proof.Machine
end

