-- ==== Sys2Proof/Laws/TouchRecorder.lean ====
section
/-!
SUPPORT. What the operations of Machine/Recorder.lean touch.
-/

namespace Sys2Proof.Machine

open Sys2Proof

theorem State.setEv_touch (s : State) (f : Recorder → Recorder)
    (h : s.ev.ring.length ≤ 1024 → (f s.ev).ring.length ≤ 1024) : Touch 0x4000 s (State.setEv s f) := by
  unfold State.setEv
  with_reducible apply Touch.update (Touch.refl _ s)
  all_goals first
    | exact Or.inl rfl
    | with_reducible exact Or.inr rfl
    | exact fun w => ⟨w.1, w.2, w.3, w.4, w.5, h w.6, w.7, w.8, w.9, w.10⟩

theorem State.setSe_touch (s : State) (f : Security → Security) :
    Touch 0x20000 s (State.setSe s f) := by
  unfold State.setSe
  try dsimp only
  repeat' first
    | with_reducible apply Touch.refl
    | ((with_reducible apply Touch.foldl); rotate_left; intro v a; try dsimp only)
    | ((with_reducible apply Touch.foldlFst); rotate_left; intro v a; try dsimp only)
    | with_reducible apply Touch.cond
    | split
    | (with_reducible apply Touch.update) <;> first
      | exact Or.inl rfl
      | with_reducible exact Or.inr rfl
      | with_reducible exact fun w => ⟨w.1, w.2, w.3, w.4, w.5, w.6, w.7, w.8, w.9, w.10⟩
      | skip

theorem State.setPins_touch (s : State) (f : Pins → Pins) :
    Touch 0x40000 s (State.setPins s f) := by
  unfold State.setPins
  try dsimp only
  repeat' first
    | with_reducible apply Touch.refl
    | ((with_reducible apply Touch.foldl); rotate_left; intro v a; try dsimp only)
    | ((with_reducible apply Touch.foldlFst); rotate_left; intro v a; try dsimp only)
    | with_reducible apply Touch.cond
    | split
    | (with_reducible apply Touch.update) <;> first
      | exact Or.inl rfl
      | with_reducible exact Or.inr rfl
      | with_reducible exact fun w => ⟨w.1, w.2, w.3, w.4, w.5, w.6, w.7, w.8, w.9, w.10⟩
      | skip

theorem State.eraseArea_touch (s : State) (a : Nat) :
    Touch 0x834000 s (State.eraseArea s a) := by
  unfold State.eraseArea
  try dsimp only
  repeat' first
    | with_reducible apply Touch.refl
    | ((with_reducible apply Touch.step); rotate_left; (first
        | with_reducible apply State.setSe_touch
        | with_reducible apply State.raiseCause_touch
        | with_reducible apply State.record_touch); exact rfl)
    | ((with_reducible apply Touch.foldl); rotate_left; intro v a; try dsimp only)
    | ((with_reducible apply Touch.foldlFst); rotate_left; intro v a; try dsimp only)
    | with_reducible apply Touch.cond
    | split
    | (with_reducible apply Touch.update) <;> first
      | exact Or.inl rfl
      | with_reducible exact Or.inr rfl
      | with_reducible exact fun w => ⟨w.1, w.2, w.3, w.4, w.5, w.6, w.7, w.8, w.9, w.10⟩
      | skip

theorem State.appendLog_touch (s : State) (l : List Rec) :
    Touch 0x814000 s (State.appendLog s l) := by
  unfold State.appendLog
  extract_lets l1 room lost full t r
  have ht : Touch 0x4000 s t := by
    refine State.setEv_touch s _ ?_
    exact fun h => h
  clear_value t
  with_reducible apply Touch.cond
  · have hr := Touch.step (Touch.mono (F := 0x814000) ht rfl) (State.record_touch t 0x0803 2 kFlash 1 []) rfl
    clear_value r
    revert hr
    generalize t.record 0x0803 2 kFlash 1 [] = w
    intro hr
    refine hr.step (G := 0x4000) ?_ rfl
    apply State.setEv_touch
    intro h
    exact h
  · exact ht.mono rfl

theorem State.endLogRead_touch (s : State) (c : CmdHdr) (buf : Buf) (start count : Nat) (flushed : Bool) :
    Touch 0xa10000 s (State.endLogRead s c buf start count flushed) := by
  unfold State.endLogRead
  try dsimp only
  repeat' first
    | with_reducible apply Touch.refl
    | ((with_reducible apply Touch.step); rotate_left; (first
        | with_reducible apply State.complete_touch
        | with_reducible apply State.bufWrite_touch); exact rfl)
    | ((with_reducible apply Touch.foldl); rotate_left; intro v a; try dsimp only)
    | ((with_reducible apply Touch.foldlFst); rotate_left; intro v a; try dsimp only)
    | with_reducible apply Touch.cond
    | split
    | (with_reducible apply Touch.update) <;> first
      | exact Or.inl rfl
      | with_reducible exact Or.inr rfl
      | with_reducible exact fun w => ⟨w.1, w.2, w.3, w.4, w.5, w.6, w.7, w.8, w.9, w.10⟩
      | skip

theorem State.endLogReads_touch (s : State) :
    Touch 0xa10000 s (State.endLogReads s) := by
  unfold State.endLogReads
  try dsimp only
  repeat' first
    | with_reducible apply Touch.refl
    | ((with_reducible apply Touch.step); rotate_left; (first
        | with_reducible apply State.endLogRead_touch); exact rfl)
    | ((with_reducible apply Touch.foldl); rotate_left; intro v a; try dsimp only)
    | ((with_reducible apply Touch.foldlFst); rotate_left; intro v a; try dsimp only)
    | with_reducible apply Touch.cond
    | split
    | (with_reducible apply Touch.update) <;> first
      | exact Or.inl rfl
      | with_reducible exact Or.inr rfl
      | with_reducible exact fun w => ⟨w.1, w.2, w.3, w.4, w.5, w.6, w.7, w.8, w.9, w.10⟩
      | skip

theorem execFlush_goes (s : State) :
    Goes 0x4000 s (execFlush s) := by
  unfold execFlush
  try dsimp only
  repeat' first
    | with_reducible apply Goes.next
    | with_reducible apply Goes.cond
    | with_reducible apply Touch.refl
    | ((with_reducible apply Touch.step); rotate_left; (with_reducible apply State.setEv_touch); (exact fun h => h); exact rfl)
    | ((with_reducible apply Touch.foldl); rotate_left; intro v a; try dsimp only)
    | ((with_reducible apply Touch.foldlFst); rotate_left; intro v a; try dsimp only)
    | with_reducible apply Touch.cond
    | split
    | (with_reducible apply Touch.update) <;> first
      | exact Or.inl rfl
      | with_reducible exact Or.inr rfl
      | with_reducible exact fun w => ⟨w.1, w.2, w.3, w.4, w.5, w.6, w.7, w.8, w.9, w.10⟩
      | skip

theorem execFlushEnd_goes (s : State) :
    Goes 0xa14000 s (execFlushEnd s) := by
  unfold execFlushEnd
  try dsimp only
  repeat' first
    | with_reducible apply Goes.next
    | with_reducible apply Goes.cond
    | with_reducible apply Touch.refl
    | ((with_reducible apply Touch.step); rotate_left; (first
        | with_reducible apply State.appendLog_touch
        | with_reducible apply State.endLogReads_touch); exact rfl)
    | ((with_reducible apply Touch.step); rotate_left; (with_reducible apply State.setEv_touch); (exact fun h => h); exact rfl)
    | ((with_reducible apply Touch.foldl); rotate_left; intro v a; try dsimp only)
    | ((with_reducible apply Touch.foldlFst); rotate_left; intro v a; try dsimp only)
    | with_reducible apply Touch.cond
    | split
    | (with_reducible apply Touch.update) <;> first
      | exact Or.inl rfl
      | with_reducible exact Or.inr rfl
      | with_reducible exact fun w => ⟨w.1, w.2, w.3, w.4, w.5, w.6, w.7, w.8, w.9, w.10⟩
      | skip

theorem execLogRead_goes (h : CmdHdr) (buf : Buf) (source flush start count : Nat) (s : State) :
    Goes 0xa1c000 s (execLogRead h buf source flush start count s) := by
  unfold execLogRead
  try dsimp only
  repeat' first
    | with_reducible apply Goes.next
    | with_reducible apply Goes.cond
    | with_reducible apply Touch.refl
    | ((with_reducible apply State.start_touch); exact rfl; intro v; try dsimp only)
    | ((with_reducible apply Touch.step); rotate_left; (first
        | with_reducible apply State.done_touch
        | with_reducible apply State.bufWrite_touch
        | with_reducible apply State.await_touch
        | with_reducible apply State.endLogRead_touch); exact rfl)
    | ((with_reducible apply Touch.step); rotate_left; (with_reducible apply State.setEv_touch); (exact fun h => h); exact rfl)
    | ((with_reducible apply Touch.foldl); rotate_left; intro v a; try dsimp only)
    | ((with_reducible apply Touch.foldlFst); rotate_left; intro v a; try dsimp only)
    | with_reducible apply Touch.cond
    | split
    | (with_reducible apply Touch.update) <;> first
      | exact Or.inl rfl
      | with_reducible exact Or.inr rfl
      | with_reducible exact fun w => ⟨w.1, w.2, w.3, w.4, w.5, w.6, w.7, w.8, w.9, w.10⟩
      | skip

theorem execLogClear_goes (h : CmdHdr) (buf : Buf) (s : State) :
    Goes 0x83c000 s (execLogClear h buf s) := by
  unfold execLogClear
  try dsimp only
  repeat' first
    | with_reducible apply Goes.next
    | with_reducible apply Goes.cond
    | with_reducible apply Touch.refl
    | ((with_reducible apply State.start_touch); exact rfl; intro v; try dsimp only)
    | ((with_reducible apply Touch.step); rotate_left; (first
        | with_reducible apply State.setSe_touch
        | with_reducible apply State.await_touch
        | with_reducible apply State.eraseArea_touch); exact rfl)
    | ((with_reducible apply Touch.step); rotate_left; (with_reducible apply State.setEv_touch); (exact fun h => h); exact rfl)
    | ((with_reducible apply Touch.foldl); rotate_left; intro v a; try dsimp only)
    | ((with_reducible apply Touch.foldlFst); rotate_left; intro v a; try dsimp only)
    | with_reducible apply Touch.cond
    | split
    | (with_reducible apply Touch.update) <;> first
      | exact Or.inl rfl
      | with_reducible exact Or.inr rfl
      | with_reducible exact fun w => ⟨w.1, w.2, w.3, w.4, w.5, w.6, w.7, w.8, w.9, w.10⟩
      | skip

theorem execLogClearDone_goes (s : State) :
    Goes 0x814000 s (execLogClearDone s) := by
  unfold execLogClearDone
  with_reducible apply Goes.cond
  · exact Goes.next (Touch.refl _ _)
  extract_lets v r w
  have hv : Touch 0x4000 s v := by
    refine State.setEv_touch s _ ?_
    exact fun h => h
  have hw : Touch 0x814000 s w := by
    clear_value r v
    have hr := Touch.step (Touch.mono (F := 0x814000) hv rfl) (State.record_touch v 0x0804 1 kFlash 1 []) rfl
    show Touch 0x814000 s ((v.record 0x0804 1 kFlash 1 []).setEv (fun e => { e with clearedRec := some r }))
    revert hr
    generalize v.record 0x0804 1 kFlash 1 [] = x
    intro hr
    refine hr.step (G := 0x4000) ?_ rfl
    apply State.setEv_touch
    exact fun h => h
  exact Goes.next ((hw.mono rfl).step (State.completeWhere_touch _ _ _ _) rfl)

theorem execOpTimeTick_goes (die : Int) (vinMain vinAux : Nat) (s : State) :
    Goes 0x44000 s (execOpTimeTick die vinMain vinAux s) := by
  unfold execOpTimeTick
  try dsimp only
  repeat' first
    | with_reducible apply Goes.next
    | with_reducible apply Goes.cond
    | with_reducible apply Touch.refl
    | ((with_reducible apply Touch.step); rotate_left; (first
        | with_reducible apply State.setPins_touch); exact rfl)
    | ((with_reducible apply Touch.step); rotate_left; (with_reducible apply State.setEv_touch); (exact fun h => h); exact rfl)
    | ((with_reducible apply Touch.foldl); rotate_left; intro v a; try dsimp only)
    | ((with_reducible apply Touch.foldlFst); rotate_left; intro v a; try dsimp only)
    | with_reducible apply Touch.cond
    | split
    | (with_reducible apply Touch.update) <;> first
      | exact Or.inl rfl
      | with_reducible exact Or.inr rfl
      | with_reducible exact fun w => ⟨w.1, w.2, w.3, w.4, w.5, w.6, w.7, w.8, w.9, w.10⟩
      | skip

theorem execEvCfg_goes (data : Reg) (s : State) :
    Goes 0x4000 s (execEvCfg data s) := by
  unfold execEvCfg
  try dsimp only
  repeat' first
    | with_reducible apply Goes.next
    | with_reducible apply Goes.cond
    | with_reducible apply Touch.refl
    | ((with_reducible apply Touch.step); rotate_left; (with_reducible apply State.setEv_touch); (exact fun h => h); exact rfl)
    | ((with_reducible apply Touch.foldl); rotate_left; intro v a; try dsimp only)
    | ((with_reducible apply Touch.foldlFst); rotate_left; intro v a; try dsimp only)
    | with_reducible apply Touch.cond
    | split
    | (with_reducible apply Touch.update) <;> first
      | exact Or.inl rfl
      | with_reducible exact Or.inr rfl
      | with_reducible exact fun w => ⟨w.1, w.2, w.3, w.4, w.5, w.6, w.7, w.8, w.9, w.10⟩
      | skip

theorem execDramError_goes (ue : Bool) (channel addr : Nat) (ringWord : Option Nat) (s : State) :
    Goes 0x815000 s (execDramError ue channel addr ringWord s) := by
  unfold execDramError
  try dsimp only
  repeat' first
    | with_reducible apply Goes.next
    | with_reducible apply Goes.cond
    | with_reducible apply Touch.refl
    | ((with_reducible apply Touch.step); rotate_left; (first
        | with_reducible apply State.setCr_touch
        | with_reducible apply State.raiseCause_touch
        | with_reducible apply State.record_touch); exact rfl)
    | ((with_reducible apply Touch.step); rotate_left; (with_reducible apply State.setEv_touch); (exact fun h => h); exact rfl)
    | ((with_reducible apply Touch.foldl); rotate_left; intro v a; try dsimp only)
    | ((with_reducible apply Touch.foldlFst); rotate_left; intro v a; try dsimp only)
    | with_reducible apply Touch.cond
    | split
    | (with_reducible apply Touch.update) <;> first
      | exact Or.inl rfl
      | with_reducible exact Or.inr rfl
      | with_reducible exact fun w => ⟨w.1, w.2, w.3, w.4, w.5, w.6, w.7, w.8, w.9, w.10⟩
      | skip

theorem execDramCeWindow_goes (s : State) :
    Goes 0x814000 s (execDramCeWindow s) := by
  unfold execDramCeWindow
  try dsimp only
  repeat' first
    | with_reducible apply Goes.next
    | with_reducible apply Goes.cond
    | with_reducible apply Touch.refl
    | ((with_reducible apply Touch.step); rotate_left; (first
        | with_reducible apply State.raiseCause_touch
        | with_reducible apply State.record_touch
        | with_reducible apply State.clearCause_touch); exact rfl)
    | ((with_reducible apply Touch.step); rotate_left; (with_reducible apply State.setEv_touch); (exact fun h => h); exact rfl)
    | ((with_reducible apply Touch.foldl); rotate_left; intro v a; try dsimp only)
    | ((with_reducible apply Touch.foldlFst); rotate_left; intro v a; try dsimp only)
    | with_reducible apply Touch.cond
    | split
    | (with_reducible apply Touch.update) <;> first
      | exact Or.inl rfl
      | with_reducible exact Or.inr rfl
      | with_reducible exact fun w => ⟨w.1, w.2, w.3, w.4, w.5, w.6, w.7, w.8, w.9, w.10⟩
      | skip

theorem execSerdesMargin_goes (link margin : Nat) (hour : Bool) (s : State) :
    Goes 0x814000 s (execSerdesMargin link margin hour s) := by
  unfold execSerdesMargin
  try dsimp only
  repeat' first
    | with_reducible apply Goes.next
    | with_reducible apply Goes.cond
    | with_reducible apply Touch.refl
    | ((with_reducible apply Touch.step); rotate_left; (first
        | with_reducible apply State.clearCause_touch
        | with_reducible apply State.raiseCause_touch
        | with_reducible apply State.record_touch); exact rfl)
    | ((with_reducible apply Touch.step); rotate_left; (with_reducible apply State.setEv_touch); (exact fun h => h); exact rfl)
    | ((with_reducible apply Touch.foldl); rotate_left; intro v a; try dsimp only)
    | ((with_reducible apply Touch.foldlFst); rotate_left; intro v a; try dsimp only)
    | with_reducible apply Touch.cond
    | split
    | (with_reducible apply Touch.update) <;> first
      | exact Or.inl rfl
      | with_reducible exact Or.inr rfl
      | with_reducible exact fun w => ⟨w.1, w.2, w.3, w.4, w.5, w.6, w.7, w.8, w.9, w.10⟩
      | skip

end Sys2Proof.Machine
end

