-- ==== Sys2Proof/Laws/TouchReset.lean ====
section
/-!
SUPPORT. What the operations of Machine/Reset.lean touch.
-/

namespace Sys2Proof.Machine

open Sys2Proof

theorem State.setHq_touch (s : State) (f : HostIf → HostIf) (h : (f s.hq).queues.length = s.hq.queues.length)
    (hl : s.hq.ledger.length ≤ 512 → (f s.hq).ledger.length ≤ 512) : Touch 0x10000 s (State.setHq s f) := by
  unfold State.setHq
  with_reducible apply Touch.update (Touch.refl _ s)
  all_goals first
    | exact Or.inl rfl
    | with_reducible exact Or.inr rfl
    | exact fun w => ⟨w.1, w.2, w.3, w.4, h.trans w.5, w.6, w.7, hl w.8, w.9, w.10⟩

theorem State.setHq_four (s : State) (f : HostIf → HostIf) (h : s.hq.queues.length = 4 → (f s.hq).queues.length = 4)
    (hl : s.hq.ledger.length ≤ 512 → (f s.hq).ledger.length ≤ 512) : Touch 0x10000 s (State.setHq s f) := by
  unfold State.setHq
  with_reducible apply Touch.update (Touch.refl _ s)
  all_goals first
    | exact Or.inl rfl
    | with_reducible exact Or.inr rfl
    | exact fun w => ⟨w.1, w.2, w.3, w.4, h w.5, w.6, w.7, hl w.8, w.9, w.10⟩

theorem State.setRc_touch (s : State) (f : ResetCtl → ResetCtl) :
    Touch 0x8000 s (State.setRc s f) := by
  unfold State.setRc
  try dsimp only
  repeat' first
    | with_reducible apply Touch.refl
    | ((with_reducible apply Touch.foldl); rotate_left; intro v a; try dsimp only)
    | ((with_reducible apply Touch.foldlFst); rotate_left; intro v a; try dsimp only)
    | with_reducible apply Touch.cond
    | split
    | (with_reducible apply Touch.update) <;> first
      | exact Or.inl rfl
      | with_reducible exact Or.inr rfl
      | with_reducible exact fun w => ⟨w.1, w.2, w.3, w.4, w.5, w.6, w.7, w.8, w.9, w.10⟩
      | skip

theorem State.hwRecord_touch (s : State) (code sev : Nat) (noTime : Bool) (payload : Bytes) :
    Touch 0x4000 s (State.hwRecord s code sev noTime payload) := by
  unfold State.hwRecord
  try dsimp only
  repeat' first
    | with_reducible apply Touch.refl
    | ((with_reducible apply Touch.step); rotate_left; (with_reducible apply State.setEv_touch); (exact fun h => Recorder.push_ring _ _ h); exact rfl)
    | ((with_reducible apply Touch.foldl); rotate_left; intro v a; try dsimp only)
    | ((with_reducible apply Touch.foldlFst); rotate_left; intro v a; try dsimp only)
    | with_reducible apply Touch.cond
    | split
    | (with_reducible apply Touch.update) <;> first
      | exact Or.inl rfl
      | with_reducible exact Or.inr rfl
      | with_reducible exact fun w => ⟨w.1, w.2, w.3, w.4, w.5, w.6, w.7, w.8, w.9, w.10⟩
      | skip

theorem State.enterLedger_touch (s : State) (scope source seq : Nat) (cmd : Option CmdHdr) :
    Touch 0x10000 s (State.enterLedger s scope source seq cmd) := by
  unfold State.enterLedger
  with_reducible apply Touch.foldl
  · exact Touch.refl _ _
  · intro v a
    dsimp only
    split
    · refine State.setHq_touch v _ rfl ?_
      exact fun h => h
    · rename_i h
      refine State.setHq_touch v _ rfl ?_
      intro _
      simp only [List.length_append, List.length_cons, List.length_nil]
      omega

theorem State.rescope_touch (s : State) (scope : Nat) :
    Touch 0x10000 s (State.rescope s scope) := by
  unfold State.rescope
  try dsimp only
  repeat' first
    | with_reducible apply Touch.refl
    | ((with_reducible apply Touch.step); rotate_left; (with_reducible apply State.setHq_touch); (exact rfl; (intro h; simpa using h)); exact rfl)
    | ((with_reducible apply Touch.foldl); rotate_left; intro v a; try dsimp only)
    | ((with_reducible apply Touch.foldlFst); rotate_left; intro v a; try dsimp only)
    | with_reducible apply Touch.cond
    | split
    | (with_reducible apply Touch.update) <;> first
      | exact Or.inl rfl
      | with_reducible exact Or.inr rfl
      | with_reducible exact fun w => ⟨w.1, w.2, w.3, w.4, w.5, w.6, w.7, w.8, w.9, w.10⟩
      | skip

theorem State.forget_touch (s : State) (gone : CmdHdr → Bool) :
    Touch 0x20800 s (State.forget s gone) := by
  unfold State.forget
  try dsimp only
  repeat' first
    | with_reducible apply Touch.refl
    | ((with_reducible apply Touch.foldl); rotate_left; intro v a; try dsimp only)
    | ((with_reducible apply Touch.foldlFst); rotate_left; intro v a; try dsimp only)
    | with_reducible apply Touch.cond
    | split
    | (with_reducible apply Touch.update) <;> first
      | exact Or.inl rfl
      | with_reducible exact Or.inr rfl
      | with_reducible exact fun w => ⟨w.1, w.2, w.3, w.4, w.5, w.6, w.7, w.8, w.9, w.10⟩
      | skip

theorem State.forgetHost_touch (s : State) :
    Touch 0x20800 s (State.forgetHost s) := by
  unfold State.forgetHost
  try dsimp only
  repeat' first
    | with_reducible apply Touch.refl
    | ((with_reducible apply Touch.step); rotate_left; (first
        | with_reducible apply State.forget_touch); exact rfl)
    | ((with_reducible apply Touch.foldl); rotate_left; intro v a; try dsimp only)
    | ((with_reducible apply Touch.foldlFst); rotate_left; intro v a; try dsimp only)
    | with_reducible apply Touch.cond
    | split
    | (with_reducible apply Touch.update) <;> first
      | exact Or.inl rfl
      | with_reducible exact Or.inr rfl
      | with_reducible exact fun w => ⟨w.1, w.2, w.3, w.4, w.5, w.6, w.7, w.8, w.9, w.10⟩
      | skip

theorem State.dropShadows_touch (s : State) (lo hi : Nat) :
    Touch 0x10000 s (State.dropShadows s lo hi) := by
  unfold State.dropShadows
  try dsimp only
  repeat' first
    | with_reducible apply Touch.refl
    | ((with_reducible apply Touch.step); rotate_left; (with_reducible apply State.setHq_touch); (exact rfl; exact fun h => h); exact rfl)
    | ((with_reducible apply Touch.foldl); rotate_left; intro v a; try dsimp only)
    | ((with_reducible apply Touch.foldlFst); rotate_left; intro v a; try dsimp only)
    | with_reducible apply Touch.cond
    | split
    | (with_reducible apply Touch.update) <;> first
      | exact Or.inl rfl
      | with_reducible exact Or.inr rfl
      | with_reducible exact fun w => ⟨w.1, w.2, w.3, w.4, w.5, w.6, w.7, w.8, w.9, w.10⟩
      | skip

theorem State.resetHost_touch (s : State) :
    Touch 0x30800 s (State.resetHost s) := by
  unfold State.resetHost
  try dsimp only
  repeat' first
    | with_reducible apply Touch.refl
    | ((with_reducible apply Touch.step); rotate_left; (first
        | with_reducible apply State.forgetHost_touch); exact rfl)
    | ((with_reducible apply Touch.foldl); rotate_left; intro v a; try dsimp only)
    | ((with_reducible apply Touch.foldlFst); rotate_left; intro v a; try dsimp only)
    | with_reducible apply Touch.cond
    | split
    | (with_reducible apply Touch.update) <;> first
      | exact Or.inl rfl
      | with_reducible exact Or.inr rfl
      | with_reducible exact fun w => ⟨w.1, w.2, w.3, w.4, w.5, w.6, w.7, w.8, w.9, w.10⟩
      | exact fun w => ⟨by first | with_reducible exact w.1 | exact List.length_replicate, by first | with_reducible exact w.2 | exact List.length_replicate, by first | with_reducible exact w.3 | exact List.length_replicate, by first | with_reducible exact w.4 | rfl, by first | with_reducible exact w.5 | rfl, by first | with_reducible exact w.6 | exact Nat.zero_le _, by first | with_reducible exact w.7 | exact Nat.zero_le _, by first | with_reducible exact w.8 | exact Nat.zero_le _, by first | with_reducible exact w.9 | rfl, by first | with_reducible exact w.10 | rfl⟩
      | skip

theorem State.flushCut_touch (s : State) :
    Touch 0xc14000 s (State.flushCut s) := by
  unfold State.flushCut
  try dsimp only
  repeat' first
    | with_reducible apply Touch.refl
    | ((with_reducible apply Touch.step); rotate_left; (first
        | with_reducible apply State.freeNat_touch
        | with_reducible apply State.freeBit_touch
        | with_reducible apply State.appendLog_touch); exact rfl)
    | ((with_reducible apply Touch.step); rotate_left; (with_reducible apply State.setEv_touch); (exact fun h => h); exact rfl)
    | ((with_reducible apply Touch.foldl); rotate_left; intro v a; try dsimp only)
    | ((with_reducible apply Touch.foldlFst); rotate_left; intro v a; try dsimp only)
    | with_reducible apply Touch.cond
    | split
    | (with_reducible apply Touch.update) <;> first
      | exact Or.inl rfl
      | with_reducible exact Or.inr rfl
      | with_reducible exact fun w => ⟨w.1, w.2, w.3, w.4, w.5, w.6, w.7, w.8, w.9, w.10⟩
      | skip

theorem State.clearCut_touch (s : State) :
    Touch 0x404000 s (State.clearCut s) := by
  unfold State.clearCut
  try dsimp only
  repeat' first
    | with_reducible apply Touch.refl
    | ((with_reducible apply Touch.step); rotate_left; (first
        | with_reducible apply State.freeNat_touch); exact rfl)
    | ((with_reducible apply Touch.step); rotate_left; (with_reducible apply State.setEv_touch); (exact fun h => h); exact rfl)
    | ((with_reducible apply Touch.foldl); rotate_left; intro v a; try dsimp only)
    | ((with_reducible apply Touch.foldlFst); rotate_left; intro v a; try dsimp only)
    | with_reducible apply Touch.cond
    | split
    | (with_reducible apply Touch.update) <;> first
      | exact Or.inl rfl
      | with_reducible exact Or.inr rfl
      | with_reducible exact fun w => ⟨w.1, w.2, w.3, w.4, w.5, w.6, w.7, w.8, w.9, w.10⟩
      | skip

theorem State.commitCut_touch (s : State) :
    Touch 0x420000 s (State.commitCut s) := by
  unfold State.commitCut
  try dsimp only
  repeat' first
    | with_reducible apply Touch.refl
    | ((with_reducible apply Touch.step); rotate_left; (first
        | with_reducible apply State.setSe_touch
        | with_reducible apply State.imageCut_touch); exact rfl)
    | ((with_reducible apply Touch.foldl); rotate_left; intro v a; try dsimp only)
    | ((with_reducible apply Touch.foldlFst); rotate_left; intro v a; try dsimp only)
    | with_reducible apply Touch.cond
    | split
    | (with_reducible apply Touch.update) <;> first
      | exact Or.inl rfl
      | with_reducible exact Or.inr rfl
      | with_reducible exact fun w => ⟨w.1, w.2, w.3, w.4, w.5, w.6, w.7, w.8, w.9, w.10⟩
      | skip

theorem State.flashCut_touch (s : State) :
    Touch 0xc36000 s (State.flashCut s) := by
  unfold State.flashCut
  try dsimp only
  repeat' first
    | with_reducible apply Touch.refl
    | ((with_reducible apply Touch.step); rotate_left; (first
        | with_reducible apply State.commitCut_touch
        | with_reducible apply State.clearCut_touch
        | with_reducible apply State.flushCut_touch
        | with_reducible apply State.calCut_touch
        | with_reducible apply State.imageCut_touch
        | with_reducible apply State.setSe_touch); exact rfl)
    | ((with_reducible apply Touch.foldl); rotate_left; intro v a; try dsimp only)
    | ((with_reducible apply Touch.foldlFst); rotate_left; intro v a; try dsimp only)
    | with_reducible apply Touch.cond
    | split
    | (with_reducible apply Touch.update) <;> first
      | exact Or.inl rfl
      | with_reducible exact Or.inr rfl
      | with_reducible exact fun w => ⟨w.1, w.2, w.3, w.4, w.5, w.6, w.7, w.8, w.9, w.10⟩
      | skip

theorem State.dropPins_touch (s : State) :
    Touch 0x840000 s (State.dropPins s) := by
  unfold State.dropPins
  try dsimp only
  repeat' first
    | with_reducible apply Touch.refl
    | ((with_reducible apply Touch.step); rotate_left; (first
        | with_reducible apply State.setPins_touch); exact rfl)
    | ((with_reducible apply Touch.step); rotate_left; (with_reducible apply State.emit_touch); (exact rfl); exact rfl)
    | ((with_reducible apply Touch.foldl); rotate_left; intro v a; try dsimp only)
    | ((with_reducible apply Touch.foldlFst); rotate_left; intro v a; try dsimp only)
    | with_reducible apply Touch.cond
    | split
    | (with_reducible apply Touch.update) <;> first
      | exact Or.inl rfl
      | with_reducible exact Or.inr rfl
      | with_reducible exact fun w => ⟨w.1, w.2, w.3, w.4, w.5, w.6, w.7, w.8, w.9, w.10⟩
      | skip

theorem State.losePtp_touch (s : State) (cold : Bool) :
    Touch 0x2 s (State.losePtp s cold) := by
  unfold State.losePtp
  try dsimp only
  repeat' first
    | with_reducible apply Touch.refl
    | ((with_reducible apply Touch.foldl); rotate_left; intro v a; try dsimp only)
    | ((with_reducible apply Touch.foldlFst); rotate_left; intro v a; try dsimp only)
    | with_reducible apply Touch.cond
    | split
    | (with_reducible apply Touch.update) <;> first
      | exact Or.inl rfl
      | with_reducible exact Or.inr rfl
      | with_reducible exact fun w => ⟨w.1, w.2, w.3, w.4, w.5, w.6, w.7, w.8, w.9, w.10⟩
      | skip

theorem State.noForecast_touch (s : State) :
    Touch 0x10 s (State.noForecast s) := by
  unfold State.noForecast
  try dsimp only
  repeat' first
    | with_reducible apply Touch.refl
    | ((with_reducible apply Touch.foldl); rotate_left; intro v a; try dsimp only)
    | ((with_reducible apply Touch.foldlFst); rotate_left; intro v a; try dsimp only)
    | with_reducible apply Touch.cond
    | split
    | (with_reducible apply Touch.update) <;> first
      | exact Or.inl rfl
      | with_reducible exact Or.inr rfl
      | with_reducible exact fun w => ⟨w.1, w.2, w.3, w.4, w.5, w.6, w.7, w.8, w.9, w.10⟩
      | exact fun w => ⟨by first | exact w.1 | simpa using w.1, by first | exact w.2 | simpa using w.2,
          by first | exact w.3 | simpa using w.3, by first | exact w.4 | simpa [upd_length] using w.4, w.5, w.6, w.7, w.8, w.9, w.10⟩
      | skip

theorem State.loseCold_touch (s : State) :
    Touch 0xeffffe s (State.loseCold s) := by
  unfold State.loseCold
  try dsimp only
  repeat' first
    | with_reducible apply Touch.refl
    | ((with_reducible apply Touch.step); rotate_left; (first
        | with_reducible apply State.dropShadows_touch
        | with_reducible apply State.resetHost_touch
        | with_reducible apply State.dropPins_touch
        | with_reducible apply State.flashCut_touch
        | with_reducible apply State.losePtp_touch); exact rfl)
    | ((with_reducible apply Touch.foldl); rotate_left; intro v a; try dsimp only)
    | ((with_reducible apply Touch.foldlFst); rotate_left; intro v a; try dsimp only)
    | with_reducible apply Touch.cond
    | split
    | (with_reducible apply Touch.update) <;> first
      | exact Or.inl rfl
      | with_reducible exact Or.inr rfl
      | with_reducible exact fun w => ⟨w.1, w.2, w.3, w.4, w.5, w.6, w.7, w.8, w.9, w.10⟩
      | exact fun w => ⟨by first | with_reducible exact w.1 | exact List.length_replicate, by first | with_reducible exact w.2 | exact List.length_replicate, by first | with_reducible exact w.3 | exact List.length_replicate, by first | with_reducible exact w.4 | rfl, by first | with_reducible exact w.5 | rfl, by first | with_reducible exact w.6 | exact Nat.zero_le _, by first | with_reducible exact w.7 | exact Nat.zero_le _, by first | with_reducible exact w.8 | exact Nat.zero_le _, by first | with_reducible exact w.9 | rfl, by first | with_reducible exact w.10 | rfl⟩
      | skip

theorem State.loseWarm_touch (s : State) :
    Touch 0xc7ff1a s (State.loseWarm s) := by
  unfold State.loseWarm
  try dsimp only
  repeat' first
    | with_reducible apply Touch.refl
    | ((with_reducible apply Touch.step); rotate_left; (first
        | with_reducible apply State.dropShadows_touch
        | with_reducible apply State.resetHost_touch
        | with_reducible apply State.dropPins_touch
        | with_reducible apply State.flashCut_touch
        | with_reducible apply State.noForecast_touch
        | with_reducible apply State.losePtp_touch); exact rfl)
    | ((with_reducible apply Touch.foldl); rotate_left; intro v a; try dsimp only)
    | ((with_reducible apply Touch.foldlFst); rotate_left; intro v a; try dsimp only)
    | with_reducible apply Touch.cond
    | split
    | (with_reducible apply Touch.update) <;> first
      | exact Or.inl rfl
      | with_reducible exact Or.inr rfl
      | with_reducible exact fun w => ⟨w.1, w.2, w.3, w.4, w.5, w.6, w.7, w.8, w.9, w.10⟩
      | exact fun w => ⟨by first | with_reducible exact w.1 | exact List.length_replicate, by first | with_reducible exact w.2 | exact List.length_replicate, by first | with_reducible exact w.3 | exact List.length_replicate, by first | with_reducible exact w.4 | rfl, by first | with_reducible exact w.5 | rfl, by first | with_reducible exact w.6 | exact Nat.zero_le _, by first | with_reducible exact w.7 | exact Nat.zero_le _, by first | with_reducible exact w.8 | exact Nat.zero_le _, by first | with_reducible exact w.9 | rfl, by first | with_reducible exact w.10 | rfl⟩
      | skip

theorem State.countFailed_touch (s : State) (src : Nat) :
    Touch 0x8000 s (State.countFailed s src) := by
  unfold State.countFailed
  try dsimp only
  repeat' first
    | with_reducible apply Touch.refl
    | ((with_reducible apply Touch.step); rotate_left; (first
        | with_reducible apply State.setRc_touch); exact rfl)
    | ((with_reducible apply Touch.foldl); rotate_left; intro v a; try dsimp only)
    | ((with_reducible apply Touch.foldlFst); rotate_left; intro v a; try dsimp only)
    | with_reducible apply Touch.cond
    | split
    | (with_reducible apply Touch.update) <;> first
      | exact Or.inl rfl
      | with_reducible exact Or.inr rfl
      | with_reducible exact fun w => ⟨w.1, w.2, w.3, w.4, w.5, w.6, w.7, w.8, w.9, w.10⟩
      | skip

theorem State.resetRecord_touch (s : State) (src scope block : Nat) :
    Touch 0x814000 s (State.resetRecord s src scope block) := by
  unfold State.resetRecord
  try dsimp only
  repeat' first
    | with_reducible apply Touch.refl
    | ((with_reducible apply Touch.step); rotate_left; (first
        | with_reducible apply State.record_touch
        | with_reducible apply State.hwRecord_touch); exact rfl)
    | ((with_reducible apply Touch.foldl); rotate_left; intro v a; try dsimp only)
    | ((with_reducible apply Touch.foldlFst); rotate_left; intro v a; try dsimp only)
    | with_reducible apply Touch.cond
    | split
    | (with_reducible apply Touch.update) <;> first
      | exact Or.inl rfl
      | with_reducible exact Or.inr rfl
      | with_reducible exact fun w => ⟨w.1, w.2, w.3, w.4, w.5, w.6, w.7, w.8, w.9, w.10⟩
      | skip

theorem State.noteReset_touch (s : State) (src scope block seq : Nat) :
    Touch 0x8000 s (State.noteReset s src scope block seq) := by
  unfold State.noteReset
  try dsimp only
  repeat' first
    | with_reducible apply Touch.refl
    | ((with_reducible apply Touch.step); rotate_left; (first
        | with_reducible apply State.setRc_touch); exact rfl)
    | ((with_reducible apply Touch.foldl); rotate_left; intro v a; try dsimp only)
    | ((with_reducible apply Touch.foldlFst); rotate_left; intro v a; try dsimp only)
    | with_reducible apply Touch.cond
    | split
    | (with_reducible apply Touch.update) <;> first
      | exact Or.inl rfl
      | with_reducible exact Or.inr rfl
      | with_reducible exact fun w => ⟨w.1, w.2, w.3, w.4, w.5, w.6, w.7, w.8, w.9, w.10⟩
      | skip

theorem State.holdScope_touch (s : State) (c : Scope) (powerOn asserted : Bool) :
    Touch 0x8000 s (State.holdScope s c powerOn asserted) := by
  unfold State.holdScope
  try dsimp only
  repeat' first
    | with_reducible apply Touch.refl
    | ((with_reducible apply Touch.step); rotate_left; (first
        | with_reducible apply State.setRc_touch); exact rfl)
    | ((with_reducible apply Touch.foldl); rotate_left; intro v a; try dsimp only)
    | ((with_reducible apply Touch.foldlFst); rotate_left; intro v a; try dsimp only)
    | with_reducible apply Touch.cond
    | split
    | (with_reducible apply Touch.update) <;> first
      | exact Or.inl rfl
      | with_reducible exact Or.inr rfl
      | with_reducible exact fun w => ⟨w.1, w.2, w.3, w.4, w.5, w.6, w.7, w.8, w.9, w.10⟩
      | skip

theorem State.assertReset_touch (s : State) (src scope0 : Nat) (held : Bool) (cmd : Option CmdHdr) :
    Touch 0xeffffe s (State.assertReset s src scope0 held cmd) := by
  unfold State.assertReset
  try dsimp only
  repeat' first
    | with_reducible apply Touch.refl
    | ((with_reducible apply Touch.step); rotate_left; (first
        | with_reducible apply State.setRc_touch
        | with_reducible apply State.enterLedger_touch
        | with_reducible apply State.rescope_touch
        | with_reducible apply State.resetRecord_touch
        | with_reducible apply State.countFailed_touch
        | with_reducible apply State.loseCold_touch
        | with_reducible apply State.loseWarm_touch
        | with_reducible apply State.resetHost_touch
        | with_reducible apply State.commitCut_touch
        | with_reducible apply State.holdScope_touch
        | with_reducible apply State.noteReset_touch); exact rfl)
    | ((with_reducible apply Touch.foldl); rotate_left; intro v a; try dsimp only)
    | ((with_reducible apply Touch.foldlFst); rotate_left; intro v a; try dsimp only)
    | with_reducible apply Touch.cond
    | split
    | (with_reducible apply Touch.update) <;> first
      | exact Or.inl rfl
      | with_reducible exact Or.inr rfl
      | with_reducible exact fun w => ⟨w.1, w.2, w.3, w.4, w.5, w.6, w.7, w.8, w.9, w.10⟩
      | skip

theorem State.loseBlock_touch (s : State) (b : Nat) :
    Touch 0x835f12 s (State.loseBlock s b) := by
  unfold State.loseBlock
  try dsimp only
  repeat' first
    | with_reducible apply Touch.refl
    | ((with_reducible apply Touch.step); rotate_left; (first
        | with_reducible apply State.dropShadows_touch
        | with_reducible apply State.noForecast_touch
        | with_reducible apply State.dropLead_touch
        | with_reducible apply State.linkDown_touch
        | with_reducible apply State.losePtp_touch
        | with_reducible apply State.setSe_touch); exact rfl)
    | ((with_reducible apply Touch.foldl); rotate_left; intro v a; try dsimp only)
    | ((with_reducible apply Touch.foldlFst); rotate_left; intro v a; try dsimp only)
    | with_reducible apply Touch.cond
    | split
    | (with_reducible apply Touch.update) <;> first
      | exact Or.inl rfl
      | with_reducible exact Or.inr rfl
      | with_reducible exact fun w => ⟨w.1, w.2, w.3, w.4, w.5, w.6, w.7, w.8, w.9, w.10⟩
      | exact fun w => ⟨by first | with_reducible exact w.1 | exact List.length_replicate, by first | with_reducible exact w.2 | exact List.length_replicate, by first | with_reducible exact w.3 | exact List.length_replicate, by first | with_reducible exact w.4 | rfl, by first | with_reducible exact w.5 | rfl, by first | with_reducible exact w.6 | exact Nat.zero_le _, by first | with_reducible exact w.7 | exact Nat.zero_le _, by first | with_reducible exact w.8 | exact Nat.zero_le _, by first | with_reducible exact w.9 | rfl, by first | with_reducible exact w.10 | rfl⟩
      | skip

theorem State.restoreCheckpoint_touch (s : State) :
    Touch 0xa00 s (State.restoreCheckpoint s) := by
  unfold State.restoreCheckpoint
  try dsimp only
  repeat' first
    | with_reducible apply Touch.refl
    | ((with_reducible apply Touch.foldl); rotate_left; intro v a; try dsimp only)
    | ((with_reducible apply Touch.foldlFst); rotate_left; intro v a; try dsimp only)
    | with_reducible apply Touch.cond
    | split
    | (with_reducible apply Touch.update) <;> first
      | exact Or.inl rfl
      | with_reducible exact Or.inr rfl
      | with_reducible exact fun w => ⟨w.1, w.2, w.3, w.4, w.5, w.6, w.7, w.8, w.9, w.10⟩
      | skip

theorem State.blockReleased_touch (s : State) :
    Touch 0x818a00 s (State.blockReleased s) := by
  unfold State.blockReleased
  try dsimp only
  repeat' first
    | with_reducible apply Touch.refl
    | ((with_reducible apply Touch.step); rotate_left; (first
        | with_reducible apply State.setRc_touch
        | with_reducible apply State.restoreCheckpoint_touch
        | with_reducible apply State.completeWhere_touch); exact rfl)
    | ((with_reducible apply Touch.foldl); rotate_left; intro v a; try dsimp only)
    | ((with_reducible apply Touch.foldlFst); rotate_left; intro v a; try dsimp only)
    | with_reducible apply Touch.cond
    | split
    | (with_reducible apply Touch.update) <;> first
      | exact Or.inl rfl
      | with_reducible exact Or.inr rfl
      | with_reducible exact fun w => ⟨w.1, w.2, w.3, w.4, w.5, w.6, w.7, w.8, w.9, w.10⟩
      | skip

theorem State.clockFault_touch (s : State) (d : Nat) (inRelease : Bool) :
    Touch 0xc000 s (State.clockFault s d inRelease) := by
  unfold State.clockFault
  try dsimp only
  repeat' first
    | with_reducible apply Touch.refl
    | ((with_reducible apply Touch.step); rotate_left; (first
        | with_reducible apply State.setRc_touch
        | with_reducible apply State.hwRecord_touch); exact rfl)
    | ((with_reducible apply Touch.foldl); rotate_left; intro v a; try dsimp only)
    | ((with_reducible apply Touch.foldlFst); rotate_left; intro v a; try dsimp only)
    | with_reducible apply Touch.cond
    | split
    | (with_reducible apply Touch.update) <;> first
      | exact Or.inl rfl
      | with_reducible exact Or.inr rfl
      | with_reducible exact fun w => ⟨w.1, w.2, w.3, w.4, w.5, w.6, w.7, w.8, w.9, w.10⟩
      | skip

theorem State.clockAction_touch (s : State) (d : Nat) :
    Touch 0x81dcfe s (State.clockAction s d) := by
  unfold State.clockAction
  try dsimp only
  repeat' first
    | with_reducible apply Touch.refl
    | ((with_reducible apply Touch.step); rotate_left; (first
        | with_reducible apply State.noForecast_touch
        | with_reducible apply State.crFreeze_touch
        | with_reducible apply State.loseLock_touch
        | with_reducible apply State.linkDown_touch
        | with_reducible apply State.partnerLost_touch
        | with_reducible apply State.setTeth_touch
        | with_reducible apply State.raiseCause_touch
        | with_reducible apply State.loseTrained_touch); exact rfl)
    | ((with_reducible apply Touch.step); rotate_left; (with_reducible apply State.setHq_touch); (exact rfl; exact fun h => h); exact rfl)
    | ((with_reducible apply Touch.foldl); rotate_left; intro v a; try dsimp only)
    | ((with_reducible apply Touch.foldlFst); rotate_left; intro v a; try dsimp only)
    | with_reducible apply Touch.cond
    | split
    | (with_reducible apply Touch.update) <;> first
      | exact Or.inl rfl
      | with_reducible exact Or.inr rfl
      | with_reducible exact fun w => ⟨w.1, w.2, w.3, w.4, w.5, w.6, w.7, w.8, w.9, w.10⟩
      | skip

theorem State.powerLoss_touch (s : State) :
    Touch 0xeffffe s (State.powerLoss s) := by
  unfold State.powerLoss
  try dsimp only
  repeat' first
    | with_reducible apply Touch.refl
    | ((with_reducible apply Touch.step); rotate_left; (first
        | with_reducible apply State.enterLedger_touch
        | with_reducible apply State.rescope_touch
        | with_reducible apply State.resetRecord_touch
        | with_reducible apply State.noteReset_touch
        | with_reducible apply State.loseCold_touch
        | with_reducible apply State.setRc_touch); exact rfl)
    | ((with_reducible apply Touch.foldl); rotate_left; intro v a; try dsimp only)
    | ((with_reducible apply Touch.foldlFst); rotate_left; intro v a; try dsimp only)
    | with_reducible apply Touch.cond
    | split
    | (with_reducible apply Touch.update) <;> first
      | exact Or.inl rfl
      | with_reducible exact Or.inr rfl
      | with_reducible exact fun w => ⟨w.1, w.2, w.3, w.4, w.5, w.6, w.7, w.8, w.9, w.10⟩
      | skip

theorem State.powerReturn_touch (s : State) :
    Touch 0xc000 s (State.powerReturn s) := by
  unfold State.powerReturn
  try dsimp only
  repeat' first
    | with_reducible apply Touch.refl
    | ((with_reducible apply Touch.step); rotate_left; (first
        | with_reducible apply State.setRc_touch
        | with_reducible apply State.holdScope_touch); exact rfl)
    | ((with_reducible apply Touch.step); rotate_left; (with_reducible apply State.setEv_touch); (exact fun h => h); exact rfl)
    | ((with_reducible apply Touch.foldl); rotate_left; intro v a; try dsimp only)
    | ((with_reducible apply Touch.foldlFst); rotate_left; intro v a; try dsimp only)
    | with_reducible apply Touch.cond
    | split
    | (with_reducible apply Touch.update) <;> first
      | exact Or.inl rfl
      | with_reducible exact Or.inr rfl
      | with_reducible exact fun w => ⟨w.1, w.2, w.3, w.4, w.5, w.6, w.7, w.8, w.9, w.10⟩
      | skip

theorem State.loseRetained_touch (s : State) :
    Touch 0x7c008 s (State.loseRetained s) := by
  unfold State.loseRetained
  try dsimp only
  repeat' first
    | with_reducible apply Touch.refl
    | ((with_reducible apply Touch.foldl); rotate_left; intro v a; try dsimp only)
    | ((with_reducible apply Touch.foldlFst); rotate_left; intro v a; try dsimp only)
    | with_reducible apply Touch.cond
    | split
    | (with_reducible apply Touch.update) <;> first
      | exact Or.inl rfl
      | with_reducible exact Or.inr rfl
      | with_reducible exact fun w => ⟨w.1, w.2, w.3, w.4, w.5, w.6, w.7, w.8, w.9, w.10⟩
      | exact fun w => ⟨by first | with_reducible exact w.1 | exact List.length_replicate, by first | with_reducible exact w.2 | exact List.length_replicate, by first | with_reducible exact w.3 | exact List.length_replicate, by first | with_reducible exact w.4 | rfl, by first | with_reducible exact w.5 | rfl, by first | with_reducible exact w.6 | exact Nat.zero_le _, by first | with_reducible exact w.7 | exact Nat.zero_le _, by first | with_reducible exact w.8 | exact Nat.zero_le _, by first | with_reducible exact w.9 | rfl, by first | with_reducible exact w.10 | rfl⟩
      | skip

theorem execReset_goes (h : CmdHdr) (scope : Nat) (s : State) :
    Goes 0xeffffe s (execReset h scope s) := by
  unfold execReset
  try dsimp only
  repeat' first
    | with_reducible apply Goes.next
    | with_reducible apply Goes.cond
    | with_reducible apply Touch.refl
    | ((with_reducible apply State.start_touch); exact rfl; intro v; try dsimp only)
    | ((with_reducible apply Touch.step); rotate_left; (first
        | with_reducible apply State.assertReset_touch
        | with_reducible apply State.await_touch); exact rfl)
    | ((with_reducible apply Touch.foldl); rotate_left; intro v a; try dsimp only)
    | ((with_reducible apply Touch.foldlFst); rotate_left; intro v a; try dsimp only)
    | with_reducible apply Touch.cond
    | split
    | (with_reducible apply Touch.update) <;> first
      | exact Or.inl rfl
      | with_reducible exact Or.inr rfl
      | with_reducible exact fun w => ⟨w.1, w.2, w.3, w.4, w.5, w.6, w.7, w.8, w.9, w.10⟩
      | skip

theorem execImageActivate_goes (s : State) :
    Goes 0xeffffe s (execImageActivate s) := by
  unfold execImageActivate
  try dsimp only
  repeat' first
    | with_reducible apply Goes.next
    | with_reducible apply Goes.cond
    | with_reducible apply Touch.refl
    | ((with_reducible apply Touch.step); rotate_left; (first
        | with_reducible apply State.assertReset_touch
        | with_reducible apply State.setSe_touch); exact rfl)
    | ((with_reducible apply Touch.foldl); rotate_left; intro v a; try dsimp only)
    | ((with_reducible apply Touch.foldlFst); rotate_left; intro v a; try dsimp only)
    | with_reducible apply Touch.cond
    | split
    | (with_reducible apply Touch.update) <;> first
      | exact Or.inl rfl
      | with_reducible exact Or.inr rfl
      | with_reducible exact fun w => ⟨w.1, w.2, w.3, w.4, w.5, w.6, w.7, w.8, w.9, w.10⟩
      | skip

theorem execStewardWatchdog_goes (s : State) :
    Goes 0xeffffe s (execStewardWatchdog s) := by
  unfold execStewardWatchdog
  try dsimp only
  repeat' first
    | with_reducible apply Goes.next
    | with_reducible apply Goes.cond
    | with_reducible apply Touch.refl
    | ((with_reducible apply Touch.step); rotate_left; (first
        | with_reducible apply State.assertReset_touch); exact rfl)
    | ((with_reducible apply Touch.foldl); rotate_left; intro v a; try dsimp only)
    | ((with_reducible apply Touch.foldlFst); rotate_left; intro v a; try dsimp only)
    | with_reducible apply Touch.cond
    | split
    | (with_reducible apply Touch.update) <;> first
      | exact Or.inl rfl
      | with_reducible exact Or.inr rfl
      | with_reducible exact fun w => ⟨w.1, w.2, w.3, w.4, w.5, w.6, w.7, w.8, w.9, w.10⟩
      | skip

theorem execLoopWatchdog_goes (s : State) :
    Goes 0xeffffe s (execLoopWatchdog s) := by
  unfold execLoopWatchdog
  try dsimp only
  repeat' first
    | with_reducible apply Goes.next
    | with_reducible apply Goes.cond
    | with_reducible apply Touch.refl
    | ((with_reducible apply Touch.step); rotate_left; (first
        | with_reducible apply State.assertReset_touch); exact rfl)
    | ((with_reducible apply Touch.foldl); rotate_left; intro v a; try dsimp only)
    | ((with_reducible apply Touch.foldlFst); rotate_left; intro v a; try dsimp only)
    | with_reducible apply Touch.cond
    | split
    | (with_reducible apply Touch.update) <;> first
      | exact Or.inl rfl
      | with_reducible exact Or.inr rfl
      | with_reducible exact fun w => ⟨w.1, w.2, w.3, w.4, w.5, w.6, w.7, w.8, w.9, w.10⟩
      | skip

theorem execPcieReset_goes (s : State) :
    Goes 0xeffffe s (execPcieReset s) := by
  unfold execPcieReset
  try dsimp only
  repeat' first
    | with_reducible apply Goes.next
    | with_reducible apply Goes.cond
    | with_reducible apply Touch.refl
    | ((with_reducible apply Touch.step); rotate_left; (first
        | with_reducible apply State.assertReset_touch); exact rfl)
    | ((with_reducible apply Touch.foldl); rotate_left; intro v a; try dsimp only)
    | ((with_reducible apply Touch.foldlFst); rotate_left; intro v a; try dsimp only)
    | with_reducible apply Touch.cond
    | split
    | (with_reducible apply Touch.update) <;> first
      | exact Or.inl rfl
      | with_reducible exact Or.inr rfl
      | with_reducible exact fun w => ⟨w.1, w.2, w.3, w.4, w.5, w.6, w.7, w.8, w.9, w.10⟩
      | skip

theorem execResetN_goes (lowNs : Nat) (high : Bool) (s : State) :
    Goes 0xeffffe s (execResetN lowNs high s) := by
  unfold execResetN
  try dsimp only
  repeat' first
    | with_reducible apply Goes.next
    | with_reducible apply Goes.cond
    | with_reducible apply Touch.refl
    | ((with_reducible apply Touch.step); rotate_left; (first
        | with_reducible apply State.setRc_touch
        | with_reducible apply State.setPins_touch
        | with_reducible apply State.freeBit_touch
        | with_reducible apply State.assertReset_touch); exact rfl)
    | ((with_reducible apply Touch.foldl); rotate_left; intro v a; try dsimp only)
    | ((with_reducible apply Touch.foldlFst); rotate_left; intro v a; try dsimp only)
    | with_reducible apply Touch.cond
    | split
    | (with_reducible apply Touch.update) <;> first
      | exact Or.inl rfl
      | with_reducible exact Or.inr rfl
      | with_reducible exact fun w => ⟨w.1, w.2, w.3, w.4, w.5, w.6, w.7, w.8, w.9, w.10⟩
      | skip

theorem execSeRcvRetry_goes (s : State) :
    Goes 0xeffffe s (execSeRcvRetry s) := by
  unfold execSeRcvRetry
  try dsimp only
  repeat' first
    | with_reducible apply Goes.next
    | with_reducible apply Goes.cond
    | with_reducible apply Touch.refl
    | ((with_reducible apply Touch.step); rotate_left; (first
        | with_reducible apply State.assertReset_touch
        | with_reducible apply State.setRc_touch); exact rfl)
    | ((with_reducible apply Touch.foldl); rotate_left; intro v a; try dsimp only)
    | ((with_reducible apply Touch.foldlFst); rotate_left; intro v a; try dsimp only)
    | with_reducible apply Touch.cond
    | split
    | (with_reducible apply Touch.update) <;> first
      | exact Or.inl rfl
      | with_reducible exact Or.inr rfl
      | with_reducible exact fun w => ⟨w.1, w.2, w.3, w.4, w.5, w.6, w.7, w.8, w.9, w.10⟩
      | skip

theorem execSeRcvRestart_goes (s : State) :
    Goes 0xeffffe s (execSeRcvRestart s) := by
  unfold execSeRcvRestart
  try dsimp only
  repeat' first
    | with_reducible apply Goes.next
    | with_reducible apply Goes.cond
    | with_reducible apply Touch.refl
    | ((with_reducible apply Touch.step); rotate_left; (first
        | with_reducible apply State.assertReset_touch); exact rfl)
    | ((with_reducible apply Touch.foldl); rotate_left; intro v a; try dsimp only)
    | ((with_reducible apply Touch.foldlFst); rotate_left; intro v a; try dsimp only)
    | with_reducible apply Touch.cond
    | split
    | (with_reducible apply Touch.update) <;> first
      | exact Or.inl rfl
      | with_reducible exact Or.inr rfl
      | with_reducible exact fun w => ⟨w.1, w.2, w.3, w.4, w.5, w.6, w.7, w.8, w.9, w.10⟩
      | skip

theorem execSeRcvLoad_goes (s : State) :
    Goes 0x20000 s (execSeRcvLoad s) := by
  unfold execSeRcvLoad
  try dsimp only
  repeat' first
    | with_reducible apply Goes.next
    | with_reducible apply Goes.cond
    | with_reducible apply Touch.refl
    | ((with_reducible apply Touch.step); rotate_left; (first
        | with_reducible apply State.setSe_touch); exact rfl)
    | ((with_reducible apply Touch.foldl); rotate_left; intro v a; try dsimp only)
    | ((with_reducible apply Touch.foldlFst); rotate_left; intro v a; try dsimp only)
    | with_reducible apply Touch.cond
    | split
    | (with_reducible apply Touch.update) <;> first
      | exact Or.inl rfl
      | with_reducible exact Or.inr rfl
      | with_reducible exact fun w => ⟨w.1, w.2, w.3, w.4, w.5, w.6, w.7, w.8, w.9, w.10⟩
      | skip

theorem execRecoveryWriteDone_goes (good : Bool) (s : State) :
    Goes 0xc3c000 s (execRecoveryWriteDone good s) := by
  unfold execRecoveryWriteDone
  try dsimp only
  repeat' first
    | with_reducible apply Goes.next
    | with_reducible apply Goes.cond
    | with_reducible apply Touch.refl
    | ((with_reducible apply Touch.step); rotate_left; (first
        | with_reducible apply State.setSe_touch
        | with_reducible apply State.imageErase_touch
        | with_reducible apply State.setRc_touch
        | with_reducible apply State.imageWrite_touch
        | with_reducible apply State.imageCut_touch); exact rfl)
    | ((with_reducible apply Touch.foldl); rotate_left; intro v a; try dsimp only)
    | ((with_reducible apply Touch.foldlFst); rotate_left; intro v a; try dsimp only)
    | with_reducible apply Touch.cond
    | split
    | (with_reducible apply Touch.update) <;> first
      | exact Or.inl rfl
      | with_reducible exact Or.inr rfl
      | with_reducible exact fun w => ⟨w.1, w.2, w.3, w.4, w.5, w.6, w.7, w.8, w.9, w.10⟩
      | skip

theorem execAlert_goes (m : GnMsg) (s : State) :
    Goes 0xeffffe s (execAlert m s) := by
  unfold execAlert
  try dsimp only
  repeat' first
    | with_reducible apply Goes.next
    | with_reducible apply Goes.cond
    | with_reducible apply Touch.refl
    | ((with_reducible apply Touch.step); rotate_left; (first
        | with_reducible apply State.gnCheck_touch
        | with_reducible apply State.gnQueue_touch
        | with_reducible apply State.assertReset_touch
        | with_reducible apply State.record_touch); exact rfl)
    | ((with_reducible apply Touch.foldl); rotate_left; intro v a; try dsimp only)
    | ((with_reducible apply Touch.foldlFst); rotate_left; intro v a; try dsimp only)
    | with_reducible apply Touch.cond
    | split
    | (with_reducible apply Touch.update) <;> first
      | exact Or.inl rfl
      | with_reducible exact Or.inr rfl
      | with_reducible exact fun w => ⟨w.1, w.2, w.3, w.4, w.5, w.6, w.7, w.8, w.9, w.10⟩
      | skip

theorem execBlockReset_goes (h : CmdHdr) (block : Nat) (s : State) :
    Goes 0x83df12 s (execBlockReset h block s) := by
  unfold execBlockReset
  try dsimp only
  repeat' first
    | with_reducible apply Goes.next
    | with_reducible apply Goes.cond
    | with_reducible apply Touch.refl
    | ((with_reducible apply State.start_touch); exact rfl; intro v; try dsimp only)
    | ((with_reducible apply Touch.step); rotate_left; (first
        | with_reducible apply State.await_touch
        | with_reducible apply State.resetRecord_touch
        | with_reducible apply State.noteReset_touch
        | with_reducible apply State.loseBlock_touch
        | with_reducible apply State.setRc_touch); exact rfl)
    | ((with_reducible apply Touch.foldl); rotate_left; intro v a; try dsimp only)
    | ((with_reducible apply Touch.foldlFst); rotate_left; intro v a; try dsimp only)
    | with_reducible apply Touch.cond
    | split
    | (with_reducible apply Touch.update) <;> first
      | exact Or.inl rfl
      | with_reducible exact Or.inr rfl
      | with_reducible exact fun w => ⟨w.1, w.2, w.3, w.4, w.5, w.6, w.7, w.8, w.9, w.10⟩
      | skip

theorem execReleaseStep_goes (block : Bool) (fault : Option Nat) (s : State) :
    Goes 0x81ca00 s (execReleaseStep block fault s) := by
  unfold execReleaseStep
  try dsimp only
  repeat' first
    | with_reducible apply Goes.next
    | with_reducible apply Goes.cond
    | with_reducible apply Touch.refl
    | ((with_reducible apply Touch.step); rotate_left; (first
        | with_reducible apply State.blockReleased_touch
        | with_reducible apply State.setRc_touch
        | with_reducible apply State.clockFault_touch); exact rfl)
    | ((with_reducible apply Touch.foldl); rotate_left; intro v a; try dsimp only)
    | ((with_reducible apply Touch.foldlFst); rotate_left; intro v a; try dsimp only)
    | with_reducible apply Touch.cond
    | split
    | (with_reducible apply Touch.update) <;> first
      | exact Or.inl rfl
      | with_reducible exact Or.inr rfl
      | with_reducible exact fun w => ⟨w.1, w.2, w.3, w.4, w.5, w.6, w.7, w.8, w.9, w.10⟩
      | skip

theorem execReleaseRetry_goes (block : Bool) (s : State) :
    Goes 0x8000 s (execReleaseRetry block s) := by
  unfold execReleaseRetry
  try dsimp only
  repeat' first
    | with_reducible apply Goes.next
    | with_reducible apply Goes.cond
    | with_reducible apply Touch.refl
    | ((with_reducible apply Touch.step); rotate_left; (first
        | with_reducible apply State.setRc_touch); exact rfl)
    | ((with_reducible apply Touch.foldl); rotate_left; intro v a; try dsimp only)
    | ((with_reducible apply Touch.foldlFst); rotate_left; intro v a; try dsimp only)
    | with_reducible apply Touch.cond
    | split
    | (with_reducible apply Touch.update) <;> first
      | exact Or.inl rfl
      | with_reducible exact Or.inr rfl
      | with_reducible exact fun w => ⟨w.1, w.2, w.3, w.4, w.5, w.6, w.7, w.8, w.9, w.10⟩
      | skip

theorem execRcClockFault_goes (domain : Nat) (s : State) :
    Goes 0x81dcfe s (execRcClockFault domain s) := by
  unfold execRcClockFault
  try dsimp only
  repeat' first
    | with_reducible apply Goes.next
    | with_reducible apply Goes.cond
    | with_reducible apply Touch.refl
    | ((with_reducible apply Touch.step); rotate_left; (first
        | with_reducible apply State.setRc_touch
        | with_reducible apply State.clockFault_touch
        | with_reducible apply State.clockAction_touch); exact rfl)
    | ((with_reducible apply Touch.foldl); rotate_left; intro v a; try dsimp only)
    | ((with_reducible apply Touch.foldlFst); rotate_left; intro v a; try dsimp only)
    | with_reducible apply Touch.cond
    | split
    | (with_reducible apply Touch.update) <;> first
      | exact Or.inl rfl
      | with_reducible exact Or.inr rfl
      | with_reducible exact fun w => ⟨w.1, w.2, w.3, w.4, w.5, w.6, w.7, w.8, w.9, w.10⟩
      | skip

theorem execPfWarn_goes (asserted : Bool) (s : State) :
    Goes 0x855000 s (execPfWarn asserted s) := by
  unfold execPfWarn
  extract_lets rise v w
  have hv : Touch 0x40000 s v := State.setPins_touch s _
  clear_value v
  with_reducible apply Goes.cond
  · exact Goes.next (hv.mono rfl)
  have hw : Touch 0x854000 s w := by
    have hr := Touch.step (Touch.mono (F := 0x854000) hv rfl) (State.record_touch v 0x0204 1 kNone 0 []) rfl
    show Touch 0x854000 s ((v.record 0x0204 1 kNone 0 []).setEv (fun e => { e with flushDue := true }))
    revert hr
    generalize v.record 0x0204 1 kNone 0 [] = x
    intro hr
    refine hr.step (G := 0x4000) ?_ rfl
    apply State.setEv_touch
    exact fun h => h
  clear_value w
  exact Goes.next ((hw.mono rfl).step (State.setCr_touch w _) rfl)

theorem execVinMainLoss_goes (s : State) :
    Goes 0xeffffe s (execVinMainLoss s) := by
  unfold execVinMainLoss
  try dsimp only
  repeat' first
    | with_reducible apply Goes.next
    | with_reducible apply Goes.cond
    | with_reducible apply Touch.refl
    | ((with_reducible apply Touch.step); rotate_left; (first
        | with_reducible apply State.powerLoss_touch); exact rfl)
    | ((with_reducible apply Touch.foldl); rotate_left; intro v a; try dsimp only)
    | ((with_reducible apply Touch.foldlFst); rotate_left; intro v a; try dsimp only)
    | with_reducible apply Touch.cond
    | split
    | (with_reducible apply Touch.update) <;> first
      | exact Or.inl rfl
      | with_reducible exact Or.inr rfl
      | with_reducible exact fun w => ⟨w.1, w.2, w.3, w.4, w.5, w.6, w.7, w.8, w.9, w.10⟩
      | skip

theorem execVinMainReturn_goes (s : State) :
    Goes 0xc000 s (execVinMainReturn s) := by
  unfold execVinMainReturn
  try dsimp only
  repeat' first
    | with_reducible apply Goes.next
    | with_reducible apply Goes.cond
    | with_reducible apply Touch.refl
    | ((with_reducible apply Touch.step); rotate_left; (first
        | with_reducible apply State.powerReturn_touch); exact rfl)
    | ((with_reducible apply Touch.foldl); rotate_left; intro v a; try dsimp only)
    | ((with_reducible apply Touch.foldlFst); rotate_left; intro v a; try dsimp only)
    | with_reducible apply Touch.cond
    | split
    | (with_reducible apply Touch.update) <;> first
      | exact Or.inl rfl
      | with_reducible exact Or.inr rfl
      | with_reducible exact fun w => ⟨w.1, w.2, w.3, w.4, w.5, w.6, w.7, w.8, w.9, w.10⟩
      | skip

theorem execRetainedLoss_goes (deep : Bool) (s : State) :
    Goes 0xeffffe s (execRetainedLoss deep s) := by
  unfold execRetainedLoss
  try dsimp only
  repeat' first
    | with_reducible apply Goes.next
    | with_reducible apply Goes.cond
    | with_reducible apply Touch.refl
    | ((with_reducible apply Touch.step); rotate_left; (first
        | with_reducible apply State.powerLoss_touch
        | with_reducible apply State.freeBit_touch
        | with_reducible apply State.loseRetained_touch
        | with_reducible apply State.setRc_touch); exact rfl)
    | ((with_reducible apply Touch.foldl); rotate_left; intro v a; try dsimp only)
    | ((with_reducible apply Touch.foldlFst); rotate_left; intro v a; try dsimp only)
    | with_reducible apply Touch.cond
    | split
    | (with_reducible apply Touch.update) <;> first
      | exact Or.inl rfl
      | with_reducible exact Or.inr rfl
      | with_reducible exact fun w => ⟨w.1, w.2, w.3, w.4, w.5, w.6, w.7, w.8, w.9, w.10⟩
      | skip

theorem execPowerOn_goes (s : State) :
    Goes 0x7c008 s (execPowerOn s) := by
  unfold execPowerOn
  try dsimp only
  repeat' first
    | with_reducible apply Goes.next
    | with_reducible apply Goes.cond
    | with_reducible apply Touch.refl
    | ((with_reducible apply Touch.step); rotate_left; (first
        | with_reducible apply State.setRc_touch
        | with_reducible apply State.loseRetained_touch
        | with_reducible apply State.holdScope_touch); exact rfl)
    | ((with_reducible apply Touch.foldl); rotate_left; intro v a; try dsimp only)
    | ((with_reducible apply Touch.foldlFst); rotate_left; intro v a; try dsimp only)
    | with_reducible apply Touch.cond
    | split
    | (with_reducible apply Touch.update) <;> first
      | exact Or.inl rfl
      | with_reducible exact Or.inr rfl
      | with_reducible exact fun w => ⟨w.1, w.2, w.3, w.4, w.5, w.6, w.7, w.8, w.9, w.10⟩
      | skip

theorem execTempHigh_goes (up : Bool) (s : State) :
    Goes 0x40000 s (execTempHigh up s) := by
  unfold execTempHigh
  try dsimp only
  repeat' first
    | with_reducible apply Goes.next
    | with_reducible apply Goes.cond
    | with_reducible apply Touch.refl
    | ((with_reducible apply Touch.step); rotate_left; (first
        | with_reducible apply State.setPins_touch); exact rfl)
    | ((with_reducible apply Touch.foldl); rotate_left; intro v a; try dsimp only)
    | ((with_reducible apply Touch.foldlFst); rotate_left; intro v a; try dsimp only)
    | with_reducible apply Touch.cond
    | split
    | (with_reducible apply Touch.update) <;> first
      | exact Or.inl rfl
      | with_reducible exact Or.inr rfl
      | with_reducible exact fun w => ⟨w.1, w.2, w.3, w.4, w.5, w.6, w.7, w.8, w.9, w.10⟩
      | skip

theorem execThermalTrip_goes (s : State) :
    Goes 0xeffffe s (execThermalTrip s) := by
  unfold execThermalTrip
  try dsimp only
  repeat' first
    | with_reducible apply Goes.next
    | with_reducible apply Goes.cond
    | with_reducible apply Touch.refl
    | ((with_reducible apply Touch.step); rotate_left; (first
        | with_reducible apply State.setPins_touch
        | with_reducible apply State.powerLoss_touch); exact rfl)
    | ((with_reducible apply Touch.foldl); rotate_left; intro v a; try dsimp only)
    | ((with_reducible apply Touch.foldlFst); rotate_left; intro v a; try dsimp only)
    | with_reducible apply Touch.cond
    | split
    | (with_reducible apply Touch.update) <;> first
      | exact Or.inl rfl
      | with_reducible exact Or.inr rfl
      | with_reducible exact fun w => ⟨w.1, w.2, w.3, w.4, w.5, w.6, w.7, w.8, w.9, w.10⟩
      | skip

theorem execThermalReturn_goes (s : State) :
    Goes 0x4c000 s (execThermalReturn s) := by
  unfold execThermalReturn
  try dsimp only
  repeat' first
    | with_reducible apply Goes.next
    | with_reducible apply Goes.cond
    | with_reducible apply Touch.refl
    | ((with_reducible apply Touch.step); rotate_left; (first
        | with_reducible apply State.powerReturn_touch
        | with_reducible apply State.setPins_touch); exact rfl)
    | ((with_reducible apply Touch.foldl); rotate_left; intro v a; try dsimp only)
    | ((with_reducible apply Touch.foldlFst); rotate_left; intro v a; try dsimp only)
    | with_reducible apply Touch.cond
    | split
    | (with_reducible apply Touch.update) <;> first
      | exact Or.inl rfl
      | with_reducible exact Or.inr rfl
      | with_reducible exact fun w => ⟨w.1, w.2, w.3, w.4, w.5, w.6, w.7, w.8, w.9, w.10⟩
      | skip

theorem execQuietEnter_goes (s : State) :
    Goes 0x81cc12 s (execQuietEnter s) := by
  unfold execQuietEnter
  try dsimp only
  repeat' first
    | with_reducible apply Goes.next
    | with_reducible apply Goes.cond
    | with_reducible apply Touch.refl
    | ((with_reducible apply Touch.step); rotate_left; (first
        | with_reducible apply State.rowSend_touch
        | with_reducible apply State.loseLock_touch
        | with_reducible apply State.noForecast_touch
        | with_reducible apply State.setRc_touch); exact rfl)
    | ((with_reducible apply Touch.foldl); rotate_left; intro v a; try dsimp only)
    | ((with_reducible apply Touch.foldlFst); rotate_left; intro v a; try dsimp only)
    | with_reducible apply Touch.cond
    | split
    | (with_reducible apply Touch.update) <;> first
      | exact Or.inl rfl
      | with_reducible exact Or.inr rfl
      | with_reducible exact fun w => ⟨w.1, w.2, w.3, w.4, w.5, w.6, w.7, w.8, w.9, w.10⟩
      | skip

theorem execRcPwrCfg_goes (data : Reg) (s : State) :
    Goes 0x8000 s (execRcPwrCfg data s) := by
  unfold execRcPwrCfg
  try dsimp only
  repeat' first
    | with_reducible apply Goes.next
    | with_reducible apply Goes.cond
    | with_reducible apply Touch.refl
    | ((with_reducible apply Touch.step); rotate_left; (first
        | with_reducible apply State.setRc_touch
        | with_reducible apply State.leaveQuiet_touch); exact rfl)
    | ((with_reducible apply Touch.foldl); rotate_left; intro v a; try dsimp only)
    | ((with_reducible apply Touch.foldlFst); rotate_left; intro v a; try dsimp only)
    | with_reducible apply Touch.cond
    | split
    | (with_reducible apply Touch.update) <;> first
      | exact Or.inl rfl
      | with_reducible exact Or.inr rfl
      | with_reducible exact fun w => ⟨w.1, w.2, w.3, w.4, w.5, w.6, w.7, w.8, w.9, w.10⟩
      | skip

end Sys2Proof.Machine
end

