-- ==== Sys2Proof/Laws/TouchStart.lean ====
section
/-!
SUPPORT. What the operations of Machine/Start.lean touch.
-/

namespace Sys2Proof.Machine

open Sys2Proof

theorem Part.storeCheck_map {part : Part} {r : List Nat} {b : Bytes} {l : List StoreSec} {m : CellMap}
    (h : part.storeCheck r b = .inr (l, m)) : ∃ x, m = cellMap b x := by
  unfold Part.storeCheck at h
  split at h
  · cases h
  split at h
  · cases h
  split at h
  · split at h
    · cases h
    · extract_lets m' at h
      split at h
      · cases h
      · exact ⟨_, ((Prod.mk.inj (Sum.inr.inj h)).2).symm⟩
  · cases h
  · cases h

theorem cellMap_groups (b : Bytes) (x : StoreSec) : (cellMap b x).groups.length = 16 := by
  unfold cellMap
  rw [List.length_map, List.length_range]

theorem cellMap_ports (b : Bytes) (x : StoreSec) : (cellMap b x).ports.length = 80 := by
  unfold cellMap
  rw [List.length_map, List.length_range]

theorem State.putStore_touch (s : State) (b : Bytes) (m : CellMap) (hg : m.groups.length = 16) (hp : m.ports.length = 80) :
    Touch 0x1e0 s (State.putStore s b m) := by
  unfold State.putStore
  dsimp only
  (with_reducible apply Touch.update)
  case hw => exact fun w => ⟨hp, (List.length_map _).trans hg, w.3, w.4, w.5, w.6, w.7, w.8, w.9, w.10⟩
  all_goals first
    | with_reducible exact Touch.refl _ _
    | exact Or.inl rfl
    | with_reducible exact Or.inr rfl

theorem State.loadStore_touch (s : State) :
    Touch 0x8341e0 s (State.loadStore s) := by
  unfold State.loadStore
  dsimp only
  split
  · exact ((State.setSe_touch s _).mono rfl).step (State.record_touch _ _ _ _ _ _) rfl
  · rename_i m h
    obtain ⟨x, rfl⟩ := Part.storeCheck_map h
    exact ((State.setSe_touch s _).mono rfl).step (State.putStore_touch _ _ _ (cellMap_groups _ _) (cellMap_ports _ _)) rfl

theorem State.sectionRefused_touch (s : State) (type off : Nat) :
    Touch 0x814000 s (State.sectionRefused s type off) := by
  unfold State.sectionRefused
  try dsimp only
  repeat' first
    | with_reducible apply Touch.refl
    | ((with_reducible apply Touch.step); rotate_left; (first
        | with_reducible apply State.record_touch); exact rfl)
    | ((with_reducible apply Touch.foldl); rotate_left; intro v a; try dsimp only)
    | ((with_reducible apply Touch.foldlFst); rotate_left; intro v a; try dsimp only)
    | with_reducible apply Touch.cond
    | split
    | (with_reducible apply Touch.update) <;> first
      | exact Or.inl rfl
      | with_reducible exact Or.inr rfl
      | with_reducible exact fun w => ⟨w.1, w.2, w.3, w.4, w.5, w.6, w.7, w.8, w.9, w.10⟩
      | skip

theorem State.putImages_touch (s : State) (b : Bytes) (x : StoreSec) :
    Touch 0x814010 s (State.putImages s b x) := by
  unfold State.putImages
  try dsimp only
  repeat' first
    | with_reducible apply Touch.refl
    | ((with_reducible apply Touch.step); rotate_left; (first
        | with_reducible apply State.sectionRefused_touch
        | with_reducible apply State.handBlocks_touch); exact rfl)
    | ((with_reducible apply Touch.foldl); rotate_left; intro v a; try dsimp only)
    | ((with_reducible apply Touch.foldlFst); rotate_left; intro v a; try dsimp only)
    | with_reducible apply Touch.cond
    | split
    | (with_reducible apply Touch.update) <;> first
      | exact Or.inl rfl
      | with_reducible exact Or.inr rfl
      | with_reducible exact fun w => ⟨w.1, w.2, w.3, w.4, w.5, w.6, w.7, w.8, w.9, w.10⟩
      | skip

theorem State.putSchedule_touch (s : State) (b : Bytes) (x : StoreSec) (again : Bool) :
    Touch 0x814010 s (State.putSchedule s b x again) := by
  unfold State.putSchedule
  try dsimp only
  repeat' first
    | with_reducible apply Touch.refl
    | ((with_reducible apply Touch.step); rotate_left; (first
        | with_reducible apply State.sectionRefused_touch
        | with_reducible apply State.noteRefusal_touch
        | with_reducible apply State.acceptTable_touch); exact rfl)
    | ((with_reducible apply Touch.foldl); rotate_left; intro v a; try dsimp only)
    | ((with_reducible apply Touch.foldlFst); rotate_left; intro v a; try dsimp only)
    | with_reducible apply Touch.cond
    | split
    | (with_reducible apply Touch.update) <;> first
      | exact Or.inl rfl
      | with_reducible exact Or.inr rfl
      | with_reducible exact fun w => ⟨w.1, w.2, w.3, w.4, w.5, w.6, w.7, w.8, w.9, w.10⟩
      | skip

theorem State.groupSources_touch (s : State) (g : Nat) :
    Touch 0x40 s (State.groupSources s g) := by
  unfold State.groupSources
  try dsimp only
  repeat' first
    | with_reducible apply Touch.refl
    | ((with_reducible apply Touch.step); rotate_left; (first
        | with_reducible apply State.setGroup_touch); exact rfl)
    | ((with_reducible apply Touch.foldl); rotate_left; intro v a; try dsimp only)
    | ((with_reducible apply Touch.foldlFst); rotate_left; intro v a; try dsimp only)
    | with_reducible apply Touch.cond
    | split
    | (with_reducible apply Touch.update) <;> first
      | exact Or.inl rfl
      | with_reducible exact Or.inr rfl
      | with_reducible exact fun w => ⟨w.1, w.2, w.3, w.4, w.5, w.6, w.7, w.8, w.9, w.10⟩
      | skip

theorem State.loadLoops_touch (s : State) :
    Touch 0x814050 s (State.loadLoops s) := by
  unfold State.loadLoops
  try dsimp only
  repeat' first
    | with_reducible apply Touch.refl
    | ((with_reducible apply Touch.step); rotate_left; (first
        | with_reducible apply State.putImages_touch
        | with_reducible apply State.putSchedule_touch
        | with_reducible apply State.groupSources_touch); exact rfl)
    | ((with_reducible apply Touch.foldl); rotate_left; intro v a; try dsimp only)
    | ((with_reducible apply Touch.foldlFst); rotate_left; intro v a; try dsimp only)
    | with_reducible apply Touch.cond
    | split
    | (with_reducible apply Touch.update) <;> first
      | exact Or.inl rfl
      | with_reducible exact Or.inr rfl
      | with_reducible exact fun w => ⟨w.1, w.2, w.3, w.4, w.5, w.6, w.7, w.8, w.9, w.10⟩
      | skip

theorem State.noLimits_touch (s : State) :
    Touch 0x200 s (State.noLimits s) := by
  unfold State.noLimits
  try dsimp only
  repeat' first
    | with_reducible apply Touch.refl
    | ((with_reducible apply Touch.step); rotate_left; (first
        | with_reducible apply State.setPl_touch); exact rfl)
    | ((with_reducible apply Touch.foldl); rotate_left; intro v a; try dsimp only)
    | ((with_reducible apply Touch.foldlFst); rotate_left; intro v a; try dsimp only)
    | with_reducible apply Touch.cond
    | split
    | (with_reducible apply Touch.update) <;> first
      | exact Or.inl rfl
      | with_reducible exact Or.inr rfl
      | with_reducible exact fun w => ⟨w.1, w.2, w.3, w.4, w.5, w.6, w.7, w.8, w.9, w.10⟩
      | skip

theorem State.putLimits_touch (s : State) (b : Bytes) (x : StoreSec) (again : Bool) :
    Touch 0x814250 s (State.putLimits s b x again) := by
  unfold State.putLimits
  try dsimp only
  repeat' first
    | with_reducible apply Touch.refl
    | ((with_reducible apply Touch.step); rotate_left; (first
        | with_reducible apply State.sectionRefused_touch
        | with_reducible apply State.noLimits_touch
        | with_reducible apply State.setPl_touch
        | with_reducible apply State.setGroup_touch
        | with_reducible apply State.closeGuard_touch); exact rfl)
    | ((with_reducible apply Touch.foldl); rotate_left; intro v a; try dsimp only)
    | ((with_reducible apply Touch.foldlFst); rotate_left; intro v a; try dsimp only)
    | with_reducible apply Touch.cond
    | split
    | (with_reducible apply Touch.update) <;> first
      | exact Or.inl rfl
      | with_reducible exact Or.inr rfl
      | with_reducible exact fun w => ⟨w.1, w.2, w.3, w.4, w.5, w.6, w.7, w.8, w.9, w.10⟩
      | skip

theorem State.noDefaults_touch (s : State) :
    Touch 0xa00 s (State.noDefaults s) := by
  unfold State.noDefaults
  try dsimp only
  repeat' first
    | with_reducible apply Touch.refl
    | ((with_reducible apply Touch.foldl); rotate_left; intro v a; try dsimp only)
    | ((with_reducible apply Touch.foldlFst); rotate_left; intro v a; try dsimp only)
    | with_reducible apply Touch.cond
    | split
    | (with_reducible apply Touch.update) <;> first
      | exact Or.inl rfl
      | with_reducible exact Or.inr rfl
      | with_reducible exact fun w => ⟨w.1, w.2, w.3, w.4, w.5, w.6, w.7, w.8, w.9, w.10⟩
      | skip

theorem State.putDefaults_touch (s : State) (b : Bytes) (x : StoreSec) (again : Bool) :
    Touch 0x814e00 s (State.putDefaults s b x again) := by
  unfold State.putDefaults
  try dsimp only
  repeat' first
    | with_reducible apply Touch.refl
    | ((with_reducible apply Touch.step); rotate_left; (first
        | with_reducible apply State.sectionRefused_touch
        | with_reducible apply State.noDefaults_touch
        | with_reducible apply State.joinGroups_touch); exact rfl)
    | ((with_reducible apply Touch.foldl); rotate_left; intro v a; try dsimp only)
    | ((with_reducible apply Touch.foldlFst); rotate_left; intro v a; try dsimp only)
    | with_reducible apply Touch.cond
    | split
    | (with_reducible apply Touch.update) <;> first
      | exact Or.inl rfl
      | with_reducible exact Or.inr rfl
      | with_reducible exact fun w => ⟨w.1, w.2, w.3, w.4, w.5, w.6, w.7, w.8, w.9, w.10⟩
      | skip

theorem State.loadRest_touch (s : State) :
    Touch 0x814e50 s (State.loadRest s) := by
  unfold State.loadRest
  try dsimp only
  repeat' first
    | with_reducible apply Touch.refl
    | ((with_reducible apply Touch.step); rotate_left; (first
        | with_reducible apply State.noDefaults_touch
        | with_reducible apply State.noLimits_touch
        | with_reducible apply State.putLimits_touch
        | with_reducible apply State.putDefaults_touch
        | with_reducible apply State.sectionRefused_touch); exact rfl)
    | ((with_reducible apply Touch.foldl); rotate_left; intro v a; try dsimp only)
    | ((with_reducible apply Touch.foldlFst); rotate_left; intro v a; try dsimp only)
    | with_reducible apply Touch.cond
    | split
    | (with_reducible apply Touch.update) <;> first
      | exact Or.inl rfl
      | with_reducible exact Or.inr rfl
      | with_reducible exact fun w => ⟨w.1, w.2, w.3, w.4, w.5, w.6, w.7, w.8, w.9, w.10⟩
      | skip

theorem State.restoreCounters_touch (s : State) :
    Touch 0x834000 s (State.restoreCounters s) := by
  unfold State.restoreCounters
  try dsimp only
  repeat' first
    | with_reducible apply Touch.refl
    | ((with_reducible apply Touch.step); rotate_left; (first
        | with_reducible apply State.record_touch
        | with_reducible apply State.setSe_touch); exact rfl)
    | ((with_reducible apply Touch.step); rotate_left; (with_reducible apply State.setEv_touch); (exact fun h => h); exact rfl)
    | ((with_reducible apply Touch.foldl); rotate_left; intro v a; try dsimp only)
    | ((with_reducible apply Touch.foldlFst); rotate_left; intro v a; try dsimp only)
    | with_reducible apply Touch.cond
    | split
    | (with_reducible apply Touch.update) <;> first
      | exact Or.inl rfl
      | with_reducible exact Or.inr rfl
      | with_reducible exact fun w => ⟨w.1, w.2, w.3, w.4, w.5, w.6, w.7, w.8, w.9, w.10⟩
      | skip

theorem State.firstStep_touch (s : State) :
    Touch 0x83c000 s (State.firstStep s) := by
  unfold State.firstStep
  try dsimp only
  repeat' first
    | with_reducible apply Touch.refl
    | ((with_reducible apply Touch.step); rotate_left; (first
        | with_reducible apply State.restoreCounters_touch
        | with_reducible apply State.hwRecord_touch
        | with_reducible apply State.setRc_touch
        | with_reducible apply State.record_touch); exact rfl)
    | ((with_reducible apply Touch.step); rotate_left; (with_reducible apply State.setEv_touch); (exact fun h => h); exact rfl)
    | ((with_reducible apply Touch.foldl); rotate_left; intro v a; try dsimp only)
    | ((with_reducible apply Touch.foldlFst); rotate_left; intro v a; try dsimp only)
    | with_reducible apply Touch.cond
    | split
    | (with_reducible apply Touch.update) <;> first
      | exact Or.inl rfl
      | with_reducible exact Or.inr rfl
      | with_reducible exact fun w => ⟨w.1, w.2, w.3, w.4, w.5, w.6, w.7, w.8, w.9, w.10⟩
      | skip

theorem State.scrub_touch (s : State) (ues : List (Nat × Nat)) :
    Touch 0x814000 s (State.scrub s ues) := by
  unfold State.scrub
  try dsimp only
  repeat' first
    | with_reducible apply Touch.refl
    | ((with_reducible apply Touch.step); rotate_left; (first
        | with_reducible apply State.clearCause_touch
        | with_reducible apply State.raiseCause_touch
        | with_reducible apply State.record_touch); exact rfl)
    | ((with_reducible apply Touch.foldl); rotate_left; intro v a; try dsimp only)
    | ((with_reducible apply Touch.foldlFst); rotate_left; intro v a; try dsimp only)
    | with_reducible apply Touch.cond
    | split
    | (with_reducible apply Touch.update) <;> first
      | exact Or.inl rfl
      | with_reducible exact Or.inr rfl
      | with_reducible exact fun w => ⟨w.1, w.2, w.3, w.4, w.5, w.6, w.7, w.8, w.9, w.10⟩
      | skip

theorem State.recover_touch (s : State) (cause : Nat) :
    Touch 0x28000 s (State.recover s cause) := by
  unfold State.recover
  try dsimp only
  repeat' first
    | with_reducible apply Touch.refl
    | ((with_reducible apply Touch.step); rotate_left; (first
        | with_reducible apply State.setSe_touch
        | with_reducible apply State.setRc_touch); exact rfl)
    | ((with_reducible apply Touch.foldl); rotate_left; intro v a; try dsimp only)
    | ((with_reducible apply Touch.foldlFst); rotate_left; intro v a; try dsimp only)
    | with_reducible apply Touch.cond
    | split
    | (with_reducible apply Touch.update) <;> first
      | exact Or.inl rfl
      | with_reducible exact Or.inr rfl
      | with_reducible exact fun w => ⟨w.1, w.2, w.3, w.4, w.5, w.6, w.7, w.8, w.9, w.10⟩
      | skip

theorem State.runImage_touch (s : State) :
    Touch 0x28000 s (State.runImage s) := by
  unfold State.runImage
  try dsimp only
  repeat' first
    | with_reducible apply Touch.refl
    | ((with_reducible apply Touch.step); rotate_left; (first
        | with_reducible apply State.setRc_touch
        | with_reducible apply State.setSe_touch); exact rfl)
    | ((with_reducible apply Touch.foldl); rotate_left; intro v a; try dsimp only)
    | ((with_reducible apply Touch.foldlFst); rotate_left; intro v a; try dsimp only)
    | with_reducible apply Touch.cond
    | split
    | (with_reducible apply Touch.update) <;> first
      | exact Or.inl rfl
      | with_reducible exact Or.inr rfl
      | with_reducible exact fun w => ⟨w.1, w.2, w.3, w.4, w.5, w.6, w.7, w.8, w.9, w.10⟩
      | skip

theorem State.coldImage_touch (s : State) :
    Touch 0x28000 s (State.coldImage s) := by
  unfold State.coldImage
  try dsimp only
  repeat' first
    | with_reducible apply Touch.refl
    | ((with_reducible apply Touch.step); rotate_left; (first
        | with_reducible apply State.recover_touch
        | with_reducible apply State.runImage_touch); exact rfl)
    | ((with_reducible apply Touch.foldl); rotate_left; intro v a; try dsimp only)
    | ((with_reducible apply Touch.foldlFst); rotate_left; intro v a; try dsimp only)
    | with_reducible apply Touch.cond
    | split
    | (with_reducible apply Touch.update) <;> first
      | exact Or.inl rfl
      | with_reducible exact Or.inr rfl
      | with_reducible exact fun w => ⟨w.1, w.2, w.3, w.4, w.5, w.6, w.7, w.8, w.9, w.10⟩
      | skip

theorem State.warmImage_touch (s : State) :
    Touch 0x28000 s (State.warmImage s) := by
  unfold State.warmImage
  try dsimp only
  repeat' first
    | with_reducible apply Touch.refl
    | ((with_reducible apply Touch.step); rotate_left; (first
        | with_reducible apply State.runImage_touch
        | with_reducible apply State.setRc_touch
        | with_reducible apply State.setSe_touch); exact rfl)
    | ((with_reducible apply Touch.foldl); rotate_left; intro v a; try dsimp only)
    | ((with_reducible apply Touch.foldlFst); rotate_left; intro v a; try dsimp only)
    | with_reducible apply Touch.cond
    | split
    | (with_reducible apply Touch.update) <;> first
      | exact Or.inl rfl
      | with_reducible exact Or.inr rfl
      | with_reducible exact fun w => ⟨w.1, w.2, w.3, w.4, w.5, w.6, w.7, w.8, w.9, w.10⟩
      | skip

theorem State.reachRun_touch (s : State) :
    Touch 0x8000 s (State.reachRun s) := by
  unfold State.reachRun
  try dsimp only
  repeat' first
    | with_reducible apply Touch.refl
    | ((with_reducible apply Touch.step); rotate_left; (first
        | with_reducible apply State.setRc_touch); exact rfl)
    | ((with_reducible apply Touch.foldl); rotate_left; intro v a; try dsimp only)
    | ((with_reducible apply Touch.foldlFst); rotate_left; intro v a; try dsimp only)
    | with_reducible apply Touch.cond
    | split
    | (with_reducible apply Touch.update) <;> first
      | exact Or.inl rfl
      | with_reducible exact Or.inr rfl
      | with_reducible exact fun w => ⟨w.1, w.2, w.3, w.4, w.5, w.6, w.7, w.8, w.9, w.10⟩
      | skip

theorem State.nextStep_touch (s : State) (step : Nat) :
    Touch 0x8000 s (State.nextStep s step) := by
  unfold State.nextStep
  try dsimp only
  repeat' first
    | with_reducible apply Touch.refl
    | ((with_reducible apply Touch.step); rotate_left; (first
        | with_reducible apply State.setRc_touch); exact rfl)
    | ((with_reducible apply Touch.foldl); rotate_left; intro v a; try dsimp only)
    | ((with_reducible apply Touch.foldlFst); rotate_left; intro v a; try dsimp only)
    | with_reducible apply Touch.cond
    | split
    | (with_reducible apply Touch.update) <;> first
      | exact Or.inl rfl
      | with_reducible exact Or.inr rfl
      | with_reducible exact fun w => ⟨w.1, w.2, w.3, w.4, w.5, w.6, w.7, w.8, w.9, w.10⟩
      | skip

theorem execColdStart_goes (step : Nat) (ues : List (Nat × Nat)) (s : State) :
    Goes 0x83effc s (execColdStart step ues s) := by
  unfold execColdStart
  try dsimp only
  repeat' first
    | with_reducible apply Goes.next
    | with_reducible apply Goes.cond
    | with_reducible apply Touch.refl
    | ((with_reducible apply Touch.step); rotate_left; (first
        | with_reducible apply State.nextStep_touch
        | with_reducible apply State.firstStep_touch
        | with_reducible apply State.scrub_touch
        | with_reducible apply State.coldImage_touch
        | with_reducible apply State.loadCal_touch
        | with_reducible apply State.loadStore_touch
        | with_reducible apply State.becomeActive_touch
        | with_reducible apply State.trainDown_touch
        | with_reducible apply State.loadLoops_touch
        | with_reducible apply State.loadRest_touch
        | with_reducible apply State.clearCause_touch
        | with_reducible apply State.reachRun_touch); exact rfl)
    | ((with_reducible apply Touch.foldl); rotate_left; intro v a; try dsimp only)
    | ((with_reducible apply Touch.foldlFst); rotate_left; intro v a; try dsimp only)
    | with_reducible apply Touch.cond
    | split
    | (with_reducible apply Touch.update) <;> first
      | exact Or.inl rfl
      | with_reducible exact Or.inr rfl
      | with_reducible exact fun w => ⟨w.1, w.2, w.3, w.4, w.5, w.6, w.7, w.8, w.9, w.10⟩
      | skip

theorem execWarmStart_goes (step : Nat) (s : State) :
    Goes 0x28a00 s (execWarmStart step s) := by
  unfold execWarmStart
  try dsimp only
  repeat' first
    | with_reducible apply Goes.next
    | with_reducible apply Goes.cond
    | with_reducible apply Touch.refl
    | ((with_reducible apply Touch.step); rotate_left; (first
        | with_reducible apply State.nextStep_touch
        | with_reducible apply State.warmImage_touch
        | with_reducible apply State.restoreCheckpoint_touch
        | with_reducible apply State.reachRun_touch); exact rfl)
    | ((with_reducible apply Touch.foldl); rotate_left; intro v a; try dsimp only)
    | ((with_reducible apply Touch.foldlFst); rotate_left; intro v a; try dsimp only)
    | with_reducible apply Touch.cond
    | split
    | (with_reducible apply Touch.update) <;> first
      | exact Or.inl rfl
      | with_reducible exact Or.inr rfl
      | with_reducible exact fun w => ⟨w.1, w.2, w.3, w.4, w.5, w.6, w.7, w.8, w.9, w.10⟩
      | skip

theorem execCheckpointWrite_goes (s : State) :
    Goes 0x80000 s (execCheckpointWrite s) := by
  unfold execCheckpointWrite
  try dsimp only
  repeat' first
    | with_reducible apply Goes.next
    | with_reducible apply Goes.cond
    | with_reducible apply Touch.refl
    | ((with_reducible apply Touch.foldl); rotate_left; intro v a; try dsimp only)
    | ((with_reducible apply Touch.foldlFst); rotate_left; intro v a; try dsimp only)
    | with_reducible apply Touch.cond
    | split
    | (with_reducible apply Touch.update) <;> first
      | exact Or.inl rfl
      | with_reducible exact Or.inr rfl
      | with_reducible exact fun w => ⟨w.1, w.2, w.3, w.4, w.5, w.6, w.7, w.8, w.9, w.10⟩
      | skip

theorem execFailedStartClear_goes (s : State) :
    Goes 0x8000 s (execFailedStartClear s) := by
  unfold execFailedStartClear
  try dsimp only
  repeat' first
    | with_reducible apply Goes.next
    | with_reducible apply Goes.cond
    | with_reducible apply Touch.refl
    | ((with_reducible apply Touch.step); rotate_left; (first
        | with_reducible apply State.setRc_touch); exact rfl)
    | ((with_reducible apply Touch.foldl); rotate_left; intro v a; try dsimp only)
    | ((with_reducible apply Touch.foldlFst); rotate_left; intro v a; try dsimp only)
    | with_reducible apply Touch.cond
    | split
    | (with_reducible apply Touch.update) <;> first
      | exact Or.inl rfl
      | with_reducible exact Or.inr rfl
      | with_reducible exact fun w => ⟨w.1, w.2, w.3, w.4, w.5, w.6, w.7, w.8, w.9, w.10⟩
      | skip

end Sys2Proof.Machine
end

