-- ==== Sys2Proof/Laws/TouchHostQueue.lean ====
section
/-!
SUPPORT. What the operations of Machine/HostQueue.lean touch.
-/

namespace Sys2Proof.Machine

open Sys2Proof

theorem State.setQ_touch (s : State) (q : Nat) (f : CmdQueue → CmdQueue) :
    Touch 0x10000 s (s.setHq (fun x => x.setQ q f)) := by
  refine State.setHq_touch s _ ?_ ?_
  · exact upd_length _ _ _
  · exact fun h => h

theorem HostIf.unstall_queues (x : HostIf) (q : Nat) : (x.unstall q).queues.length = x.queues.length := by
  unfold HostIf.unstall
  split
  · exact upd_length _ _ _
  · rfl

theorem HostIf.unstall_ledger (x : HostIf) (q : Nat) : (x.unstall q).ledger = x.ledger := by
  unfold HostIf.unstall
  split <;> rfl

theorem State.settleDeletes_touch (s : State) (n : Nat) (b : Bool) :
    Touch 0x810000 s (s.withHost (HostSide.settleDeletes n b s.hostSide)) :=
  withHost_touch s ((HostTouch.refl _).settleDeletes n b)

theorem State.reject_touch (s : State) :
    Touch 0x10000 s (State.reject s) := by
  unfold State.reject
  try dsimp only
  repeat' first
    | with_reducible apply Touch.refl
    | ((with_reducible apply Touch.step); rotate_left; (with_reducible apply State.setHq_touch); (exact rfl; exact fun h => h); exact rfl)
    | ((with_reducible apply Touch.foldl); rotate_left; intro v a; try dsimp only)
    | ((with_reducible apply Touch.foldlFst); rotate_left; intro v a; try dsimp only)
    | with_reducible apply Touch.cond
    | split
    | (with_reducible apply Touch.update) <;> first
      | exact Or.inl rfl
      | with_reducible exact Or.inr rfl
      | with_reducible exact fun w => ⟨w.1, w.2, w.3, w.4, w.5, w.6, w.7, w.8, w.9, w.10⟩
      | skip

theorem State.overflow_touch (s : State) :
    Touch 0x814000 s (State.overflow s) := by
  unfold State.overflow
  dsimp only
  split
  · exact Touch.refl _ _
  · refine Touch.step (Touch.step (Touch.mono (State.setHq_touch s _ ?_ ?_) rfl)
      (withHost_touch _ ((HostTouch.refl _).postEvent _)) rfl) (State.setEv_touch _ _ ?_) rfl
    · rfl
    · exact fun h => h
    · exact fun h => Recorder.push_ring _ _ h

theorem State.deliverOne_touch (s : State) :
    Touch 0x810000 s (State.deliverOne s) := by
  unfold State.deliverOne
  split
  · exact Touch.refl _ _
  · rename_i e r he
    split
    · exact Touch.refl _ _
    · dsimp only
      refine Touch.step (Touch.mono (withHost_touch s ((HostTouch.refl _).postCompletion _ _ _ _ _ _ _)) rfl)
        (State.setHq_touch _ _ ?_ ?_) rfl
      · rfl
      · intro h
        have k : (s.withHost (s.hostSide.postCompletion 0 e.tag e.status (if s.standbyFlag then 3 else 1) e.queue e.sqIndex
            (e.result s.hq.ledgerLost))).hq.ledger = s.hq.ledger :=
          ((HostTouch.refl s.hostSide).postCompletion 0 e.tag e.status (if s.standbyFlag then 3 else 1) e.queue e.sqIndex
            (e.result s.hq.ledgerLost)).ledger
        rw [k, he, List.length_cons] at h
        exact Nat.le_of_succ_le h

theorem State.endCommands_touch (s : State) (gone : CmdHdr → Bool) (status : Nat) :
    Touch 0x830900 s (State.endCommands s gone status) := by
  unfold State.endCommands
  try dsimp only
  repeat' first
    | with_reducible apply Touch.refl
    | ((with_reducible apply Touch.step); rotate_left; (first
        | with_reducible apply State.forget_touch
        | with_reducible apply State.setSe_touch
        | with_reducible apply State.setPf_touch
        | with_reducible apply State.complete_touch); exact rfl)
    | ((with_reducible apply Touch.step); rotate_left; (with_reducible apply State.setHq_touch); (exact rfl; exact fun h => h); exact rfl)
    | ((with_reducible apply Touch.foldl); rotate_left; intro v a; try dsimp only)
    | ((with_reducible apply Touch.foldlFst); rotate_left; intro v a; try dsimp only)
    | with_reducible apply Touch.cond
    | split
    | (with_reducible apply Touch.update) <;> first
      | exact Or.inl rfl
      | with_reducible exact Or.inr rfl
      | with_reducible exact fun w => ⟨w.1, w.2, w.3, w.4, w.5, w.6, w.7, w.8, w.9, w.10⟩
      | skip

theorem execDevIdentify_goes (h : CmdHdr) (buf : Buf) (s : State) :
    Goes 0xa18000 s (execDevIdentify h buf s) := by
  unfold execDevIdentify
  try dsimp only
  repeat' first
    | with_reducible apply Goes.next
    | with_reducible apply Goes.cond
    | with_reducible apply Touch.refl
    | ((with_reducible apply State.start_touch); exact rfl; intro v; try dsimp only)
    | ((with_reducible apply Touch.step); rotate_left; (first
        | with_reducible apply State.done_touch
        | with_reducible apply State.bufWrite_touch); exact rfl)
    | ((with_reducible apply Touch.foldl); rotate_left; intro v a; try dsimp only)
    | ((with_reducible apply Touch.foldlFst); rotate_left; intro v a; try dsimp only)
    | with_reducible apply Touch.cond
    | split
    | (with_reducible apply Touch.update) <;> first
      | exact Or.inl rfl
      | with_reducible exact Or.inr rfl
      | with_reducible exact fun w => ⟨w.1, w.2, w.3, w.4, w.5, w.6, w.7, w.8, w.9, w.10⟩
      | skip

theorem execDevCaps_goes (h : CmdHdr) (buf : Buf) (s : State) :
    Goes 0xa18000 s (execDevCaps h buf s) := by
  unfold execDevCaps
  try dsimp only
  repeat' first
    | with_reducible apply Goes.next
    | with_reducible apply Goes.cond
    | with_reducible apply Touch.refl
    | ((with_reducible apply State.start_touch); exact rfl; intro v; try dsimp only)
    | ((with_reducible apply Touch.step); rotate_left; (first
        | with_reducible apply State.done_touch
        | with_reducible apply State.bufWrite_touch); exact rfl)
    | ((with_reducible apply Touch.foldl); rotate_left; intro v a; try dsimp only)
    | ((with_reducible apply Touch.foldlFst); rotate_left; intro v a; try dsimp only)
    | with_reducible apply Touch.cond
    | split
    | (with_reducible apply Touch.update) <;> first
      | exact Or.inl rfl
      | with_reducible exact Or.inr rfl
      | with_reducible exact fun w => ⟨w.1, w.2, w.3, w.4, w.5, w.6, w.7, w.8, w.9, w.10⟩
      | skip

theorem execQueueCreate_goes (h : CmdHdr) (qid vec coalCnt coalUs sqBase cqBase sqN cqN : Nat) (s : State) :
    Goes 0x818000 s (execQueueCreate h qid vec coalCnt coalUs sqBase cqBase sqN cqN s) := by
  unfold execQueueCreate
  refine Goes.next (State.start_touch s h _ _ rfl ?_)
  intro v
  refine Touch.step (Touch.step (Touch.mono (State.setQ_touch v qid _) rfl)
    (withHost_touch _ (((HostTouch.refl _).writeBack _ _).writeBack _ _)) rfl) (State.done_touch _ _ _ _) rfl

theorem execQueueDelete_goes (h : CmdHdr) (qid : Nat) (s : State) :
    Goes 0x818000 s (execQueueDelete h qid s) := by
  unfold execQueueDelete
  refine Goes.next (State.start_touch s h _ _ rfl ?_)
  intro v
  exact Touch.step (Touch.step (Touch.mono (State.setQ_touch v qid _) rfl) (State.await_touch _ _ _ _) rfl)
    (State.settleDeletes_touch _ _ _) rfl

theorem execBootstrapEnable_goes (s : State) :
    Goes 0x810000 s (execBootstrapEnable s) := by
  unfold execBootstrapEnable
  with_reducible apply Goes.cond
  · exact Goes.next (Touch.refl _ _)
  with_reducible apply Goes.cond
  · refine Goes.next (Touch.step (Touch.mono (State.setHq_four s HostIf.boot ?_ ?_) rfl)
      (withHost_touch _ ((HostTouch.refl _).write _ _)) rfl)
    · exact fun _ => rfl
    · exact fun h => h
  · refine Goes.next (Touch.mono (State.setHq_touch s _ ?_ ?_) rfl)
    · rfl
    · exact fun h => h

theorem execBootstrapDisable_goes (s : State) :
    Goes 0x30800 s (execBootstrapDisable s) := by
  unfold execBootstrapDisable
  with_reducible apply Goes.cond
  · exact Goes.next (Touch.refl _ _)
  · refine Goes.next (Touch.step (Touch.mono (State.setHq_four s _ ?_ ?_) rfl) (State.forgetHost_touch _) rfl)
    · exact fun _ => rfl
    · exact fun h => h

theorem execSqTail_goes (q : Nat) (data : Reg) (s : State) :
    Goes 0x10000 s (execSqTail q data s) := by
  unfold execSqTail
  extract_lets d c
  with_reducible apply Goes.cond
  · exact Goes.next (Touch.refl _ _)
  with_reducible apply Goes.cond
  · exact Goes.next ((State.setQ_touch s q _).mono rfl)
  · exact Goes.next ((State.reject_touch s).mono rfl)

theorem execCqHead_goes (q : Nat) (data : Reg) (s : State) :
    Goes 0x10000 s (execCqHead q data s) := by
  unfold execCqHead
  extract_lets d c
  with_reducible apply Goes.cond
  · exact Goes.next (Touch.refl _ _)
  with_reducible apply Goes.cond
  · refine Goes.next ((State.setHq_touch s _ ?_ ?_).mono rfl)
    · rw [HostIf.unstall_queues]
      exact upd_length _ _ _
    · rw [HostIf.unstall_ledger]
      exact fun h => h
  · exact Goes.next ((State.reject_touch s).mono rfl)

theorem execEqHead_goes (data : Reg) (s : State) :
    Goes 0x814000 s (execEqHead data s) := by
  unfold execEqHead
  try dsimp only
  repeat' first
    | with_reducible apply Goes.next
    | with_reducible apply Goes.cond
    | with_reducible apply Touch.refl
    | ((with_reducible apply Touch.step); rotate_left; (first
        | with_reducible apply State.overflow_touch
        | with_reducible apply State.reject_touch); exact rfl)
    | ((with_reducible apply Touch.step); rotate_left; (with_reducible apply State.setHq_touch); (exact rfl; exact fun h => h); exact rfl)
    | ((with_reducible apply Touch.foldl); rotate_left; intro v a; try dsimp only)
    | ((with_reducible apply Touch.foldlFst); rotate_left; intro v a; try dsimp only)
    | with_reducible apply Touch.cond
    | split
    | (with_reducible apply Touch.update) <;> first
      | exact Or.inl rfl
      | with_reducible exact Or.inr rfl
      | with_reducible exact fun w => ⟨w.1, w.2, w.3, w.4, w.5, w.6, w.7, w.8, w.9, w.10⟩
      | skip

theorem execCqStall_goes (q : Nat) (s : State) :
    Goes 0x10000 s (execCqStall q s) := by
  unfold execCqStall
  refine Goes.next (Touch.cond ?_ (Touch.refl _ _))
  exact (State.setQ_touch s q _).mono rfl

theorem execEqStall_goes (s : State) :
    Goes 0x10000 s (execEqStall s) := by
  unfold execEqStall
  try dsimp only
  repeat' first
    | with_reducible apply Goes.next
    | with_reducible apply Goes.cond
    | with_reducible apply Touch.refl
    | ((with_reducible apply Touch.step); rotate_left; (with_reducible apply State.setHq_touch); (exact rfl; exact fun h => h); exact rfl)
    | ((with_reducible apply Touch.foldl); rotate_left; intro v a; try dsimp only)
    | ((with_reducible apply Touch.foldlFst); rotate_left; intro v a; try dsimp only)
    | with_reducible apply Touch.cond
    | split
    | (with_reducible apply Touch.update) <;> first
      | exact Or.inl rfl
      | with_reducible exact Or.inr rfl
      | with_reducible exact fun w => ⟨w.1, w.2, w.3, w.4, w.5, w.6, w.7, w.8, w.9, w.10⟩
      | skip

theorem execMsixCoalesceTimeout_goes (q : Nat) (s : State) :
    Goes 0x810000 s (execMsixCoalesceTimeout q s) := by
  unfold execMsixCoalesceTimeout
  with_reducible apply Goes.cond
  · exact Goes.next (Touch.refl _ _)
  with_reducible apply Goes.cond
  · refine Goes.next (Touch.cond ?_ (Touch.refl _ _))
    refine Touch.step (Touch.mono (State.setHq_touch s _ ?_ ?_) rfl) (withHost_touch _ ((HostTouch.refl _).msix _)) rfl
    · rfl
    · exact fun h => h
  · refine Goes.next (Touch.cond ?_ (Touch.refl _ _))
    exact Touch.step (Touch.mono (State.setQ_touch s q _) rfl) (withHost_touch _ ((HostTouch.refl _).msix _)) rfl

theorem execLedgerDelivery_goes (s : State) :
    Goes 0x810000 s (execLedgerDelivery s) := by
  unfold execLedgerDelivery
  try dsimp only
  repeat' first
    | with_reducible apply Goes.next
    | with_reducible apply Goes.cond
    | with_reducible apply Touch.refl
    | ((with_reducible apply Touch.step); rotate_left; (first
        | with_reducible apply State.deliverOne_touch); exact rfl)
    | ((with_reducible apply Touch.foldl); rotate_left; intro v a; try dsimp only)
    | ((with_reducible apply Touch.foldlFst); rotate_left; intro v a; try dsimp only)
    | with_reducible apply Touch.cond
    | split
    | (with_reducible apply Touch.update) <;> first
      | exact Or.inl rfl
      | with_reducible exact Or.inr rfl
      | with_reducible exact fun w => ⟨w.1, w.2, w.3, w.4, w.5, w.6, w.7, w.8, w.9, w.10⟩
      | skip

theorem execDmaErr_goes (target : DmaTarget) (fail : DmaFail) (s : State) :
    Goes 0x830900 s (execDmaErr target fail s) := by
  unfold execDmaErr
  extract_lets v
  have hv : Touch 0x10000 s v := by
    refine State.setHq_touch s _ ?_ ?_
    · rfl
    · exact fun h => h
  clear_value v
  split
  · with_reducible apply Goes.cond
    · exact Goes.next (hv.mono rfl)
    · refine Goes.next (Touch.step (Touch.step (Touch.mono hv rfl) (State.setHq_touch v _ ?_ ?_) rfl)
        (State.endCommands_touch _ _ _) rfl)
      · exact upd_length _ _ _
      · exact fun h => h
  · with_reducible apply Goes.cond
    · exact Goes.next (hv.mono rfl)
    · refine Goes.next (Touch.step (Touch.mono hv rfl) (State.setHq_touch v _ ?_ ?_) rfl)
      · rfl
      · exact fun h => h
  · exact Goes.next (Touch.step (Touch.mono hv rfl) (State.endCommands_touch _ _ _) rfl)

theorem execBadAccess_goes (read : Bool) (addr : Nat) (s : State) :
    Goes 0x810000 s (execBadAccess read addr s) := by
  unfold execBadAccess
  try dsimp only
  repeat' first
    | with_reducible apply Goes.next
    | with_reducible apply Goes.cond
    | with_reducible apply Touch.refl
    | ((with_reducible apply Touch.step); rotate_left; (with_reducible apply State.setHq_touch); (exact rfl; exact fun h => h); exact rfl)
    | ((with_reducible apply Touch.step); rotate_left; (with_reducible apply State.emit_touch); (exact rfl); exact rfl)
    | ((with_reducible apply Touch.foldl); rotate_left; intro v a; try dsimp only)
    | ((with_reducible apply Touch.foldlFst); rotate_left; intro v a; try dsimp only)
    | with_reducible apply Touch.cond
    | split
    | (with_reducible apply Touch.update) <;> first
      | exact Or.inl rfl
      | with_reducible exact Or.inr rfl
      | with_reducible exact fun w => ⟨w.1, w.2, w.3, w.4, w.5, w.6, w.7, w.8, w.9, w.10⟩
      | skip

theorem execBar4Access_goes (write : Bool) (off n : Nat) (data : Bytes) (s : State) :
    Goes 0xa10000 s (execBar4Access write off n data s) := by
  unfold execBar4Access
  extract_lets ring
  with_reducible apply Goes.cond
  · exact Goes.next ((State.emit_touch s _).mono rfl)
  with_reducible apply Goes.cond
  · refine Goes.next ?_
    with_reducible apply Touch.update (Touch.refl _ s)
    case hw => exact fun w => ⟨w.1, w.2, w.3, w.4, w.5, w.6, w.7, w.8, w.9, Mem.writeN_wf 0 _ _ _ w.10⟩
    all_goals first
      | exact Or.inl rfl
      | with_reducible exact Or.inr rfl
  · refine Goes.next (Touch.mono (State.setHq_touch s _ ?_ ?_) rfl)
    · rfl
    · exact fun h => h

theorem execPcieLinkUp_goes (speed width : Nat) (flit busMaster msixEnable : Bool) (s : State) :
    Goes 0x10000 s (execPcieLinkUp speed width flit busMaster msixEnable s) := by
  unfold execPcieLinkUp
  try dsimp only
  repeat' first
    | with_reducible apply Goes.next
    | with_reducible apply Goes.cond
    | with_reducible apply Touch.refl
    | ((with_reducible apply Touch.step); rotate_left; (with_reducible apply State.setHq_touch); (exact rfl; exact fun h => h); exact rfl)
    | ((with_reducible apply Touch.foldl); rotate_left; intro v a; try dsimp only)
    | ((with_reducible apply Touch.foldlFst); rotate_left; intro v a; try dsimp only)
    | with_reducible apply Touch.cond
    | split
    | (with_reducible apply Touch.update) <;> first
      | exact Or.inl rfl
      | with_reducible exact Or.inr rfl
      | with_reducible exact fun w => ⟨w.1, w.2, w.3, w.4, w.5, w.6, w.7, w.8, w.9, w.10⟩
      | skip

theorem HostIf.arbitrate_kept {x y : HostIf} {q : Nat} (h : x.arbitrate = some (q, y)) :
    y.queues = x.queues ∧ y.ledger = x.ledger := by
  unfold HostIf.arbitrate at h
  extract_lets at h
  repeat' split at h
  all_goals first
    | (cases h; exact ⟨rfl, rfl⟩)
    | cases h

theorem runOp_goes (op : Nat) (h : CmdHdr) (b : Bytes) (s : State) : Goes 0xeffffe s (runOp op h b s) := by
  unfold runOp
  extract_lets buf x
  clear_value buf x
  repeat' first
    | with_reducible apply Goes.cond
    | ((with_reducible apply Goes.mono); (with_reducible apply execDevIdentify_goes); exact rfl)
    | ((with_reducible apply Goes.mono); (with_reducible apply execDevCaps_goes); exact rfl)
    | ((with_reducible apply Goes.mono); (with_reducible apply execQueueCreate_goes); exact rfl)
    | ((with_reducible apply Goes.mono); (with_reducible apply execQueueDelete_goes); exact rfl)
    | ((with_reducible apply Goes.mono); (with_reducible apply execLoopOpen_goes); exact rfl)
    | ((with_reducible apply Goes.mono); (with_reducible apply execLoopClose_goes); exact rfl)
    | ((with_reducible apply Goes.mono); (with_reducible apply execLoopLoad_goes); exact rfl)
    | ((with_reducible apply Goes.mono); (with_reducible apply execLoopRead_goes); exact rfl)
    | ((with_reducible apply Goes.mono); (with_reducible apply execLoopSchedule_goes); exact rfl)
    | ((with_reducible apply Goes.mono); (with_reducible apply execGroupEnable_goes); exact rfl)
    | ((with_reducible apply Goes.mono); (with_reducible apply execGroupQuench_goes); exact rfl)
    | ((with_reducible apply Goes.mono); (with_reducible apply execBusVset_goes); exact rfl)
    | ((with_reducible apply Goes.mono); (with_reducible apply execCellRetire_goes); exact rfl)
    | ((with_reducible apply Goes.mono); (with_reducible apply execCellRestore_goes); exact rfl)
    | ((with_reducible apply Goes.mono); (with_reducible apply execStoreMode_goes); exact rfl)
    | ((with_reducible apply Goes.mono); (with_reducible apply execPlanLimits_goes); exact rfl)
    | ((with_reducible apply Goes.mono); (with_reducible apply execPlanLoad_goes); exact rfl)
    | ((with_reducible apply Goes.mono); (with_reducible apply execProfileStart_goes); exact rfl)
    | ((with_reducible apply Goes.mono); (with_reducible apply execProfileStop_goes); exact rfl)
    | ((with_reducible apply Goes.mono); (with_reducible apply execProfileClear_goes); exact rfl)
    | ((with_reducible apply Goes.mono); (with_reducible apply execProfileSet_goes); exact rfl)
    | ((with_reducible apply Goes.mono); (with_reducible apply execBudgetSet_goes); exact rfl)
    | ((with_reducible apply Goes.mono); (with_reducible apply execGovMode_goes); exact rfl)
    | ((with_reducible apply Goes.mono); (with_reducible apply execGrantMode_goes); exact rfl)
    | ((with_reducible apply Goes.mono); (with_reducible apply execKeyLoad_goes); exact rfl)
    | ((with_reducible apply Goes.mono); (with_reducible apply execCaptureArm_goes); exact rfl)
    | ((with_reducible apply Goes.mono); (with_reducible apply execCaptureTrigger_goes); exact rfl)
    | ((with_reducible apply Goes.mono); (with_reducible apply execCaptureFreeze_goes); exact rfl)
    | ((with_reducible apply Goes.mono); (with_reducible apply execCaptureRelease_goes); exact rfl)
    | ((with_reducible apply Goes.mono); (with_reducible apply execCaptureRead_goes); exact rfl)
    | ((with_reducible apply Goes.mono); (with_reducible apply execLogRead_goes); exact rfl)
    | ((with_reducible apply Goes.mono); (with_reducible apply execLogClear_goes); exact rfl)
    | ((with_reducible apply Goes.mono); (with_reducible apply execCalRead_goes); exact rfl)
    | ((with_reducible apply Goes.mono); (with_reducible apply execCalWrite_goes); exact rfl)
    | ((with_reducible apply Goes.mono); (with_reducible apply execAssay_goes); exact rfl)
    | ((with_reducible apply Goes.mono); (with_reducible apply execImageStage_goes); exact rfl)
    | ((with_reducible apply Goes.mono); (with_reducible apply execImageCommit_goes); exact rfl)
    | ((with_reducible apply Goes.mono); (with_reducible apply execBlockReset_goes); exact rfl)
    | ((with_reducible apply Goes.mono); (with_reducible apply execReset_goes); exact rfl)
    | ((with_reducible apply Goes.mono); (with_reducible apply execTimeSet_goes); exact rfl)
    | ((with_reducible apply Goes.mono); (with_reducible apply execTakeoverForce_goes); exact rfl)
    | ((with_reducible apply Goes.mono); (with_reducible apply execTakeover_goes); exact rfl)
    | with_reducible exact Goes.next (Touch.refl _ _)
    | exact Goes.next ((State.complete_touch _ _ _ _).mono rfl)

theorem State.runEntry_touch (s : State) (p : Parked) : Touch 0xeffffe s (State.runEntry s p) := by
  have key : ∀ v op, Touch 0xeffffe v (match runOp op p.hdr p.entry v with
      | .next t => t
      | _ => v) := by
    intro v op
    obtain ⟨t, e, h⟩ := runOp_goes op p.hdr p.entry v
    rw [e]
    exact h
  unfold State.runEntry
  extract_lets op v w
  have hv : Touch 0xeffffe s v := by
    refine Touch.mono (State.setHq_touch s _ ?_ ?_) rfl
    · rfl
    · exact fun h => h
  have hw : Touch 0xeffffe s w := by
    refine hv.step (G := 0xeffffe) ?_ rfl
    show Touch 0xeffffe v (match opParams op p.entry with
      | none => v.complete p.hdr stBadOpcode 0
      | some ps => match reservedByte op p.entry ps with
        | some k => v.complete p.hdr stBadParam k
        | none => match runOp op p.hdr p.entry v with
          | .next t => t
          | _ => v)
    split
    · exact (State.complete_touch v _ _ _).mono rfl
    · split
      · exact (State.complete_touch v _ _ _).mono rfl
      · exact key v op
  clear_value w
  refine hw.step (State.setHq_touch w _ ?_ ?_) rfl
  · rfl
  · exact fun h => h

theorem State.startParked_touch (n : Nat) (s : State) : Touch 0xeffffe s (State.startParked n s) := by
  induction n generalizing s with
  | zero => exact Touch.refl _ _
  | succ n ih =>
    unfold State.startParked
    split
    · exact Touch.refl _ _
    · refine Touch.step (Touch.step (Touch.mono (State.setHq_touch s _ ?_ ?_) rfl) (State.runEntry_touch _ _) rfl) (ih _) rfl
      · rfl
      · exact fun h => h

theorem execCommandFetch_goes (s : State) : Goes 0xeffffe s (execCommandFetch s) := by
  unfold execCommandFetch
  with_reducible apply Goes.cond
  · exact Goes.next (Touch.refl _ _)
  have h0 := State.startParked_touch 256 s
  generalize State.startParked 256 s = v at h0
  dsimp only
  split
  · exact Goes.next h0
  · rename_i q x hx
    have hk := HostIf.arbitrate_kept hx
    have h1 : Touch 0xeffffe s ({ v with hq := { x.setQ q (fun c => { c with
        sqHead := ((nth x.queues q {}).sqHead + 1) % (nth x.queues q {}).sqN }) with fetchNo := x.fetchNo + 1 } }) := by
      refine h0.step (G := 0x10000) ?_ rfl
      refine State.setHq_touch v (fun _ => { x.setQ q (fun c => { c with
        sqHead := ((nth x.queues q {}).sqHead + 1) % (nth x.queues q {}).sqN }) with fetchNo := x.fetchNo + 1 }) ?_ ?_
      · exact (upd_length _ _ _).trans (congrArg List.length hk.1)
      · intro h
        rw [← hk.2] at h
        exact h
    have h2 := h1.step (withHost_touch _ ((HostTouch.refl _).writeBack (0x20 + 4 * q)
      (((nth x.queues q {}).sqHead + 1) % (nth x.queues q {}).sqN))) rfl
    with_reducible apply Goes.cond
    · exact Goes.next (h2.step (State.runEntry_touch _ _) rfl)
    · refine Goes.next (h2.step (State.setHq_touch _ _ ?_ ?_) rfl)
      · rfl
      · exact fun h => h

end Sys2Proof.Machine
end

