-- ==== Sys2Proof/Laws/TouchRegisters.lean ====
section
/-!
SUPPORT. What the operations of Machine/Registers.lean touch.
-/

namespace Sys2Proof.Machine

open Sys2Proof

theorem HostIf.ite_field {α : Type} (f : HostIf → α) {c : Prop} [Decidable c] {a b : HostIf} {x : α} (ha : f a = x)
    (hb : f b = x) : f (if c then a else b) = x := by
  split <;> assumption

theorem HostIf.bootWrite_queues (q : HostIf) (off : Nat) (v : Reg) : (q.bootWrite off v).queues = q.queues := by
  unfold HostIf.bootWrite
  repeat' (with_reducible apply HostIf.ite_field HostIf.queues)
  all_goals with_reducible rfl

theorem HostIf.bootWrite_ledger (q : HostIf) (off : Nat) (v : Reg) : (q.bootWrite off v).ledger = q.ledger := by
  unfold HostIf.bootWrite
  repeat' (with_reducible apply HostIf.ite_field HostIf.ledger)
  all_goals with_reducible rfl

theorem State.bootWrite_touch (s : State) (off : Nat) (v : Reg) : Touch 0x10000 s (s.setHq (fun q => q.bootWrite off v)) := by
  refine State.setHq_touch s _ (congrArg List.length (HostIf.bootWrite_queues _ off v)) ?_
  rw [HostIf.bootWrite_ledger]
  exact fun h => h

theorem State.afterRead_touch (s : State) (a : Nat) :
    Touch 0xf0 s (State.afterRead s a) := by
  unfold State.afterRead
  try dsimp only
  repeat' first
    | with_reducible apply Touch.refl
    | ((with_reducible apply Touch.step); rotate_left; (first
        | with_reducible apply State.setSlot_touch
        | with_reducible apply State.setSig_touch); exact rfl)
    | ((with_reducible apply Touch.foldl); rotate_left; intro v a; try dsimp only)
    | ((with_reducible apply Touch.foldlFst); rotate_left; intro v a; try dsimp only)
    | with_reducible apply Touch.cond
    | split
    | (with_reducible apply Touch.update) <;> first
      | exact Or.inl rfl
      | with_reducible exact Or.inr rfl
      | with_reducible exact fun w => ⟨w.1, w.2, w.3, w.4, w.5, w.6, w.7, w.8, w.9, w.10⟩
      | skip

theorem State.msixWrite_touch (s : State) (off : Nat) (v : Reg) :
    Touch 0x810000 s (State.msixWrite s off v) := by
  unfold State.msixWrite
  dsimp only
  have ht : Touch 0x10000 s (s.setHq (fun q => { q with msix := upd q.msix (off / 16) (fun m =>
      if off % 16 / 4 = 0 then { m with addrLo := v } else if off % 16 / 4 = 1 then { m with addrHi := v }
      else if off % 16 / 4 = 2 then { m with data := v } else { m with ctl := BitVec.ofNat 32 (v.toNat % 2) }) })) := by
    refine State.setHq_touch s _ ?_ ?_
    · rfl
    · exact fun h => h
  revert ht
  generalize s.setHq _ = t
  intro ht
  split
  · have hw : Touch 0x10000 t (t.setHq (fun q => { q with pba := setBit q.pba (off / 16) false })) := by
      refine State.setHq_touch t _ ?_ ?_
      · rfl
      · exact fun h => h
    revert hw
    generalize State.setHq t _ = w
    intro hw
    split
    · exact ((ht.step hw rfl).mono rfl).step (withHost_touch _ ((HostTouch.refl _).msix _)) rfl
    · exact (ht.step hw rfl).mono rfl
  · exact ht.mono rfl

theorem State.regWrite_touch (s : State) (a : Nat) (v : Reg) :
    Touch 0x830000 s (State.regWrite s a v) := by
  unfold State.regWrite
  with_reducible apply Touch.cond
  · with_reducible apply Touch.cond
    · exact (State.setSe_touch s _).mono rfl
    · with_reducible exact Touch.refl _ _
  with_reducible apply Touch.cond
  · with_reducible exact Touch.refl _ _
  with_reducible apply Touch.cond
  · with_reducible apply Touch.cond
    · with_reducible exact Touch.refl _ _
    · exact (State.bootWrite_touch s (a - 0x00200000) v).mono rfl
  with_reducible apply Touch.cond
  · exact (State.msixWrite_touch s (a - 0x00208000) v).mono rfl
  · with_reducible exact Touch.refl _ _

theorem State.clearBits_touch (s : State) (a c : Nat) :
    Touch 0x6dbb8 s (State.clearBits s a c) := by
  unfold State.clearBits
  try dsimp only
  repeat' first
    | with_reducible apply Touch.refl
    | ((with_reducible apply Touch.step); rotate_left; (first
        | with_reducible apply State.setSlot_touch
        | with_reducible apply State.setPort_touch
        | with_reducible apply State.setTeth_touch
        | with_reducible apply State.setPl_touch
        | with_reducible apply State.setPf_touch
        | with_reducible apply State.setGv_touch
        | with_reducible apply State.setCr_touch
        | with_reducible apply State.setRc_touch
        | with_reducible apply State.setSe_touch
        | with_reducible apply State.setPins_touch); exact rfl)
    | ((with_reducible apply Touch.step); rotate_left; (with_reducible apply State.setEv_touch); (exact fun h => h); exact rfl)
    | ((with_reducible apply Touch.foldl); rotate_left; intro v a; try dsimp only)
    | ((with_reducible apply Touch.foldlFst); rotate_left; intro v a; try dsimp only)
    | with_reducible apply Touch.cond
    | split
    | (with_reducible apply Touch.update) <;> first
      | exact Or.inl rfl
      | with_reducible exact Or.inr rfl
      | with_reducible exact fun w => ⟨w.1, w.2, w.3, w.4, w.5, w.6, w.7, w.8, w.9, w.10⟩
      | exact fun w => ⟨by first | exact w.1 | simpa using w.1, by first | exact w.2 | simpa using w.2,
          by first | exact w.3 | simpa using w.3, by first | exact w.4 | simpa [upd_length] using w.4, w.5, w.6, w.7, w.8, w.9, w.10⟩
      | skip

theorem execLoRead_goes (addr : Nat) (whole : Bool) (s : State) :
    Goes 0x8101f0 s (execLoRead addr whole s) := by
  unfold execLoRead
  try dsimp only
  repeat' first
    | with_reducible apply Goes.next
    | with_reducible apply Goes.cond
    | ((with_reducible apply Goes.mono); (with_reducible apply execProfileTableRead_goes); exact rfl)
    | with_reducible apply Touch.refl
    | ((with_reducible apply Touch.step); rotate_left; (first
        | with_reducible apply State.setSlot_touch
        | with_reducible apply State.afterRead_touch); exact rfl)
    | ((with_reducible apply Touch.step); rotate_left; (with_reducible apply State.emit_touch); (exact rfl); exact rfl)
    | ((with_reducible apply Touch.step); rotate_left; (with_reducible apply State.setHq_touch); (exact rfl; exact fun h => h); exact rfl)
    | ((with_reducible apply Touch.foldl); rotate_left; intro v a; try dsimp only)
    | ((with_reducible apply Touch.foldlFst); rotate_left; intro v a; try dsimp only)
    | with_reducible apply Touch.cond
    | split
    | (with_reducible apply Touch.update) <;> first
      | exact Or.inl rfl
      | with_reducible exact Or.inr rfl
      | with_reducible exact fun w => ⟨w.1, w.2, w.3, w.4, w.5, w.6, w.7, w.8, w.9, w.10⟩
      | skip

theorem execRegisterWrite_goes (addr : Nat) (data : Reg) (high : Option Reg) (s : State) :
    Goes 0x830000 s (execRegisterWrite addr data high s) := by
  unfold execRegisterWrite
  try dsimp only
  repeat' first
    | with_reducible apply Goes.next
    | with_reducible apply Goes.cond
    | with_reducible apply Touch.refl
    | ((with_reducible apply Touch.step); rotate_left; (first
        | with_reducible apply State.regWrite_touch); exact rfl)
    | ((with_reducible apply Touch.foldl); rotate_left; intro v a; try dsimp only)
    | ((with_reducible apply Touch.foldlFst); rotate_left; intro v a; try dsimp only)
    | with_reducible apply Touch.cond
    | split
    | (with_reducible apply Touch.update) <;> first
      | exact Or.inl rfl
      | with_reducible exact Or.inr rfl
      | with_reducible exact fun w => ⟨w.1, w.2, w.3, w.4, w.5, w.6, w.7, w.8, w.9, w.10⟩
      | skip

theorem execW1cWrite_goes (addr : Nat) (data kept : Reg) (s : State) :
    Goes 0x6dbb8 s (execW1cWrite addr data kept s) := by
  unfold execW1cWrite
  try dsimp only
  repeat' first
    | with_reducible apply Goes.next
    | with_reducible apply Goes.cond
    | with_reducible apply Touch.refl
    | ((with_reducible apply Touch.step); rotate_left; (first
        | with_reducible apply State.clearBits_touch); exact rfl)
    | ((with_reducible apply Touch.foldl); rotate_left; intro v a; try dsimp only)
    | ((with_reducible apply Touch.foldlFst); rotate_left; intro v a; try dsimp only)
    | with_reducible apply Touch.cond
    | split
    | (with_reducible apply Touch.update) <;> first
      | exact Or.inl rfl
      | with_reducible exact Or.inr rfl
      | with_reducible exact fun w => ⟨w.1, w.2, w.3, w.4, w.5, w.6, w.7, w.8, w.9, w.10⟩
      | skip

end Sys2Proof.Machine
end

