-- ==== Sys2Proof/Laws/Exec.lean ====
section
/-!
SUPPORT. Every command answers a next state; what commands and steps keep.
-/

namespace Sys2Proof.Machine

open Sys2Proof

theorem exec_goes (c : Instr) (s : State) : Goes 0xeffffe s (exec c s) := by
  cases c with
  | devIdentify h buf => exact Goes.mono (execDevIdentify_goes h buf s) rfl
  | devCaps h buf => exact Goes.mono (execDevCaps_goes h buf s) rfl
  | queueCreate h qid vec coalCnt coalUs sqBase cqBase sqN cqN => exact Goes.mono (execQueueCreate_goes h qid vec coalCnt coalUs sqBase cqBase sqN cqN s) rfl
  | queueDelete h qid => exact Goes.mono (execQueueDelete_goes h qid s) rfl
  | loopOpen h slot => exact Goes.mono (execLoopOpen_goes h slot s) rfl
  | loopClose h slot preload value => exact Goes.mono (execLoopClose_goes h slot preload value s) rfl
  | loopLoad h buf count => exact Goes.mono (execLoopLoad_goes h buf count s) rfl
  | loopRead h buf first count => exact Goes.mono (execLoopRead_goes h buf first count s) rfl
  | loopSchedule h buf count => exact Goes.mono (execLoopSchedule_goes h buf count s) rfl
  | groupEnable h group => exact Goes.mono (execGroupEnable_goes h group s) rfl
  | groupQuench h group => exact Goes.mono (execGroupQuench_goes h group s) rfl
  | busVset h vset slew => exact Goes.mono (execBusVset_goes h vset slew s) rfl
  | cellRetire h port => exact Goes.mono (execCellRetire_goes h port s) rfl
  | cellRestore h port clear => exact Goes.mono (execCellRestore_goes h port clear s) rfl
  | storeMode h mode => exact Goes.mono (execStoreMode_goes h mode s) rfl
  | planLimits h buf => exact Goes.mono (execPlanLimits_goes h buf s) rfl
  | planLoad h buf count binExp actMode weight timeoutMs actTime => exact Goes.mono (execPlanLoad_goes h buf count binExp actMode weight timeoutMs actTime s) rfl
  | profileStart h set => exact Goes.mono (execProfileStart_goes h set s) rfl
  | profileStop h => exact Goes.mono (execProfileStop_goes h s) rfl
  | profileClear h => exact Goes.mono (execProfileClear_goes h s) rfl
  | profileSet h set => exact Goes.mono (execProfileSet_goes h set s) rfl
  | budgetSet h budgetW validMs => exact Goes.mono (execBudgetSet_goes h budgetW validMs s) rfl
  | govMode h setting value => exact Goes.mono (execGovMode_goes h setting value s) rfl
  | grantMode h value => exact Goes.mono (execGrantMode_goes h value s) rfl
  | keyLoad h buf => exact Goes.mono (execKeyLoad_goes h buf s) rfl
  | captureArm h buf count => exact Goes.mono (execCaptureArm_goes h buf count s) rfl
  | captureTrigger h => exact Goes.mono (execCaptureTrigger_goes h s) rfl
  | captureFreeze h => exact Goes.mono (execCaptureFreeze_goes h s) rfl
  | captureRelease h => exact Goes.mono (execCaptureRelease_goes h s) rfl
  | captureRead h buf channel start count => exact Goes.mono (execCaptureRead_goes h buf channel start count s) rfl
  | logRead h buf source flush start count => exact Goes.mono (execLogRead_goes h buf source flush start count s) rfl
  | logClear h buf => exact Goes.mono (execLogClear_goes h buf s) rfl
  | calRead h buf => exact Goes.mono (execCalRead_goes h buf s) rfl
  | calWrite h buf => exact Goes.mono (execCalWrite_goes h buf s) rfl
  | assay h mask => exact Goes.mono (execAssay_goes h mask s) rfl
  | imageStage h buf => exact Goes.mono (execImageStage_goes h buf s) rfl
  | imageCommit h activate => exact Goes.mono (execImageCommit_goes h activate s) rfl
  | imageActivate => exact Goes.mono (execImageActivate_goes s) rfl
  | reset h scope => exact Goes.mono (execReset_goes h scope s) rfl
  | blockReset h block => exact Goes.mono (execBlockReset_goes h block s) rfl
  | timeSet h role domain setTime timeNs => exact Goes.mono (execTimeSet_goes h role domain setTime timeNs s) rfl
  | takeover h => exact Goes.mono (execTakeover_goes h s) rfl
  | takeoverForce h => exact Goes.mono (execTakeoverForce_goes h s) rfl
  | commandFetch => exact Goes.mono (execCommandFetch_goes s) rfl
  | sqTail q data => exact Goes.mono (execSqTail_goes q data s) rfl
  | cqHead q data => exact Goes.mono (execCqHead_goes q data s) rfl
  | eqHead data => exact Goes.mono (execEqHead_goes data s) rfl
  | bootstrapEnable => exact Goes.mono (execBootstrapEnable_goes s) rfl
  | bootstrapDisable => exact Goes.mono (execBootstrapDisable_goes s) rfl
  | ledgerDelivery => exact Goes.mono (execLedgerDelivery_goes s) rfl
  | msixCoalesceTimeout q => exact Goes.mono (execMsixCoalesceTimeout_goes q s) rfl
  | cqStall q => exact Goes.mono (execCqStall_goes q s) rfl
  | eqStall => exact Goes.mono (execEqStall_goes s) rfl
  | dmaErr target fail => exact Goes.mono (execDmaErr_goes target fail s) rfl
  | badAccess read addr => exact Goes.mono (execBadAccess_goes read addr s) rfl
  | bar4Access write off n data => exact Goes.mono (execBar4Access_goes write off n data s) rfl
  | registerWrite addr data high => exact Goes.mono (execRegisterWrite_goes addr data high s) rfl
  | w1cWrite addr data kept => exact Goes.mono (execW1cWrite_goes addr data kept s) rfl
  | loRead addr whole => exact Goes.mono (execLoRead_goes addr whole s) rfl
  | leTaperFrac slot => exact Goes.mono (execLeTaperFrac_goes slot s) rfl
  | profileTableRead off wide => exact Goes.mono (execProfileTableRead_goes off wide s) rfl
  | tmMin sig => exact Goes.mono (execTmMin_goes sig s) rfl
  | tmMax sig => exact Goes.mono (execTmMax_goes sig s) rfl
  | ptBusVset data => exact Goes.mono (execPtBusVset_goes data s) rfl
  | ptBusSlew data => exact Goes.mono (execPtBusSlew_goes data s) rfl
  | ptFfCfg data => exact Goes.mono (execPtFfCfg_goes data s) rfl
  | ptBurstEnter data => exact Goes.mono (execPtBurstEnter_goes data s) rfl
  | ptBurstDwell data => exact Goes.mono (execPtBurstDwell_goes data s) rfl
  | ptBurstBand data => exact Goes.mono (execPtBurstBand_goes data s) rfl
  | protRegisterWrite addr data => exact Goes.mono (execProtRegisterWrite_goes addr data s) rfl
  | tmGrpSrcWrite group which data => exact Goes.mono (execTmGrpSrcWrite_goes group which data s) rfl
  | evCfg data => exact Goes.mono (execEvCfg_goes data s) rfl
  | rcPwrCfg data => exact Goes.mono (execRcPwrCfg_goes data s) rfl
  | seRcvLoad => exact Goes.mono (execSeRcvLoad_goes s) rfl
  | seRcvRetry => exact Goes.mono (execSeRcvRetry_goes s) rfl
  | seRcvRestart => exact Goes.mono (execSeRcvRestart_goes s) rfl
  | recoveryWriteDone good => exact Goes.mono (execRecoveryWriteDone_goes good s) rfl
  | slotEvaluation slot parity => exact Goes.mono (execSlotEvaluation_goes slot parity s) rfl
  | feTrip slot => exact Goes.mono (execFeTrip_goes slot s) rfl
  | openTrip slot => exact Goes.mono (execOpenTrip_goes slot s) rfl
  | scheduleSwitch => exact Goes.mono (execScheduleSwitch_goes s) rfl
  | assayEvaluation pipe mismatch => exact Goes.mono (execAssayEvaluation_goes pipe mismatch s) rfl
  | fallbackSwitch => exact Goes.mono (execFallbackSwitch_goes s) rfl
  | fastDn port => exact Goes.mono (execFastDn_goes port s) rfl
  | fastUp port frame => exact Goes.mono (execFastUp_goes port frame s) rfl
  | blockLockLost rx => exact Goes.mono (execBlockLockLost_goes rx s) rfl
  | portLost port => exact Goes.mono (execPortLost_goes port s) rfl
  | portRetrain port => exact Goes.mono (execPortRetrain_goes port s) rfl
  | degraded port margin => exact Goes.mono (execDegraded_goes port margin s) rfl
  | svcDn port => exact Goes.mono (execSvcDn_goes port s) rfl
  | svcResponse port frame => exact Goes.mono (execSvcResponse_goes port frame s) rfl
  | svcTimeout port tag => exact Goes.mono (execSvcTimeout_goes port tag s) rfl
  | held port frame => exact Goes.mono (execHeld_goes port frame s) rfl
  | status port frame => exact Goes.mono (execStatus_goes port frame s) rfl
  | portTrained port found => exact Goes.mono (execPortTrained_goes port found s) rfl
  | trainingTimeout port step => exact Goes.mono (execTrainingTimeout_goes port step s) rfl
  | autostart => exact Goes.mono (execAutostart_goes s) rfl
  | preBiasedStart group => exact Goes.mono (execPreBiasedStart_goes group s) rfl
  | regulationReached group => exact Goes.mono (execRegulationReached_goes group s) rfl
  | startTimeout group => exact Goes.mono (execStartTimeout_goes group s) rfl
  | quenchTimeout group => exact Goes.mono (execQuenchTimeout_goes group s) rfl
  | retireTimeout port => exact Goes.mono (execRetireTimeout_goes port s) rfl
  | restoreSrStep port => exact Goes.mono (execRestoreSrStep_goes port s) rfl
  | burstEnter => exact Goes.mono (execBurstEnter_goes s) rfl
  | msWindow => exact Goes.mono (execMsWindow_goes s) rfl
  | imbalance port => exact Goes.mono (execImbalance_goes port s) rfl
  | senseFinding port => exact Goes.mono (execSenseFinding_goes port s) rfl
  | coolantUpdate => exact Goes.mono (execCoolantUpdate_goes s) rfl
  | voltageLimitTrip group => exact Goes.mono (execVoltageLimitTrip_goes group s) rfl
  | estimatorUpdate => exact Goes.mono (execEstimatorUpdate_goes s) rfl
  | fastStep parity => exact Goes.mono (execFastStep_goes parity s) rfl
  | rideExit => exact Goes.mono (execRideExit_goes s) rfl
  | slowStep => exact Goes.mono (execSlowStep_goes s) rfl
  | fcHoldEnd => exact Goes.mono (execFcHoldEnd_goes s) rfl
  | absenceDetect => exact Goes.mono (execAbsenceDetect_goes s) rfl
  | absenceDecay => exact Goes.mono (execAbsenceDecay_goes s) rfl
  | peerSilent peer => exact Goes.mono (execPeerSilent_goes peer s) rfl
  | profileSample parity => exact Goes.mono (execProfileSample_goes parity s) rfl
  | lockLost => exact Goes.mono (execLockLost_goes s) rfl
  | coastTimeout => exact Goes.mono (execCoastTimeout_goes s) rfl
  | wickNotice tag tw delta durUs => exact Goes.mono (execWickNotice_goes tag tw delta durUs s) rfl
  | wickApply => exact Goes.mono (execWickApply_goes s) rfl
  | planWritten => exact Goes.mono (execPlanWritten_goes s) rfl
  | planActivateAtTime => exact Goes.mono (execPlanActivateAtTime_goes s) rfl
  | planActTimeout => exact Goes.mono (execPlanActTimeout_goes s) rfl
  | forecastWrite parity => exact Goes.mono (execForecastWrite_goes parity s) rfl
  | governorStep => exact Goes.mono (execGovernorStep_goes s) rfl
  | leadClaim => exact Goes.mono (execLeadClaim_goes s) rfl
  | epoch => exact Goes.mono (execEpoch_goes s) rfl
  | grantRelease => exact Goes.mono (execGrantRelease_goes s) rfl
  | budgetTimeout req => exact Goes.mono (execBudgetTimeout_goes req s) rfl
  | budgetReqRepeat req => exact Goes.mono (execBudgetReqRepeat_goes req s) rfl
  | budgetExpiry => exact Goes.mono (execBudgetExpiry_goes s) rfl
  | endpointStale endpoint => exact Goes.mono (execEndpointStale_goes endpoint s) rfl
  | endpointDeregister endpoint => exact Goes.mono (execEndpointDeregister_goes endpoint s) rfl
  | barrierTimeout tag => exact Goes.mono (execBarrierTimeout_goes tag s) rfl
  | calFitUpdate => exact Goes.mono (execCalFitUpdate_goes s) rfl
  | guleneDrain => exact Goes.mono (execGuleneDrain_goes s) rfl
  | wick m => exact Goes.mono (execWick_goes m s) rfl
  | report m => exact Goes.mono (execReport_goes m s) rfl
  | lantern m => exact Goes.mono (execLantern_goes m s) rfl
  | budget m => exact Goes.mono (execBudget_goes m s) rfl
  | electReceived m => exact Goes.mono (execElectReceived_goes m s) rfl
  | shareReceived m => exact Goes.mono (execShareReceived_goes m s) rfl
  | alert m => exact Goes.mono (execAlert_goes m s) rfl
  | grantReceived => exact Goes.mono (execGrantReceived_goes s) rfl
  | bucketRefill => exact Goes.mono (execBucketRefill_goes s) rfl
  | replayRecordExpiry rack sender => exact Goes.mono (execReplayRecordExpiry_goes rack sender s) rfl
  | keyActivate row => exact Goes.mono (execKeyActivate_goes row s) rfl
  | oldKeyExpiry row => exact Goes.mono (execOldKeyExpiry_goes row s) rfl
  | isolated => exact Goes.mono (execIsolated_goes s) rfl
  | ethernetLink offer => exact Goes.mono (execEthernetLink_goes offer s) rfl
  | negFail => exact Goes.mono (execNegFail_goes s) rfl
  | ptpSync sync origin => exact Goes.mono (execPtpSync_goes sync origin s) rfl
  | ptpSyncTimeout => exact Goes.mono (execPtpSyncTimeout_goes s) rfl
  | ptpSyncSend => exact Goes.mono (execPtpSyncSend_goes s) rfl
  | tetherFast frame alignErr => exact Goes.mono (execTetherFast_goes frame alignErr s) rfl
  | tetherFastSend => exact Goes.mono (execTetherFastSend_goes s) rfl
  | roleDecision => exact Goes.mono (execRoleDecision_goes s) rfl
  | partnerLost => exact Goes.mono (execPartnerLost_goes s) rfl
  | partnerReplace => exact Goes.mono (execPartnerReplace_goes s) rfl
  | stateCopySend => exact Goes.mono (execStateCopySend_goes s) rfl
  | tetherBulk syncs type hdr data crc copy => exact Goes.mono (execTetherBulk_goes syncs type hdr data crc copy s) rfl
  | takeoverPortCheck => exact Goes.mono (execTakeoverPortCheck_goes s) rfl
  | handoverFail => exact Goes.mono (execHandoverFail_goes s) rfl
  | takeoverTimeout => exact Goes.mono (execTakeoverTimeout_goes s) rfl
  | captureSample => exact Goes.mono (execCaptureSample_goes s) rfl
  | captureFrozen => exact Goes.mono (execCaptureFrozen_goes s) rfl
  | flush => exact Goes.mono (execFlush_goes s) rfl
  | flushEnd => exact Goes.mono (execFlushEnd_goes s) rfl
  | logClearDone => exact Goes.mono (execLogClearDone_goes s) rfl
  | opTimeTick die vinMain vinAux => exact Goes.mono (execOpTimeTick_goes die vinMain vinAux s) rfl
  | powerOn => exact Goes.mono (execPowerOn_goes s) rfl
  | resetN lowNs high => exact Goes.mono (execResetN_goes lowNs high s) rfl
  | stewardWatchdog => exact Goes.mono (execStewardWatchdog_goes s) rfl
  | loopWatchdog => exact Goes.mono (execLoopWatchdog_goes s) rfl
  | pcieReset => exact Goes.mono (execPcieReset_goes s) rfl
  | pfWarn asserted => exact Goes.mono (execPfWarn_goes asserted s) rfl
  | vinMainLoss => exact Goes.mono (execVinMainLoss_goes s) rfl
  | vinMainReturn => exact Goes.mono (execVinMainReturn_goes s) rfl
  | retainedLoss deep => exact Goes.mono (execRetainedLoss_goes deep s) rfl
  | releaseStep block fault => exact Goes.mono (execReleaseStep_goes block fault s) rfl
  | releaseRetry block => exact Goes.mono (execReleaseRetry_goes block s) rfl
  | rcClockFault domain => exact Goes.mono (execRcClockFault_goes domain s) rfl
  | coldStart step ues => exact Goes.mono (execColdStart_goes step ues s) rfl
  | warmStart step => exact Goes.mono (execWarmStart_goes step s) rfl
  | checkpointWrite => exact Goes.mono (execCheckpointWrite_goes s) rfl
  | failedStartClear => exact Goes.mono (execFailedStartClear_goes s) rfl
  | svnRaise => exact Goes.mono (execSvnRaise_goes s) rfl
  | quietEnter => exact Goes.mono (execQuietEnter_goes s) rfl
  | thermalTrip => exact Goes.mono (execThermalTrip_goes s) rfl
  | thermalReturn => exact Goes.mono (execThermalReturn_goes s) rfl
  | snuffSense asserted => exact Goes.mono (execSnuffSense_goes asserted s) rfl
  | ppsIn => exact Goes.mono (execPpsIn_goes s) rfl
  | ppsOut rise => exact Goes.mono (execPpsOut_goes rise s) rfl
  | smbusReadByte cmd => exact Goes.mono (execSmbusReadByte_goes cmd s) rfl
  | smbusAlertResponse => exact Goes.mono (execSmbusAlertResponse_goes s) rfl
  | getVersion => exact Goes.mono (execGetVersion_goes s) rfl
  | getCapabilities => exact Goes.mono (execGetCapabilities_goes s) rfl
  | negotiateAlgorithms pss3072 sha256 dmtf => exact Goes.mono (execNegotiateAlgorithms_goes pss3072 sha256 dmtf s) rfl
  | getDigests => exact Goes.mono (execGetDigests_goes s) rfl
  | getCertificate slot off len => exact Goes.mono (execGetCertificate_goes slot off len s) rfl
  | challenge slot summary => exact Goes.mono (execChallenge_goes slot summary s) rfl
  | getMeasurements index signed => exact Goes.mono (execGetMeasurements_goes index signed s) rfl
  | calWriteDone good => exact Goes.mono (execCalWriteDone_goes good s) rfl
  | imageStageDone => exact Goes.mono (execImageStageDone_goes s) rfl
  | imageCommitDone good => exact Goes.mono (execImageCommitDone_goes good s) rfl
  | pcieLinkUp speed width flit busMaster msixEnable => exact Goes.mono (execPcieLinkUp_goes speed width flit busMaster msixEnable s) rfl
  | tetherTrain hdr heads trips serial => exact Goes.mono (execTetherTrain_goes hdr heads trips serial s) rfl
  | announce a => exact Goes.mono (execAnnounce_goes a s) rfl
  | delayResp received => exact Goes.mono (execDelayResp_goes received s) rfl
  | delayReq => exact Goes.mono (execDelayReq_goes s) rfl
  | neighbourDiscovery r => exact Goes.mono (execNeighbourDiscovery_goes r s) rfl
  | dhcpReply addr => exact Goes.mono (execDhcpReply_goes addr s) rfl
  | malformedDatagram => exact Goes.mono (execMalformedDatagram_goes s) rfl
  | dramError ue channel addr ringWord => exact Goes.mono (execDramError_goes ue channel addr ringWord s) rfl
  | dramCeWindow => exact Goes.mono (execDramCeWindow_goes s) rfl
  | serdesMargin link margin hour => exact Goes.mono (execSerdesMargin_goes link margin hour s) rfl
  | tempHigh up => exact Goes.mono (execTempHigh_goes up s) rfl
  | jtagAccess ir => exact Goes.mono (execJtagAccess_goes ir s) rfl

theorem exec_touch {c : Instr} {s t : State} (h : exec c s = .next t) : Touch 0xeffffe s t := by
  obtain ⟨v, e, g⟩ := exec_goes c s
  rw [h] at e
  cases e
  exact g

end Sys2Proof.Machine
end

