-- ==== Sys2Proof/Laws/Commands.lean ====
section
/-!
SUPPORT. How a host command starts and how it is answered: what the statements about commands cite.
-/

namespace Sys2Proof.Machine

open Sys2Proof

theorem Puts.later {s t v : State} {o : Output} {F : Nat} (h : Puts s t o) (g : Touch F t v) : Puts s v o := by
  obtain ⟨l, e, m⟩ := h
  obtain ⟨k, f, _⟩ := g.host
  exact ⟨k ++ l, by rw [f, e, List.append_assoc], List.mem_append_right _ m⟩

theorem Puts.before {s t v : State} {o : Output} {F : Nat} (g : Touch F s t) (h : Puts t v o) : Puts s v o := by
  obtain ⟨l, e, m⟩ := h
  obtain ⟨k, f, _⟩ := g.host
  exact ⟨l ++ k, by rw [e, f, List.append_assoc], List.mem_append_left _ m⟩

theorem Puts.emit (s : State) (o : Output) : Puts s (s.emit o) o := ⟨[o], rfl, List.mem_singleton.mpr rfl⟩

theorem HostTouch.puts {h k l : HostSide} {o : Output} (a : HostTouch k l) (p : ∃ x, k.out = x ++ h.out ∧ o ∈ x) :
    ∃ x, l.out = x ++ h.out ∧ o ∈ x := by
  obtain ⟨x, e, m⟩ := p
  obtain ⟨y, f, _⟩ := a.host
  exact ⟨y ++ x, by rw [f, e, List.append_assoc], List.mem_append_right _ m⟩

theorem HostTouch.postCompletion_puts (h : HostSide) (cq tag st fl q ix r : Nat) :
    ∃ x, (h.postCompletion cq tag st fl q ix r).out = x ++ h.out ∧ Output.completion tag st fl q ix r ∈ x := by
  have base : ∃ x, ({ h with out := .completion tag st fl q ix r :: h.out } : HostSide).out = x ++ h.out ∧
      Output.completion tag st fl q ix r ∈ x := ⟨[.completion tag st fl q ix r], rfl, List.mem_singleton.mpr rfl⟩
  unfold HostSide.postCompletion
  dsimp only
  split
  · refine HostTouch.puts (HostTouch.signalCq (HostTouch.writeBack (HostTouch.hq ((HostTouch.refl _).write _ _) ?_ ?_) _ _) _) base
    · exact upd_length _ _ _
    · rfl
  · exact base

theorem nth_upd_same {α : Type} (l : List α) (k : Nat) (f : α → α) (d : α) (h : k < l.length) :
    nth (upd l k f) k d = f (nth l k d) := by
  unfold nth upd
  simp [h]

theorem nth_upd_other {α : Type} (l : List α) (k j : Nat) (f : α → α) (d : α) (h : k ≠ j) :
    nth (upd l k f) j d = nth l j d := by
  unfold nth upd
  simp [h]

theorem HostSide.signalCq_queue (h : HostSide) (k q : Nat) (hk : k ≠ q) :
    nth (h.signalCq k).hq.queues q {} = nth h.hq.queues q {} := by
  unfold HostSide.signalCq HostSide.msix
  dsimp only
  repeat' split
  all_goals first
    | rfl
    | exact nth_upd_other _ _ _ _ _ hk

/-- A completion of another queue leaves a queue alone. -/
theorem HostSide.postCompletion_queue (h : HostSide) (cq tag st fl qq ix r q : Nat) (hk : cq ≠ q) :
    nth (h.postCompletion cq tag st fl qq ix r).hq.queues q {} = nth h.hq.queues q {} := by
  unfold HostSide.postCompletion
  dsimp only
  split
  · rw [HostSide.signalCq_queue _ _ _ hk]
    exact nth_upd_other _ _ _ _ _ hk
  · rfl

theorem HostSide.postCompletion_inflight (h : HostSide) (cq tag st fl qq ix r : Nat) :
    (h.postCompletion cq tag st fl qq ix r).hq.inflight = h.hq.inflight := by
  unfold HostSide.postCompletion HostSide.signalCq HostSide.msix
  dsimp only
  repeat' split
  all_goals rfl

/-- Where no command waits to delete a queue, nothing is deleted. -/
theorem HostSide.settleDeletes_none (n : Nat) (b : Bool) (h : HostSide)
    (hd : ∀ f ∈ h.hq.inflight, ∀ k, f.wait ≠ .queueDelete k) : HostSide.settleDeletes n b h = h := by
  cases n with
  | zero => rfl
  | succ n =>
    unfold HostSide.settleDeletes
    split
    · rename_i e
      exact absurd rfl (hd _ (List.mem_of_find?_eq_some e) _)
    · rfl

/-- A completion leaves another queue alone, where no command waits to delete one. -/
theorem State.complete_queue (s : State) (c : CmdHdr) (st r q : Nat) (hq : c.queue ≠ q)
    (hd : ∀ f ∈ s.hq.inflight, ∀ k, f.wait ≠ .queueDelete k) :
    nth (s.complete c st r).hq.queues q {} = nth s.hq.queues q {} := by
  have e : (s.hostSide.complete s.standbyFlag c st r) = s.hostSide.complete1 s.standbyFlag c st r := by
    refine HostSide.settleDeletes_none _ _ _ ?_
    intro f hf
    have g : f ∈ s.hq.inflight := by
      have m := (List.mem_filter.mp hf).1
      rw [HostSide.postCompletion_inflight] at m
      exact m
    exact hd f g
  show nth (s.hostSide.complete s.standbyFlag c st r).hq.queues q {} = _
  rw [e]
  exact HostSide.postCompletion_queue _ _ _ _ _ _ _ _ _ hq

/-- The completion of a command is put out (R339, R354). -/
theorem State.complete_answers (s : State) (c : CmdHdr) (st r : Nat) : Answered s (s.complete c st r) c st r := by
  have a := HostTouch.postCompletion_puts s.hostSide c.queue c.tag st (if s.standbyFlag then 2 else 0) c.queue c.sqIndex r
  have b : HostTouch (s.hostSide.postCompletion c.queue c.tag st (if s.standbyFlag then 2 else 0) c.queue c.sqIndex r)
      (s.hostSide.complete s.standbyFlag c st r) := by
    refine HostTouch.settleDeletes 4 _ (HostTouch.hq (HostTouch.refl _) ?_ ?_) <;> rfl
  exact HostTouch.puts b a

/-- A command that no check refuses acts on the state as it is (R351, R357). -/
theorem State.start_acts {s : State} {h : CmdHdr} (a : Accepted s h) (c : Cmd) (act : State → State)
    (ha : c.activeOnly = true → s.role = .active) (hz : c.zero = false) (hc : c.chk = none)
    (hr : s.rc.run = true ∨ c.early = true) (h6 : c.chk6 = none) : s.start h c act = act s := by
  have q : (if wakes c.op then s.leaveQuiet else s) = s := by
    unfold State.leaveQuiet
    rw [if_neg a.awake]
    split <;> rfl
  have b : s.rc.blocks c.op = false := by
    unfold ResetCtl.blocks
    rw [a.block]
    rfl
  have r : s.refusal c = none := by
    unfold State.refusal
    rw [b, hz, hc, h6]
    cases hr with
    | inl hr => cases hx : c.activeOnly <;> simp [hr, hx, ha]
    | inr hr => cases hx : c.activeOnly <;> simp [hr, hx, ha]
  unfold State.start
  dsimp only
  rw [q, r]
  dsimp only
  rw [a.real]
  rfl

/-- STANDBY of a completion depends on the role alone. -/
theorem Touch.standby {F : Nat} {s t : State} (g : Touch F s t) (hF : F.testBit 2 = false) : t.standbyFlag = s.standbyFlag := by
  rcases g.role with x | x
  · rw [hF] at x
    cases x
  · unfold State.standbyFlag
    rw [x]

/-- A command that ends after work that leaves the role alone answers as the state it started from. -/
theorem State.done_answers {F : Nat} {s v : State} (g : Touch F s v) (hF : F.testBit 2 = false) (h : CmdHdr) (st r : Nat) :
    Answered s (v.done h st r) h st r := by
  have a := State.complete_answers v h st r
  unfold Answered at a ⊢
  rw [g.standby hF] at a
  exact Puts.before g a

/-- An answer stands whatever comes after. -/
theorem Answered.later {F : Nat} {s t v : State} {h : CmdHdr} {st r : Nat} (a : Answered s t h st r) (g : Touch F t v) :
    Answered s v h st r := Puts.later a g

/-- An answer of a later state that has kept the role is an answer of the earlier one. -/
theorem Answered.before {F : Nat} {s t v : State} {h : CmdHdr} {st r : Nat} (g : Touch F s t) (hF : F.testBit 2 = false)
    (a : Answered t v h st r) : Answered s v h st r := by
  unfold Answered at a ⊢
  rw [g.standby hF] at a
  exact Puts.before g a

theorem State.completeAll_answers (l : List CmdHdr) (s : State) (st r : Nat) :
    ∀ c ∈ l, Answered s (l.foldl (fun s c => s.complete c st r) s) c st r := by
  induction l generalizing s with
  | nil => exact fun c h => by cases h
  | cons a l ih =>
    intro c hc
    rcases List.mem_cons.mp hc with rfl | hc
    · refine Answered.later (State.complete_answers s c st r) (F := 0x810000) ?_
      exact (Touch.refl _ _).foldl (fun v d => State.complete_touch v d st r)
    · exact Answered.before (State.complete_touch s a st r) rfl (ih (s.complete a st r) c hc)

/-- Every command in flight whose wait satisfies the test is answered. -/
theorem State.completeWhere_answers (s : State) (p : Wait → Bool) (st r : Nat) (f : Flight) (hf : f ∈ s.hq.inflight)
    (hp : p f.wait = true) : Answered s (s.completeWhere p st r) f.hdr st r :=
  State.completeAll_answers _ s st r f.hdr (List.mem_map.mpr ⟨f, List.mem_filter.mpr ⟨hf, hp⟩, rfl⟩)

/-- Data put in a buffer, then anything that leaves the host DMA region alone. -/
theorem Stored.of {s v : State} {b : Buf} {data : Bytes} {F : Nat} (g : Touch F (s.bufWrite b data) v)
    (hF : F.testBit 21 = false) : Stored s v b data := by
  constructor
  · intro d
    have e : (s.bufWrite b data).hdma = Mem.writeN 0 s.hdma (bufBase b) data := by
      unfold State.bufWrite
      rw [if_pos d]
    rcases g.hdma with x | x
    · rw [hF] at x
      cases x
    · exact x.trans e
  · intro d
    refine Puts.later ?_ g
    unfold State.bufWrite
    rw [if_neg (by rw [d]; decide)]
    have hb : bufBase b % 2 ^ 64 = bufBase b := by
      unfold bufBase
      omega
    refine ⟨[.hostWrite (bufBase b) data], ?_, List.mem_singleton.mpr rfl⟩
    show (Output.hostWrite (bufBase b % 2 ^ 64) data) :: s.out = _
    rw [hb]
    rfl

theorem getLast?_drop_concat {α : Type} (l : List α) (r : α) (k : Nat) (hk : k ≤ l.length) :
    (List.drop k (l ++ [r])).getLast? = some r := by
  rw [List.getLast?_drop, List.length_append, if_neg (by simp; omega), List.getLast?_concat]

/-- A record pushed is the newest of the ring (R312). -/
theorem Recorder.push_last (e : Recorder) (r : Rec) : (e.push r).ring.getLast? = some r := by
  have h : e.ring.length + 1 - 1024 ≤ e.ring.length := by omega
  have g := getLast?_drop_concat e.ring r (e.ring.length + 1 - 1024) h
  revert g
  unfold Recorder.push
  dsimp only
  exact id

/-- The record of a condition becomes the newest of the ring (R312). -/
theorem State.record_newest (s : State) (code sev kind subject : Nat) (p : Bytes) :
    Newest s (s.record code sev kind subject p) code sev kind subject p := by
  have h := Recorder.push_last s.ev (s.mkRec code sev kind subject p)
  revert h
  unfold Newest State.record
  dsimp only
  exact id

/-- With CHECK_ONLY a command is answered and does nothing more (R351). -/
theorem State.start_check (s : State) (h : CmdHdr) (c : Cmd) (act : State → State) (hk : h.checkOnly = true) (hp : s.rc.power ≠ .quiet) :
    ∃ st r, s.start h c act = s.complete h st r := by
  have q : (if wakes c.op then s.leaveQuiet else s) = s := by
    unfold State.leaveQuiet; rw [if_neg hp]; split <;> rfl
  unfold State.start
  dsimp only
  rw [q]
  split
  · exact ⟨_, _, rfl⟩
  · rw [hk]; exact ⟨_, _, rfl⟩

/-- An Active only command on a module that is not ACTIVE (R357 step 3). -/
theorem State.start_role (s : State) (h : CmdHdr) (c : Cmd) (act : State → State) (ha : c.activeOnly = true) (hp : s.rc.power ≠ .quiet) :
    (s.role = .standby ∨ s.role = .offline → s.start h c act = s.complete h stNotOwner 0) ∧
    (s.role = .starting → s.start h c act = s.complete h stBusy 0) := by
  have q : (if wakes c.op then s.leaveQuiet else s) = s := by
    unfold State.leaveQuiet; rw [if_neg hp]; split <;> rfl
  unfold State.start
  dsimp only
  rw [q]
  unfold State.refusal
  constructor
  · rintro (e | e) <;> simp [ha, e]
  · intro e; simp [ha, e]

/-- A command that waits for RUN is answered and does nothing more before it (R403). -/
theorem State.start_run (s : State) (h : CmdHdr) (c : Cmd) (act : State → State) (he : c.early = false) (hr : s.rc.run = false) (hp : s.rc.power ≠ .quiet) :
    ∃ st r, s.start h c act = s.complete h st r := by
  have q : (if wakes c.op then s.leaveQuiet else s) = s := by
    unfold State.leaveQuiet; rw [if_neg hp]; split <;> rfl
  unfold State.start
  dsimp only
  rw [q]
  split
  · exact ⟨_, _, rfl⟩
  · rename_i e
    exfalso
    revert e
    unfold State.refusal
    rw [hr, he]
    simp

end Sys2Proof.Machine
end

