-- ==== Sys2Proof/Laws/Frames.lean ====
section
/-!
SUPPORT. From the footprint of an operation to the frame of a command.
-/

namespace Sys2Proof.Machine

open Sys2Proof

/-- The footprint bit of an area. -/
def areaBit : Area → Nat
  | .clock => 1 | .role => 2 | .tether => 3 | .loops => 4 | .ports => 5 | .groups => 6 | .shelf => 7 | .profile => 8 | .storage => 9
  | .gulene => 10 | .governor => 11 | .capture => 12 | .calibration => 13 | .recorder => 14 | .resets => 15 | .host => 16
  | .security => 17 | .pins => 18 | .checkpoint => 19 | .dma => 21 | .free => 22 | .out => 23

/-- What a footprint leaves alone is unchanged. -/
theorem comp_bit {F k : Nat} {P : Prop} (h : F.testBit k = true ∨ P) (e : F.testBit k = false) : P := by
  rcases h with x | x
  · rw [e] at x; cases x
  · exact x

/-- The frame a footprint gives. -/
theorem Touch.keeps {F : Nat} {s t : State} (g : Touch F s t) (l : List Area)
    (h : ∀ a ∈ Area.all, a ∉ l → F.testBit (areaBit a) = false) : KeepsBut l s t := by
  refine ⟨g.part, g.pending, fun a ha => ?_⟩
  have hb := h a (by cases a <;> decide) ha
  cases a <;> simp only [areaBit] at hb <;> simp only [Area.same]
  · exact comp_bit g.clk hb
  · exact comp_bit g.role hb
  · exact comp_bit g.teth hb
  · exact comp_bit g.le hb
  · exact comp_bit g.ports hb
  · exact comp_bit g.groups hb
  · exact comp_bit g.sh hb
  · exact comp_bit g.pf hb
  · exact comp_bit g.pl hb
  · exact comp_bit g.gn hb
  · exact comp_bit g.gv hb
  · exact comp_bit g.cr hb
  · exact comp_bit g.cal hb
  · exact comp_bit g.ev hb
  · exact comp_bit g.rc hb
  · exact comp_bit g.hq hb
  · exact comp_bit g.se hb
  · exact comp_bit g.pins hb
  · exact comp_bit g.checkpoint hb
  · exact comp_bit g.hdma hb
  · exact comp_bit g.free hb
  · have e := comp_bit g.out hb
    refine ⟨e, ?_⟩
    obtain ⟨l, a, b⟩ := g.host
    rw [e] at a
    have : l = [] := by
      have := congrArg List.length a
      simp at this
      exact this
    rw [b, this]; rfl

/-- The frame of a command, from its footprint. -/
theorem Goes.keeps {F : Nat} {s : State} {c : Instr} (g : Goes F s (exec c s)) (l : List Area)
    (h : ∀ a ∈ Area.all, a ∉ l → F.testBit (areaBit a) = false) : Leaves c s (KeepsBut l s) := by
  intro t e
  obtain ⟨v, e2, g⟩ := g
  rw [e] at e2; cases e2
  exact g.keeps l h

end Sys2Proof.Machine
end

