-- ==== Sys2Proof/Laws/State.lean ====
section
/-!
SUPPORT. One lemma per field per update of State, so that no proof unfolds a record update.
-/

namespace Sys2Proof.Machine

open Sys2Proof

/-! ### emit -/

@[simp] theorem State.emit_part (s : State) (o : Output) : (s.emit o).part = s.part := rfl
@[simp] theorem State.emit_clk (s : State) (o : Output) : (s.emit o).clk = s.clk := rfl
@[simp] theorem State.emit_role (s : State) (o : Output) : (s.emit o).role = s.role := rfl
@[simp] theorem State.emit_teth (s : State) (o : Output) : (s.emit o).teth = s.teth := rfl
@[simp] theorem State.emit_le (s : State) (o : Output) : (s.emit o).le = s.le := rfl
@[simp] theorem State.emit_ports (s : State) (o : Output) : (s.emit o).ports = s.ports := rfl
@[simp] theorem State.emit_groups (s : State) (o : Output) : (s.emit o).groups = s.groups := rfl
@[simp] theorem State.emit_sh (s : State) (o : Output) : (s.emit o).sh = s.sh := rfl
@[simp] theorem State.emit_pf (s : State) (o : Output) : (s.emit o).pf = s.pf := rfl
@[simp] theorem State.emit_pl (s : State) (o : Output) : (s.emit o).pl = s.pl := rfl
@[simp] theorem State.emit_gn (s : State) (o : Output) : (s.emit o).gn = s.gn := rfl
@[simp] theorem State.emit_gv (s : State) (o : Output) : (s.emit o).gv = s.gv := rfl
@[simp] theorem State.emit_cr (s : State) (o : Output) : (s.emit o).cr = s.cr := rfl
@[simp] theorem State.emit_cal (s : State) (o : Output) : (s.emit o).cal = s.cal := rfl
@[simp] theorem State.emit_ev (s : State) (o : Output) : (s.emit o).ev = s.ev := rfl
@[simp] theorem State.emit_rc (s : State) (o : Output) : (s.emit o).rc = s.rc := rfl
@[simp] theorem State.emit_hq (s : State) (o : Output) : (s.emit o).hq = s.hq := rfl
@[simp] theorem State.emit_se (s : State) (o : Output) : (s.emit o).se = s.se := rfl
@[simp] theorem State.emit_pins (s : State) (o : Output) : (s.emit o).pins = s.pins := rfl
@[simp] theorem State.emit_checkpoint (s : State) (o : Output) : (s.emit o).checkpoint = s.checkpoint := rfl
@[simp] theorem State.emit_hostMem (s : State) (o : Output) : (s.emit o).hostMem = s.hostMem := rfl
@[simp] theorem State.emit_hdma (s : State) (o : Output) : (s.emit o).hdma = s.hdma := rfl
@[simp] theorem State.emit_free (s : State) (o : Output) : (s.emit o).free = s.free := rfl
@[simp] theorem State.emit_out (s : State) (o : Output) : (s.emit o).out = o :: s.out := rfl
@[simp] theorem State.emit_pending (s : State) (o : Output) : (s.emit o).pending = s.pending := rfl

/-! ### withHost -/

@[simp] theorem State.withHost_part (s : State) (h : HostSide) : (s.withHost h).part = s.part := rfl
@[simp] theorem State.withHost_clk (s : State) (h : HostSide) : (s.withHost h).clk = s.clk := rfl
@[simp] theorem State.withHost_role (s : State) (h : HostSide) : (s.withHost h).role = s.role := rfl
@[simp] theorem State.withHost_teth (s : State) (h : HostSide) : (s.withHost h).teth = s.teth := rfl
@[simp] theorem State.withHost_le (s : State) (h : HostSide) : (s.withHost h).le = s.le := rfl
@[simp] theorem State.withHost_ports (s : State) (h : HostSide) : (s.withHost h).ports = s.ports := rfl
@[simp] theorem State.withHost_groups (s : State) (h : HostSide) : (s.withHost h).groups = s.groups := rfl
@[simp] theorem State.withHost_sh (s : State) (h : HostSide) : (s.withHost h).sh = s.sh := rfl
@[simp] theorem State.withHost_pf (s : State) (h : HostSide) : (s.withHost h).pf = s.pf := rfl
@[simp] theorem State.withHost_pl (s : State) (h : HostSide) : (s.withHost h).pl = s.pl := rfl
@[simp] theorem State.withHost_gn (s : State) (h : HostSide) : (s.withHost h).gn = s.gn := rfl
@[simp] theorem State.withHost_gv (s : State) (h : HostSide) : (s.withHost h).gv = s.gv := rfl
@[simp] theorem State.withHost_cr (s : State) (h : HostSide) : (s.withHost h).cr = s.cr := rfl
@[simp] theorem State.withHost_cal (s : State) (h : HostSide) : (s.withHost h).cal = s.cal := rfl
@[simp] theorem State.withHost_ev (s : State) (h : HostSide) : (s.withHost h).ev = s.ev := rfl
@[simp] theorem State.withHost_rc (s : State) (h : HostSide) : (s.withHost h).rc = s.rc := rfl
@[simp] theorem State.withHost_hq (s : State) (h : HostSide) : (s.withHost h).hq = h.hq := rfl
@[simp] theorem State.withHost_se (s : State) (h : HostSide) : (s.withHost h).se = s.se := rfl
@[simp] theorem State.withHost_pins (s : State) (h : HostSide) : (s.withHost h).pins = s.pins := rfl
@[simp] theorem State.withHost_checkpoint (s : State) (h : HostSide) : (s.withHost h).checkpoint = s.checkpoint := rfl
@[simp] theorem State.withHost_hostMem (s : State) (h : HostSide) : (s.withHost h).hostMem = h.mem := rfl
@[simp] theorem State.withHost_hdma (s : State) (h : HostSide) : (s.withHost h).hdma = s.hdma := rfl
@[simp] theorem State.withHost_free (s : State) (h : HostSide) : (s.withHost h).free = s.free := rfl
@[simp] theorem State.withHost_out (s : State) (h : HostSide) : (s.withHost h).out = h.out := rfl
@[simp] theorem State.withHost_pending (s : State) (h : HostSide) : (s.withHost h).pending = s.pending := rfl

/-! ### withPending -/

@[simp] theorem State.withPending_part (s : State) (l : List Instr) : (s.withPending l).part = s.part := rfl
@[simp] theorem State.withPending_clk (s : State) (l : List Instr) : (s.withPending l).clk = s.clk := rfl
@[simp] theorem State.withPending_role (s : State) (l : List Instr) : (s.withPending l).role = s.role := rfl
@[simp] theorem State.withPending_teth (s : State) (l : List Instr) : (s.withPending l).teth = s.teth := rfl
@[simp] theorem State.withPending_le (s : State) (l : List Instr) : (s.withPending l).le = s.le := rfl
@[simp] theorem State.withPending_ports (s : State) (l : List Instr) : (s.withPending l).ports = s.ports := rfl
@[simp] theorem State.withPending_groups (s : State) (l : List Instr) : (s.withPending l).groups = s.groups := rfl
@[simp] theorem State.withPending_sh (s : State) (l : List Instr) : (s.withPending l).sh = s.sh := rfl
@[simp] theorem State.withPending_pf (s : State) (l : List Instr) : (s.withPending l).pf = s.pf := rfl
@[simp] theorem State.withPending_pl (s : State) (l : List Instr) : (s.withPending l).pl = s.pl := rfl
@[simp] theorem State.withPending_gn (s : State) (l : List Instr) : (s.withPending l).gn = s.gn := rfl
@[simp] theorem State.withPending_gv (s : State) (l : List Instr) : (s.withPending l).gv = s.gv := rfl
@[simp] theorem State.withPending_cr (s : State) (l : List Instr) : (s.withPending l).cr = s.cr := rfl
@[simp] theorem State.withPending_cal (s : State) (l : List Instr) : (s.withPending l).cal = s.cal := rfl
@[simp] theorem State.withPending_ev (s : State) (l : List Instr) : (s.withPending l).ev = s.ev := rfl
@[simp] theorem State.withPending_rc (s : State) (l : List Instr) : (s.withPending l).rc = s.rc := rfl
@[simp] theorem State.withPending_hq (s : State) (l : List Instr) : (s.withPending l).hq = s.hq := rfl
@[simp] theorem State.withPending_se (s : State) (l : List Instr) : (s.withPending l).se = s.se := rfl
@[simp] theorem State.withPending_pins (s : State) (l : List Instr) : (s.withPending l).pins = s.pins := rfl
@[simp] theorem State.withPending_checkpoint (s : State) (l : List Instr) : (s.withPending l).checkpoint = s.checkpoint := rfl
@[simp] theorem State.withPending_hostMem (s : State) (l : List Instr) : (s.withPending l).hostMem = s.hostMem := rfl
@[simp] theorem State.withPending_hdma (s : State) (l : List Instr) : (s.withPending l).hdma = s.hdma := rfl
@[simp] theorem State.withPending_free (s : State) (l : List Instr) : (s.withPending l).free = s.free := rfl
@[simp] theorem State.withPending_out (s : State) (l : List Instr) : (s.withPending l).out = s.out := rfl
@[simp] theorem State.withPending_pending (s : State) (l : List Instr) : (s.withPending l).pending = l := rfl

/-! ### setSlot -/

@[simp] theorem State.setSlot_part (s : State) (k : Nat) (f : Slot → Slot) : (s.setSlot k f).part = s.part := rfl
@[simp] theorem State.setSlot_clk (s : State) (k : Nat) (f : Slot → Slot) : (s.setSlot k f).clk = s.clk := rfl
@[simp] theorem State.setSlot_role (s : State) (k : Nat) (f : Slot → Slot) : (s.setSlot k f).role = s.role := rfl
@[simp] theorem State.setSlot_teth (s : State) (k : Nat) (f : Slot → Slot) : (s.setSlot k f).teth = s.teth := rfl
@[simp] theorem State.setSlot_le (s : State) (k : Nat) (f : Slot → Slot) : (s.setSlot k f).le = { s.le with slots := upd s.le.slots k f } := rfl
@[simp] theorem State.setSlot_ports (s : State) (k : Nat) (f : Slot → Slot) : (s.setSlot k f).ports = s.ports := rfl
@[simp] theorem State.setSlot_groups (s : State) (k : Nat) (f : Slot → Slot) : (s.setSlot k f).groups = s.groups := rfl
@[simp] theorem State.setSlot_sh (s : State) (k : Nat) (f : Slot → Slot) : (s.setSlot k f).sh = s.sh := rfl
@[simp] theorem State.setSlot_pf (s : State) (k : Nat) (f : Slot → Slot) : (s.setSlot k f).pf = s.pf := rfl
@[simp] theorem State.setSlot_pl (s : State) (k : Nat) (f : Slot → Slot) : (s.setSlot k f).pl = s.pl := rfl
@[simp] theorem State.setSlot_gn (s : State) (k : Nat) (f : Slot → Slot) : (s.setSlot k f).gn = s.gn := rfl
@[simp] theorem State.setSlot_gv (s : State) (k : Nat) (f : Slot → Slot) : (s.setSlot k f).gv = s.gv := rfl
@[simp] theorem State.setSlot_cr (s : State) (k : Nat) (f : Slot → Slot) : (s.setSlot k f).cr = s.cr := rfl
@[simp] theorem State.setSlot_cal (s : State) (k : Nat) (f : Slot → Slot) : (s.setSlot k f).cal = s.cal := rfl
@[simp] theorem State.setSlot_ev (s : State) (k : Nat) (f : Slot → Slot) : (s.setSlot k f).ev = s.ev := rfl
@[simp] theorem State.setSlot_rc (s : State) (k : Nat) (f : Slot → Slot) : (s.setSlot k f).rc = s.rc := rfl
@[simp] theorem State.setSlot_hq (s : State) (k : Nat) (f : Slot → Slot) : (s.setSlot k f).hq = s.hq := rfl
@[simp] theorem State.setSlot_se (s : State) (k : Nat) (f : Slot → Slot) : (s.setSlot k f).se = s.se := rfl
@[simp] theorem State.setSlot_pins (s : State) (k : Nat) (f : Slot → Slot) : (s.setSlot k f).pins = s.pins := rfl
@[simp] theorem State.setSlot_checkpoint (s : State) (k : Nat) (f : Slot → Slot) : (s.setSlot k f).checkpoint = s.checkpoint := rfl
@[simp] theorem State.setSlot_hostMem (s : State) (k : Nat) (f : Slot → Slot) : (s.setSlot k f).hostMem = s.hostMem := rfl
@[simp] theorem State.setSlot_hdma (s : State) (k : Nat) (f : Slot → Slot) : (s.setSlot k f).hdma = s.hdma := rfl
@[simp] theorem State.setSlot_free (s : State) (k : Nat) (f : Slot → Slot) : (s.setSlot k f).free = s.free := rfl
@[simp] theorem State.setSlot_out (s : State) (k : Nat) (f : Slot → Slot) : (s.setSlot k f).out = s.out := rfl
@[simp] theorem State.setSlot_pending (s : State) (k : Nat) (f : Slot → Slot) : (s.setSlot k f).pending = s.pending := rfl

/-! ### setPort -/

@[simp] theorem State.setPort_part (s : State) (p : Nat) (f : Port → Port) : (s.setPort p f).part = s.part := rfl
@[simp] theorem State.setPort_clk (s : State) (p : Nat) (f : Port → Port) : (s.setPort p f).clk = s.clk := rfl
@[simp] theorem State.setPort_role (s : State) (p : Nat) (f : Port → Port) : (s.setPort p f).role = s.role := rfl
@[simp] theorem State.setPort_teth (s : State) (p : Nat) (f : Port → Port) : (s.setPort p f).teth = s.teth := rfl
@[simp] theorem State.setPort_le (s : State) (p : Nat) (f : Port → Port) : (s.setPort p f).le = s.le := rfl
@[simp] theorem State.setPort_ports (s : State) (p : Nat) (f : Port → Port) : (s.setPort p f).ports = upd s.ports p f := rfl
@[simp] theorem State.setPort_groups (s : State) (p : Nat) (f : Port → Port) : (s.setPort p f).groups = s.groups := rfl
@[simp] theorem State.setPort_sh (s : State) (p : Nat) (f : Port → Port) : (s.setPort p f).sh = s.sh := rfl
@[simp] theorem State.setPort_pf (s : State) (p : Nat) (f : Port → Port) : (s.setPort p f).pf = s.pf := rfl
@[simp] theorem State.setPort_pl (s : State) (p : Nat) (f : Port → Port) : (s.setPort p f).pl = s.pl := rfl
@[simp] theorem State.setPort_gn (s : State) (p : Nat) (f : Port → Port) : (s.setPort p f).gn = s.gn := rfl
@[simp] theorem State.setPort_gv (s : State) (p : Nat) (f : Port → Port) : (s.setPort p f).gv = s.gv := rfl
@[simp] theorem State.setPort_cr (s : State) (p : Nat) (f : Port → Port) : (s.setPort p f).cr = s.cr := rfl
@[simp] theorem State.setPort_cal (s : State) (p : Nat) (f : Port → Port) : (s.setPort p f).cal = s.cal := rfl
@[simp] theorem State.setPort_ev (s : State) (p : Nat) (f : Port → Port) : (s.setPort p f).ev = s.ev := rfl
@[simp] theorem State.setPort_rc (s : State) (p : Nat) (f : Port → Port) : (s.setPort p f).rc = s.rc := rfl
@[simp] theorem State.setPort_hq (s : State) (p : Nat) (f : Port → Port) : (s.setPort p f).hq = s.hq := rfl
@[simp] theorem State.setPort_se (s : State) (p : Nat) (f : Port → Port) : (s.setPort p f).se = s.se := rfl
@[simp] theorem State.setPort_pins (s : State) (p : Nat) (f : Port → Port) : (s.setPort p f).pins = s.pins := rfl
@[simp] theorem State.setPort_checkpoint (s : State) (p : Nat) (f : Port → Port) : (s.setPort p f).checkpoint = s.checkpoint := rfl
@[simp] theorem State.setPort_hostMem (s : State) (p : Nat) (f : Port → Port) : (s.setPort p f).hostMem = s.hostMem := rfl
@[simp] theorem State.setPort_hdma (s : State) (p : Nat) (f : Port → Port) : (s.setPort p f).hdma = s.hdma := rfl
@[simp] theorem State.setPort_free (s : State) (p : Nat) (f : Port → Port) : (s.setPort p f).free = s.free := rfl
@[simp] theorem State.setPort_out (s : State) (p : Nat) (f : Port → Port) : (s.setPort p f).out = s.out := rfl
@[simp] theorem State.setPort_pending (s : State) (p : Nat) (f : Port → Port) : (s.setPort p f).pending = s.pending := rfl

/-! ### setGroup -/

@[simp] theorem State.setGroup_part (s : State) (g : Nat) (f : Group → Group) : (s.setGroup g f).part = s.part := rfl
@[simp] theorem State.setGroup_clk (s : State) (g : Nat) (f : Group → Group) : (s.setGroup g f).clk = s.clk := rfl
@[simp] theorem State.setGroup_role (s : State) (g : Nat) (f : Group → Group) : (s.setGroup g f).role = s.role := rfl
@[simp] theorem State.setGroup_teth (s : State) (g : Nat) (f : Group → Group) : (s.setGroup g f).teth = s.teth := rfl
@[simp] theorem State.setGroup_le (s : State) (g : Nat) (f : Group → Group) : (s.setGroup g f).le = s.le := rfl
@[simp] theorem State.setGroup_ports (s : State) (g : Nat) (f : Group → Group) : (s.setGroup g f).ports = s.ports := rfl
@[simp] theorem State.setGroup_groups (s : State) (g : Nat) (f : Group → Group) : (s.setGroup g f).groups = upd s.groups g f := rfl
@[simp] theorem State.setGroup_sh (s : State) (g : Nat) (f : Group → Group) : (s.setGroup g f).sh = s.sh := rfl
@[simp] theorem State.setGroup_pf (s : State) (g : Nat) (f : Group → Group) : (s.setGroup g f).pf = s.pf := rfl
@[simp] theorem State.setGroup_pl (s : State) (g : Nat) (f : Group → Group) : (s.setGroup g f).pl = s.pl := rfl
@[simp] theorem State.setGroup_gn (s : State) (g : Nat) (f : Group → Group) : (s.setGroup g f).gn = s.gn := rfl
@[simp] theorem State.setGroup_gv (s : State) (g : Nat) (f : Group → Group) : (s.setGroup g f).gv = s.gv := rfl
@[simp] theorem State.setGroup_cr (s : State) (g : Nat) (f : Group → Group) : (s.setGroup g f).cr = s.cr := rfl
@[simp] theorem State.setGroup_cal (s : State) (g : Nat) (f : Group → Group) : (s.setGroup g f).cal = s.cal := rfl
@[simp] theorem State.setGroup_ev (s : State) (g : Nat) (f : Group → Group) : (s.setGroup g f).ev = s.ev := rfl
@[simp] theorem State.setGroup_rc (s : State) (g : Nat) (f : Group → Group) : (s.setGroup g f).rc = s.rc := rfl
@[simp] theorem State.setGroup_hq (s : State) (g : Nat) (f : Group → Group) : (s.setGroup g f).hq = s.hq := rfl
@[simp] theorem State.setGroup_se (s : State) (g : Nat) (f : Group → Group) : (s.setGroup g f).se = s.se := rfl
@[simp] theorem State.setGroup_pins (s : State) (g : Nat) (f : Group → Group) : (s.setGroup g f).pins = s.pins := rfl
@[simp] theorem State.setGroup_checkpoint (s : State) (g : Nat) (f : Group → Group) : (s.setGroup g f).checkpoint = s.checkpoint := rfl
@[simp] theorem State.setGroup_hostMem (s : State) (g : Nat) (f : Group → Group) : (s.setGroup g f).hostMem = s.hostMem := rfl
@[simp] theorem State.setGroup_hdma (s : State) (g : Nat) (f : Group → Group) : (s.setGroup g f).hdma = s.hdma := rfl
@[simp] theorem State.setGroup_free (s : State) (g : Nat) (f : Group → Group) : (s.setGroup g f).free = s.free := rfl
@[simp] theorem State.setGroup_out (s : State) (g : Nat) (f : Group → Group) : (s.setGroup g f).out = s.out := rfl
@[simp] theorem State.setGroup_pending (s : State) (g : Nat) (f : Group → Group) : (s.setGroup g f).pending = s.pending := rfl

/-! ### mapPorts -/

@[simp] theorem State.mapPorts_part (s : State) (f : Port → Port) : (s.mapPorts f).part = s.part := rfl
@[simp] theorem State.mapPorts_clk (s : State) (f : Port → Port) : (s.mapPorts f).clk = s.clk := rfl
@[simp] theorem State.mapPorts_role (s : State) (f : Port → Port) : (s.mapPorts f).role = s.role := rfl
@[simp] theorem State.mapPorts_teth (s : State) (f : Port → Port) : (s.mapPorts f).teth = s.teth := rfl
@[simp] theorem State.mapPorts_le (s : State) (f : Port → Port) : (s.mapPorts f).le = s.le := rfl
@[simp] theorem State.mapPorts_ports (s : State) (f : Port → Port) : (s.mapPorts f).ports = s.ports.map f := rfl
@[simp] theorem State.mapPorts_groups (s : State) (f : Port → Port) : (s.mapPorts f).groups = s.groups := rfl
@[simp] theorem State.mapPorts_sh (s : State) (f : Port → Port) : (s.mapPorts f).sh = s.sh := rfl
@[simp] theorem State.mapPorts_pf (s : State) (f : Port → Port) : (s.mapPorts f).pf = s.pf := rfl
@[simp] theorem State.mapPorts_pl (s : State) (f : Port → Port) : (s.mapPorts f).pl = s.pl := rfl
@[simp] theorem State.mapPorts_gn (s : State) (f : Port → Port) : (s.mapPorts f).gn = s.gn := rfl
@[simp] theorem State.mapPorts_gv (s : State) (f : Port → Port) : (s.mapPorts f).gv = s.gv := rfl
@[simp] theorem State.mapPorts_cr (s : State) (f : Port → Port) : (s.mapPorts f).cr = s.cr := rfl
@[simp] theorem State.mapPorts_cal (s : State) (f : Port → Port) : (s.mapPorts f).cal = s.cal := rfl
@[simp] theorem State.mapPorts_ev (s : State) (f : Port → Port) : (s.mapPorts f).ev = s.ev := rfl
@[simp] theorem State.mapPorts_rc (s : State) (f : Port → Port) : (s.mapPorts f).rc = s.rc := rfl
@[simp] theorem State.mapPorts_hq (s : State) (f : Port → Port) : (s.mapPorts f).hq = s.hq := rfl
@[simp] theorem State.mapPorts_se (s : State) (f : Port → Port) : (s.mapPorts f).se = s.se := rfl
@[simp] theorem State.mapPorts_pins (s : State) (f : Port → Port) : (s.mapPorts f).pins = s.pins := rfl
@[simp] theorem State.mapPorts_checkpoint (s : State) (f : Port → Port) : (s.mapPorts f).checkpoint = s.checkpoint := rfl
@[simp] theorem State.mapPorts_hostMem (s : State) (f : Port → Port) : (s.mapPorts f).hostMem = s.hostMem := rfl
@[simp] theorem State.mapPorts_hdma (s : State) (f : Port → Port) : (s.mapPorts f).hdma = s.hdma := rfl
@[simp] theorem State.mapPorts_free (s : State) (f : Port → Port) : (s.mapPorts f).free = s.free := rfl
@[simp] theorem State.mapPorts_out (s : State) (f : Port → Port) : (s.mapPorts f).out = s.out := rfl
@[simp] theorem State.mapPorts_pending (s : State) (f : Port → Port) : (s.mapPorts f).pending = s.pending := rfl

/-! ### mapGroups -/

@[simp] theorem State.mapGroups_part (s : State) (f : Group → Group) : (s.mapGroups f).part = s.part := rfl
@[simp] theorem State.mapGroups_clk (s : State) (f : Group → Group) : (s.mapGroups f).clk = s.clk := rfl
@[simp] theorem State.mapGroups_role (s : State) (f : Group → Group) : (s.mapGroups f).role = s.role := rfl
@[simp] theorem State.mapGroups_teth (s : State) (f : Group → Group) : (s.mapGroups f).teth = s.teth := rfl
@[simp] theorem State.mapGroups_le (s : State) (f : Group → Group) : (s.mapGroups f).le = s.le := rfl
@[simp] theorem State.mapGroups_ports (s : State) (f : Group → Group) : (s.mapGroups f).ports = s.ports := rfl
@[simp] theorem State.mapGroups_groups (s : State) (f : Group → Group) : (s.mapGroups f).groups = s.groups.map f := rfl
@[simp] theorem State.mapGroups_sh (s : State) (f : Group → Group) : (s.mapGroups f).sh = s.sh := rfl
@[simp] theorem State.mapGroups_pf (s : State) (f : Group → Group) : (s.mapGroups f).pf = s.pf := rfl
@[simp] theorem State.mapGroups_pl (s : State) (f : Group → Group) : (s.mapGroups f).pl = s.pl := rfl
@[simp] theorem State.mapGroups_gn (s : State) (f : Group → Group) : (s.mapGroups f).gn = s.gn := rfl
@[simp] theorem State.mapGroups_gv (s : State) (f : Group → Group) : (s.mapGroups f).gv = s.gv := rfl
@[simp] theorem State.mapGroups_cr (s : State) (f : Group → Group) : (s.mapGroups f).cr = s.cr := rfl
@[simp] theorem State.mapGroups_cal (s : State) (f : Group → Group) : (s.mapGroups f).cal = s.cal := rfl
@[simp] theorem State.mapGroups_ev (s : State) (f : Group → Group) : (s.mapGroups f).ev = s.ev := rfl
@[simp] theorem State.mapGroups_rc (s : State) (f : Group → Group) : (s.mapGroups f).rc = s.rc := rfl
@[simp] theorem State.mapGroups_hq (s : State) (f : Group → Group) : (s.mapGroups f).hq = s.hq := rfl
@[simp] theorem State.mapGroups_se (s : State) (f : Group → Group) : (s.mapGroups f).se = s.se := rfl
@[simp] theorem State.mapGroups_pins (s : State) (f : Group → Group) : (s.mapGroups f).pins = s.pins := rfl
@[simp] theorem State.mapGroups_checkpoint (s : State) (f : Group → Group) : (s.mapGroups f).checkpoint = s.checkpoint := rfl
@[simp] theorem State.mapGroups_hostMem (s : State) (f : Group → Group) : (s.mapGroups f).hostMem = s.hostMem := rfl
@[simp] theorem State.mapGroups_hdma (s : State) (f : Group → Group) : (s.mapGroups f).hdma = s.hdma := rfl
@[simp] theorem State.mapGroups_free (s : State) (f : Group → Group) : (s.mapGroups f).free = s.free := rfl
@[simp] theorem State.mapGroups_out (s : State) (f : Group → Group) : (s.mapGroups f).out = s.out := rfl
@[simp] theorem State.mapGroups_pending (s : State) (f : Group → Group) : (s.mapGroups f).pending = s.pending := rfl

/-! ### setTeth -/

@[simp] theorem State.setTeth_part (s : State) (f : Tether → Tether) : (s.setTeth f).part = s.part := rfl
@[simp] theorem State.setTeth_clk (s : State) (f : Tether → Tether) : (s.setTeth f).clk = s.clk := rfl
@[simp] theorem State.setTeth_role (s : State) (f : Tether → Tether) : (s.setTeth f).role = s.role := rfl
@[simp] theorem State.setTeth_teth (s : State) (f : Tether → Tether) : (s.setTeth f).teth = f s.teth := rfl
@[simp] theorem State.setTeth_le (s : State) (f : Tether → Tether) : (s.setTeth f).le = s.le := rfl
@[simp] theorem State.setTeth_ports (s : State) (f : Tether → Tether) : (s.setTeth f).ports = s.ports := rfl
@[simp] theorem State.setTeth_groups (s : State) (f : Tether → Tether) : (s.setTeth f).groups = s.groups := rfl
@[simp] theorem State.setTeth_sh (s : State) (f : Tether → Tether) : (s.setTeth f).sh = s.sh := rfl
@[simp] theorem State.setTeth_pf (s : State) (f : Tether → Tether) : (s.setTeth f).pf = s.pf := rfl
@[simp] theorem State.setTeth_pl (s : State) (f : Tether → Tether) : (s.setTeth f).pl = s.pl := rfl
@[simp] theorem State.setTeth_gn (s : State) (f : Tether → Tether) : (s.setTeth f).gn = s.gn := rfl
@[simp] theorem State.setTeth_gv (s : State) (f : Tether → Tether) : (s.setTeth f).gv = s.gv := rfl
@[simp] theorem State.setTeth_cr (s : State) (f : Tether → Tether) : (s.setTeth f).cr = s.cr := rfl
@[simp] theorem State.setTeth_cal (s : State) (f : Tether → Tether) : (s.setTeth f).cal = s.cal := rfl
@[simp] theorem State.setTeth_ev (s : State) (f : Tether → Tether) : (s.setTeth f).ev = s.ev := rfl
@[simp] theorem State.setTeth_rc (s : State) (f : Tether → Tether) : (s.setTeth f).rc = s.rc := rfl
@[simp] theorem State.setTeth_hq (s : State) (f : Tether → Tether) : (s.setTeth f).hq = s.hq := rfl
@[simp] theorem State.setTeth_se (s : State) (f : Tether → Tether) : (s.setTeth f).se = s.se := rfl
@[simp] theorem State.setTeth_pins (s : State) (f : Tether → Tether) : (s.setTeth f).pins = s.pins := rfl
@[simp] theorem State.setTeth_checkpoint (s : State) (f : Tether → Tether) : (s.setTeth f).checkpoint = s.checkpoint := rfl
@[simp] theorem State.setTeth_hostMem (s : State) (f : Tether → Tether) : (s.setTeth f).hostMem = s.hostMem := rfl
@[simp] theorem State.setTeth_hdma (s : State) (f : Tether → Tether) : (s.setTeth f).hdma = s.hdma := rfl
@[simp] theorem State.setTeth_free (s : State) (f : Tether → Tether) : (s.setTeth f).free = s.free := rfl
@[simp] theorem State.setTeth_out (s : State) (f : Tether → Tether) : (s.setTeth f).out = s.out := rfl
@[simp] theorem State.setTeth_pending (s : State) (f : Tether → Tether) : (s.setTeth f).pending = s.pending := rfl

/-! ### setPf -/

@[simp] theorem State.setPf_part (s : State) (f : Profile → Profile) : (s.setPf f).part = s.part := rfl
@[simp] theorem State.setPf_clk (s : State) (f : Profile → Profile) : (s.setPf f).clk = s.clk := rfl
@[simp] theorem State.setPf_role (s : State) (f : Profile → Profile) : (s.setPf f).role = s.role := rfl
@[simp] theorem State.setPf_teth (s : State) (f : Profile → Profile) : (s.setPf f).teth = s.teth := rfl
@[simp] theorem State.setPf_le (s : State) (f : Profile → Profile) : (s.setPf f).le = s.le := rfl
@[simp] theorem State.setPf_ports (s : State) (f : Profile → Profile) : (s.setPf f).ports = s.ports := rfl
@[simp] theorem State.setPf_groups (s : State) (f : Profile → Profile) : (s.setPf f).groups = s.groups := rfl
@[simp] theorem State.setPf_sh (s : State) (f : Profile → Profile) : (s.setPf f).sh = s.sh := rfl
@[simp] theorem State.setPf_pf (s : State) (f : Profile → Profile) : (s.setPf f).pf = f s.pf := rfl
@[simp] theorem State.setPf_pl (s : State) (f : Profile → Profile) : (s.setPf f).pl = s.pl := rfl
@[simp] theorem State.setPf_gn (s : State) (f : Profile → Profile) : (s.setPf f).gn = s.gn := rfl
@[simp] theorem State.setPf_gv (s : State) (f : Profile → Profile) : (s.setPf f).gv = s.gv := rfl
@[simp] theorem State.setPf_cr (s : State) (f : Profile → Profile) : (s.setPf f).cr = s.cr := rfl
@[simp] theorem State.setPf_cal (s : State) (f : Profile → Profile) : (s.setPf f).cal = s.cal := rfl
@[simp] theorem State.setPf_ev (s : State) (f : Profile → Profile) : (s.setPf f).ev = s.ev := rfl
@[simp] theorem State.setPf_rc (s : State) (f : Profile → Profile) : (s.setPf f).rc = s.rc := rfl
@[simp] theorem State.setPf_hq (s : State) (f : Profile → Profile) : (s.setPf f).hq = s.hq := rfl
@[simp] theorem State.setPf_se (s : State) (f : Profile → Profile) : (s.setPf f).se = s.se := rfl
@[simp] theorem State.setPf_pins (s : State) (f : Profile → Profile) : (s.setPf f).pins = s.pins := rfl
@[simp] theorem State.setPf_checkpoint (s : State) (f : Profile → Profile) : (s.setPf f).checkpoint = s.checkpoint := rfl
@[simp] theorem State.setPf_hostMem (s : State) (f : Profile → Profile) : (s.setPf f).hostMem = s.hostMem := rfl
@[simp] theorem State.setPf_hdma (s : State) (f : Profile → Profile) : (s.setPf f).hdma = s.hdma := rfl
@[simp] theorem State.setPf_free (s : State) (f : Profile → Profile) : (s.setPf f).free = s.free := rfl
@[simp] theorem State.setPf_out (s : State) (f : Profile → Profile) : (s.setPf f).out = s.out := rfl
@[simp] theorem State.setPf_pending (s : State) (f : Profile → Profile) : (s.setPf f).pending = s.pending := rfl

/-! ### setPl -/

@[simp] theorem State.setPl_part (s : State) (f : Planisher → Planisher) : (s.setPl f).part = s.part := rfl
@[simp] theorem State.setPl_clk (s : State) (f : Planisher → Planisher) : (s.setPl f).clk = s.clk := rfl
@[simp] theorem State.setPl_role (s : State) (f : Planisher → Planisher) : (s.setPl f).role = s.role := rfl
@[simp] theorem State.setPl_teth (s : State) (f : Planisher → Planisher) : (s.setPl f).teth = s.teth := rfl
@[simp] theorem State.setPl_le (s : State) (f : Planisher → Planisher) : (s.setPl f).le = s.le := rfl
@[simp] theorem State.setPl_ports (s : State) (f : Planisher → Planisher) : (s.setPl f).ports = s.ports := rfl
@[simp] theorem State.setPl_groups (s : State) (f : Planisher → Planisher) : (s.setPl f).groups = s.groups := rfl
@[simp] theorem State.setPl_sh (s : State) (f : Planisher → Planisher) : (s.setPl f).sh = s.sh := rfl
@[simp] theorem State.setPl_pf (s : State) (f : Planisher → Planisher) : (s.setPl f).pf = s.pf := rfl
@[simp] theorem State.setPl_pl (s : State) (f : Planisher → Planisher) : (s.setPl f).pl = f s.pl := rfl
@[simp] theorem State.setPl_gn (s : State) (f : Planisher → Planisher) : (s.setPl f).gn = s.gn := rfl
@[simp] theorem State.setPl_gv (s : State) (f : Planisher → Planisher) : (s.setPl f).gv = s.gv := rfl
@[simp] theorem State.setPl_cr (s : State) (f : Planisher → Planisher) : (s.setPl f).cr = s.cr := rfl
@[simp] theorem State.setPl_cal (s : State) (f : Planisher → Planisher) : (s.setPl f).cal = s.cal := rfl
@[simp] theorem State.setPl_ev (s : State) (f : Planisher → Planisher) : (s.setPl f).ev = s.ev := rfl
@[simp] theorem State.setPl_rc (s : State) (f : Planisher → Planisher) : (s.setPl f).rc = s.rc := rfl
@[simp] theorem State.setPl_hq (s : State) (f : Planisher → Planisher) : (s.setPl f).hq = s.hq := rfl
@[simp] theorem State.setPl_se (s : State) (f : Planisher → Planisher) : (s.setPl f).se = s.se := rfl
@[simp] theorem State.setPl_pins (s : State) (f : Planisher → Planisher) : (s.setPl f).pins = s.pins := rfl
@[simp] theorem State.setPl_checkpoint (s : State) (f : Planisher → Planisher) : (s.setPl f).checkpoint = s.checkpoint := rfl
@[simp] theorem State.setPl_hostMem (s : State) (f : Planisher → Planisher) : (s.setPl f).hostMem = s.hostMem := rfl
@[simp] theorem State.setPl_hdma (s : State) (f : Planisher → Planisher) : (s.setPl f).hdma = s.hdma := rfl
@[simp] theorem State.setPl_free (s : State) (f : Planisher → Planisher) : (s.setPl f).free = s.free := rfl
@[simp] theorem State.setPl_out (s : State) (f : Planisher → Planisher) : (s.setPl f).out = s.out := rfl
@[simp] theorem State.setPl_pending (s : State) (f : Planisher → Planisher) : (s.setPl f).pending = s.pending := rfl

/-! ### setGn -/

@[simp] theorem State.setGn_part (s : State) (f : Gulene → Gulene) : (s.setGn f).part = s.part := rfl
@[simp] theorem State.setGn_clk (s : State) (f : Gulene → Gulene) : (s.setGn f).clk = s.clk := rfl
@[simp] theorem State.setGn_role (s : State) (f : Gulene → Gulene) : (s.setGn f).role = s.role := rfl
@[simp] theorem State.setGn_teth (s : State) (f : Gulene → Gulene) : (s.setGn f).teth = s.teth := rfl
@[simp] theorem State.setGn_le (s : State) (f : Gulene → Gulene) : (s.setGn f).le = s.le := rfl
@[simp] theorem State.setGn_ports (s : State) (f : Gulene → Gulene) : (s.setGn f).ports = s.ports := rfl
@[simp] theorem State.setGn_groups (s : State) (f : Gulene → Gulene) : (s.setGn f).groups = s.groups := rfl
@[simp] theorem State.setGn_sh (s : State) (f : Gulene → Gulene) : (s.setGn f).sh = s.sh := rfl
@[simp] theorem State.setGn_pf (s : State) (f : Gulene → Gulene) : (s.setGn f).pf = s.pf := rfl
@[simp] theorem State.setGn_pl (s : State) (f : Gulene → Gulene) : (s.setGn f).pl = s.pl := rfl
@[simp] theorem State.setGn_gn (s : State) (f : Gulene → Gulene) : (s.setGn f).gn = f s.gn := rfl
@[simp] theorem State.setGn_gv (s : State) (f : Gulene → Gulene) : (s.setGn f).gv = s.gv := rfl
@[simp] theorem State.setGn_cr (s : State) (f : Gulene → Gulene) : (s.setGn f).cr = s.cr := rfl
@[simp] theorem State.setGn_cal (s : State) (f : Gulene → Gulene) : (s.setGn f).cal = s.cal := rfl
@[simp] theorem State.setGn_ev (s : State) (f : Gulene → Gulene) : (s.setGn f).ev = s.ev := rfl
@[simp] theorem State.setGn_rc (s : State) (f : Gulene → Gulene) : (s.setGn f).rc = s.rc := rfl
@[simp] theorem State.setGn_hq (s : State) (f : Gulene → Gulene) : (s.setGn f).hq = s.hq := rfl
@[simp] theorem State.setGn_se (s : State) (f : Gulene → Gulene) : (s.setGn f).se = s.se := rfl
@[simp] theorem State.setGn_pins (s : State) (f : Gulene → Gulene) : (s.setGn f).pins = s.pins := rfl
@[simp] theorem State.setGn_checkpoint (s : State) (f : Gulene → Gulene) : (s.setGn f).checkpoint = s.checkpoint := rfl
@[simp] theorem State.setGn_hostMem (s : State) (f : Gulene → Gulene) : (s.setGn f).hostMem = s.hostMem := rfl
@[simp] theorem State.setGn_hdma (s : State) (f : Gulene → Gulene) : (s.setGn f).hdma = s.hdma := rfl
@[simp] theorem State.setGn_free (s : State) (f : Gulene → Gulene) : (s.setGn f).free = s.free := rfl
@[simp] theorem State.setGn_out (s : State) (f : Gulene → Gulene) : (s.setGn f).out = s.out := rfl
@[simp] theorem State.setGn_pending (s : State) (f : Gulene → Gulene) : (s.setGn f).pending = s.pending := rfl

/-! ### setGv -/

@[simp] theorem State.setGv_part (s : State) (f : Governor → Governor) : (s.setGv f).part = s.part := rfl
@[simp] theorem State.setGv_clk (s : State) (f : Governor → Governor) : (s.setGv f).clk = s.clk := rfl
@[simp] theorem State.setGv_role (s : State) (f : Governor → Governor) : (s.setGv f).role = s.role := rfl
@[simp] theorem State.setGv_teth (s : State) (f : Governor → Governor) : (s.setGv f).teth = s.teth := rfl
@[simp] theorem State.setGv_le (s : State) (f : Governor → Governor) : (s.setGv f).le = s.le := rfl
@[simp] theorem State.setGv_ports (s : State) (f : Governor → Governor) : (s.setGv f).ports = s.ports := rfl
@[simp] theorem State.setGv_groups (s : State) (f : Governor → Governor) : (s.setGv f).groups = s.groups := rfl
@[simp] theorem State.setGv_sh (s : State) (f : Governor → Governor) : (s.setGv f).sh = s.sh := rfl
@[simp] theorem State.setGv_pf (s : State) (f : Governor → Governor) : (s.setGv f).pf = s.pf := rfl
@[simp] theorem State.setGv_pl (s : State) (f : Governor → Governor) : (s.setGv f).pl = s.pl := rfl
@[simp] theorem State.setGv_gn (s : State) (f : Governor → Governor) : (s.setGv f).gn = s.gn := rfl
@[simp] theorem State.setGv_gv (s : State) (f : Governor → Governor) : (s.setGv f).gv = f s.gv := rfl
@[simp] theorem State.setGv_cr (s : State) (f : Governor → Governor) : (s.setGv f).cr = s.cr := rfl
@[simp] theorem State.setGv_cal (s : State) (f : Governor → Governor) : (s.setGv f).cal = s.cal := rfl
@[simp] theorem State.setGv_ev (s : State) (f : Governor → Governor) : (s.setGv f).ev = s.ev := rfl
@[simp] theorem State.setGv_rc (s : State) (f : Governor → Governor) : (s.setGv f).rc = s.rc := rfl
@[simp] theorem State.setGv_hq (s : State) (f : Governor → Governor) : (s.setGv f).hq = s.hq := rfl
@[simp] theorem State.setGv_se (s : State) (f : Governor → Governor) : (s.setGv f).se = s.se := rfl
@[simp] theorem State.setGv_pins (s : State) (f : Governor → Governor) : (s.setGv f).pins = s.pins := rfl
@[simp] theorem State.setGv_checkpoint (s : State) (f : Governor → Governor) : (s.setGv f).checkpoint = s.checkpoint := rfl
@[simp] theorem State.setGv_hostMem (s : State) (f : Governor → Governor) : (s.setGv f).hostMem = s.hostMem := rfl
@[simp] theorem State.setGv_hdma (s : State) (f : Governor → Governor) : (s.setGv f).hdma = s.hdma := rfl
@[simp] theorem State.setGv_free (s : State) (f : Governor → Governor) : (s.setGv f).free = s.free := rfl
@[simp] theorem State.setGv_out (s : State) (f : Governor → Governor) : (s.setGv f).out = s.out := rfl
@[simp] theorem State.setGv_pending (s : State) (f : Governor → Governor) : (s.setGv f).pending = s.pending := rfl

/-! ### setCr -/

@[simp] theorem State.setCr_part (s : State) (f : Crucible → Crucible) : (s.setCr f).part = s.part := rfl
@[simp] theorem State.setCr_clk (s : State) (f : Crucible → Crucible) : (s.setCr f).clk = s.clk := rfl
@[simp] theorem State.setCr_role (s : State) (f : Crucible → Crucible) : (s.setCr f).role = s.role := rfl
@[simp] theorem State.setCr_teth (s : State) (f : Crucible → Crucible) : (s.setCr f).teth = s.teth := rfl
@[simp] theorem State.setCr_le (s : State) (f : Crucible → Crucible) : (s.setCr f).le = s.le := rfl
@[simp] theorem State.setCr_ports (s : State) (f : Crucible → Crucible) : (s.setCr f).ports = s.ports := rfl
@[simp] theorem State.setCr_groups (s : State) (f : Crucible → Crucible) : (s.setCr f).groups = s.groups := rfl
@[simp] theorem State.setCr_sh (s : State) (f : Crucible → Crucible) : (s.setCr f).sh = s.sh := rfl
@[simp] theorem State.setCr_pf (s : State) (f : Crucible → Crucible) : (s.setCr f).pf = s.pf := rfl
@[simp] theorem State.setCr_pl (s : State) (f : Crucible → Crucible) : (s.setCr f).pl = s.pl := rfl
@[simp] theorem State.setCr_gn (s : State) (f : Crucible → Crucible) : (s.setCr f).gn = s.gn := rfl
@[simp] theorem State.setCr_gv (s : State) (f : Crucible → Crucible) : (s.setCr f).gv = s.gv := rfl
@[simp] theorem State.setCr_cr (s : State) (f : Crucible → Crucible) : (s.setCr f).cr = f s.cr := rfl
@[simp] theorem State.setCr_cal (s : State) (f : Crucible → Crucible) : (s.setCr f).cal = s.cal := rfl
@[simp] theorem State.setCr_ev (s : State) (f : Crucible → Crucible) : (s.setCr f).ev = s.ev := rfl
@[simp] theorem State.setCr_rc (s : State) (f : Crucible → Crucible) : (s.setCr f).rc = s.rc := rfl
@[simp] theorem State.setCr_hq (s : State) (f : Crucible → Crucible) : (s.setCr f).hq = s.hq := rfl
@[simp] theorem State.setCr_se (s : State) (f : Crucible → Crucible) : (s.setCr f).se = s.se := rfl
@[simp] theorem State.setCr_pins (s : State) (f : Crucible → Crucible) : (s.setCr f).pins = s.pins := rfl
@[simp] theorem State.setCr_checkpoint (s : State) (f : Crucible → Crucible) : (s.setCr f).checkpoint = s.checkpoint := rfl
@[simp] theorem State.setCr_hostMem (s : State) (f : Crucible → Crucible) : (s.setCr f).hostMem = s.hostMem := rfl
@[simp] theorem State.setCr_hdma (s : State) (f : Crucible → Crucible) : (s.setCr f).hdma = s.hdma := rfl
@[simp] theorem State.setCr_free (s : State) (f : Crucible → Crucible) : (s.setCr f).free = s.free := rfl
@[simp] theorem State.setCr_out (s : State) (f : Crucible → Crucible) : (s.setCr f).out = s.out := rfl
@[simp] theorem State.setCr_pending (s : State) (f : Crucible → Crucible) : (s.setCr f).pending = s.pending := rfl

/-! ### setCal -/

@[simp] theorem State.setCal_part (s : State) (f : CalPage → CalPage) : (s.setCal f).part = s.part := rfl
@[simp] theorem State.setCal_clk (s : State) (f : CalPage → CalPage) : (s.setCal f).clk = s.clk := rfl
@[simp] theorem State.setCal_role (s : State) (f : CalPage → CalPage) : (s.setCal f).role = s.role := rfl
@[simp] theorem State.setCal_teth (s : State) (f : CalPage → CalPage) : (s.setCal f).teth = s.teth := rfl
@[simp] theorem State.setCal_le (s : State) (f : CalPage → CalPage) : (s.setCal f).le = s.le := rfl
@[simp] theorem State.setCal_ports (s : State) (f : CalPage → CalPage) : (s.setCal f).ports = s.ports := rfl
@[simp] theorem State.setCal_groups (s : State) (f : CalPage → CalPage) : (s.setCal f).groups = s.groups := rfl
@[simp] theorem State.setCal_sh (s : State) (f : CalPage → CalPage) : (s.setCal f).sh = s.sh := rfl
@[simp] theorem State.setCal_pf (s : State) (f : CalPage → CalPage) : (s.setCal f).pf = s.pf := rfl
@[simp] theorem State.setCal_pl (s : State) (f : CalPage → CalPage) : (s.setCal f).pl = s.pl := rfl
@[simp] theorem State.setCal_gn (s : State) (f : CalPage → CalPage) : (s.setCal f).gn = s.gn := rfl
@[simp] theorem State.setCal_gv (s : State) (f : CalPage → CalPage) : (s.setCal f).gv = s.gv := rfl
@[simp] theorem State.setCal_cr (s : State) (f : CalPage → CalPage) : (s.setCal f).cr = s.cr := rfl
@[simp] theorem State.setCal_cal (s : State) (f : CalPage → CalPage) : (s.setCal f).cal = f s.cal := rfl
@[simp] theorem State.setCal_ev (s : State) (f : CalPage → CalPage) : (s.setCal f).ev = s.ev := rfl
@[simp] theorem State.setCal_rc (s : State) (f : CalPage → CalPage) : (s.setCal f).rc = s.rc := rfl
@[simp] theorem State.setCal_hq (s : State) (f : CalPage → CalPage) : (s.setCal f).hq = s.hq := rfl
@[simp] theorem State.setCal_se (s : State) (f : CalPage → CalPage) : (s.setCal f).se = s.se := rfl
@[simp] theorem State.setCal_pins (s : State) (f : CalPage → CalPage) : (s.setCal f).pins = s.pins := rfl
@[simp] theorem State.setCal_checkpoint (s : State) (f : CalPage → CalPage) : (s.setCal f).checkpoint = s.checkpoint := rfl
@[simp] theorem State.setCal_hostMem (s : State) (f : CalPage → CalPage) : (s.setCal f).hostMem = s.hostMem := rfl
@[simp] theorem State.setCal_hdma (s : State) (f : CalPage → CalPage) : (s.setCal f).hdma = s.hdma := rfl
@[simp] theorem State.setCal_free (s : State) (f : CalPage → CalPage) : (s.setCal f).free = s.free := rfl
@[simp] theorem State.setCal_out (s : State) (f : CalPage → CalPage) : (s.setCal f).out = s.out := rfl
@[simp] theorem State.setCal_pending (s : State) (f : CalPage → CalPage) : (s.setCal f).pending = s.pending := rfl

/-! ### setEv -/

@[simp] theorem State.setEv_part (s : State) (f : Recorder → Recorder) : (s.setEv f).part = s.part := rfl
@[simp] theorem State.setEv_clk (s : State) (f : Recorder → Recorder) : (s.setEv f).clk = s.clk := rfl
@[simp] theorem State.setEv_role (s : State) (f : Recorder → Recorder) : (s.setEv f).role = s.role := rfl
@[simp] theorem State.setEv_teth (s : State) (f : Recorder → Recorder) : (s.setEv f).teth = s.teth := rfl
@[simp] theorem State.setEv_le (s : State) (f : Recorder → Recorder) : (s.setEv f).le = s.le := rfl
@[simp] theorem State.setEv_ports (s : State) (f : Recorder → Recorder) : (s.setEv f).ports = s.ports := rfl
@[simp] theorem State.setEv_groups (s : State) (f : Recorder → Recorder) : (s.setEv f).groups = s.groups := rfl
@[simp] theorem State.setEv_sh (s : State) (f : Recorder → Recorder) : (s.setEv f).sh = s.sh := rfl
@[simp] theorem State.setEv_pf (s : State) (f : Recorder → Recorder) : (s.setEv f).pf = s.pf := rfl
@[simp] theorem State.setEv_pl (s : State) (f : Recorder → Recorder) : (s.setEv f).pl = s.pl := rfl
@[simp] theorem State.setEv_gn (s : State) (f : Recorder → Recorder) : (s.setEv f).gn = s.gn := rfl
@[simp] theorem State.setEv_gv (s : State) (f : Recorder → Recorder) : (s.setEv f).gv = s.gv := rfl
@[simp] theorem State.setEv_cr (s : State) (f : Recorder → Recorder) : (s.setEv f).cr = s.cr := rfl
@[simp] theorem State.setEv_cal (s : State) (f : Recorder → Recorder) : (s.setEv f).cal = s.cal := rfl
@[simp] theorem State.setEv_ev (s : State) (f : Recorder → Recorder) : (s.setEv f).ev = f s.ev := rfl
@[simp] theorem State.setEv_rc (s : State) (f : Recorder → Recorder) : (s.setEv f).rc = s.rc := rfl
@[simp] theorem State.setEv_hq (s : State) (f : Recorder → Recorder) : (s.setEv f).hq = s.hq := rfl
@[simp] theorem State.setEv_se (s : State) (f : Recorder → Recorder) : (s.setEv f).se = s.se := rfl
@[simp] theorem State.setEv_pins (s : State) (f : Recorder → Recorder) : (s.setEv f).pins = s.pins := rfl
@[simp] theorem State.setEv_checkpoint (s : State) (f : Recorder → Recorder) : (s.setEv f).checkpoint = s.checkpoint := rfl
@[simp] theorem State.setEv_hostMem (s : State) (f : Recorder → Recorder) : (s.setEv f).hostMem = s.hostMem := rfl
@[simp] theorem State.setEv_hdma (s : State) (f : Recorder → Recorder) : (s.setEv f).hdma = s.hdma := rfl
@[simp] theorem State.setEv_free (s : State) (f : Recorder → Recorder) : (s.setEv f).free = s.free := rfl
@[simp] theorem State.setEv_out (s : State) (f : Recorder → Recorder) : (s.setEv f).out = s.out := rfl
@[simp] theorem State.setEv_pending (s : State) (f : Recorder → Recorder) : (s.setEv f).pending = s.pending := rfl

/-! ### setRc -/

@[simp] theorem State.setRc_part (s : State) (f : ResetCtl → ResetCtl) : (s.setRc f).part = s.part := rfl
@[simp] theorem State.setRc_clk (s : State) (f : ResetCtl → ResetCtl) : (s.setRc f).clk = s.clk := rfl
@[simp] theorem State.setRc_role (s : State) (f : ResetCtl → ResetCtl) : (s.setRc f).role = s.role := rfl
@[simp] theorem State.setRc_teth (s : State) (f : ResetCtl → ResetCtl) : (s.setRc f).teth = s.teth := rfl
@[simp] theorem State.setRc_le (s : State) (f : ResetCtl → ResetCtl) : (s.setRc f).le = s.le := rfl
@[simp] theorem State.setRc_ports (s : State) (f : ResetCtl → ResetCtl) : (s.setRc f).ports = s.ports := rfl
@[simp] theorem State.setRc_groups (s : State) (f : ResetCtl → ResetCtl) : (s.setRc f).groups = s.groups := rfl
@[simp] theorem State.setRc_sh (s : State) (f : ResetCtl → ResetCtl) : (s.setRc f).sh = s.sh := rfl
@[simp] theorem State.setRc_pf (s : State) (f : ResetCtl → ResetCtl) : (s.setRc f).pf = s.pf := rfl
@[simp] theorem State.setRc_pl (s : State) (f : ResetCtl → ResetCtl) : (s.setRc f).pl = s.pl := rfl
@[simp] theorem State.setRc_gn (s : State) (f : ResetCtl → ResetCtl) : (s.setRc f).gn = s.gn := rfl
@[simp] theorem State.setRc_gv (s : State) (f : ResetCtl → ResetCtl) : (s.setRc f).gv = s.gv := rfl
@[simp] theorem State.setRc_cr (s : State) (f : ResetCtl → ResetCtl) : (s.setRc f).cr = s.cr := rfl
@[simp] theorem State.setRc_cal (s : State) (f : ResetCtl → ResetCtl) : (s.setRc f).cal = s.cal := rfl
@[simp] theorem State.setRc_ev (s : State) (f : ResetCtl → ResetCtl) : (s.setRc f).ev = s.ev := rfl
@[simp] theorem State.setRc_rc (s : State) (f : ResetCtl → ResetCtl) : (s.setRc f).rc = f s.rc := rfl
@[simp] theorem State.setRc_hq (s : State) (f : ResetCtl → ResetCtl) : (s.setRc f).hq = s.hq := rfl
@[simp] theorem State.setRc_se (s : State) (f : ResetCtl → ResetCtl) : (s.setRc f).se = s.se := rfl
@[simp] theorem State.setRc_pins (s : State) (f : ResetCtl → ResetCtl) : (s.setRc f).pins = s.pins := rfl
@[simp] theorem State.setRc_checkpoint (s : State) (f : ResetCtl → ResetCtl) : (s.setRc f).checkpoint = s.checkpoint := rfl
@[simp] theorem State.setRc_hostMem (s : State) (f : ResetCtl → ResetCtl) : (s.setRc f).hostMem = s.hostMem := rfl
@[simp] theorem State.setRc_hdma (s : State) (f : ResetCtl → ResetCtl) : (s.setRc f).hdma = s.hdma := rfl
@[simp] theorem State.setRc_free (s : State) (f : ResetCtl → ResetCtl) : (s.setRc f).free = s.free := rfl
@[simp] theorem State.setRc_out (s : State) (f : ResetCtl → ResetCtl) : (s.setRc f).out = s.out := rfl
@[simp] theorem State.setRc_pending (s : State) (f : ResetCtl → ResetCtl) : (s.setRc f).pending = s.pending := rfl

/-! ### setHq -/

@[simp] theorem State.setHq_part (s : State) (f : HostIf → HostIf) : (s.setHq f).part = s.part := rfl
@[simp] theorem State.setHq_clk (s : State) (f : HostIf → HostIf) : (s.setHq f).clk = s.clk := rfl
@[simp] theorem State.setHq_role (s : State) (f : HostIf → HostIf) : (s.setHq f).role = s.role := rfl
@[simp] theorem State.setHq_teth (s : State) (f : HostIf → HostIf) : (s.setHq f).teth = s.teth := rfl
@[simp] theorem State.setHq_le (s : State) (f : HostIf → HostIf) : (s.setHq f).le = s.le := rfl
@[simp] theorem State.setHq_ports (s : State) (f : HostIf → HostIf) : (s.setHq f).ports = s.ports := rfl
@[simp] theorem State.setHq_groups (s : State) (f : HostIf → HostIf) : (s.setHq f).groups = s.groups := rfl
@[simp] theorem State.setHq_sh (s : State) (f : HostIf → HostIf) : (s.setHq f).sh = s.sh := rfl
@[simp] theorem State.setHq_pf (s : State) (f : HostIf → HostIf) : (s.setHq f).pf = s.pf := rfl
@[simp] theorem State.setHq_pl (s : State) (f : HostIf → HostIf) : (s.setHq f).pl = s.pl := rfl
@[simp] theorem State.setHq_gn (s : State) (f : HostIf → HostIf) : (s.setHq f).gn = s.gn := rfl
@[simp] theorem State.setHq_gv (s : State) (f : HostIf → HostIf) : (s.setHq f).gv = s.gv := rfl
@[simp] theorem State.setHq_cr (s : State) (f : HostIf → HostIf) : (s.setHq f).cr = s.cr := rfl
@[simp] theorem State.setHq_cal (s : State) (f : HostIf → HostIf) : (s.setHq f).cal = s.cal := rfl
@[simp] theorem State.setHq_ev (s : State) (f : HostIf → HostIf) : (s.setHq f).ev = s.ev := rfl
@[simp] theorem State.setHq_rc (s : State) (f : HostIf → HostIf) : (s.setHq f).rc = s.rc := rfl
@[simp] theorem State.setHq_hq (s : State) (f : HostIf → HostIf) : (s.setHq f).hq = f s.hq := rfl
@[simp] theorem State.setHq_se (s : State) (f : HostIf → HostIf) : (s.setHq f).se = s.se := rfl
@[simp] theorem State.setHq_pins (s : State) (f : HostIf → HostIf) : (s.setHq f).pins = s.pins := rfl
@[simp] theorem State.setHq_checkpoint (s : State) (f : HostIf → HostIf) : (s.setHq f).checkpoint = s.checkpoint := rfl
@[simp] theorem State.setHq_hostMem (s : State) (f : HostIf → HostIf) : (s.setHq f).hostMem = s.hostMem := rfl
@[simp] theorem State.setHq_hdma (s : State) (f : HostIf → HostIf) : (s.setHq f).hdma = s.hdma := rfl
@[simp] theorem State.setHq_free (s : State) (f : HostIf → HostIf) : (s.setHq f).free = s.free := rfl
@[simp] theorem State.setHq_out (s : State) (f : HostIf → HostIf) : (s.setHq f).out = s.out := rfl
@[simp] theorem State.setHq_pending (s : State) (f : HostIf → HostIf) : (s.setHq f).pending = s.pending := rfl

/-! ### setSe -/

@[simp] theorem State.setSe_part (s : State) (f : Security → Security) : (s.setSe f).part = s.part := rfl
@[simp] theorem State.setSe_clk (s : State) (f : Security → Security) : (s.setSe f).clk = s.clk := rfl
@[simp] theorem State.setSe_role (s : State) (f : Security → Security) : (s.setSe f).role = s.role := rfl
@[simp] theorem State.setSe_teth (s : State) (f : Security → Security) : (s.setSe f).teth = s.teth := rfl
@[simp] theorem State.setSe_le (s : State) (f : Security → Security) : (s.setSe f).le = s.le := rfl
@[simp] theorem State.setSe_ports (s : State) (f : Security → Security) : (s.setSe f).ports = s.ports := rfl
@[simp] theorem State.setSe_groups (s : State) (f : Security → Security) : (s.setSe f).groups = s.groups := rfl
@[simp] theorem State.setSe_sh (s : State) (f : Security → Security) : (s.setSe f).sh = s.sh := rfl
@[simp] theorem State.setSe_pf (s : State) (f : Security → Security) : (s.setSe f).pf = s.pf := rfl
@[simp] theorem State.setSe_pl (s : State) (f : Security → Security) : (s.setSe f).pl = s.pl := rfl
@[simp] theorem State.setSe_gn (s : State) (f : Security → Security) : (s.setSe f).gn = s.gn := rfl
@[simp] theorem State.setSe_gv (s : State) (f : Security → Security) : (s.setSe f).gv = s.gv := rfl
@[simp] theorem State.setSe_cr (s : State) (f : Security → Security) : (s.setSe f).cr = s.cr := rfl
@[simp] theorem State.setSe_cal (s : State) (f : Security → Security) : (s.setSe f).cal = s.cal := rfl
@[simp] theorem State.setSe_ev (s : State) (f : Security → Security) : (s.setSe f).ev = s.ev := rfl
@[simp] theorem State.setSe_rc (s : State) (f : Security → Security) : (s.setSe f).rc = s.rc := rfl
@[simp] theorem State.setSe_hq (s : State) (f : Security → Security) : (s.setSe f).hq = s.hq := rfl
@[simp] theorem State.setSe_se (s : State) (f : Security → Security) : (s.setSe f).se = f s.se := rfl
@[simp] theorem State.setSe_pins (s : State) (f : Security → Security) : (s.setSe f).pins = s.pins := rfl
@[simp] theorem State.setSe_checkpoint (s : State) (f : Security → Security) : (s.setSe f).checkpoint = s.checkpoint := rfl
@[simp] theorem State.setSe_hostMem (s : State) (f : Security → Security) : (s.setSe f).hostMem = s.hostMem := rfl
@[simp] theorem State.setSe_hdma (s : State) (f : Security → Security) : (s.setSe f).hdma = s.hdma := rfl
@[simp] theorem State.setSe_free (s : State) (f : Security → Security) : (s.setSe f).free = s.free := rfl
@[simp] theorem State.setSe_out (s : State) (f : Security → Security) : (s.setSe f).out = s.out := rfl
@[simp] theorem State.setSe_pending (s : State) (f : Security → Security) : (s.setSe f).pending = s.pending := rfl

/-! ### setPins -/

@[simp] theorem State.setPins_part (s : State) (f : Pins → Pins) : (s.setPins f).part = s.part := rfl
@[simp] theorem State.setPins_clk (s : State) (f : Pins → Pins) : (s.setPins f).clk = s.clk := rfl
@[simp] theorem State.setPins_role (s : State) (f : Pins → Pins) : (s.setPins f).role = s.role := rfl
@[simp] theorem State.setPins_teth (s : State) (f : Pins → Pins) : (s.setPins f).teth = s.teth := rfl
@[simp] theorem State.setPins_le (s : State) (f : Pins → Pins) : (s.setPins f).le = s.le := rfl
@[simp] theorem State.setPins_ports (s : State) (f : Pins → Pins) : (s.setPins f).ports = s.ports := rfl
@[simp] theorem State.setPins_groups (s : State) (f : Pins → Pins) : (s.setPins f).groups = s.groups := rfl
@[simp] theorem State.setPins_sh (s : State) (f : Pins → Pins) : (s.setPins f).sh = s.sh := rfl
@[simp] theorem State.setPins_pf (s : State) (f : Pins → Pins) : (s.setPins f).pf = s.pf := rfl
@[simp] theorem State.setPins_pl (s : State) (f : Pins → Pins) : (s.setPins f).pl = s.pl := rfl
@[simp] theorem State.setPins_gn (s : State) (f : Pins → Pins) : (s.setPins f).gn = s.gn := rfl
@[simp] theorem State.setPins_gv (s : State) (f : Pins → Pins) : (s.setPins f).gv = s.gv := rfl
@[simp] theorem State.setPins_cr (s : State) (f : Pins → Pins) : (s.setPins f).cr = s.cr := rfl
@[simp] theorem State.setPins_cal (s : State) (f : Pins → Pins) : (s.setPins f).cal = s.cal := rfl
@[simp] theorem State.setPins_ev (s : State) (f : Pins → Pins) : (s.setPins f).ev = s.ev := rfl
@[simp] theorem State.setPins_rc (s : State) (f : Pins → Pins) : (s.setPins f).rc = s.rc := rfl
@[simp] theorem State.setPins_hq (s : State) (f : Pins → Pins) : (s.setPins f).hq = s.hq := rfl
@[simp] theorem State.setPins_se (s : State) (f : Pins → Pins) : (s.setPins f).se = s.se := rfl
@[simp] theorem State.setPins_pins (s : State) (f : Pins → Pins) : (s.setPins f).pins = f s.pins := rfl
@[simp] theorem State.setPins_checkpoint (s : State) (f : Pins → Pins) : (s.setPins f).checkpoint = s.checkpoint := rfl
@[simp] theorem State.setPins_hostMem (s : State) (f : Pins → Pins) : (s.setPins f).hostMem = s.hostMem := rfl
@[simp] theorem State.setPins_hdma (s : State) (f : Pins → Pins) : (s.setPins f).hdma = s.hdma := rfl
@[simp] theorem State.setPins_free (s : State) (f : Pins → Pins) : (s.setPins f).free = s.free := rfl
@[simp] theorem State.setPins_out (s : State) (f : Pins → Pins) : (s.setPins f).out = s.out := rfl
@[simp] theorem State.setPins_pending (s : State) (f : Pins → Pins) : (s.setPins f).pending = s.pending := rfl

/-! ### Items -/

theorem nth_upd {α : Type} (l : List α) (k j : Nat) (f : α → α) (d : α) :
    nth (upd l k f) j d = if k = j ∧ j < l.length then f (nth l j d) else nth l j d := by
  unfold nth upd
  by_cases h : k = j
  · subst h
    by_cases g : k < l.length <;> simp [g]
  · simp [h]

@[simp] theorem State.port_setPort (s : State) (p q : Nat) (f : Port → Port) :
    (s.setPort p f).port q = if p = q ∧ q < s.ports.length then f (s.port q) else s.port q := nth_upd _ _ _ _ _

@[simp] theorem State.group_setGroup (s : State) (g j : Nat) (f : Group → Group) :
    (s.setGroup g f).group j = if g = j ∧ j < s.groups.length then f (s.group j) else s.group j := nth_upd _ _ _ _ _

@[simp] theorem State.slot_setSlot (s : State) (k j : Nat) (f : Slot → Slot) :
    (s.setSlot k f).slot j = if k = j ∧ j < s.le.slots.length then f (s.slot j) else s.slot j := nth_upd _ _ _ _ _

end Sys2Proof.Machine
end

