-- ==== Sys2Proof/WellFormed.lean ====
section
/-!
DEFINITION. Well-formed commands: every operand fits the field, the register or the line it arrives by. exec gives every
command its meaning whether or not it is well-formed.
-/

namespace Sys2Proof

/-- A number fits an unsigned field of w bits. -/
def fitsU (w x : Nat) : Bool := decide (x < 2 ^ w)

/-- A number fits a signed field of w bits (R13). -/
def fitsS (w : Nat) (x : Int) : Bool := decide (-(2 ^ (w - 1)) ≤ x) && decide (x < 2 ^ (w - 1))

/-- The fields of a completion that name its command (Table 15-4). -/
def CmdHdr.fits (h : CmdHdr) : Bool := fitsU 2 h.queue && fitsU 16 h.sqIndex && fitsU 16 h.tag

/-- A buffer parameter (R363). -/
def Buf.fits (b : Buf) : Bool := fitsU 64 b.addr && fitsU 32 b.len

/-- The failed request names one of the four queues or a command (R346). -/
def DmaTarget.fits : DmaTarget → Bool
  | .queue q => fitsU 2 q
  | .events => true
  | .buffer h => h.fits

/-- A fast frame (R125, R127). -/
def FastFrame.fits (f : FastFrame) : Bool :=
  decide (f.syncs.length = 4) && f.syncs.all (fitsU 2) && fitsU 8 f.type && fitsU 40 f.hdr && decide (f.payload.length = 16) &&
    fitsU 16 f.crc

/-- A service frame (R130). -/
def SvcFrame.fits (f : SvcFrame) : Bool :=
  decide (f.syncs.length = 3) && f.syncs.all (fitsU 2) && fitsU 8 f.type && fitsU 40 f.hdr && fitsU 32 f.data &&
    fitsU 32 f.mask && fitsU 16 f.crc

/-- What training finds: sync headers, a 40-bit header, at most 16 arrivals, each at a cycle of a frame period (R135). -/
def Training.fits (d : Training) : Bool :=
  d.heads.all (fitsU 2) && fitsU 40 d.answer && decide (d.arrivals.length ≤ 16) && d.arrivals.all (fitsU 9)

/-- A port and sync headers of 2 bits (R121). -/
def PortHeads.fits (r : PortHeads) : Bool := fitsU 8 r.port && r.heads.all (fitsU 2)

/-- The head of a Sync (R254). -/
def PtpHead.fits (h : PtpHead) : Bool := fitsU 8 h.domain && fitsU 64 h.source && fitsS 8 h.logInterval

/-- A TETHER_BULK frame (R278). -/
def BulkFrame.fits (f : BulkFrame) : Bool :=
  decide (f.syncs.length = 21) && f.syncs.all (fitsU 2) && fitsU 8 f.type && fitsU 40 f.hdr && decide (f.data.length = 112) &&
    fitsU 32 f.crc

/-- A telemetry signal of Table 12-6. -/
def Sig.fits : Sig → Bool
  | .port p ch => decide (p < 80) && decide (ch < 8)
  | .group g k => decide (g < 16) && decide (k < 4)
  | .shelf => true

/-- Learning settings (Table 16-11). -/
def PfSet.fits (x : PfSet) : Bool :=
  fitsU 8 x.avgK && fitsU 8 x.binExp && fitsU 8 x.lockRho && fitsU 8 x.confMin && fitsS 8 x.lossQ && fitsU 8 x.snapPct
    && fitsU 8 x.coastMaxS && fitsU 32 x.minUs && fitsU 32 x.maxUs && fitsU 32 x.spreadMax && fitsU 16 x.minCount
    && fitsU 16 x.lossMs

/-- A Gulene datagram (R257, R258). -/
def GnMsg.fits (m : GnMsg) : Bool :=
  fitsU 128 m.src && fitsU 16 m.sport && fitsU 32 m.rack && fitsU 16 m.sender && fitsU 8 m.keyId && fitsU 32 m.seq
    && fitsS 64 m.origin && decide (m.tag.length = 16)

/-- A request to the Ethernet port (R249). -/
def NetReq.fits : NetReq → Bool
  | .solicit t => fitsU 128 t
  | .arp t => fitsU 32 t
  | .echo t => fitsU 128 t
  | .router p => fitsU 64 p

/-- The fields of an Announce. -/
def Announced.fits (a : Announced) : Bool :=
  fitsU 8 a.domain && fitsU 8 a.priority1 && fitsU 8 a.clockClass && fitsU 8 a.accuracy && fitsU 16 a.variance
    && fitsU 8 a.priority2 && fitsU 64 a.identity

/-- Every operand fits. -/
def wellFormed (c : Instr) : Bool :=
  match c with
  | .devIdentify h buf => h.fits && buf.fits
  | .devCaps h buf => h.fits && buf.fits
  | .queueCreate h qid vec coalCnt coalUs sqBase cqBase sqN cqN => h.fits && fitsU 8 qid && fitsU 8 vec && fitsU 8 coalCnt && fitsU 8 coalUs && fitsU 64 sqBase && fitsU 64 cqBase && fitsU 32 sqN && fitsU 32 cqN
  | .queueDelete h qid => h.fits && fitsU 8 qid
  | .loopOpen h slot => h.fits && fitsU 8 slot
  | .loopClose h slot preload value => h.fits && fitsU 8 slot && fitsU 8 preload && fitsS 32 value
  | .loopLoad h buf count => h.fits && buf.fits && fitsU 16 count
  | .loopRead h buf first count => h.fits && buf.fits && fitsU 8 first && fitsU 16 count
  | .loopSchedule h buf count => h.fits && buf.fits && fitsU 16 count
  | .groupEnable h group => h.fits && fitsU 8 group
  | .groupQuench h group => h.fits && fitsU 8 group
  | .busVset h vset slew => h.fits && fitsS 32 vset && fitsU 32 slew
  | .cellRetire h port => h.fits && fitsU 8 port
  | .cellRestore h port _ => h.fits && fitsU 8 port
  | .storeMode h mode => h.fits && fitsU 8 mode
  | .planLimits h buf => h.fits && buf.fits
  | .planLoad h buf count binExp actMode weight timeoutMs actTime => h.fits && buf.fits && fitsU 16 count && fitsU 8 binExp && fitsU 8 actMode && fitsU 16 weight && fitsU 32 timeoutMs && fitsS 64 actTime
  | .profileStart h set => h.fits && set.fits
  | .profileStop h => h.fits
  | .profileClear h => h.fits
  | .profileSet h set => h.fits && set.fits
  | .budgetSet h budgetW validMs => h.fits && fitsS 32 budgetW && fitsU 32 validMs
  | .govMode h setting value => h.fits && fitsU 8 setting && fitsU 8 value
  | .grantMode h value => h.fits && fitsU 8 value
  | .keyLoad h buf => h.fits && buf.fits
  | .captureArm h buf count => h.fits && buf.fits && fitsU 16 count
  | .captureTrigger h => h.fits
  | .captureFreeze h => h.fits
  | .captureRelease h => h.fits
  | .captureRead h buf channel start count => h.fits && buf.fits && fitsU 16 channel && fitsU 64 start && fitsU 32 count
  | .logRead h buf source flush start count => h.fits && buf.fits && fitsU 8 source && fitsU 8 flush && fitsU 32 start && fitsU 32 count
  | .logClear h buf => h.fits && buf.fits
  | .calRead h buf => h.fits && buf.fits
  | .calWrite h buf => h.fits && buf.fits
  | .assay h mask => h.fits && fitsU 32 mask
  | .imageStage h buf => h.fits && buf.fits
  | .imageCommit h activate => h.fits && fitsU 8 activate
  | .imageActivate => true
  | .reset h scope => h.fits && fitsU 8 scope
  | .blockReset h block => h.fits && fitsU 8 block
  | .timeSet h role domain _ timeNs => h.fits && fitsU 8 role && fitsU 8 domain && fitsS 64 timeNs
  | .takeover h => h.fits
  | .takeoverForce h => h.fits
  | .commandFetch => true
  | .sqTail q _ => fitsU 2 q
  | .cqHead q _ => fitsU 2 q
  | .eqHead _ => true
  | .bootstrapEnable => true
  | .bootstrapDisable => true
  | .ledgerDelivery => true
  | .msixCoalesceTimeout q => decide (q ≤ 4)
  | .cqStall q => fitsU 2 q
  | .eqStall => true
  | .dmaErr target _ => target.fits
  | .badAccess _ addr => fitsU 64 addr
  | .bar4Access _ off n data => fitsU 64 off && fitsU 64 n && decide (data.length ≤ n)
  | .registerWrite addr _ _ => fitsU 64 addr
  | .w1cWrite addr _ _ => fitsU 64 addr
  | .loRead addr _ => fitsU 64 addr
  | .leTaperFrac slot => fitsU 8 slot
  | .profileTableRead off _ => fitsU 64 off
  | .tmMin sig => sig.fits
  | .tmMax sig => sig.fits
  | .ptBusVset _ => true
  | .ptBusSlew _ => true
  | .ptFfCfg _ => true
  | .ptBurstEnter _ => true
  | .ptBurstDwell _ => true
  | .ptBurstBand _ => true
  | .protRegisterWrite addr _ => fitsU 64 addr
  | .tmGrpSrcWrite group which _ => fitsU 8 group && fitsU 8 which
  | .evCfg _ => true
  | .rcPwrCfg _ => true
  | .seRcvLoad => true
  | .seRcvRetry => true
  | .seRcvRestart => true
  | .recoveryWriteDone _ => true
  | .slotEvaluation slot _ => fitsU 8 slot
  | .feTrip slot => fitsU 8 slot
  | .openTrip slot => fitsU 8 slot
  | .scheduleSwitch => true
  | .assayEvaluation pipe _ => fitsU 8 pipe
  | .fallbackSwitch => true
  | .fastDn port => fitsU 8 port
  | .fastUp port frame => fitsU 8 port && frame.all FastFrame.fits
  | .blockLockLost rx => rx.fits
  | .portLost port => fitsU 8 port
  | .portRetrain port => fitsU 8 port
  | .degraded port margin => fitsU 8 port && fitsU 8 margin
  | .svcDn port => fitsU 8 port
  | .svcResponse port frame => fitsU 8 port && frame.fits
  | .svcTimeout port tag => fitsU 8 port && fitsU 8 tag
  | .held port frame => fitsU 8 port && frame.fits
  | .status port frame => fitsU 8 port && frame.fits
  | .portTrained port found => fitsU 8 port && found.fits
  | .trainingTimeout port step => fitsU 8 port && fitsU 8 step
  | .autostart => true
  | .preBiasedStart group => fitsU 8 group
  | .regulationReached group => fitsU 8 group
  | .startTimeout group => fitsU 8 group
  | .quenchTimeout group => fitsU 8 group
  | .retireTimeout port => fitsU 8 port
  | .restoreSrStep port => fitsU 8 port
  | .burstEnter => true
  | .msWindow => true
  | .imbalance port => fitsU 8 port
  | .senseFinding port => fitsU 8 port
  | .coolantUpdate => true
  | .voltageLimitTrip group => fitsU 8 group
  | .estimatorUpdate => true
  | .fastStep _ => true
  | .rideExit => true
  | .slowStep => true
  | .fcHoldEnd => true
  | .absenceDetect => true
  | .absenceDecay => true
  | .peerSilent peer => fitsU 8 peer
  | .profileSample _ => true
  | .lockLost => true
  | .coastTimeout => true
  | .wickNotice tag tw delta durUs => fitsU 32 tag && fitsS 64 tw && fitsS 32 delta && fitsU 32 durUs
  | .wickApply => true
  | .planWritten => true
  | .planActivateAtTime => true
  | .planActTimeout => true
  | .forecastWrite _ => true
  | .governorStep => true
  | .leadClaim => true
  | .epoch => true
  | .grantRelease => true
  | .budgetTimeout req => fitsU 32 req
  | .budgetReqRepeat req => fitsU 32 req
  | .budgetExpiry => true
  | .endpointStale endpoint => fitsU 16 endpoint
  | .endpointDeregister endpoint => fitsU 16 endpoint
  | .barrierTimeout tag => fitsU 32 tag
  | .calFitUpdate => true
  | .guleneDrain => true
  | .wick m => m.fits
  | .report m => m.fits
  | .lantern m => m.fits
  | .budget m => m.fits
  | .electReceived m => m.fits
  | .shareReceived m => m.fits
  | .alert m => m.fits
  | .grantReceived => true
  | .bucketRefill => true
  | .replayRecordExpiry rack sender => fitsU 32 rack && fitsU 16 sender
  | .keyActivate _ => true
  | .oldKeyExpiry _ => true
  | .isolated => true
  | .ethernetLink offer => offer.all (fun m => decide (1 ≤ m) && decide (m ≤ 4))
  | .negFail => true
  | .ptpSync sync origin => sync.fits && fitsS 64 origin
  | .ptpSyncTimeout => true
  | .ptpSyncSend => true
  | .tetherFast frame alignErr => frame.all FastFrame.fits && fitsS 32 alignErr
  | .tetherFastSend => true
  | .roleDecision => true
  | .partnerLost => true
  | .partnerReplace => true
  | .stateCopySend => true
  | .tetherBulk syncs type hdr data crc _ => BulkFrame.fits { syncs := syncs, type := type, hdr := hdr, data := data, crc := crc }
  | .takeoverPortCheck => true
  | .handoverFail => true
  | .takeoverTimeout => true
  | .captureSample => true
  | .captureFrozen => true
  | .flush => true
  | .flushEnd => true
  | .logClearDone => true
  | .opTimeTick die vinMain vinAux => fitsS 16 die && fitsU 16 vinMain && fitsU 16 vinAux
  | .powerOn => true
  | .resetN lowNs _ => fitsU 64 lowNs
  | .stewardWatchdog => true
  | .loopWatchdog => true
  | .pcieReset => true
  | .pfWarn _ => true
  | .vinMainLoss => true
  | .vinMainReturn => true
  | .retainedLoss _ => true
  | .releaseStep _ fault => fault.all (fitsU 64)
  | .releaseRetry _ => true
  | .rcClockFault domain => fitsU 8 domain
  | .coldStart step ues => fitsU 8 step && ues.all (fun e => fitsU 8 e.1 && fitsU 32 e.2)
  | .warmStart step => fitsU 8 step
  | .checkpointWrite => true
  | .failedStartClear => true
  | .svnRaise => true
  | .quietEnter => true
  | .thermalTrip => true
  | .thermalReturn => true
  | .snuffSense _ => true
  | .ppsIn => true
  | .ppsOut _ => true
  | .smbusReadByte cmd => fitsU 8 cmd
  | .smbusAlertResponse => true
  | .getVersion => true
  | .getCapabilities => true
  | .negotiateAlgorithms _ _ _ => true
  | .getDigests => true
  | .getCertificate slot off len => fitsU 8 slot && fitsU 16 off && fitsU 16 len
  | .challenge slot summary => fitsU 8 slot && fitsU 8 summary
  | .getMeasurements index _ => fitsU 8 index
  | .calWriteDone _ => true
  | .imageStageDone => true
  | .imageCommitDone _ => true
  | .pcieLinkUp speed width _ _ _ => fitsU 8 speed && fitsU 8 width
  | .tetherTrain hdr heads trips serial =>
    fitsU 40 hdr && heads.all (fitsU 2) && decide (trips.length = 16) && trips.all (fitsU 16) && decide (serial.length = 16)
  | .announce a => a.fits
  | .delayResp received => fitsS 64 received
  | .delayReq => true
  | .neighbourDiscovery r => r.fits
  | .dhcpReply addr => fitsU 32 addr
  | .malformedDatagram => true
  | .dramError _ channel addr ringWord => fitsU 8 channel && fitsU 64 addr && ringWord.all (fitsU 64)
  | .dramCeWindow => true
  | .serdesMargin link margin _ => fitsU 8 link && fitsU 8 margin
  | .tempHigh _ => true
  | .jtagAccess ir => fitsU 32 ir

end Sys2Proof
end

