-- ==== Sys2Proof/Tests/Rig.lean ====
section
/-!
SUPPORT. The small states the tests are about, and the hypotheses of the statements in a form that decides.
-/

namespace Sys2Proof.Tests

open Sys2Proof Sys2Proof.Machine

/-- Header of a command of queue 1. -/
def hd : CmdHdr := { queue := 1, sqIndex := 15, tag := 0xFFFF }

/-- A buffer of n bytes in host memory, and one at the start of the host DMA region. -/
def bf (n : Nat) : Buf := ⟨2 ^ 40, n⟩
def dma (n : Nat) : Buf := ⟨1, n⟩

/-- A command in flight. -/
def fly (h : CmdHdr) (op : Nat) (w : Wait) : Flight := { hdr := h, op := op, wait := w, no := 0 }

/-- Zeros with some byte strings laid over them. -/
def lay (n : Nat) (l : List (Nat × Bytes)) : Bytes :=
  l.foldl (fun b x => b.take x.1 ++ x.2 ++ b.drop (x.1 + x.2.length)) (List.replicate n 0)

/-- An active module in RUN with every domain released, host queues 0 and 1 and the event queue present. -/
def live : State :=
  { State.reset with
    role := .active
    gn := { State.reset.gn with quietTo := 0 }
    rc := { State.reset.rc with start := .run, release := none, off := [], startStep := 10, govRun := true }
    hq :=
      { State.reset.hq with
        enable := true, busMaster := true, speed := 5, width := 4, wbLo := 0x8000
        queues :=
          [{ present := true, sqBase := 0x10000, cqBase := 0x20000, sqN := 16, cqN := 16 },
            { present := true, sqBase := 0x30000, cqBase := 0x40000, sqN := 16, cqN := 16, coalUs := 255 }, {}, {}]
        eq := { present := true, base := 0x50000, n := 16 } } }

def withDma (b : Bytes) (s : State) : State := { s with hdma := Mem.writeN 0 [] 0 b }
def withQueue (q : Nat) (f : CmdQueue → CmdQueue) (s : State) : State := { s with hq := { s.hq with queues := upd s.hq.queues q f } }
def flying (l : List Flight) (s : State) : State := { s with hq := { s.hq with inflight := l } }

/-- Register words of a slot, by offset. -/
def words (l : List (Nat × Reg)) : List Reg := l.foldl (fun w x => w.set (x.1 / 4) x.2) (List.replicate 128 0)

/-- A bus group 15 of the two cells 78 and 79, with its outer slot 127 and its inner slot 126 loaded and scheduled on pipelines 3
and 2, stores accepted, everything else as in `live`. -/
def rig : State :=
  { (((((live.setGroup 15 (fun G =>
        { G with gtype := 2, voltSlot := 127, currSlot := 126, pbIn := 5, pbOut := 5, vinMin := 0, vinMax := 0, startOrder := 15
                 regCount := 20, flags := 3 })).setPort 79 (fun P =>
        { P with kind := 1, group := 15, phase := 1, state := .trained, lock := true, cellSlot := 0xFF })).setPort 78 (fun P =>
        { P with kind := 1, group := 15, phase := 0, state := .trained, lock := true, cellSlot := 0xFF })).setSlot 127 (fun x =>
        { x with w := words [(0x000, 0x81), (0x008, 5)] })).setSlot 126 (fun x =>
        { x with w := words [(0x000, 1), (0x008, 0x7F3), (0x010, 0xF2)] })) with
    sh := { live.sh with storeOk := true, calOk := true, busVmin := -12000, busVmax := 12000 } }
def sched (s : State) : State :=
  { s with le := { s.le with table := { ents := [⟨127, 3, 0, 1, 0⟩, ⟨126, 2, 100, 1, 0⟩] } } }
def bus : State := sched rig

/-- Slot 126 with k = 2 and phase 1, in an even frame period. -/
def late : State := { rig with le := { rig.le with table := { ents := [⟨126, 2, 100, 2, 1⟩] } } }
theorem late_phase : ∀ e, late.entry 126 = some e → late.le.frame % e.k ≠ e.phase := by
  intro e h
  cases (show some (⟨126, 2, 100, 2, 1⟩ : SchedEnt) = some e from h)
  decide +kernel

def grp (f : Group → Group) (s : State) : State := s.setGroup 15 f
def inState (x : GroupState) (s : State) : State := s.setGroup 15 (fun G => { G with state := x })
def cell (f : Port → Port) (s : State) : State := s.setPort 79 f
def standby (s : State) : State := { s with role := .standby }

/-- Queue 0 holds an entry with FENCE, behind a command of the queue in flight, and behind one of another queue. -/
def fenced : State :=
  { withQueue 0 (fun x => { x with sqTail := 1 }) (flying [fly { hd with queue := 0 } 0x0401 (.groupEnable 3)] live) with
    hq := { (withQueue 0 (fun x => { x with sqTail := 1 })
      (flying [fly { hd with queue := 0 } 0x0401 (.groupEnable 3)] live)).hq with fetchNo := 1 }
    hostMem := Mem.writeN 0 [] 0x10000 (lay 64 [(0, [1, 1, 1])]) }
def unfenced : State :=
  { withQueue 0 (fun x => { x with sqTail := 1 }) (flying [fly hd 0x0401 (.groupEnable 3)] live) with
    hostMem := Mem.writeN 0 [] 0x10000 (lay 64 [(0, [1, 1, 1])]) }

/-- A lead, and a module with a rack key. -/
def lead : State := { live with gv := { live.gv with ok := true, role := 2 } }
def keyed : State :=
  { live with gn := { live.gn with rackKey := { cur := some { id := 1, v4 := false, activate := 0, hostAddr := 0, key := [1] } } } }

def onRc (f : ResetCtl → ResetCtl) (s : State) : State := { s with rc := f s.rc }
def onHq (f : HostIf → HostIf) (s : State) : State := { s with hq := f s.hq }
def onGv (f : Governor → Governor) (s : State) : State := { s with gv := f s.gv }
def onGn (f : Gulene → Gulene) (s : State) : State := { s with gn := f s.gn }
def onClk (f : Clock → Clock) (s : State) : State := { s with clk := f s.clk }
def onCr (f : Crucible → Crucible) (s : State) : State := { s with cr := f s.cr }
def onEv (f : Recorder → Recorder) (s : State) : State := { s with ev := f s.ev }
def onSe (f : Security → Security) (s : State) : State := { s with se := f s.se }
def onTeth (f : Tether → Tether) (s : State) : State := { s with teth := f s.teth }
def onPf (f : Profile → Profile) (s : State) : State := { s with pf := f s.pf }
def onPl (f : Planisher → Planisher) (s : State) : State := { s with pl := f s.pl }
def onSh (f : Shelf → Shelf) (s : State) : State := { s with sh := f s.sh }
def onPins (f : Pins → Pins) (s : State) : State := { s with pins := f s.pins }
def onLe (f : LoopEngine → LoopEngine) (s : State) : State := { s with le := f s.le }
def onCal (f : CalPage → CalPage) (s : State) : State := { s with cal := f s.cal }

/-- A capture channel with a slice of 8 samples, of which 9 have been written. -/
def chan : CrChan :=
  { ctype := 2, index := 127, channel := 0, shift := 0, div := 1, base := 0, len := 8, wr := 9
    trigIdx := none, left := none, last := none, nowN := 0 }
def record : Rec :=
  { code := 0x0801, sev := 1, flags := 0, seq := 0xFFFFFFFF, opTime := 0, pwrCycles := 0, kind := 0, subject := 0, calTime := 0
    payload := [] }
/-- A budget request of another module that has been adopted. -/
def pend0 : Pend := { req := ⟨0x202, 9, 0, 5, 0, 0⟩, state := 1, due := 0, finalAt := 0 }
def coldRel : Release := { scope := .cold, powerOn := false, asserted := false, step := 2, tries := 0, stopped := false }
def warmRel : Release := { coldRel with scope := .warm }

/-- A good upstream fast frame of zeros, with UP_SEQ 255, and a good service frame of an opcode, tag and index. -/
def upFrame : FastFrame :=
  { syncs := [2, 1, 1, 1], type := 0x33, hdr := 255, payload := List.replicate 16 0
    crc := fastCrcOf 0x33 255 (List.replicate 16 0) }
def svcFrame (op tag ix : Nat) : SvcFrame :=
  { syncs := [2, 1, 1], type := 0x55, hdr := op * 2 ^ 36 + tag * 2 ^ 32 + ix, data := 5, mask := 0
    crc := svcCrcOf 0x55 (op * 2 ^ 36 + tag * 2 ^ 32 + ix) 5 0 }
/-- What training finds at a bridge that answers, and a port whose bridge, of identity 0 and version 1 with every lane off, has
been read. -/
def found : Training := { heads := List.replicate 32 1, answer := 0x200, arrivals := List.replicate 16 7 }
def heard (P : Port) : Port :=
  { P with state := .training, brRead := [(0, 0x100), (1, 0), (2, 0), (3, 100), (5, 2)] }

/-- The bus group as a grid group that regulates. -/
def grid : State := grp (fun G => { G with gtype := 1, state := .regulating }) bus
/-- A string of 20 kV² span with 5 J of usable energy, not yet seeded; its current is the constant 0. -/
def string0 : StrRec :=
  { vBot := 100, vTop := 200, eUse := 15, esr := 0, iSrc := 5, tauS := 30, guard := 0, e := 1000, voc := 0, seed := true
    regd := false, floor := false, ceil := false, wasOff := true }
def plan0 : Plan :=
  { hdr := 0, phases := [⟨8, 100, 0, 1⟩], binN := 0, mode := 1, weight := 1, actTime := 0, written := false }
/-- A lead as its LANTERN shows it. -/
def view : ShelfView :=
  { shelf := 1, elig := true, lead := true, floor := false, derated := false, epoch := 3, cap := 0, grid := 0, gPub := 0, out := 0
    shed := 0, fillReq := 0, busMa := 0 }
def rackKey0 : Key := { id := 1, v4 := false, activate := 0, hostAddr := 0, key := [1] }
/-- An eligible module that no shelf of its rack leads, and the same as lead with an ABSENT_BUDGET_W of 1,000 W. -/
def contender : State :=
  { inState .regulating bus with
    gv := { live.gv with ok := true }, gn := { live.gn with rackKey := { cur := some rackKey0 } } }
def leader : State :=
  { contender with gv := { contender.gv with role := 2, defs := govBytes (govDefaults.set 9 1000) } }
def grant0 : Grant := { cap := 5, floor := 1, wAvg := 0, stagger := 0, tag := 0, pace := 1, reason := 0, gain := 0, ofs := 0 }
/-- A module of rack 1 with a key, a message to it, and the same with its tag. -/
def rack : State :=
  onGv (fun x => { x with ok := true, defs := govBytes (govDefaults.set 0 1) })
    (onGn (fun x => { x with rackKey := { cur := some rackKey0 } }) live)
def msg (sender : Nat) (body : Bytes) : GnMsg :=
  { src := 0, sport := 49870, timeOk := false, rack := 1, sender := sender, keyId := 1, seq := 1, origin := 0, body := body
    tag := [] }
def signed (typ : Nat) (m : GnMsg) : GnMsg := { m with tag := msgTag rackKey0.key typ m }
/-- An announced clock. -/
def ownBetter : Announced := ⟨0, 128, 6, 0x20, 0, 128, 1⟩
/-- A good tether frame with a header, and a good frame of a state copy. -/
def beat (hdr : Nat) : FastFrame :=
  { syncs := [2, 1, 1, 1], type := 0x99, hdr := hdr, payload := List.replicate 16 0
    crc := fastCrcOf 0x99 hdr (List.replicate 16 0) }
def bulk (hdr : Nat) : BulkFrame :=
  { syncs := 2 :: List.replicate 20 1, type := 0xA5, hdr := hdr, data := List.replicate 112 0
    crc := bulkCrcOf hdr (List.replicate 112 0) }

theorem shaped {s : State} (h : s.ports.length = 80 ∧ s.groups.length = 16 ∧ s.le.slots.length = 128 ∧
    s.le.pipes.length = 4 ∧ s.hq.queues.length = 4 ∧ s.ev.ring.length ≤ 1024 ∧ s.gn.queue.length ≤ 4096 ∧
    s.hq.ledger.length ≤ 512 ∧ Mem.wf 0 s.hostMem = true ∧ Mem.wf 0 s.hdma = true) : WellShaped s :=
  let ⟨a, b, c, d, e, f, g, k, i, j⟩ := h
  ⟨a, b, c, d, e, f, g, k, i, j⟩

theorem acc {s : State} {h : CmdHdr} (x : h.checkOnly = false ∧ s.rc.blockActive = false ∧ s.rc.power ≠ .quiet) :
    Accepted s h := ⟨x.1, x.2.1, x.2.2⟩

theorem run {s : State} {h : CmdHdr}
    (x : h.checkOnly = false ∧ s.rc.blockActive = false ∧ s.rc.power ≠ .quiet ∧ s.rc.run = true) : AcceptedRun s h :=
  ⟨acc ⟨x.1, x.2.1, x.2.2.1⟩, x.2.2.2⟩

theorem act {s : State} {h : CmdHdr}
    (x : h.checkOnly = false ∧ s.rc.blockActive = false ∧ s.rc.power ≠ .quiet ∧ s.rc.run = true ∧ s.role = .active) :
    AcceptedActive s h := ⟨run ⟨x.1, x.2.1, x.2.2.1, x.2.2.2.1⟩, x.2.2.2.2⟩

end Sys2Proof.Tests
end

