-- ==== Sys2Proof/Tests/Images.lean ====
section
/-!
SUPPORT. A signed firmware image, an authorisation signed by its owner, a calibration page and a configuration store that pass
every check: what the statements about them are tried on. The signatures were made outside Lean by RFC 8017 with a salt of zeros,
under a modulus that is a prime, so that its private exponent is known.
-/

namespace Sys2Proof.Tests

open Sys2Proof Sys2Proof.Machine

set_option Elab.async false

/-- A number from its digits of 448 bits, lowest first. -/
def ofDigits (l : List Nat) : Nat := l.foldr (fun d n => d + 2 ^ 448 * n) 0

/-- The modulus 3 * 2^3070 + 1319 and the exponent 65,537, as they stand in a hallmark. -/
def modulus : Bytes := beBytes 384 (3 * 2 ^ 3070 + 1319)
def exponent : Bytes := leBytes 4 65537

/-- Signature over bytes 0 to 0x20F of the image. -/
def rootSig : List Nat :=
  [ 0xde4faeaaaa55edb31c04b712ab2f7fdfd60839fbafab93d65d107ac544eb775ff5f482e8fcbbfab6147646dc3e2344e11fadb57fe0070679,
    0x3cb83688044f49635ecd225bf7c909d179c4e2232ca42ebaeb6662dc81ca276c172ad3c1f902d1517633308d2ab7c9124c2e97577739d8f3,
    0x6b27598ddb404f15b29b16ffca2b083a8313ab7411a53a3285bbb84a629522431697d3c781c76cf7276e597272e5bb4eb2feb5495234ab7d,
    0xb6c67e81f4b189d4ff4cafe7d1f2aa6e1596b965ab853bdb17aa996179024728cd6d5834621e8fd6ba8fabcae969870658a20ed3f107e50e,
    0x628b6bb9b8cbfa2143eacc14a8c9b43717341f06ec443ebf3cc9ad59893933677d21be583727f62828a602e8e0e11463e4fea1b68378785b,
    0x992e9f5eaf99de311fa213ae317e28aec516fd59339f47f79c3326118d2ed513915321043d8a05666c24804b31f9ee9768dd2573e8d79a10,
    0x1297cf93fca03ea81864f8e6161ac3b917fa86724a468f7bdd7d0e50e7a16724cab00c6aa970f8d7cba9c11c7635fc04 ]

/-- Signature over bytes 0 to 0x51F of the image. -/
def ownerSig : List Nat :=
  [ 0x8c07b105157a03f3b9a4688a5a850bac21d1b679f917c54d13f7c46b00b4f0537368a8449563abe9e0a76ac8638bfd5eef017c5e294a83f9,
    0x64fa9d33510ae265f5b0f52ee0239829d23cac853926f69930a6679f3f80bfab1dc940615f7b567b95599eaa8a246c2eb0c3327eff45ecc0,
    0x9de1ce04c3c40b28a2321dc14eddd196f86d0e16ee14268b0fe4668dcb4ffbf1fa953fb25e3bc27484cf90d603371918e192abfc518f8a88,
    0x87f43c078b7ecae4520c7ed8e93b37be82eb246124d1e13e070d87c9427a3f8e1b3640fe2ba7aa241f0121a24adbf550aebb45329df534fa,
    0xa9b18fdfac660c5a985d789a3104fca07e3c4e18ea26cbde48cd355d48425c5a3419f1e5bc4a7e9fef123fe67c4a9e4274790fe0f41a8985,
    0x2a94f19ed87fa260bb07048b6c25c6e0fcee4a27a1cf6db668dc4350c1c3e041b3b54e551599ad515d4f037527c920e5e33590a92ef5024e,
    0x2cedaabed0b931924a795ba07e86dcad0c3c24117a7e003b7a69b39804a5995ae18635e5bb5dbefcffe645b4a31d4440 ]

/-- Signature over bytes 0 to 0x7F of the authorisation. -/
def authSig : List Nat :=
  [ 0x3e926c7a28798753c404631a88b6f3ea62eb5906cf9b1b3936efd964a154f3993b892388e22af72a63ceecbf1c7634836d3520e0d3d0365c,
    0x9286fc9ac7a9bdc20291923f3561dc50fb2889869b13be65dcb6cc9f7d565665e21f87372547962d4248a770bfd2d542d747a64fa1d65f1a,
    0xe356110ed10d02d1f325d4c70fde5ff211579f1d04b369aa323b9560e736379424e16f0dd70f489aca416830bf17772fd673606fd1bc9670,
    0x1fb18b8dcdb7eb0cf8e54665add3f42560f5216622b19042f2ce87ec0fc46c632726adbe05c732b26f7565cc5f6f66359eb297bf6fafd0b,
    0x5a928dae9347315a8f966b5d5979a529d01f1f6832a343e81dc732f27c3df44027566b4b9af79d36ec2dbdff7beb9fee1f7660020143475d,
    0x2d2a148c2750eb450c5d07bcbf5133b2d25e020c31cb7800e0ad9ef76c7efc26bd4e8de5b6e2a16a4b4703ebb645bdee6d56dcd494db49f3,
    0xb51c2e1040d359a87865a8246cf244def32cf62c65ca2ba6c8836d7fa4e9e81a598ffc31c2d85ffe6c8eef96f352ee5e ]

/-- An image of SECURITY_VERSION 5, signed by root and owner, with a body of 4 bytes. -/
def image : Bytes :=
  lay 4100 [(0, leBytes 4 0x4B4D4C48), (4, [1]), (6, [1]), (0x0C, [5]), (0x10, [4]), (0x20, sha256 [1, 2, 3, 4]),
    (0x80, modulus), (0x200, exponent), (0x210, beBytes 384 (ofDigits rootSig)), (0x390, modulus), (0x510, exponent),
    (0x520, beBytes 384 (ofDigits ownerSig)), (0x1000, [1, 2, 3, 4])]

/-- An authorisation of AUTH_SEQ 1 for a module whose serial number is all zeros. -/
def authorisation : Bytes :=
  lay 512 [(0, leBytes 4 0x41554F57), (4, [1]), (6, [1]), (0x18, [1]), (0x80, beBytes 384 (ofDigits authSig))]

/-- A module with that root and owner key fused and the security version counter at 5, on which the image runs. -/
def fused : State :=
  onSe (fun x =>
    { x with rootHash := keyHash modulus exponent, ownerHash := some (keyHash modulus exponent), svn := 5, running := image }) live

theorem image_length : image.length = 4100 := by decide +kernel

theorem image_good : fused.se.imageFault image = none := by decide +kernel

/-- The image as host memory, a flash area or the DMA region holds it reads back. -/
theorem image_read (d : Byte) : Mem.readN d (Mem.writeN d [] 0 image) 0 4100 = image := by
  have := Mem.readN_writeN d [] 0 image rfl
  rwa [image_length] at this

theorem auth_good : (onEv (fun x => { x with nextSeq := 1 }) fused).authOk authorisation = true := by decide +kernel

theorem auth_read : Mem.readN 0 (Mem.writeN 0 [] 0 authorisation) 0 512 = authorisation := by
  have := Mem.readN_writeN 0 [] 0 authorisation rfl
  rwa [show authorisation.length = 512 by decide +kernel] at this

theorem auth_form : authFault authorisation = none := by decide +kernel

/-- A field of a byte string read from a memory is read at its own place. -/
theorem u_readN (d : Byte) (m : List Host.Cell) (a n off k : Nat) (h : off + k ≤ n) :
    u (Mem.readN d m a n) off k = leNat (Mem.readN d m (a + off) k) := by
  have e : ((Mem.readN d m a n).drop off).take k = Mem.readN d m (a + off) k := by
    apply List.ext_getElem
    · simp [Mem.readN]; omega
    · intro j h1 h2
      simp [Mem.readN, Nat.add_assoc]
  unfold u slice
  simp only [e]
  have : (Mem.readN d m (a + off) k).length = k := by simp [Mem.readN]
  simp [this]

/-- An erased image area holds no image. -/
theorem erased_fault (x : Security) (h : x.image = []) : x.flashFault.isSome = true := by
  have e : u x.flashImage 0 4 = 0xFFFFFFFF := by
    unfold Security.flashImage
    rw [u_readN, h]
    · decide
    · simp [imageMax]; omega
  unfold Security.flashFault Security.imageFault formatFault
  simp [e]

/-- The chain holds at least the device certificate's bytes. -/
theorem chain_long : 0 < live.se.chain.length := by
  have : (live.se.cert 0).length = 65535 := by
    unfold Security.cert
    simp only [Mem.readN, List.length_map, List.length_range]
    decide +kernel
  simp only [Security.chain, List.length_append, this]
  omega

/-- A security block with bytes in its image area. -/
def flash (b : Bytes) (x : Security) : Security := { x with image := Mem.writeN 0xFF [] 0 b }

theorem flash_area (b : Bytes) (x : Security) : (flash b x).image = Mem.writeN 0xFF [] 0 b := rfl
theorem flash_checks (b c : Bytes) (x : Security) : (flash b x).imageFault c = x.imageFault c := rfl
theorem flash_se (b : Bytes) (s : State) : (onSe (flash b) s).se = flash b s.se := rfl

theorem flash_image (x : Security) : (flash image x).flashImage = image := by
  have r := Mem.readN_writeN 0xFF [] 0 image rfl
  rw [image_length] at r
  have b : leNat (Mem.readN 0xFF (flash image x).image 0x10 4) = 4 := by
    rw [flash_area, show 0x10 = 0 + 0x10 from rfl, ← u_readN 0xFF _ 0 4100 0x10 4 (by omega), r]
    decide +kernel
  unfold Security.flashImage
  rw [b, flash_area]
  exact r

theorem flash_good : (onSe (flash image) fused).se.flashFault = none := by
  rw [flash_se, Security.flashFault, flash_image, flash_checks]
  exact image_good

end Sys2Proof.Tests
end

