-- ==== Sys2Proof/Tests/Pages.lean ====
section
/-!
SUPPORT. A configuration store and a calibration page that pass every check, for the statements about them.
-/

namespace Sys2Proof.Tests

open Sys2Proof Sys2Proof.Machine

set_option Elab.async false

/-! ### CRC-32C, evaluated step by step -/

/-- A function of a number that the kernel evaluates first. -/
def forced (f : Nat → Nat) : Nat → Nat
  | 0 => f 0
  | n + 1 => f (n + 1)
theorem forced_eq (f : Nat → Nat) (n : Nat) : forced f n = f n := by cases n <;> rfl

/-- A step of the CRC without a branch. -/
def crcStep (c : Nat) : Nat := Nat.xor (c / 2) (c % 2 * 0x82F63B78)
theorem crcStep_eq (c : Nat) : crcStep c = if c % 2 = 1 then Nat.xor (c / 2) 0x82F63B78 else c / 2 := by
  unfold crcStep
  split
  · rename_i h; rw [h]
  · rw [show c % 2 = 0 by omega]; exact Nat.xor_zero _

def crcByte (c : Nat) : Nat := ((((((((c |> crcStep) |> forced crcStep) |> forced crcStep) |> forced crcStep) |> forced crcStep)
  |> forced crcStep) |> forced crcStep) |> forced crcStep)
theorem crcByte_eq (c : Nat) : crcByte c = crc32cShift 8 c := by
  simp only [crcByte, forced_eq, crc32cShift, crcStep_eq]

def crcRun : Bytes → Nat → Nat
  | [], c => c
  | b :: r, c => forced (fun c => crcRun r (crcByte (Nat.xor c b.toNat))) c
theorem crcRun_eq (l : Bytes) (c : Nat) : crcRun l c = l.foldl (fun c b => crc32cShift 8 (Nat.xor c b.toNat)) c := by
  induction l generalizing c with
  | nil => rfl
  | cons b r ih => simp only [crcRun, forced_eq, List.foldl_cons, ih, crcByte_eq]
theorem crc32c_run (l : Bytes) : crc32c l = Nat.xor (crcRun l 0xFFFFFFFF) 0xFFFFFFFF := by rw [crcRun_eq]; rfl

/-! ### The store -/

/-- A cell map in which nothing is present. -/
def noPort : Bytes := [0, 255, 255, 255, 0, 0, 0, 0, 0, 0, 0, 0, 0, 0, 0, 0]

def mapBody : Bytes := List.replicate 1024 0 ++ (List.replicate 80 noPort).flatten

def storeFront : Bytes :=
  leBytes 4 0x53534D43 ++ [1, 0, 1, 0] ++ leBytes 4 2384 ++ leBytes 4 0x99cda5c2 ++ leBytes 4 0 ++ leBytes 4 48000 ++
  leBytes 4 40000 ++ leBytes 4 60000 ++ leBytes 4 1000 ++ List.replicate 28 0 ++
  [1, 0, 0, 0] ++ leBytes 4 2304 ++ leBytes 4 0x7111932e ++ List.replicate 4 0
def store : Bytes := storeFront ++ mapBody

theorem slice_after (a b : Bytes) (k n j : Nat) (h : k = a.length + j) : slice (a ++ b) k n = slice b j n := by
  subst h; unfold slice; rw [← List.drop_drop, List.drop_left]

theorem slice_zeros (n k m : Nat) (b : Bytes) (h : k + m ≤ n) : slice (List.replicate n 0 ++ b) k m = List.replicate m 0 := by
  have e : (List.replicate n (0 : Byte) ++ b).drop k = List.replicate (n - k) 0 ++ b := by
    rw [List.drop_append_of_le_length (by simp; omega), List.drop_replicate]
  unfold slice
  simp only [e]
  rw [List.take_append_of_le_length (by simp; omega), List.take_replicate]
  simp [show min m (n - k) = m by omega]

theorem slice_before (a b : Bytes) (k n : Nat) (h : k + n ≤ a.length) : slice (a ++ b) k n = slice a k n := by
  unfold slice
  rw [List.drop_append_of_le_length (by omega), List.take_append_of_le_length (by simp; omega)]

theorem slice_flatten (r : Bytes) (k n p j m : Nat) (h : r.length = k) (hp : p < n) (hj : j + m ≤ k) :
    slice (List.replicate n r).flatten (k * p + j) m = slice r j m := by
  induction p generalizing n with
  | zero =>
    obtain ⟨n, rfl⟩ : ∃ m, n = m + 1 := ⟨n - 1, by omega⟩
    rw [List.replicate_succ, List.flatten_cons, Nat.mul_zero, Nat.zero_add, slice_before _ _ _ _ (by omega)]
  | succ p ih =>
    obtain ⟨n, rfl⟩ : ∃ m, n = m + 1 := ⟨n - 1, by omega⟩
    rw [List.replicate_succ, List.flatten_cons, slice_after _ _ _ _ (k * p + j) (by rw [h, Nat.mul_succ]; omega),
      ih n (by omega)]

theorem front_length : storeFront.length = 80 := by decide +kernel

/-- A field of a port record of the store. -/
theorem store_port (p j m : Nat) (hp : p < 80) (hj : j + m ≤ 16) : slice store (portOff 64 p + j) m = slice noPort j m := by
  rw [store, slice_after _ _ _ _ (1024 + (16 * p + j)) (by simp only [portOff, front_length]; omega), mapBody,
    slice_after _ _ _ _ (16 * p + j) (by rw [List.length_replicate]), slice_flatten noPort 16 80 p j m rfl hp hj]

def cmap : CellMap :=
  { off := 64, groups := List.replicate 16 (groupRec (List.replicate 64 0)), ports := List.replicate 80 (portRec noPort) }

theorem store_map : cellMap store ⟨1, 64, 2304⟩ = cmap := by
  have a : (List.range 16).map (fun g => groupRec (slice store (groupOff 64 g) 64)) =
      List.replicate 16 (groupRec (List.replicate 64 0)) := by
    apply List.ext_getElem (by simp)
    intro g h1 h2
    simp only [List.length_map, List.length_range] at h1
    simp only [List.getElem_map, List.getElem_range, List.getElem_replicate]
    rw [store, slice_after _ _ _ _ (64 * g) (by simp only [groupOff, front_length]), mapBody,
      slice_zeros _ _ _ _ (by omega)]
  have b : (List.range 80).map (fun p => portRec (slice store (portOff 64 p) 16)) = List.replicate 80 (portRec noPort) := by
    apply List.ext_getElem (by simp)
    intro p h1 h2
    simp only [List.length_map, List.length_range] at h1
    simp only [List.getElem_map, List.getElem_range, List.getElem_replicate]
    exact congrArg portRec (store_port p 0 16 h1 (by omega))
  unfold cellMap cmap
  rw [a, b]

theorem flaws_none (l : List (Bool × Nat × Nat)) (h : ∀ x ∈ l, x.1 = true) : flaws l = none := by
  unfold flaws
  rw [List.find?_eq_none.mpr (fun x hx => by simp [h x hx])]
  rfl

theorem store_length : store.length = 2384 := by decide +kernel
theorem store_crc : crc32c (store.drop 0x10) = 0x99cda5c2 := by rw [crc32c_run]; decide +kernel
theorem store_head : storeHead store = .inr [⟨1, 64, 2304⟩] := by
  unfold storeHead
  rw [store_crc]
  decide +kernel
def secs : List StoreSec := [⟨1, 64, 2304⟩]

theorem store_body : crc32c (StoreSec.body ⟨1, 64, 2304⟩ store) = 0x7111932e := by rw [crc32c_run]; decide +kernel
theorem store_reserved : reservedFlaw store secs cmap = none := by
  apply flaws_none
  intro x hx
  rw [show cmap.used = [] by decide +kernel] at hx
  simp only [List.flatMap_nil, List.append_nil, List.mem_append, List.mem_map, List.mem_range] at hx
  rcases hx with hx | ⟨p, hp, rfl⟩
  · rw [← List.mem_append] at hx
    revert x
    decide +kernel
  · show zeros store (portOff 64 p + 0x0E) 2 = true
    unfold zeros
    rw [store_port p 0x0E 2 hp (by omega)]
    decide
theorem store_caps : State.reset.part.capsFlaw store secs cmap = none := by decide +kernel
theorem store_ranges : rangeFlaw cmap = none := by decide +kernel
theorem store_struct : structFlaw (State.reset.part.storeBlocks store secs) [] cmap = none := by decide +kernel
theorem store_members : memberFlaw cmap = none := by decide +kernel
theorem store_bus : busFlaw store = none := by decide +kernel

/-- A store of one section that passes the conditions one by one is accepted. -/
theorem store_accepted (part : Part) (ret : List Nat) (b : Bytes) (x : StoreSec) (m : CellMap) (h : storeHead b = .inr [x])
    (t : x.type = 1) (l : x.len = 2304) (c : (crc32c (x.body b) == u b (x.off + 8) 4) = true) (e : cellMap b x = m)
    (r4 : reservedFlaw b [x] m = none) (r5 : part.capsFlaw b [x] m = none) (r6 : rangeFlaw m = none)
    (r7 : structFlaw (part.storeBlocks b [x]) ret m = none) (r8 : memberFlaw m = none) (r9 : busFlaw b = none) :
    part.storeCheck ret b = .inr ([x], m) := by
  unfold Part.storeCheck
  simp [h, c, t, l, e, r4, r5, r6, r7, r8, r9, flaws]

theorem store_good : State.reset.part.storeCheck [] store = .inr (secs, cmap) :=
  store_accepted _ _ _ _ _ store_head rfl rfl (by rw [store_body]; decide +kernel) store_map store_reserved store_caps store_ranges
    store_struct store_members store_bus

/-! ### The calibration page -/

/-- A calibration page of 640 entries that are all zeros. -/
def pageFront : Bytes := leBytes 4 0x4C414343 ++ [1, 0, 0x80, 2] ++ leBytes 4 0x2840 ++ leBytes 4 0xf2c57a78
def page : Bytes := pageFront ++ List.replicate 65520 0

theorem page_length : page.length = 65536 := by
  rw [page, List.length_append, List.length_replicate, show pageFront.length = 16 by decide +kernel]

theorem page_rest (k n : Nat) (h : 16 ≤ k) (hn : k + n ≤ 65536) : slice page k n = List.replicate n 0 := by
  rw [page, slice_after _ _ k _ (k - 16) (by rw [show pageFront.length = 16 by decide +kernel]; omega)]
  have := slice_zeros 65520 (k - 16) n [] (by omega)
  rwa [List.append_nil] at this

theorem page_front (k n : Nat) (h : k + n ≤ 16) : u page k n = u pageFront k n := by
  unfold u
  rw [page, slice_before _ _ _ _ (by rw [show pageFront.length = 16 by decide +kernel]; omega)]

theorem page_crc : crc32c (slice page 0x10 0x2830) = 0xf2c57a78 := by
  rw [page_rest _ _ (by omega) (by omega), crc32c_run]
  decide +kernel

theorem page_good : calFault page = none := by
  have z (k n : Nat) (h : 16 ≤ k) (hn : k + n ≤ 65536) : zeros page k n = true := by
    unfold zeros
    rw [page_rest k n h hn]
    simp
  have f : (List.range 640).find? (fun n => decide (u page (0x40 + 16 * n + 9) 1 > 1) || !zeros page (0x40 + 16 * n + 10) 6) =
      none := by
    rw [List.find?_eq_none]
    intro n hn
    have hn := List.mem_range.mp hn
    rw [z _ _ (by omega) (by omega), u, page_rest _ _ (by omega) (by omega)]
    decide
  unfold calFault
  rw [page_front 0 4 (by omega), page_front 4 2 (by omega), page_front 6 2 (by omega), page_front 8 4 (by omega),
    page_front 0x0C 4 (by omega), page_crc, z _ _ (by omega) (by omega), z _ _ (by omega) (by omega), f]
  decide +kernel

/-- The page read back from host memory and from the calibration flash. -/
theorem page_read (d : Byte) (a : Nat) : Mem.readN d (Mem.writeN d [] a page) a 65536 = page := by
  have := Mem.readN_writeN d [] a page rfl
  rwa [page_length] at this

/-- A security block whose flash holds the store. -/
def stored (b : Bytes) (x : Security) : Security := { x with store := Mem.writeN 0xFF [] 0 b }
theorem stored_area (b : Bytes) (x : Security) : (stored b x).store = Mem.writeN 0xFF [] 0 b := rfl

theorem stored_bytes (x : Security) : (stored store x).storeBytes = store := by
  have r := Mem.readN_writeN 0xFF [] 0 store rfl
  rw [store_length] at r
  have n : leNat (Mem.readN 0xFF (stored store x).store 8 4) = 2384 := by
    have e := u_readN 0xFF (Mem.writeN 0xFF [] 0 store) 0 2384 8 4 (by omega)
    rw [Nat.zero_add, r] at e
    rw [stored_area, ← e]
    decide +kernel
  unfold Security.storeBytes
  simp only [n]
  rw [if_pos (by decide), stored_area]
  exact r

end Sys2Proof.Tests
end

