-- ==== Sys2Proof/Tests/Slice0.lean ====
section
/-!
SUPPORT. Tests: ill-formed commands are refused, the manual's worked examples, and a few single steps. Expected values are the
manual's own.
-/

namespace Sys2Proof.Tests

open Sys2Proof Sys2Proof.Machine

set_option Elab.async false

/-! ### Well-formed commands: operands that fit, and for each check a term it refuses -/

def h0 : CmdHdr := { queue := 3, sqIndex := 65535, tag := 65535 }
def b0 : Buf := ⟨2 ^ 64 - 1, 2 ^ 32 - 1⟩
def m0 : GnMsg :=
  { src := 2 ^ 128 - 1, sport := 65535, timeOk := true, rack := 2 ^ 32 - 1, sender := 65535, keyId := 255, seq := 2 ^ 32 - 1
    origin := -(2 ^ 63), body := [], tag := List.replicate 16 0 }
def d0 : Training := { heads := [3], answer := 2 ^ 40 - 1, arrivals := List.replicate 16 399 }
def g0 : FastFrame :=
  { syncs := List.replicate 4 3, type := 255, hdr := 2 ^ 40 - 1, payload := List.replicate 16 0, crc := 65535 }
def k0 : BulkFrame :=
  { syncs := List.replicate 21 3, type := 255, hdr := 2 ^ 40 - 1, data := List.replicate 112 0, crc := 2 ^ 32 - 1 }
def f0 : SvcFrame := { syncs := [0, 1, 2], type := 255, hdr := 2 ^ 40 - 1, data := 0, mask := 0, crc := 65535 }
def a0 : Announced := ⟨255, 255, 255, 255, 65535, 255, 2 ^ 64 - 1⟩

theorem test_refuses_header : (
    [{ h0 with queue := 4 }, { h0 with sqIndex := 65536 }, { h0 with tag := 65536 }] : List CmdHdr).all (fun x => !x.fits) = true := by decide

theorem test_refuses_buffer : (
    [⟨2 ^ 64, 0⟩, ⟨0, 2 ^ 32⟩] : List Buf).all (fun x => !x.fits) = true := by decide

theorem test_refuses_dma_target : (
    [.queue 4, .buffer { h0 with tag := 65536 }] : List DmaTarget).all (fun x => !x.fits) = true := by decide

theorem test_refuses_fast_frame : (
    [{ g0 with syncs := [2, 1, 1] }, { g0 with syncs := [4, 1, 1, 1] }, { g0 with type := 256 }, { g0 with hdr := 2 ^ 40 },
     { g0 with payload := [] }, { g0 with crc := 65536 }] : List FastFrame).all (fun x => !x.fits) = true := by decide

theorem test_refuses_service_frame : (
    [{ f0 with syncs := [2, 1] }, { f0 with syncs := [2, 1, 4] }, { f0 with type := 256 }, { f0 with hdr := 2 ^ 40 },
     { f0 with data := 2 ^ 32 }, { f0 with mask := 2 ^ 32 }, { f0 with crc := 65536 }] : List SvcFrame).all (fun x => !x.fits) = true := by decide

theorem test_refuses_bulk_frame : (
    [{ k0 with syncs := [2] }, { k0 with syncs := List.replicate 21 4 }, { k0 with type := 256 }, { k0 with hdr := 2 ^ 40 },
     { k0 with data := [] }, { k0 with crc := 2 ^ 32 }] : List BulkFrame).all (fun x => !x.fits) = true := by decide

theorem test_refuses_training : (
    [{ d0 with heads := [4] }, { d0 with answer := 2 ^ 40 }, { d0 with arrivals := List.replicate 17 0 },
     { d0 with arrivals := [512] }] : List Training).all (fun x => !x.fits) = true := by decide

theorem test_refuses_signal : (
    [.port 80 0, .port 0 8, .group 16 0, .group 0 4] : List Sig).all (fun x => !x.fits) = true := by decide

theorem test_refuses_settings : (
    [{ avgK := 256 }, { binExp := 256 }, { lockRho := 256 }, { confMin := 256 }, { lossQ := 128 }, { lossQ := -129 },
     { snapPct := 256 }, { coastMaxS := 256 }, { minUs := 2 ^ 32 }, { maxUs := 2 ^ 32 }, { spreadMax := 2 ^ 32 },
     { minCount := 65536 }, { lossMs := 65536 }] : List PfSet).all (fun x => !x.fits) = true := by decide

theorem test_refuses_datagram : (
    [{ m0 with src := 2 ^ 128 }, { m0 with sport := 65536 }, { m0 with rack := 2 ^ 32 }, { m0 with sender := 65536 },
     { m0 with keyId := 256 }, { m0 with seq := 2 ^ 32 }, { m0 with origin := 2 ^ 63 },
     { m0 with origin := -(2 ^ 63) - 1 }, { m0 with tag := [] }] : List GnMsg).all (fun x => !x.fits) = true := by decide

theorem test_refuses_request : (
    [.solicit (2 ^ 128), .arp (2 ^ 32), .echo (2 ^ 128), .router (2 ^ 64)] : List NetReq).all (fun x => !x.fits) = true := by decide

theorem test_refuses_announce : (
    [{ a0 with domain := 256 }, { a0 with priority1 := 256 }, { a0 with clockClass := 256 }, { a0 with accuracy := 256 },
     { a0 with variance := 65536 }, { a0 with priority2 := 256 }, { a0 with identity := 2 ^ 64 }] : List Announced).all (fun x => !x.fits) = true := by decide

/-! Every command with operands that fit. -/

theorem test_accepts_0 : (
    [.devIdentify h0 b0, .devCaps h0 b0, .queueCreate h0 0 0 0 0 0 0 0 0, .queueDelete h0 0, .loopOpen h0 0,
     .loopClose h0 0 0 0, .loopLoad h0 b0 0, .loopRead h0 b0 0 0, .loopSchedule h0 b0 0, .groupEnable h0 0,
     .groupQuench h0 0, .busVset h0 0 0, .cellRetire h0 0, .cellRestore h0 0 false, .storeMode h0 0, .planLimits h0 b0,
     .planLoad h0 b0 0 0 0 0 0 0, .profileStart h0 {}, .profileStop h0, .profileClear h0, .profileSet h0 {},
     .budgetSet h0 0 0, .govMode h0 0 0, .grantMode h0 0, .keyLoad h0 b0, .captureArm h0 b0 0, .captureTrigger h0,
     .captureFreeze h0, .captureRelease h0, .captureRead h0 b0 0 0 0, .logRead h0 b0 0 0 0 0, .logClear h0 b0,
     .calRead h0 b0, .calWrite h0 b0, .assay h0 0, .imageStage h0 b0, .imageCommit h0 0, .imageActivate, .reset h0 0,
     .blockReset h0 0] : List Instr).all (fun c => wellFormed c) = true := by
  decide

theorem test_accepts_1 : (
    [.timeSet h0 0 0 false 0, .takeover h0, .takeoverForce h0, .commandFetch, .sqTail 0 0, .cqHead 0 0, .eqHead 0,
     .bootstrapEnable, .bootstrapDisable, .ledgerDelivery, .msixCoalesceTimeout 0, .cqStall 0, .eqStall,
     .dmaErr .events .timeout, .badAccess false 0, .bar4Access false 0 0 [], .registerWrite 0 0 none, .w1cWrite 0 0 0,
     .loRead 0 false, .leTaperFrac 0, .profileTableRead 0 false, .tmMin .shelf, .tmMax .shelf, .ptBusVset 0, .ptBusSlew 0,
     .ptFfCfg 0, .ptBurstEnter 0, .ptBurstDwell 0, .ptBurstBand 0, .protRegisterWrite 0 0, .tmGrpSrcWrite 0 0 0, .evCfg 0,
     .rcPwrCfg 0, .seRcvLoad, .seRcvRetry, .seRcvRestart, .recoveryWriteDone false, .slotEvaluation 0 false, .feTrip 0,
     .openTrip 0] : List Instr).all (fun c => wellFormed c) = true := by
  decide

theorem test_accepts_2 : (
    [.scheduleSwitch, .assayEvaluation 0 false, .fallbackSwitch, .fastDn 0, .fastUp 0 none, .blockLockLost ⟨0, [3]⟩, .portLost 0,
     .portRetrain 0, .degraded 0 0, .svcDn 0, .svcResponse 0 f0, .svcTimeout 0 0, .held 0 f0, .status 0 f0,
     .portTrained 0 d0, .trainingTimeout 0 0, .autostart, .preBiasedStart 0, .regulationReached 0, .startTimeout 0,
     .quenchTimeout 0, .retireTimeout 0, .restoreSrStep 0, .burstEnter, .msWindow, .imbalance 0, .senseFinding 0,
     .coolantUpdate, .voltageLimitTrip 0, .estimatorUpdate, .fastStep false, .rideExit, .slowStep, .fcHoldEnd, .absenceDetect,
     .absenceDecay, .peerSilent 0, .profileSample false, .lockLost, .coastTimeout] : List Instr).all (fun c => wellFormed c) = true := by
  decide

theorem test_accepts_3 : (
    [.wickNotice 0 0 0 0, .wickApply, .planWritten, .planActivateAtTime, .planActTimeout, .forecastWrite false,
     .governorStep, .leadClaim, .epoch, .grantRelease, .budgetTimeout 0, .budgetReqRepeat 0, .budgetExpiry,
     .endpointStale 0, .endpointDeregister 0, .barrierTimeout 0, .calFitUpdate, .guleneDrain, .wick m0, .report m0,
     .lantern m0, .budget m0, .electReceived m0, .shareReceived m0, .alert m0, .grantReceived, .bucketRefill,
     .replayRecordExpiry 0 0, .keyActivate false, .oldKeyExpiry false, .isolated, .ethernetLink [1, 4], .negFail,
     .ptpSync ⟨255, 2 ^ 64 - 1, -128, .ethernet⟩ (2 ^ 63 - 1), .ptpSyncTimeout, .ptpSyncSend, .tetherFast none 0, .tetherFastSend, .roleDecision, .partnerLost] : List Instr).all (fun c => wellFormed c) = true := by
  decide

theorem test_accepts_4 : (
    [.partnerReplace, .stateCopySend, .tetherBulk k0.syncs k0.type k0.hdr k0.data k0.crc none, .takeoverPortCheck, .handoverFail,
     .takeoverTimeout, .captureSample, .captureFrozen, .flush, .flushEnd, .logClearDone, .opTimeTick 0 0 0, .powerOn,
     .resetN 0 false, .stewardWatchdog, .loopWatchdog, .pcieReset, .pfWarn false, .vinMainLoss, .vinMainReturn,
     .retainedLoss false, .releaseStep false none, .releaseRetry false, .rcClockFault 0, .coldStart 0 [], .warmStart 0,
     .checkpointWrite, .failedStartClear, .svnRaise, .quietEnter, .thermalTrip, .thermalReturn, .snuffSense false, .ppsIn,
     .ppsOut false, .smbusReadByte 0, .smbusAlertResponse, .getVersion, .getCapabilities,
     .negotiateAlgorithms false false false] : List Instr).all (fun c => wellFormed c) = true := by
  decide

theorem test_accepts_5 : (
    [.getDigests, .getCertificate 0 0 0, .challenge 0 0, .getMeasurements 0 false, .calWriteDone false, .imageStageDone,
     .imageCommitDone false, .pcieLinkUp 0 0 false false false, .tetherTrain (2 ^ 40 - 1) [3] (List.replicate 16 65535) (List.replicate 16 0), .announce a0,
     .delayResp 0, .delayReq, .neighbourDiscovery (.echo 0), .dhcpReply 0, .malformedDatagram, .dramError false 0 0 none,
     .dramCeWindow, .serdesMargin 0 0 false, .tempHigh false, .jtagAccess 0] : List Instr).all (fun c => wellFormed c) = true := by
  decide

/-! Every command with each of its checked operands out of its field. -/

theorem test_refuses_0 : (
    [.devIdentify { h0 with queue := 4 } b0, .devIdentify h0 ⟨2 ^ 64, 0⟩, .devCaps { h0 with queue := 4 } b0,
     .devCaps h0 ⟨2 ^ 64, 0⟩, .queueCreate { h0 with queue := 4 } 0 0 0 0 0 0 0 0, .queueCreate h0 (2 ^ 8) 0 0 0 0 0 0 0,
     .queueCreate h0 0 (2 ^ 8) 0 0 0 0 0 0, .queueCreate h0 0 0 (2 ^ 8) 0 0 0 0 0, .queueCreate h0 0 0 0 (2 ^ 8) 0 0 0 0,
     .queueCreate h0 0 0 0 0 (2 ^ 64) 0 0 0, .queueCreate h0 0 0 0 0 0 (2 ^ 64) 0 0,
     .queueCreate h0 0 0 0 0 0 0 (2 ^ 32) 0, .queueCreate h0 0 0 0 0 0 0 0 (2 ^ 32), .queueDelete { h0 with queue := 4 } 0,
     .queueDelete h0 (2 ^ 8), .loopOpen { h0 with queue := 4 } 0, .loopOpen h0 (2 ^ 8),
     .loopClose { h0 with queue := 4 } 0 0 0, .loopClose h0 (2 ^ 8) 0 0, .loopClose h0 0 (2 ^ 8) 0,
     .loopClose h0 0 0 (2 ^ 31), .loopClose h0 0 0 (-(2 ^ 31) - 1), .loopLoad { h0 with queue := 4 } b0 0,
     .loopLoad h0 ⟨2 ^ 64, 0⟩ 0, .loopLoad h0 b0 (2 ^ 16), .loopRead { h0 with queue := 4 } b0 0 0,
     .loopRead h0 ⟨2 ^ 64, 0⟩ 0 0, .loopRead h0 b0 (2 ^ 8) 0, .loopRead h0 b0 0 (2 ^ 16),
     .loopSchedule { h0 with queue := 4 } b0 0, .loopSchedule h0 ⟨2 ^ 64, 0⟩ 0, .loopSchedule h0 b0 (2 ^ 16),
     .groupEnable { h0 with queue := 4 } 0, .groupEnable h0 (2 ^ 8), .groupQuench { h0 with queue := 4 } 0,
     .groupQuench h0 (2 ^ 8), .busVset { h0 with queue := 4 } 0 0, .busVset h0 (2 ^ 31) 0, .busVset h0 (-(2 ^ 31) - 1) 0,
     .busVset h0 0 (2 ^ 32)] : List Instr).all (fun c => !wellFormed c) = true := by
  decide

theorem test_refuses_1 : (
    [.cellRetire { h0 with queue := 4 } 0, .cellRetire h0 (2 ^ 8), .cellRestore { h0 with queue := 4 } 0 false,
     .cellRestore h0 (2 ^ 8) false, .storeMode { h0 with queue := 4 } 0, .storeMode h0 (2 ^ 8),
     .planLimits { h0 with queue := 4 } b0, .planLimits h0 ⟨2 ^ 64, 0⟩, .planLoad { h0 with queue := 4 } b0 0 0 0 0 0 0,
     .planLoad h0 ⟨2 ^ 64, 0⟩ 0 0 0 0 0 0, .planLoad h0 b0 (2 ^ 16) 0 0 0 0 0, .planLoad h0 b0 0 (2 ^ 8) 0 0 0 0,
     .planLoad h0 b0 0 0 (2 ^ 8) 0 0 0, .planLoad h0 b0 0 0 0 (2 ^ 16) 0 0, .planLoad h0 b0 0 0 0 0 (2 ^ 32) 0,
     .planLoad h0 b0 0 0 0 0 0 (2 ^ 63), .planLoad h0 b0 0 0 0 0 0 (-(2 ^ 63) - 1),
     .profileStart { h0 with queue := 4 } {}, .profileStart h0 { avgK := 256 }, .profileStop { h0 with queue := 4 },
     .profileClear { h0 with queue := 4 }, .profileSet { h0 with queue := 4 } {}, .profileSet h0 { avgK := 256 },
     .budgetSet { h0 with queue := 4 } 0 0, .budgetSet h0 (2 ^ 31) 0, .budgetSet h0 (-(2 ^ 31) - 1) 0,
     .budgetSet h0 0 (2 ^ 32), .govMode { h0 with queue := 4 } 0 0, .govMode h0 (2 ^ 8) 0, .govMode h0 0 (2 ^ 8),
     .grantMode { h0 with queue := 4 } 0, .grantMode h0 (2 ^ 8), .keyLoad { h0 with queue := 4 } b0,
     .keyLoad h0 ⟨2 ^ 64, 0⟩, .captureArm { h0 with queue := 4 } b0 0, .captureArm h0 ⟨2 ^ 64, 0⟩ 0,
     .captureArm h0 b0 (2 ^ 16), .captureTrigger { h0 with queue := 4 }, .captureFreeze { h0 with queue := 4 },
     .captureRelease { h0 with queue := 4 }] : List Instr).all (fun c => !wellFormed c) = true := by
  decide

theorem test_refuses_2 : (
    [.captureRead { h0 with queue := 4 } b0 0 0 0, .captureRead h0 ⟨2 ^ 64, 0⟩ 0 0 0, .captureRead h0 b0 (2 ^ 16) 0 0,
     .captureRead h0 b0 0 (2 ^ 64) 0, .captureRead h0 b0 0 0 (2 ^ 32), .logRead { h0 with queue := 4 } b0 0 0 0 0,
     .logRead h0 ⟨2 ^ 64, 0⟩ 0 0 0 0, .logRead h0 b0 (2 ^ 8) 0 0 0, .logRead h0 b0 0 (2 ^ 8) 0 0,
     .logRead h0 b0 0 0 (2 ^ 32) 0, .logRead h0 b0 0 0 0 (2 ^ 32), .logClear { h0 with queue := 4 } b0,
     .logClear h0 ⟨2 ^ 64, 0⟩, .calRead { h0 with queue := 4 } b0, .calRead h0 ⟨2 ^ 64, 0⟩,
     .calWrite { h0 with queue := 4 } b0, .calWrite h0 ⟨2 ^ 64, 0⟩, .assay { h0 with queue := 4 } 0, .assay h0 (2 ^ 32),
     .imageStage { h0 with queue := 4 } b0, .imageStage h0 ⟨2 ^ 64, 0⟩, .imageCommit { h0 with queue := 4 } 0,
     .imageCommit h0 (2 ^ 8), .reset { h0 with queue := 4 } 0, .reset h0 (2 ^ 8), .blockReset { h0 with queue := 4 } 0,
     .blockReset h0 (2 ^ 8), .timeSet { h0 with queue := 4 } 0 0 false 0, .timeSet h0 (2 ^ 8) 0 false 0,
     .timeSet h0 0 (2 ^ 8) false 0, .timeSet h0 0 0 false (2 ^ 63), .timeSet h0 0 0 false (-(2 ^ 63) - 1),
     .takeover { h0 with queue := 4 }, .takeoverForce { h0 with queue := 4 }, .sqTail (2 ^ 2) 0, .cqHead (2 ^ 2) 0,
     .msixCoalesceTimeout 5, .cqStall (2 ^ 2), .dmaErr (.queue 4) .timeout, .badAccess false (2 ^ 64)] : List Instr).all (fun c => !wellFormed c) = true := by
  decide

theorem test_refuses_3 : (
    [.bar4Access false (2 ^ 64) 0 [], .bar4Access false 0 (2 ^ 64) [], .bar4Access false 0 0 [0],
     .registerWrite (2 ^ 64) 0 none, .w1cWrite (2 ^ 64) 0 0, .loRead (2 ^ 64) false, .leTaperFrac (2 ^ 8),
     .profileTableRead (2 ^ 64) false, .tmMin (.port 80 0), .tmMax (.port 80 0), .protRegisterWrite (2 ^ 64) 0,
     .tmGrpSrcWrite (2 ^ 8) 0 0, .tmGrpSrcWrite 0 (2 ^ 8) 0, .slotEvaluation (2 ^ 8) false, .feTrip (2 ^ 8),
     .openTrip (2 ^ 8), .assayEvaluation (2 ^ 8) false, .fastDn (2 ^ 8), .fastUp (2 ^ 8) none,
     .fastUp 0 (some { g0 with hdr := 2 ^ 40 }), .blockLockLost ⟨2 ^ 8, []⟩, .blockLockLost ⟨0, [4]⟩,
     .portLost (2 ^ 8), .portRetrain (2 ^ 8), .degraded (2 ^ 8) 0, .degraded 0 (2 ^ 8), .svcDn (2 ^ 8),
     .svcResponse (2 ^ 8) f0, .svcResponse 0 { f0 with crc := 65536 }, .svcTimeout (2 ^ 8) 0, .svcTimeout 0 (2 ^ 8),
     .held (2 ^ 8) f0, .held 0 { f0 with crc := 65536 }, .status (2 ^ 8) f0, .status 0 { f0 with crc := 65536 },
     .portTrained (2 ^ 8) d0, .portTrained 0 { d0 with arrivals := [512] }, .trainingTimeout (2 ^ 8) 0,
     .trainingTimeout 0 (2 ^ 8), .preBiasedStart (2 ^ 8), .regulationReached (2 ^ 8)] : List Instr).all (fun c => !wellFormed c) = true := by
  decide

theorem test_refuses_4 : (
    [.startTimeout (2 ^ 8), .quenchTimeout (2 ^ 8), .retireTimeout (2 ^ 8), .restoreSrStep (2 ^ 8), .imbalance (2 ^ 8),
     .senseFinding (2 ^ 8), .voltageLimitTrip (2 ^ 8), .peerSilent (2 ^ 8), .wickNotice (2 ^ 32) 0 0 0,
     .wickNotice 0 (2 ^ 63) 0 0, .wickNotice 0 (-(2 ^ 63) - 1) 0 0, .wickNotice 0 0 (2 ^ 31) 0,
     .wickNotice 0 0 (-(2 ^ 31) - 1) 0, .wickNotice 0 0 0 (2 ^ 32), .budgetTimeout (2 ^ 32), .budgetReqRepeat (2 ^ 32),
     .endpointStale (2 ^ 16), .endpointDeregister (2 ^ 16), .barrierTimeout (2 ^ 32), .wick { m0 with tag := [] },
     .report { m0 with tag := [] }, .lantern { m0 with tag := [] }, .budget { m0 with tag := [] },
     .electReceived { m0 with tag := [] }, .shareReceived { m0 with tag := [] }, .alert { m0 with tag := [] },
     .replayRecordExpiry (2 ^ 32) 0, .replayRecordExpiry 0 (2 ^ 16), .ethernetLink [0], .ethernetLink [5],
     .ptpSync ⟨2 ^ 8, 0, 0, .ethernet⟩ 0, .ptpSync ⟨0, 2 ^ 64, 0, .ethernet⟩ 0, .ptpSync ⟨0, 0, 128, .ethernet⟩ 0,
     .ptpSync ⟨0, 0, -129, .ethernet⟩ 0, .ptpSync ⟨0, 0, 0, .ethernet⟩ (2 ^ 63),
     .ptpSync ⟨0, 0, 0, .ethernet⟩ (-(2 ^ 63) - 1),
     .tetherFast (some { g0 with hdr := 2 ^ 40 }) 0,
     .tetherFast none (2 ^ 31), .tetherFast none (-(2 ^ 31) - 1), .tetherBulk k0.syncs k0.type k0.hdr [] k0.crc none,
     .opTimeTick (2 ^ 15) 0 0,
     .opTimeTick (-(2 ^ 15) - 1) 0 0] : List Instr).all (fun c => !wellFormed c) = true := by
  decide

theorem test_refuses_5 : (
    [.opTimeTick 0 (2 ^ 16) 0, .opTimeTick 0 0 (2 ^ 16), .resetN (2 ^ 64) false, .releaseStep false (some (2 ^ 64)),
     .rcClockFault (2 ^ 8), .coldStart (2 ^ 8) [], .coldStart 0 [(256, 0)], .coldStart 0 [(0, 2 ^ 32)], .warmStart (2 ^ 8),
     .smbusReadByte (2 ^ 8), .getCertificate (2 ^ 8) 0 0, .getCertificate 0 (2 ^ 16) 0, .getCertificate 0 0 (2 ^ 16),
     .challenge (2 ^ 8) 0, .challenge 0 (2 ^ 8), .getMeasurements (2 ^ 8) false, .pcieLinkUp (2 ^ 8) 0 false false false,
     .pcieLinkUp 0 (2 ^ 8) false false false, .tetherTrain (2 ^ 40) [] (List.replicate 16 0) (List.replicate 16 0),
     .tetherTrain 0 [] [] (List.replicate 16 0), .tetherTrain 0 [] (List.replicate 16 65536) (List.replicate 16 0),
     .tetherTrain 0 [4] (List.replicate 16 0) (List.replicate 16 0),
     .tetherTrain 0 [] (List.replicate 16 0) [], .announce { a0 with domain := 256 }, .delayResp (2 ^ 63), .delayResp (-(2 ^ 63) - 1),
     .neighbourDiscovery (.arp (2 ^ 32)), .dhcpReply (2 ^ 32), .dramError false (2 ^ 8) 0 none,
     .dramError false 0 (2 ^ 64) none, .dramError false 0 0 (some (2 ^ 64)), .serdesMargin (2 ^ 8) 0 false,
     .serdesMargin 0 (2 ^ 8) false, .jtagAccess (2 ^ 32)] : List Instr).all (fun c => !wellFormed c) = true := by
  decide

/-! ### The manual's worked examples -/

/-- Slot 4 of Table 2-5 with the integrator it starts from. -/
def slot4 : Slot :=
  { w := words [(0x000, 0x2D), (0x01C, 0x800000), (0x020, 0x6000), (0x024, 12), (0x028, 3), (0x02C, 5), (0x038, 11), (0x03C, 8)]
    closed := true, integ := 0x797D90B000 }
def reading (v : Int) : SrcVal := ⟨v, false, false, false⟩
def slot4n (s : Slot) (r y f : Int) : Slot := s.evalClosed ⟨reading y, reading r, reading f, false⟩ 0

/-- Table 2-6, evaluation n. -/
theorem test_slot4_n : ((slot4n slot4 600000 594250 148800).out, (slot4n slot4 600000 594250 148800).integ) =
    (0x7A1F6A, 0x797FABC000) := by decide +kernel

/-- The same with the forecast gated. -/
theorem test_slot4_gated : (slot4n slot4 600000 594250 0).out = 7997040 := by decide +kernel

/-- Table 2-7, evaluations n + 1 and n + 2: the clamp keeps the integrator. -/
theorem test_slot4_clamped :
    ((slot4n (slot4n slot4 600000 594250 148800) 670000 600000 148800).out,
      (slot4n (slot4n slot4 600000 594250 148800) 670000 600000 148800).clamp,
      (slot4n (slot4n slot4 600000 594250 148800) 670000 600000 148800).integ) = (0x800000, 1, 0x797FABC000) := by decide +kernel
theorem test_slot4_after : (slot4n (slot4n (slot4n slot4 600000 594250 148800) 670000 600000 148800) 670000 630000 148800).out =
    0x7D50CC := by decide +kernel

/-- Gain shaping of −70,000 mA ("The Loop Engine: arithmetic"). -/
theorem test_gain_table :
    ({ w := words [(0x040, 2), (0x100 + 4 * 17, 60000), (0x100 + 4 * 18, 62000)] } : Slot).shape (-70000) = (-60180, false) := by
  decide +kernel

/-- Table 3-2: the Taper of slot 8, 49,862 mV and 0.25 mV an evaluation. -/
theorem test_taper : ((taperStep (49862 * 2 ^ 16) 16384 50000).1.1, (taperStep (49862 * 2 ^ 16 + 16384) 16384 50000).1.1,
    (taperStep (49862 * 2 ^ 16 + 2 * 16384) 16384 50000).1.1, (taperStep (50000 * 2 ^ 16 - 16384) 16384 50000).2) =
    (49862, 49862, 49863, 50000 * 2 ^ 16, true) := by decide

/-- One estimator update of chapter 7, and the SoC it reads. -/
theorem test_estimator :
    let r := ({ vBot := 300000, vTop := 540000, eUse := 450000, esr := 20000, iSrc := 0, tauS := 30, guard := 0, e := 318000000
                voc := 0, seed := false, regd := false, floor := false, ceil := false, wasOff := false } : StrRec).estimate
      480000 100000
    (r.voc, r.e, socOf r.e (450000 * 1000)) = (482000, 317951991, 7065) := by decide

/-- One entry update of chapter 8, and the word the entry reads. -/
theorem test_profile_entry :
    (({ count := 20, tag := 3, spread := 500, mean := 142300 } : PfEntry).update 4 145100).word = 0x0015030200022C8B := by decide

/-- The budget cut of chapter 9: P and its reason, then the caps of the 60 early and the 4 late endpoints. -/
theorem test_pool : poolOf 120000 13500 320000 4500 none false = (106500, 0) := by decide
theorem test_caps : allocate 106500 180 (List.replicate 60 ⟨300, 2200, 180⟩ ++ List.replicate 4 ⟨300, 2200, 360⟩) =
    List.replicate 60 1628 ++ List.replicate 4 2200 := by decide +kernel
theorem test_steady : allocate 106500 1 (List.replicate 64 ⟨300, 2200, 1⟩) = List.replicate 64 1664 := by decide +kernel

/-- One bus-cell current lane of chapter 12. -/
theorem test_lane :
    (onCal (fun c => { c with entries := List.replicate 640 { gain := 0x40000, offset := -37, valid := true } }) live).convert 12 0 0x4120
      = 66651 := by decide +kernel

/-- Table 10-16: header and body of the grant to endpoint 12. -/
theorem test_grant_bytes :
    gnHeader 0x03 88 true 0x10000 0x0200 1 0x2A40 0x1870000000000000 ++
      ({ cap := 1628, floor := 0, wAvg := 1000, stagger := 5, tag := 0x21, pace := 0, reason := 0, gain := 0x10000, ofs := 0 } :
        Grant).body 7 (0x1870000000000000 + 200000000) =
    [0x4C, 0x47, 0x01, 0x03, 0x58, 0x00, 0x01, 0x00, 0x00, 0x00, 0x01, 0x00, 0x00, 0x02, 0x01, 0x00, 0x40, 0x2A, 0, 0, 0, 0, 0, 0] ++
    [0, 0, 0, 0, 0, 0, 0x70, 0x18, 0x07, 0, 0, 0, 0x5C, 0x06, 0, 0, 0, 0, 0, 0, 0xE8, 0x03, 0, 0, 0x05, 0x21, 0x00, 0x00] ++
    [0, 0, 1, 0, 0, 0, 0, 0, 0, 0, 0, 0, 0x00, 0xC2, 0xEB, 0x0B, 0, 0, 0x70, 0x18] := by decide +kernel

/-- x of a bus cell at 83,333 mA on an I_REF of 75,000 mA is 1.234558 (chapter 6). -/
theorem test_heat : ((live.heatX 83333 (75 * 100000) 100).1 * 1000000 + 2 ^ 31) / 2 ^ 32 = 1234558 := by decide +kernel

/-- CRC-32C of the nine digits and SHA-256 of "abc", the check values their standards give. -/
theorem test_crc32c : crc32c [0x31, 0x32, 0x33, 0x34, 0x35, 0x36, 0x37, 0x38, 0x39] = 0xE3069283 := by decide +kernel
theorem test_sha256 : beNat (sha256 [0x61, 0x62, 0x63]) =
    0xba7816bf8f01cfea414140de5dae2223b00361a396177a9cb410ff61f20015ad := by decide +kernel

/-! ### One step from a small state -/

/-- R66: LOOP_OPEN of a scheduled closed slot waits for its evaluation. -/
theorem test_loop_open :
    (match exec (.loopOpen hd 126) (bus.setSlot 126 (fun x => { x with closed := true })) with
      | .next t => (t.slot 126).pend
      | _ => []) = [.openIt] := by decide +kernel

/-- R332: a tail doorbell of 16 on a ring of 16 entries is refused and counted. -/
theorem test_doorbell_refused :
    (match exec (.sqTail 0 16) live with
      | .next t => (t.hq.dbReject, (nth t.hq.queues 0 {}).sqTail)
      | _ => (0, 0)) = (1, 0) := by decide +kernel

/-- R16: a 1 written to a W1C bit clears it, a 0 leaves it (RC_STATUS bit 6). -/
theorem test_w1c :
    (match exec (.w1cWrite 0x100018 0x40 0) (onRc (fun x => { x with inRelease := true }) live) with
      | .next t => t.rc.inRelease
      | _ => true) = false := by decide +kernel
theorem test_w1c_zero :
    (match exec (.w1cWrite 0x100018 0 0) (onRc (fun x => { x with inRelease := true }) live) with
      | .next t => t.rc.inRelease
      | _ => false) = true := by decide +kernel

/-- A command at the front of the queue runs and leaves the queue. -/
theorem test_step_takes_front :
    (match step ((live.withPending [.getVersion]).withFetchWord 8 0) with
      | .next t => (t.pending, t.out)
      | _ => ([.svnRaise], [])) = ([], [.spdm (.version 0x12)]) := by decide +kernel

end Sys2Proof.Tests
end

