-- ==== Sys2Proof/Tests/WitnessCommands.lean ====
section
/-!
SUPPORT. States and operands that meet the hypotheses of the statements about host commands, registers and resets, clause by clause;
clauses that need a signed image or a page stand in WitnessPages.
-/

namespace Sys2Proof.Tests

open Sys2Proof Sys2Proof.Machine

set_option Elab.async false

/-- States and operands that meet the hypotheses of `Obligations.DeviceCommandsComplete`, clause by clause. -/
theorem witness_DeviceCommandsComplete :
    (∃ (h : CmdHdr) (buf : Buf) (s : State), Accepted s h ∧ bufOk buf 128 = true) ∧
    (∃ (h : CmdHdr) (buf : Buf) (s : State), Accepted s h ∧ bufOk buf 64 = true) ∧
    (∃ (h : CmdHdr) (q vec sqB cqB sqN cqN : Nat) (s : State), Accepted s h ∧ 1 ≤ q ∧ q ≤ 3 ∧ vec < 64 ∧ sqB % 4096 = 0 ∧ cqB
      % 4096 = 0 ∧ ringOk sqN = true ∧ ringOk cqN = true ∧ (nth s.hq.queues q {}).present = false ∧ s.hq.busMaster = true ∧
      h.queue ≠ q ∧ s.hq.queues.length = 4 ∧ (∀ f ∈ s.hq.inflight, ∀ k, f.wait ≠ .queueDelete k)) ∧
    (∃ (h : CmdHdr) (q : Nat) (s : State), Accepted s h ∧ 1 ≤ q ∧ q ≤ 3 ∧ h.queue ≠ q ∧ (nth s.hq.queues q {}).present = true
      ∧ s.hq.queues.length = 4 ∧ (∀ f ∈ s.hq.inflight, ∀ k, f.wait ≠ .queueDelete k) ∧ s.hq.inFlight q ≠ 0) ∧
    (∃ (h : CmdHdr) (q : Nat) (s : State), Accepted s h ∧ 1 ≤ q ∧ q ≤ 3 ∧ h.queue ≠ q ∧ (nth s.hq.queues q {}).present = true
      ∧ s.hq.queues.length = 4 ∧ (∀ f ∈ s.hq.inflight, ∀ k, f.wait ≠ .queueDelete k) ∧ s.hq.inFlight q = 0) :=
  ⟨⟨hd, bf 128, live, acc (by decide +kernel), by decide +kernel⟩,
   ⟨hd, dma 64, live, acc (by decide +kernel), by decide +kernel⟩,
   ⟨hd, 3, 63, 2 ^ 40, 2 ^ 41, 2 ^ 16, 16, live, acc (by decide +kernel), by decide, by decide, by decide, by decide,
     by decide, by decide, by decide, by decide +kernel, by decide +kernel, by decide, by decide +kernel, fun _ hf =>
     (List.not_mem_nil hf).elim⟩,
   ⟨hd, 3, withQueue 3 (fun x => { x with present := true }) (flying [fly { hd with queue := 3 } 0x0401 (.groupEnable 0)]
     live), acc (by decide +kernel), by decide, by decide, by decide, by decide +kernel, by decide +kernel,
     (List.forall_mem_singleton.mpr fun _ => Wait.noConfusion), by decide +kernel⟩,
   ⟨hd, 3, withQueue 3 (fun x => { x with present := true }) live, acc (by decide +kernel), by decide, by decide, by decide,
     by decide +kernel, by decide +kernel, fun _ hf => (List.not_mem_nil hf).elim, by decide +kernel⟩⟩

/-- States and operands that meet the hypotheses of `Obligations.LoopCommandsComplete`, clause by clause. -/
theorem witness_LoopCommandsComplete :
    (∃ (h : CmdHdr) (k : Nat) (s : State), AcceptedRun s h ∧ WellShaped s ∧ k < s.part.slots ∧ (s.slot k).loaded = true ∧
      s.slotBusy k = false ∧ (s.slot k).closing = true ∧ (s.entry k).isSome = true) ∧
    (∃ (h : CmdHdr) (k : Nat) (s : State), AcceptedRun s h ∧ WellShaped s ∧ k < s.part.slots ∧ (s.slot k).loaded = true ∧
      s.slotBusy k = false ∧ (s.slot k).closing = true ∧ (s.entry k).isSome = false) ∧
    (∃ (h : CmdHdr) (k : Nat) (s : State), AcceptedRun s h ∧ WellShaped s ∧ k < s.part.slots ∧ (s.slot k).loaded = true ∧
      s.slotBusy k = false ∧ (s.slot k).closing = false) ∧
    (∃ (h : CmdHdr) (k mode : Nat) (v : Int) (s : State), AcceptedRun s h ∧ WellShaped s ∧ k < s.part.slots ∧ mode ≤ 3 ∧
      (mode = 3 ∨ v = 0) ∧ (s.slot k).loaded = true ∧ (s.entry k).isSome = true ∧ (mode = 2 → (s.heldOf (s.slot k)).isSome =
      true) ∧ s.slotBusy k = false ∧ (s.slot k).closing = false) ∧
    (∃ (h : CmdHdr) (k mode : Nat) (v : Int) (s : State), AcceptedRun s h ∧ WellShaped s ∧ k < s.part.slots ∧ mode ≤ 3 ∧
      (mode = 3 ∨ v = 0) ∧ (s.slot k).loaded = true ∧ (s.entry k).isSome = true ∧ (mode = 2 → (s.heldOf (s.slot k)).isSome =
      true) ∧ s.slotBusy k = false ∧ (s.slot k).closing = false) ∧
    (∃ (h : CmdHdr) (k mode : Nat) (v : Int) (s : State), AcceptedRun s h ∧ WellShaped s ∧ k < s.part.slots ∧ mode ≤ 3 ∧
      (mode = 3 ∨ v = 0) ∧ (s.slot k).loaded = true ∧ (s.entry k).isSome = true ∧ (mode = 2 → (s.heldOf (s.slot k)).isSome =
      true) ∧ s.slotBusy k = false ∧ (s.slot k).closing = true) ∧
    (∃ (h : CmdHdr) (buf : Buf) (n : Nat) (s : State), AcceptedRun s h ∧ WellShaped s ∧ n ≠ 0 ∧ buf.len = 576 * n ∧ n ≤
      s.part.slots ∧ bufOk buf (576 * n) = true ∧ s.part.blocksFault (blocksOf (s.bufRead buf 0 (576 * n)) n) = none ∧ (∀ b ∈
      blocksOf (s.bufRead buf 0 (576 * n)) n, (s.slot (u b 0 1)).closing = false)) ∧
    (∃ (h : CmdHdr) (buf : Buf) (a n : Nat) (s : State), Accepted s h ∧ n ≠ 0 ∧ a + n ≤ s.part.slots ∧ bufOk buf (1024 * n) =
      true) ∧
    (∃ (h : CmdHdr) (buf : Buf) (n : Nat) (s : State), AcceptedRun s h ∧ n ≠ 0 ∧ buf.len = 8 * n ∧ n ≤ 256 * s.part.pipes ∧
      bufOk buf (8 * n) = true ∧ s.le.pendTable = none ∧ s.schedCtx.check true (entriesOf (s.bufRead buf 0 (8 * n)) n) =
      none) ∧
    (∃ (h : CmdHdr) (buf : Buf) (n : Nat) (s : State) (r : _), AcceptedRun s h ∧ n ≠ 0 ∧ buf.len = 8 * n ∧ n ≤ 256 *
      s.part.pipes ∧ bufOk buf (8 * n) = true ∧ s.le.pendTable = none ∧ s.schedCtx.check true (entriesOf (s.bufRead buf 0 (8
      * n)) n) = some r) :=
  ⟨⟨hd, 126, bus.setSlot 126 (fun x => { x with closed := true }), run (by decide +kernel), shaped (by decide +kernel),
    by decide +kernel⟩,
   ⟨hd, 0, live.setSlot 0 (fun x => { x with w := words [(0, 1)], closed := true }), run (by decide +kernel), shaped
     (by decide +kernel), by decide +kernel⟩,
   ⟨hd, 126, bus, run (by decide +kernel), shaped (by decide +kernel), by decide +kernel⟩,
   ⟨hd, 126, 2, 0, cell (fun P => { P with held := [some 5, none, none, none] }) bus, run (by decide +kernel), shaped
     (by decide +kernel), by decide +kernel⟩,
   ⟨hd, 127, 3, -(2 ^ 31), bus, run (by decide +kernel), shaped (by decide +kernel), by decide +kernel⟩,
   ⟨hd, 126, 0, 0, bus.setSlot 126 (fun x => { x with closed := true }), run (by decide +kernel), shaped (by decide +kernel),
     by decide +kernel⟩,
   ⟨hd, dma 576, 1, withDma (lay 576 [(0, [5]), (0x10, [1])]) live, run (by decide +kernel), shaped (by decide +kernel),
     by decide +kernel⟩,
   ⟨hd, bf 131072, 0, 128, live, acc (by decide +kernel), by decide +kernel⟩,
   ⟨hd, dma 8, 1, withDma ([0, 3, 0x8F, 1, 0, 4, 0xFF, 3] : Bytes) (live.setSlot 0 (fun x =>
     { x with w := words [(0, 1)] })), run (by decide +kernel), by decide +kernel⟩,
   ⟨hd, dma 8, 1, live, ⟨2, 0, 0, 0⟩, run (by decide +kernel), by decide +kernel⟩⟩

/-- States and operands that meet the hypotheses of `Obligations.EvaluationsComplete`, clause by clause. -/
theorem witness_EvaluationsComplete :
    (∃ (k : Nat) (s : State), (∀ e, s.entry k = some e → s.le.frame % e.k ≠ e.phase)) ∧
    (∃ (k : Nat) (s : State), (∀ e, s.entry k = some e → s.le.frame % e.k ≠ e.phase)) ∧
    (∃ (k : Nat) (e : SchedEnt) (s : State), WellShaped s ∧ k < 128 ∧ s.entry k = some e ∧ s.le.frame % e.k = e.phase ∧ (nth
      s.le.pipes e.pipe {}).failed = true) ∧
    (∃ (k : Nat) (e : SchedEnt) (s : State), WellShaped s ∧ k < 128 ∧ s.entry k = some e ∧ s.le.frame % e.k = e.phase ∧ (nth
      s.le.pipes e.pipe {}).failed = false) ∧
    (∃ (k : Nat) (e : SchedEnt) (s : State), WellShaped s ∧ k < 128 ∧ s.entry k = some e ∧ s.le.frame % e.k = e.phase ∧ (nth
      s.le.pipes e.pipe {}).failed = false) ∧
    (∃ (k : Nat) (s : State), WellShaped s ∧ k < s.part.slots ∧ (s.slot k).feDue = true ∧ s.role ≠ .active) ∧
    (∃ (k : Nat) (s : State), WellShaped s ∧ k < s.part.slots ∧ (s.slot k).feDue = true ∧ s.role = .active) ∧
    (∃ (k : Nat) (s : State), WellShaped s ∧ k < s.part.slots ∧ (s.slot k).loaded = true ∧ (s.slot k).closed = false ∧
      (s.slot k).openMax ≠ 0 ∧ (s.slot k).openDone = false ∧ s.role ≠ .active) ∧
    (∃ (k : Nat) (s : State), WellShaped s ∧ k < s.part.slots ∧ (s.slot k).loaded = true ∧ (s.slot k).closed = false ∧
      (s.slot k).openMax ≠ 0 ∧ (s.slot k).openDone = false ∧ s.role = .active) ∧
    (∃ (k : Nat) (s : State), WellShaped s ∧ k < s.part.slots) ∧
    (∃ (k : Nat) (e : SchedEnt) (s : State), WellShaped s ∧ k < 128 ∧ s.entry k = some e ∧ s.le.frame % e.k = e.phase ∧ (nth
      s.le.pipes e.pipe {}).failed = false) :=
  ⟨⟨126, live, fun _ h => nomatch h⟩,
   ⟨126, late, late_phase⟩,
   ⟨127, ⟨127, 3, 0, 1, 0⟩, { bus with le := { bus.le with pipes := bus.le.pipes.set 3 { failed := true } } }, shaped
     (by decide +kernel), by decide +kernel⟩,
   ⟨126, ⟨126, 2, 100, 1, 0⟩, bus, shaped (by decide +kernel), by decide +kernel⟩,
   ⟨127, ⟨127, 3, 0, 1, 0⟩, bus.setSlot 127 (fun x => { x with closed := true }), shaped (by decide +kernel),
     by decide +kernel⟩,
   ⟨126, standby (bus.setSlot 126 (fun x => { x with feDue := true })), shaped (by decide +kernel), by decide +kernel⟩,
   ⟨127, bus.setSlot 127 (fun x => { x with feDue := true }), shaped (by decide +kernel), by decide +kernel⟩,
   ⟨126, standby (bus.setSlot 126 (fun x => { x with sup := [0, 0, 0, 1, 0] })), shaped (by decide +kernel),
     by decide +kernel⟩,
   ⟨127, bus.setSlot 127 (fun x => { x with sup := [0, 0, 0, 0xFFFFFFFF, 0] }), shaped (by decide +kernel),
     by decide +kernel⟩,
   ⟨127, bus, shaped (by decide +kernel), by decide +kernel⟩,
   ⟨126, ⟨126, 2, 100, 2, 1⟩, onLe (fun x => { x with frame := 1 }) late, shaped (by decide +kernel), by decide +kernel⟩⟩

/-- States and operands that meet the hypotheses of `Obligations.SchedulesAndVectorsComplete`, clause by clause. -/
theorem witness_SchedulesAndVectorsComplete :
    (∃ (h : CmdHdr) (m : Nat) (s : State), AcceptedRun s h ∧ m ≠ 0 ∧ m < 2 ^ s.part.pipes ∧ (∀ p < 4, bitAt m p = true → (nth
      s.le.pipes p {}).failed = false) ∧ s.le.assay = none) ∧
    (∃ (p : Nat) (s : State), WellShaped s ∧ p < s.part.pipes ∧ (nth s.le.pipes p {}).failed = false) ∧
    (∃ (p : Nat) (s : State), WellShaped s ∧ p < s.part.pipes ∧ (nth s.le.pipes p {}).failed = false ∧ ((nth s.le.pipes p
      {}).repeatV = true)) ∧
    (∃ (p : Nat) (a : AssayRun) (s : State), WellShaped s ∧ p < s.part.pipes ∧ (nth s.le.pipes p {}).failed = false ∧
      s.le.assay = some a ∧ bitAt a.mask p = true ∧ nth a.left p 0 = 1 ∧ (∀ q < 4, q ≠ p → bitAt a.mask q = true → nth a.left
      q 0 = 0 ∨ (nth s.le.pipes q {}).failed = true) ∧ (∃ f ∈ s.hq.inflight, f.wait = .assay)) ∧
    (∃ (n : SchedTable) (s : State), s.le.pendTable = some n ∧ ((∃ f ∈ s.hq.inflight, f.wait = .schedule) ∧ (∀ p ∈
      s.le.fallen, p ∈ s.le.pendFall ∨ ∀ e ∈ n.ents, e.pipe ≠ p) ∧ ∀ k < 128, (s.slot k).pend = [])) ∧
    (∃ (n : SchedTable) (s : State), s.le.pendTable = some n ∧ (¬ ∀ p ∈ s.le.fallen, p ∈ s.le.pendFall ∨ ∀ e ∈ n.ents, e.pipe
      ≠ p)) ∧
    (∃ (p : Nat) (s : State), WellShaped s ∧ s.le.pendFall = [p] ∧ (s.le.fallen.head? = some p)) ∧
    (∃ (p : Nat) (s : State), WellShaped s ∧ s.le.pendFall = [p] ∧ (s.le.fallen.head? ≠ some p)) :=
  ⟨⟨hd, 15, live, run (by decide +kernel), by decide +kernel⟩,
   ⟨3, live, shaped (by decide +kernel), by decide +kernel⟩,
   ⟨3, { live with le := { live.le with pipes := live.le.pipes.set 3 { repeatV := true } } }, shaped (by decide +kernel),
     by decide +kernel⟩,
   ⟨3, { mask := 9, left := [0, 0, 0, 1], miss := [0, 0, 0, 255] },
     { (flying [fly hd 0x0A01 .assay] live) with le := { (flying [fly hd 0x0A01 .assay] live).le with assay := some { mask := 9, left := [0, 0, 0, 1], miss := [0, 0, 0, 255] } } },
     shaped (by decide +kernel), by decide +kernel⟩,
   ⟨{ ents := [⟨127, 3, 0, 1, 0⟩] },
     { (flying [fly hd 0x0305 .schedule] live) with le := { (flying [fly hd 0x0305 .schedule] live).le with pendTable := some { ents := [⟨127, 3, 0, 1, 0⟩] } } },
     by decide +kernel⟩,
   ⟨{ ents := [⟨127, 3, 0, 1, 0⟩] },
     { bus with le := { bus.le with pendTable := some { ents := [⟨127, 3, 0, 1, 0⟩] }, fallen := [3], pipes := bus.le.pipes.set 3 { failed := true } } },
     by decide +kernel⟩,
   ⟨3, { bus with le := { bus.le with pendFall := [3], fallen := [3], pipes := bus.le.pipes.set 3 { failed := true } } },
     shaped (by decide +kernel), by decide +kernel⟩,
   ⟨3, { bus with le := { bus.le with pendFall := [3], fallen := [0, 3], pipes := bus.le.pipes.set 3 { failed := true } } },
     shaped (by decide +kernel), by decide +kernel⟩⟩

/-- States and operands that meet the hypotheses of `Obligations.GroupCommandsComplete`, clause by clause. -/
theorem witness_GroupCommandsComplete :
    (∃ (h : CmdHdr) (g : Nat) (s : State), AcceptedActive s h ∧ WellShaped s ∧ g < 16 ∧ (s.group g).gtype ≠ 0 ∧ (s.group
      g).state = .off ∧ s.startRefusal g = none) ∧
    (∃ (h : CmdHdr) (g : Nat) (s : State), AcceptedActive s h ∧ WellShaped s ∧ g < 16 ∧ (s.group g).gtype ≠ 0 ∧ (s.group
      g).state ≠ .off ∧ (s.group g).state ≠ .quenching) ∧
    (∃ (h : CmdHdr) (g : Nat) (s : State), AcceptedActive s h ∧ WellShaped s ∧ g < 16 ∧ (s.group g).gtype ≠ 0 ∧ (s.group
      g).state ≠ .off ∧ (s.group g).state ≠ .quenching) ∧
    (∃ (h : CmdHdr) (g : Nat) (s : State), AcceptedActive s h ∧ WellShaped s ∧ g < 16 ∧ (s.group g).gtype ≠ 0 ∧ (s.group
      g).state = .off) ∧
    (∃ (h : CmdHdr) (g : Nat) (s : State), AcceptedActive s h ∧ WellShaped s ∧ g < 16 ∧ (s.group g).gtype ≠ 0 ∧ (s.group
      g).state ≠ .off) ∧
    (∃ (h : CmdHdr) (g : Nat) (s : State), AcceptedActive s h ∧ WellShaped s ∧ g < 16 ∧ (s.group g).gtype ≠ 0 ∧ (s.group
      g).state ≠ .off) ∧
    (∃ (h : CmdHdr) (v : Int) (slew : Nat) (s : State), AcceptedActive s h ∧ s.vsetOk v = true ∧ slewOk slew = true ∧
      ((s.supersedeBus.setBus v slew).busLive = [])) ∧
    (∃ (h : CmdHdr) (v : Int) (slew : Nat) (s : State), AcceptedActive s h ∧ s.vsetOk v = true ∧ slewOk slew = true ∧ ((∃ f ∈
      s.hq.inflight, f.wait = .busVset) ∧ (s.supersedeBus.setBus v slew).busLive ≠ [] ∧ (s.supersedeBus.setBus v
      slew).busLive.all (s.supersedeBus.setBus v slew).atTarget = true)) ∧
    (∃ (h : CmdHdr) (v : Int) (slew : Nat) (s : State), AcceptedActive s h ∧ s.vsetOk v = true ∧ slewOk slew = true ∧
      ((s.supersedeBus.setBus v slew).busLive.all (s.supersedeBus.setBus v slew).atTarget = false)) :=
  ⟨⟨hd, 15, bus, act (by decide +kernel), shaped (by decide +kernel), by decide +kernel⟩,
   ⟨hd, 15, inState .regulating bus, act (by decide +kernel), shaped (by decide +kernel), by decide +kernel⟩,
   ⟨hd, 15, inState .burstSleep bus, act (by decide +kernel), shaped (by decide +kernel), by decide +kernel⟩,
   ⟨hd, 15, bus, act (by decide +kernel), shaped (by decide +kernel), by decide +kernel⟩,
   ⟨hd, 15, inState .starting bus, act (by decide +kernel), shaped (by decide +kernel), by decide +kernel⟩,
   ⟨hd, 15, inState .quenching bus, act (by decide +kernel), shaped (by decide +kernel), by decide +kernel⟩,
   ⟨hd, 12000, 1000, bus, act (by decide +kernel), by decide +kernel⟩,
   ⟨hd, -12000, 1, flying [fly { hd with tag := 3 } 0x0403 .busVset] ((inState .regulating bus).setSlot 127 (fun x =>
     { x with closed := true, taperDone := true, taperPos := -12000 * 2 ^ 16 })), act (by decide +kernel),
     by decide +kernel⟩,
   ⟨hd, 0, 1, inState .regulating bus, act (by decide +kernel), by decide +kernel⟩⟩

/-- States and operands that meet the hypotheses of `Obligations.CellCommandsComplete`, clause by clause. -/
theorem witness_CellCommandsComplete :
    (∃ (h : CmdHdr) (p : Nat) (s : State), AcceptedActive s h ∧ WellShaped s ∧ p < s.part.ports ∧ (s.port p).isCell = true ∧
      (s.port p).retired = false ∧ s.lastCell p = false) ∧
    (∃ (h : CmdHdr) (p : Nat) (s : State), AcceptedActive s h ∧ WellShaped s ∧ p < s.part.ports ∧ (s.port p).isCell = true ∧
      (s.port p).retired = false ∧ s.lastCell p = false) ∧
    (∃ (h : CmdHdr) (p : Nat) (s : State), AcceptedActive s h ∧ WellShaped s ∧ p < s.part.ports ∧ (s.port p).isCell = true ∧
      s.lastCell p = true) ∧
    (∃ (h : CmdHdr) (p : Nat) (s : State), AcceptedActive s h ∧ WellShaped s ∧ p < s.part.ports ∧ (s.port p).isCell = true ∧
      (s.port p).retired = true) ∧
    (∃ (h : CmdHdr) (p : Nat) (s : State), AcceptedActive s h ∧ WellShaped s ∧ p < s.part.ports ∧ (s.port p).isCell = true ∧
      (s.port p).state = .trained) ∧
    (∃ (h : CmdHdr) (p : Nat) (s : State), AcceptedActive s h ∧ WellShaped s ∧ p < s.part.ports ∧ (s.port p).isCell = true ∧
      (s.port p).latched = true) ∧
    (∃ (h : CmdHdr) (p : Nat) (s : State), AcceptedActive s h ∧ WellShaped s ∧ p < s.part.ports ∧ (s.port p).isCell = true ∧
      (s.port p).latched = false ∧ (s.port p).state ≠ .trained) ∧
    (∃ (h : CmdHdr) (p : Nat) (s : State), AcceptedActive s h ∧ WellShaped s ∧ p < s.part.ports ∧ (s.port p).isCell = true ∧
      (s.port p).latched = false ∧ (s.port p).state = .trained ∧ (s.port p).retired = false) ∧
    (∃ (h : CmdHdr) (p : Nat) (s : State), AcceptedActive s h ∧ WellShaped s ∧ p < s.part.ports ∧ (s.port p).isCell = true ∧
      (s.port p).latched = false ∧ (s.port p).state = .trained ∧ (s.port p).retired = true ∧ (s.group (s.port p).group).state
      = .off) ∧
    (∃ (h : CmdHdr) (p : Nat) (s : State), AcceptedActive s h ∧ WellShaped s ∧ p < s.part.ports ∧ (s.port p).isCell = true ∧
      (s.port p).latched = false ∧ (s.port p).state = .trained ∧ (s.port p).retired = true ∧ (s.group (s.port p).group).state
      = .quenching ∧ ((s.group (s.port p).group).gtype = 1 → s.cellSlotOk p = true)) ∧
    (∃ (h : CmdHdr) (p : Nat) (s : State), AcceptedActive s h ∧ WellShaped s ∧ p < s.part.ports ∧ (s.port p).isCell = true ∧
      (s.port p).latched = false ∧ (s.port p).state = .trained ∧ (s.port p).retired = true ∧ (s.group (s.port p).group).state
      ≠ .off ∧ (s.group (s.port p).group).gtype = 1 ∧ s.cellSlotOk p = false) ∧
    (∃ (h : CmdHdr) (p : Nat) (s : State), AcceptedActive s h ∧ WellShaped s ∧ p < s.part.ports ∧ (s.port p).isCell = true ∧
      (s.port p).latched = false ∧ (s.port p).state = .trained ∧ (s.port p).retired = true ∧ (s.group (s.port p).group).state
      ≠ .off ∧ (s.group (s.port p).group).state ≠ .quenching ∧ ((s.group (s.port p).group).gtype = 1 → s.cellSlotOk p =
      true)) ∧
    (∃ (p : Nat) (s : State), WellShaped s ∧ p < s.part.ports ∧ (s.port p).restore = some .srStep) :=
  ⟨⟨hd, 79, bus, act (by decide +kernel), shaped (by decide +kernel), by decide +kernel⟩,
   ⟨hd, 79, inState .regulating bus, act (by decide +kernel), shaped (by decide +kernel), by decide +kernel⟩,
   ⟨hd, 79, (inState .regulating bus).setPort 78 (fun P => { P with retired := true }), act (by decide +kernel), shaped
     (by decide +kernel), by decide +kernel⟩,
   ⟨hd, 79, cell (fun P => { P with retired := true }) bus, act (by decide +kernel), shaped (by decide +kernel),
     by decide +kernel⟩,
   ⟨hd, 79, bus, act (by decide +kernel), shaped (by decide +kernel), by decide +kernel⟩,
   ⟨hd, 79, cell (fun P => { P with brFault := 8 }) bus, act (by decide +kernel), shaped (by decide +kernel),
     by decide +kernel⟩,
   ⟨hd, 79, cell (fun P => { P with state := .lost }) bus, act (by decide +kernel), shaped (by decide +kernel),
     by decide +kernel⟩,
   ⟨hd, 79, bus, act (by decide +kernel), shaped (by decide +kernel), by decide +kernel⟩,
   ⟨hd, 79, cell (fun P => { P with retired := true }) bus, act (by decide +kernel), shaped (by decide +kernel),
     by decide +kernel⟩,
   ⟨hd, 79, cell (fun P => { P with retired := true }) (inState .quenching bus), act (by decide +kernel), shaped
     (by decide +kernel), by decide +kernel⟩,
   ⟨hd, 79, cell (fun P => { P with retired := true }) (grp (fun G => { G with gtype := 1, state := .starting }) bus), act
     (by decide +kernel), shaped (by decide +kernel), by decide +kernel⟩,
   ⟨hd, 79, cell (fun P => { P with retired := true }) (inState .regulating bus), act (by decide +kernel), shaped
     (by decide +kernel), by decide +kernel⟩,
   ⟨79, cell (fun P => { P with restore := some .srStep }) bus, shaped (by decide +kernel), by decide +kernel⟩⟩

/-- States and operands that meet the hypotheses of `Obligations.BusWritesComplete`, clause by clause. -/
theorem witness_BusWritesComplete :
    (∃ (d : Reg) (s : State), s.bar0 = true ∧ s.standbyFlag = false ∧ s.vsetOk d.toInt = true) ∧
    (∃ (d : Reg) (s : State), s.bar0 = true ∧ s.standbyFlag = false ∧ s.vsetOk d.toInt = true) ∧
    (∃ (d : Reg) (s : State), s.bar0 = true ∧ s.standbyFlag = false ∧ s.vsetOk d.toInt = false) ∧
    (∃ (d : Reg) (s : State), s.bar0 = true ∧ s.standbyFlag = false ∧ slewOk (bits d.toNat 9 0) = true) ∧
    (∃ (d : Reg) (s : State), s.bar0 = true ∧ s.standbyFlag = false ∧ slewOk (bits d.toNat 9 0) = false) ∧
    (∃ (d : Reg) (s : State), s.bar0 = true ∧ (bits d.toNat 6 0 ≤ 100)) ∧
    (∃ (d : Reg) (s : State), s.bar0 = true ∧ 1 ≤ d.toNat ∧ d.toNat < 2 ^ 31) ∧
    (∃ (d : Reg) (s : State), s.bar0 = true ∧ (d.toNat = 0 ∨ 2 ^ 31 ≤ d.toNat)) ∧
    (∃ (d : Reg) (s : State), s.bar0 = true ∧ (d.toNat = 0 ∨ 2 ^ 31 ≤ d.toNat)) ∧
    (∃ (d : Reg) (s : State), s.bar0 = true ∧ 1 ≤ bits d.toNat 15 0) ∧
    (∃ (d : Reg) (s : State), s.bar0 = true ∧ bits d.toNat 15 0 = 0) ∧
    (∃ (d : Reg) (s : State), s.bar0 = true ∧ 1 ≤ bits d.toNat 9 0 ∧ 1 ≤ bits d.toNat 19 10 ∧ bits d.toNat 19 10 < bits
      d.toNat 29 20) ∧
    (∃ (d : Reg) (s : State), s.bar0 = true ∧ (bits d.toNat 9 0 = 0 ∨ bits d.toNat 19 10 = 0 ∨ bits d.toNat 29 20 ≤ bits
      d.toNat 19 10)) :=
  ⟨⟨12000, bus, by decide +kernel⟩,
   ⟨-12000, bus, by decide +kernel⟩,
   ⟨12001, bus, by decide +kernel⟩,
   ⟨0xFFFFFFE8, bus, by decide +kernel⟩,
   ⟨0xFFFFFC00, bus, by decide +kernel⟩,
   ⟨100, bus, by decide +kernel⟩,
   ⟨0x7FFFFFFF, bus, by decide +kernel⟩,
   ⟨0x80000000, bus, by decide +kernel⟩,
   ⟨0, bus, by decide +kernel⟩,
   ⟨0xFFFF, bus, by decide +kernel⟩,
   ⟨0xFFFF0000, bus, by decide +kernel⟩,
   ⟨0x00200401, bus, by decide +kernel⟩,
   ⟨0x00100401, bus, by decide +kernel⟩⟩

/-- States and operands that meet the hypotheses of `Obligations.RegisterWritesComplete`, clause by clause. -/
theorem witness_RegisterWritesComplete :
    (∃ (a : Nat) (d : Reg) (s : State) (G : _), s.bar0 = true ∧ WellShaped s ∧ 0xA00000 ≤ a ∧ a < 0xA10000 ∧ (s.group ((a -
      0xA00000) / 0x1000)).protWrite (a % 0x1000) d = some G) ∧
    (∃ (a : Nat) (d : Reg) (s : State), s.bar0 = true ∧ WellShaped s ∧ 0xA00000 ≤ a ∧ a < 0xA10000 ∧ (s.group ((a - 0xA00000)
      / 0x1000)).protWrite (a % 0x1000) d = none) ∧
    (∃ (d : Reg) (s : State), s.bar0 = true ∧ bits d.toNat 15 0 < bits d.toNat 31 16) ∧
    (∃ (d : Reg) (s : State), s.bar0 = true ∧ bits d.toNat 31 16 ≤ bits d.toNat 15 0) ∧
    (∃ (d : Reg) (s : State), s.bar0 = true ∧ bits d.toNat 23 16 ≤ 100) ∧
    (∃ (d : Reg) (s : State), s.bar0 = true ∧ 100 < bits d.toNat 23 16) ∧
    (∃ (i : Nat) (d : Reg) (s : State), s.bar0 = true ∧ i < 3 ∧ s.part.srcOk 1 d.toNat = true) ∧
    (∃ (i : Nat) (d : Reg) (s : State), s.bar0 = true ∧ i < 3 ∧ s.part.srcOk 1 d.toNat = false) ∧
    (∃ (g which : Nat) (d : Reg) (s : State), s.bar0 = true ∧ WellShaped s ∧ g < 16 ∧ which < 3 ∧ s.part.srcOk 4 d.toNat =
      true) ∧
    (∃ (g which : Nat) (d : Reg) (s : State), s.bar0 = true ∧ WellShaped s ∧ g < 16 ∧ which < 3 ∧ s.part.srcOk 4 d.toNat =
      false) ∧
    (∃ (d : Reg) (s : State), s.rc.recovery = false ∧ (bits d.toNat 2 0 ≤ 5)) ∧
    (∃ (d : Reg) (s : State), s.rc.recovery = false ∧ (5 < bits d.toNat 2 0)) ∧
    (∃ (d : Reg) (s : State), s.bar0 = true ∧ bits d.toNat 15 0 ≠ 0 ∧ (bitAt d.toNat 16 = false ∧ s.rc.power = .quiet)) ∧
    (∃ (d : Reg) (s : State), s.bar0 = true ∧ bits d.toNat 15 0 ≠ 0) ∧
    (∃ (d : Reg) (s : State), s.bar0 = true ∧ bits d.toNat 15 0 = 0) ∧
    (∃ s : State, s.bar0 = true) ∧
    (∃ (s : State), s.bar0 = true ∧ s.hq.enable = false) ∧
    (∃ (s : State), s.bar0 = true ∧ s.hq.enable = false) ∧
    (∃ (s : State), s.bar0 = true ∧ s.hq.enable = true) ∧
    (∃ (s : State), s.rc.recovery = true) :=
  ⟨⟨0xA0F058, 0x00010001, bus, { bus.group 15 with vlimTime := 0x00010001 }, by decide +kernel, shaped (by decide +kernel),
    by decide +kernel⟩,
   ⟨0xA0F058, 0x00010000, bus, by decide +kernel, shaped (by decide +kernel), by decide +kernel⟩,
   ⟨0xFFFF0000, bus, by decide +kernel⟩,
   ⟨0x00010001, bus, by decide +kernel⟩,
   ⟨0x00640000, bus, by decide +kernel⟩,
   ⟨0x00650000, bus, by decide +kernel⟩,
   ⟨2, 0xFFFC04F1, bus, by decide +kernel⟩,
   ⟨2, 5, bus, by decide +kernel⟩,
   ⟨15, 2, 0x000207F3, bus, by decide +kernel, shaped (by decide +kernel), by decide +kernel⟩,
   ⟨15, 2, 5, bus, by decide +kernel, shaped (by decide +kernel), by decide +kernel⟩,
   ⟨5, bus, by decide +kernel⟩,
   ⟨6, bus, by decide +kernel⟩,
   ⟨1, { bus with rc := { bus.rc with power := .quiet } }, by decide +kernel⟩,
   ⟨0x1FFFF, bus, by decide +kernel⟩,
   ⟨0x10000, bus, by decide +kernel⟩,
   ⟨bus, by decide +kernel⟩,
   ⟨onHq (fun x => { x with enable := false }) live, by decide +kernel⟩,
   ⟨onHq (fun x => { x with enable := false }) live, by decide +kernel⟩,
   ⟨bus, by decide +kernel⟩,
   ⟨{ bus with rc := { bus.rc with start := .recovery } }, by decide +kernel⟩⟩

/-- States and operands that meet the hypotheses of `Obligations.DoorbellsAndFetchComplete`, clause by clause. -/
theorem witness_DoorbellsAndFetchComplete :
    (∃ (q : Nat) (d : Reg) (s : State), WellShaped s ∧ s.bar0 = true ∧ q < 4 ∧ (nth s.hq.queues q {}).present = true ∧
      d.toNat % 65536 < (nth s.hq.queues q {}).sqN) ∧
    (∃ (q : Nat) (d : Reg) (s : State), WellShaped s ∧ s.bar0 = true ∧ q < 4 ∧ ((nth s.hq.queues q {}).present = false ∨ (nth
      s.hq.queues q {}).sqN ≤ d.toNat % 65536)) ∧
    (∃ (q : Nat) (d : Reg) (s : State), WellShaped s ∧ s.bar0 = true ∧ q < 4 ∧ ((nth s.hq.queues q {}).present = false ∨ (nth
      s.hq.queues q {}).sqN ≤ d.toNat % 65536)) ∧
    (∃ (q : Nat) (d : Reg) (s : State), WellShaped s ∧ s.bar0 = true ∧ q < 4 ∧ (nth s.hq.queues q {}).present = true ∧ headOk
      (nth s.hq.queues q {}).cqN (nth s.hq.queues q {}).cqHead (nth s.hq.queues q {}).cqTail (d.toNat % 65536) = true ∧ 0 <
      (s.hq.cqFree q)) ∧
    (∃ (q : Nat) (d : Reg) (s : State), WellShaped s ∧ s.bar0 = true ∧ q < 4 ∧ (nth s.hq.queues q {}).present = true ∧ headOk
      (nth s.hq.queues q {}).cqN (nth s.hq.queues q {}).cqHead (nth s.hq.queues q {}).cqTail (d.toNat % 65536) = false) ∧
    (∃ (q : Nat) (s : State), WellShaped s ∧ s.bar0 = true ∧ q < 4 ∧ (nth s.hq.queues q {}).present = false) ∧
    (∃ (d : Reg) (s : State), s.bar0 = true ∧ s.hq.eq.present = true ∧ headOk s.hq.eq.n s.hq.eq.head s.hq.eq.tail (d.toNat %
      65536) = true ∧ s.hq.eq.notQueued ≠ 0 ∧ s.hq.eq.faulted = false ∧ 2 ≤ { s.hq.eq with head := d.toNat % 65536 }.free) ∧
    (∃ (d : Reg) (s : State), s.bar0 = true ∧ headOk s.hq.eq.n s.hq.eq.head s.hq.eq.tail (d.toNat % 65536) = false) ∧
    (∃ (q : Nat) (x : HostIf) (s : State), WellShaped s ∧ s.fetches = true ∧ s.hq.parked = [] ∧ s.hq.arbitrate = some (q, x)
      ∧ bitAt (u (Mem.readN 0 s.hostMem ((nth s.hq.queues q {}).sqBase + 64 * (nth s.hq.queues q {}).sqHead) 64) 2 2) 0 =
      false ∧ opParams (u (Mem.readN 0 s.hostMem ((nth s.hq.queues q {}).sqBase + 64 * (nth s.hq.queues q {}).sqHead) 64) 0
      2) (Mem.readN 0 s.hostMem ((nth s.hq.queues q {}).sqBase + 64 * (nth s.hq.queues q {}).sqHead) 64) = none) ∧
    (∃ (q : Nat) (x : HostIf) (s : State), WellShaped s ∧ s.fetches = true ∧ s.hq.parked = [] ∧ s.hq.arbitrate = some (q, x)
      ∧ bitAt (u (Mem.readN 0 s.hostMem ((nth s.hq.queues q {}).sqBase + 64 * (nth s.hq.queues q {}).sqHead) 64) 2 2) 0 =
      true ∧ (∃ f ∈ s.hq.inflight, f.hdr.queue = q ∧ f.no < s.hq.fetchNo)) ∧
    (∃ (q : Nat) (x : HostIf) (s : State), WellShaped s ∧ s.fetches = true ∧ s.hq.parked = [] ∧ s.hq.arbitrate = some (q, x)
      ∧ bitAt (u (Mem.readN 0 s.hostMem ((nth s.hq.queues q {}).sqBase + 64 * (nth s.hq.queues q {}).sqHead) 64) 2 2) 0 =
      true ∧ (∀ f ∈ s.hq.inflight, f.hdr.queue ≠ q)) :=
  ⟨⟨1, 0xFFFF000F, live, shaped (by decide +kernel), by decide +kernel⟩,
   ⟨3, 0, live, shaped (by decide +kernel), by decide +kernel⟩,
   ⟨0, 16, live, shaped (by decide +kernel), by decide +kernel⟩,
   ⟨1, 1, withQueue 1 (fun x => { x with cqTail := 1, stall := true }) live, shaped (by decide +kernel), by decide +kernel⟩,
   ⟨1, 1, live, shaped (by decide +kernel), by decide +kernel⟩,
   ⟨3, live, shaped (by decide +kernel), by decide +kernel⟩,
   ⟨15, onHq (fun x => { x with eq := { x.eq with tail := 15, notQueued := 1 } }) live, by decide +kernel⟩,
   ⟨16, live, by decide +kernel⟩,
   ⟨0, { (withQueue 0 (fun x => { x with sqTail := 1 }) live).hq with run0 := 1 }, (withQueue 0 (fun x =>
     { x with sqTail := 1 }) live), shaped (by decide +kernel), by decide +kernel⟩,
   ⟨0, { fenced.hq with run0 := 1 }, fenced, shaped (by decide +kernel), by decide +kernel⟩,
   ⟨0, { unfenced.hq with run0 := 1 }, unfenced, shaped (by decide +kernel), by decide +kernel⟩⟩

/-- States and operands that meet the hypotheses of `Obligations.RingEventsComplete`, clause by clause. -/
theorem witness_RingEventsComplete :
    (∃ (s : State), s.bar0 = true ∧ s.hq.enable = false ∧ s.hq.bootOk = true) ∧
    (∃ (s : State), s.bar0 = true ∧ s.hq.enable = false ∧ s.hq.bootOk = false) ∧
    (∃ (s : State), s.bar0 = true ∧ s.hq.enable = true) ∧
    (∃ (s : State), s.hq.enable = true ∧ (nth s.hq.queues 0 {}).present = true ∧ (nth s.hq.queues 0 {}).faulted = false ∧
      WellShaped s ∧ s.hq.ledger ≠ [] ∧ s.hq.ledger.length ≤ s.hq.cqFree 0) ∧
    (∃ (q : Nat) (s : State), WellShaped s ∧ q < 4 ∧ s.hq.msixEnable = true ∧ (nth s.hq.queues q {}).present = true ∧ (nth
      s.hq.queues q {}).coalUs ≠ 0 ∧ 0 < (nth s.hq.queues q {}).unsig ∧ (bitAt (nth s.hq.msix (nth s.hq.queues q {}).vec
      {}).ctl.toNat 0 = true)) ∧
    (∃ (q : Nat) (s : State), WellShaped s ∧ q < 4 ∧ s.hq.msixEnable = true ∧ (nth s.hq.queues q {}).present = true ∧ (nth
      s.hq.queues q {}).coalUs ≠ 0 ∧ 0 < (nth s.hq.queues q {}).unsig ∧ (bitAt (nth s.hq.msix (nth s.hq.queues q {}).vec
      {}).ctl.toNat 0 = false)) ∧
    (∃ (s : State), s.hq.msixEnable = true ∧ s.hq.eq.present = true ∧ s.hq.eq.coalUs ≠ 0 ∧ 0 < s.hq.eq.unsig) ∧
    (∃ (q : Nat) (s : State), WellShaped s ∧ q < 4 ∧ (nth s.hq.queues q {}).present = true ∧ s.hq.cqFree q = 0) ∧
    (∃ (s : State), s.hq.eq.present = true ∧ s.hq.eq.free = 0) :=
  ⟨⟨onHq (fun x => { x with enable := false, bootSizes := 0x00081200, wbLo := 64 }) live, by decide +kernel⟩,
   ⟨onHq (fun x => { x with enable := false, bootSizes := 0 }) live, by decide +kernel⟩,
   ⟨live, by decide +kernel⟩,
   ⟨onHq (fun x => { x with ledger := [⟨7, 0, 1, 1, 1, 4, 0⟩] }) live, by decide +kernel, by decide +kernel,
     by decide +kernel, shaped (by decide +kernel), by decide +kernel⟩,
   ⟨1, withQueue 1 (fun x => { x with unsig := 1 }) (onHq (fun x => { x with msixEnable := true }) live), shaped
     (by decide +kernel), by decide +kernel⟩,
   ⟨1, withQueue 1 (fun x => { x with unsig := 1, vec := 63 }) (onHq (fun x =>
     { x with msixEnable := true, msix := x.msix.set 63 ⟨0, 0, 0, 0⟩ }) live), shaped (by decide +kernel),
     by decide +kernel⟩,
   ⟨onHq (fun x => { x with msixEnable := true, eq := { x.eq with coalUs := 1, unsig := 1 } }) live, by decide +kernel⟩,
   ⟨0, withQueue 0 (fun x => { x with cqTail := 15 }) live, shaped (by decide +kernel), by decide +kernel⟩,
   ⟨onHq (fun x => { x with eq := { x.eq with tail := 15 } }) live, by decide +kernel⟩⟩

/-- States and operands that meet the hypotheses of `Obligations.HostAccessesComplete`, clause by clause. -/
theorem witness_HostAccessesComplete :
    (∃ (q : Nat) (s : State), WellShaped s ∧ q < 4 ∧ (nth s.hq.queues q {}).present = true ∧ (∃ f ∈ s.hq.inflight,
      f.hdr.queue = q)) ∧
    (∃ (s : State), s.hq.eq.present = true) ∧
    (∃ (h : CmdHdr) (s : State), (∃ f ∈ s.hq.inflight, f.hdr = h)) ∧
    (∃ (off n : Nat) (s : State), (∀ k < n, s.part.ringGib * 2 ^ 30 ≤ off + k ∧ off + k < s.part.ringGib * 2 ^ 30 + 2 ^ 28))
      ∧
    (∃ (off n : Nat) (s : State), off + n ≤ s.part.ringGib * 2 ^ 30 ∧ s.rc.recovery = false) ∧
    (∃ (off : Nat) (data : Bytes) (s : State), s.part.ringGib * 2 ^ 30 ≤ off ∧ off + data.length ≤ s.part.ringGib * 2 ^ 30 +
      2 ^ 28) ∧
    (∃ (off : Nat) (data : Bytes) (s : State), (off < s.part.ringGib * 2 ^ 30 ∨ s.part.ringGib * 2 ^ 30 + 2 ^ 28 < off +
      data.length)) ∧
    (∃ (off : Nat) (data : Bytes) (s : State), (off < s.part.ringGib * 2 ^ 30 ∨ s.part.ringGib * 2 ^ 30 + 2 ^ 28 < off +
      data.length)) ∧
    (∃ (s : State), s.rc.on 12 = true ∧ s.rc.on 13 = true) :=
  ⟨⟨1, flying [fly hd 0x0401 (.groupEnable 3)] live, shaped (by decide +kernel), by decide +kernel⟩,
   ⟨live, by decide +kernel⟩,
   ⟨hd, flying [fly hd 0x0703 .logClear] live, by decide +kernel⟩,
   ⟨40 * 2 ^ 30 + 2 ^ 28 - 2, 2, live, by decide +kernel⟩,
   ⟨40 * 2 ^ 30 - 1, 1, live, by decide +kernel⟩,
   ⟨40 * 2 ^ 30 + 2 ^ 28 - 1, [255], live, by decide +kernel⟩,
   ⟨40 * 2 ^ 30 + 2 ^ 28, [255], live, by decide +kernel⟩,
   ⟨40 * 2 ^ 30 - 1, [255], live, by decide +kernel⟩,
   ⟨live, by decide +kernel⟩⟩

/-- States and operands that meet the hypotheses of `Obligations.ReadsComplete`, clause by clause. -/
theorem witness_ReadsComplete :
    (∃ (k : Nat) (s : State), WellShaped s ∧ s.bar0 = true ∧ k < s.part.slots) ∧
    (∃ (a v : Nat) (s : State), s.bar0 = true ∧ s.integAt a = none ∧ s.wide a = some v) ∧
    (∃ (a v : Nat) (s : State), s.bar0 = true ∧ s.integAt a = none ∧ s.wide a = some v) ∧
    (∃ (b : Nat) (s : State), b < s.part.profileEntries) ∧
    (∃ (p ch : Nat) (s : State), WellShaped s ∧ p < s.part.ports ∧ ch < (s.port p).tele.length ∧ ch < 8) ∧
    (∃ (g k : Nat) (s : State), WellShaped s ∧ g < 16 ∧ k < 4) :=
  ⟨⟨127, live, shaped (by decide +kernel), by decide +kernel⟩,
   ⟨0x00D00020, 3, { live with pf := { live.pf with period := 3 } }, by decide +kernel⟩,
   ⟨0x00D00020, 2 ^ 64 - 1, { live with pf := { live.pf with period := -1 } }, by decide +kernel⟩,
   ⟨524287, live, by decide +kernel⟩,
   ⟨79, 7, live, shaped (by decide +kernel), by decide +kernel⟩,
   ⟨15, 3, live, shaped (by decide +kernel), by decide +kernel⟩⟩

/-- States and operands that meet the hypotheses of `Obligations.PlanisherCommandsComplete`, clause by clause. -/
theorem witness_PlanisherCommandsComplete :
    (∃ (h : CmdHdr) (m : Nat) (s : State), AcceptedActive s h ∧ m ≤ 2) ∧
    (∃ (h : CmdHdr) (buf : Buf) (l : List Nat) (s : State), AcceptedActive s h ∧ buf.len = 64 ∧ bufOk buf 64 = true ∧
      limParse s.sh.ratingW (s.bufRead buf 0 64) = .inr l) ∧
    (∃ (h : CmdHdr) (buf : Buf) (off : Nat) (s : State), AcceptedActive s h ∧ buf.len = 64 ∧ bufOk buf 64 = true ∧ limParse
      s.sh.ratingW (s.bufRead buf 0 64) = .inl off) :=
  ⟨⟨hd, 2, live, act (by decide +kernel), by decide +kernel⟩,
   ⟨hd, dma 64, [20000, 0, 90, 60, 0, 200, 60, 20, 20000, 10000, 0, 1000, 10000, 1000, 10, 1000, 24000, 0, 40, 0],
     { withDma (lay 64 []) live with sh := { live.sh with ratingW := 10000 } }, act (by decide +kernel), by decide +kernel⟩,
   ⟨hd, dma 64, 0x04, withDma (lay 64 [(4, [99])]) live, act (by decide +kernel), by decide +kernel⟩⟩

/-- States and operands that meet the hypotheses of `Obligations.ProfileCommandsComplete`, clause by clause. -/
theorem witness_ProfileCommandsComplete :
    (∃ (h : CmdHdr) (buf : Buf) (count binExp mode weight timeoutMs n : Nat) (actTime : Int) (s : State), AcceptedRun s h ∧
      s.pf.state ≠ .loading ∧ 1 ≤ count ∧ count ≤ 4096 ∧ buf.len = 16 * count ∧ (binExp ≤ 20 ∨ binExp = 0xFF) ∧ mode ≤ 2 ∧
      weight ≠ 0 ∧ (if mode = 0 then timeoutMs = 0 else 1 ≤ timeoutMs ∧ timeoutMs ≤ 3600000) ∧ (mode = 1 ∨ actTime = 0) ∧
      bufOk buf (16 * count) = true ∧ phaseFault (s.bufRead buf 0 (16 * count)) count = none ∧ 8 * 2 ^ 16 ≤ planPeriod
      (phasesOf (s.bufRead buf 0 (16 * count)) count) ∧ s.part.chooseBin binExp (planPeriod (phasesOf (s.bufRead buf 0 (16 *
      count)) count)) = some n) ∧
    (∃ (h : CmdHdr) (buf : Buf) (count binExp mode weight timeoutMs n : Nat) (actTime : Int) (s : State), AcceptedRun s h ∧
      s.pf.state ≠ .loading ∧ 1 ≤ count ∧ count ≤ 4096 ∧ buf.len = 16 * count ∧ (binExp ≤ 20 ∨ binExp = 0xFF) ∧ mode ≤ 2 ∧
      weight ≠ 0 ∧ (if mode = 0 then timeoutMs = 0 else 1 ≤ timeoutMs ∧ timeoutMs ≤ 3600000) ∧ (mode = 1 ∨ actTime = 0) ∧
      bufOk buf (16 * count) = true ∧ phaseFault (s.bufRead buf 0 (16 * count)) count = none ∧ 8 * 2 ^ 16 ≤ planPeriod
      (phasesOf (s.bufRead buf 0 (16 * count)) count) ∧ s.part.chooseBin binExp (planPeriod (phasesOf (s.bufRead buf 0 (16 *
      count)) count)) = some n) ∧
    (∃ (h : CmdHdr) (c : PfSet) (s : State), AcceptedRun s h ∧ s.pf.state ≠ .loading ∧ pfFault c = none ∧ (0 < s.pf.period ∧
      c.minUs = s.pf.cfg.minUs ∧ c.maxUs = s.pf.cfg.maxUs ∧ s.part.chooseBin c.binExp s.pf.period = some s.pf.n)) ∧
    (∃ (h : CmdHdr) (c : PfSet) (s : State), AcceptedRun s h ∧ s.pf.state ≠ .loading ∧ pfFault c = none ∧ (¬ (0 < s.pf.period
      ∧ c.minUs = s.pf.cfg.minUs ∧ c.maxUs = s.pf.cfg.maxUs ∧ s.part.chooseBin c.binExp s.pf.period = some s.pf.n))) ∧
    (∃ (h : CmdHdr) (s : State), AcceptedRun s h ∧ s.pf.state ≠ .loading) ∧
    (∃ (h : CmdHdr) (s : State), AcceptedRun s h ∧ s.pf.state ≠ .loading) ∧
    (∃ (h : CmdHdr) (c : PfSet) (s : State), AcceptedRun s h ∧ s.pf.state ≠ .loading ∧ pfFault c = none ∧ (s.pf.period ≤ 0 ∧
      decM c.maxUs = decM s.pf.cfg.maxUs)) ∧
    (∃ (h : CmdHdr) (c : PfSet) (s : State), AcceptedRun s h ∧ s.pf.state ≠ .loading ∧ pfFault c = none ∧ (s.pf.period ≤ 0 ∧
      decM c.maxUs ≠ decM s.pf.cfg.maxUs)) ∧
    (∃ (h : CmdHdr) (c : PfSet) (s : State), AcceptedRun s h ∧ s.pf.state ≠ .loading ∧ pfFault c = none ∧ (0 < s.pf.period ∧
      s.part.chooseBin c.binExp s.pf.period = some 2)) ∧
    (∃ (h : CmdHdr) (c : PfSet) (s : State), AcceptedRun s h ∧ s.pf.state ≠ .loading ∧ pfFault c = none ∧ (0 < s.pf.period ∧
      s.part.chooseBin c.binExp s.pf.period = none)) ∧
    (∃ (h : CmdHdr) (c : PfSet) (s : State), AcceptedRun s h ∧ s.pf.state = .loading ∧ pfFault c = none) :=
  ⟨⟨hd, dma 16, 1, 0, 1, 1, 3600000, 0, -1, withDma (lay 16 [(0, [8, 0, 0, 0]), (4, [255, 255, 127, 0])]) live, run
    (by decide +kernel), by decide +kernel⟩,
   ⟨hd, dma 16, 1, 0xFF, 0, 0xFFFF, 0, 0, 0, withDma (lay 16 [(0, [8, 0, 0, 0]), (4, [255, 255, 127, 0])]) live, run
     (by decide +kernel), by decide +kernel⟩,
   ⟨hd, { spreadMax := 4 }, onPf (fun x => { x with state := .locked, period := 100 * 2 ^ 16, n := 0 }) live, run
     (by decide +kernel), by decide +kernel⟩,
   ⟨hd, { spreadMax := 4 }, live, run (by decide +kernel), by decide +kernel⟩,
   ⟨hd, live, run (by decide +kernel), by decide +kernel⟩,
   ⟨hd, live, run (by decide +kernel), by decide +kernel⟩,
   ⟨hd, { spreadMax := 262140 }, live, run (by decide +kernel), by decide +kernel⟩,
   ⟨hd, { spreadMax := 4, maxUs := 2 ^ 20 }, live, run (by decide +kernel), by decide +kernel⟩,
   ⟨hd, { spreadMax := 4, binExp := 2 }, onPf (fun x => { x with state := .locked, period := 100 * 2 ^ 16, n := 0 }) live,
     run (by decide +kernel), by decide +kernel⟩,
   ⟨hd, { spreadMax := 4, binExp := 0 }, onPf (fun x => { x with state := .locked, period := 2 ^ 40 }) live, run
     (by decide +kernel), by decide +kernel⟩,
   ⟨hd, { spreadMax := 4 }, { live with pf := { live.pf with state := .loading } }, run (by decide +kernel),
     by decide +kernel⟩⟩

/-- States and operands that meet the hypotheses of `Obligations.GovernorCommandsComplete`, clause by clause. -/
theorem witness_GovernorCommandsComplete :
    (∃ (h : CmdHdr) (w : Int) (ms id : Nat) (s : State), AcceptedActive s h ∧ s.gv.ok = true ∧ 0 ≤ w ∧ (ms = 0 ∨ 100 ≤ ms ∧
      ms ≤ 3600000) ∧ id = (if (s.gv.reqId + 1) % 2 ^ 32 = 0 then 1 else (s.gv.reqId + 1) % 2 ^ 32)) ∧
    (∃ (h : CmdHdr) (w : Int) (ms id : Nat) (s : State), AcceptedActive s h ∧ s.gv.ok = true ∧ 0 ≤ w ∧ (ms = 0 ∨ 100 ≤ ms ∧
      ms ≤ 3600000) ∧ id = (if (s.gv.reqId + 1) % 2 ^ 32 = 0 then 1 else (s.gv.reqId + 1) % 2 ^ 32) ∧ (s.gv.role = 2 ∧
      s.gn.queue.length < 4096)) ∧
    (∃ (h : CmdHdr) (w : Int) (ms id : Nat) (s : State), AcceptedActive s h ∧ s.gv.ok = true ∧ 0 ≤ w ∧ (ms = 0 ∨ 100 ≤ ms ∧
      ms ≤ 3600000) ∧ id = (if (s.gv.reqId + 1) % 2 ^ 32 = 0 then 1 else (s.gv.reqId + 1) % 2 ^ 32) ∧ (s.gv.role ≠ 2 ∧
      s.canSend = true ∧ s.gn.rackKey.cur = some rackKey0)) ∧
    (∃ (h : CmdHdr) (k v id : Nat) (s : State), AcceptedActive s h ∧ s.gv.ok = true ∧ (k = 1 ∧ v ≤ 1 ∨ k = 3 ∧ v ≤ 2) ∧ id =
      (if (s.gv.reqId + 1) % 2 ^ 32 = 0 then 1 else (s.gv.reqId + 1) % 2 ^ 32)) ∧
    (∃ (h : CmdHdr) (k v id : Nat) (s : State), AcceptedActive s h ∧ s.gv.ok = true ∧ (k = 1 ∧ v ≤ 1 ∨ k = 3 ∧ v ≤ 2) ∧ id =
      (if (s.gv.reqId + 1) % 2 ^ 32 = 0 then 1 else (s.gv.reqId + 1) % 2 ^ 32)) ∧
    (∃ (h : CmdHdr) (v id : Nat) (s : State), AcceptedActive s h ∧ s.gv.ok = true ∧ v ≤ 1 ∧ id = (if (s.gv.reqId + 1) % 2 ^
      32 = 0 then 1 else (s.gv.reqId + 1) % 2 ^ 32)) ∧
    (∃ (h : CmdHdr) (w : Int) (k v : Nat) (s : State), AcceptedActive s h ∧ s.gv.ok = false ∧ 0 ≤ w ∧ v ≤ 1 ∧ (k = 1 ∨ k =
      3)) ∧
    (∃ (h : CmdHdr) (w : Int) (k v : Nat) (s : State), AcceptedActive s h ∧ s.gv.ok = false ∧ 0 ≤ w ∧ v ≤ 1 ∧ (k = 1 ∨ k =
      3)) ∧
    (∃ (h : CmdHdr) (w : Int) (k v : Nat) (s : State), AcceptedActive s h ∧ s.gv.ok = false ∧ 0 ≤ w ∧ v ≤ 1 ∧ (k = 1 ∨ k =
      3)) ∧
    (∃ (q : GnIn) (r : Req) (s : State), s.rc.gov = true ∧ s.isLead = true ∧ s.gv.atEpochs = false ∧ s.gn.queue = [q] ∧ q.typ
      = 5 ∧ u q.msg.body 0 1 ≤ 1 ∧ r = reqOf q.msg ∧ reqOk r = true ∧ (r.sender, r.id) ∉ s.gv.seen ∧ r.kind = 0 ∧ s.gv.pend =
      [] ∧ u q.msg.body 0 1 = 0) ∧
    (∃ (q : GnIn) (r : Req) (s : State) (p : Pend), s.rc.gov = true ∧ s.isLead = true ∧ s.gv.atEpochs = false ∧ s.gn.queue =
      [q] ∧ q.typ = 5 ∧ u q.msg.body 0 1 ≤ 1 ∧ r = reqOf q.msg ∧ reqOk r = true ∧ (r.sender, r.id) ∉ s.gv.seen ∧ r.kind = 0 ∧
      u q.msg.body 0 1 = 0 ∧ s.gv.pend = [p] ∧ p.state = 1 ∧ p.req.kind = 0 ∧ p.req.sender ≠ s.gnSelf) ∧
    (∃ (q : GnIn) (r : Req) (s : State), s.rc.gov = true ∧ s.isLead = true ∧ s.gv.atEpochs = false ∧ s.gn.queue = [q] ∧ q.typ
      = 5 ∧ u q.msg.body 0 1 ≤ 1 ∧ r = reqOf q.msg ∧ reqOk r = true ∧ (r.sender, r.id) ∉ s.gv.seen ∧ r.kind ≠ 0 ∧ s.gv.pend =
      [] ∧ (r.kind = 1 → r.value = 1 → s.ptpLock = true)) ∧
    (∃ (q : GnIn) (r : Req) (s : State) (o : OwnReq) (h : CmdHdr), s.rc.gov = true ∧ s.isLead = true ∧ s.gv.atEpochs = false
      ∧ s.gn.queue = [q] ∧ q.typ = 5 ∧ u q.msg.body 0 1 ≤ 1 ∧ r = reqOf q.msg ∧ reqOk r = true ∧ (r.sender, r.id) ∉ s.gv.seen
      ∧ r.kind = 1 ∧ r.value = 1 ∧ s.ptpLock = false ∧ r.sender = s.gnSelf ∧ s.gv.own = [o] ∧ o.req = r ∧ o.hdr = some h) ∧
    (∃ (h : CmdHdr) (buf : Buf) (s : State), AcceptedRun s h ∧ buf.len = 64 ∧ bufOk buf 64 = true ∧ s.keyFault (s.bufRead buf
      0 64) = none ∧ (s.gn.role true).cur = none ∧ 0x80 < (keyOf (s.bufRead buf 0 64)).id) ∧
    (∃ (h : CmdHdr) (buf : Buf) (s : State), AcceptedRun s h ∧ buf.len = 64 ∧ bufOk buf 64 = true ∧ s.keyFault (s.bufRead buf
      0 64) = none ∧ (s.gn.role false).cur ≠ none ∧ (keyOf (s.bufRead buf 0 64)).id ≤ 0x80 ∧ (keyOf (s.bufRead buf 0
      64)).activate ≠ 0 ∧ s.clk.ptp < (keyOf (s.bufRead buf 0 64)).activate) ∧
    (∃ (h : CmdHdr) (buf : Buf) (s : State), AcceptedRun s h ∧ buf.len = 64 ∧ bufOk buf 64 = true ∧ s.keyFault (s.bufRead buf
      0 64) = none ∧ (s.gn.role false).cur ≠ none ∧ (keyOf (s.bufRead buf 0 64)).id ≤ 0x80 ∧ (keyOf (s.bufRead buf 0
      64)).activate ≤ s.clk.ptp) ∧
    (∃ (h : CmdHdr) (role domain : Nat) (setTime : Bool) (s : State), AcceptedRun s h ∧ role ≤ 1 ∧ domain ≤ 127 ∧ (setTime =
      true ∧ s.clk.ptpHeld = false)) ∧
    (∃ (h : CmdHdr) (role domain : Nat) (setTime : Bool) (s : State), AcceptedRun s h ∧ role ≤ 1 ∧ domain ≤ 127 ∧ (domain ≠
      s.gn.domain ∧ s.clk.ptpState = .lock ∧ setTime = false)) :=
  ⟨⟨hd, 0, 0, 1, onGv (fun x => { x with ok := true, reqId := 2 ^ 32 - 1 }) live, act (by decide +kernel),
    by decide +kernel⟩,
   ⟨hd, 2 ^ 31 - 1, 3600000, 1, onGv (fun x => { x with ok := true, role := 2 }) live, act (by decide +kernel),
     by decide +kernel⟩,
   ⟨hd, 0, 100, 1, onGn (fun x => { x with mode := 1 }) contender, act (by decide +kernel), by decide +kernel⟩,
   ⟨hd, 3, 2, 1, onGv (fun x => { x with ok := true }) live, act (by decide +kernel), by decide +kernel⟩,
   ⟨hd, 1, 1, 1, lead, act (by decide +kernel), by decide +kernel⟩,
   ⟨hd, 1, 1, lead, act (by decide +kernel), by decide +kernel⟩,
   ⟨hd, 0, 3, 1, live, act (by decide +kernel), by decide +kernel⟩,
   ⟨hd, 0, 3, 1, live, act (by decide +kernel), by decide +kernel⟩,
   ⟨hd, 0, 3, 1, live, act (by decide +kernel), by decide +kernel⟩,
   ⟨⟨5, msg 0x202 (lay 32 [(4, [1])]), 0, 0⟩, reqOf (msg 0x202 (lay 32 [(4, [1])])), onGn (fun x =>
     { x with queue := [⟨5, msg 0x202 (lay 32 [(4, [1])]), 0, 0⟩] }) leader, by decide +kernel⟩,
   ⟨⟨5, msg 0x202 (lay 32 [(4, [1])]), 0, 0⟩, reqOf (msg 0x202 (lay 32 [(4, [1])])), onGn (fun x =>
     { x with queue := [⟨5, msg 0x202 (lay 32 [(4, [1])]), 0, 0⟩] }) (onGv (fun x => { x with pend := [pend0] }) leader),
     pend0, by decide +kernel⟩,
   ⟨⟨5, msg 0x202 (lay 32 [(0, [1, 2, 1]), (4, [1])]), 0, 0⟩, reqOf (msg 0x202 (lay 32 [(0, [1, 2, 1]), (4, [1])])), onGn
     (fun x => { x with queue := [⟨5, msg 0x202 (lay 32 [(0, [1, 2, 1]), (4, [1])]), 0, 0⟩] }) leader, by decide +kernel⟩,
   ⟨⟨5, msg 0x200 (lay 32 [(0, [1, 1, 1]), (4, [1])]), 0, 0⟩, reqOf (msg 0x200 (lay 32 [(0, [1, 1, 1]), (4, [1])])), onGn
     (fun x => { x with queue := [⟨5, msg 0x200 (lay 32 [(0, [1, 1, 1]), (4, [1])]), 0, 0⟩] }) (onGv (fun x =>
     { x with own := [⟨reqOf (msg 0x200 (lay 32 [(0, [1, 1, 1]), (4, [1])])), some hd, false⟩] }) leader), ⟨reqOf (msg 0x200
     (lay 32 [(0, [1, 1, 1]), (4, [1])])), some hd, false⟩, hd, by decide +kernel⟩,
   ⟨hd, dma 64, withDma (lay 64 [(0, [0xFF])]) live, run (by decide +kernel), by decide +kernel⟩,
   ⟨hd, dma 64, withDma (lay 64 [(0, [0x7F, 1]), (8, [1])]) keyed, run (by decide +kernel), by decide +kernel⟩,
   ⟨hd, dma 64, withDma (lay 64 [(0, [0x7F, 1]), (8, [1])]) { keyed with clk := { keyed.clk with ptp := 1 } }, run
     (by decide +kernel), by decide +kernel⟩,
   ⟨hd, 1, 127, true, live, run (by decide +kernel), by decide +kernel⟩,
   ⟨hd, 0, 127, false, onClk (fun x => { x with ptpState := .lock }) live, run (by decide +kernel), by decide +kernel⟩⟩

/-- States and operands that meet the hypotheses of `Obligations.CaptureCommandsComplete`, clause by clause. -/
theorem witness_CaptureCommandsComplete :
    (∃ (h : CmdHdr) (buf : Buf) (n : Nat) (s : State), Accepted s h ∧ n ≠ 0 ∧ buf.len = 16 * (n + 1) ∧ n ≤
      s.part.captureChannels ∧ bufOk buf (16 * (n + 1)) = true ∧ s.part.crFault (s.bufRead buf 0 (16 * (n + 1))) n = none ∧
      (∀ k < n, s.crLanesOk (crRecord (slice (s.bufRead buf 0 (16 * (n + 1))) (16 * k) 16)) = true) ∧ (s.cr.state = .idle ∨
      s.cr.state = .armed)) ∧
    (∃ (h : CmdHdr) (buf : Buf) (n : Nat) (s : State), Accepted s h ∧ n ≠ 0 ∧ buf.len = 16 * (n + 1) ∧ n ≤
      s.part.captureChannels ∧ bufOk buf (16 * (n + 1)) = true ∧ s.part.crFault (s.bufRead buf 0 (16 * (n + 1))) n = none ∧
      (∀ k < n, s.crLanesOk (crRecord (slice (s.bufRead buf 0 (16 * (n + 1))) (16 * k) 16)) = true) ∧ (s.cr.state = .idle ∨
      s.cr.state = .armed)) ∧
    (∃ (h : CmdHdr) (s : State), Accepted s h ∧ s.cr.state = .armed) ∧
    (∃ (h : CmdHdr) (s : State), Accepted s h ∧ s.cr.state ≠ .armed) ∧
    (∃ (h : CmdHdr) (s : State), Accepted s h ∧ s.cr.state = .armed) ∧
    (∃ (h : CmdHdr) (s : State), Accepted s h ∧ s.cr.state ≠ .armed) ∧
    (∃ (h : CmdHdr) (s : State), Accepted s h ∧ (s.cr.state = .armed ∨ s.cr.state = .frozen)) ∧
    (∃ (h : CmdHdr) (s : State), Accepted s h ∧ (s.cr.state = .armed ∨ s.cr.state = .frozen)) ∧
    (∃ (h : CmdHdr) (s : State), Accepted s h ∧ (s.cr.state = .idle ∨ s.cr.state = .triggered)) ∧
    (∃ (h : CmdHdr) (s : State), Accepted s h ∧ (s.cr.state = .idle ∨ s.cr.state = .triggered)) ∧
    (∃ (h : CmdHdr) (buf : Buf) (ch a n : Nat) (c : CrChan) (s : State), Accepted s h ∧ n ≠ 0 ∧ bufOk buf (2 * n) = true ∧ ch
      < s.part.captureChannels ∧ s.cr.state = .frozen ∧ s.cr.chans[ch]? = some c ∧ c.holds a n = true) :=
  ⟨⟨hd, dma 32, 1, withDma (lay 32 [(0, [2, 127, 0, 31, 1]), (16, [31, 5, 0, 1, 0, 0, 100])]) live, acc (by decide +kernel),
    by decide +kernel⟩,
   ⟨hd, dma 32, 1, withDma (lay 32 [(0, [2, 127, 0, 31, 1]), (16, [31, 5, 0, 1, 0, 0, 100])]) (onCr (fun x =>
     { x with state := .armed }) live), acc (by decide +kernel), by decide +kernel⟩,
   ⟨hd, onCr (fun x => { x with state := .armed }) live, acc (by decide +kernel), by decide +kernel⟩,
   ⟨hd, onCr (fun x => { x with state := .triggered }) live, acc (by decide +kernel), by decide +kernel⟩,
   ⟨hd, onCr (fun x => { x with state := .armed }) live, acc (by decide +kernel), by decide +kernel⟩,
   ⟨hd, onCr (fun x => { x with state := .frozen }) live, acc (by decide +kernel), by decide +kernel⟩,
   ⟨hd, onCr (fun x => { x with state := .frozen }) live, acc (by decide +kernel), by decide +kernel⟩,
   ⟨hd, onCr (fun x => { x with state := .armed }) live, acc (by decide +kernel), by decide +kernel⟩,
   ⟨hd, onCr (fun x => { x with state := .triggered }) live, acc (by decide +kernel), by decide +kernel⟩,
   ⟨hd, live, acc (by decide +kernel), by decide +kernel⟩,
   ⟨hd, bf 16, 0, 1, 8, chan, onCr (fun x => { x with state := .frozen, chans := [chan] }) live, acc (by decide +kernel),
     by decide +kernel⟩⟩

/-- States and operands that meet the hypotheses of `Obligations.LogAndCalibrationCommandsComplete`, clause by clause. -/
theorem witness_LogAndCalibrationCommandsComplete :
    (∃ (h : CmdHdr) (buf : Buf) (a n : Nat) (s : State), Accepted s h ∧ n ≠ 0 ∧ bufOk buf (64 * n) = true ∧ n ≤ 1024 ∧ (∀ k <
      n, (s.ev.bySeq (a + k)).isSome = true)) ∧
    (∃ (h : CmdHdr) (buf : Buf) (a n : Nat) (s : State), Accepted s h ∧ n ≠ 0 ∧ bufOk buf (64 * n) = true ∧ a + n ≤
      s.ev.log.length ∧ n ≤ 262144) ∧
    (∃ (h : CmdHdr) (buf : Buf) (n : Nat) (s : State), Accepted s h ∧ n ≠ 0 ∧ bufOk buf (64 * n) = true ∧ n ≤ 262144) ∧
    (∃ (h : CmdHdr) (buf : Buf) (s : State), Accepted s h ∧ buf.len = 65536 ∧ bufOk buf 65536 = true) ∧
    (∃ (img : Bytes) (s : State), s.cal.writing = some img) :=
  ⟨⟨hd, bf 64, 2 ^ 32 - 1, 1, onEv (fun x => { x with ring := [record] }) live, acc (by decide +kernel), by decide +kernel⟩,
   ⟨hd, bf 64, 0, 1, onEv (fun x => { x with log := [.cut [1]] }) live, acc (by decide +kernel), by decide +kernel⟩,
   ⟨hd, bf 64, 1, live, acc (by decide +kernel), by decide +kernel⟩,
   ⟨hd, bf 65536, live, acc (by decide +kernel), by decide +kernel⟩,
   ⟨[1], { flying [fly hd 0x0902 .calWrite] live with cal := { live.cal with writing := some [1] } }, by decide +kernel⟩⟩

/-- States and operands that meet the hypotheses of `Obligations.ImageCommandsComplete`, clause by clause. -/
theorem witness_ImageCommandsComplete :
    (∃ (h : CmdHdr) (buf : Buf) (s : State), AcceptedRun s h ∧ buf.len ≠ 0 ∧ buf.len ≤ 2 ^ 25 ∧ bufOk buf buf.len = true ∧
      s.se.commit = none) ∧
    (∃ (h : CmdHdr) (b : Bytes) (r : List (Option CmdHdr × Bytes)) (s : State) (k o : _), s.se.staging = (some h, b) :: r ∧
      s.se.imageFault b = some (k, o)) ∧
    (∃ (act : Bool) (b : Bytes) (s : State), s.se.commit = some act ∧ s.se.staged = some b ∧ (∃ f ∈ s.hq.inflight, isCommit
      f.wait = true)) ∧
    (∃ (s : State), s.se.activateDue = true ∧ (s.rc.power = .run ∨ s.rc.power = .quiet) ∧ s.rc.start = .run ∧ s.rc.absorbs 4
      1 = false) ∧
    (∃ (s : State), s.rc.run = true ∧ bitAt (s.se.run 6 2) 1 = true ∧ s.se.svn < s.se.run 0x0C 1) :=
  ⟨⟨hd, bf (2 ^ 25), live, run (by decide +kernel), by decide +kernel⟩,
   ⟨hd, [], [], onSe (fun x => { x with staging := [(some hd, [])] }) live, 1, 0, by decide +kernel⟩,
   ⟨true, [1], onSe (fun x => { x with commit := some true, staged := some [1] }) (flying [fly hd 0x0A05 (.imageCommit true)]
     live), by decide +kernel⟩,
   ⟨onSe (fun x => { x with activateDue := true }) live, by decide +kernel⟩,
   ⟨onSe (fun x => { x with running := lay 4096 [(6, [2]), (0x0C, [32])] }) live, by decide +kernel⟩⟩

/-- States and operands that meet the hypotheses of `Obligations.ResetsComplete`, clause by clause. -/
theorem witness_ResetsComplete :
    (∃ (h : CmdHdr) (s : State), Accepted s h ∧ s.rc.power = .run ∧ s.rc.absorbs 4 0 = false) ∧
    (∃ (h : CmdHdr) (s : State), Accepted s h ∧ s.rc.power = .run ∧ s.rc.absorbs 4 0 = false) ∧
    (∃ (h : CmdHdr) (s : State), Accepted s h ∧ s.rc.power = .run ∧ s.rc.absorbs 4 1 = false ∧ (s.rc.start = .run ∨
      s.rc.start = .warm)) ∧
    (∃ (h : CmdHdr) (s : State), Accepted s h ∧ s.rc.power = .run ∧ s.rc.absorbs 4 1 = false ∧ (s.rc.start = .run ∨
      s.rc.start = .warm)) ∧
    (∃ (h : CmdHdr) (s : State), Accepted s h ∧ s.rc.power = .run ∧ s.rc.absorbs 4 0 = false ∧ (s.rc.start = .cold ∨
      s.rc.start = .recovery)) ∧
    (∃ (h : CmdHdr) (s : State), Accepted s h ∧ s.rc.power = .run ∧ s.rc.absorbs 4 0 = false ∧ (s.rc.start = .cold ∨
      s.rc.start = .recovery)) ∧
    (∃ (h : CmdHdr) (s : State), Accepted s h ∧ s.rc.power = .run ∧ s.rc.absorbs 4 2 = false) ∧
    (∃ (s : State), (s.rc.power = .run ∨ s.rc.power = .quiet) ∧ s.rc.absorbs 6 2 = false ∧ (∀ r, s.rc.release = some r →
      r.scope = .host ∨ s.rc.on 13 = true)) ∧
    (∃ (s : State), (s.rc.power = .run ∨ s.rc.power = .quiet) ∧ s.rc.absorbs 2 0 = false) ∧
    (∃ (s : State), (s.rc.power = .run ∨ s.rc.power = .quiet) ∧ s.rc.absorbs 3 0 = false) ∧
    (∃ (s : State), (s.rc.power = .run ∨ s.rc.power = .quiet) ∧ s.rc.absorbs 2 0 = true) ∧
    (∃ (h : CmdHdr) (b : Nat) (s : State), Accepted s h ∧ 1 ≤ b ∧ b ≤ 6 ∧ s.rc.run = true ∧ (blockDomains b).all s.clockGood
      = true ∧ s.blockIdle b = true) ∧
    (∃ (h : CmdHdr) (b : Nat) (s : State), Accepted s h ∧ 1 ≤ b ∧ b ≤ 6 ∧ s.rc.run = true ∧ (blockDomains b).all s.clockGood
      = true ∧ s.blockIdle b = true) ∧
    (∃ (h : CmdHdr) (b : Nat) (s : State), Accepted s h ∧ 1 ≤ b ∧ b ≤ 6 ∧ s.rc.run = true ∧ (blockDomains b).all s.clockGood
      = true ∧ s.blockIdle b = true) :=
  ⟨⟨hd, live, acc (by decide +kernel), by decide +kernel⟩,
   ⟨hd, onRc (fun x => { x with release := some warmRel }) live, acc (by decide +kernel), by decide +kernel⟩,
   ⟨hd, live, acc (by decide +kernel), by decide +kernel⟩,
   ⟨hd, onRc (fun x => { x with start := .warm }) live, acc (by decide +kernel), by decide +kernel⟩,
   ⟨hd, onRc (fun x => { x with start := .recovery }) live, acc (by decide +kernel), by decide +kernel⟩,
   ⟨hd, onRc (fun x => { x with start := .cold }) live, acc (by decide +kernel), by decide +kernel⟩,
   ⟨hd, live, acc (by decide +kernel), by decide +kernel⟩,
   ⟨live, by decide +kernel, by decide +kernel, fun _ h => nomatch h⟩,
   ⟨live, by decide +kernel⟩,
   ⟨onRc (fun x => { x with power := .quiet }) live, by decide +kernel⟩,
   ⟨onRc (fun x => { x with release := some coldRel }) live, by decide +kernel⟩,
   ⟨hd, 1, live, acc (by decide +kernel), by decide +kernel⟩,
   ⟨hd, 6, live, acc (by decide +kernel), by decide +kernel⟩,
   ⟨hd, 4, onGn (fun x => { x with mode := 4 }) live, acc (by decide +kernel), by decide +kernel⟩⟩

/-- States and operands that meet the hypotheses of `Obligations.TakeoversComplete`, clause by clause. -/
theorem witness_TakeoversComplete :
    (∃ (h : CmdHdr) (s : State), AcceptedRun s h ∧ s.handing = false ∧ s.canHand = true) ∧
    (∃ (h : CmdHdr) (s : State), AcceptedRun s h ∧ s.handing = false ∧ s.canHand = true) ∧
    (∃ (h : CmdHdr) (s : State), AcceptedRun s h ∧ s.handing = false ∧ s.canHand = false) ∧
    (∃ (h : CmdHdr) (s : State), AcceptedRun s h ∧ s.handing = true) ∧
    (∃ (h : CmdHdr) (s : State), AcceptedRun s h ∧ s.handing = false ∧ s.role =
      .standby ∧ s.teth.trained = true ∧ (s.trainedPorts ≠ [])) ∧
    (∃ (h : CmdHdr) (s : State), AcceptedRun s h ∧ s.handing = false ∧ s.role =
      .standby ∧ s.teth.trained = true ∧ (s.trainedPorts = [])) ∧
    (∃ (h : CmdHdr) (s : State), AcceptedRun s h ∧ s.role = .active) ∧
    (∃ (s : State), s.teth.hand ≠ .none) ∧
    (∃ (s : State), s.teth.hand = .none) ∧
    (∃ (s : State) (e : Nat) (l : List Nat), s.role = .active ∧ s.teth.hand = .offered e ∧ l = s.trainedPorts.filter (fun p
      => (s.port p).epochObeyed != nextEpoch e) ∧ l ≠ []) ∧
    (∃ (s : State) (l : List Nat), WellShaped s ∧ s.role = .active ∧ s.teth.checkDue = true ∧ (∀ e, s.teth.hand ≠ .taken e) ∧
      l = s.teth.checkPorts.filter s.behind) ∧
    (∃ (s : State) (l : List Nat), WellShaped s ∧ s.role = .active ∧ s.teth.checkDue = true ∧ (∀ e, s.teth.hand ≠ .taken e) ∧
      l = s.teth.checkPorts.filter s.behind) :=
  ⟨⟨hd, onTeth (fun x => { x with trained := true, seen := true, partnerRole := 2, partnerArmed := true }) live, run
    (by decide +kernel), by decide +kernel⟩,
   ⟨hd, onTeth (fun x => { x with trained := true, seen := true, partnerRole := 1, armed := true }) (onSh (fun x =>
     { x with storeOk := true }) (standby bus)), run (by decide +kernel), by decide +kernel⟩,
   ⟨hd, live, run (by decide +kernel), by decide +kernel⟩,
   ⟨hd, onTeth (fun x => { x with hand := .copyDue }) live, run (by decide +kernel), by decide +kernel⟩,
   ⟨hd, onTeth (fun x => { x with trained := true, seen := true }) (standby bus), run (by decide +kernel),
     by decide +kernel⟩,
   ⟨hd, onTeth (fun x => { x with trained := true, seen := true }) (standby live), run (by decide +kernel),
     by decide +kernel⟩,
   ⟨hd, live, run (by decide +kernel), by decide +kernel⟩,
   ⟨onTeth (fun x => { x with hand := .asked }) (flying [fly hd 0x0B03 .takeover] live), by decide +kernel⟩,
   ⟨live, by decide +kernel⟩,
   ⟨onTeth (fun x => { x with hand := .offered 65535 }) bus, 65535, [78, 79], by decide +kernel⟩,
   ⟨onTeth (fun x => { x with checkDue := true, epoch := 5, checkPorts := [78, 79] }) bus, [78, 79], shaped
     (by decide +kernel), by decide +kernel, by decide +kernel, (fun _ => Handover.noConfusion), by decide +kernel⟩,
   ⟨onTeth (fun x => { x with checkDue := true, epoch := 5 }) live, [], shaped (by decide +kernel), by decide +kernel,
     by decide +kernel, (fun _ => Handover.noConfusion), by decide +kernel⟩⟩

end Sys2Proof.Tests
end

