-- ==== Sys2Proof/Tests/WitnessEvents.lean ====
section
/-!
SUPPORT. The same for the statements about frames, evaluations, detectors, the Planisher, the Profile Engine, the Governor and Gulene.
-/

namespace Sys2Proof.Tests

open Sys2Proof Sys2Proof.Machine

set_option Elab.async false

/-- States and operands that meet the hypotheses of `Obligations.FastFramesComplete`, clause by clause. -/
theorem witness_FastFramesComplete :
    (∃ (s : State) (p : Nat), p < s.part.ports ∧ s.rc.portOn p = true ∧ (s.role = .active ∧ ((s.port p).state = .trained ∨
      (s.port p).state = .lost ∨ (s.port p).state = .training) ∨ s.role = .standby ∧ (s.port p).state = .training)) ∧
    (∃ (s : State) (p : Nat), p < s.part.ports ∧ s.rc.portOn p = true ∧ (s.role = .active ∧ ((s.port p).state = .trained ∨
      (s.port p).state = .lost ∨ (s.port p).state = .training) ∨ s.role =
      .standby ∧ (s.port p).state = .training) ∧ (s.teth.hand = .forced [p] ∧ ∃ f ∈ s.hq.inflight, f.wait = .takeover)) ∧
    (∃ (s : State) (p : Nat), p < s.part.ports ∧ s.rc.portOn p = true ∧ (s.role = .active ∧ ((s.port p).state = .trained ∨
      (s.port p).state = .lost ∨ (s.port p).state = .training) ∨ s.role =
      .standby ∧ (s.port p).state = .training) ∧ (launchUi (s.port p).launch ≠ launchUi (s.port p).sentLaunch)) ∧
    (∃ (s : State) (p : Nat), p < s.part.ports ∧ s.rc.portOn p = true ∧ (s.role = .active ∧ ((s.port p).state = .trained ∨
      (s.port p).state = .lost ∨ (s.port p).state = .training) ∨ s.role =
      .standby ∧ (s.port p).state = .training) ∧ (s.role = .standby)) ∧
    (∃ (s : State) (p : Nat), p < s.part.ports ∧ s.rc.portOn p = true ∧ (s.role = .active ∧ ((s.port p).state = .trained ∨
      (s.port p).state = .lost ∨ (s.port p).state = .training) ∨ s.role =
      .standby ∧ (s.port p).state = .training) ∧ ((s.port p).line.begun ≠ [])) ∧
    (∃ (s : State) (p : Nat), s.sendsOn p = false) ∧
    (∃ (s : State) (p : Nat), s.sendsOn p = false) ∧
    (∃ (s : State) (p : Nat), s.sendsOn p = false) ∧
    (∃ (s : State) (p q : Nat) (f : Option FastFrame), WellShaped s ∧ p < s.part.ports ∧ (s.port p).state = .trained ∧
      (s.port p).fresh = false ∧ q < s.part.ports ∧ q ≠ p ∧ (s.port q).state = .trained ∧ (s.port q).fresh = false ∧ (∀ g, f
      = some g → goodFast 0x33 g = false)) ∧
    (∃ (s : State) (p q : Nat) (f : Option FastFrame), WellShaped s ∧ p < s.part.ports ∧ (s.port p).state = .trained ∧
      (s.port p).fresh = false ∧ q < s.part.ports ∧ q ≠ p ∧ (s.port q).state = .trained ∧ (s.port q).fresh = false ∧ (∀ g, f
      = some g → goodFast 0x33 g = false)) ∧
    (∃ (s : State) (p q : Nat) (f : FastFrame), WellShaped s ∧ p < s.part.ports ∧ (s.port p).state = .trained ∧ (s.port
      p).fresh = false ∧ q < s.part.ports ∧ q ≠ p ∧ (s.port q).state = .trained ∧ (s.port q).fresh = false ∧ goodFast 0x33 f
      = true) ∧
    (∃ (s : State) (p : Nat), p < s.part.ports ∧ s.trainedPorts = [p] ∧ (s.port p).fresh = false ∧ WellShaped s) ∧
    (∃ (s : State) (p : Nat), p < s.part.ports ∧ (s.port p).state = .lost ∧ WellShaped s) ∧
    (∃ (s : State) (p : Nat) (f : FastFrame), p < s.part.ports ∧ (s.port p).state = .lost ∧ WellShaped s ∧ goodFast 0x33 f =
      true) ∧
    (∃ (s : State) (p : Nat) (heads : List Nat), WellShaped s ∧ p < s.part.ports ∧ (s.port p).lock = true ∧ 16 ≤ ((heads.drop
      (heads.length - 64)).filter badSync).length ∧ (s.port p).state = .trained) ∧
    (∃ (s : State) (p : Nat) (heads : List Nat), WellShaped s ∧ p < s.part.ports ∧ (s.port p).lock = true ∧ 16 ≤ ((heads.drop
      (heads.length - 64)).filter badSync).length ∧ (s.port p).state ≠ .trained) ∧
    (∃ (s : State) (p : Nat) (heads : List Nat), WellShaped s ∧ p < s.part.ports ∧ ((s.port p).lock = false ∨ ((heads.drop
      (heads.length - 64)).filter badSync).length < 16)) ∧
    (∃ (s : State) (p : Nat) (heads : List Nat), WellShaped s ∧ p < s.part.ports ∧ ((s.port p).lock = false ∨ ((heads.drop
      (heads.length - 64)).filter badSync).length < 16)) ∧
    (∃ (s : State) (p : Nat), WellShaped s ∧ p < s.part.ports ∧ (s.port p).state = .trained ∧ (8 ≤ (s.port p).badRun ∨ 8 ≤
      (s.port p).obeyRun) ∧ (s.role = .active ∧ (s.port p).isCell = true ∧ (s.port p).retired = false ∧ s.levelOn (.cell p) <
      3 ∧ (∃ q ∈ s.activeMembers (s.port p).group, q ≠ p))) ∧
    (∃ (s : State) (p : Nat), WellShaped s ∧ p < s.part.ports ∧ (s.port p).state = .trained ∧ (8 ≤ (s.port p).badRun ∨ 8 ≤
      (s.port p).obeyRun) ∧ (s.role = .active ∧ (s.port p).isCell = true ∧ (s.port p).retired = false ∧ (s.port p).group < 16
      ∧ s.levelOn (.group (s.port p).group) < 4 ∧ (s.group (s.port p).group).state = .regulating ∧ (∀ q ∈ s.activeMembers
      (s.port p).group, q = p))) ∧
    (∃ (s : State) (p : Nat), WellShaped s ∧ p < s.part.ports ∧ (s.port p).state = .trained ∧ (8 ≤ (s.port p).badRun ∨ 8 ≤
      (s.port p).obeyRun) ∧ (s.role = .active ∧ (s.port p).isCell = false)) ∧
    (∃ (s : State) (p : Nat), WellShaped s ∧ p < s.part.ports ∧ (s.port p).state = .trained ∧ (s.port p).badRun < 8 ∧ (s.port
      p).obeyRun < 8) ∧
    (∃ (s : State) (p : Nat), WellShaped s ∧ p < s.part.ports ∧ (s.port p).state ≠ .down ∧ (s.port p).state ≠ .failed ∧ (1000
      < (s.port p).badThisS ∧ (s.port p).degraded = false)) ∧
    (∃ (s : State) (p : Nat), WellShaped s ∧ p < s.part.ports ∧ (s.port p).state ≠ .down ∧ (s.port p).state ≠ .failed ∧
      ((s.port p).badThisS ≤ 1000 ∧ (s.port p).degraded = true)) ∧
    (∃ (s : State) (p margin : Nat), WellShaped s ∧ p < s.part.ports ∧ (s.port p).state ≠ .down ∧ (s.port p).state ≠ .failed
      ∧ (margin < 20)) :=
  ⟨⟨bus, 79, by decide +kernel⟩,
   ⟨onTeth (fun x => { x with hand := .forced [79] }) (flying [fly hd 0x0B03 .takeover] bus), 79, by decide +kernel⟩,
   ⟨cell (fun x => { x with launch := 399, state := .lost }) bus, 79, by decide +kernel⟩,
   ⟨cell (fun x => { x with state := .training }) (standby bus), 79, by decide +kernel⟩,
   ⟨cell (fun x => { x with line := { begun := [idleBlock] } }) bus, 79, by decide +kernel⟩,
   ⟨standby bus, 79, by decide +kernel⟩,
   ⟨bus, 0, by decide +kernel⟩,
   ⟨cell (fun x => { x with state := .failed }) bus, 79, by decide +kernel⟩,
   ⟨bus, 79, 78, some { upFrame with crc := 0 }, shaped (by decide +kernel), by decide +kernel, by decide +kernel,
     by decide +kernel, by decide +kernel, by decide +kernel, by decide +kernel, by decide +kernel, fun _ h =>
     by cases h; decide +kernel⟩,
   ⟨bus, 79, 78, none, shaped (by decide +kernel), by decide +kernel, by decide +kernel, by decide +kernel,
     by decide +kernel, by decide +kernel, by decide +kernel, by decide +kernel, nofun⟩,
   ⟨bus, 79, 78, upFrame, shaped (by decide +kernel), by decide +kernel⟩,
   ⟨bus.setPort 78 (fun x => { x with state := .lost }), 79, by decide +kernel, by decide +kernel, by decide +kernel, shaped
     (by decide +kernel)⟩,
   ⟨cell (fun x => { x with state := .lost }) bus, 79, by decide +kernel, by decide +kernel, shaped (by decide +kernel)⟩,
   ⟨cell (fun x => { x with state := .lost }) bus, 79, upFrame, by decide +kernel, by decide +kernel, shaped
     (by decide +kernel), by decide +kernel⟩,
   ⟨bus, 79, List.replicate 16 3, shaped (by decide +kernel), by decide +kernel⟩,
   ⟨cell (fun x => { x with state := .lost }) bus, 79, List.replicate 16 3, shaped (by decide +kernel), by decide +kernel⟩,
   ⟨cell (fun x => { x with lock := false }) bus, 79, [], shaped (by decide +kernel), by decide +kernel⟩,
   ⟨bus, 79, List.replicate 15 0 ++ List.replicate 49 1, shaped (by decide +kernel), by decide +kernel⟩,
   ⟨cell (fun x => { x with badRun := 8 }) bus, 79, shaped (by decide +kernel), by decide +kernel⟩,
   ⟨cell (fun x => { x with obeyRun := 8 }) ((inState .regulating bus).setPort 78 (fun x => { x with retired := true })), 79,
     shaped (by decide +kernel), by decide +kernel⟩,
   ⟨cell (fun x => { x with obeyRun := 8, kind := 2 }) bus, 79, shaped (by decide +kernel), by decide +kernel⟩,
   ⟨cell (fun x => { x with badRun := 7, obeyRun := 7 }) bus, 79, shaped (by decide +kernel), by decide +kernel⟩,
   ⟨cell (fun x => { x with badThisS := 1001 }) bus, 79, shaped (by decide +kernel), by decide +kernel⟩,
   ⟨cell (fun x => { x with badThisS := 1000, degraded := true }) bus, 79, shaped (by decide +kernel), by decide +kernel⟩,
   ⟨cell (fun x => { x with state := .lost }) bus, 79, 19, shaped (by decide +kernel), by decide +kernel⟩⟩

/-- States and operands that meet the hypotheses of `Obligations.TrainingCompletes`, clause by clause. -/
theorem witness_TrainingCompletes :
    (∃ (s : State) (p : Nat), WellShaped s ∧ p < s.part.ports ∧ (s.port p).state = .lost ∧ s.role ≠ .offline ∧ ((s.port
      p).retrainAt.filter (fun t => decide (s.clk.now < t + 10000000000))).length < 3) ∧
    (∃ (s : State) (p : Nat), WellShaped s ∧ p < s.part.ports ∧ (s.port p).state = .lost ∧ s.role ≠ .offline ∧ ((s.port
      p).retrainAt.filter (fun t => decide (s.clk.now < t + 10000000000))).length < 3) ∧
    (∃ (s : State) (p : Nat), ((s.port p).state ≠ .lost ∨ s.role = .offline ∨ 3 ≤ ((s.port p).retrainAt.filter (fun t =>
      decide (s.clk.now < t + 10000000000))).length)) ∧
    (∃ (s : State) (p : Nat), ((s.port p).state ≠ .lost ∨ s.role = .offline ∨ 3 ≤ ((s.port p).retrainAt.filter (fun t =>
      decide (s.clk.now < t + 10000000000))).length)) ∧
    (∃ (s : State) (p : Nat), ((s.port p).state ≠ .lost ∨ s.role = .offline ∨ 3 ≤ ((s.port p).retrainAt.filter (fun t =>
      decide (s.clk.now < t + 10000000000))).length)) ∧
    (∃ (s : State) (p : Nat), WellShaped s ∧ p < s.part.ports ∧ (s.port p).state = .training ∧ (s.port p).trainTries < 3) ∧
    (∃ (s : State) (p : Nat), WellShaped s ∧ p < s.part.ports ∧ (s.port p).state = .training ∧ 3 ≤ (s.port p).trainTries ∧
      (s.ev.portCause.contains p = true ∧ ∀ r ∈ (s.port p).svcOut ++ (s.port p).svcWait, r.use = .discover)) ∧
    (∃ (s : State) (p : Nat), (s.port p).state ≠ .training) ∧
    (∃ (s : State) (p : Nat) (d : Training), WellShaped s ∧ p < s.part.ports ∧ (s.port p).state = .training ∧ gainsLock
      d.heads = true ∧ bitAt d.answer 9 = true ∧ d.arrivals.length = 16 ∧ d.arrivals.foldl max 0 - d.arrivals.foldl min
      (d.arrivals.headD 0) ≤ 2 ∧ (s.port p).discovered = false) ∧
    (∃ (s : State) (p : Nat) (d : Training), WellShaped s ∧ p < s.part.ports ∧ (s.port p).state = .training ∧ gainsLock
      d.heads = true ∧ bitAt d.answer 9 = true ∧ d.arrivals.length = 16 ∧ d.arrivals.foldl max 0 - d.arrivals.foldl min
      (d.arrivals.headD 0) ≤ 2 ∧ (s.port p).discovered = true ∧ bits ((s.port p).brReg 0) 31 16 = (s.port p).bridgeRec ∧ bits
      ((s.port p).brReg 0) 15 8 = 1 ∧ layoutOk (bits ((s.port p).brReg 1) 7 0) ((s.port p).brReg 2) = true ∧ s.calCovers p
      (bits ((s.port p).brReg 1) 7 0) ((s.port p).brReg 2) = true ∧ ((s.port p).degraded = false ∧ bitAt ((s.port p).brReg 5)
      1 = true ∧ s.standbyFlag = false)) ∧
    (∃ (s : State) (p : Nat) (d : Training), WellShaped s ∧ p < s.part.ports ∧ (s.port p).state = .training ∧ gainsLock
      d.heads = true ∧ bitAt d.answer 9 = true ∧ d.arrivals.length = 16 ∧ d.arrivals.foldl max 0 - d.arrivals.foldl min
      (d.arrivals.headD 0) ≤ 2 ∧ (s.port p).discovered = true ∧ bits ((s.port p).brReg 0) 31 16 ≠ (s.port p).bridgeRec) ∧
    (∃ (s : State) (p : Nat) (d : Training), WellShaped s ∧ p < s.part.ports ∧ (s.port p).state = .training ∧ (s.port
      p).trainTries < 3 ∧ (gainsLock d.heads = false ∨ bitAt d.answer 9 = false ∨ d.arrivals.length ≠ 16 ∨ 2 <
      d.arrivals.foldl max 0 - d.arrivals.foldl min (d.arrivals.headD 0))) ∧
    (∃ (s : State) (p : Nat) (d : Training), WellShaped s ∧ p < s.part.ports ∧ (s.port p).state = .training ∧ (s.port
      p).trainTries < 3 ∧ (gainsLock d.heads = false ∨ bitAt d.answer 9 = false ∨ d.arrivals.length ≠ 16 ∨ 2 <
      d.arrivals.foldl max 0 - d.arrivals.foldl min (d.arrivals.headD 0))) ∧
    (∃ (s : State) (p : Nat) (d : Training), WellShaped s ∧ p < s.part.ports ∧ (s.port p).state = .training ∧ (s.port
      p).trainTries < 3 ∧ (gainsLock d.heads = false ∨ bitAt d.answer 9 = false ∨ d.arrivals.length ≠ 16 ∨ 2 <
      d.arrivals.foldl max 0 - d.arrivals.foldl min (d.arrivals.headD 0))) :=
  ⟨⟨cell (fun x => { x with state := .lost }) bus, 79, shaped (by decide +kernel), by decide +kernel⟩,
   ⟨cell (fun x => { x with state := .lost, retrainAt := [0, 1, 2] }) (onClk (fun x => { x with now := 10000000000 }) bus),
     79, shaped (by decide +kernel), by decide +kernel⟩,
   ⟨bus, 79, by decide +kernel⟩,
   ⟨cell (fun x => { x with state := .lost, retrainAt := [0, 0, 0] }) bus, 79, by decide +kernel⟩,
   ⟨{ cell (fun x => { x with state := .lost }) bus with role := .offline }, 79, by decide +kernel⟩,
   ⟨cell (fun x => { x with state := .training, trainTries := 2 }) bus, 79, shaped (by decide +kernel), by decide +kernel⟩,
   ⟨cell (fun x => { x with state := .training, trainTries := 3, svcWait := discoveryReads }) (onEv (fun x =>
     { x with portCause := [79] }) bus), 79, shaped (by decide +kernel), by decide +kernel⟩,
   ⟨bus, 79, by decide +kernel⟩,
   ⟨cell (fun x => { x with state := .training }) bus, 79, found, shaped (by decide +kernel), by decide +kernel⟩,
   ⟨cell heard bus, 79, found, shaped (by decide +kernel), by decide +kernel⟩,
   ⟨cell (fun x => { heard x with bridgeRec := 1 }) bus, 79, found, shaped (by decide +kernel), by decide +kernel⟩,
   ⟨cell (fun x => { x with state := .training, trainTries := 2 }) bus, 79, { found with heads := List.replicate 31 1 },
     shaped (by decide +kernel), by decide +kernel⟩,
   ⟨cell (fun x => { x with state := .training, trainTries := 2 }) bus, 79, { found with answer := 0 }, shaped
     (by decide +kernel), by decide +kernel⟩,
   ⟨cell (fun x => { x with state := .training, trainTries := 2 }) bus, 79,
     { found with arrivals := 4 :: List.replicate 15 7 }, shaped (by decide +kernel), by decide +kernel⟩⟩

/-- States and operands that meet the hypotheses of `Obligations.ServiceAccessesComplete`, clause by clause. -/
theorem witness_ServiceAccessesComplete :
    (∃ (s : State) (p : Nat) (r : SvcReq) (rest : List SvcReq), WellShaped s ∧ p < s.part.ports ∧ (s.port p).svcWait = r ::
      rest ∧ s.sendsOn p = true ∧ (s.port p).line.slotFree = true ∧ (s.port p).svcOut.length < 4) ∧
    (∃ (s : State) (p : Nat), ((s.port p).svcWait = [] ∨ s.sendsOn p = false ∨ (s.port p).line.slotFree = false ∨ 4 ≤ (s.port
      p).svcOut.length)) ∧
    (∃ (s : State) (p : Nat), ((s.port p).svcWait = [] ∨ s.sendsOn p = false ∨ (s.port p).line.slotFree = false ∨ 4 ≤ (s.port
      p).svcOut.length)) ∧
    (∃ (s : State) (p : Nat), ((s.port p).svcWait = [] ∨ s.sendsOn p = false ∨ (s.port p).line.slotFree = false ∨ 4 ≤ (s.port
      p).svcOut.length)) ∧
    (∃ (s : State) (p : Nat), ((s.port p).svcWait = [] ∨ s.sendsOn p = false ∨ (s.port p).line.slotFree = false ∨ 4 ≤ (s.port
      p).svcOut.length)) ∧
    (∃ (s : State) (p tag : Nat) (r : SvcReq), WellShaped s ∧ p < s.part.ports ∧ (s.port p).svcOut.find? (fun r => r.tag ==
      tag) = some r ∧ r.sends < 3 ∧ (s.sendsOn p = true ∧ (s.port p).line.slotFree = true)) ∧
    (∃ (s : State) (p tag : Nat) (r : SvcReq), WellShaped s ∧ p < s.part.ports ∧ (s.port p).svcOut.find? (fun r => r.tag ==
      tag) = some r ∧ 3 ≤ r.sends ∧ (r.use = .readFault ∧ ∃ f ∈ s.hq.inflight, f.wait = .restore p)) ∧
    (∃ (s : State) (p : Nat) (f : SvcFrame), WellShaped s ∧ p < s.part.ports ∧ ((s.port p).state = .trained ∨ (s.port
      p).state = .lost ∨ (s.port p).state = .training) ∧ (svcGood f = false ∨ svcOp f ≠ 9 ∧ svcOp f ≠ 10)) ∧
    (∃ (s : State) (p : Nat) (f : SvcFrame), WellShaped s ∧ p < s.part.ports ∧ ((s.port p).state = .trained ∨ (s.port
      p).state = .lost ∨ (s.port p).state = .training) ∧ (svcGood f = false ∨ svcOp f ≠ 9 ∧ svcOp f ≠ 10)) ∧
    (∃ (s : State) (p : Nat) (f : SvcFrame) (r : SvcReq), WellShaped s ∧ p < s.part.ports ∧ ((s.port p).state = .trained ∨
      (s.port p).state = .lost ∨ (s.port p).state = .training) ∧ svcGood f = true ∧ (svcOp f = 9 ∨ svcOp f = 10) ∧ (s.port
      p).svcOut.find? (fun r => r.tag == svcTag f) = some r ∧ r.use = .unlatch) ∧
    (∃ (s : State) (p : Nat) (f : SvcFrame) (r : SvcReq), WellShaped s ∧ p < s.part.ports ∧ ((s.port p).state = .trained ∨
      (s.port p).state = .lost ∨ (s.port p).state = .training) ∧ svcGood f = true ∧ (svcOp f = 9 ∨ svcOp f = 10) ∧ (s.port
      p).svcOut.find? (fun r => r.tag == svcTag f) = some r ∧ r.use = .discover ∧ bits f.hdr 15 8 = 0) ∧
    (∃ (s : State) (p : Nat) (f : SvcFrame) (r : SvcReq), WellShaped s ∧ p < s.part.ports ∧ ((s.port p).state = .trained ∨
      (s.port p).state = .lost ∨ (s.port p).state = .training) ∧ svcGood f = true ∧ (svcOp f = 9 ∨ svcOp f = 10) ∧ (s.port
      p).svcOut.find? (fun r => r.tag == svcTag f) = some r ∧ r.use = .clearFault) ∧
    (∃ (s : State) (p : Nat) (f : SvcFrame) (r : SvcReq), WellShaped s ∧ p < s.part.ports ∧ ((s.port p).state = .trained ∨
      (s.port p).state = .lost ∨ (s.port p).state = .training) ∧ svcGood f = true ∧ (svcOp f = 9 ∨ svcOp f = 10) ∧ (s.port
      p).svcOut.find? (fun r => r.tag == svcTag f) = some r ∧ r.use = .readFault ∧ bits f.hdr 15 8 = 0 ∧ (s.port p).restore =
      none) ∧
    (∃ (s : State) (p : Nat) (f : SvcFrame), WellShaped s ∧ p < s.part.ports ∧ ((s.port p).state = .trained ∨ (s.port
      p).state = .lost ∨ (s.port p).state = .training) ∧ svcGood f = true ∧ svcOp f = 11 ∧ svcIndex f ≤ 3 ∧ (s.port p).state
      ≠ .training) ∧
    (∃ (s : State) (p : Nat) (f : SvcFrame), WellShaped s ∧ p < s.part.ports ∧ ((s.port p).state = .trained ∨ (s.port
      p).state = .lost ∨ (s.port p).state = .training) ∧ (svcGood f = false ∨ svcOp f ≠ 11 ∨ 3 < svcIndex f)) ∧
    (∃ (s : State) (p : Nat) (f : SvcFrame), WellShaped s ∧ p < s.part.ports ∧ ((s.port p).state = .trained ∨ (s.port
      p).state = .lost ∨ (s.port p).state = .training) ∧ svcGood f = true ∧ svcOp f = 12 ∧ svcIndex f ≤ 3) ∧
    (∃ (s : State) (p : Nat) (f : SvcFrame), WellShaped s ∧ p < s.part.ports ∧ ((s.port p).state = .trained ∨ (s.port
      p).state = .lost ∨ (s.port p).state = .training) ∧ (svcGood f = false ∨ svcOp f ≠ 12 ∨ 3 < svcIndex f)) ∧
    (∃ (s : State) (p : Nat), s.hears p = false) :=
  ⟨⟨cell (fun x =>
    { x with svcWait := [⟨5, 2, 4, 2, 2, 2, .clearFault⟩], svcOut := List.replicate 3 ⟨5, 2, 4, 2, 2, 2, .clearFault⟩, line := { begun := List.replicate 10 idleBlock } })
    bus, 79, ⟨5, 2, 4, 2, 2, 2, .clearFault⟩, [], shaped (by decide +kernel), by decide +kernel⟩,
   ⟨bus, 79, by decide +kernel⟩,
   ⟨cell (fun x =>
     { x with svcWait := [⟨5, 2, 4, 2, 2, 2, .clearFault⟩], svcOut := List.replicate 4 ⟨5, 2, 4, 2, 2, 2, .clearFault⟩, line := { begun := List.replicate 10 idleBlock } })
     bus, 79, by decide +kernel⟩,
   ⟨cell (fun x => { x with svcWait := [⟨5, 2, 4, 2, 2, 2, .clearFault⟩], line := { begun := List.replicate 10 idleBlock } })
     (standby bus), 79, by decide +kernel⟩,
   ⟨cell (fun x => { x with svcWait := [⟨5, 2, 4, 2, 2, 2, .clearFault⟩], line := { begun := List.replicate 11 idleBlock } })
     bus, 79, by decide +kernel⟩,
   ⟨cell (fun x => { x with svcOut := [⟨5, 2, 4, 2, 2, 2, .clearFault⟩], line := { begun := List.replicate 10 idleBlock } })
     bus, 79, 5, ⟨5, 2, 4, 2, 2, 2, .clearFault⟩, shaped (by decide +kernel), by decide +kernel⟩,
   ⟨cell (fun x => { x with svcOut := [⟨5, 2, 4, 2, 2, 3, .readFault⟩] }) (flying [fly hd 0x0405 (.restore 79)] bus), 79, 5,
     ⟨5, 2, 4, 2, 2, 3, .readFault⟩, shaped (by decide +kernel), by decide +kernel⟩,
   ⟨bus, 79, { svcFrame 9 15 0 with crc := 0 }, shaped (by decide +kernel), by decide +kernel⟩,
   ⟨bus, 79, svcFrame 8 15 0, shaped (by decide +kernel), by decide +kernel⟩,
   ⟨cell (fun x => { x with svcOut := [⟨15, 1, 5, 0, 0, 1, .unlatch⟩] }) bus, 79, svcFrame 9 15 0, ⟨15, 1, 5, 0, 0, 1,
     .unlatch⟩, shaped (by decide +kernel), by decide +kernel⟩,
   ⟨cell (fun x => { x with svcOut := [⟨15, 1, 5, 0, 0, 1, .discover⟩], state := .training }) bus, 79, svcFrame 9 15 0, ⟨15,
     1, 5, 0, 0, 1, .discover⟩, shaped (by decide +kernel), by decide +kernel⟩,
   ⟨cell (fun x => { x with svcOut := [⟨15, 1, 5, 0, 0, 1, .clearFault⟩] }) bus, 79, svcFrame 10 15 0, ⟨15, 1, 5, 0, 0, 1,
     .clearFault⟩, shaped (by decide +kernel), by decide +kernel⟩,
   ⟨cell (fun x => { x with svcOut := [⟨15, 1, 5, 0, 0, 1, .readFault⟩], state := .lost }) bus, 79, svcFrame 9 15 0, ⟨15, 1,
     5, 0, 0, 1, .readFault⟩, shaped (by decide +kernel), by decide +kernel⟩,
   ⟨bus, 79, svcFrame 11 0 3, shaped (by decide +kernel), by decide +kernel⟩,
   ⟨bus, 79, svcFrame 11 0 4, shaped (by decide +kernel), by decide +kernel⟩,
   ⟨cell (fun x => { x with state := .lost }) bus, 79, svcFrame 12 0 3, shaped (by decide +kernel), by decide +kernel⟩,
   ⟨bus, 79, svcFrame 12 0 4, shaped (by decide +kernel), by decide +kernel⟩,
   ⟨bus, 0, by decide +kernel⟩⟩

/-- States and operands that meet the hypotheses of `Obligations.StartsAndQuenchesComplete`, clause by clause. -/
theorem witness_StartsAndQuenchesComplete :
    (∃ (s : State) (g : Nat), WellShaped s ∧ g < 16 ∧ s.role = .active ∧ s.rc.run = true ∧ s.sh.storeOk = true ∧ s.sh.calOk =
      true ∧ (s.group g).gtype ≠ 0 ∧ (s.group g).autostart = true ∧ (s.group g).autoTried = false ∧ (s.group g).state = .off
      ∧ (∀ k, k < 16 → k ≠ g → ((s.group k).gtype ≠ 0 → (s.group k).autostart = true → (s.group k).autoTried = false →
      (s.group g).startOrder < (s.group k).startOrder) ∧ ((s.group k).toReg = true → (s.group g).startOrder ≤ (s.group
      k).startOrder)) ∧ (s.group g).startOrder ≤ 15 ∧ (s.startRefusal g = none)) ∧
    (∃ (s : State) (g : Nat), WellShaped s ∧ g < 16 ∧ s.role = .active ∧ s.rc.run = true ∧ s.sh.storeOk = true ∧ s.sh.calOk =
      true ∧ (s.group g).gtype ≠ 0 ∧ (s.group g).autostart = true ∧ (s.group g).autoTried = false ∧ (s.group g).state = .off
      ∧ (∀ k, k < 16 → k ≠ g → ((s.group k).gtype ≠ 0 → (s.group k).autostart = true → (s.group k).autoTried = false →
      (s.group g).startOrder < (s.group k).startOrder) ∧ ((s.group k).toReg = true → (s.group g).startOrder ≤ (s.group
      k).startOrder)) ∧ (s.group g).startOrder ≤ 15 ∧ (s.startRefusal g = some 4)) ∧
    (∃ (s : State), (s.role ≠ .active ∨ s.rc.run = false ∨ s.sh.storeOk = false ∨ s.sh.calOk = false)) ∧
    (∃ (s : State) (k : Nat), k < 16 ∧ (s.group k).toReg = true ∧ (s.group k).startOrder < 15 ∧ (∀ g, g < 16 → (s.group
      g).gtype ≠ 0 → (s.group g).autostart = true → (s.group g).autoTried = false → (s.group k).startOrder < (s.group
      g).startOrder)) ∧
    (∃ (s : State) (g : Nat), (s.group g).startPend = false) ∧
    (∃ (s : State) (g v c : Nat), WellShaped s ∧ g < 16 ∧ (s.group g).startPend = true ∧ (s.group g).gtype ≠ 1 ∧ v = (s.group
      g).voltSlot ∧ c = (s.group g).currSlot ∧ v ≠ c ∧ v < 128 ∧ c < 128 ∧ (s.entry v).isSome = true ∧ (s.entry c).isSome =
      true ∧ ((s.group g).wakePend = false)) ∧
    (∃ (s : State) (g v c : Nat), WellShaped s ∧ g < 16 ∧ (s.group g).startPend = true ∧ (s.group g).gtype ≠ 1 ∧ v = (s.group
      g).voltSlot ∧ c = (s.group g).currSlot ∧ v ≠ c ∧ v < 128 ∧ c < 128 ∧ (s.entry v).isSome = true ∧ (s.entry c).isSome =
      true ∧ ((s.group g).wakePend = true)) ∧
    (∃ (s : State) (g : Nat), WellShaped s ∧ g < 16 ∧ (s.group g).state = .starting ∧ (s.group g).startPend = false ∧
      (s.group g).regCount ≤ (s.group g).regRun ∧ (∃ f ∈ s.hq.inflight, f.wait = .groupEnable g)) ∧
    (∃ (s : State) (g : Nat), WellShaped s ∧ g < 16 ∧ ((s.group g).state ≠ .starting ∨ (s.group g).startPend = true ∨
      (s.group g).regRun < (s.group g).regCount)) ∧
    (∃ (s : State) (g : Nat), WellShaped s ∧ g < 16 ∧ ((s.group g).state ≠ .starting ∨ (s.group g).startPend = true ∨
      (s.group g).regRun < (s.group g).regCount)) ∧
    (∃ (s : State) (g : Nat), WellShaped s ∧ g < 16 ∧ ((s.group g).state ≠ .starting ∨ (s.group g).startPend = true ∨
      (s.group g).regRun < (s.group g).regCount)) ∧
    (∃ (s : State) (g : Nat), WellShaped s ∧ g < 16 ∧ ((s.group g).state = .starting ∨ ((s.group g).toReg = true ∧ (s.group
      g).state ≠ .off ∧ (s.group g).state ≠ .quenching)) ∧ ((∃ f ∈ s.hq.inflight, f.wait = .groupEnable g) ∧ ∀ p ∈ s.members
      g, (s.port p).restore = none)) ∧
    (∃ (s : State) (g : Nat), WellShaped s ∧ g < 16 ∧ ((s.group g).state = .starting ∨ ((s.group g).toReg = true ∧ (s.group
      g).state ≠ .off ∧ (s.group g).state ≠ .quenching))) ∧
    (∃ (s : State) (g : Nat), WellShaped s ∧ g < 16 ∧ (s.group g).state ≠ .starting ∧ (s.group g).toReg = false) ∧
    (∃ (s : State) (g : Nat), WellShaped s ∧ g < 16 ∧ (s.group g).state = .quenching ∧ (∃ f ∈ s.hq.inflight, f.wait =
      .groupQuench g)) ∧
    (∃ (s : State) (g : Nat), WellShaped s ∧ g < 16 ∧ (s.group g).state ≠ .quenching) :=
  ⟨⟨bus, 15, shaped (by decide +kernel), by and_intros <;> decide +kernel⟩,
   ⟨rig, 15, shaped (by decide +kernel), by and_intros <;> decide +kernel⟩,
   ⟨standby bus, by decide +kernel⟩,
   ⟨grp (fun x => { x with state := .starting, toReg := true, autoTried := true, startOrder := 14 }) bus, 15,
     by decide +kernel⟩,
   ⟨bus, 15, by decide +kernel⟩,
   ⟨grp (fun x => { x with state := .starting, startPend := true }) bus, 15, 127, 126, shaped (by decide +kernel),
     by decide +kernel⟩,
   ⟨grp (fun x => { x with state := .burstRun, startPend := true, wakePend := true }) bus, 15, 127, 126, shaped
     (by decide +kernel), by decide +kernel⟩,
   ⟨grp (fun x => { x with state := .starting, regRun := 20, toReg := true }) (flying [fly hd 0x0401 (.groupEnable 15)] bus),
     15, shaped (by decide +kernel), by decide +kernel⟩,
   ⟨grp (fun x => { x with state := .starting, regRun := 19 }) bus, 15, shaped (by decide +kernel), by decide +kernel⟩,
   ⟨bus, 15, shaped (by decide +kernel), by decide +kernel⟩,
   ⟨grp (fun x => { x with state := .starting, regRun := 20, startPend := true }) bus, 15, shaped (by decide +kernel),
     by decide +kernel⟩,
   ⟨inState .starting (flying [fly hd 0x0401 (.groupEnable 15)] bus), 15, shaped (by decide +kernel), by decide +kernel⟩,
   ⟨grp (fun x => { x with state := .burstRun, toReg := true }) bus, 15, shaped (by decide +kernel), by decide +kernel⟩,
   ⟨bus, 15, shaped (by decide +kernel), by decide +kernel⟩,
   ⟨inState .quenching (flying [fly hd 0x0402 (.groupQuench 15)] bus), 15, shaped (by decide +kernel), by decide +kernel⟩,
   ⟨bus, 15, shaped (by decide +kernel), by decide +kernel⟩⟩

/-- States and operands that meet the hypotheses of `Obligations.DetectorsComplete`, clause by clause. -/
theorem witness_DetectorsComplete :
    (∃ (s : State) (live : List Nat), WellShaped s ∧ s.role = .active ∧ s.sh.useDwell ≤ s.sh.burstLow ∧ s.sh.burstHold = 0 ∧
      live = s.busGroups.filter (fun g => (s.group g).state != .off) ∧ (∀ g ∈ live, (s.group g).burstEn = true) ∧ (∃ g ∈
      live, (s.group g).state ≠ .quenching ∧ (s.group g).state ≠ .burstRun ∧ (s.group g).state ≠ .burstSleep) ∧ (live = [15]
      ∧ (s.group 15).voltSlot < 128)) ∧
    (∃ (s : State) (live : List Nat), WellShaped s ∧ s.role = .active ∧ s.sh.useDwell ≤ s.sh.burstLow ∧ s.sh.burstHold = 0 ∧
      live = s.busGroups.filter (fun g => (s.group g).state != .off) ∧ (∀ g ∈ live, (s.group g).burstEn = true) ∧ (∃ g ∈
      live, (s.group g).state ≠ .quenching ∧ (s.group g).state ≠ .burstRun ∧ (s.group g).state ≠ .burstSleep) ∧ ((s.group
      14).state = .quenching)) ∧
    (∃ (s : State), (s.role ≠ .active ∨ s.sh.burstLow < s.sh.useDwell ∨ s.sh.burstHold ≠ 0)) ∧
    (∃ (s : State), (s.role ≠ .active ∨ s.sh.burstLow < s.sh.useDwell ∨ s.sh.burstHold ≠ 0)) ∧
    (∃ (s : State), (s.role ≠ .active ∨ s.sh.burstLow < s.sh.useDwell ∨ s.sh.burstHold ≠ 0)) ∧
    (∃ (s : State), WellShaped s ∧ (s.burstGroups = [] ∧ (s.group 15).gtype ≠ 0 ∧ (s.port 79).isCell = true ∧ (s.port
      79).retired = false)) ∧
    (∃ (s : State), WellShaped s ∧ ((s.group (s.port 79).group).refPct * (s.port 79).ratingMa ≠ 0)) ∧
    (∃ (s : State) (p : Nat), WellShaped s ∧ p < s.part.ports ∧ (s.port p).isCell = true ∧ (s.port p).imbOn = false ∧
      (s.group (s.port p).group).imbPersistEff ≤ (s.port p).imbCount) ∧
    (∃ (s : State) (p : Nat), WellShaped s ∧ p < s.part.ports ∧ (s.port p).isCell = true ∧ (s.port p).imbOn = false ∧
      (s.group (s.port p).group).imbPersistEff ≤ (s.port p).imbCount) ∧
    (∃ (s : State) (p : Nat), WellShaped s ∧ p < s.part.ports ∧ (s.port p).isCell = true ∧ (s.port p).imbOn = false ∧ (s.port
      p).imbCount < (s.group (s.port p).group).imbPersistEff) ∧
    (∃ (s : State) (p : Nat), WellShaped s ∧ p < s.part.ports ∧ (s.port p).isCell = true ∧ (s.port p).out = false ∧ (s.port
      p).devCount ≠ 0 ∧ s.role = .active ∧ (s.group (s.port p).group).sensePersist ≤ (s.port p).devCount ∧ (s.role = .active
      ∧ s.lastCell p = false ∧ s.levelOn (.cell p) < 3)) ∧
    (∃ (s : State) (p : Nat), WellShaped s ∧ p < s.part.ports ∧ (s.port p).isCell = true ∧ (s.port p).out = false ∧ (s.port
      p).devCount ≠ 0 ∧ (s.role ≠ .active ∨ (s.port p).devCount < (s.group (s.port p).group).sensePersist)) ∧
    (∃ (s : State) (p : Nat), WellShaped s ∧ p < s.part.ports ∧ (s.port p).isCell = true ∧ (s.port p).out = false ∧ (s.port
      p).devCount ≠ 0 ∧ (s.role ≠ .active ∨ (s.port p).devCount < (s.group (s.port p).group).sensePersist)) ∧
    (∃ (s : State) (g : Nat) (ov uv : Bool), WellShaped s ∧ g < 16 ∧ ov = decide (0 < (s.group g).ovNs ∧ (s.group g).ovUs *
      1000 ≤ (s.group g).ovNs) ∧ uv = decide (0 < (s.group g).uvNs ∧ (s.group g).uvUs * 1000 ≤ (s.group g).uvNs) ∧ (s.role ≠
      .active ∨ (ov = false ∧ uv = false))) ∧
    (∃ (s : State) (g : Nat) (ov uv : Bool), WellShaped s ∧ g < 16 ∧ ov = decide (0 < (s.group g).ovNs ∧ (s.group g).ovUs *
      1000 ≤ (s.group g).ovNs) ∧ uv = decide (0 < (s.group g).uvNs ∧ (s.group g).uvUs * 1000 ≤ (s.group g).uvNs) ∧ (s.role ≠
      .active ∨ (ov = false ∧ uv = false))) ∧
    (∃ (s : State) (g : Nat) (ov uv : Bool), WellShaped s ∧ g < 16 ∧ ov = decide (0 < (s.group g).ovNs ∧ (s.group g).ovUs *
      1000 ≤ (s.group g).ovNs) ∧ uv = decide (0 < (s.group g).uvNs ∧ (s.group g).uvUs * 1000 ≤ (s.group g).uvNs) ∧ (s.role ≠
      .active ∨ (ov = false ∧ uv = false))) ∧
    (∃ (s : State) (g : Nat) (ov uv : Bool), WellShaped s ∧ g < 16 ∧ ov = decide (0 < (s.group g).ovNs ∧ (s.group g).ovUs *
      1000 ≤ (s.group g).ovNs) ∧ uv = decide (0 < (s.group g).uvNs ∧ (s.group g).uvUs * 1000 ≤ (s.group g).uvNs) ∧ (ov = true
      ∨ uv = true) ∧ s.role = .active ∧ ((s.group g).gtype = 2 ∧ (s.group g).state ≠ .off ∧ s.levelOn (.group g) < 4)) ∧
    (∃ (s : State) (g : Nat) (ov uv : Bool), WellShaped s ∧ g < 16 ∧ ov = decide (0 < (s.group g).ovNs ∧ (s.group g).ovUs *
      1000 ≤ (s.group g).ovNs) ∧ uv = decide (0 < (s.group g).uvNs ∧ (s.group g).uvUs * 1000 ≤ (s.group g).uvNs) ∧ (ov = true
      ∨ uv = true) ∧ s.role = .active ∧ ((s.group g).gtype = 1 ∧ s.levelOn .shelf < 5 ∧ (s.group g).state ≠ .off)) ∧
    (∃ (s : State) (g : Nat) (ov uv : Bool), WellShaped s ∧ g < 16 ∧ ov = decide (0 < (s.group g).ovNs ∧ (s.group g).ovUs *
      1000 ≤ (s.group g).ovNs) ∧ uv = decide (0 < (s.group g).uvNs ∧ (s.group g).uvUs * 1000 ≤ (s.group g).uvNs) ∧ (ov = true
      ∨ uv = true) ∧ s.role = .active ∧ ((s.group g).gtype = 3 ∧ (s.group g).state ≠ .off ∧ s.levelOn (.group g) < 4)) ∧
    (∃ (s : State) (c : _), s.coolChan 1 = some (.trained, c) ∧ 100 ≤ s.sh.windows) ∧
    (∃ (s : State), s.coolChan 1 = none) ∧
    (∃ (s : State) (c : _), s.coolChan 1 = some (.trained, c) ∧ s.coolChan 2 = none ∧ 100 ≤ s.sh.windows ∧ s.sh.coolFactor =
      100 ∧ s.sh.coolTarget c.avg100 < 100 ∧ s.role = .active) :=
  ⟨⟨onSh (fun x => { x with burstLow := 10 }) (inState .regulating bus), [15], shaped (by decide +kernel),
    by decide +kernel⟩,
   ⟨onSh (fun x => { x with burstLow := 10 }) ((inState .starting bus).setGroup 14 (fun x =>
     { x with gtype := 2, flags := 2, state := .quenching })), [14, 15], shaped (by decide +kernel), by decide +kernel⟩,
   ⟨standby bus, by decide +kernel⟩,
   ⟨onSh (fun x => { x with burstLow := 9 }) bus, by decide +kernel⟩,
   ⟨onSh (fun x => { x with burstLow := 10, burstHold := 1 }) bus, by decide +kernel⟩,
   ⟨bus, shaped (by decide +kernel), by decide +kernel⟩,
   ⟨cell (fun x => { x with ratingMa := 100000 }) bus, shaped (by decide +kernel), by decide +kernel⟩,
   ⟨cell (fun x => { x with imbCount := 100 }) bus, 79, shaped (by decide +kernel), by decide +kernel⟩,
   ⟨cell (fun x => { x with imbCount := 100 }) (standby bus), 79, shaped (by decide +kernel), by decide +kernel⟩,
   ⟨cell (fun x => { x with imbCount := 99 }) bus, 79, shaped (by decide +kernel), by decide +kernel⟩,
   ⟨cell (fun x => { x with devCount := 8, devOpen := true }) bus, 79, shaped (by decide +kernel), by decide +kernel⟩,
   ⟨cell (fun x => { x with devCount := 7 }) bus, 79, shaped (by decide +kernel), by decide +kernel⟩,
   ⟨cell (fun x => { x with devCount := 8 }) (standby bus), 79, shaped (by decide +kernel), by decide +kernel⟩,
   ⟨bus, 15, false, false, shaped (by decide +kernel), by decide +kernel⟩,
   ⟨grp (fun x => { x with ovNs := 19999, uvNs := 99999 }) bus, 15, false, false, shaped (by decide +kernel),
     by decide +kernel⟩,
   ⟨grp (fun x => { x with ovNs := 20000 }) (standby bus), 15, true, false, shaped (by decide +kernel), by decide +kernel⟩,
   ⟨grp (fun x => { x with ovNs := 20000, state := .regulating }) bus, 15, true, false, shaped (by decide +kernel),
     by decide +kernel⟩,
   ⟨grp (fun x => { x with uvNs := 100000, gtype := 1, state := .regulating }) bus, 15, false, true, shaped
     (by decide +kernel), by decide +kernel⟩,
   ⟨grp (fun x => { x with uvNs := 100000, gtype := 3, state := .regulating }) bus, 15, false, true, shaped
     (by decide +kernel), by decide +kernel⟩,
   ⟨onSh (fun x => { x with coolSrc := [0, 0x4F1, 0], windows := 100 }) bus, {}, by decide +kernel⟩,
   ⟨bus, by decide +kernel⟩,
   ⟨onSh (fun x => { x with coolSrc := [0, 0x4F1, 0], windows := 100 }) (cell (fun x =>
     { x with tele := List.replicate 8 { avg100 := 10000 } }) bus), { avg100 := 10000 }, by decide +kernel⟩⟩

/-- States and operands that meet the hypotheses of `Obligations.PlanisherStepsComplete`, clause by clause. -/
theorem witness_PlanisherStepsComplete :
    (∃ (s : State) (g : Nat) (r : StrRec) (v c voc ev e : Int), s.rc.on 4 = true ∧ s.pl.strs = [(g, r)] ∧ (r.regd = true ∨
      (s.group g).state ≠ .regulating ∧ (s.group g).state ≠ .burstRun) ∧ s.avgSel (s.group g).pbOut = some v ∧ s.avgSel
      r.iSrc = some c ∧ voc = v + divRne (c * r.esr) 1000000 ∧ ev = divFloor ((r.eUse : Int) * 1000 * (voc ^ 2 - r.vBot ^ 2))
      (r.vTop ^ 2 - r.vBot ^ 2).toNat ∧ e = r.e - divRne (v * c) 1000000) ∧
    (∃ (s : State) (g : Nat) (r : StrRec) (v c voc ev e : Int), s.rc.on 4 = true ∧ s.pl.strs = [(g, r)] ∧ (r.regd = true ∨
      (s.group g).state ≠ .regulating ∧ (s.group g).state ≠ .burstRun) ∧ s.avgSel (s.group g).pbOut = some v ∧ s.avgSel
      r.iSrc = some c ∧ voc = v + divRne (c * r.esr) 1000000 ∧ ev = divFloor ((r.eUse : Int) * 1000 * (voc ^ 2 - r.vBot ^ 2))
      (r.vTop ^ 2 - r.vBot ^ 2).toNat ∧ e = r.e - divRne (v * c) 1000000) ∧
    (∃ (s : State), s.rc.on 4 = false) ∧
    (∃ (s : State), s.rc.gov = true ∧ (s.role = .active ∨ s.role = .standby) ∧ (s.pl.modeNext = some 0 ∧ ∃ f ∈ s.hq.inflight,
      f.wait = .storeMode)) ∧
    (∃ (s : State), s.rc.gov = true ∧ (s.role = .active ∨ s.role = .standby) ∧ (s.pl.ride = true ∧ s.pl.modeNext ≠ some 2)) ∧
    (∃ (s : State) (parity : Bool), s.rc.gov = true ∧ (s.role = .active ∨ s.role = .standby) ∧ (s.pl.ride = true ∧
      s.pl.modeNext = some 2 ∧ parity = false)) ∧
    (∃ (s : State), s.rc.gov = true ∧ (s.role = .active ∨ s.role = .standby) ∧ (s.pl.modeNext = none ∧ s.pl.mode = 0 ∧
      s.pl.absent = false ∧ s.pl.resume = false ∧ s.pl.ride = false ∧ s.canRide = false ∧ (-(s.pl.trimMax : Int) ≤ s.pl.trim)
      ∧ s.pl.trim ≤ s.pl.trimMax ∧ (s.group 15).gtype = 3 ∧ s.role = .standby)) ∧
    (∃ (s : State), (s.rc.gov = false ∨ (s.role ≠ .active ∧ s.role ≠ .standby))) ∧
    (∃ (s : State), (s.rc.gov = false ∨ (s.role ≠ .active ∧ s.role ≠ .standby))) ∧
    (∃ (s : State) (g : Nat) (v : Int), s.pl.ride = true ∧ s.gridGroup = some g ∧ (s.group g).state = .regulating ∧ s.avgSel
      (s.group g).pbIn = some v ∧ (s.group g).vinMin ≤ v ∧ v ≤ (s.group g).vinMax) ∧
    (∃ (s : State) (g : Nat) (v : Int), s.pl.ride = true ∧ s.gridGroup = some g ∧ (s.group g).state = .regulating ∧ s.avgSel
      (s.group g).pbIn = some v ∧ (v < (s.group g).vinMin ∨ (s.group g).vinMax < v)) ∧
    (∃ (s : State) (g : Nat) (v : Int), s.pl.ride = true ∧ s.gridGroup = some g ∧ (s.group g).state = .regulating ∧ s.avgSel
      (s.group g).pbIn = some v ∧ (v < (s.group g).vinMin ∨ (s.group g).vinMax < v)) ∧
    (∃ (s : State), s.rc.gov = true ∧ (s.role ≠ .active)) ∧
    (∃ (s : State), s.rc.gov = true ∧ (s.role = .active ∧ s.pl.limNext = some [1] ∧ (∃ f ∈ s.hq.inflight, f.wait =
      .planLimits) ∧ s.canSend = true)) ∧
    (∃ (s : State), s.rc.on 4 = true) ∧
    (∃ (s : State), s.rc.on 4 = true ∧ s.pl.absent = true) ∧
    (∃ (s : State) (k : Nat) (o : PeerGrid), look s.pl.peers k = some o ∧ (s.pl.offer ≤ 0)) ∧
    (∃ (s : State) (k : Nat) (o : PeerGrid), look s.pl.peers k = some o ∧ (0 < s.pl.offer ∧ 0 < o.gridW ∧ s.gn.isolated =
      false ∧ k / 4 = s.rackId ∧ s.gv.ok = true)) :=
  ⟨⟨onPl (fun x => { x with strs := [(15, string0)] }) bus, 15, string0, 0, 0, 0, -5000, 1000, by decide +kernel⟩,
   ⟨onPl (fun x => { x with strs := [(15, { string0 with seed := false, regd := true })] }) (inState .regulating bus), 15,
     { string0 with seed := false, regd := true }, 0, 0, 0, -5000, 1000, by decide +kernel⟩,
   ⟨onRc (fun x => { x with off := [4] }) live, by decide +kernel⟩,
   ⟨onPl (fun x => { x with modeNext := some 0 }) (flying [fly hd 0x0501 .storeMode] bus), by decide +kernel⟩,
   ⟨onPl (fun x => { x with ride := true }) bus, by decide +kernel⟩,
   ⟨onPl (fun x => { x with ride := true, modeNext := some 2 }) bus, false, by decide +kernel⟩,
   ⟨grp (fun x => { x with gtype := 3 }) (standby bus), by decide +kernel⟩,
   ⟨{ live with role := .offline }, by decide +kernel⟩,
   ⟨onRc (fun x => { x with govRun := false }) live, by decide +kernel⟩,
   ⟨onPl (fun x => { x with ride := true }) grid, 15, 0, by decide +kernel⟩,
   ⟨onPl (fun x => { x with ride := true }) (grp (fun x => { x with vinMin := 1, vinMax := 2 }) grid), 15, 0,
     by decide +kernel⟩,
   ⟨onPl (fun x => { x with ride := true }) (grp (fun x => { x with vinMin := -2, vinMax := -1 }) grid), 15, 0,
     by decide +kernel⟩,
   ⟨standby live, by decide +kernel⟩,
   ⟨onPl (fun x => { x with limNext := some [1] }) (onGv (fun x => { x with ok := true }) (onGn (fun x =>
     { x with mode := 1 }) (flying [fly hd 0x0502 .planLimits] keyed))), by decide +kernel⟩,
   ⟨live, by decide +kernel⟩,
   ⟨onPl (fun x => { x with absent := true }) live, by decide +kernel⟩,
   ⟨onPl (fun x => { x with peers := [(5, ⟨7, 0⟩)] }) live, 5, ⟨7, 0⟩, by decide +kernel⟩,
   ⟨onPl (fun x => { x with peers := [(5, ⟨7, 3⟩), (6, ⟨1, 4⟩)], offer := 2 }) (onGv (fun x =>
     { x with ok := true, defs := govBytes (govDefaults.set 0 1) }) live), 5, ⟨7, 3⟩, by decide +kernel⟩⟩

/-- States and operands that meet the hypotheses of `Obligations.ProfileEngineComplete`, clause by clause. -/
theorem witness_ProfileEngineComplete :
    (∃ (s : State) (v : Int), s.rc.profile = true ∧ s.pf.state = .search ∧ s.pfSample = some v ∧ s.pf.winPos < 999 ∧
      s.pf.decCnt + 1 < 2 ^ s.pf.m) ∧
    (∃ (s : State) (parity : Bool), s.rc.profile = true ∧ s.pf.state = .locked ∧ 0 < s.pf.period ∧ (s.pf.phase + 2 ^ 16 <
      s.pf.period ∧ binsOf s.pf.period s.pf.n ≤ s.part.profileEntries ∧ parity = true)) ∧
    (∃ (s : State), s.rc.profile = true ∧ s.pf.state = .locked ∧ 0 < s.pf.period ∧ (s.pf.period ≤ s.pf.phase + 2 ^ 16 ∧
      s.pf.recross = false)) ∧
    (∃ (s : State), s.rc.profile = true ∧ s.pf.state = .locked ∧ 0 < s.pf.period ∧ (s.pf.period ≤ s.pf.phase + 2 ^ 16 ∧
      s.pf.recross = true)) ∧
    (∃ (s : State), s.pf.state = .locked ∧ (s.pf.cfg.lossMs ≤ s.pf.lowWin ∨ 3 ≤ s.pf.limitRun)) ∧
    (∃ (s : State), s.pf.state = .locked ∧ (s.pf.cfg.lossMs ≤ s.pf.lowWin ∨ 3 ≤ s.pf.limitRun)) ∧
    (∃ (s : State), s.pf.state = .coast) ∧
    (∃ (tw : Int) (s : State), s.rc.profile = true ∧ s.clk.ptp < tw) ∧
    (∃ (tag : Nat) (tw : Int) (s : State), s.rc.profile = true ∧ tw ≤ s.clk.ptp ∧ (tag = 0 ∨ s.pf.state = .idle)) ∧
    (∃ (tag : Nat) (tw : Int) (s : State) (a : Int), s.rc.profile = true ∧ tw ≤ s.clk.ptp ∧ tag ≠ 0 ∧ s.pf.state = .locked ∧
      s.pf.plan = none ∧ phaseOf (s.clk.ptp - tw) ≤ s.pf.period ∧ look s.pf.anchors tag = some a ∧ absI (wrapHalf (a -
      s.phaseAt tw) s.pf.period) * 100 ≤ s.pf.cfg.snapPct * s.pf.period) ∧
    (∃ (s : State) (w : Notice) (l : List Notice), s.rc.profile = true ∧ s.pf.waiting = w :: l ∧ w.at_ = s.clk.ptp ∧ w.tag ≠
      0 ∧ s.pf.state = .locked ∧ look s.pf.anchors w.tag = none) :=
  ⟨⟨onPf (fun x => { x with state := .search, winPos := 998 }) (onSh (fun x =>
    { x with outHist := [5, 5], outStale := [false, false] }) live), 5, by decide +kernel⟩,
   ⟨onPf (fun x => { x with state := .locked, period := 2 * 2 ^ 16 + 1 }) live, true, by decide +kernel⟩,
   ⟨onPf (fun x => { x with state := .locked, period := 2 ^ 16 }) live, by decide +kernel⟩,
   ⟨onPf (fun x => { x with state := .locked, period := 2 ^ 16, recross := true }) live, by decide +kernel⟩,
   ⟨onPf (fun x => { x with state := .locked, lowWin := 1000 }) live, by decide +kernel⟩,
   ⟨onPf (fun x => { x with state := .locked, limitRun := 3 }) live, by decide +kernel⟩,
   ⟨onPf (fun x => { x with state := .coast }) live, by decide +kernel⟩,
   ⟨1, live, by decide +kernel⟩,
   ⟨0, 0, live, by decide +kernel⟩,
   ⟨255, 0, onPf (fun x => { x with state := .locked, period := 100 * 2 ^ 16, anchors := [(255, 5 * 2 ^ 16)] }) live, 5 * 2 ^
     16, by decide +kernel⟩,
   ⟨onPf (fun x => { x with state := .locked, period := 2 ^ 20, waiting := [⟨255, 0, 1, 2⟩] }) live, ⟨255, 0, 1, 2⟩, [],
     by decide +kernel⟩⟩

/-- States and operands that meet the hypotheses of `Obligations.PlansAndForecastComplete`, clause by clause. -/
theorem witness_PlansAndForecastComplete :
    (∃ (s : State) (q : Plan), s.pf.plan = some q ∧ q.written = false ∧ (q.mode = 1 ∧ q.actTime ≤ s.clk.ptp ∧ ∃ f ∈
      s.hq.inflight, f.wait = .planLoad)) ∧
    (∃ (s : State) (q : Plan), s.pf.plan = some q ∧ q.written = false ∧ (q.mode = 1 ∧ s.clk.ptp < q.actTime)) ∧
    (∃ (s : State) (q : Plan), s.pf.plan = some q ∧ q.written = false ∧ (q.mode = 2)) ∧
    (∃ (s : State) (q : Plan), s.pf.plan = some q ∧ q.written = false ∧ (q.mode = 0)) ∧
    (∃ (s : State) (q : Plan), s.pf.plan = some q ∧ q.written = true ∧ q.mode = 1 ∧ (∃ f ∈ s.hq.inflight, f.wait =
      .planLoad)) ∧
    (∃ (s : State) (q : Plan), s.pf.plan = some q ∧ q.mode ≠ 0 ∧ (∃ f ∈ s.hq.inflight, f.wait = .planLoad)) ∧
    (∃ (s : State), s.rc.profile = true) ∧
    (∃ (s : State), s.rc.profile = true ∧ 0 < s.pf.period) ∧
    (∃ (s : State), s.rc.profile = false) :=
  ⟨⟨onPf (fun x => { x with plan := some plan0 }) (flying [fly hd 0x0601 .planLoad] live), plan0, by decide +kernel⟩,
   ⟨onPf (fun x => { x with plan := some { plan0 with actTime := 1 } }) live, { plan0 with actTime := 1 },
     by decide +kernel⟩,
   ⟨onPf (fun x => { x with plan := some { plan0 with mode := 2 } }) live, { plan0 with mode := 2 }, by decide +kernel⟩,
   ⟨onPf (fun x => { x with plan := some { plan0 with mode := 0 } }) live, { plan0 with mode := 0 }, by decide +kernel⟩,
   ⟨onPf (fun x => { x with plan := some { plan0 with written := true } }) (flying [fly hd 0x0601 .planLoad] live),
     { plan0 with written := true }, by decide +kernel⟩,
   ⟨onPf (fun x => { x with plan := some { plan0 with mode := 2 } }) (flying [fly hd 0x0601 .planLoad] live),
     { plan0 with mode := 2 }, by decide +kernel⟩,
   ⟨live, by decide +kernel⟩,
   ⟨onPf (fun x => { x with period := 1 }) live, by decide +kernel⟩,
   ⟨onRc (fun x => { x with off := [5] }) live, by decide +kernel⟩⟩

/-- States and operands that meet the hypotheses of `Obligations.GovernorStepsComplete`, clause by clause. -/
theorem witness_GovernorStepsComplete :
    (∃ (s : State) (k v : _), s.rc.gov = true ∧ s.active = true ∧ s.gv.ok = true ∧ s.gn.isolated = false ∧ s.gv.role ≠ 2 ∧
      s.gv.peers = [(k, v)] ∧ v.lead = true) ∧
    (∃ (s : State), s.rc.gov = true ∧ s.active = true ∧ s.gv.ok = true ∧ s.gn.isolated = false ∧ s.gv.role ≠ 2 ∧ s.gv.peers =
      [] ∧ s.eligible = true ∧ s.gv.claim = none ∧ s.gv.dupMs ≤ 1) ∧
    (∃ (s : State), s.rc.gov = true ∧ s.active = true ∧ s.gv.ok = true ∧ s.gn.isolated = false ∧ s.gv.role ≠ 2) ∧
    (∃ (s : State), s.rc.gov = true ∧ s.eligible = true ∧ s.gv.role = 2 ∧ s.gv.dupMs ≤ 1 ∧ (∀ x ∈ s.gv.peers, x.2.lead =
      false) ∧ s.gv.inputs = [] ∧ s.gv.newBudget = none ∧ (s.gv.hostAbsent = true ∧ s.gv.absentW ≠ 0 ∧ s.gv.never = true)) ∧
    (∃ (s : State), s.rc.gov = true ∧ s.eligible = true ∧ s.gv.role = 2 ∧ s.gv.dupMs ≤ 1 ∧ (∀ x ∈ s.gv.peers, x.2.lead =
      false) ∧ s.gv.inputs = [] ∧ s.gv.newBudget = none ∧ (s.gv.hostAbsent = true ∧ s.gv.absentW ≠ 0 ∧ s.gv.never = false ∧
      s.gv.budgetMw < (s.gv.absentW : Int) * 1000)) ∧
    (∃ (s : State), s.rc.gov = true ∧ s.eligible = true ∧ s.gv.role = 2 ∧ s.gv.dupMs ≤ 1 ∧ (∀ x ∈ s.gv.peers, x.2.lead =
      false) ∧ s.gv.inputs = [] ∧ s.gv.newBudget = none ∧ (s.gv.hostAbsent = false)) ∧
    (∃ (s : State) (e : Nat), s.gv.claim = some e ∧ s.rc.gov = true ∧ s.eligible = true ∧ s.gv.dupMs = 0 ∧ s.gv.role ≠ 2 ∧
      (s.canSend = true ∧ ∃ x ∈ s.gv.eps, x.granted = true ∧ (look s.gv.heard x.id).isSome = true)) ∧
    (∃ (s : State) (e : Nat), s.gv.claim = some e ∧ (s.rc.gov = false ∨ s.eligible = false ∨ s.gv.dupMs ≠ 0 ∨ s.isLead =
      true)) ∧
    (∃ (s : State) (e : Nat), s.gv.claim = some e ∧ (s.rc.gov = false ∨ s.eligible = false ∨ s.gv.dupMs ≠ 0 ∨ s.isLead =
      true) ∧ (s.isLead = true)) ∧
    (∃ (s : State), s.rc.gov = true ∧ s.gv.timing = 1 ∧ s.gv.detSusp = false ∧ s.gn.queue = []) ∧
    (∃ (s : State), s.rc.gov = true ∧ s.gv.timing = 1 ∧ s.gv.detSusp = false ∧ s.gn.queue = [] ∧ (s.isLead = true)) ∧
    (∃ (s : State), s.rc.gov = true ∧ s.gv.timing = 1 ∧ s.gv.detSusp = true ∧ (s.ptpLock = false ∨ s.isLead = false)) ∧
    (∃ (s : State) (id : Nat) (x : Grant) (e : Endpoint) (k : Key) (a : Nat × Nat), s.isLead = true ∧ s.rc.gov = true ∧
      s.gv.epochGrants = [(id, x)] ∧ s.gv.ep id = some e ∧ look s.gv.heard id = some a ∧ s.gn.rackKey.cur = some k ∧
      s.canSend = true ∧ s.gv.resend s.clk.now e x = true) ∧
    (∃ (s : State), s.isLead = true ∧ s.gv.know = 2 ∧ s.rc.gov = true) :=
  ⟨⟨onGv (fun x => { x with ok := true, peers := [(1, view)] }) live, 1, view, by decide +kernel⟩,
   ⟨contender, by decide +kernel⟩,
   ⟨onGv (fun x => { x with ok := true }) live, by decide +kernel⟩,
   ⟨leader, by decide +kernel⟩,
   ⟨onGv (fun x => { x with never := false, budgetMw := 7 }) leader, by decide +kernel⟩,
   ⟨onGv (fun x => { x with hostAbsent := false }) leader, by decide +kernel⟩,
   ⟨onGv (fun x => { x with claim := some 5, eps := [{ id := 9, cap := 1 }], heard := [(9, 1, 2)] }) (onGn (fun x =>
     { x with mode := 1 }) contender), 5, by decide +kernel⟩,
   ⟨onGv (fun x => { x with claim := some 5 }) live, 5, by decide +kernel⟩,
   ⟨onGv (fun x => { x with claim := some 5 }) leader, 5, by decide +kernel⟩,
   ⟨onGv (fun x => { x with timing := 1 }) live, by decide +kernel⟩,
   ⟨onGv (fun x => { x with timing := 1 }) leader, by decide +kernel⟩,
   ⟨onGv (fun x => { x with timing := 1, detSusp := true }) live, by decide +kernel⟩,
   ⟨onGv (fun x => { x with epochGrants := [(9, grant0)], eps := [{ id := 9 }], heard := [(9, 1, 2)] }) (onGn (fun x =>
     { x with mode := 1 }) leader), 9, grant0, { id := 9 }, rackKey0, (1, 2), by decide +kernel⟩,
   ⟨onGv (fun x => { x with know := 2, eps := [{ id := 9 }] }) leader, by decide +kernel⟩⟩

/-- States and operands that meet the hypotheses of `Obligations.GovernorExpiriesComplete`, clause by clause. -/
theorem witness_GovernorExpiriesComplete :
    (∃ (s : State) (o : OwnReq) (h : CmdHdr) (req : Nat), s.gv.own.find? (fun o => o.req.id == req) = some o ∧ o.adopted =
      false ∧ o.hdr = some h) ∧
    (∃ (s : State) (o : OwnReq) (req : Nat), s.gv.own.find? (fun o => o.req.id == req) = some o ∧ o.adopted = true) ∧
    (∃ (s : State) (o : OwnReq) (req : Nat), s.gv.own.find? (fun o => o.req.id == req) = some o ∧ o.adopted = true) ∧
    (∃ (s : State) (o : OwnReq) (req : Nat), s.gv.own.find? (fun o => o.req.id == req) = some o ∧ o.adopted = false ∧
      s.rc.gov = true ∧ s.gv.role ≠ 2 ∧ s.canSend = true) ∧
    (∃ (s : State) (o : OwnReq) (req : Nat), s.gv.own.find? (fun o => o.req.id == req) = some o ∧ o.adopted = false ∧
      s.rc.gov = true ∧ s.isLead = true ∧ s.gn.queue.length < 4096) ∧
    (∃ (s : State), s.gv.newBudget ≠ none) ∧
    (∃ (s : State), s.isLead = true ∧ s.gv.hostAbsent = false ∧ s.gv.newBudget = none ∧ s.rc.gov = true ∧ (∃ p ∈ s.gv.pend,
      p.state = 1 ∧ p.req.kind = 0)) ∧
    (∃ s : State, s.isLead = true ∧ s.rc.gov = true) ∧
    (∃ (s : State) (k : Nat) (e : Endpoint), s.isLead = true ∧ s.rc.gov = true ∧ s.gv.ep k = some e ∧ (∀ x ∈ s.gv.eps, x.id =
      k → x.thr = none)) ∧
    (∃ (s : State) (tag : Nat) (o : Barrier) (arr : List (Nat × Int × Int)), s.isLead = true ∧ s.rc.gov = true ∧
      s.gv.barriers.find? (fun b => b.tag == tag) = some o ∧ arr = o.arrived.filter (fun a => (s.gv.ep a.1).isSome) ∧ arr ≠
      []) ∧
    (∃ s : State, s.isLead = false) :=
  ⟨⟨onGv (fun x => { x with own := [⟨⟨0x200, 1, 0, 5, 100, 0⟩, some hd, false⟩] }) live, ⟨⟨0x200, 1, 0, 5, 100, 0⟩, some hd,
    false⟩, hd, 1, by decide +kernel⟩,
   ⟨onGv (fun x => { x with own := [⟨⟨0x200, 1, 0, 5, 100, 0⟩, some hd, true⟩] }) live, ⟨⟨0x200, 1, 0, 5, 100, 0⟩, some hd,
     true⟩, 1, by decide +kernel⟩,
   ⟨onGv (fun x => { x with own := [⟨⟨0x200, 1, 0, 5, 100, 0⟩, some hd, true⟩] }) live, ⟨⟨0x200, 1, 0, 5, 100, 0⟩, some hd,
     true⟩, 1, by decide +kernel⟩,
   ⟨onGv (fun x => { x with own := [⟨⟨0x200, 1, 0, 5, 100, 0⟩, some hd, false⟩] }) (onGn (fun x => { x with mode := 1 })
     contender), ⟨⟨0x200, 1, 0, 5, 100, 0⟩, some hd, false⟩, 1, by decide +kernel⟩,
   ⟨onGv (fun x => { x with own := [⟨⟨0x200, 1, 0, 5, 100, 0⟩, some hd, false⟩] }) leader, ⟨⟨0x200, 1, 0, 5, 100, 0⟩, some
     hd, false⟩, 1, by decide +kernel⟩,
   ⟨onGv (fun x => { x with newBudget := some (5, 100) }) leader, by decide +kernel⟩,
   ⟨onGv (fun x => { x with hostAbsent := false, pend := [pend0] }) leader, by decide +kernel⟩,
   ⟨leader, by decide +kernel⟩,
   ⟨onGv (fun x => { x with eps := [{ id := 255 }] }) leader, 255, { id := 255 }, by decide +kernel⟩,
   ⟨onGv (fun x => { x with eps := [{ id := 255 }], barriers := [⟨7, [(255, 3, 4), (254, 5, 6)]⟩] }) leader, 7, ⟨7, [(255, 3,
     4), (254, 5, 6)]⟩, [(255, 3, 4)], by decide +kernel⟩,
   ⟨live, by decide +kernel⟩⟩

/-- States and operands that meet the hypotheses of `Obligations.GuleneReceiptCompletes`, clause by clause. -/
theorem witness_GuleneReceiptCompletes :
    (∃ (s : State) (m : GnMsg) (c : Instr) (typ : Nat), ((c, typ) ∈ [(Instr.wick m, 1), (.report m, 2), (.lantern m, 4),
      (.budget m, 5), (.electReceived m, 6), (.shareReceived m, 7)] ∨ (c, typ) = (.alert m, 8) ∧ u m.body 0 1 ≠ 2) ∧
      (s.gnCheck typ m).2 = true ∧ s.gn.queue.length < 4096) ∧
    (∃ (s : State) (m : GnMsg) (c : Instr) (typ : Nat), ((c, typ) ∈ [(Instr.wick m, 1), (.report m, 2), (.lantern m, 4),
      (.budget m, 5), (.electReceived m, 6), (.shareReceived m, 7)] ∨ (c, typ) = (.alert m, 8) ∧ u m.body 0 1 ≠ 2) ∧
      (s.gnCheck typ m).2 = true ∧ s.gn.queue.length = 4096) ∧
    (∃ s : State, s.rc.on 3 = false) ∧
    (∃ (s : State) (m : GnMsg) (c : Instr) (typ : Nat), ((c, typ) ∈ [(Instr.wick m, 1), (.report m, 2), (.lantern m, 4),
      (.budget m, 5), (.electReceived m, 6), (.shareReceived m, 7)] ∨ (c, typ) = (.alert m, 8) ∧ u m.body 0 1 ≠ 2) ∧ s.rc.on
      3 = true ∧ (senderOk typ m.sender = false ∨ bodyFits typ m.sender m.body = false)) ∧
    (∃ (s : State) (m : GnMsg) (c : Instr) (typ : Nat), ((c, typ) ∈ [(Instr.wick m, 1), (.report m, 2), (.lantern m, 4),
      (.budget m, 5), (.electReceived m, 6), (.shareReceived m, 7)] ∨ (c, typ) = (.alert m, 8) ∧ u m.body 0 1 ≠ 2) ∧ s.rc.on
      3 = true ∧ senderOk typ m.sender = true ∧ bodyFits typ m.sender m.body = true ∧ s.rackId ≠ 0 ∧ m.rack = s.rackId ∧
      (s.keyFor typ m).all (fun k => m.tag != msgTag k.key typ m) = true) ∧
    (∃ (s : State) (m : GnMsg) (c : Instr) (typ : Nat) (k : Key), ((c, typ) ∈ [(Instr.wick m, 1), (.report m, 2), (.lantern
      m, 4), (.budget m, 5), (.electReceived m, 6), (.shareReceived m, 7)] ∨ (c, typ) = (.alert m, 8) ∧ u m.body 0 1 ≠ 2) ∧
      s.rc.on 3 = true ∧ senderOk typ m.sender = true ∧ bodyFits typ m.sender m.body = true ∧ s.rackId ≠ 0 ∧ m.rack =
      s.rackId ∧ s.keyFor typ m = some k ∧ m.tag = msgTag k.key typ m ∧ s.msgFresh m = false) ∧
    (∃ (s : State) (m : GnMsg), (s.gnCheck 8 m).2 = true ∧ u m.body 0 1 = 2 ∧ s.resetRequested m = true ∧ (s.rc.power = .run
      ∨ s.rc.power = .quiet) ∧ u m.body 1 1 = 0 ∧ s.rc.absorbs 5 0 = false) ∧
    (∃ (s : State), s.rc.gov = true) ∧
    (∃ (s : State) (q : GnIn) (e : _), s.rc.gov = true ∧ s.gn.queue = [q] ∧ s.gv.atEpochs = false ∧ q.typ = 2 ∧ u q.msg.body
      0 1 = 0 ∧ s.gv.ep q.msg.sender = some e ∧ s.isLead = false) ∧
    (∃ (s : State) (q : GnIn), s.rc.gov = true ∧ s.gn.queue = [q] ∧ s.gv.atEpochs = false ∧ q.typ = 5 ∧ u q.msg.body 0 1 = 0
      ∧ s.isLead = true ∧ reqOk (reqOf q.msg) = true ∧ (q.msg.sender, (reqOf q.msg).id) ∉ s.gv.seen ∧ s.gv.pend = []) ∧
    (∃ (s : State) (q : GnIn), s.rc.gov = true ∧ s.gn.queue = [q] ∧ s.gv.atEpochs = false ∧ q.typ = 1 ∧ u q.msg.body 0 1 = 0
      ∧ s.rc.profile = true ∧ s.clk.ptp < i q.msg.body 0x10 8) ∧
    (∃ (s : State) (q : GnIn), s.rc.gov = true ∧ s.gn.queue = [q] ∧ s.gv.atEpochs = false ∧ q.typ = 6 ∧ u q.msg.body 4 1 <
      s.gv.shelf ∧ s.isLead = false) ∧
    (∃ (s : State), s.rc.gov = false) :=
  ⟨⟨rack, signed 2 (msg 9 (lay 32 [])), .report (signed 2 (msg 9 (lay 32 []))), 2, by decide +kernel⟩,
   ⟨onGn (fun x => { x with queue := List.replicate 4096 ⟨2, msg 9 [], 0, 0⟩ }) rack, signed 6 (msg 0x207 (lay 8 [])),
     .electReceived (signed 6 (msg 0x207 (lay 8 []))), 6, by decide +kernel⟩,
   ⟨onRc (fun x => { x with off := [3] }) live, by decide +kernel⟩,
   ⟨rack, msg 0x100 (lay 24 []), .wick (msg 0x100 (lay 24 [])), 1, by decide +kernel⟩,
   ⟨rack, msg 0x207 (lay 32 []), .budget (msg 0x207 (lay 32 [])), 5, by decide +kernel⟩,
   ⟨onGn (fun x => { x with replay := [⟨1, 0x200, 100, []⟩] }) rack, signed 8 (msg 0x200 (lay 16 [])), .alert (signed 8 (msg
     0x200 (lay 16 []))), 8, rackKey0, by decide +kernel⟩,
   ⟨rack, signed 8 (msg 0x300 (lay 16 [(0, [2])])), by decide +kernel⟩,
   ⟨rack, by decide +kernel⟩,
   ⟨onGv (fun x => { x with eps := [{ id := 9 }] }) (onGn (fun x => { x with queue := [⟨2, msg 9 (lay 32 []), 0, 0⟩] })
     live), ⟨2, msg 9 (lay 32 []), 0, 0⟩, { id := 9 }, by decide +kernel⟩,
   ⟨onGn (fun x => { x with queue := [⟨5, msg 0x202 (lay 32 [(4, [1])]), 0, 0⟩] }) leader, ⟨5, msg 0x202 (lay 32 [(4, [1])]),
     0, 0⟩, by decide +kernel⟩,
   ⟨onGn (fun x => { x with queue := [⟨1, msg 9 (lay 24 [(1, [255]), (0x10, [1])]), 0, 0⟩] }) live, ⟨1, msg 9 (lay 24 [(1,
     [255]), (0x10, [1])]), 0, 0⟩, by decide +kernel⟩,
   ⟨onGv (fun x => { x with defs := govBytes (govDefaults.set 1 3) }) (onGn (fun x =>
     { x with queue := [⟨6, msg 0x200 (lay 8 [(4, [2])]), 0, 0⟩] }) live), ⟨6, msg 0x200 (lay 8 [(4, [2])]), 0, 0⟩,
     by decide +kernel⟩,
   ⟨onRc (fun x => { x with govRun := false }) live, by decide +kernel⟩⟩

/-- States and operands that meet the hypotheses of `Obligations.GuleneUpkeepCompletes`, clause by clause. -/
theorem witness_GuleneUpkeepCompletes :
    (∃ s : State, s.gn.msTick < 999) ∧
    (∃ s : State, 999 ≤ s.gn.msTick) ∧
    (∃ (s : State) (row : Bool) (k : Key), (s.gn.role row).next = some k) ∧
    (∃ (s : State) (row : Bool) (k : Key), (s.gn.role row).next = some k ∧ (s.rc.on 3 = true)) ∧
    (∃ (s : State) (row : Bool), (s.gn.role row).next = none ∧ (s.gn.joined = s.groupsWanted)) ∧
    (∃ (s : State), (s.gn.mode = 0 ∨ 1 < s.gv.shelves) ∧ s.gn.isolated = true) ∧
    (∃ (s : State), (s.gn.mode = 0 ∨ 1 < s.gv.shelves) ∧ s.gn.isolated = false ∧ s.gv.snuffOut = false ∧ (s.isLead = false))
      ∧
    (∃ (s : State), (s.gn.mode = 0 ∨ 1 < s.gv.shelves) ∧ s.gn.isolated = false ∧ s.isLead = true ∧ s.gv.snuffOut = true) ∧
    (∃ (s : State), (s.gn.mode = 0 ∨ 1 < s.gv.shelves) ∧ s.gn.isolated = false ∧ s.isLead = true ∧ s.gv.snuffOut = true ∧
      (s.canSend = true)) ∧
    (∃ (s : State), s.gn.mode ≠ 0 ∧ s.gv.shelves ≤ 1) :=
  ⟨⟨onGn (fun x => { x with msTick := 998 }) live, by decide +kernel⟩,
   ⟨onGn (fun x => { x with msTick := 999 }) live, by decide +kernel⟩,
   ⟨onGn (fun x => { x with rackKey := { next := some rackKey0 } }) live, false, rackKey0, by decide +kernel⟩,
   ⟨onGn (fun x => { x with mode := 1, rackKey := { next := some rackKey0 } }) (onGv (fun x => { x with ok := true }) live),
     false, rackKey0, by decide +kernel⟩,
   ⟨live, true, by decide +kernel⟩,
   ⟨onGn (fun x => { x with isolated := true }) live, by decide +kernel⟩,
   ⟨live, by decide +kernel⟩,
   ⟨onGv (fun x => { x with snuffOut := true }) leader, by decide +kernel⟩,
   ⟨onGv (fun x => { x with snuffOut := true, defs := govBytes (govDefaults.set 2 4) }) (onGn (fun x => { x with mode := 1 })
     leader), by decide +kernel⟩,
   ⟨onGn (fun x => { x with mode := 4 }) live, by decide +kernel⟩⟩

/-- States and operands that meet the hypotheses of `Obligations.EthernetPortCompletes`, clause by clause. -/
theorem witness_EthernetPortCompletes :
    (∃ s : State, s.rc.ethOn = false) ∧
    (∃ (s : State) (offer : List Nat) (mode : Nat), s.rc.ethOn = true ∧ 1 ≤ mode ∧ mode ≤ 4 ∧ mode ∈ offer ∧ (∀ m ∈ offer, 1
      ≤ m → mode ≤ m) ∧ (1 < s.gv.shelves)) ∧
    (∃ (s : State) (offer : List Nat) (mode : Nat), s.rc.ethOn = true ∧ 1 ≤ mode ∧ mode ≤ 4 ∧ mode ∈ offer ∧ (∀ m ∈ offer, 1
      ≤ m → mode ≤ m) ∧ (s.gv.shelves ≤ 1 ∧ s.gn.isolated = true)) ∧
    (∃ (s : State) (offer : List Nat), s.rc.ethOn = true ∧ (∀ m, 1 ≤ m → m ≤ 4 → m ∉ offer) ∧ (s.gn.isolated = false ∧
      s.isLead = false)) ∧
    (∃ (s : State), s.rc.ethOn = true ∧ s.gn.mode = 0 ∧ s.gn.negFailed = false) ∧
    (∃ (s : State), s.rc.ethOn = true ∧ s.gn.mode = 0 ∧ s.gn.negFailed = true) ∧
    (∃ (s : State), s.gn.mode ≠ 0) ∧
    (∃ (s : State) (a : Nat), s.gn.own a = true) ∧
    (∃ (s : State) (a : Nat), s.gn.own a = false) ∧
    (∃ (s : State) (a : Nat), s.gn.ipv4 = some a) ∧
    (∃ (s : State) (a : Nat), s.gn.ipv4 ≠ some a) :=
  ⟨⟨onRc (fun x => { x with off := [14] }) live, by decide +kernel⟩,
   ⟨onGv (fun x => { x with defs := govBytes (govDefaults.set 2 4) }) live, [4, 0], 4, by decide +kernel, by decide +kernel,
     by decide +kernel, by decide +kernel, by simp, by decide +kernel⟩,
   ⟨onGn (fun x => { x with isolated := true }) live, [1, 4], 1, by decide +kernel, by decide +kernel, by decide +kernel,
     by decide +kernel, by simp, by decide +kernel⟩,
   ⟨live, [], by decide +kernel, nofun, by decide +kernel⟩,
   ⟨live, by decide +kernel⟩,
   ⟨onGn (fun x => { x with negFailed := true }) live, by decide +kernel⟩,
   ⟨onGn (fun x => { x with mode := 4 }) live, by decide +kernel⟩,
   ⟨onGn (fun x => { x with ipv6 := some 9 }) live, 9, by decide +kernel⟩,
   ⟨live, 9, by decide +kernel⟩,
   ⟨onGn (fun x => { x with ipv4 := some 9 }) live, 9, by decide +kernel⟩,
   ⟨live, 9, by decide +kernel⟩⟩

/-- States and operands that meet the hypotheses of `Obligations.PtpCompletes`, clause by clause. -/
theorem witness_PtpCompletes :
    (∃ (s : State) (source : Nat) (interval : Int) (a : Announced) (origin off : Int), s.gn.transmitter = false ∧ s.gn.better
      = some a ∧ a.identity = source ∧ -7 ≤ interval ∧ interval ≤ 0 ∧ off = s.clk.ptp - origin - s.gn.pathDelay ∧
      (s.clk.ptpState ≠ .lock ∧ absI off ≤ 100 ∧ 7 ≤ s.gn.goodSync)) ∧
    (∃ (s : State) (source : Nat) (interval : Int) (a : Announced) (origin off : Int), s.gn.transmitter = false ∧ s.gn.better
      = some a ∧ a.identity = source ∧ -7 ≤ interval ∧ interval ≤ 0 ∧ off = s.clk.ptp - origin - s.gn.pathDelay ∧
      (s.clk.ptpState ≠ .lock ∧ s.gn.goodSync < 7)) ∧
    (∃ (s : State) (source : Nat) (interval : Int) (a : Announced) (origin off : Int), s.gn.transmitter = false ∧ s.gn.better
      = some a ∧ a.identity = source ∧ -7 ≤ interval ∧ interval ≤ 0 ∧ off = s.clk.ptp - origin - s.gn.pathDelay ∧
      (s.clk.ptpState = .lock ∧ 1000 < absI off ∧ 1 ≤ s.gn.badSync)) ∧
    (∃ (s : State) (source : Nat) (interval : Int) (a : Announced) (origin off : Int), s.gn.transmitter = false ∧ s.gn.better
      = some a ∧ a.identity = source ∧ -7 ≤ interval ∧ interval ≤ 0 ∧ off = s.clk.ptp - origin - s.gn.pathDelay ∧
      (s.clk.ptpState = .lock ∧ absI off ≤ 1000)) ∧
    (∃ (s : State) (domain : Nat), domain ≠ s.gn.domain) ∧
    (∃ (s : State) (a : Announced) (source : Nat), s.gn.transmitter = false ∧ s.gn.better = some a ∧ a.identity ≠ source) ∧
    (∃ s : State, s.clk.ptpState = .lock ∧ s.gv.timing = 1 ∧ s.isLead = true) ∧
    (∃ (s : State), s.gn.transmitter = true ∧ (s.gn.announceCnt = 0)) ∧
    (∃ (s : State), s.gn.transmitter = true) ∧
    (∃ (s : State), s.gn.transmitter = false) ∧
    (∃ (s : State), s.gn.transmitter = false) ∧
    (∃ (s : State) (t3 : Int), s.gn.reqT3 = some t3) ∧
    (∃ (s : State) (a : Announced), a.domain = s.gn.domain ∧ s.gn.better = none ∧ (s.gn.rackSource = false)) ∧
    (∃ (s : State) (a : Announced), a.domain = s.gn.domain ∧ s.gn.better = none ∧ (s.gn.rackSource = true ∧ Announced.before
      (announcedKey a) s.ownClock = true)) ∧
    (∃ (s : State) (a : Announced), a.domain = s.gn.domain ∧ s.gn.better = none ∧ (s.gn.rackSource = true ∧ Announced.before
      (announcedKey a) s.ownClock = false)) ∧
    (∃ (s : State) (a : Announced), a.domain ≠ s.gn.domain) :=
  ⟨⟨onGn (fun x => { x with better := some ownBetter, goodSync := 7 }) live, 1, -7, ownBetter, -100, 100, by decide +kernel⟩,
   ⟨onGn (fun x => { x with better := some ownBetter, goodSync := 6 }) live, 1, -7, ownBetter, 0, 0, by decide +kernel⟩,
   ⟨onGn (fun x => { x with better := some ownBetter, badSync := 1 }) (onClk (fun x => { x with ptpState := .lock }) live),
     1, -7, ownBetter, -1001, 1001, by decide +kernel⟩,
   ⟨onGn (fun x => { x with better := some ownBetter, badSync := 1 }) (onClk (fun x => { x with ptpState := .lock }) live),
     1, -7, ownBetter, -1000, 1000, by decide +kernel⟩,
   ⟨live, 127, by decide +kernel⟩,
   ⟨onGn (fun x => { x with better := some ownBetter }) live, ownBetter, 2, by decide +kernel⟩,
   ⟨onClk (fun x => { x with ptpState := .lock }) (onGv (fun x => { x with timing := 1 }) leader), by decide +kernel⟩,
   ⟨onGn (fun x => { x with transmitter := true }) live, by decide +kernel⟩,
   ⟨onGn (fun x => { x with transmitter := true }) live, by decide +kernel⟩,
   ⟨live, by decide +kernel⟩,
   ⟨live, by decide +kernel⟩,
   ⟨onGn (fun x => { x with reqT3 := some 5 }) live, 5, by decide +kernel⟩,
   ⟨live, ⟨0, 1, 2, 3, 4, 5, 6⟩, by decide +kernel⟩,
   ⟨onGn (fun x => { x with rackSource := true }) live, { ownBetter with priority1 := 0 }, by decide +kernel⟩,
   ⟨onGn (fun x => { x with rackSource := true }) live, { ownBetter with priority1 := 255, clockClass := 255 },
     by decide +kernel⟩,
   ⟨live, { ownBetter with domain := 127 }, by decide +kernel⟩⟩

/-- States and operands that meet the hypotheses of `Obligations.TetherFramesComplete`, clause by clause. -/
theorem witness_TetherFramesComplete :
    (∃ (s : State), s.role = .starting ∧ (s.teth.trained = false)) ∧
    (∃ (s : State), s.role = .starting ∧ (s.teth.trained = true ∧ s.teth.seen = true ∧ s.teth.partnerRole = 1)) ∧
    (∃ (s : State), s.role = .starting ∧ (s.teth.trained = true ∧ s.teth.seen = true ∧ s.teth.partnerRole = 0)) ∧
    (∃ (s : State), s.role = .starting ∧ (s.teth.trained = true ∧ s.teth.seen = true ∧ s.teth.partnerRole = 1 ∧
      s.teth.capsMismatch = true)) ∧
    (∃ (s : State), s.role = .starting ∧ (s.teth.trained = true ∧ s.teth.seen = true ∧ s.teth.partnerRole = 2)) ∧
    (∃ (s : State), s.role ≠ .starting) ∧
    (∃ (s : State), s.rc.tetherOn = false) ∧
    (∃ (s : State) (heads : List Nat), s.rc.tetherOn = true ∧ gainsLock heads = false) ∧
    (∃ (s : State) (hdr : Nat) (heads : List Nat), s.rc.tetherOn = true ∧ gainsLock heads = true ∧ bitAt hdr 9 = false) ∧
    (∃ (s : State) (hdr ports slots : Nat) (heads : List Nat), s.rc.tetherOn = true ∧ gainsLock heads = true ∧ bitAt hdr 9 = true ∧
      ports = bits hdr 31 24 ∧ slots = bits hdr 39 32 ∧ ports = s.part.ports ∧ slots = s.part.slots) ∧
    (∃ (s : State) (hdr ports slots : Nat) (heads : List Nat), s.rc.tetherOn = true ∧ gainsLock heads = true ∧ bitAt hdr 9 = true ∧
      ports = bits hdr 31 24 ∧ slots = bits hdr 39 32 ∧ slots ≠ s.part.slots) ∧
    (∃ s : State, s.teth.trained = true ∧ s.rc.tetherOn = true ∧ s.teth.hand = .copying ∧ s.teth.chunks.length ≤ 1 ∧ s.role =
      .active) ∧
    (∃ s : State, s.teth.trained = true ∧ s.rc.tetherOn = true ∧ s.teth.hand ≠ .copying ∧ s.role ≠ .active) ∧
    (∃ (s : State), (s.teth.trained = false ∨ s.rc.tetherOn = false)) ∧
    (∃ (s : State), s.teth.trained = false) ∧
    (∃ (s : State) (f : Option FastFrame), s.teth.trained = true ∧ (∀ g, f = some g → goodFast 0x99 g = false) ∧
      (s.teth.sinceHb % 2 = 0)) ∧
    (∃ (s : State) (f : Option FastFrame), s.teth.trained = true ∧ (∀ g, f = some g → goodFast 0x99 g = false) ∧
      (s.teth.sinceHb % 2 = 1)) ∧
    (∃ (s : State) (f : FastFrame), s.teth.trained = true ∧ goodFast 0x99 f = true ∧ s.teth.hand = .none ∧ (s.role =
      .standby ∧ bits f.hdr 22 21 = 1 ∧ bitAt f.hdr 23 = true ∧ bitAt f.hdr 19 = false)) ∧
    (∃ (s : State) (f : FastFrame), s.teth.trained = true ∧ goodFast 0x99 f = true ∧ s.teth.hand = .none ∧ (s.role =
      .standby ∧ bits f.hdr 22 21 = 1 ∧ bitAt f.hdr 19 = true ∧ s.copyFresh = true ∧ s.teth.copyWhole = true)) ∧
    (∃ (s : State) (f : FastFrame), s.teth.trained = true ∧ goodFast 0x99 f = true ∧ s.teth.hand = .none ∧ (s.role = .offline
      ∧ bitAt f.hdr 23 = true ∧ bits f.hdr 22 21 = 1 ∧ bitAt f.hdr 19 = false)) ∧
    (∃ (s : State) (f : FastFrame), s.teth.trained = true ∧ goodFast 0x99 f = true ∧ s.teth.hand = .none ∧ (s.role = .active
      ∧ bitAt f.hdr 19 = true ∧ bits f.hdr 22 21 = 2 ∧ bitAt f.hdr 18 = true)) :=
  ⟨⟨State.reset, by decide +kernel⟩,
   ⟨onTeth (fun x => { x with trained := true, seen := true, partnerRole := 1 }) State.reset, by decide +kernel⟩,
   ⟨onTeth (fun x => { x with trained := true, seen := true, slotB := true }) State.reset, by decide +kernel⟩,
   ⟨onTeth (fun x => { x with trained := true, seen := true, partnerRole := 1, capsMismatch := true }) State.reset,
     by decide +kernel⟩,
   ⟨onTeth (fun x => { x with trained := true, seen := true, partnerRole := 2 }) State.reset, by decide +kernel⟩,
   ⟨live, by decide +kernel⟩,
   ⟨onRc (fun x => { x with off := [18] }) live, by decide +kernel⟩,
   ⟨live, List.replicate 31 1, by decide +kernel⟩,
   ⟨live, 0, List.replicate 32 1, by decide +kernel⟩,
   ⟨live, 0x8050000200, 80, 128, List.replicate 32 2, by decide +kernel⟩,
   ⟨live, 0x4050000200, 80, 64, List.replicate 32 1, by decide +kernel⟩,
   ⟨onTeth (fun x => { x with trained := true, hand := .copying, chunks := [(5, [])] }) live, by decide +kernel⟩,
   ⟨onTeth (fun x => { x with trained := true }) (standby live), by decide +kernel⟩,
   ⟨live, by decide +kernel⟩,
   ⟨live, by decide +kernel⟩,
   ⟨onTeth (fun x => { x with trained := true }) live, none, by decide +kernel, nofun, by decide +kernel⟩,
   ⟨onTeth (fun x => { x with trained := true, sinceHb := 1 }) live, none, by decide +kernel, nofun, by decide +kernel⟩,
   ⟨onTeth (fun x => { x with trained := true }) (standby live), beat 0xFFFFA00000, by decide +kernel⟩,
   ⟨onTeth (fun x => { x with trained := true, appliedAt := some 0, copyWhole := true }) (standby live), beat 0x280000,
     by decide +kernel⟩,
   ⟨onTeth (fun x => { x with trained := true }) ({ live with role := .offline }), beat 0xA00000, by decide +kernel⟩,
   ⟨onTeth (fun x => { x with trained := true }) live, beat 0xCC0000, by decide +kernel⟩⟩

/-- States and operands that meet the hypotheses of `Obligations.PartnerAndCopiesComplete`, clause by clause. -/
theorem witness_PartnerAndCopiesComplete :
    (∃ (s : State), s.teth.seen = true ∧ s.teth.lost = false ∧ (s.role = .standby ∧ s.isArmed = true)) ∧
    (∃ (s : State), s.teth.seen = true ∧ s.teth.lost = false ∧ (s.role ≠ .standby)) ∧
    (∃ (s : State), s.teth.seen = true ∧ s.teth.lost = false ∧ (s.role = .standby ∧ s.isArmed = false)) ∧
    (∃ (s : State), (s.teth.seen = false ∨ s.teth.lost = true)) ∧
    (∃ (s : State), (s.teth.seen = false ∨ s.teth.lost = true)) ∧
    (∃ (s : State), (s.teth.lost = true ∨ s.teth.seen = false) ∧ (7 ∈ s.ev.causes)) ∧
    (∃ (s : State), (s.teth.lost = true ∨ s.teth.seen = false)) ∧
    (∃ (s : State), s.teth.lost = false ∧ s.teth.seen = true) ∧
    (∃ (s : State), s.role = .active ∧ s.teth.trained = true ∧ (s.teth.hand = .copyDue)) ∧
    (∃ (s : State), (s.role ≠ .active ∨ s.teth.trained = false)) ∧
    (∃ (s : State), (s.role ≠ .active ∨ s.teth.trained = false)) ∧
    (∃ (s : State), (s.role ≠ .standby ∨ s.teth.trained = false)) ∧
    (∃ (s : State) (f : BulkFrame), s.role = .standby ∧ s.teth.trained = true ∧ goodBulk f = false) ∧
    (∃ (s : State) (f : BulkFrame), s.role =
      .standby ∧ s.teth.trained = true ∧ goodBulk f = true ∧ bits f.hdr 23 12 = 0 ∧ bitAt f.hdr 11 = false) ∧
    (∃ (s : State) (f : BulkFrame), s.role =
      .standby ∧ s.teth.trained = true ∧ goodBulk f = true ∧ bits f.hdr 23 12 ≠ 0 ∧ (s.teth.rxGood = false ∨ s.teth.rxSeq ≠ bits f.hdr 39 24 ∨ s.teth.rxNext ≠ bits f.hdr 23 12)) ∧
    (∃ (s : State) (f : BulkFrame), WellShaped s ∧ s.role =
      .standby ∧ s.teth.trained = true ∧ goodBulk f = true ∧ bitAt f.hdr 11 = true ∧ (bits f.hdr 23 12 = 0 ∨ (s.teth.rxGood = true ∧ s.teth.rxSeq = bits f.hdr 39 24 ∧ s.teth.rxNext = bits f.hdr 23 12)) ∧ bits f.hdr 7 0 ≠ s.se.copyFormat) ∧
    (∃ (s : State) (f : BulkFrame), WellShaped s ∧ s.role =
      .standby ∧ s.teth.trained = true ∧ goodBulk f = true ∧ bitAt f.hdr 11 = true ∧ (bits f.hdr 23 12 = 0 ∨ (s.teth.rxGood = true ∧ s.teth.rxSeq = bits f.hdr 39 24 ∧ s.teth.rxNext = bits f.hdr 23 12)) ∧ bits f.hdr 7 0 = s.se.copyFormat ∧ s.teth.partnerHand = false) ∧
    (∃ (s : State) (f : BulkFrame), WellShaped s ∧ s.role =
      .standby ∧ s.teth.trained = true ∧ goodBulk f = true ∧ bitAt f.hdr 11 = true ∧ (bits f.hdr 23 12 = 0 ∨ (s.teth.rxGood = true ∧ s.teth.rxSeq = bits f.hdr 39 24 ∧ s.teth.rxNext = bits f.hdr 23 12)) ∧ bits f.hdr 7 0 = s.se.copyFormat ∧ s.teth.partnerHand = false ∧ (bits f.hdr 23 12 ≠ 0)) :=
  ⟨⟨onTeth (fun x => { x with seen := true, armed := true }) (onSh (fun x => { x with storeOk := true }) (standby bus)),
    by decide +kernel⟩,
   ⟨onTeth (fun x => { x with seen := true }) live, by decide +kernel⟩,
   ⟨onTeth (fun x => { x with seen := true, armed := true }) (standby live), by decide +kernel⟩,
   ⟨live, by decide +kernel⟩,
   ⟨onTeth (fun x => { x with seen := true, lost := true }) live, by decide +kernel⟩,
   ⟨onEv (fun x => { x with causes := [7] }) live, by decide +kernel⟩,
   ⟨live, by decide +kernel⟩,
   ⟨onTeth (fun x => { x with seen := true }) live, by decide +kernel⟩,
   ⟨onTeth (fun x => { x with trained := true, hand := .copyDue }) live, by decide +kernel⟩,
   ⟨standby live, by decide +kernel⟩,
   ⟨live, by decide +kernel⟩,
   ⟨live, by decide +kernel⟩,
   ⟨onTeth (fun x => { x with trained := true }) (standby live), { bulk 0 with crc := 0 }, by decide +kernel⟩,
   ⟨onTeth (fun x => { x with trained := true }) (standby live), bulk 0, by decide +kernel⟩,
   ⟨onTeth (fun x => { x with trained := true }) (standby live), bulk 0x1000, by decide +kernel⟩,
   ⟨onTeth (fun x => { x with trained := true }) (standby live), bulk 0x801, shaped (by decide +kernel), by decide +kernel⟩,
   ⟨onTeth (fun x => { x with trained := true }) (standby live), bulk 0x800, shaped (by decide +kernel), by decide +kernel⟩,
   ⟨onTeth (fun x => { x with trained := true, rxGood := true, rxSeq := 7, rxNext := 1 }) (standby live), bulk 0x7001800,
     shaped (by decide +kernel), by decide +kernel⟩⟩

end Sys2Proof.Tests
end

