-- ==== Sys2Proof/Tests/WitnessLaws.lean ====
section
/-!
SUPPORT. The same for the statements about the whole block.
-/

namespace Sys2Proof.Tests

open Sys2Proof Sys2Proof.Machine

set_option Elab.async false

/-- `Obligations.StepRunsFront`: an empty queue, with time passing, with ports TRAINED, with power off and with the root clock bad;
and a queue. -/
theorem witness_StepRunsFront :
    (∃ (c : Instr) (s : State) (rest : List Instr), (s.withPending (c :: rest)).pending = [.getVersion, .svnRaise]) ∧
    (∃ (s : State), s.pending = [] ∧ s.rc.power ≠ .off ∧ s.rc.badClk.contains 0 = false ∧ s.rc.on 4 = true) ∧
    (∃ (s : State), s.pending = [] ∧ s.rc.power ≠ .off ∧ s.rc.badClk.contains 0 = false ∧ s.rc.on 4 = false) ∧
    (∃ (s : State), s.pending = [] ∧ s.ports.any (fun P => P.state == .trained) = true) ∧
    (∃ (s : State), s.pending = [] ∧ s.rc.power = .off) ∧
    (∃ (s : State), s.pending = [] ∧ s.rc.badClk.contains 0 = true) :=
  ⟨⟨.getVersion, live, [.svnRaise], by decide +kernel⟩, ⟨live, by decide +kernel⟩,
    ⟨onRc (fun x => { x with off := [4] }) live, by decide +kernel⟩, ⟨bus, by decide +kernel⟩,
    ⟨onRc (fun x => { x with power := .off }) live, by decide +kernel⟩,
    ⟨onRc (fun x => { x with badClk := [0] }) live, by decide +kernel⟩⟩

/-- `Obligations.RoundSatRoundsHalfToEven`: ties to each side, and the two ends. -/
theorem witness_RoundSatRoundsHalfToEven :
    (∃ a q : Int, -(2 ^ 63) ≤ a ∧ a < 2 ^ 63 ∧ 2 * (a - q * 2 ^ 16).natAbs = 2 ^ 16 ∧ q % 2 = 0 ∧ -(2 ^ 31) ≤ q ∧ q < 2 ^ 31) ∧
    (∃ a q : Int, -(2 ^ 63) ≤ a ∧ a < 2 ^ 63 ∧ 2 * (a - q * 2 ^ 16).natAbs ≤ 2 ^ 16 ∧ 2 ^ 31 ≤ q) ∧
    (∃ a q : Int, -(2 ^ 63) ≤ a ∧ a < 2 ^ 63 ∧ 2 * (a - q * 2 ^ 16).natAbs ≤ 2 ^ 16 ∧ q < -(2 ^ 31)) :=
  ⟨⟨-(3 * 2 ^ 15), -2, by decide⟩, ⟨2 ^ 47, 2 ^ 31, by decide⟩, ⟨-(2 ^ 47) - 2 ^ 16, -(2 ^ 31) - 1, by decide⟩⟩

/-- `Obligations.EntriesSpellCommands`: the codes in the first parameter byte. -/
theorem witness_EntriesSpellCommands :
    (∃ b : Bytes, u b 8 1 = 0 ∧ bitAt (u b 8 1) 0 = false) ∧ (∃ b : Bytes, u b 8 1 = 1 ∧ bitAt (u b 8 1) 0 = true) ∧
    (∃ b : Bytes, u b 8 1 = 2 ∧ u b 8 1 ≠ 3) ∧ (∃ b : Bytes, u b 8 1 = 3) :=
  ⟨⟨lay 64 [], by decide⟩, ⟨lay 64 [(8, [1])], by decide⟩, ⟨lay 64 [(8, [2])], by decide⟩, ⟨lay 64 [(8, [3])], by decide⟩⟩

/-- `Obligations.StepKeepsWellShaped`: a step with a command and one without. -/
theorem witness_StepKeepsWellShaped :
    (∃ s t : State, WellShaped s ∧ step s = .next t ∧ s.pending = []) ∧
    (∃ s t : State, WellShaped s ∧ step s = .next t ∧ s.pending = [.svnRaise]) :=
  ⟨⟨bus, _, shaped (by decide +kernel), rfl, by decide +kernel⟩,
    ⟨bus.withPending [.svnRaise], _, shaped (by decide +kernel), rfl, by decide +kernel⟩⟩

/-- `Obligations.HostMemoryByWrites`: a step from a state whose memory is in canonical form, and an address outside its writes. -/
theorem witness_HostMemoryByWrites : ∃ (s t : State) (a : Nat), step s = .next t ∧ Mem.wf 0 s.hostMem = true ∧
    ∀ b d, Output.hostWrite b d ∈ ([] : List Output) → a < b ∨ b + d.length ≤ a :=
  ⟨fenced, _, 0, rfl, by decide +kernel, fun _ _ h => nomatch h⟩

/-- `Obligations.CommandFrames`: a command that at most ends Quiet, from Quiet. -/
theorem witness_CommandFrames : ∃ (c : Instr) (s t : State), onlyWakes c = true ∧ exec c s = .next t ∧ s.rc.power = .quiet :=
  ⟨.loopOpen hd 127, onRc (fun x => { x with power := .quiet }) live, _, by decide, rfl, by decide +kernel⟩

/-- `Obligations.ItemFrames`: another slot, port, group and queue than the command's, and a slot no block names. -/
theorem witness_ItemFrames :
    (∃ (c : Instr) (k j : Nat) (s t : State), c = .loopClose hd k 0 0 ∧ exec c s = .next t ∧ j ≠ k) ∧
    (∃ (h : CmdHdr) (buf : Buf) (n j : Nat) (s t : State), exec (.loopLoad h buf n) s = .next t ∧
      j ∉ blockSlots (blocksOf (s.bufRead buf 0 (576 * n)) n)) ∧
    (∃ (c : Instr) (p q : Nat) (s t : State), c = .portRetrain p ∧ exec c s = .next t ∧ q ≠ p) ∧
    (∃ (c : Instr) (g j : Nat) (s t : State), c = .quenchTimeout g ∧ exec c s = .next t ∧ j ≠ g) ∧
    (∃ (c : Instr) (q j : Nat) (s t : State), c = .cqStall q ∧ exec c s = .next t ∧ j ≠ q) :=
  ⟨⟨_, 127, 126, bus, _, rfl, rfl, by decide⟩, ⟨hd, bf 576, 1, 127, bus, _, rfl, by decide +kernel⟩, ⟨_, 79, 78, bus, _, rfl, rfl, by decide⟩,
    ⟨_, 15, 14, inState .quenching bus, _, rfl, rfl, by decide⟩, ⟨_, 1, 0, live, _, rfl, rfl, by decide⟩⟩

/-- `Obligations.CompletionWritesInOrder`: MSI-X off, on, and on with the vector masked; a buffer in host memory and one in the host DMA
region; a standby. -/
def vector (ctl : Reg) (s : State) : State :=
  onHq (fun x => { x with msixEnable := true, msix := x.msix.set 1 { addrLo := 0xFEE00000, addrHi := 0, data := 33, ctl := ctl } })
    (withQueue 1 (fun x => { x with vec := 1 }) s)
theorem witness_CompletionWritesInOrder :
    (∃ (h : CmdHdr) (buf : Buf) (s : State), Accepted s h ∧ WellShaped s ∧ bufOk buf 128 = true ∧ h.queue < 4 ∧
      (∀ f ∈ s.hq.inflight, ∀ k, f.wait ≠ .queueDelete k) ∧ (nth s.hq.queues h.queue {}).present = true ∧
      (nth s.hq.queues h.queue {}).faulted = false ∧ (nth s.hq.queues h.queue {}).cqN ≠ 0 ∧ s.hq.msixEnable = false ∧
      bufInDma buf = true ∧ s.standbyFlag = true) ∧
    (∃ (h : CmdHdr) (buf : Buf) (s : State), Accepted s h ∧ WellShaped s ∧ bufOk buf 128 = true ∧ h.queue < 4 ∧
      (∀ f ∈ s.hq.inflight, ∀ k, f.wait ≠ .queueDelete k) ∧ (nth s.hq.queues h.queue {}).present = true ∧
      (nth s.hq.queues h.queue {}).faulted = false ∧ (nth s.hq.queues h.queue {}).cqN ≠ 0 ∧ s.hq.msixEnable = true ∧
      (nth s.hq.queues h.queue {}).coalCnt = 0 ∧ bitAt (nth s.hq.msix (nth s.hq.queues h.queue {}).vec {}).ctl.toNat 0 = true) ∧
    (∃ (h : CmdHdr) (buf : Buf) (s : State), Accepted s h ∧ WellShaped s ∧ bufOk buf 128 = true ∧ h.queue < 4 ∧
      (∀ f ∈ s.hq.inflight, ∀ k, f.wait ≠ .queueDelete k) ∧ (nth s.hq.queues h.queue {}).present = true ∧
      (nth s.hq.queues h.queue {}).faulted = false ∧ (nth s.hq.queues h.queue {}).cqN ≠ 0 ∧ s.hq.msixEnable = true ∧
      (nth s.hq.queues h.queue {}).coalCnt = 0 ∧ bitAt (nth s.hq.msix (nth s.hq.queues h.queue {}).vec {}).ctl.toNat 0 = false) :=
  ⟨⟨hd, dma 128, standby live, acc (by decide +kernel), shaped (by decide +kernel), by decide, by decide, (fun _ h => nomatch h),
      by decide +kernel⟩,
    ⟨hd, bf 128, vector 1 live, acc (by decide +kernel), shaped (by decide +kernel), by decide, by decide, (fun _ h => nomatch h),
      by decide +kernel⟩,
    ⟨hd, bf 128, vector 0 live, acc (by decide +kernel), shaped (by decide +kernel), by decide, by decide, (fun _ h => nomatch h),
      by decide +kernel⟩⟩

/-- `Obligations.RefusedCommandsLeaveState`, clause by clause. -/
theorem witness_RefusedCommandsLeaveState :
    (∃ (c : Instr) (h : CmdHdr) (s : State), hdrOf c = some h ∧ h.checkOnly = true ∧ s.rc.power ≠ .quiet) ∧
    (∃ (c : Instr) (h : CmdHdr) (s : State), hdrOf c = some h ∧ activeOnly c = true ∧ s.rc.power ≠ .quiet ∧ s.role = .standby) ∧
    (∃ (c : Instr) (h : CmdHdr) (s : State), hdrOf c = some h ∧ activeOnly c = true ∧ s.rc.power ≠ .quiet ∧ s.role = .offline) ∧
    (∃ (c : Instr) (h : CmdHdr) (s : State), hdrOf c = some h ∧ activeOnly c = true ∧ s.rc.power ≠ .quiet ∧ s.role = .starting) ∧
    (∃ (c : Instr) (h : CmdHdr) (s : State), hdrOf c = some h ∧ waitsForRun c = true ∧ s.rc.run = false ∧ s.rc.power ≠ .quiet) ∧
    (∃ (k : Nat) (s : State), s.rc.run = false ∧ k < s.part.slots) ∧
    (∃ (mask : Nat) (s : State), s.rc.run = false ∧ mask ≠ 0 ∧ mask < 2 ^ s.part.pipes) :=
  ⟨⟨.loopOpen { hd with checkOnly := true } 127, _, live, rfl, by decide +kernel⟩,
    ⟨.busVset hd 0 0, _, standby live, rfl, by decide +kernel⟩,
    ⟨.busVset hd 0 0, _, { live with role := .offline }, rfl, by decide +kernel⟩,
    ⟨.busVset hd 0 0, _, { live with role := .starting }, rfl, by decide +kernel⟩,
    ⟨.loopOpen hd 127, _, onRc (fun x => { x with start := .warm }) live, rfl, by decide +kernel⟩,
    ⟨127, onRc (fun x => { x with start := .cold }) live, by decide +kernel⟩,
    ⟨15, onRc (fun x => { x with start := .cold }) live, by decide +kernel⟩⟩

/-- `Obligations.EpochsCompareInSerial`: epochs across the wrap, and half the circle apart. -/
theorem witness_EpochsCompareInSerial :
    (∃ a b : Nat, a < 65536 ∧ b < 65536 ∧ a < b ∧ a ≠ 0 ∧ b ≠ 0 ∧ newer a b = true) ∧
    (∃ a b : Nat, a < 65536 ∧ b < 65536 ∧ ((a : Int) - b) % 65536 = 32768 ∧ newer a b = false) :=
  ⟨⟨1, 65535, by decide⟩, ⟨0x8001, 1, by decide⟩⟩

/-- `Obligations.IntegratorAndTaperReadsLatch`: the last slot. -/
theorem witness_IntegratorAndTaperReadsLatch :
    (∃ (k : Nat) (s : State), WellShaped s ∧ s.bar0 = true ∧ s.rc.recovery = false ∧ k < s.part.slots ∧ k = 127) ∧
    (∃ (k : Nat) (s : State), WellShaped s ∧ s.bar0 = false ∧ s.rc.recovery = false ∧ k < s.part.slots) :=
  ⟨⟨127, bus, shaped (by decide +kernel), by decide +kernel⟩,
    ⟨127, onRc (fun x => { x with off := [12] }) bus, shaped (by decide +kernel), by decide +kernel⟩⟩

/-- `Obligations.KeptBitsStaySet`: the ends of each range. -/
theorem witness_KeptBitsStaySet :
    (∃ (s : State) (k p : Nat), WellShaped s ∧ s.bar0 = true ∧ s.rc.recovery = false ∧ k < s.part.slots ∧ k = 127 ∧ p < 80 ∧ p = 79) ∧
    (∃ (s : State) (g w p : Nat), WellShaped s ∧ s.bar0 = true ∧ s.rc.recovery = false ∧ g < 16 ∧ w < 3 ∧ p < 80 ∧
      (s.port p).isCell = true ∧ (s.port p).group = g ∧ p / 32 = w) :=
  ⟨⟨bus, 127, 79, shaped (by decide +kernel), by decide +kernel⟩, ⟨bus, 15, 2, 79, shaped (by decide +kernel), by decide +kernel⟩⟩

end Sys2Proof.Tests
end

