-- ==== Sys2Proof/Tests/WitnessPages.lean ====
section
/-!
SUPPORT. Operands that meet the clauses about authorisations, calibration pages, images, stores and recovery: an image, a page
and a store that pass every check.
-/

namespace Sys2Proof.Tests

open Sys2Proof Sys2Proof.Machine

set_option Elab.async false

theorem dma_read (s : State) (b : Bytes) (n : Nat) (h : b.length = n) : (withDma b s).bufRead (dma n) 0 n = b := by
  subst h
  have i : bufInDma (dma b.length) = true := show bitAt 1 0 = true by decide
  have z : bufBase (dma b.length) = 0 := show 1 % 2 ^ 64 / 8 * 8 = 0 by decide
  unfold State.bufRead
  rw [if_pos i, z]
  exact Mem.readN_writeN 0 [] 0 b rfl

theorem dma_auth (b a : Bytes) (s : State) : (withDma b s).authOk a = s.authOk a := rfl
theorem dma_run (b : Bytes) (h : CmdHdr) (s : State) (a : AcceptedRun s h) : AcceptedRun (withDma b s) h := ⟨⟨a.1.1, a.1.2, a.1.3⟩, a.2⟩

/-- A module that runs an image of its owner and has recorded one event. -/
def owned : State := onEv (fun x => { x with nextSeq := 1 }) fused

/-- `Obligations.LogAndCalibrationCommandsComplete`: LOG_CLEAR. -/
theorem witness_log_clear : ∃ (h : CmdHdr) (buf : Buf) (s : State), AcceptedRun s h ∧ buf.len = 512 ∧ bufOk buf 512 = true ∧
    s.se.ownerHash.isSome = true ∧ authFault (s.bufRead buf 0 512) = none ∧ s.authOk (s.bufRead buf 0 512) = true ∧
    s.ev.clearing = false := by
  refine ⟨hd, dma 512, withDma authorisation owned, dma_run _ _ _ (run (by decide +kernel)), rfl, by decide +kernel, by
    decide +kernel, ?_, ?_, by decide +kernel⟩
  · rw [dma_read _ _ _ (by decide +kernel)]
    exact auth_form
  · rw [dma_read _ _ _ (by decide +kernel), dma_auth]
    exact auth_good

/-- The same: CAL_WRITE. -/
theorem witness_cal_write : ∃ (h : CmdHdr) (buf : Buf) (s : State), AcceptedRun s h ∧ buf.len = 65536 ∧
    bufOk buf 65536 = true ∧ calFault (s.bufRead buf 0 65536) = none ∧ s.cal.writing = none := by
  refine ⟨hd, dma 65536, withDma page live, dma_run _ _ _ (run (by decide +kernel)), rfl, by decide +kernel, ?_, rfl⟩
  rw [dma_read _ _ _ page_length]
  exact page_good

/-- `Obligations.ImageCommandsComplete`: a verification that succeeds, and IMAGE_COMMIT. -/
def staging (b : Bytes) (s : State) : State := onSe (fun x => { x with staging := [(some hd, b)] }) s
def staged (b : Bytes) (s : State) : State := onSe (fun x => { x with staged := some b }) s
theorem staging_list (b : Bytes) (s : State) : (staging b s).se.staging = [(some hd, b)] := rfl
theorem staging_fault (b c : Bytes) (s : State) : (staging b s).se.imageFault c = s.se.imageFault c := rfl
theorem staged_image (b : Bytes) (s : State) : (staged b s).se.staged = some b := rfl
theorem staged_fault (b c : Bytes) (s : State) : (staged b s).se.imageFault c = s.se.imageFault c := rfl
theorem staged_run (b : Bytes) (h : CmdHdr) (s : State) (a : AcceptedRun s h) (c : s.se.staging = [] ∧ s.se.commit = none) :
    AcceptedRun (staged b s) h ∧ (staged b s).se.staging = [] ∧ (staged b s).se.commit = none := ⟨⟨⟨a.1.1, a.1.2, a.1.3⟩, a.2⟩, c⟩

theorem witness_image_stage : ∃ (h : CmdHdr) (b : Bytes) (r : List (Option CmdHdr × Bytes)) (s : State),
    s.se.staging = (some h, b) :: r ∧ s.se.imageFault b = none :=
  ⟨hd, image, [], staging image fused, staging_list image fused, (staging_fault image image fused).trans image_good⟩

theorem witness_image_commit : ∃ (h : CmdHdr) (a : Nat) (b : Bytes) (s : State), AcceptedRun s h ∧ a ≤ 1 ∧
    s.se.staged = some b ∧ s.se.staging = [] ∧ s.se.commit = none ∧ s.se.imageFault b = none :=
  have k := staged_run image hd fused (run (by decide +kernel)) (by decide +kernel)
  ⟨hd, 1, image, staged image fused, k.1, by decide, staged_image image fused, k.2.1, k.2.2,
    (staged_fault image image fused).trans image_good⟩

/-- `Obligations.RecoveryComplete`: a recovery image that verifies. -/
def recovering (n : Nat) (s : State) : State :=
  onSe (fun x => { x with rcvState := 1, rcvLen := n }) (onRc (fun x => { x with start := .recovery }) s)
theorem recovering_read (b : Bytes) (n : Nat) (s : State) (h : b.length = n) (g : s.se.imageFault b = none) :
    (withDma b (recovering n s)).rc.recovery = true ∧ (withDma b (recovering n s)).se.rcvState = 1 ∧
    (withDma b (recovering n s)).se.imageFault (Mem.readN 0 (withDma b (recovering n s)).hdma 0
      (withDma b (recovering n s)).se.rcvLen) = none := by
  subst h
  refine ⟨rfl, rfl, ?_⟩
  show s.se.imageFault (Mem.readN 0 (Mem.writeN 0 [] 0 b) 0 b.length) = none
  rw [Mem.readN_writeN 0 [] 0 b rfl]
  exact g

theorem witness_recovery : ∃ (s : State), s.rc.recovery = true ∧ s.se.rcvState = 1 ∧
    s.se.imageFault (Mem.readN 0 s.hdma 0 s.se.rcvLen) = none :=
  ⟨withDma image (recovering 4100 fused), recovering_read image 4100 fused image_length image_good⟩

/-- `Obligations.StartStepsComplete`: cold and warm step 4 with an image in flash, cold step 5 with a store and a page. -/
theorem witness_start_image : ∃ (s : State), s.rc.due .cold 4 = true ∧ s.rc.threeFailed = false ∧ s.se.flashFault = none :=
  ⟨onSe (flash image) (onRc (fun x => { x with start := .cold, startStep := 4 }) fused), by decide +kernel, by decide +kernel,
    (flash_good)⟩

theorem witness_warm_image :
    (∃ (s : State), s.rc.due .warm 4 = true ∧ s.rc.imageChanged = true ∧ s.se.flashFault = none) ∧
    (∃ (s : State), s.rc.due .warm 4 = true ∧ s.rc.imageChanged = true ∧ s.se.flashFault.isSome = true) :=
  ⟨⟨onSe (flash image) (onRc (fun x => { x with start := .warm, startStep := 4, imageChanged := true }) fused), by decide +kernel,
      by decide +kernel, flash_good⟩,
    ⟨onRc (fun x => { x with start := .warm, startStep := 4, imageChanged := true }) live, by decide +kernel, by decide +kernel,
      erased_fault _ rfl⟩⟩

/-- A cold start at step 5 with bytes in the store and in the calibration flash. -/
def loading (b c : Bytes) (s : State) : State :=
  onCal (fun x => { x with flash := Mem.writeN 0xFF [] 0 c })
    (onRc (fun x => { x with start := .cold, startStep := 5 }) (onSe (stored b) s))
theorem loading_page (b c : Bytes) (s : State) : (loading b c s).cal.page = Mem.readN 0xFF (Mem.writeN 0xFF [] 0 c) 0 65536 := rfl
theorem loading_store (b c : Bytes) (s : State) : (loading b c s).part.storeCheck (loading b c s).rc.retiredBk
    (loading b c s).se.storeBytes = s.part.storeCheck s.rc.retiredBk (stored b s.se).storeBytes := rfl

theorem witness_start_store : ∃ (s : State), s.rc.due .cold 5 = true ∧ calFault s.cal.page = none ∧
    s.part.storeCheck s.rc.retiredBk s.se.storeBytes = .inr (secs, cmap) := by
  refine ⟨loading store page (onRc (fun x => { x with start := .cold, startStep := 5 }) live), by decide +kernel, ?_, ?_⟩
  · rw [loading_page, page_read]
    exact page_good
  · rw [loading_store, stored_bytes]
    exact store_good

end Sys2Proof.Tests
end

