-- ==== Sys2Proof/Tests/WitnessUnits.lean ====
section
/-!
SUPPORT. The same for the statements about capture, housekeeping, power, start, recovery, pins and attestation.
-/

namespace Sys2Proof.Tests

open Sys2Proof Sys2Proof.Machine

set_option Elab.async false

/-- States and operands that meet the hypotheses of `Obligations.CaptureAndFlushComplete`, clause by clause. -/
theorem witness_CaptureAndFlushComplete :
    (∃ (s : State), s.cr.sampledF = some s.le.frame) ∧
    (∃ (s : State), s.cr.sampledF ≠ some s.le.frame ∧ s.cr.state = .idle) ∧
    (∃ (s : State) (c : CrChan) (v : Int), s.cr.sampledF ≠ some s.le.frame ∧ s.cr.state = .armed ∧ s.cr.chans = [c] ∧ c.ctype
      = 2 ∧ c.due s.cr.f0 s.le.frame = true ∧ c.left = none ∧ c.len ≠ 0 ∧ s.cr.trig.sources = 0 ∧ v = clampI (-32767) 32767
      (roundHalfEven (s.slot c.index).out c.shift)) ∧
    (∃ (s : State), s.cr.sampledF ≠ some s.le.frame ∧ s.cr.state = .armed ∧ s.gv.sense = true ∧ bitAt s.cr.trig.sources 2 =
      true) ∧
    (∃ (s : State), s.cr.state = .triggered ∧ s.cr.stopped = true) ∧
    (∃ (s : State), (s.cr.state ≠ .triggered ∨ s.cr.stopped = false)) ∧
    (∃ (s : State), (s.cr.state ≠ .triggered ∨ s.cr.stopped = false)) ∧
    (∃ (s : State), s.ev.flushDue = true ∧ s.ev.flushing = false ∧ s.ev.clearing = false) ∧
    (∃ (s : State), (s.ev.flushDue = false ∨ s.ev.flushing = true ∨ s.ev.clearing = true)) ∧
    (∃ (s : State), (s.ev.flushDue = false ∨ s.ev.flushing = true ∨ s.ev.clearing = true)) ∧
    (∃ (s : State), s.ev.flushing = true ∧ s.ev.clearing = false ∧ s.ev.clearedRec = none ∧ s.ev.logFull = false ∧
      s.ev.dropped < 2 ^ 32 ∧ s.ev.log.length + s.ev.flushList.length < 262143 ∧ (s.ev.flushList = [record] ∧ ∃ f ∈
      s.hq.inflight, f.wait = .logRead (bf 64) 0 1 1)) ∧
    (∃ (s : State), (s.ev.flushing = false ∨ s.ev.clearing = true)) ∧
    (∃ (s : State), (s.ev.flushing = false ∨ s.ev.clearing = true)) ∧
    (∃ (s : State), s.ev.clearing = true ∧ (∃ f ∈ s.hq.inflight, f.wait = .logClear)) ∧
    (∃ (s : State), s.ev.clearing = false) :=
  ⟨⟨onCr (fun x => { x with sampledF := some 0 }) live, by decide +kernel⟩,
   ⟨live, by decide +kernel⟩,
   ⟨onCr (fun x => { x with state := .armed, chans := [chan] }) (onLe (fun x =>
     { x with slots := live.le.slots.set 127 { out := -40000 } }) live), chan, -32767, by decide +kernel⟩,
   ⟨onCr (fun x => { x with state := .armed, trig := { sources := 4 } }) (onGv (fun x => { x with sense := true }) live),
     by decide +kernel⟩,
   ⟨onCr (fun x => { x with state := .triggered, chans := [{ chan with left := some 0 }] }) live, by decide +kernel⟩,
   ⟨live, by decide +kernel⟩,
   ⟨onCr (fun x => { x with state := .triggered, chans := [{ chan with left := some 1 }] }) live, by decide +kernel⟩,
   ⟨onEv (fun x => { x with flushDue := true }) live, by decide +kernel⟩,
   ⟨live, by decide +kernel⟩,
   ⟨onEv (fun x => { x with flushDue := true, flushing := true }) live, by decide +kernel⟩,
   ⟨onEv (fun x => { x with flushing := true, ring := [record], unflushed := 1, flushCount := 1, flushNo := 1 }) (flying [fly
     hd 0x0901 (.logRead (bf 64) 0 1 1)] live), by decide +kernel⟩,
   ⟨live, by decide +kernel⟩,
   ⟨onEv (fun x => { x with flushing := true, clearing := true }) live, by decide +kernel⟩,
   ⟨onEv (fun x => { x with clearing := true }) (flying [fly hd 0x0902 .logClear] live), by decide +kernel⟩,
   ⟨live, by decide +kernel⟩⟩

/-- States and operands that meet the hypotheses of `Obligations.HousekeepingCompletes`, clause by clause. -/
theorem witness_HousekeepingCompletes :
    (∃ s : State, s.rc.power = .run ∨ s.rc.power = .quiet) ∧
    (∃ s : State, s.rc.power = .aux ∨ s.rc.power = .off) ∧
    (∃ s : State, 2 ∈ s.ev.causes) ∧
    (∃ s : State, 256 < s.ev.dramCe ∧ 1 ∈ s.ev.causes) ∧
    (∃ s : State, s.ev.dramCe ≤ 256) ∧
    (∃ (s : State) (k m : Nat), m < 20 ∧ k ∉ s.ev.marginLow ∧ (k = 0 ∧ 4 ∈ s.ev.causes)) ∧
    (∃ m : Nat, 20 ≤ m) :=
  ⟨⟨live, by decide +kernel⟩,
   ⟨onRc (fun x => { x with power := .off }) live, by decide +kernel⟩,
   ⟨onEv (fun x => { x with causes := [2] }) live, by decide +kernel⟩,
   ⟨onEv (fun x => { x with causes := [1], dramCe := 257 }) live, by decide +kernel⟩,
   ⟨onEv (fun x => { x with dramCe := 256 }) live, by decide +kernel⟩,
   ⟨onEv (fun x => { x with causes := [4] }) live, 0, 19, by decide +kernel⟩,
   ⟨20, by decide⟩⟩

/-- States and operands that meet the hypotheses of `Obligations.PowerOnAndResetPinComplete`, clause by clause. -/
theorem witness_PowerOnAndResetPinComplete :
    (∃ (s : State), (s.rc.power = .aux ∨ s.rc.power = .off) ∧ s.rc.valid = false ∧ s.pins.railOpen = false) ∧
    (∃ (s : State), (s.rc.power = .aux ∨ s.rc.power = .off) ∧ s.rc.valid = false ∧ s.pins.railOpen = false) ∧
    (∃ (low : Nat) (s : State), s.pins.resetLow = false ∧ low < 200) ∧
    (∃ (low : Nat) (s : State), s.pins.resetLow = false ∧ 1000 ≤ low ∧ (s.rc.power = .run ∨ s.rc.power = .quiet) ∧
      s.rc.absorbs 1 0 = false) ∧
    (∃ (low : Nat) (s : State), s.pins.resetLow = false ∧ 1000 ≤ low ∧ (s.rc.power = .run ∨ s.rc.power = .quiet) ∧
      s.rc.absorbs 1 0 = false) ∧
    (∃ (low : Nat) (s : State), s.pins.resetLow = false ∧ 200 ≤ low ∧ low < 1000 ∧ (s.rc.power = .run ∨ s.rc.power = .quiet)
      ∧ s.rc.absorbs 1 0 = false) ∧
    (∃ (low : Nat) (s : State), s.pins.resetLow = false ∧ 200 ≤ low ∧ low < 1000 ∧ (s.rc.power = .run ∨ s.rc.power = .quiet)
      ∧ s.rc.absorbs 1 0 = false) ∧
    (∃ (s : State), s.pins.resetLow = true ∧ (s.rc.release.isSome = true)) :=
  ⟨⟨onRc (fun x => { x with power := .off, release := none }) live, by decide +kernel⟩,
   ⟨onRc (fun x => { x with power := .aux }) live, by decide +kernel⟩,
   ⟨199, live, by decide +kernel⟩,
   ⟨1000, onRc (fun x => { x with release := some warmRel }) live, by decide +kernel⟩,
   ⟨1000, flying [fly hd 0x0401 (.groupEnable 3)] live, by decide +kernel⟩,
   ⟨200, live, by decide +kernel⟩,
   ⟨999, onRc (fun x => { x with power := .quiet }) live, by decide +kernel⟩,
   ⟨onPins (fun x => { x with resetLow := true }) (onRc (fun x =>
     { x with release := some { coldRel with asserted := true } }) live), by decide +kernel⟩⟩

/-- States and operands that meet the hypotheses of `Obligations.SuppliesComplete`, clause by clause. -/
theorem witness_SuppliesComplete :
    (∃ (s : State), s.pins.pfWarn = false) ∧
    (∃ (s : State), (s.rc.power = .run ∨ s.rc.power = .quiet) ∧ (s.hq.ledger.length + s.hq.flights.length ≤ 512 ∧
      s.hq.flights ≠ [])) ∧
    (∃ (s : State), (s.rc.power = .run ∨ s.rc.power = .quiet)) ∧
    (∃ (s : State), s.pins.railOpen = false ∧ (s.rc.power = .aux ∨ s.rc.power = .off) ∧ s.rc.valid = true) ∧
    (∃ (s : State), s.pins.railOpen = false ∧ (s.rc.power = .aux ∨ s.rc.power = .off) ∧ s.rc.valid = true) ∧
    (∃ (s : State), (s.rc.power = .run ∨ s.rc.power = .quiet)) ∧
    (∃ (s : State), s.pins.railOpen = true ∧ s.rc.power = .aux ∧ s.rc.valid = true) :=
  ⟨⟨live, by decide +kernel⟩,
   ⟨flying [fly hd 0x0401 (.groupEnable 3)] live, by decide +kernel⟩,
   ⟨onRc (fun x => { x with power := .quiet }) live, by decide +kernel⟩,
   ⟨onRc (fun x => { x with power := .aux, valid := true }) live, by decide +kernel⟩,
   ⟨onRc (fun x => { x with power := .off, valid := true }) live, by decide +kernel⟩,
   ⟨live, by decide +kernel⟩,
   ⟨onPins (fun x => { x with railOpen := true }) (onRc (fun x => { x with power := .aux, valid := true }) live),
     by decide +kernel⟩⟩

/-- States and operands that meet the hypotheses of `Obligations.ReleasesComplete`, clause by clause. -/
theorem witness_ReleasesComplete :
    (∃ (x : Release) (s : State), s.rc.release = some x ∧ x.asserted = false ∧ x.stopped = false) ∧
    (∃ (x : Release) (s : State), s.rc.release = some x ∧ x.asserted = false ∧ x.stopped = false) ∧
    (∃ (s : State), s.rc.blockActive = true ∧ s.rc.blockStopped = false ∧ (∃ f ∈ s.hq.inflight, f.wait = .blockReset
      s.rc.blockCode)) ∧
    (∃ (x : Release) (s : State), s.rc.release = some x ∧ x.stopped = true ∧ x.tries < 3) ∧
    (∃ (x : Release) (s : State), s.rc.release = some x ∧ x.stopped = true ∧ 3 ≤ x.tries) ∧
    (∃ (s : State), s.rc.blockActive = true ∧ s.rc.blockStopped = true ∧ s.rc.blockTries < 3) ∧
    (∃ (s : State), s.rc.blockActive = true ∧ s.rc.blockStopped = true ∧ 3 ≤ s.rc.blockTries) ∧
    (∃ (d : Nat) (s : State), d < s.part.clockDomains ∧ s.rc.on d = true ∧ s.rc.on 1 = true ∧ (d < 18 ∨ (22 ≤ d ∧ d ≤ 29) ∨
      32 ≤ d) ∧ (d = 12 → s.hq.speed ≠ 0) ∧ (d = 14 ∨ d = 15 → s.gn.linkUp = true)) ∧
    (∃ (d : Nat) (s : State), d < s.part.clockDomains ∧ s.rc.on d = true ∧ s.rc.on 1 = true ∧ (d < 18 ∨ (22 ≤ d ∧ d ≤ 29) ∨
      32 ≤ d) ∧ (d = 12 → s.hq.speed ≠ 0) ∧ (d = 14 ∨ d = 15 → s.gn.linkUp = true) ∧ (d = 11 ∧ s.cr.state = .armed)) ∧
    (∃ (d : Nat) (s : State), d < s.part.clockDomains ∧ s.rc.on d = true ∧ s.rc.on 1 = true ∧ (d < 18 ∨ (22 ≤ d ∧ d ≤ 29) ∨
      32 ≤ d) ∧ (d = 12 → s.hq.speed ≠ 0) ∧ (d = 14 ∨ d = 15 → s.gn.linkUp = true)) ∧
    (∃ (d : Nat) (s : State), d < s.part.clockDomains ∧ s.rc.on d = true ∧ s.rc.on 1 = true ∧ (d < 18 ∨ (22 ≤ d ∧ d ≤ 29) ∨
      32 ≤ d) ∧ (d = 12 → s.hq.speed ≠ 0) ∧ (d = 14 ∨ d = 15 → s.gn.linkUp = true)) ∧
    (∃ (d : Nat) (s : State), d < s.part.clockDomains ∧ s.rc.on d = true ∧ s.rc.on 1 = true ∧ (d < 18 ∨ (22 ≤ d ∧ d ≤ 29) ∨
      32 ≤ d) ∧ (d = 12 → s.hq.speed ≠ 0) ∧ (d = 14 ∨ d = 15 → s.gn.linkUp = true)) ∧
    (∃ (d : Nat) (s : State), d < s.part.clockDomains ∧ s.rc.on d = true ∧ s.rc.on 1 = true ∧ (d < 18 ∨ (22 ≤ d ∧ d ≤ 29) ∨
      32 ≤ d) ∧ (d = 12 → s.hq.speed ≠ 0) ∧ (d = 14 ∨ d = 15 → s.gn.linkUp = true)) ∧
    (∃ (s : State), s.rc.on 18 = true ∧ s.rc.on 1 = true ∧ (s.teth.seen = true ∧ s.teth.lost = false)) ∧
    (∃ (d : Nat) (s : State), d < s.part.clockDomains ∧ s.rc.on d = true ∧ s.rc.on 1 = true ∧ (d < 18 ∨ (22 ≤ d ∧ d ≤ 29) ∨
      32 ≤ d) ∧ (d = 12 → s.hq.speed ≠ 0) ∧ (d = 14 ∨ d = 15 → s.gn.linkUp = true) ∧ (d = 16)) :=
  ⟨⟨coldRel, onRc (fun x => { x with release := some coldRel, off := [1, 3] }) live, by decide +kernel⟩,
   ⟨{ coldRel with step := 12 }, onRc (fun x => { x with release := some { coldRel with step := 12 } }) live,
     by decide +kernel⟩,
   ⟨onRc (fun x => { x with blockActive := true, blockCode := 6 }) (flying [fly hd 0x0A02 (.blockReset 6)] live),
     by decide +kernel⟩,
   ⟨{ coldRel with stopped := true, tries := 2 }, onRc (fun x =>
     { x with release := some { coldRel with stopped := true, tries := 2 } }) live, by decide +kernel⟩,
   ⟨{ coldRel with stopped := true, tries := 3 }, onRc (fun x =>
     { x with release := some { coldRel with stopped := true, tries := 3 } }) live, by decide +kernel⟩,
   ⟨onRc (fun x => { x with blockActive := true, blockStopped := true, blockTries := 2 }) live, by decide +kernel⟩,
   ⟨onRc (fun x => { x with blockActive := true, blockStopped := true, blockTries := 3 }) live, by decide +kernel⟩,
   ⟨5, live, by decide +kernel⟩,
   ⟨11, onCr (fun x => { x with state := .armed }) live, by decide +kernel⟩,
   ⟨12, live, by decide +kernel⟩,
   ⟨14, onGn (fun x => { x with mode := 4 }) (onClk (fun x => { x with ptpState := .lock }) live), by decide +kernel⟩,
   ⟨17, onClk (fun x => { x with ptpState := .lock }) live, by decide +kernel⟩,
   ⟨39, live, by decide +kernel⟩,
   ⟨onTeth (fun x => { x with seen := true }) live, by decide +kernel⟩,
   ⟨16, onGn (fun x => { x with mode := 4 }) live, by decide +kernel⟩⟩

/-- States and operands that meet the hypotheses of `Obligations.StartStepsComplete`, clause by clause. -/
theorem witness_StartStepsComplete :
    (∃ (s : State), s.rc.due .cold 1 = true ∧ (s.rc.valid = true)) ∧
    (∃ (s : State), s.rc.due .cold 1 = true ∧ (s.rc.valid = false ∧ s.ev.journal = some ⟨1, 2 ^ 24 - 1, 3, 4, 5⟩)) ∧
    (∃ (s : State), s.rc.due .cold 2 = true) ∧
    (∃ (s : State), s.rc.due .cold 3 = true) ∧
    (∃ (s : State), s.rc.due .cold 4 = true ∧ (s.rc.threeFailed = true)) ∧
    (∃ (s : State), s.rc.due .cold 4 = true ∧ (s.rc.threeFailed = false ∧ s.se.flashFault.isSome = true)) ∧
    (∃ (s : State), s.rc.due .cold 5 = true ∧ ((s.part.storeCheck s.rc.retiredBk s.se.storeBytes).isLeft = true)) ∧
    (∃ (s : State), s.rc.due .cold 6 = true ∧ (s.role = .starting)) ∧
    (∃ (s : State), s.rc.due .cold 6 = true) ∧
    (∃ (s : State), s.rc.due .cold 6 = true) ∧
    (∃ (s : State), s.rc.due .cold 7 = true ∧ WellShaped s ∧ (s.role =
      .standby → bitAt s.teth.partnerReady 0 = true ∨ s.teth.lost = true) ∧ (s.role = .active ∧ (s.port 79).kind = 1 ∧ (s.port 79).state = .down ∧ s.rc.portOn 79 = true)) ∧
    (∃ (s : State), s.rc.due .cold 7 = true ∧ WellShaped s ∧ (s.role =
      .standby → bitAt s.teth.partnerReady 0 = true ∨ s.teth.lost = true) ∧ (s.role = .offline)) ∧
    (∃ (s : State), s.rc.due .cold 7 = true ∧ WellShaped s ∧ (s.role =
      .standby → bitAt s.teth.partnerReady 0 = true ∨ s.teth.lost = true) ∧ (s.role = .standby)) ∧
    (∃ (s : State), s.rc.due .cold 7 = true ∧ WellShaped s ∧ (s.role =
      .standby → bitAt s.teth.partnerReady 0 = true ∨ s.teth.lost = true) ∧ (s.role = .standby)) ∧
    (∃ (s : State), s.rc.due .cold 7 = true ∧ s.role =
      .standby ∧ bitAt s.teth.partnerReady 0 = false ∧ s.teth.lost = false) ∧
    (∃ (s : State), s.rc.due .cold 8 = true) ∧
    (∃ (s : State), s.rc.due .cold 9 = true ∧ (s.sh.storeOk = false)) ∧
    (∃ (s : State) (k : Nat), s.rc.due .cold k = false) ∧
    (∃ (s : State) (k : _), k ≠ 4 ∧ k ≠ 9 ∧ s.rc.due .warm k = true) ∧
    (∃ (s : State), s.rc.due .warm 4 = true ∧ (s.rc.imageChanged = false)) ∧
    (∃ (s : State), s.rc.due .warm 9 = true ∧ (s.checkpoint.isSome = true)) ∧
    (∃ (s : State) (k : Nat), s.rc.due .warm k = false) ∧
    (∃ s : State, s.rc.gov = true) ∧
    (∃ s : State, s.rc.run = true) :=
  ⟨⟨onRc (fun x => { x with start := .cold, startStep := 1, valid := true }) live, by decide +kernel⟩,
   ⟨onEv (fun x => { x with journal := some ⟨1, 2 ^ 24 - 1, 3, 4, 5⟩ }) (onRc (fun x =>
     { x with start := .cold, startStep := 1, release := some coldRel }) live), by decide +kernel⟩,
   ⟨onRc (fun x => { x with start := .cold, startStep := 2 }) live, by decide +kernel⟩,
   ⟨onRc (fun x => { x with start := .cold, startStep := 3 }) live, by decide +kernel⟩,
   ⟨onRc (fun x => { x with start := .cold, startStep := 4, failed := [0, 300000, 600000] }) live, by decide +kernel⟩,
   ⟨onRc (fun x => { x with start := .cold, startStep := 4, failed := [0, 300000, 600001] }) live, by decide +kernel,
     by decide +kernel, erased_fault _ rfl⟩,
   ⟨onRc (fun x => { x with start := .cold, startStep := 5 }) live, by decide +kernel⟩,
   ⟨onRc (fun x => { x with start := .cold, startStep := 6, release := none }) State.reset, by decide +kernel⟩,
   ⟨onRc (fun x => { x with start := .cold, startStep := 6 }) live, by decide +kernel⟩,
   ⟨onRc (fun x => { x with start := .cold, startStep := 6 }) live, by decide +kernel⟩,
   ⟨cell (fun x => { x with state := .down }) (onRc (fun x => { x with start := .cold, startStep := 7 }) bus),
     by decide +kernel, shaped (by decide +kernel), by decide +kernel⟩,
   ⟨{ onRc (fun x => { x with start := .cold, startStep := 7 }) bus with role := .offline }, by decide +kernel, shaped
     (by decide +kernel), by decide +kernel⟩,
   ⟨onTeth (fun x => { x with partnerReady := 1 }) (onRc (fun x => { x with start := .cold, startStep := 7 }) (standby bus)),
     by decide +kernel, shaped (by decide +kernel), by decide +kernel⟩,
   ⟨onTeth (fun x => { x with lost := true }) (onRc (fun x => { x with start := .cold, startStep := 7 }) (standby bus)),
     by decide +kernel, shaped (by decide +kernel), by decide +kernel⟩,
   ⟨onRc (fun x => { x with start := .cold, startStep := 7 }) (standby bus), by decide +kernel⟩,
   ⟨onRc (fun x => { x with start := .cold, startStep := 8 }) live, by decide +kernel⟩,
   ⟨onRc (fun x => { x with start := .cold, startStep := 9 }) live, by decide +kernel⟩,
   ⟨onRc (fun x => { x with start := .cold, startStep := 5 }) live, 4, by decide +kernel⟩,
   ⟨onRc (fun x => { x with start := .warm, startStep := 1 }) live, 1, by decide, by decide, by decide +kernel⟩,
   ⟨onRc (fun x => { x with start := .warm, startStep := 4 }) live, by decide +kernel⟩,
   ⟨onRc (fun x => { x with start := .warm, startStep := 9 }) ({ live with checkpoint := some live.makeCopy }),
     by decide +kernel⟩,
   ⟨live, 9, by decide +kernel⟩,
   ⟨live, by decide +kernel⟩,
   ⟨live, by decide +kernel⟩⟩

/-- States and operands that meet the hypotheses of `Obligations.RecoveryComplete`, clause by clause. -/
theorem witness_RecoveryComplete :
    (∃ (s : State), s.rc.recovery = true ∧ s.se.rcvState ≠ 1 ∧ s.se.rcvState ≠ 2 ∧ 4097 ≤ s.se.rcvLen ∧ s.se.rcvLen ≤ 2 ^ 25)
      ∧
    (∃ (s : State), s.rc.recovery = true ∧ s.se.rcvState ≠ 1 ∧ s.se.rcvState ≠ 2 ∧ 4097 ≤ s.se.rcvLen ∧ s.se.rcvLen ≤ 2 ^ 25)
      ∧
    (∃ (s : State), s.rc.recovery = true ∧ s.se.rcvState ≠ 1 ∧ s.se.rcvState ≠ 2 ∧ (s.se.rcvLen < 4097 ∨ 2 ^ 25 <
      s.se.rcvLen)) ∧
    (∃ (s : State), s.rc.recovery = true ∧ s.se.rcvState ≠ 1 ∧ s.se.rcvState ≠ 2 ∧ (s.se.rcvLen < 4097 ∨ 2 ^ 25 <
      s.se.rcvLen)) ∧
    (∃ (s : State) (k o : _), s.rc.recovery = true ∧ s.se.rcvState = 1 ∧ s.se.imageFault (Mem.readN 0 s.hdma 0 s.se.rcvLen) =
      some (k, o)) ∧
    (∃ (s : State), s.rc.recovery = true ∧ s.se.rcvState = 2) ∧
    (∃ (s : State), s.rc.recovery = true ∧ s.se.rcvState ≠ 1 ∧ s.se.rcvState ≠ 2 ∧ (s.rc.power = .run ∨ s.rc.power = .quiet)
      ∧ s.rc.absorbs 4 0 = false) ∧
    (∃ (s : State), s.rc.recovery = true ∧ (s.se.rcvState = 3 ∨ s.se.rcvState = 4) ∧ (s.rc.power = .run ∨ s.rc.power =
      .quiet) ∧ s.rc.absorbs 4 0 = false) ∧
    (∃ (s : State), s.rc.recovery = true ∧ (s.se.rcvState = 3 ∨ s.se.rcvState = 4) ∧ (s.rc.power = .run ∨ s.rc.power =
      .quiet) ∧ s.rc.absorbs 4 0 = false) :=
  ⟨⟨onSe (fun x => { x with rcvLen := 4097 }) (onRc (fun x => { x with start := .recovery }) live), by decide +kernel⟩,
   ⟨onSe (fun x => { x with rcvLen := 2 ^ 25, rcvState := 4 }) (onRc (fun x => { x with start := .recovery }) live),
     by decide +kernel⟩,
   ⟨onSe (fun x => { x with rcvLen := 4096, rcvState := 3 }) (onRc (fun x => { x with start := .recovery }) live),
     by decide +kernel⟩,
   ⟨onSe (fun x => { x with rcvLen := 2 ^ 25 + 1 }) (onRc (fun x => { x with start := .recovery }) live), by decide +kernel⟩,
   ⟨onSe (fun x => { x with rcvState := 1 }) (onRc (fun x => { x with start := .recovery }) live), 1, 0, by decide +kernel⟩,
   ⟨onSe (fun x => { x with rcvState := 2 }) (onRc (fun x => { x with start := .recovery }) live), by decide +kernel⟩,
   ⟨onSe (fun x => { x with rcvState := 4 }) (onRc (fun x => { x with start := .recovery }) live), by decide +kernel⟩,
   ⟨onSe (fun x => { x with rcvState := 3 }) (onRc (fun x => { x with start := .recovery }) live), by decide +kernel⟩,
   ⟨onSe (fun x => { x with rcvState := 4 }) (onRc (fun x => { x with start := .recovery }) live), by decide +kernel⟩⟩

/-- States and operands that meet the hypotheses of `Obligations.PinsAndQuietComplete`, clause by clause. -/
theorem witness_PinsAndQuietComplete :
    (∃ (s : State), s.rc.power = .run ∧ s.rc.run = true ∧ s.rc.quietEn = true ∧ (∀ G ∈ s.groups, G.gtype = 0 ∨ G.state =
      .off) ∧ (∀ f ∈ s.hq.inflight, quietOp f.op = false)) ∧
    (∃ (s : State), s.rc.on 17 = true) ∧
    (∃ (s : State), s.rc.on 17 = true ∧ (s.clk.ptpState = .lock ∨ s.clk.ptpState = .holdover) ∧ s.pins.ppsOut = false) ∧
    (∃ (s : State), s.rc.on 17 = true ∧ (s.clk.ptpState = .lock ∨ s.clk.ptpState = .holdover) ∧ s.pins.ppsOut = false) ∧
    (∃ (s : State), s.pins.ppsOut = true) ∧
    (∃ (s : State), s.smbusOn = true) ∧
    (∃ (s : State) (c : _), s.smbusOn = true ∧ 6 ≤ c) ∧
    (∃ (s : State), s.smbusOn = true ∧ s.ev.alert = true) :=
  ⟨⟨bus, by decide +kernel⟩,
   ⟨live, by decide +kernel⟩,
   ⟨onClk (fun x => { x with ptpState := .holdover }) live, by decide +kernel⟩,
   ⟨onClk (fun x => { x with ptpState := .lock }) live, by decide +kernel⟩,
   ⟨onPins (fun x => { x with ppsOut := true }) live, by decide +kernel⟩,
   ⟨live, by decide +kernel⟩,
   ⟨live, 6, by decide +kernel⟩,
   ⟨onEv (fun x => { x with alert := true }) live, by decide +kernel⟩⟩

/-- States and operands that meet the hypotheses of `Obligations.AttestationComplete`, clause by clause. -/
theorem witness_AttestationComplete :
    (∃ (s : State), s.spdmOn = true) ∧
    (∃ (off : Nat) (s : State), s.spdmOn = true ∧ off < s.se.chain.length) ∧
    (∃ (slot : Nat) (s : State), s.spdmOn = true ∧ slot ≠ 0) ∧
    (∃ (s : State), s.spdmOn = true) ∧
    (∃ (index : Nat) (s : State), s.spdmOn = true ∧ (index ≤ 5 ∨ index = 0xFF)) ∧
    (∃ (ir : Nat), ir ≠ 0) :=
  ⟨⟨live, by decide +kernel⟩,
   ⟨0, live, by decide +kernel, chain_long⟩,
   ⟨1, live, by decide +kernel⟩,
   ⟨live, by decide +kernel⟩,
   ⟨5, live, by decide +kernel⟩,
   ⟨1, by decide +kernel⟩⟩

end Sys2Proof.Tests
end

section
/-!
R16: the W1C bits of the register maps. One equation of `State.clearBits` per register that holds such bits, then the
statement that a bit set by an event in the same cycle survives the host's write.
-/

namespace Sys2Proof.Machine

open Sys2Proof

/-! ### The mask of a W1C write -/

/-- The mask of a W1C write spares a bit exactly where the host wrote 0 or an event set the bit. -/
theorem not_bitAt_and_not (d kept : Reg) (k : Nat) :
    (!bitAt (d &&& ~~~kept).toNat k) = (!d.toNat.testBit k || kept.toNat.testBit k) := by
  have width : d.getLsbD k = true → k < 32 := fun h => BitVec.lt_of_getLsbD h
  unfold bitAt
  simp only [BitVec.testBit_toNat, BitVec.getLsbD_and, BitVec.getLsbD_not]
  cases hd : d.getLsbD k
  · rfl
  · simp [width hd]

/-- Outside the recovery loader, with the BAR0 window open, a W1C write is one `clearBits`. -/
theorem exec_w1cWrite {s : State} (hb : s.bar0 = true) (hr : s.rc.recovery = false) (a : Nat) (d kept : Reg) :
    exec (.w1cWrite a d kept) s = .next (s.clearBits a (d &&& ~~~kept).toNat) := by
  change execW1cWrite a d kept s = _
  simp [execW1cWrite, hb, hr]

/-- To prove what a W1C write leaves, take any mask that spares just the bits where the host wrote 0 or an event set one. -/
theorem completes_w1cWrite {s : State} (hb : s.bar0 = true) (hr : s.rc.recovery = false) {a : Nat} {d kept : Reg}
    {P : State → Prop}
    (h : ∀ c, (∀ k, (!bitAt c k) = (!d.toNat.testBit k || kept.toNat.testBit k)) → P (s.clearBits a c)) :
    Completes (.w1cWrite a d kept) s P :=
  ⟨_, exec_w1cWrite hb hr a d kept, h _ (not_bitAt_and_not d kept)⟩

/-! ### Registers at a fixed address -/

section
variable (s : State) (c : Nat)

theorem State.clearBits_ptBusStatus : s.clearBits 0x00A1000C c = { s with sh := { s.sh with
    burstReject := s.sh.burstReject && !bitAt c 6, slewReject := s.sh.slewReject && !bitAt c 4
    vsetReject := s.sh.vsetReject && !bitAt c 3, superseded := s.sh.superseded && !bitAt c 2 } } := rfl

theorem State.clearBits_ptProtStatus : s.clearBits 0x00A10100 c = { s with sh := { s.sh with
    protReject := s.sh.protReject && !bitAt c 4, shelfQuench := s.sh.shelfQuench && !bitAt c 1 } } := rfl

theorem State.clearBits_flTethState : s.clearBits 0x00805000 c = s.setTeth (fun t => { t with
    deposed := t.deposed && !bitAt c 3, lostFlag := t.lostFlag && !bitAt c 2 }) := rfl

theorem State.clearBits_plStatus : s.clearBits 0x00C00000 c = s.setPl (fun p => { p with
    seeded := p.seeded && !bitAt c 9, fcDropped := p.fcDropped && !bitAt c 6 }) := rfl

theorem State.clearBits_pfStatus : s.clearBits 0x00D00008 c = s.setPf (fun p => { p with
    parityFlag := p.parityFlag && !bitAt c 8, lostFlag := p.lostFlag && !bitAt c 6 }) := rfl

theorem State.clearBits_gvStatus : s.clearBits 0x01800000 c = s.setGv (fun g => { g with
    conflict := g.conflict && !bitAt c 1 }) := rfl

theorem State.clearBits_crStatus : s.clearBits 0x01D00004 c = s.setCr (fun r => { r with
    preShort := r.preShort && !bitAt c 3 }) := rfl

theorem State.clearBits_evStatus : s.clearBits 0x01E00000 c = s.setEv (fun e => { e with
    ringOverwrite := e.ringOverwrite && !bitAt c 4, restored := e.restored && !bitAt c 1 }) := rfl

theorem State.clearBits_rcClkFault : s.clearBits 0x00100018 c = s.setRc (fun r => { r with
    inRelease := r.inRelease && !bitAt c 6 }) := rfl

theorem State.clearBits_seBootStatus : s.clearBits 0x01F00000 c = s.setSe (fun x => { x with
    svnRaised := x.svnRaised && !bitAt c 5, imageBad := x.imageBad && !bitAt c 4 }) := rfl

theorem State.clearBits_idPins : s.clearBits 0x00000004 c = s.setPins (fun p => { p with
    tripped := p.tripped && !bitAt c 10, ppsSeen := p.ppsSeen && !bitAt c 7 }) := rfl

end

/-! ### Registers of a slot, a port and a group -/

theorem Part.slots_le (p : Part) : p.slots ≤ 128 := by cases p <;> decide

section
variable {s : State} {k p g w : Nat} (c : Nat)

theorem State.clearBits_leSlotStatus (hk : k < s.part.slots) : s.clearBits (0x00400200 + 0x400 * k) c =
    s.setSlot k (fun x => { x with parity := x.parity && !bitAt c 6, sat := x.sat && !bitAt c 5 }) := by
  have small := s.part.slots_le
  have slot : (0x00400200 + 0x400 * k - 0x00400000) / 0x400 = k := by omega
  unfold State.clearBits
  dsimp only
  rw [slot, if_pos (by omega), if_neg (by omega), if_pos (by omega)]

theorem State.clearBits_leSupStatus (hk : k < s.part.slots) : s.clearBits (0x00400320 + 0x400 * k) c =
    s.setSlot k (fun x => { x with openTrip := x.openTrip && !bitAt c 4, feTrip := x.feTrip && !bitAt c 3 }) := by
  have small := s.part.slots_le
  have slot : (0x00400320 + 0x400 * k - 0x00400000) / 0x400 = k := by omega
  unfold State.clearBits
  dsimp only
  rw [slot, if_pos (by omega), if_neg (by omega), if_neg (by omega), if_pos (by omega)]

theorem State.clearBits_flPortLink (hp : p < 80) : s.clearBits (0x00800018 + 0x100 * p) c =
    s.setPort p (fun P => { P with svcTimeout := P.svcTimeout && !bitAt c 2, lostSeen := P.lostSeen && !bitAt c 1 }) := by
  have port : (0x00800018 + 0x100 * p - 0x00800000) / 0x100 = p := by omega
  unfold State.clearBits
  dsimp only
  rw [port, if_neg (by omega), if_neg (by omega), if_neg (by omega), if_neg (by omega), if_pos (by omega)]

theorem State.clearBits_ptImbFlag (hg : g < 16) (hw : w < 3) : s.clearBits (0x00A00020 + 0x1000 * g + 4 * w) c =
    { s with ports := s.ports.mapIdx (fun p (P : Port) =>
      if P.isCell && P.group == g && p / 32 == w then { P with imbFlag := P.imbFlag && !bitAt c (p % 32) } else P) } := by
  have group : (0x00A00020 + 0x1000 * g + 4 * w - 0x00A00000) / 0x1000 = g := by omega
  have word : ((0x00A00020 + 0x1000 * g + 4 * w) % 0x1000 - 0x020) / 4 = w := by omega
  unfold State.clearBits
  dsimp only
  rw [group, word, if_neg (by omega), if_pos (by omega)]

/-- A W1C write clears the imbalance flag of a cell port whose bit lies in the word written. -/
theorem State.imbFlag_clearBits (hg : g < 16) (hw : w < 3) (hp : p < s.ports.length) (cell : (s.port p).isCell = true)
    (group : (s.port p).group = g) (word : p / 32 = w) :
    ((s.clearBits (0x00A00020 + 0x1000 * g + 4 * w) c).port p).imbFlag = ((s.port p).imbFlag && !bitAt c (p % 32)) := by
  have here : s.port p = s.ports[p] := by simp [State.port, nth, hp]
  rw [here] at cell group ⊢
  rw [State.clearBits_ptImbFlag c hg hw]
  simp [State.port, nth, hp, cell, group, word]

end

/-! ### The statement -/

/-- Settles O60: every W1C bit of the register maps stays set where `kept` holds its bit. The write is one `clearBits` with
the mask `d &&& ~~~kept`, and each register's equation says which bits of the mask clear what. -/
theorem keptBitsStaySet : Obligations.KeptBitsStaySet := by
  intro d kept s shape hb hr keeps
  have write {a : Nat} {P : State → Prop} : (∀ c, (∀ k, (!bitAt c k) = keeps k) → P (s.clearBits a c)) →
      Completes (.w1cWrite a d kept) s P := completes_w1cWrite hb hr
  have slotInside {k : Nat} (hk : k < s.part.slots) : k < s.le.slots.length :=
    shape.slots ▸ Nat.lt_of_lt_of_le hk s.part.slots_le
  refine ⟨fun a => ⟨_, exec_w1cWrite hb hr a d kept, ?masked⟩,
    fun k hk => ⟨write fun c spared => ?slotStatus, write fun c spared => ?supStatus⟩,
    fun g w p hg hw hp cell group word => write fun c spared => ?imbFlag, fun p hp => write fun c spared => ?portLink,
    write fun c spared => ?busStatus, write fun c spared => ?protStatus, write fun c spared => ?tethState,
    write fun c spared => ?plStatus, write fun c spared => ?pfStatus, write fun c spared => ?gvStatus,
    write fun c spared => ?crStatus, write fun c spared => ?evStatus, write fun c spared => ?clkFault,
    write fun c spared => ?bootStatus, write fun c spared => ?idPins⟩
  case masked =>
    have whole : d &&& ~~~kept &&& ~~~0 = d &&& ~~~kept := BitVec.and_allOnes
    rw [exec_w1cWrite hb hr, whole]
  case slotStatus => simp [State.clearBits_leSlotStatus c hk, slotInside hk, spared]
  case supStatus => simp [State.clearBits_leSupStatus c hk, slotInside hk, spared]
  case imbFlag => rw [State.imbFlag_clearBits c hg hw (shape.ports ▸ hp) cell group word, spared]
  case portLink => simp [State.clearBits_flPortLink c hp, shape.ports, hp, spared]
  case busStatus => simp [State.clearBits_ptBusStatus, spared]
  case protStatus => simp [State.clearBits_ptProtStatus, spared]
  case tethState => simp [State.clearBits_flTethState, spared]
  case plStatus => simp [State.clearBits_plStatus, spared]
  case pfStatus => simp [State.clearBits_pfStatus, spared]
  case gvStatus => simp [State.clearBits_gvStatus, spared]
  case crStatus => simp [State.clearBits_crStatus, spared]
  case evStatus => simp [State.clearBits_evStatus, spared]
  case clkFault => simp [State.clearBits_rcClkFault, spared]
  case bootStatus => simp [State.clearBits_seBootStatus, spared]
  case idPins => simp [State.clearBits_idPins, spared]

end Sys2Proof.Machine
end

section
/-!
R52: the rounding of an accumulator to a signal. What `roundHalfEven` answers is a nearest multiple, the even one of two
equally near; `sat32` then holds it to the range of a signal.
-/

namespace Sys2Proof.Machine

open Sys2Proof

/-! ### Saturation to 32 bits -/

section
variable {q : Int}

theorem sat32_of_inRange (lo : -(2 ^ 31) ≤ q) (hi : q < 2 ^ 31) : sat32 q = (q, false) := by
  have kept : satI 32 q = q := by unfold satI clampI; omega
  simp [sat32, kept]

theorem sat32_of_above (h : 2 ^ 31 ≤ q) : sat32 q = (2 ^ 31 - 1, true) := by
  have held : satI 32 q = 2 ^ 31 - 1 := by unfold satI clampI; omega
  have changed : (2 ^ 31 - 1 : Int) ≠ q := by omega
  simpa [sat32, held] using changed

theorem sat32_of_below (h : q < -(2 ^ 31)) : sat32 q = (-(2 ^ 31), true) := by
  have held : satI 32 q = -(2 ^ 31) := by unfold satI clampI; omega
  have changed : (-(2 ^ 31) : Int) ≠ q := by omega
  simpa [sat32, held] using changed

end

/-! ### Rounding at the 2^-16 position -/

/-- Rounding moves a value by half a unit of the kept position at most, and from midway to the even neighbour. -/
theorem roundHalfEven_nearest (a : Int) :
    2 * (a - roundHalfEven a 16 * 2 ^ 16).natAbs ≤ 2 ^ 16 ∧
    (2 * (a - roundHalfEven a 16 * 2 ^ 16).natAbs = 2 ^ 16 → roundHalfEven a 16 % 2 = 0) := by
  have parts : a = 2 ^ 16 * (a / 2 ^ 16) + a % 2 ^ 16 := (Int.mul_ediv_add_emod a (2 ^ 16)).symm
  have low : 0 ≤ a % 2 ^ 16 := Int.emod_nonneg a (by decide)
  have high : a % 2 ^ 16 < 2 ^ 16 := Int.emod_lt_of_pos a (by decide)
  unfold roundHalfEven
  dsimp only
  rw [if_neg (by decide)]
  split
  case isTrue up => omega
  case isFalse down => omega

/-- Settles O47: the multiple asked for is the one `roundHalfEven` finds, and the three ranges are those of `sat32`. -/
theorem roundSatRoundsHalfToEven : Obligations.RoundSatRoundsHalfToEven := by
  intro a _ _
  obtain ⟨near, even⟩ := roundHalfEven_nearest a
  exact ⟨roundHalfEven a 16, near, even, fun ⟨lo, hi⟩ => sat32_of_inRange lo hi, sat32_of_above, sat32_of_below⟩

end Sys2Proof.Machine
end

section
/-!
R64, R91: the reads of a slot's registers. A word of a slot's block is answered by `Slot.reg`; LE_INTEG_LO and
LE_TAPER_FRAC also latch the upper word of their value into the slot's shadow.
-/

namespace Sys2Proof.Machine

open Sys2Proof

/-! ### The words of a slot -/

@[simp] theorem State.slot_emit (s : State) (o : Output) (k : Nat) : (s.emit o).slot k = s.slot k := rfl

section
variable (x : Slot) (e : Option SchedEnt) (whole : Bool)

theorem Slot.reg_integHi : x.reg e false 0x21C = x.integShadow := rfl

theorem Slot.reg_taperFrac : x.reg e whole 0x314 = (x.taperPos % 2 ^ 16).toNat := rfl

theorem Slot.reg_taperPos : x.reg e false 0x318 = x.taperShadow := rfl

end

theorem ofSigned_64_low (v : Int) : ofSigned 64 v % 2 ^ 32 = (v % 2 ^ 32).toNat := by
  unfold ofSigned; omega

theorem ofSigned_64_high (v : Int) : ofSigned 64 v / 2 ^ 32 = (v / 2 ^ 32 % 2 ^ 32).toNat := by
  unfold ofSigned; omega

/-! ### The latch of the Taper position -/

/-- What every read of LE_TAPER_FRAC does to its slot (R91); `State.afterRead_taperFrac` and `exec_leTaperFrac` say so. -/
def State.latchTaper (s : State) (k : Nat) : State :=
  s.setSlot k (fun x => { x with taperShadow := ofSigned 32 (x.taperPos / 2 ^ 16) })

section
variable {s : State} {k : Nat}

theorem State.taperPos_latchTaper : ((s.latchTaper k).slot k).taperPos = (s.slot k).taperPos := by
  unfold State.latchTaper
  rw [State.slot_setSlot]
  split <;> rfl

theorem State.taperShadow_latchTaper (inside : k < s.le.slots.length) :
    ((s.latchTaper k).slot k).taperShadow = ((s.slot k).taperPos / 2 ^ 16 % 2 ^ 32).toNat := by
  unfold State.latchTaper
  rw [State.slot_setSlot, if_pos ⟨rfl, inside⟩]
  rfl

theorem exec_leTaperFrac (hk : k < s.part.slots) : exec (.leTaperFrac k) s =
    .next ((s.latchTaper k).emit (.regRead (0x00400314 + 0x400 * k) ((s.slot k).taperPos % 2 ^ 16).toNat)) := by
  have addr : 0x400000 + 0x400 * k + 0x314 = 0x00400314 + 0x400 * k := by omega
  change execLeTaperFrac k s = _
  rw [← State.taperPos_latchTaper, ← addr]
  exact if_neg (by omega)

end

/-! ### The address of a slot's register -/

/-- Between ID_PPS_TIME and the storage strings no register is the low word of a pair kept by the host interface. -/
theorem State.wide_none (s : State) {a : Nat} (lo : 0x10 < a) (hi : a < 0x00C00200) : s.wide a = none := by
  unfold State.wide
  repeat rw [if_neg (by omega)]

theorem sigOf_none {a : Nat} (h : a < 0x01C00000) : sigOf a = none := by
  unfold sigOf
  repeat rw [if_neg (by omega)]

section
variable {s : State} {a k off : Nat} (addr : a = 0x00400000 + 0x400 * k + off) (inside : off < 0x400) (hk : k < s.part.slots)
include addr inside hk

theorem State.leRegister_lt : a < 0x00420000 := by
  have small := s.part.slots_le
  omega

theorem State.regRead_slot (hr : s.rc.recovery = false) : s.regRead a = (s.slot k).reg (s.entry k) false off := by
  have top := State.leRegister_lt addr inside hk
  have narrow : s.wide (a - 4) = none := s.wide_none (by omega) (by omega)
  have slot : (a - 0x00400000) / 0x400 = k := by omega
  have word : (a - 0x00400000) % 0x400 = off := by omega
  unfold State.regRead
  simp only [hr, narrow, Bool.false_and, Bool.false_eq_true, if_false, Option.isSome_none, and_false]
  repeat rw [if_neg (by omega)]
  rw [if_pos (by omega)]
  unfold State.leRead
  rw [slot, word, if_pos (by omega), if_pos hk]

theorem State.integAt_integLo (lo : off = 0x218) : s.integAt a = some k := by
  have top := State.leRegister_lt addr inside hk
  have slot : (a - 0x00400000) / 0x400 = k := by omega
  unfold State.integAt
  rw [slot, if_pos ⟨by omega, by omega, by omega, hk⟩]

omit hk in
theorem State.integAt_none (other : off ≠ 0x218) : s.integAt a = none := by
  unfold State.integAt
  rw [if_neg (by omega)]

theorem State.afterRead_taperFrac (frac : off = 0x314) :
    s.afterRead a = s.latchTaper k := by
  have top := State.leRegister_lt addr inside hk
  have slot : (a - 0x00400000) / 0x400 = k := by omega
  unfold State.afterRead
  rw [slot, if_pos ⟨by omega, by omega, by omega, hk⟩, State.latchTaper]

theorem State.afterRead_other (other : off ≠ 0x314) : s.afterRead a = s := by
  have top := State.leRegister_lt addr inside hk
  unfold State.afterRead
  rw [if_neg (by omega), sigOf_none (by omega)]

/-! ### What a read leaves -/

/-- A read of LE_INTEG_LO answers the low word of the integrator and latches the high word. -/
theorem exec_loRead_integLo (hb : s.bar0 = true) (lo : off = 0x218) :
    exec (.loRead a false) s =
      .next ((s.setSlot k (fun x => { x with integShadow := ((s.slot k).integ / 2 ^ 32 % 2 ^ 32).toNat })).emit
        (.regRead a ((s.slot k).integ % 2 ^ 32).toNat)) := by
  have top := State.leRegister_lt addr inside hk
  change execLoRead a false s = _
  unfold execLoRead
  rw [if_neg (by simp [hb]), if_neg (by omega), State.integAt_integLo addr inside hk lo]
  simp only [Bool.false_eq_true, if_false, ofSigned_64_low, ofSigned_64_high]

/-- A read of any other register of a slot answers its word and does what `afterRead` says. -/
theorem exec_loRead_slot (hb : s.bar0 = true) (hr : s.rc.recovery = false) (other : off ≠ 0x218) :
    exec (.loRead a false) s =
      .next ((s.afterRead a).emit (.regRead a ((s.slot k).reg (s.entry k) false off))) := by
  have top := State.leRegister_lt addr inside hk
  change execLoRead a false s = _
  unfold execLoRead
  rw [if_neg (by simp [hb]), if_neg (by omega), State.integAt_none addr inside other,
    s.wide_none (by omega) (by omega)]
  simp only [Bool.false_eq_true, if_false, State.regRead_slot addr inside hk hr]

end

/-! ### The statement -/

/-- Both commands that read LE_TAPER_FRAC, its own row and LO_READ of its address, leave the same state. -/
theorem exec_readTaperFrac {c : Instr} {s : State} {k : Nat} (hk : k < s.part.slots) (hr : s.rc.recovery = false)
    (reads : c = .leTaperFrac k ∨ (c = .loRead (0x00400314 + 0x400 * k) false ∧ s.bar0 = true)) :
    exec c s = .next ((s.latchTaper k).emit (.regRead (0x00400314 + 0x400 * k) ((s.slot k).taperPos % 2 ^ 16).toNat)) := by
  rcases reads with rfl | ⟨rfl, hb⟩
  case inl => exact exec_leTaperFrac hk
  case inr =>
    rw [exec_loRead_slot (off := 0x314) (by omega) (by decide) hk hb hr (by decide),
      State.afterRead_taperFrac (off := 0x314) (by omega) (by decide) hk rfl, Slot.reg_taperFrac]

/-- Settles O59: each read is one latch and one answer, and a later read of the upper word is `Slot.reg` of the slot so
latched. -/
theorem integratorAndTaperReadsLatch : Obligations.IntegratorAndTaperReadsLatch := by
  have slotInside {s : State} {k : Nat} (shape : WellShaped s) (hk : k < s.part.slots) : k < s.le.slots.length :=
    shape.slots ▸ Nat.lt_of_lt_of_le hk s.part.slots_le
  refine ⟨fun k s shape hb hr hk => ?integLo, fun k s hb hr hk => ?integHi, fun c k s reads shape hr hk => ?taper⟩
  case integLo =>
    refine ⟨_, exec_loRead_integLo (off := 0x218) (by omega) (by decide) hk hb rfl, rfl, ?_⟩
    refine Eq.trans (State.regRead_slot (off := 0x21C) (by omega) (by decide) hk hr) ?_
    rw [Slot.reg_integHi, State.slot_emit, State.slot_setSlot, if_pos ⟨rfl, slotInside shape hk⟩]
  case integHi =>
    refine ⟨_, exec_loRead_slot (off := 0x21C) (by omega) (by decide) hk hb hr (by decide), ?_⟩
    rw [State.afterRead_other (k := k) (off := 0x21C) (by omega) (by decide) hk (by decide), Slot.reg_integHi]
    exact ⟨rfl, rfl⟩
  case taper =>
    refine ⟨_, exec_readTaperFrac hk hr reads, rfl, ?_⟩
    refine Eq.trans (State.regRead_slot (off := 0x318) (by omega) (by decide) hk hr) ?_
    rw [Slot.reg_taperPos, State.slot_emit, State.taperShadow_latchTaper (slotInside shape hk)]

end Sys2Proof.Machine
end

section
/-!
R137: 16-bit epochs in serial arithmetic. `newer` compares by the residue of a − b, and epoch 0 gives way to any other.
-/

namespace Sys2Proof.Machine

open Sys2Proof

/-- The distance that `newer` computes on naturals is the residue of a − b that R137 speaks of, whatever the two numbers. -/
theorem serialDistance_eq_emod (a b : Nat) :
    (((a + 65536 - b % 65536) % 65536 : Nat) : Int) = ((a : Int) - b) % 65536 := by
  omega

/-- R137: a is newer than b when their serial distance lies in 1 to 32,767. -/
theorem newer_iff (a b : Nat) :
    newer a b = true ↔ 1 ≤ ((a : Int) - b) % 65536 ∧ ((a : Int) - b) % 65536 ≤ 32767 := by
  rw [← serialDistance_eq_emod]
  simp only [newer, Bool.and_eq_true, decide_eq_true_eq]
  omega

@[simp] theorem newest_zero_left (a : Nat) : newest 0 a = a := if_pos rfl

@[simp] theorem newest_zero_right (a : Nat) : newest a 0 = a := by
  by_cases absent : a = 0
  · rw [absent, newest_zero_left]
  · rw [newest, if_neg absent, if_pos rfl]

/-- Between two epochs other than 0, the serial comparison decides (R137). -/
theorem newest_of_ne_zero {a b : Nat} (ha : a ≠ 0) (hb : b ≠ 0) : newest a b = if newer b a then b else a := by
  rw [newest, if_neg ha, if_neg hb]

/-- Settles O58: the comparison is `newer_iff`, and the newest of two epochs is one lemma per branch of `newest`. -/
theorem epochsCompareInSerial : Obligations.EpochsCompareInSerial :=
  ⟨fun a b _ _ => newer_iff a b, fun a => ⟨newest_zero_left a, newest_zero_right a⟩, fun _ _ => newest_of_ne_zero⟩

end Sys2Proof.Machine
end

section
/-!
What a step of the block keeps: its shape, host memory beside the posted writes, and the areas its row does not name.
-/

namespace Sys2Proof.Machine

open Sys2Proof

/-! ### A step, from the footprint of its command -/

/-- Whatever waits, a step touches no more than any command or a quiet frame period does. -/
theorem step_touch {s t : State} (h : step s = .next t) : ∃ v : State, v.out = s.out ∧ v.hostMem = s.hostMem ∧
    (WellShaped s → WellShaped v) ∧ Touch 0xfffffe v t := by
  unfold step at h
  split at h
  case h_1 =>
    cases h
    exact ⟨s, rfl, rfl, id, s.quietPeriod_touch.mono rfl⟩
  case h_2 c rest waiting =>
    exact ⟨s.withPending rest, rfl, rfl, fun w => ⟨w.1, w.2, w.3, w.4, w.5, w.6, w.7, w.8, w.9, w.10⟩, (exec_touch h).mono rfl⟩

/-- Settles O50: the shape is part of the footprint every command has. -/
theorem stepKeepsWellShaped : Obligations.StepKeepsWellShaped := by
  intro s t shape h
  obtain ⟨v, -, -, kept, touched⟩ := step_touch h
  exact touched.shape (kept shape)

/-- Settles O51: every list of the reset state has the length the spec gives, and both memories are empty. -/
theorem resetWellShaped : Obligations.ResetWellShaped where
  ports := List.length_replicate
  groups := List.length_replicate
  slots := List.length_replicate
  pipes := List.length_replicate
  queues := List.length_replicate
  ring := Nat.zero_le _
  received := Nat.zero_le _
  ledger := Nat.zero_le _
  host := rfl
  hdma := rfl

/-- Settles O49: a command always answers a next state, whose footprint leaves the part and the waiting commands. -/
theorem everyCommandCompletes : Obligations.EveryCommandCompletes := by
  intro c s
  obtain ⟨t, answer, touched⟩ := exec_goes c s
  exact ⟨t, answer, touched.part, touched.pending⟩

/-! ### Host memory -/

/-- A byte outside every write of a list of outputs reads as before them. -/
theorem read_replay_other {l : List Output} {m : List Host.Cell} {a : Nat} (canonical : Mem.wf 0 m = true)
    (outside : ∀ b d, Output.hostWrite b d ∈ l → a < b ∨ b + d.length ≤ a) :
    Mem.read 0 (replay l m) a = Mem.read 0 m a := by
  induction l with
  | nil => rfl
  | cons o l ih =>
    have rest := ih fun b d member => outside b d (List.mem_cons_of_mem o member)
    cases o
    case hostWrite b d =>
      exact (Mem.read_writeN_other 0 _ b a d (replay_wf l m canonical) (outside b d List.mem_cons_self)).trans rest
    all_goals exact rest

/-- Settles O52: the footprint of a step gives the writes it put out, and `read_replay_other` the bytes beside them. -/
theorem hostMemoryByWrites : Obligations.HostMemoryByWrites := by
  intro s t h
  obtain ⟨v, out, mem, -, touched⟩ := step_touch h
  obtain ⟨l, put, written⟩ := touched.host
  rw [out] at put
  rw [mem] at written
  exact ⟨l, put, written, fun canonical a outside => written ▸ read_replay_other canonical outside⟩

end Sys2Proof.Machine
end

section
/-!
A step on an empty queue: time passes, and with no port TRAINED the telemetry of a frame period, which changes of the Loop
Engine at most its slots.
-/

namespace Sys2Proof.Machine

open Sys2Proof

/-- The Loop Engine is the same in two states but for its slots. -/
def OnlySlots (s t : State) : Prop := t.le = { s.le with slots := t.le.slots }

theorem OnlySlots.of_eq {s t : State} (same : t.le = s.le) : OnlySlots s t := by
  rw [OnlySlots, same]

theorem OnlySlots.refl (s : State) : OnlySlots s s := .of_eq rfl

theorem OnlySlots.of_touch {F : Nat} {s t : State} (g : Touch F s t) (outside : F.testBit 4 = false) : OnlySlots s t :=
  .of_eq (comp_bit g.le outside)

theorem OnlySlots.trans {s t v : State} (first : OnlySlots s t) (second : OnlySlots t v) : OnlySlots s v := by
  unfold OnlySlots at *
  rw [second, first]

theorem OnlySlots.cond {s a b : State} {c : Prop} [Decidable c] (ha : OnlySlots s a) (hb : OnlySlots s b) :
    OnlySlots s (if c then a else b) := by
  split <;> assumption

theorem OnlySlots.foldl {α : Type} {f : State → α → State} (each : ∀ v a, OnlySlots v (f v a)) (l : List α) (s : State) :
    OnlySlots s (l.foldl f s) := by
  induction l generalizing s with
  | nil => exact .refl s
  | cons a l ih => exact (each s a).trans (ih (f s a))

theorem OnlySlots.frame {s t : State} (only : OnlySlots s t) : t.le.frame = s.le.frame := by
  rw [only]

theorem State.setSlot_onlySlots (s : State) (k : Nat) (f : Slot → Slot) : OnlySlots s (s.setSlot k f) := rfl

theorem State.handSlot_onlySlots (s : State) (k : Nat) (c : SlotChange) : OnlySlots s (s.handSlot k c) :=
  .cond (s.setSlot_onlySlots k _) (s.setSlot_onlySlots k _)

theorem State.openGroup_onlySlots (s : State) (g : Nat) : OnlySlots s (s.openGroup g) :=
  .foldl (fun v k => .cond (.refl v) (v.handSlot_onlySlots k _)) _ s

theorem State.sleepGroup_onlySlots (s : State) (g : Nat) : OnlySlots s (s.sleepGroup g) :=
  .cond (State.openGroup_onlySlots (s.setGroup g _) g) (.refl s)

theorem State.completeWhere_onlySlots (s : State) (p : Wait → Bool) (st r : Nat) : OnlySlots s (s.completeWhere p st r) :=
  .of_touch (s.completeWhere_touch p st r) rfl

theorem State.leaveBurst_onlySlots (s : State) (g : Nat) : OnlySlots s (s.leaveBurst g) := by
  unfold State.leaveBurst
  dsimp only
  split
  · exact .trans rfl (State.completeWhere_onlySlots _ _ _ _)
  · rfl

theorem State.burstExit_onlySlots (s : State) : OnlySlots s s.burstExit :=
  .cond (.refl s) ((OnlySlots.foldl State.leaveBurst_onlySlots _ s).trans (.of_eq rfl))

theorem State.burstSleep_onlySlots (s : State) : OnlySlots s s.burstSleep := .foldl State.sleepGroup_onlySlots _ s

theorem State.runGroup_onlySlots (s : State) (g : Nat) : OnlySlots s (s.runGroup g) := rfl

theorem State.burstWake_onlySlots (s : State) : OnlySlots s s.burstWake := .foldl State.runGroup_onlySlots _ s

theorem State.burstFrame_onlySlots (s : State) : OnlySlots s s.burstFrame :=
  .cond (.refl s) (.cond (.refl s) (.cond s.burstExit_onlySlots (.cond s.burstSleep_onlySlots
    (.cond s.burstWake_onlySlots (.refl s)))))

theorem State.mapPorts_onlySlots (s : State) (f : Port → Port) : OnlySlots s (s.mapPorts f) := .of_eq rfl

/-- The telemetry of a frame period leaves the Loop Engine but for the slots that a burst opens or aims. -/
theorem State.framePeriod_onlySlots (s : State) : OnlySlots s s.framePeriod := by
  have sampled : OnlySlots s ((List.range 16).foldl (fun s g => (s.groupFrame g).vTimers g) s.selFrame) :=
    .trans (.of_touch s.selFrame_touch rfl) (.foldl (fun v g => .of_touch
      ((v.groupFrame_touch g).step (State.vTimers_touch _ g) rfl) rfl) _ _)
  unfold State.framePeriod
  dsimp only
  generalize (List.range 16).foldl _ s.selFrame = v at sampled ⊢
  refine .trans ?_ (State.mapPorts_onlySlots _ _)
  split
  · exact .trans (sampled.trans (.of_eq rfl)) (State.burstFrame_onlySlots _)
  · exact sampled.trans (.of_eq rfl)

/-- Settles O46: with a command waiting a step is that command; with none, `idlePeriod` and, beside the ports TRAINED, the
telemetry of a frame period. -/
theorem stepRunsFront : Obligations.StepRunsFront := by
  refine ⟨fun c s rest => rfl, fun s empty => ?_⟩
  have quiet : step s = .next s.quietPeriod := by unfold step; rw [empty]
  refine ⟨s.quietPeriod, quiet, s.quietPeriod_touch.keeps _ (by decide), fun trained => ?_, fun powered clocked => ?_, fun dark => ?_⟩
  · have idle : s.quietPeriod = s.idlePeriod := by simp [State.quietPeriod, trained]
    exact idle ▸ s.idlePeriod_touch.keeps _ (by decide)
  · have idle : s.idlePeriod.clk.now = s.clk.now + 500 ∧
        s.idlePeriod.le.frame = if s.rc.on 4 then (s.le.frame + 1) % 2 ^ 64 else s.le.frame := by
      unfold State.idlePeriod
      rw [if_neg (not_or.mpr ⟨powered, Bool.eq_false_iff.mp clocked⟩)]
      exact ⟨rfl, by dsimp only; split <;> rfl⟩
    unfold State.quietPeriod
    dsimp only
    split
    · have clock := comp_bit s.idlePeriod.framePeriod_touch.clk rfl
      rw [clock, s.idlePeriod.framePeriod_onlySlots.frame]
      exact idle
    · exact idle
  · have idle : s.idlePeriod = s := if_pos dark
    have stopped : (s.rc.power != .off && !s.rc.badClk.contains 0) = false := by
      rcases dark with off | bad
      · rw [off]; rfl
      · rw [bad]; exact Bool.and_false _
    unfold State.quietPeriod
    rw [stopped, idle]
    rfl

end Sys2Proof.Machine
end

section
/-!
Table 15-8: what a fetched entry spells. Four opcodes are told apart by their first parameter byte.
-/

namespace Sys2Proof.Machine

open Sys2Proof

section
variable (h : CmdHdr) (b : Bytes) (s : State)

theorem runOp_profileCtrl : runOp 0x0602 h b s =
    if u b 8 1 = 0 then exec (.profileStart h (pfSetAt b)) s
    else if u b 8 1 = 1 then exec (.profileStop h) s
    else if u b 8 1 = 2 then exec (.profileClear h) s
    else if u b 8 1 = 3 then exec (.profileSet h (pfSetAt b)) s
    else .next (s.complete h stBadParam 0x08) := rfl

theorem runOp_captureArm : runOp 0x0801 h b s =
    if u b 8 1 = 0 then exec (.captureArm h (bufAt b 16) (u b 28 2)) s
    else if u b 8 1 = 1 then exec (.captureTrigger h) s
    else if u b 8 1 = 2 then exec (.captureFreeze h) s
    else if u b 8 1 = 3 then exec (.captureRelease h) s
    else .next (s.complete h stBadParam 0x08) := rfl

theorem runOp_reset : runOp 0x0B01 h b s =
    if u b 8 1 = 3 then exec (.blockReset h (u b 9 1)) s else exec (.reset h (u b 8 1)) s := rfl

theorem runOp_takeover : runOp 0x0B03 h b s =
    if bitAt (u b 8 1) 0 then exec (.takeoverForce h) s else exec (.takeover h) s := rfl

end

/-- Settles O48: an opcode with one meaning is its arm of `runOp`; the four with more are told apart by the byte at 0x08. -/
theorem entriesSpellCommands : Obligations.EntriesSpellCommands := by
  intro h b s
  refine ⟨rfl, rfl, rfl, rfl, rfl, rfl, rfl, rfl, rfl, rfl, rfl, rfl, rfl, rfl, rfl, rfl, rfl,
    ?start, ?stop, ?clear, ?set, rfl, rfl, rfl, rfl, ?arm, ?trigger, ?freeze, ?release,
    rfl, rfl, rfl, rfl, rfl, rfl, rfl, rfl, ?block, ?scope, rfl, ?force, ?hand⟩
  case start | stop | clear | set => intro code; rw [runOp_profileCtrl, code]; rfl
  case arm | trigger | freeze | release => intro code; rw [runOp_captureArm, code]; rfl
  case block => intro code; rw [runOp_reset, if_pos code]
  case scope => intro code; rw [runOp_reset, if_neg code]
  case force | hand => intro code; rw [runOp_takeover, code]; rfl

end Sys2Proof.Machine
end

section
/-!
The reset values of the register maps.
-/

namespace Sys2Proof.Machine

open Sys2Proof

/-- Settles O56: the reset state is one closed value, and the tables' reads of it, of each slot, group and port, are evaluated. -/
theorem resetValues : Obligations.ResetValues := by
  refine ⟨rfl, rfl, ?fixed, ?slots, ?groups, ?ports⟩
  case fixed => decide +kernel
  case slots => decide +kernel
  case groups => decide +kernel
  case ports => decide +kernel

end Sys2Proof.Machine
end

section
/-!
R357: every host command is its checks and its act, `State.start`. What its checks turn away leaves none of its effect, and of
the commands that reset nothing and retire or restore no cell only the end of Quiet reaches the reset state.
-/

namespace Sys2Proof.Machine

open Sys2Proof

/-! ### Acts that leave the reset state alone -/

theorem Touch.rc_eq {F : Nat} {s t : State} (g : Touch F s t) (outside : F.testBit 15 = false) : t.rc = s.rc :=
  comp_bit g.rc outside

section
variable (s : State)

@[simp] theorem State.complete_rc (h : CmdHdr) (st r : Nat) : (s.complete h st r).rc = s.rc := rfl

@[simp] theorem State.done_rc (h : CmdHdr) (st r : Nat) : (s.done h st r).rc = s.rc := rfl

@[simp] theorem State.await_rc (h : CmdHdr) (op : Nat) (w : Wait) : (s.await h op w).rc = s.rc := rfl

@[simp] theorem State.handSlot_rc (k : Nat) (c : SlotChange) : (s.handSlot k c).rc = s.rc :=
  (s.handSlot_touch k c).rc_eq rfl

@[simp] theorem State.handBlocks_rc (l : List Bytes) : (s.handBlocks l).rc = s.rc := (s.handBlocks_touch l).rc_eq rfl

@[simp] theorem State.bufWrite_rc (b : Buf) (data : Bytes) : (s.bufWrite b data).rc = s.rc :=
  (s.bufWrite_touch b data).rc_eq rfl

@[simp] theorem State.acceptTable_rc (t : List SchedEnt) : (s.acceptTable t).rc = s.rc := (s.acceptTable_touch t).rc_eq rfl

@[simp] theorem State.startGroup_rc (g : Nat) : (s.startGroup g).rc = s.rc := (s.startGroup_touch g).rc_eq rfl

@[simp] theorem State.supersedeBus_rc : s.supersedeBus.rc = s.rc := s.supersedeBus_touch.rc_eq rfl

@[simp] theorem State.setBus_rc (v : Int) (slew : Nat) : (s.setBus v slew).rc = s.rc := (s.setBus_touch v slew).rc_eq rfl

@[simp] theorem State.busCheck_rc : s.busCheck.rc = s.rc := s.busCheck_touch.rc_eq rfl

@[simp] theorem State.crArm_rc (data : Bytes) (n : Nat) : (s.crArm data n).rc = s.rc := (s.crArm_touch data n).rc_eq rfl

@[simp] theorem State.crTrigger_rc (src : Nat) : (s.crTrigger src).rc = s.rc := (s.crTrigger_touch src).rc_eq rfl

@[simp] theorem State.crFreeze_rc : s.crFreeze.rc = s.rc := s.crFreeze_touch.rc_eq rfl

@[simp] theorem State.loadKey_rc (k : Key) : (s.loadKey k).rc = s.rc := (s.loadKey_touch k).rc_eq rfl

@[simp] theorem State.joinGroups_rc : s.joinGroups.rc = s.rc := s.joinGroups_touch.rc_eq rfl

@[simp] theorem State.loseLock_rc : s.loseLock.rc = s.rc := s.loseLock_touch.rc_eq rfl

@[simp] theorem State.startLearning_rc (c : PfSet) : (s.startLearning c).rc = s.rc := (s.startLearning_touch c).rc_eq rfl

@[simp] theorem State.newPfSet_rc (c : PfSet) : (s.newPfSet c).rc = s.rc := (s.newPfSet_touch c).rc_eq rfl

@[simp] theorem State.request_rc (h : CmdHdr) (op kind : Nat) (w : Int) (ms v : Nat) :
    (s.request h op kind w ms v).rc = s.rc := (s.request_touch h op kind w ms v).rc_eq rfl

@[simp] theorem State.endLogRead_rc (h : CmdHdr) (b : Buf) (a n : Nat) (flushed : Bool) :
    (s.endLogRead h b a n flushed).rc = s.rc := (s.endLogRead_touch h b a n flushed).rc_eq rfl

@[simp] theorem State.eraseArea_rc (a : Nat) : (s.eraseArea a).rc = s.rc := (s.eraseArea_touch a).rc_eq rfl

@[simp] theorem State.imageErase_rc : s.imageErase.rc = s.rc := s.imageErase_touch.rc_eq rfl

@[simp] theorem State.takeover_rc (cause : Nat) : (s.takeover cause).rc = s.rc := (s.takeover_touch cause).rc_eq rfl

@[simp] theorem State.endTakeover_rc (st r : Nat) : (s.endTakeover st r).rc = s.rc := (s.endTakeover_touch st r).rc_eq rfl

end

/-! ### Every host command is its checks and its act -/

/-- A host command runs as `State.start` with the checks `k` and the act `act`; the checks are those of its marks (Table 15-8,
R403), and an act that resets nothing leaves the reset state. -/
structure StartsAs (c : Instr) (h : CmdHdr) (s : State) (k : Cmd) (act : State → State) : Prop where
  runs : exec c s = .next (s.start h k act)
  active : k.activeOnly = activeOnly c
  early : k.early = !waitsForRun c
  rc : onlyWakes c = true → ∀ v, (act v).rc = v.rc

/-- Where every check passes, another check of the object alone decides. -/
theorem State.refusal_chk6 {s : State} {k : Cmd} (passed : s.refusal k = none) (r : Refuse) :
    s.refusal { k with chk6 := r } = r := by
  unfold State.refusal at passed ⊢
  simp only [Option.orElse_eq_orElse, Option.orElse_eq_or, Option.or_eq_none_iff] at passed ⊢
  obtain ⟨role, entry, run, block, -⟩ := passed
  rw [role, entry, run, block]
  rfl

theorem State.start_objectRefused {s : State} {h : CmdHdr} {k : Cmd} (asleep : wakes k.op = false)
    (passed : s.refusal k = none) (st r : Nat) (act : State → State) :
    s.start h { k with chk6 := some (st, r) } act = s.complete h st r := by
  unfold State.start
  dsimp only
  rw [asleep, if_neg Bool.false_ne_true, State.refusal_chk6 passed]

/-- The answer of a refused table is that of a command with one more check, or of one whose act notes the refusal. -/
theorem State.noteRefusal_start {s : State} {k : Cmd} (passed : s.refusal k = none) (asleep : wakes k.op = false)
    (h : CmdHdr) (r : SchedRefusal) : ∃ k' act,
    (if h.checkOnly then s else s.noteRefusal r).complete h (schedRefuse r).1 (schedRefuse r).2 = s.start h k' act ∧
    k'.activeOnly = k.activeOnly ∧ k'.early = k.early ∧ ∀ v : State, (act v).rc = v.rc := by
  cases check : h.checkOnly
  case false =>
    refine ⟨k, fun v => (v.noteRefusal r).complete h (schedRefuse r).1 (schedRefuse r).2, ?_, rfl, rfl,
      fun v => (v.noteRefusal_touch r).rc_eq rfl⟩
    unfold State.start
    rw [asleep]
    dsimp only
    simp only [Bool.false_eq_true, if_false, passed, check]
  case true =>
    exact ⟨_, id, (State.start_objectRefused asleep passed _ _ id).symm, rfl, rfl, fun _ => rfl⟩

theorem loopSchedule_startsAs (h : CmdHdr) (buf : Buf) (n : Nat) (s : State) :
    ∃ k act, StartsAs (.loopSchedule h buf n) h s k act := by
  have runs : ∃ k act, execLoopSchedule h buf n s = .next (s.start h k act) ∧ k.activeOnly = false ∧ k.early = false ∧
      ∀ v, (act v).rc = v.rc := by
    unfold execLoopSchedule
    dsimp only
    split
    case h_1 r passed refused =>
      obtain ⟨k, act, start, active, early, rc⟩ := State.noteRefusal_start passed (by simp [wakes]) h r
      exact ⟨k, act, congrArg _ start, active, early, rc⟩
    case h_2 => exact ⟨_, _, rfl, rfl, rfl, fun v => by simp⟩
  obtain ⟨k, act, runs, active, early, rc⟩ := runs
  exact ⟨k, act, runs, active, early, fun _ => rc⟩

theorem planLimits_startsAs (h : CmdHdr) (buf : Buf) (s : State) : ∃ k act, StartsAs (.planLimits h buf) h s k act := by
  cases parsed : limParse s.sh.ratingW (s.bufRead buf 0 64)
  all_goals
    have runs : exec (.planLimits h buf) s = execPlanLimits h buf s := rfl
    unfold execPlanLimits at runs
    rw [parsed] at runs
    exact ⟨_, _, runs, rfl, rfl, fun _ v => by simp⟩

theorem exec_startsAs {c : Instr} {h : CmdHdr} (s : State) (host : hdrOf c = some h) : ∃ k act, StartsAs c h s k act := by
  cases c
  case loopSchedule => cases host; exact loopSchedule_startsAs _ _ _ s
  case planLimits => cases host; exact planLimits_startsAs _ _ s
  case captureRead => cases host; exact ⟨_, _, rfl, rfl, rfl, fun _ v => by dsimp only; split <;> simp⟩
  all_goals cases host
  case reset | blockReset | cellRetire | cellRestore | groupQuench => exact ⟨_, _, rfl, rfl, rfl, fun none => nomatch none⟩
  all_goals exact ⟨_, _, rfl, rfl, rfl, fun _ v => by simp [apply_ite State.rc]⟩

/-! ### Commands turned away -/

theorem State.complete_keeps (s : State) (h : CmdHdr) (st r : Nat) : KeepsBut [.host, .out] s (s.complete h st r) :=
  (s.complete_touch h st r).keeps _ (by decide)

/-- A command that its checks turn away is answered and leaves everything but the host interface (R351). -/
theorem StartsAs.turnedAway {c : Instr} {h : CmdHdr} {s : State} {k : Cmd} {act : State → State} (starts : StartsAs c h s k act)
    (away : ∃ st r, s.start h k act = s.complete h st r) :
    Leaves c s (fun t => KeepsBut [.host, .out] s t ∧ ∃ st r, Answered s t h st r) := by
  intro t answer
  obtain ⟨st, r, away⟩ := away
  rw [starts.runs, away] at answer
  cases answer
  exact ⟨s.complete_keeps h st r, st, r, s.complete_answers h st r⟩

theorem StartsAs.answers {c : Instr} {h : CmdHdr} {s : State} {k : Cmd} {act : State → State} (starts : StartsAs c h s k act)
    {st r : Nat} (away : s.start h k act = s.complete h st r) :
    Completes c s (fun t => KeepsBut [.host, .out] s t ∧ Answered s t h st r) :=
  ⟨_, starts.runs, away ▸ ⟨s.complete_keeps h st r, s.complete_answers h st r⟩⟩

/-- Before RUN a command whose operands are good is answered BUSY (R403). -/
theorem State.start_beforeRun {s : State} {h : CmdHdr} {k : Cmd} {act : State → State} (asleep : wakes k.op = false)
    (anyRole : k.activeOnly = false) (good : k.zero = false ∧ k.chk = none) (late : k.early = false) (run : s.rc.run = false) :
    s.start h k act = s.complete h stBusy 0 := by
  have busy : s.refusal k = some (stBusy, 0) := by
    unfold State.refusal
    rw [anyRole, good.1, good.2, late, run]
    rfl
  unfold State.start
  rw [asleep]
  dsimp only
  rw [if_neg Bool.false_ne_true, busy]

/-- Settles O57: every host command is a `start`, and the checks of R357 turn it away in each of these cases. -/
theorem refusedCommandsLeaveState : Obligations.RefusedCommandsLeaveState := by
  refine ⟨fun c h s host check awake => ?checkOnly, fun c h s host only awake => ?active, fun c h s host waits stopped awake => ?run,
    fun h k s stopped inside => ?loopOpen, fun h mask s stopped some_ inside => ?assay⟩
  case checkOnly =>
    obtain ⟨k, act, starts⟩ := exec_startsAs s host
    exact starts.turnedAway (s.start_check h k act check awake)
  case active =>
    obtain ⟨k, act, starts⟩ := exec_startsAs s host
    obtain ⟨other, starting⟩ := s.start_role h k act (starts.active.trans only) awake
    exact ⟨fun role => starts.answers (other role), fun role => starts.answers (starting role)⟩
  case run =>
    obtain ⟨k, act, starts⟩ := exec_startsAs s host
    exact starts.turnedAway (s.start_run h k act (by rw [starts.early, waits]; rfl) stopped awake)
  case loopOpen =>
    have chk : param (k < s.part.slots) 0x08 = none := by simp [param, need, inside]
    refine ⟨_, rfl, ?_⟩
    rw [State.start_beforeRun (by simp [wakes]) rfl ⟨rfl, chk⟩ rfl stopped]
    exact s.complete_answers h stBusy 0
  case assay =>
    have chk : param (mask ≠ 0 ∧ mask < 2 ^ s.part.pipes) 0x08 = none := by simp [param, need, some_, inside]
    refine ⟨_, rfl, ?_⟩
    rw [State.start_beforeRun (by simp [wakes]) rfl ⟨rfl, chk⟩ rfl stopped]
    exact s.complete_answers h stBusy 0

/-! ### The end of Quiet -/

/-- Of the reset state a start whose act leaves it alone changes at most Quiet (R405). -/
theorem State.start_rc {s : State} {h : CmdHdr} {k : Cmd} {act : State → State} (leaves : ∀ v, (act v).rc = v.rc) :
    (s.start h k act).rc = s.rc ∨ (s.rc.power = .quiet ∧ (s.start h k act).rc = { s.rc with power := .run }) := by
  have woken : (s.start h k act).rc = (if wakes k.op then s.leaveQuiet else s).rc := by
    unfold State.start
    dsimp only
    split
    · rfl
    · split
      · rfl
      · exact leaves _
  rw [woken]
  split
  · unfold State.leaveQuiet
    split
    case isTrue quiet => exact .inr ⟨quiet, rfl⟩
    case isFalse => exact .inl rfl
  · exact .inl rfl

/-! ### The frame of every command -/

/-- A footprint reaches no area beyond a list, as a computation. -/
def stays (F : Nat) (l : List Area) : Bool := Area.all.all (fun a => l.contains a || !F.testBit (areaBit a))

theorem Goes.keepsBut {F : Nat} {c : Instr} {s : State} (g : Goes F s (exec c s)) (inside : stays F (mayChange c) = true) :
    Leaves c s (KeepsBut (mayChange c) s) := by
  refine g.keeps _ fun a member outside => ?_
  have here := List.all_eq_true.mp inside a member
  simpa [outside] using here

/-- What a command's footprint reaches lies in the areas of its row. -/
theorem exec_keeps (c : Instr) (s : State) : Leaves c s (KeepsBut (mayChange c) s) := by
  cases c with
  | devIdentify h buf => exact (execDevIdentify_goes h buf s).keepsBut rfl
  | devCaps h buf => exact (execDevCaps_goes h buf s).keepsBut rfl
  | queueCreate h qid vec coalCnt coalUs sqBase cqBase sqN cqN => exact (execQueueCreate_goes h qid vec coalCnt coalUs sqBase cqBase sqN cqN s).keepsBut rfl
  | queueDelete h qid => exact (execQueueDelete_goes h qid s).keepsBut rfl
  | loopOpen h slot => exact (execLoopOpen_goes h slot s).keepsBut rfl
  | loopClose h slot preload value => exact (execLoopClose_goes h slot preload value s).keepsBut rfl
  | loopLoad h buf count => exact (execLoopLoad_goes h buf count s).keepsBut rfl
  | loopRead h buf first count => exact (execLoopRead_goes h buf first count s).keepsBut rfl
  | loopSchedule h buf count => exact (execLoopSchedule_goes h buf count s).keepsBut rfl
  | groupEnable h group => exact (execGroupEnable_goes h group s).keepsBut rfl
  | groupQuench h group => exact (execGroupQuench_goes h group s).keepsBut rfl
  | busVset h vset slew => exact (execBusVset_goes h vset slew s).keepsBut rfl
  | cellRetire h port => exact (execCellRetire_goes h port s).keepsBut rfl
  | cellRestore h port clear => exact (execCellRestore_goes h port clear s).keepsBut rfl
  | storeMode h mode => exact (execStoreMode_goes h mode s).keepsBut rfl
  | planLimits h buf => exact (execPlanLimits_goes h buf s).keepsBut rfl
  | planLoad h buf count binExp actMode weight timeoutMs actTime => exact (execPlanLoad_goes h buf count binExp actMode weight timeoutMs actTime s).keepsBut rfl
  | profileStart h set => exact (execProfileStart_goes h set s).keepsBut rfl
  | profileStop h => exact (execProfileStop_goes h s).keepsBut rfl
  | profileClear h => exact (execProfileClear_goes h s).keepsBut rfl
  | profileSet h set => exact (execProfileSet_goes h set s).keepsBut rfl
  | budgetSet h budgetW validMs => exact (execBudgetSet_goes h budgetW validMs s).keepsBut rfl
  | govMode h setting value => exact (execGovMode_goes h setting value s).keepsBut rfl
  | grantMode h value => exact (execGrantMode_goes h value s).keepsBut rfl
  | keyLoad h buf => exact (execKeyLoad_goes h buf s).keepsBut rfl
  | captureArm h buf count => exact (execCaptureArm_goes h buf count s).keepsBut rfl
  | captureTrigger h => exact (execCaptureTrigger_goes h s).keepsBut rfl
  | captureFreeze h => exact (execCaptureFreeze_goes h s).keepsBut rfl
  | captureRelease h => exact (execCaptureRelease_goes h s).keepsBut rfl
  | captureRead h buf channel start count => exact (execCaptureRead_goes h buf channel start count s).keepsBut rfl
  | logRead h buf source flush start count => exact (execLogRead_goes h buf source flush start count s).keepsBut rfl
  | logClear h buf => exact (execLogClear_goes h buf s).keepsBut rfl
  | calRead h buf => exact (execCalRead_goes h buf s).keepsBut rfl
  | calWrite h buf => exact (execCalWrite_goes h buf s).keepsBut rfl
  | assay h mask => exact (execAssay_goes h mask s).keepsBut rfl
  | imageStage h buf => exact (execImageStage_goes h buf s).keepsBut rfl
  | imageCommit h activate => exact (execImageCommit_goes h activate s).keepsBut rfl
  | imageActivate => exact (execImageActivate_goes s).keepsBut rfl
  | reset h scope => exact (execReset_goes h scope s).keepsBut rfl
  | blockReset h block => exact (execBlockReset_goes h block s).keepsBut rfl
  | timeSet h role domain setTime timeNs => exact (execTimeSet_goes h role domain setTime timeNs s).keepsBut rfl
  | takeover h => exact (execTakeover_goes h s).keepsBut rfl
  | takeoverForce h => exact (execTakeoverForce_goes h s).keepsBut rfl
  | commandFetch => exact (execCommandFetch_goes s).keepsBut rfl
  | sqTail q data => exact (execSqTail_goes q data s).keepsBut rfl
  | cqHead q data => exact (execCqHead_goes q data s).keepsBut rfl
  | eqHead data => exact (execEqHead_goes data s).keepsBut rfl
  | bootstrapEnable => exact (execBootstrapEnable_goes s).keepsBut rfl
  | bootstrapDisable => exact (execBootstrapDisable_goes s).keepsBut rfl
  | ledgerDelivery => exact (execLedgerDelivery_goes s).keepsBut rfl
  | msixCoalesceTimeout q => exact (execMsixCoalesceTimeout_goes q s).keepsBut rfl
  | cqStall q => exact (execCqStall_goes q s).keepsBut rfl
  | eqStall => exact (execEqStall_goes s).keepsBut rfl
  | dmaErr target fail => exact (execDmaErr_goes target fail s).keepsBut rfl
  | badAccess read addr => exact (execBadAccess_goes read addr s).keepsBut rfl
  | bar4Access write off n data => exact (execBar4Access_goes write off n data s).keepsBut rfl
  | registerWrite addr data high => exact (execRegisterWrite_goes addr data high s).keepsBut rfl
  | w1cWrite addr data kept => exact (execW1cWrite_goes addr data kept s).keepsBut rfl
  | loRead addr whole => exact (execLoRead_goes addr whole s).keepsBut rfl
  | leTaperFrac slot => exact (execLeTaperFrac_goes slot s).keepsBut rfl
  | profileTableRead off wide => exact (execProfileTableRead_goes off wide s).keepsBut rfl
  | tmMin sig => exact (execTmMin_goes sig s).keepsBut rfl
  | tmMax sig => exact (execTmMax_goes sig s).keepsBut rfl
  | ptBusVset data => exact (execPtBusVset_goes data s).keepsBut rfl
  | ptBusSlew data => exact (execPtBusSlew_goes data s).keepsBut rfl
  | ptFfCfg data => exact (execPtFfCfg_goes data s).keepsBut rfl
  | ptBurstEnter data => exact (execPtBurstEnter_goes data s).keepsBut rfl
  | ptBurstDwell data => exact (execPtBurstDwell_goes data s).keepsBut rfl
  | ptBurstBand data => exact (execPtBurstBand_goes data s).keepsBut rfl
  | protRegisterWrite addr data => exact (execProtRegisterWrite_goes addr data s).keepsBut rfl
  | tmGrpSrcWrite group which data => exact (execTmGrpSrcWrite_goes group which data s).keepsBut rfl
  | evCfg data => exact (execEvCfg_goes data s).keepsBut rfl
  | rcPwrCfg data => exact (execRcPwrCfg_goes data s).keepsBut rfl
  | seRcvLoad => exact (execSeRcvLoad_goes s).keepsBut rfl
  | seRcvRetry => exact (execSeRcvRetry_goes s).keepsBut rfl
  | seRcvRestart => exact (execSeRcvRestart_goes s).keepsBut rfl
  | recoveryWriteDone good => exact (execRecoveryWriteDone_goes good s).keepsBut rfl
  | slotEvaluation slot parity => exact (execSlotEvaluation_goes slot parity s).keepsBut rfl
  | feTrip slot => exact (execFeTrip_goes slot s).keepsBut rfl
  | openTrip slot => exact (execOpenTrip_goes slot s).keepsBut rfl
  | scheduleSwitch => exact (execScheduleSwitch_goes s).keepsBut rfl
  | assayEvaluation pipe mismatch => exact (execAssayEvaluation_goes pipe mismatch s).keepsBut rfl
  | fallbackSwitch => exact (execFallbackSwitch_goes s).keepsBut rfl
  | fastDn port => exact (execFastDn_goes port s).keepsBut rfl
  | fastUp port frame => exact (execFastUp_goes port frame s).keepsBut rfl
  | blockLockLost rx => exact (execBlockLockLost_goes rx s).keepsBut rfl
  | portLost port => exact (execPortLost_goes port s).keepsBut rfl
  | portRetrain port => exact (execPortRetrain_goes port s).keepsBut rfl
  | degraded port margin => exact (execDegraded_goes port margin s).keepsBut rfl
  | svcDn port => exact (execSvcDn_goes port s).keepsBut rfl
  | svcResponse port frame => exact (execSvcResponse_goes port frame s).keepsBut rfl
  | svcTimeout port tag => exact (execSvcTimeout_goes port tag s).keepsBut rfl
  | held port frame => exact (execHeld_goes port frame s).keepsBut rfl
  | status port frame => exact (execStatus_goes port frame s).keepsBut rfl
  | portTrained port found => exact (execPortTrained_goes port found s).keepsBut rfl
  | trainingTimeout port step => exact (execTrainingTimeout_goes port step s).keepsBut rfl
  | autostart => exact (execAutostart_goes s).keepsBut rfl
  | preBiasedStart group => exact (execPreBiasedStart_goes group s).keepsBut rfl
  | regulationReached group => exact (execRegulationReached_goes group s).keepsBut rfl
  | startTimeout group => exact (execStartTimeout_goes group s).keepsBut rfl
  | quenchTimeout group => exact (execQuenchTimeout_goes group s).keepsBut rfl
  | retireTimeout port => exact (execRetireTimeout_goes port s).keepsBut rfl
  | restoreSrStep port => exact (execRestoreSrStep_goes port s).keepsBut rfl
  | burstEnter => exact (execBurstEnter_goes s).keepsBut rfl
  | msWindow => exact (execMsWindow_goes s).keepsBut rfl
  | imbalance port => exact (execImbalance_goes port s).keepsBut rfl
  | senseFinding port => exact (execSenseFinding_goes port s).keepsBut rfl
  | coolantUpdate => exact (execCoolantUpdate_goes s).keepsBut rfl
  | voltageLimitTrip group => exact (execVoltageLimitTrip_goes group s).keepsBut rfl
  | estimatorUpdate => exact (execEstimatorUpdate_goes s).keepsBut rfl
  | fastStep parity => exact (execFastStep_goes parity s).keepsBut rfl
  | rideExit => exact (execRideExit_goes s).keepsBut rfl
  | slowStep => exact (execSlowStep_goes s).keepsBut rfl
  | fcHoldEnd => exact (execFcHoldEnd_goes s).keepsBut rfl
  | absenceDetect => exact (execAbsenceDetect_goes s).keepsBut rfl
  | absenceDecay => exact (execAbsenceDecay_goes s).keepsBut rfl
  | peerSilent peer => exact (execPeerSilent_goes peer s).keepsBut rfl
  | profileSample parity => exact (execProfileSample_goes parity s).keepsBut rfl
  | lockLost => exact (execLockLost_goes s).keepsBut rfl
  | coastTimeout => exact (execCoastTimeout_goes s).keepsBut rfl
  | wickNotice tag tw delta durUs => exact (execWickNotice_goes tag tw delta durUs s).keepsBut rfl
  | wickApply => exact (execWickApply_goes s).keepsBut rfl
  | planWritten => exact (execPlanWritten_goes s).keepsBut rfl
  | planActivateAtTime => exact (execPlanActivateAtTime_goes s).keepsBut rfl
  | planActTimeout => exact (execPlanActTimeout_goes s).keepsBut rfl
  | forecastWrite parity => exact (execForecastWrite_goes parity s).keepsBut rfl
  | governorStep => exact (execGovernorStep_goes s).keepsBut rfl
  | leadClaim => exact (execLeadClaim_goes s).keepsBut rfl
  | epoch => exact (execEpoch_goes s).keepsBut rfl
  | grantRelease => exact (execGrantRelease_goes s).keepsBut rfl
  | budgetTimeout req => exact (execBudgetTimeout_goes req s).keepsBut rfl
  | budgetReqRepeat req => exact (execBudgetReqRepeat_goes req s).keepsBut rfl
  | budgetExpiry => exact (execBudgetExpiry_goes s).keepsBut rfl
  | endpointStale endpoint => exact (execEndpointStale_goes endpoint s).keepsBut rfl
  | endpointDeregister endpoint => exact (execEndpointDeregister_goes endpoint s).keepsBut rfl
  | barrierTimeout tag => exact (execBarrierTimeout_goes tag s).keepsBut rfl
  | calFitUpdate => exact (execCalFitUpdate_goes s).keepsBut rfl
  | guleneDrain => exact (execGuleneDrain_goes s).keepsBut rfl
  | wick m => exact (execWick_goes m s).keepsBut rfl
  | report m => exact (execReport_goes m s).keepsBut rfl
  | lantern m => exact (execLantern_goes m s).keepsBut rfl
  | budget m => exact (execBudget_goes m s).keepsBut rfl
  | electReceived m => exact (execElectReceived_goes m s).keepsBut rfl
  | shareReceived m => exact (execShareReceived_goes m s).keepsBut rfl
  | alert m => exact (execAlert_goes m s).keepsBut rfl
  | grantReceived => exact (execGrantReceived_goes s).keepsBut rfl
  | bucketRefill => exact (execBucketRefill_goes s).keepsBut rfl
  | replayRecordExpiry rack sender => exact (execReplayRecordExpiry_goes rack sender s).keepsBut rfl
  | keyActivate row => exact (execKeyActivate_goes row s).keepsBut rfl
  | oldKeyExpiry row => exact (execOldKeyExpiry_goes row s).keepsBut rfl
  | isolated => exact (execIsolated_goes s).keepsBut rfl
  | ethernetLink offer => exact (execEthernetLink_goes offer s).keepsBut rfl
  | negFail => exact (execNegFail_goes s).keepsBut rfl
  | ptpSync sync origin => exact (execPtpSync_goes sync origin s).keepsBut rfl
  | ptpSyncTimeout => exact (execPtpSyncTimeout_goes s).keepsBut rfl
  | ptpSyncSend => exact (execPtpSyncSend_goes s).keepsBut rfl
  | tetherFast frame alignErr => exact (execTetherFast_goes frame alignErr s).keepsBut rfl
  | tetherFastSend => exact (execTetherFastSend_goes s).keepsBut rfl
  | roleDecision => exact (execRoleDecision_goes s).keepsBut rfl
  | partnerLost => exact (execPartnerLost_goes s).keepsBut rfl
  | partnerReplace => exact (execPartnerReplace_goes s).keepsBut rfl
  | stateCopySend => exact (execStateCopySend_goes s).keepsBut rfl
  | tetherBulk syncs type hdr data crc copy => exact (execTetherBulk_goes syncs type hdr data crc copy s).keepsBut rfl
  | takeoverPortCheck => exact (execTakeoverPortCheck_goes s).keepsBut rfl
  | handoverFail => exact (execHandoverFail_goes s).keepsBut rfl
  | takeoverTimeout => exact (execTakeoverTimeout_goes s).keepsBut rfl
  | captureSample => exact (execCaptureSample_goes s).keepsBut rfl
  | captureFrozen => exact (execCaptureFrozen_goes s).keepsBut rfl
  | flush => exact (execFlush_goes s).keepsBut rfl
  | flushEnd => exact (execFlushEnd_goes s).keepsBut rfl
  | logClearDone => exact (execLogClearDone_goes s).keepsBut rfl
  | opTimeTick die vinMain vinAux => exact (execOpTimeTick_goes die vinMain vinAux s).keepsBut rfl
  | powerOn => exact (execPowerOn_goes s).keepsBut rfl
  | resetN lowNs high => exact (execResetN_goes lowNs high s).keepsBut rfl
  | stewardWatchdog => exact (execStewardWatchdog_goes s).keepsBut rfl
  | loopWatchdog => exact (execLoopWatchdog_goes s).keepsBut rfl
  | pcieReset => exact (execPcieReset_goes s).keepsBut rfl
  | pfWarn asserted => exact (execPfWarn_goes asserted s).keepsBut rfl
  | vinMainLoss => exact (execVinMainLoss_goes s).keepsBut rfl
  | vinMainReturn => exact (execVinMainReturn_goes s).keepsBut rfl
  | retainedLoss deep => exact (execRetainedLoss_goes deep s).keepsBut rfl
  | releaseStep block fault => exact (execReleaseStep_goes block fault s).keepsBut rfl
  | releaseRetry block => exact (execReleaseRetry_goes block s).keepsBut rfl
  | rcClockFault domain => exact (execRcClockFault_goes domain s).keepsBut rfl
  | coldStart step ues => exact (execColdStart_goes step ues s).keepsBut rfl
  | warmStart step => exact (execWarmStart_goes step s).keepsBut rfl
  | checkpointWrite => exact (execCheckpointWrite_goes s).keepsBut rfl
  | failedStartClear => exact (execFailedStartClear_goes s).keepsBut rfl
  | svnRaise => exact (execSvnRaise_goes s).keepsBut rfl
  | quietEnter => exact (execQuietEnter_goes s).keepsBut rfl
  | thermalTrip => exact (execThermalTrip_goes s).keepsBut rfl
  | thermalReturn => exact (execThermalReturn_goes s).keepsBut rfl
  | snuffSense asserted => exact (execSnuffSense_goes asserted s).keepsBut rfl
  | ppsIn => exact (execPpsIn_goes s).keepsBut rfl
  | ppsOut rise => exact (execPpsOut_goes rise s).keepsBut rfl
  | smbusReadByte cmd => exact (execSmbusReadByte_goes cmd s).keepsBut rfl
  | smbusAlertResponse => exact (execSmbusAlertResponse_goes s).keepsBut rfl
  | getVersion => exact (execGetVersion_goes s).keepsBut rfl
  | getCapabilities => exact (execGetCapabilities_goes s).keepsBut rfl
  | negotiateAlgorithms pss3072 sha256 dmtf => exact (execNegotiateAlgorithms_goes pss3072 sha256 dmtf s).keepsBut rfl
  | getDigests => exact (execGetDigests_goes s).keepsBut rfl
  | getCertificate slot off len => exact (execGetCertificate_goes slot off len s).keepsBut rfl
  | challenge slot summary => exact (execChallenge_goes slot summary s).keepsBut rfl
  | getMeasurements index signed => exact (execGetMeasurements_goes index signed s).keepsBut rfl
  | calWriteDone good => exact (execCalWriteDone_goes good s).keepsBut rfl
  | imageStageDone => exact (execImageStageDone_goes s).keepsBut rfl
  | imageCommitDone good => exact (execImageCommitDone_goes good s).keepsBut rfl
  | pcieLinkUp speed width flit busMaster msixEnable => exact (execPcieLinkUp_goes speed width flit busMaster msixEnable s).keepsBut rfl
  | tetherTrain hdr heads trips serial => exact (execTetherTrain_goes hdr heads trips serial s).keepsBut rfl
  | announce a => exact (execAnnounce_goes a s).keepsBut rfl
  | delayResp received => exact (execDelayResp_goes received s).keepsBut rfl
  | delayReq => exact (execDelayReq_goes s).keepsBut rfl
  | neighbourDiscovery r => exact (execNeighbourDiscovery_goes r s).keepsBut rfl
  | dhcpReply addr => exact (execDhcpReply_goes addr s).keepsBut rfl
  | malformedDatagram => exact (execMalformedDatagram_goes s).keepsBut rfl
  | dramError ue channel addr ringWord => exact (execDramError_goes ue channel addr ringWord s).keepsBut rfl
  | dramCeWindow => exact (execDramCeWindow_goes s).keepsBut rfl
  | serdesMargin link margin hour => exact (execSerdesMargin_goes link margin hour s).keepsBut rfl
  | tempHigh up => exact (execTempHigh_goes up s).keepsBut rfl
  | jtagAccess ir => exact (execJtagAccess_goes ir s).keepsBut rfl

/-- Settles O53: the frame is the footprint of the command's row, and what reaches the reset state is the start's. -/
theorem commandFrames : Obligations.CommandFrames := by
  refine ⟨exec_keeps, fun c s wakesOnly t answer => ?_⟩
  have host : ∃ h, hdrOf c = some h := by
    cases c
    all_goals first
      | exact ⟨_, rfl⟩
      | cases wakesOnly
  obtain ⟨h, host⟩ := host
  obtain ⟨k, act, starts⟩ := exec_startsAs s host
  rw [starts.runs] at answer
  cases answer
  exact State.start_rc (starts.rc wakesOnly)

end Sys2Proof.Machine
end

section
/-!
The frames within an area: what an operation about one slot, port, group or queue does to the others.
-/

namespace Sys2Proof.Machine

open Sys2Proof

/-- A relation that every pass of a fold keeps holds from its start to its end. -/
theorem foldl_kept {α : Type} {R : State → State → Prop} (refl : ∀ s, R s s) (trans : ∀ s t v, R s t → R t v → R s v)
    {f : State → α → State} (each : ∀ v a, R v (f v a)) (l : List α) (s : State) : R s (l.foldl f s) := by
  induction l generalizing s with
  | nil => exact refl s
  | cons a l ih => exact trans _ _ _ (each s a) (ih (f s a))

/-- A started command is turned away, or acts, on a state that differs from the first in Quiet alone (R351, R405). -/
theorem State.start_cases (s : State) (h : CmdHdr) (k : Cmd) (act : State → State) : ∃ v, Touch 0x8000 s v ∧
    ((∃ st r, s.start h k act = v.complete h st r) ∨ s.start h k act = act v) := by
  have woken : Touch 0x8000 s (if wakes k.op then s.leaveQuiet else s) := Touch.cond s.leaveQuiet_touch (Touch.refl _ s)
  refine ⟨_, woken, ?_⟩
  unfold State.start
  dsimp only
  split
  · exact .inl ⟨_, _, rfl⟩
  · split
    · exact .inl ⟨_, _, rfl⟩
    · exact .inr rfl

/-! ### Slots -/

/-- The Loop Engine is the same but for the slots of a set. -/
structure SlotsKept (moved : Nat → Prop) (s t : State) : Prop where
  only : OnlySlots s t
  other : ∀ j, ¬ moved j → t.slot j = s.slot j

section
variable {moved : Nat → Prop} {s t v : State}

theorem SlotsKept.of_eq (same : t.le = s.le) : SlotsKept moved s t :=
  ⟨.of_eq same, fun j _ => by rw [State.slot, same, State.slot]⟩

theorem SlotsKept.of_touch {F : Nat} (g : Touch F s t) (outside : F.testBit 4 = false) : SlotsKept moved s t :=
  .of_eq (comp_bit g.le outside)

theorem SlotsKept.trans (first : SlotsKept moved s t) (second : SlotsKept moved t v) : SlotsKept moved s v :=
  ⟨first.only.trans second.only, fun j out => (second.other j out).trans (first.other j out)⟩

theorem SlotsKept.setSlot {k : Nat} (inside : moved k) (f : Slot → Slot) : SlotsKept moved s (s.setSlot k f) :=
  ⟨s.setSlot_onlySlots k f, fun j out => by
    have other : k ≠ j := fun e => out (e ▸ inside)
    simp [other]⟩

theorem SlotsKept.handSlot {k : Nat} (inside : moved k) (c : SlotChange) : SlotsKept moved s (s.handSlot k c) := by
  unfold State.handSlot
  split
  · exact .setSlot inside _
  · exact .setSlot inside _

theorem SlotsKept.start {h : CmdHdr} {k : Cmd} {act : State → State} (acts : ∀ v, SlotsKept moved v (act v)) :
    SlotsKept moved s (s.start h k act) := by
  obtain ⟨w, woken, ⟨st, r, away⟩ | acted⟩ := s.start_cases h k act
  · exact away ▸ .trans (.of_touch woken rfl) (.of_touch (w.complete_touch h st r) rfl)
  · exact acted ▸ .trans (.of_touch woken rfl) (acts w)

end

theorem execLoopOpen_slots (h : CmdHdr) (k : Nat) (s : State) :
    Leaves (.loopOpen h k) s (SlotsKept (· = k) s) := by
  intro t answer
  cases answer
  refine .start fun v => ?_
  split
  · exact .of_touch (v.done_touch h stOk 0) rfl
  · split
    · exact .trans (.handSlot (moved := (· = k)) rfl _) (.of_touch (State.done_touch _ _ _ _) rfl)
    · exact .trans (.handSlot (moved := (· = k)) rfl _) (.of_touch (State.await_touch _ _ _ _) rfl)

theorem execLoopClose_slots (h : CmdHdr) (k mode : Nat) (x : Int) (s : State) :
    Leaves (.loopClose h k mode x) s (SlotsKept (· = k) s) := by
  intro t answer
  cases answer
  refine .start fun v => ?_
  split
  · exact .of_touch (v.done_touch h stOk 0) rfl
  · exact .trans (.handSlot (moved := (· = k)) rfl _) (.of_touch (State.await_touch _ _ _ _) rfl)

theorem State.handBlocks_slots (s : State) (l : List Bytes) : SlotsKept (· ∈ blockSlots l) s (s.handBlocks l) := by
  have each : ∀ (m : List Bytes) (v : State), (∀ b ∈ m, b ∈ l) →
      SlotsKept (· ∈ blockSlots l) v (m.foldl (fun s b => s.handSlot (u b 0 1) (blockLoad b)) v) := by
    intro m
    induction m with
    | nil => exact fun v _ => .of_eq rfl
    | cons b m ih =>
      intro v inside
      have here : u b 0 1 ∈ blockSlots l := List.mem_map_of_mem (inside b List.mem_cons_self)
      exact .trans (.handSlot here _) (ih _ fun c member => inside c (List.mem_cons_of_mem b member))
  exact each l s fun _ member => member

theorem execLoopLoad_slots (h : CmdHdr) (buf : Buf) (n : Nat) (s : State) :
    Leaves (.loopLoad h buf n) s (SlotsKept (· ∈ blockSlots (blocksOf (s.bufRead buf 0 (576 * n)) n)) s) := by
  intro t answer
  cases answer
  refine .start fun v => ?_
  dsimp only
  split
  · exact .trans (v.handBlocks_slots _) (.of_touch (State.done_touch _ _ _ _) rfl)
  · exact .trans (v.handBlocks_slots _) (.of_touch (State.await_touch _ _ _ _) rfl)

theorem execLeTaperFrac_slots (k : Nat) (s : State) : Leaves (.leTaperFrac k) s (SlotsKept (· = k) s) := by
  intro t answer
  change execLeTaperFrac k s = _ at answer
  unfold execLeTaperFrac at answer
  dsimp only at answer
  split at answer
  · cases answer; exact .of_eq rfl
  · cases answer; exact .trans (.setSlot (moved := (· = k)) rfl _) (.of_eq rfl)

/-! ### Ports -/

/-- Every port but one, and every group, is the same. -/
structure PortsKept (p : Nat) (s t : State) : Prop where
  other : ∀ q, q ≠ p → t.port q = s.port q
  groups : t.groups = s.groups

section
variable {p : Nat} {s t v : State}

theorem PortsKept.of_eq (ports : t.ports = s.ports) (groups : t.groups = s.groups) : PortsKept p s t :=
  ⟨fun q _ => by rw [State.port, ports, State.port], groups⟩

theorem PortsKept.refl (s : State) : PortsKept p s s := .of_eq rfl rfl

theorem PortsKept.of_touch {F : Nat} (g : Touch F s t) (outside : F.testBit 5 = false) (groups : F.testBit 6 = false) :
    PortsKept p s t := .of_eq (comp_bit g.ports outside) (comp_bit g.groups groups)

theorem PortsKept.trans (first : PortsKept p s t) (second : PortsKept p t v) : PortsKept p s v :=
  ⟨fun q out => (second.other q out).trans (first.other q out), second.groups.trans first.groups⟩

theorem PortsKept.cond {c : Prop} [Decidable c] (yes : PortsKept p s t) (no : PortsKept p s v) :
    PortsKept p s (if c then t else v) := by
  split <;> assumption

theorem PortsKept.setPort (f : Port → Port) : PortsKept p s (s.setPort p f) :=
  ⟨fun q out => by simp [out.symm], rfl⟩

theorem PortsKept.record (code sev kind subject : Nat) (b : Bytes) : PortsKept p s (s.record code sev kind subject b) :=
  .of_touch (s.record_touch code sev kind subject b) rfl rfl

theorem PortsKept.completeWhere (w : Wait → Bool) (st r : Nat) : PortsKept p s (s.completeWhere w st r) :=
  .of_touch (s.completeWhere_touch w st r) rfl rfl

theorem PortsKept.svcFailed (x : SvcUse) : PortsKept p s (s.svcFailed p x) := by
  cases x
  case clearFault | readFault =>
    unfold State.svcFailed
    exact .trans (.setPort _) (.completeWhere _ _ _)
  case unlatch | discover => exact .refl s

theorem PortsKept.endAccess (r : SvcReq) : PortsKept p s (s.endAccess p r) :=
  .trans (.trans (.setPort _) (.record _ _ _ _ _)) (.svcFailed _)

theorem PortsKept.endAccesses : PortsKept p s (s.endAccesses p) :=
  .trans (.setPort _) (foldl_kept .refl (fun _ _ _ => .trans) (fun _ r => .endAccess r) _ _)

theorem PortsKept.svcSend (r : SvcReq) : PortsKept p s (s.svcSend p r) := .trans (.setPort _) (.of_eq rfl rfl)

theorem PortsKept.trainAttempt : PortsKept p s (s.trainAttempt p) := by
  unfold State.trainAttempt
  exact .trans (.trans .endAccesses (.setPort _)) (.cond (.of_eq rfl rfl) (.refl _))

theorem PortsKept.raisePort (cause q : Nat) : PortsKept p s (s.raisePort cause q) :=
  .of_touch (s.raisePort_touch cause q) rfl rfl

theorem PortsKept.failPort (step : Nat) : PortsKept p s (s.failPort p step) :=
  .trans (.trans (.trans .endAccesses (.setPort _)) (.record _ _ _ _ _)) (.raisePort _ _)

theorem PortsKept.trainAgain (step : Nat) : PortsKept p s (s.trainAgain p step) :=
  .cond (.failPort step) (.trans (.setPort _) .trainAttempt)

end

/-! ### Groups -/

/-- Every group but one, and every port, is the same. -/
structure GroupsKept (g : Nat) (s t : State) : Prop where
  other : ∀ j, j ≠ g → t.group j = s.group j
  ports : t.ports = s.ports

section
variable {g : Nat} {s t v : State}

theorem GroupsKept.of_eq (groups : t.groups = s.groups) (ports : t.ports = s.ports) : GroupsKept g s t :=
  ⟨fun j _ => by rw [State.group, groups, State.group], ports⟩

theorem GroupsKept.refl (s : State) : GroupsKept g s s := .of_eq rfl rfl

theorem GroupsKept.of_touch {F : Nat} (k : Touch F s t) (outside : F.testBit 6 = false) (ports : F.testBit 5 = false) :
    GroupsKept g s t := .of_eq (comp_bit k.groups outside) (comp_bit k.ports ports)

theorem GroupsKept.trans (first : GroupsKept g s t) (second : GroupsKept g t v) : GroupsKept g s v :=
  ⟨fun j out => (second.other j out).trans (first.other j out), second.ports.trans first.ports⟩

theorem GroupsKept.setGroup (f : Group → Group) : GroupsKept g s (s.setGroup g f) :=
  ⟨fun j out => by simp [out.symm], rfl⟩

end

/-! ### Queues -/

/-- Every command queue but one, the event queue, the commands in flight and the ledger are the same. -/
structure QueuesKept (q : Nat) (x y : HostIf) : Prop where
  other : ∀ j, j ≠ q → nth y.queues j {} = nth x.queues j {}
  events : y.eq = x.eq
  inflight : y.inflight = x.inflight
  parked : y.parked = x.parked
  ledger : y.ledger = x.ledger

theorem QueuesKept.refl {q : Nat} (x : HostIf) : QueuesKept q x x := ⟨fun _ _ => rfl, rfl, rfl, rfl, rfl⟩

theorem QueuesKept.trans {q : Nat} {x y z : HostIf} (first : QueuesKept q x y) (second : QueuesKept q y z) :
    QueuesKept q x z :=
  ⟨fun j out => (second.other j out).trans (first.other j out), second.events.trans first.events,
    second.inflight.trans first.inflight, second.parked.trans first.parked, second.ledger.trans first.ledger⟩

theorem QueuesKept.setQ {q : Nat} (x : HostIf) (f : CmdQueue → CmdQueue) : QueuesKept q x (x.setQ q f) :=
  ⟨fun _ out => nth_upd_other _ _ _ _ _ out.symm, rfl, rfl, rfl, rfl⟩

theorem QueuesKept.unstall {q : Nat} (x : HostIf) : QueuesKept q x (x.unstall q) := by
  unfold HostIf.unstall
  split
  · exact .setQ x _
  · exact .refl x

theorem QueuesKept.reject {q : Nat} (s : State) : QueuesKept q s.hq s.reject.hq := ⟨fun _ _ => rfl, rfl, rfl, rfl, rfl⟩

/-! ### Commands about one port, group or queue -/

/-- The commands about one port of O54. -/
theorem exec_portsKept {c : Instr} {p : Nat} (s : State)
    (about : (∃ f, c = .held p f) ∨ c = .svcDn p ∨ (∃ g, c = .svcTimeout p g) ∨ c = .portRetrain p ∨
      (∃ k, c = .trainingTimeout p k) ∨ (∃ m, c = .degraded p m) ∨ c = .restoreSrStep p ∨ (∃ ch, c = .tmMin (.port p ch)) ∨
      (∃ ch, c = .tmMax (.port p ch))) : Leaves c s (PortsKept p s) := by
  intro t answer
  rcases about with ⟨f, rfl⟩ | rfl | ⟨g, rfl⟩ | rfl | ⟨k, rfl⟩ | ⟨m, rfl⟩ | rfl | ⟨ch, rfl⟩ | ⟨ch, rfl⟩
  case inl => -- HELD
    change execHeld p f s = _ at answer
    unfold execHeld at answer
    (repeat' split at answer) <;> cases answer
    · exact .refl s
    · exact .setPort _
    · exact .refl s
    · exact .setPort _
  case inr.inl => -- SVC_DN
    change execSvcDn p s = _ at answer
    unfold execSvcDn at answer
    dsimp only at answer
    (repeat' split at answer) <;> cases answer
    · exact .refl s
    · exact .refl s
    · exact .trans (.setPort _) (.svcSend _)
  case inr.inr.inl => -- SVC_TIMEOUT
    change execSvcTimeout p g s = _ at answer
    unfold execSvcTimeout at answer
    dsimp only at answer
    (repeat' split at answer) <;> cases answer
    · exact .refl s
    · exact .trans (.setPort _) (.svcSend _)
    · exact .setPort _
    · exact .trans (.setPort _) (.endAccess _)
  case inr.inr.inr.inl => -- PORT_RETRAIN
    change execPortRetrain p s = _ at answer
    unfold execPortRetrain at answer
    dsimp only at answer
    split at answer <;> cases answer
    · exact .refl s
    · exact .trans (.setPort _) (.trans (.setPort _) .trainAttempt)
  case inr.inr.inr.inr.inl => -- TRAINING_TIMEOUT
    change execTrainingTimeout p k s = _ at answer
    unfold execTrainingTimeout at answer
    split at answer <;> cases answer
    · exact .trainAgain k
    · exact .refl s
  case inr.inr.inr.inr.inr.inl => -- DEGRADED
    change execDegraded p m s = _ at answer
    unfold execDegraded at answer
    dsimp only at answer
    (repeat' split at answer) <;> cases answer
    · exact .refl s
    · exact .trans (.trans (.setPort _) (.record _ _ _ _ _)) (.raisePort _ _)
    · exact .trans (.setPort _) (.of_touch (State.clearPort_touch _ 5 p) rfl rfl)
    · exact .setPort _
  case inr.inr.inr.inr.inr.inr.inl => -- RESTORE_SR_STEP
    change execRestoreSrStep p s = _ at answer
    unfold execRestoreSrStep at answer
    split at answer <;> cases answer
    · exact .trans (.setPort _) (.completeWhere _ _ _)
    · exact .refl s
  case inr.inr.inr.inr.inr.inr.inr.inl => -- TM_MIN
    change execTmMin (.port p ch) s = _ at answer
    unfold execTmMin at answer
    split at answer <;> cases answer
    · exact .of_eq rfl rfl
    · exact .trans (.setPort _) (.of_eq rfl rfl)
  case inr.inr.inr.inr.inr.inr.inr.inr => -- TM_MAX
    change execTmMax (.port p ch) s = _ at answer
    unfold execTmMax at answer
    split at answer <;> cases answer
    · exact .of_eq rfl rfl
    · exact .trans (.setPort _) (.of_eq rfl rfl)

/-- The commands about one group of O54. -/
theorem exec_groupsKept {c : Instr} {g : Nat} (s : State)
    (about : c = .regulationReached g ∨ c = .quenchTimeout g ∨ (∃ k d, c = .tmGrpSrcWrite g k d) ∨
      (∃ k, c = .tmMin (.group g k)) ∨ (∃ k, c = .tmMax (.group g k))) : Leaves c s (GroupsKept g s) := by
  intro t answer
  rcases about with rfl | rfl | ⟨k, d, rfl⟩ | ⟨k, rfl⟩ | ⟨k, rfl⟩
  case inl => -- REGULATION_REACHED
    change execRegulationReached g s = _ at answer
    unfold execRegulationReached at answer
    dsimp only at answer
    split at answer <;> cases answer
    · exact .trans (.setGroup _) (.of_touch (State.completeWhere_touch _ _ _ _) rfl rfl)
    · exact .refl s
  case inr.inl => -- QUENCH_TIMEOUT
    change execQuenchTimeout g s = _ at answer
    unfold execQuenchTimeout at answer
    split at answer <;> cases answer
    · exact .trans (.trans (.setGroup _) (.of_touch (State.completeWhere_touch _ _ _ _) rfl rfl))
        (.of_touch (State.busCheck_touch _) rfl rfl)
    · exact .refl s
  case inr.inr.inl => -- TM_GRP_SRC_WRITE
    change execTmGrpSrcWrite g k d s = _ at answer
    unfold execTmGrpSrcWrite at answer
    split at answer <;> cases answer
    · exact .setGroup _
    · exact .refl s
  case inr.inr.inr.inl => -- TM_MIN
    change execTmMin (.group g k) s = _ at answer
    unfold execTmMin at answer
    split at answer <;> cases answer
    · exact .of_eq rfl rfl
    · exact .trans (.setGroup _) (.of_eq rfl rfl)
  case inr.inr.inr.inr => -- TM_MAX
    change execTmMax (.group g k) s = _ at answer
    unfold execTmMax at answer
    split at answer <;> cases answer
    · exact .of_eq rfl rfl
    · exact .trans (.setGroup _) (.of_eq rfl rfl)

/-- The commands about one queue of O54. -/
theorem exec_queuesKept {c : Instr} {q : Nat} (s : State)
    (about : (∃ d, c = .sqTail q d) ∨ (∃ d, c = .cqHead q d) ∨ c = .cqStall q) :
    Leaves c s (fun t => QueuesKept q s.hq t.hq) := by
  intro t answer
  rcases about with ⟨d, rfl⟩ | ⟨d, rfl⟩ | rfl
  case inl => -- SQ_TAIL
    change execSqTail q d s = _ at answer
    unfold execSqTail at answer
    dsimp only at answer
    (repeat' split at answer) <;> cases answer
    · exact .refl _
    · exact .setQ _ _
    · exact .reject s
  case inr.inl => -- CQ_HEAD
    change execCqHead q d s = _ at answer
    unfold execCqHead at answer
    dsimp only at answer
    (repeat' split at answer) <;> cases answer
    · exact .refl _
    · exact .trans (.setQ _ _) (.unstall _)
    · exact .reject s
  case inr.inr => -- CQ_STALL
    cases answer
    split
    · exact .setQ _ _
    · exact .refl _

/-- Settles O54: each command is a chain of operations on its own slot, port, group or queue, and each such operation keeps the
others. -/
theorem itemFrames : Obligations.ItemFrames := by
  refine ⟨fun c h k mode v s about t answer => ?slot, fun h buf n s t answer => ?blocks, fun k s t answer => ?taper,
    fun c p s about t answer => ?port, fun c g s about t answer => ?group, fun c q s about t answer => ?queue⟩
  case slot =>
    obtain rfl | rfl := about
    · obtain ⟨only, other⟩ := execLoopOpen_slots h k s t answer; exact ⟨only, other⟩
    · obtain ⟨only, other⟩ := execLoopClose_slots h k mode v s t answer; exact ⟨only, other⟩
  case blocks => obtain ⟨only, other⟩ := execLoopLoad_slots h buf n s t answer; exact ⟨only, other⟩
  case taper => obtain ⟨only, other⟩ := execLeTaperFrac_slots k s t answer; exact ⟨only, other⟩
  case port => obtain ⟨other, groups⟩ := exec_portsKept s about t answer; exact ⟨other, groups⟩
  case group => obtain ⟨other, ports⟩ := exec_groupsKept s about t answer; exact ⟨other, ports⟩
  case queue =>
    obtain ⟨other, events, inflight, parked, ledger⟩ := exec_queuesKept s about t answer
    exact ⟨other, events, inflight, parked, ledger⟩

end Sys2Proof.Machine
end

section
/-!
R339, R342: the order in which a completion leaves. Its entry, its tail and its message stand on top of the data returned.
-/

namespace Sys2Proof.Machine

open Sys2Proof

/-! ### Returned data -/

section
variable (s : State) (b : Buf) (data : Bytes)

theorem State.bufWrite_out : (s.bufWrite b data).out =
    (if bufInDma b then [] else [Output.hostWrite (bufBase b % 2 ^ 64) data]) ++ s.out := by
  unfold State.bufWrite
  split <;> rfl

@[simp] theorem State.bufWrite_hq : (s.bufWrite b data).hq = s.hq := by
  unfold State.bufWrite
  split <;> rfl

@[simp] theorem State.bufWrite_standbyFlag : (s.bufWrite b data).standbyFlag = s.standbyFlag := by
  unfold State.bufWrite
  split <;> rfl

end

/-! ### Messages of a completion queue -/

namespace HostSide
variable (x : HostSide) (q : Nat)

theorem signalCq_off (off : x.hq.msixEnable = false) : x.signalCq q = x := by
  simp [signalCq, off]

/-- With COAL_CNT 0 every completion to signal has its message. -/
theorem signalCq_due (on : x.hq.msixEnable = true) (each : (nth x.hq.queues q {}).coalCnt = 0)
    (waits : 0 < (nth x.hq.queues q {}).unsig) : ∃ z : HostSide, x.signalCq q = z.msix (nth x.hq.queues q {}).vec ∧
      z.hq.msix = x.hq.msix ∧ z.hq.pba = x.hq.pba ∧ z.out = x.out := by
  refine ⟨{ x with hq := { x.hq with queues := upd x.hq.queues q (fun c => { c with unsig := 0 }) } }, ?_, rfl, rfl, rfl⟩
  simp [signalCq, msixDue, on, each, waits]

theorem msix_queues (v : Nat) : (x.msix v).hq.queues = x.hq.queues := by
  unfold msix
  dsimp only
  split <;> rfl

theorem msix_masked {v : Nat} (masked : bitAt (nth x.hq.msix v {}).ctl.toNat 0 = true) :
    x.msix v = { x with hq := { x.hq with pba := setBit x.hq.pba v true } } := by
  unfold msix
  exact if_pos masked

theorem msix_sent {v : Nat} (open_ : bitAt (nth x.hq.msix v {}).ctl.toNat 0 = false) : x.msix v =
    { x with out := .msix ((nth x.hq.msix v {}).addrHi.toNat * 2 ^ 32 + (nth x.hq.msix v {}).addrLo.toNat)
                      (nth x.hq.msix v {}).data.toNat :: x.out } := by
  unfold msix
  exact if_neg (by rw [open_]; decide)

theorem signalCq_cqTail : (nth (x.signalCq q).hq.queues q {}).cqTail = (nth x.hq.queues q {}).cqTail := by
  unfold signalCq
  dsimp only
  split
  · rw [msix_queues, nth_upd]
    split <;> rfl
  · rfl

/-- What the signal of a completion queue adds to the outputs: at most one message, and none where MSI-X is off or the
vector masked (R342). -/
theorem signalCq_message : ∃ m, (x.signalCq q).out = m ++ x.out ∧ (x.hq.msixEnable = false → m = []) ∧
    (x.hq.msixEnable = true → (nth x.hq.queues q {}).coalCnt = 0 → 0 < (nth x.hq.queues q {}).unsig →
      let k := (nth x.hq.queues q {}).vec
      let v := nth x.hq.msix k {}
      if bitAt v.ctl.toNat 0 then m = [] ∧ (x.signalCq q).hq.pba = setBit x.hq.pba k true
      else m = [.msix (v.addrHi.toNat * 2 ^ 32 + v.addrLo.toNat) v.data.toNat]) := by
  cases on : x.hq.msixEnable
  case false => exact ⟨[], by rw [x.signalCq_off q on]; rfl, fun _ => rfl, fun is => absurd is Bool.false_ne_true⟩
  case true =>
    by_cases now : (nth x.hq.queues q {}).coalCnt = 0 ∧ 0 < (nth x.hq.queues q {}).unsig
    case neg =>
      obtain ⟨m, more, -⟩ := ((HostTouch.refl x).signalCq q).host
      exact ⟨m, more, fun off => absurd off.symm Bool.false_ne_true, fun _ each waits => absurd ⟨each, waits⟩ now⟩
    case pos =>
      obtain ⟨z, due, table, bits, out⟩ := x.signalCq_due q on now.1 now.2
      rw [due, ← table, ← bits, ← out]
      cases mask : bitAt (nth z.hq.msix (nth x.hq.queues q {}).vec {}).ctl.toNat 0
      case false =>
        rw [z.msix_sent mask]
        exact ⟨[_], rfl, fun off => absurd off.symm Bool.false_ne_true, fun _ _ _ => by
          dsimp only; rw [mask, if_neg Bool.false_ne_true]⟩
      case true =>
        rw [z.msix_masked mask]
        exact ⟨[], rfl, fun off => absurd off.symm Bool.false_ne_true, fun _ _ _ => by
          dsimp only; rw [mask, if_pos rfl]; exact ⟨rfl, rfl⟩⟩

/-! ### An entry posted -/

/-- The host side with an entry, the new tail and one more completion to signal, before the message (R339, R353). -/
def posted (x : HostSide) (cq tag status cflags queue idx result : Nat) : HostSide :=
  let c := nth x.hq.queues cq {}
  let t := (c.cqTail + 1) % c.cqN
  { hq := { x.hq with queues := upd x.hq.queues cq (fun c => { c with cqTail := t, unsig := c.unsig + 1 }) }
    mem := Mem.writeN 0 (Mem.writeN 0 x.mem ((c.cqBase + 16 * c.cqTail) % 2 ^ 64) (completionBytes tag status cflags queue idx result))
      ((x.hq.wbBase + 4 * cq) % 2 ^ 64) (leBytes 4 t)
    out := [.hostWrite ((x.hq.wbBase + 4 * cq) % 2 ^ 64) (leBytes 4 t),
      .hostWrite ((c.cqBase + 16 * c.cqTail) % 2 ^ 64) (completionBytes tag status cflags queue idx result),
      .completion tag status cflags queue idx result] ++ x.out }

variable {x q}

theorem postCompletion_eq {tag st fl qq ix r : Nat} (present : (nth x.hq.queues q {}).present = true)
    (sound : (nth x.hq.queues q {}).faulted = false) (ring : (nth x.hq.queues q {}).cqN ≠ 0) :
    x.postCompletion q tag st fl qq ix r = (x.posted q tag st fl qq ix r).signalCq q := by
  unfold postCompletion
  dsimp only
  rw [if_pos (by simp [present, sound, ring])]
  rfl

theorem posted_queue {tag st fl qq ix r : Nat} (inside : q < x.hq.queues.length) :
    nth (x.posted q tag st fl qq ix r).hq.queues q {} = { nth x.hq.queues q {} with
      cqTail := ((nth x.hq.queues q {}).cqTail + 1) % (nth x.hq.queues q {}).cqN
      unsig := (nth x.hq.queues q {}).unsig + 1 } :=
  nth_upd_same _ _ _ _ inside

end HostSide

/-- Where no command waits to delete a queue, a completion is its entry and the end of its flight. -/
theorem HostSide.complete_eq {x : HostSide} (none_ : ∀ f ∈ x.hq.inflight, ∀ k, f.wait ≠ .queueDelete k) (standby : Bool)
    (c : CmdHdr) (st r : Nat) : x.complete standby c st r = x.complete1 standby c st r := by
  refine HostSide.settleDeletes_none _ _ _ fun f member => none_ f ?_
  have still := (List.mem_filter.mp member).1
  rwa [HostSide.postCompletion_inflight] at still

/-- Settles O55: the buffer's write, then `HostSide.posted`, then what `signalCq` adds: nothing, a pending bit, or one message. -/
theorem completionWritesInOrder : Obligations.CompletionWritesInOrder := by
  intro h buf s accepted shape good inside none_ c entry present sound ring
  let v := s.bufWrite buf s.identity
  let y := v.hostSide.posted h.queue h.tag stOk (if s.standbyFlag then 2 else 0) h.queue h.sqIndex 0
  have hq : v.hostSide.hq = s.hq := State.bufWrite_hq ..
  have runs : exec (.devIdentify h buf) s = .next (v.done h stOk 0) :=
    congrArg _ (State.start_acts accepted _ _ (by simp) rfl (by simp [param, need, good]) (.inr rfl) rfl)
  have ended : v.hostSide.complete v.standbyFlag h stOk 0 =
      { y.signalCq h.queue with hq := { (y.signalCq h.queue).hq with
          inflight := (y.signalCq h.queue).hq.inflight.filter (fun f => f.hdr != h) } } := by
    rw [HostSide.complete_eq (hq ▸ none_), HostSide.complete1, State.bufWrite_standbyFlag,
      HostSide.postCompletion_eq (hq ▸ present) (hq ▸ sound) (hq ▸ ring)]
  have queue : nth y.hq.queues h.queue {} = { c with cqTail := (c.cqTail + 1) % c.cqN, unsig := c.unsig + 1 } := by
    have here := HostSide.posted_queue (x := v.hostSide) (tag := h.tag) (st := stOk) (fl := if s.standbyFlag then 2 else 0)
      (qq := h.queue) (ix := h.sqIndex) (r := 0) (q := h.queue) (by rw [hq, shape.queues]; exact inside)
    rw [hq] at here
    exact here
  have out : y.out = [.hostWrite ((s.hq.wbBase + 4 * h.queue) % 2 ^ 64) (leBytes 4 ((c.cqTail + 1) % c.cqN)),
      .hostWrite ((c.cqBase + 16 * c.cqTail) % 2 ^ 64) entry,
      .completion h.tag stOk (if s.standbyFlag then 2 else 0) h.queue h.sqIndex 0] ++
      (if bufInDma buf then [] else [.hostWrite (bufBase buf % 2 ^ 64) s.identity]) ++ s.out := by
    rw [List.append_assoc, ← State.bufWrite_out]
    show HostSide.out (HostSide.posted _ _ _ _ _ _ _ _) = _
    unfold HostSide.posted
    rw [hq]
    rfl
  refine ⟨_, runs, ?tail, ?order⟩
  case tail =>
    show (nth (v.hostSide.complete v.standbyFlag h stOk 0).hq.queues h.queue {}).cqTail = _
    rw [ended]
    exact (y.signalCq_cqTail h.queue).trans (congrArg CmdQueue.cqTail queue)
  case order =>
    have left : (v.done h stOk 0).out = (y.signalCq h.queue).out ∧ (v.done h stOk 0).hq.pba = (y.signalCq h.queue).hq.pba := by
      show (v.hostSide.complete v.standbyFlag h stOk 0).out = _ ∧ (v.hostSide.complete v.standbyFlag h stOk 0).hq.pba = _
      rw [ended]
      exact ⟨rfl, rfl⟩
    obtain ⟨m, sent, off, on⟩ := y.signalCq_message h.queue
    have enable : y.hq.msixEnable = s.hq.msixEnable := by
      show v.hostSide.hq.msixEnable = _
      rw [hq]
    have table : y.hq.msix = s.hq.msix := by
      show v.hostSide.hq.msix = _
      rw [hq]
    have bits : y.hq.pba = s.hq.pba := by
      show v.hostSide.hq.pba = _
      rw [hq]
    rw [queue, enable, table, bits, ← left.2] at on
    refine ⟨m, ?_, fun is => off (enable.trans is), fun is each => on is each (Nat.succ_pos _)⟩
    rw [left.1, sent, out, List.append_assoc m, List.append_assoc m]

end Sys2Proof.Machine
end

section
/-!
How the statements about host commands begin: a command that no check refuses leaves what its effect leaves (R351, R357).
-/

namespace Sys2Proof

open Sys2Proof.Machine

variable {c : Instr} {h : CmdHdr} {s : State} {k : Cmd} {act : State → State} {P : State → Prop}

theorem Accepted.completes (a : Accepted s h) (is : exec c s = .next (s.start h k act)) (early : k.early = true)
    (role : k.activeOnly = false) (zero : k.zero = false) (entry : k.chk = none) (object : k.chk6 = none) (leaves : P (act s)) :
    Completes c s P :=
  ⟨_, is, by rwa [State.start_acts a k act (fun only => absurd (role.symm.trans only) Bool.false_ne_true) zero entry
    (.inr early) object]⟩

theorem AcceptedRun.completes (a : AcceptedRun s h) (is : exec c s = .next (s.start h k act))
    (role : k.activeOnly = false) (zero : k.zero = false) (entry : k.chk = none) (object : k.chk6 = none) (leaves : P (act s)) :
    Completes c s P :=
  ⟨_, is, by rwa [State.start_acts a.toAccepted k act (fun only => absurd (role.symm.trans only) Bool.false_ne_true) zero entry
    (.inl a.run) object]⟩

theorem AcceptedActive.completes (a : AcceptedActive s h) (is : exec c s = .next (s.start h k act))
    (zero : k.zero = false) (entry : k.chk = none) (object : k.chk6 = none) (leaves : P (act s)) : Completes c s P :=
  ⟨_, is, by rwa [State.start_acts a.toAccepted k act (fun _ => a.role) zero entry (.inl a.run) object]⟩

/-- An answer in a state that has kept the role and put out more is an answer of the state before. -/
theorem Answered.since {v t : State} {st r : Nat} (a : Answered v t h st r) (role : v.role = s.role)
    (more : ∃ l, v.out = l ++ s.out) : Answered s t h st r := by
  obtain ⟨l, out, member⟩ := a
  obtain ⟨l', out'⟩ := more
  refine ⟨l ++ l', by rw [out, out', List.append_assoc], List.mem_append_left _ ?_⟩
  unfold State.standbyFlag at member ⊢
  rwa [role] at member

end Sys2Proof
end

section
/-!
R365 to R367: the device and queue commands.
-/

namespace Sys2Proof.Machine

open Sys2Proof

/-- Data put in a buffer and an answer. -/
theorem State.bufWrite_done_answers (s : State) (b : Buf) (data : Bytes) (h : CmdHdr) (st r : Nat) :
    Stored s ((s.bufWrite b data).done h st r) b data ∧ Answered s ((s.bufWrite b data).done h st r) h st r :=
  ⟨Stored.of (State.complete_touch ..) rfl, State.done_answers (State.bufWrite_touch ..) rfl h st r⟩

theorem Waits.await (s : State) (h : CmdHdr) (op : Nat) (w : Wait) : Waits (s.await h op w) h w :=
  ⟨_, List.mem_append_right _ (List.mem_singleton.mpr rfl), rfl, rfl⟩

/-- A settling where only the last command in flight waits to delete a queue. -/
theorem HostSide.settleDeletes_last {x : HostSide} {l : List Flight} {h : CmdHdr} {op q no : Nat}
    (flights : x.hq.inflight = l ++ [⟨h, op, .queueDelete q, no⟩]) (none_ : ∀ f ∈ l, ∀ k, f.wait ≠ .queueDelete k) (n : Nat)
    (b : Bool) : x.settleDeletes (n + 1) b =
      if x.hq.inFlight q = 0 then
        HostSide.settleDeletes n b (HostSide.complete1 { x with hq := { x.hq with queues := x.hq.queues.set q {} } } b h 0 0)
      else x := by
  rw [settleDeletes, flights, List.find?_append, List.find?_eq_none.mpr, Option.none_or, List.find?_singleton]
  · by_cases empty : x.hq.inFlight q = 0 <;> simp [empty]
  · intro f member
    have other := none_ f member
    split
    next is => exact absurd is (other _)
    next => exact Bool.false_ne_true

/-- The state in which QUEUE_DELETE waits for the commands in flight of its queue (R334, R367). -/
def State.deleting (s : State) (h : CmdHdr) (q : Nat) : State :=
  (s.setHq (fun x => x.setQ q (fun c => { c with deleting := true }))).await h 0x0111 (.queueDelete q)

theorem State.deleting_inFlight {s : State} {h : CmdHdr} {q : Nat} (other : h.queue ≠ q) :
    (s.deleting h q).hq.inFlight q = s.hq.inFlight q := by
  unfold HostIf.inFlight
  rw [show (s.deleting h q).hq.inflight = s.hq.inflight ++ [_] from rfl, List.filter_append]
  simp [other]
  rfl

/-- Settles O1: the checks pass; QUEUE_DELETE ends, or not, with the settling of its own deletion (`HostSide.settleDeletes_last`). -/
theorem deviceCommandsComplete : Obligations.DeviceCommandsComplete := by
  refine ⟨fun h buf s a good => ?identify, fun h buf s a good => ?caps, ?create, ?delete⟩
  case identify => 
    exact a.completes rfl rfl rfl rfl (by simp [param, need, good]) rfl (s.bufWrite_done_answers ..)
  case caps => 
    exact a.completes rfl rfl rfl rfl (by simp [param, need, good]) rfl (s.bufWrite_done_answers ..)
  case create =>
    intro h q vec cnt us sqB cqB sqN cqN s a low high vector sq cq ring ring' fresh master other four none_
    refine a.completes rfl rfl rfl rfl ?_ ?_ ?_
    · simp [param, need, low, high, vector, sq, cq, ring, ring']
    · simp [param, need, fresh, master]
    · let v := (s.setHq (fun x => x.setQ q (fun _ => { present := true, sqBase := sqB, cqBase := cqB, sqN := sqN, cqN := cqN
                                                       vec := vec, coalCnt := cnt % 256, coalUs := us % 256 })))
      let w := v.withHost ((v.hostSide.writeBack (0x20 + 4 * q) 0).writeBack (4 * q) 0)
      have later : Touch 0x810000 w (w.done h stOk 0) := State.complete_touch ..
      refine ⟨?_, Puts.later ⟨[_, _], rfl, .tail _ (.head _)⟩ later, Puts.later ⟨[_, _], rfl, .head _⟩ later, Answered.since (State.complete_answers w h stOk 0) rfl ⟨[_, _], rfl⟩⟩
      exact (State.complete_queue w h stOk 0 q other none_).trans (nth_upd_same _ _ _ _ (by omega))
  case delete =>
    intro h q s a low high other present four none_
    let v := s.deleting h q
    have settled := HostSide.settleDeletes_last (x := v.hostSide) rfl none_ 3 v.standbyFlag
    have runs {x : HostSide} {P : State → Prop} (ends : v.hostSide.settleDeletes 4 v.standbyFlag = x)
        (leaves : P (v.withHost x)) : Completes (.queueDelete h q) s P :=
      a.completes rfl rfl rfl rfl (by simp [param, need, low, high, other]) (by simp [param, need, present])
        (by rw [← ends] at leaves; exact leaves)
    rw [show v.hostSide.hq.inFlight q = s.hq.inFlight q from State.deleting_inFlight other] at settled
    constructor
    · intro busy
      rw [if_neg busy] at settled
      exact runs settled ⟨congrArg CmdQueue.deleting (nth_upd_same _ _ _ _ (by omega)), Waits.await ..⟩
    · intro idle
      let x : HostSide := { v.hostSide with hq := { v.hq with queues := v.hq.queues.set q {} } }
      have left : (x.complete1 v.standbyFlag h 0 0).settleDeletes 3 v.standbyFlag = x.complete1 v.standbyFlag h 0 0 := by
        refine HostSide.settleDeletes_none _ _ _ fun f member k => ?_
        obtain ⟨still, not⟩ := List.mem_filter.mp member
        rw [HostSide.postCompletion_inflight] at still
        rcases List.mem_append.mp still with old | new
        · exact none_ f old k
        · rw [List.mem_singleton.mp new] at not
          simp at not
      rw [if_pos idle] at settled
      refine runs (settled.trans left) ⟨?_, ?_⟩
      · refine (HostSide.postCompletion_queue _ _ _ _ _ _ _ _ _ other).trans ?_
        show ((s.hq.queues.modify q _).set q {}).getD q {} = _
        rw [List.getD_eq_getElem?_getD, List.getElem?_set_self (by simp; omega)]
        rfl
      · exact HostTouch.postCompletion_puts x _ _ _ _ _ _ _
end Sys2Proof.Machine
end

section
/-!
R169, R171, R375: STORE_MODE and PLAN_LIMITS.
-/

namespace Sys2Proof.Machine

open Sys2Proof

/-- A command one of whose fields is wrong is answered and does nothing more (R355, R357). -/
theorem State.start_fieldRefused {s : State} {h : CmdHdr} (a : Accepted s h) {k : Cmd} (act : State → State) {st r : Nat}
    (role : k.activeOnly = true → s.role = .active) (zero : k.zero = false) (entry : k.chk = some (st, r)) :
    s.start h k act = s.complete h st r := by
  have still : (if wakes k.op then s.leaveQuiet else s) = s := by
    rw [State.leaveQuiet, if_neg a.awake, ite_self]
  have refused : s.refusal k = some (st, r) := by
    unfold State.refusal
    cases only : k.activeOnly <;> simp [zero, entry, role, only]
  unfold State.start
  dsimp only
  rw [still, refused]

/-- PLAN_LIMITS with a table that can be taken. -/
theorem execPlanLimits_good {h : CmdHdr} {buf : Buf} {l : List Nat} {s : State}
    (good : limParse s.sh.ratingW (s.bufRead buf 0 64) = .inr l) : exec (.planLimits h buf) s =
      .next (s.start h { op := 0x0502, activeOnly := true, chk := param (buf.len = 64) 0x10 <|> param (bufOk buf 64) 0x08 }
        (fun s => (s.setPl (fun p => { p with limNext := some l })).await h 0x0502 .planLimits)) := by
  show execPlanLimits h buf s = _
  rw [execPlanLimits, good]

/-- PLAN_LIMITS with a field that is wrong. -/
theorem execPlanLimits_bad {h : CmdHdr} {buf : Buf} {off : Nat} {s : State}
    (bad : limParse s.sh.ratingW (s.bufRead buf 0 64) = .inl off) : exec (.planLimits h buf) s =
      .next (s.start h
        { op := 0x0502, activeOnly := true,
          chk := param (buf.len = 64) 0x10 <|> param (bufOk buf 64) 0x08 <|> some (stBadParam, bufField 0x08 off) } id) := by
  show execPlanLimits h buf s = _
  rw [execPlanLimits, bad]

/-- Settles O13: each effect hands its change over and waits; a wrong field is an entry check that fails. -/
theorem planisherCommandsComplete : Obligations.PlanisherCommandsComplete := by
  refine ⟨fun h m s a inside => ?mode, fun h buf l s a long good parsed => ?limits, fun h buf off s a long good parsed => ?refused⟩
  case mode => exact a.completes rfl rfl (by simp [param, need, inside]) rfl ⟨rfl, Waits.await ..⟩
  case limits =>
    exact a.completes (execPlanLimits_good parsed) rfl (by simp [param, need, long, good]) rfl ⟨rfl, Waits.await ..⟩
  case refused =>
    refine ⟨_, execPlanLimits_bad parsed, ?_⟩
    rw [State.start_fieldRefused a.toAccepted _ (fun _ => a.role) rfl (st := stBadParam) (r := bufField 0x08 off)
      (by simp [param, need, long, good])]
    exact ⟨rfl, State.complete_answers ..⟩
end Sys2Proof.Machine
end

section
/-!
R303 to R305, R379: the commands of the capture recorder.
-/

namespace Sys2Proof.Machine

open Sys2Proof

/-- Settles O16: by action, and within an action by the state of the recorder. -/
theorem captureCommandsComplete : Obligations.CaptureCommandsComplete := by
  refine ⟨?arm, fun h s a => ⟨?trigger, ?triggerIdle⟩, fun h s a => ⟨?freeze, ?freezeIdle⟩, fun h s a => ⟨?release, ?releaseIdle⟩, ?read⟩
  case arm =>
    intro h buf n s a some_ long channels good fields lanes idle
    have lanes' : (List.range n).find? (fun k => !s.crLanesOk (crRecord (slice (s.bufRead buf 0 (16 * (n + 1))) (16 * k) 16))) =
        none := List.find?_eq_none.mpr fun k inside => by simp [lanes k (List.mem_range.mp inside)]
    refine a.completes rfl rfl rfl rfl (by simp [need, param, some_, long, channels, good, fields])
      (by rcases idle with idle | idle <;> simp [lanes', need, idle]) ?_
    exact ⟨rfl, rfl, rfl, rfl, rfl, Answered.since (State.complete_answers ..) rfl ⟨[], rfl⟩⟩
  case trigger =>
    refine fun armed => a.completes rfl rfl rfl rfl rfl rfl ?_
    rw [if_pos armed]
    exact ⟨rfl, rfl, rfl, Answered.since (State.complete_answers ..) rfl ⟨[], rfl⟩⟩
  case triggerIdle =>
    refine fun armed => a.completes rfl rfl rfl rfl rfl rfl ?_
    rw [if_neg armed]
    exact ⟨rfl, State.complete_answers ..⟩
  case freeze =>
    refine fun armed => a.completes rfl rfl rfl rfl rfl rfl ?_
    rw [if_pos armed]
    exact ⟨rfl, State.record_newest (s.setCr fun r => { r with state := .frozen }) .., State.done_answers (s.crFreeze_touch) rfl ..⟩
  case freezeIdle =>
    refine fun armed => a.completes rfl rfl rfl rfl rfl rfl ?_
    rw [if_neg armed]
    exact ⟨rfl, State.complete_answers ..⟩
  case release =>
    refine fun held => a.completes rfl rfl rfl rfl rfl rfl ?_
    rw [if_pos held]
    exact ⟨rfl, Answered.since (State.complete_answers ..) rfl ⟨[], rfl⟩⟩
  case releaseIdle =>
    refine fun free => a.completes rfl rfl rfl rfl rfl rfl ?_
    rw [if_neg (by rcases free with free | free <;> simp [free])]
    exact ⟨rfl, State.complete_answers ..⟩
  case read =>
    intro h buf ch a' n c s a some_ good inside frozen chan held
    refine a.completes rfl rfl rfl (by simp [some_]) (by simp [need, param, good, inside]) (by simp [need, param, frozen, chan, held]) ?_
    rw [chan]
    dsimp only
    let v := s.setCr (fun r => { r with ue := satAdd 32 r.ue (r.badCount (c.addrs a' n)) })
    have data : (c.addrs a' n).flatMap (fun x => s.cr.readRing x 2) =
        (List.range n).flatMap (fun k => s.cr.readRing (c.base + 2 * ((a' + k) % c.len)) 2) := List.flatMap_map ..
    rw [data]
    exact ⟨(v.bufWrite_done_answers ..).1, comp_bit (v.bufWrite_touch ..).cr rfl,
      Answered.since (v.bufWrite_done_answers ..).2 rfl ⟨[], rfl⟩⟩
end Sys2Proof.Machine
end

section
/-!
R292, R293, R319, R320, R381 to R383: LOG_READ, LOG_CLEAR, CAL_READ, CAL_WRITE and the end of its write.
-/

namespace Sys2Proof

open Sys2Proof.Machine

/-- What was the newest record of a state that has the recorder of a later one is the newest record there. -/
theorem Newest.kept {F : Nat} {s v t : State} {code sev kind subject : Nat} {p : Bytes} (n : Newest s v code sev kind subject p)
    (g : Touch F v t) (outside : F.testBit 14 = false) : Newest s t code sev kind subject p := by
  unfold Newest at n ⊢
  rw [comp_bit g.ev outside, n]

end Sys2Proof

namespace Sys2Proof.Machine

open Sys2Proof

/-- The host interface without what the event queue moves in it. -/
def HostIf.sansEvents (q : HostIf) : HostIf := { q with pba := 0, eq := {} }

section
variable (x : HostSide)

theorem HostSide.msix_sansEvents (v : Nat) : (x.msix v).hq.sansEvents = x.hq.sansEvents := by
  unfold HostSide.msix
  dsimp only
  split <;> rfl

theorem HostSide.signalEq_sansEvents (urgent : Bool) : (x.signalEq urgent).hq.sansEvents = x.hq.sansEvents := by
  unfold HostSide.signalEq
  dsimp only
  split
  · exact HostSide.msix_sansEvents ..
  · rfl

theorem HostSide.queueEvent_sansEvents (m : Nat) (r : Rec) : (x.queueEvent m r).hq.sansEvents = x.hq.sansEvents := by
  unfold HostSide.queueEvent HostSide.postEvent
  dsimp only
  split
  · rfl
  · split
    · exact HostSide.signalEq_sansEvents ..
    · rfl

end

section
variable {p q : HostIf} (same : p.sansEvents = q.sansEvents)
include same

theorem HostIf.inflight_of_sansEvents : p.inflight = q.inflight :=
  show p.sansEvents.inflight = q.sansEvents.inflight from congrArg HostIf.inflight same

theorem HostIf.ledger_of_sansEvents : p.ledger = q.ledger :=
  show p.sansEvents.ledger = q.sansEvents.ledger from congrArg HostIf.ledger same

theorem HostIf.flights_of_sansEvents : p.flights = q.flights :=
  show p.sansEvents.flights = q.sansEvents.flights from congrArg HostIf.flights same

end

/-- A record moves the event queue alone. -/
theorem State.record_sansEvents (s : State) (code sev kind subject : Nat) (p : Bytes) :
    (s.record code sev kind subject p).hq.sansEvents = s.hq.sansEvents := HostSide.queueEvent_sansEvents ..

/-- A record leaves the commands in flight. -/
@[simp] theorem State.record_inflight (s : State) (code sev kind subject : Nat) (p : Bytes) :
    (s.record code sev kind subject p).hq.inflight = s.hq.inflight := HostIf.inflight_of_sansEvents (s.record_sansEvents ..)

/-- The commands that wait for one thing are answered, as from a state before that has kept the role and the waits. -/
theorem State.completeWhere_answersSince {F : Nat} {s v : State} {w : Wait} (g : Touch F s v) (outside : F.testBit 2 = false)
    (flights : v.hq.inflight = s.hq.inflight) (st r : Nat) :
    ∀ f ∈ s.hq.inflight, f.wait = w → Answered s (v.completeWhere (· == w) st r) f.hdr st r := fun f member is =>
  Answered.before g outside (State.completeWhere_answers v _ st r f (flights ▸ member) (by simp [is]))

/-- The erasure of a log area goes on as it began. -/
theorem State.eraseArea_keeps (s : State) (a : Nat) :
    (s.eraseArea a).ev.clearing = s.ev.clearing ∧ (s.eraseArea a).se.authSeq = s.se.authSeq := by
  unfold State.eraseArea State.raiseCause
  dsimp only
  split
  · split <;> exact ⟨rfl, rfl⟩
  · exact ⟨rfl, rfl⟩

/-- Settles O17: by command; a page whose read-back differs is cut at the free number that `State.calCut` takes. -/
theorem logAndCalibrationCommandsComplete : Obligations.LogAndCalibrationCommandsComplete := by
  refine ⟨fun h buf a n s ok some_ good => ⟨?ring, ?log, ?flush⟩, ?clear, ?read, ?write, fun img s writing => ⟨?ended, ?cut⟩⟩
  case ring =>
    intro few held
    refine ok.completes rfl rfl rfl (by simp [some_]) (by simp [need, param, good, few])
      (by simpa [need, param, Option.isSome_iff_ne_none] using held) ?_
    rw [if_pos rfl, List.flatMap_map]
    exact s.bufWrite_done_answers ..
  case log =>
    intro held few
    refine ok.completes rfl rfl rfl (by simp [some_]) (by simp [need, param, good, few])
      (by simp [need, param, held]) ?_
    rw [if_neg (by decide), if_neg (by decide), State.endLogRead, if_pos held]
    exact s.bufWrite_done_answers ..
  case flush =>
    intro few
    refine ok.completes rfl rfl rfl (by simp [some_]) (by simp [need, param, good, few]) rfl ?_
    rw [if_neg (by decide), if_pos rfl]
    exact ⟨rfl, Waits.await ..⟩
  case clear =>
    intro h buf s a long good owner fields auth idle
    refine a.completes rfl rfl rfl (by simp [need, param, good, long]) (by simp [need, owner, fields, auth, idle]) ⟨?_, ?_, Waits.await ..⟩
    · exact (State.eraseArea_keeps ..).1
    · exact (State.eraseArea_keeps ..).2
  case read =>
    intro h buf s a long good
    exact a.completes rfl rfl rfl (by simp [long]) (by simp [need, param, good, long]) rfl (s.bufWrite_done_answers ..)
  case write =>
    intro h buf s a long good fields idle
    exact a.completes rfl rfl rfl (by simp [need, param, good, long, fields]) (by simp [need, idle]) ⟨rfl, Waits.await ..⟩
  case ended =>
    let v := (s.setCal (fun c => { c with writes := satInc 16 c.writes, flash := Mem.writeN 0xFF [] 0 img, writing := none }))
    let w := v.record 0x0902 1 kNone 0 (leBytes 4 (satInc 16 s.cal.writes))
    have runs : exec (.calWriteDone true) s = .next (w.completeWhere (· == Wait.calWrite) stOk 0) := by
      show execCalWriteDone true s = _
      rw [execCalWriteDone, writing]
      rfl
    refine ⟨_, runs, comp_bit (w.completeWhere_touch ..).cal rfl, (State.record_newest v ..).kept (w.completeWhere_touch ..) rfl, ?_⟩
    exact State.completeWhere_answersSince (F := 0x816000) (((s.setCal_touch _).mono rfl).step (v.record_touch ..) rfl) rfl
      (State.record_inflight ..) stOk 0
  case cut =>
    let v := (s.setCal (fun c => { c with writes := satInc 16 c.writes }))
    have runs : exec (.calWriteDone false) s = .next ((v.calCut img).completeWhere (· == Wait.calWrite) stTimeout 0) := by
      show execCalWriteDone false s = _
      rw [execCalWriteDone, writing]
      rfl
    have cal : ((v.calCut img).completeWhere (· == Wait.calWrite) stTimeout 0).cal = (v.calCut img).cal :=
      comp_bit ((v.calCut img).completeWhere_touch ..).cal rfl
    refine ⟨_, runs, ?_, ?_, ?_, ⟨Config.freeNat s.free % 65536, Nat.mod_lt _ (by decide), ?_⟩, ?_⟩
    · rw [cal]; rfl
    · rw [cal]; rfl
    · rw [cal]; rfl
    · rw [cal]; rfl
    · exact fun f member is => Answered.since (v := v.calCut img) (State.completeWhere_answers _ _ _ _ f member (by simp [is])) rfl ⟨[], rfl⟩
end Sys2Proof.Machine
end

section
/-!
R360, R394 to R399: what every reset does. It is noted, its domains go into reset, the commands in flight go into the
ledger (`State.assertReset_resetBy`); and what a COLD, a WARM and a HOST reset leave.
-/

namespace Sys2Proof.Machine

open Sys2Proof

/-! ### The ledger -/

/-- The entry of a command ended by a reset (R360). -/
def ledgerEntry (scope source seq : Nat) (cmd : Option CmdHdr) (c : CmdHdr) : LedgerEntry :=
  { tag := c.tag, queue := c.queue, sqIndex := c.sqIndex, status := if cmd = some c then stOk else stAborted
    scope := scope, source := source, seq := seq }

/-- With room for them the commands in flight join the ledger in fetch order. -/
theorem State.enterLedger_ledger (s : State) (scope source seq : Nat) (cmd : Option CmdHdr)
    (room : s.hq.ledger.length + s.hq.flights.length ≤ 512) :
    (s.enterLedger scope source seq cmd).hq.ledger =
      s.hq.ledger ++ s.hq.flights.map (fun f => ledgerEntry scope source seq cmd f.2) := by
  unfold State.enterLedger
  generalize s.hq.flights = l at room ⊢
  induction l generalizing s with
  | nil => simp
  | cons f l ih =>
    rw [List.length_cons] at room
    rw [List.foldl_cons, if_neg (by omega), ih _ (by simp; omega)]
    simp [ledgerEntry]

theorem State.enterLedger_rc (s : State) (scope source seq : Nat) (cmd : Option CmdHdr) :
    (s.enterLedger scope source seq cmd).rc = s.rc := (s.enterLedger_touch ..).rc_eq rfl

theorem State.rescope_ledger (s : State) (scope : Nat) :
    (s.rescope scope).hq.ledger.length = s.hq.ledger.length ∧ (s.rescope scope).hq.flights = s.hq.flights := by
  unfold State.rescope
  split
  · exact ⟨List.length_map .., rfl⟩
  · exact ⟨rfl, rfl⟩

/-! ### Before the loss -/

theorem State.resetRecord_sansEvents (s : State) (src scope block : Nat) :
    (s.resetRecord src scope block).hq.sansEvents = s.hq.sansEvents := by
  unfold State.resetRecord
  dsimp only
  split
  · exact State.record_sansEvents ..
  · rfl

/-- The state in which the reset from a source at a scope loses what it loses: recorded, its commands in the ledger (R394). -/
def State.entered (s : State) (src scope : Nat) (cmd : Option CmdHdr) : State :=
  ((((s.resetRecord src scope 0).rescope scope).enterLedger scope src s.ev.nextSeq cmd).countFailed src)

/-- What a scope loses. -/
def State.lose (s : State) : Scope → State
  | .cold => s.loseCold
  | .warm => s.loseWarm
  | .host => s.commitCut.resetHost

theorem State.assertReset_eq {s : State} {src scope0 : Nat} (powered : s.rc.power = .run ∨ s.rc.power = .quiet) {c : Scope}
    (scope : s.rc.scopeNow scope0 = c.code) (fresh : s.rc.absorbs src c.code = false) (held : Bool) (cmd : Option CmdHdr) :
    s.assertReset src scope0 held cmd =
      (((s.entered src c.code cmd).lose c).noteReset src c.code 0 s.ev.nextSeq).holdScope c false held := by
  have at_ : scopeOf c.code = c := by cases c <;> rfl
  unfold State.assertReset
  dsimp only
  rw [scope, fresh, at_, if_neg (by rcases powered with is | is <;> simp [is])]
  cases c <;> rfl

theorem State.entered_touch (s : State) (src scope : Nat) (cmd : Option CmdHdr) : Touch 0x81C000 s (s.entered src scope cmd) :=
  ((((s.resetRecord_touch src scope 0).mono rfl).step (State.rescope_touch ..) rfl).step (State.enterLedger_touch ..) rfl).step
    (State.countFailed_touch ..) rfl

theorem State.entered_ledger (s : State) (src scope : Nat) (cmd : Option CmdHdr)
    (room : s.hq.ledger.length + s.hq.flights.length ≤ 512) :
    ∀ f ∈ s.hq.flights, ledgerEntry scope src s.ev.nextSeq cmd f.2 ∈ (s.entered src scope cmd).hq.ledger := by
  intro f member
  let v := (s.resetRecord src scope 0).rescope scope
  have same : (s.resetRecord src scope 0).hq.sansEvents = s.hq.sansEvents := State.resetRecord_sansEvents ..
  have length : v.hq.ledger.length = s.hq.ledger.length :=
    (State.rescope_ledger ..).1.trans (congrArg List.length (HostIf.ledger_of_sansEvents same))
  have flights : v.hq.flights = s.hq.flights := (State.rescope_ledger ..).2.trans (HostIf.flights_of_sansEvents same)
  have kept : (s.entered src scope cmd).hq = (v.enterLedger scope src s.ev.nextSeq cmd).hq :=
    comp_bit (State.countFailed_touch ..).hq rfl
  rw [kept, State.enterLedger_ledger _ _ _ _ _ (by rwa [length, flights]), flights]
  exact List.mem_append_right _ (List.mem_map_of_mem member)

/-! ### The loss -/

theorem State.recordIf_sansEvents (s : State) (c : Bool) (code sev kind subject : Nat) (p : Bytes) (f : Recorder → Recorder) :
    (if c then (s.record code sev kind subject p).setEv f else s).hq.sansEvents = s.hq.sansEvents := by
  cases c
  · rfl
  · exact State.record_sansEvents ..

theorem State.appendLog_sansEvents (s : State) (l : List Rec) : (s.appendLog l).hq.sansEvents = s.hq.sansEvents :=
  State.recordIf_sansEvents (s.setEv _) ..

theorem State.flushCut_sansEvents (s : State) : s.flushCut.hq.sansEvents = s.hq.sansEvents := by
  unfold State.flushCut
  split
  · rfl
  · extract_lets n m c drawn l k counted appended
    have log : appended.hq.sansEvents = s.hq.sansEvents := State.appendLog_sansEvents counted _
    clear_value appended
    split
    · split
      · exact log
      · exact log
    · exact log

theorem State.flashCut_hq (s : State) : s.flashCut.hq = s.flushCut.hq := by
  have cuts : s.flushCut.clearCut.commitCut.hq = s.flushCut.hq :=
    (comp_bit (State.commitCut_touch _).hq rfl).trans (comp_bit (State.clearCut_touch _).hq rfl)
  unfold State.flashCut
  generalize s.flushCut.clearCut.commitCut = v at cuts ⊢
  dsimp only
  split
  · split <;> exact cuts
  · split <;> exact cuts

theorem State.flashCut_sansEvents (s : State) : s.flashCut.hq.sansEvents = s.hq.sansEvents := by
  rw [s.flashCut_hq, s.flushCut_sansEvents]

/-- The host side is empty, and the ledger and the count of resets are what they were. -/
structure Emptied (s t : State) : Prop where
  part : t.part = s.part
  ended : t.hq.inflight = [] ∧ t.hq.parked = [] ∧ t.hq.queues = List.replicate 4 {}
  ledger : t.hq.ledger = s.hq.ledger
  resets : t.rc.resets = s.rc.resets

/-- Flash and pins before a COLD or WARM reset, and what of them stays. -/
theorem State.flashCut_dropPins_touch (s : State) : Touch 0xC76000 s s.flashCut.dropPins :=
  (s.flashCut_touch.mono rfl).step (State.dropPins_touch _) rfl

theorem State.flashCut_dropPins_rc (s : State) : s.flashCut.dropPins.rc = s.rc := s.flashCut_dropPins_touch.rc_eq rfl

theorem State.commitCut_hq (s : State) : s.commitCut.hq = s.hq := comp_bit s.commitCut_touch.hq rfl

theorem State.commitCut_rc (s : State) : s.commitCut.rc = s.rc := s.commitCut_touch.rc_eq rfl

theorem State.flashCut_dropPins_ledger (s : State) : s.flashCut.dropPins.hq.ledger = s.hq.ledger :=
  (congrArg HostIf.ledger (comp_bit (State.dropPins_touch _).hq rfl)).trans
    (HostIf.ledger_of_sansEvents s.flashCut_sansEvents)

theorem State.loseCold_emptied (s : State) : Emptied s s.loseCold where
  part := s.loseCold_touch.part
  ended := ⟨rfl, rfl, rfl⟩
  ledger := s.flashCut_dropPins_ledger
  resets := show s.flashCut.dropPins.rc.resets = _ from congrArg ResetCtl.resets s.flashCut_dropPins_rc

theorem State.loseWarm_emptied (s : State) : Emptied s s.loseWarm where
  part := s.loseWarm_touch.part
  ended := ⟨rfl, rfl, rfl⟩
  ledger := s.flashCut_dropPins_ledger
  resets := show s.flashCut.dropPins.rc.resets = _ from congrArg ResetCtl.resets s.flashCut_dropPins_rc

theorem State.loseWarm_kept (s : State) : WarmKept s s.loseWarm := by
  have before : Touch 0xC76800 s (((s.flashCut.dropPins.resetHost).dropShadows 0 0x01D00000).dropShadows 0x01E00000 (2 ^ 26)) :=
    (((s.flashCut_dropPins_touch.mono rfl).step (State.resetHost_touch _) rfl).step (State.dropShadows_touch ..) rfl).step
      (State.dropShadows_touch ..) rfl
  unfold State.loseWarm
  generalize ((s.flashCut.dropPins.resetHost).dropShadows 0 0x01D00000).dropShadows 0x01E00000 (2 ^ 26) = v at before ⊢
  have le : v.le = s.le := comp_bit before.le rfl
  exact
    { role := show v.role = _ from comp_bit before.role rfl
      start := rfl
      slots := show v.le.slots = _ from congrArg LoopEngine.slots le
      table := show v.le.table = _ from congrArg LoopEngine.table le
      frame := show v.le.frame = _ from congrArg LoopEngine.frame le
      cells := show v.ports = _ from comp_bit before.ports rfl
      groups := show v.groups = _ from comp_bit before.groups rfl
      shelf := show v.sh = _ from comp_bit before.sh rfl }

theorem State.loseHost_kept (s : State) : HostKept s s.commitCut.resetHost := by
  have before : Touch 0x430800 s s.commitCut.resetHost := (s.commitCut_touch.mono rfl).step (State.resetHost_touch _) rfl
  have rc : s.commitCut.resetHost.rc = s.rc := before.rc_eq rfl
  generalize s.commitCut.resetHost = v at before rc ⊢
  exact
    { role := comp_bit before.role rfl
      loops := comp_bit before.le rfl
      cells := comp_bit before.ports rfl
      groups := comp_bit before.groups rfl
      shelf := comp_bit before.sh rfl
      profile := comp_bit before.pf rfl
      storage := comp_bit before.pl rfl
      capture := comp_bit before.cr rfl
      tether := comp_bit before.teth rfl
      start := congrArg ResetCtl.start rc }

theorem State.lose_emptied (s : State) (c : Scope) : Emptied s (s.lose c) := by
  cases c
  case cold => exact s.loseCold_emptied
  case warm => exact s.loseWarm_emptied
  case host => exact
    { part := (State.resetHost_touch _).part.trans s.commitCut_touch.part
      ended := ⟨rfl, rfl, rfl⟩
      ledger := show s.commitCut.hq.ledger = _ from congrArg HostIf.ledger s.commitCut_hq
      resets := show s.commitCut.rc.resets = _ from congrArg ResetCtl.resets s.commitCut_rc }

/-- The count of failed starts moves nothing else of the reset control. -/
theorem State.countFailed_rc (s : State) (src : Nat) :
    (s.countFailed src).rc = { s.rc with failed := (s.countFailed src).rc.failed } := by
  unfold State.countFailed
  split <;> rfl

theorem State.entered_rc (s : State) (src scope : Nat) (cmd : Option CmdHdr) :
    (s.entered src scope cmd).rc = { s.rc with failed := (s.entered src scope cmd).rc.failed } := by
  have before : ((s.resetRecord src scope 0).rescope scope |>.enterLedger scope src s.ev.nextSeq cmd).rc = s.rc :=
    (State.enterLedger_rc ..).trans (((State.rescope_touch ..).rc_eq rfl).trans ((State.resetRecord_touch ..).rc_eq rfl))
  refine (State.countFailed_rc _ src).trans ?_
  rw [before]
  rfl

/-! ### What stands after it -/

section
variable {s : State} {src scope0 : Nat} {held : Bool} {cmd : Option CmdHdr}
variable (powered : s.rc.power = .run ∨ s.rc.power = .quiet)
include powered

theorem State.assertReset_resetBy {c : Scope} (scope : s.rc.scopeNow scope0 = c.code) (fresh : s.rc.absorbs src c.code = false) :
    ResetBy s (s.assertReset src scope0 held cmd) src c cmd := by
  rw [State.assertReset_eq powered scope fresh]
  have lost := (s.entered src c.code cmd).lose_emptied c
  have resets : (s.entered src c.code cmd).rc.resets = s.rc.resets := by
    rw [State.entered_rc]
  exact
    { source := rfl
      scope := rfl
      count := congrArg (fun n => (n + 1) % 65536) (lost.resets.trans resets)
      release := ⟨_, rfl, rfl, rfl, rfl, rfl⟩
      domains := fun d inside => List.mem_append_right _
        (by rwa [show ((((s.entered src c.code cmd).lose c).noteReset _ _ _ _)).part = s.part from lost.part.trans (State.entered_touch ..).part])
      ended := lost.ended
      ledger := fun room f member => lost.ledger ▸ s.entered_ledger src c.code cmd room f member }

theorem State.assertReset_cold (scope : s.rc.scopeNow scope0 = Scope.cold.code)
    (fresh : s.rc.absorbs src Scope.cold.code = false) : ColdLost (s.assertReset src scope0 held cmd) := by
  rw [State.assertReset_eq powered scope fresh]
  exact ⟨rfl, rfl, rfl, rfl, rfl, rfl, rfl, rfl, rfl, rfl, rfl⟩

theorem State.assertReset_warm (scope : s.rc.scopeNow scope0 = Scope.warm.code)
    (fresh : s.rc.absorbs src Scope.warm.code = false) : WarmKept s (s.assertReset src scope0 held cmd) := by
  rw [State.assertReset_eq powered scope fresh]
  have before := s.entered_touch src Scope.warm.code cmd
  have lost : WarmKept _ ((s.entered src Scope.warm.code cmd).lose .warm) := State.loseWarm_kept _
  generalize State.lose _ _ = t at lost ⊢
  generalize s.entered src Scope.warm.code cmd = v at before lost
  have le : v.le = s.le := comp_bit before.le rfl
  exact
    { role := lost.role.trans (comp_bit before.role rfl)
      start := lost.start
      slots := lost.slots.trans (congrArg LoopEngine.slots le)
      table := lost.table.trans (congrArg LoopEngine.table le)
      frame := lost.frame.trans (congrArg LoopEngine.frame le)
      cells := lost.cells.trans (comp_bit before.ports rfl)
      groups := lost.groups.trans (comp_bit before.groups rfl)
      shelf := lost.shelf.trans (comp_bit before.sh rfl) }

theorem State.assertReset_host (scope : s.rc.scopeNow scope0 = Scope.host.code)
    (fresh : s.rc.absorbs src Scope.host.code = false) : HostKept s (s.assertReset src scope0 held cmd) := by
  rw [State.assertReset_eq powered scope fresh]
  have before := s.entered_touch src Scope.host.code cmd
  have start : (s.entered src Scope.host.code cmd).rc.start = s.rc.start := by rw [State.entered_rc]
  have lost : HostKept _ ((s.entered src Scope.host.code cmd).lose .host) := State.loseHost_kept _
  generalize State.lose _ _ = t at lost ⊢
  generalize s.entered src Scope.host.code cmd = v at before start lost
  exact
    { role := lost.role.trans (comp_bit before.role rfl)
      loops := lost.loops.trans (comp_bit before.le rfl)
      cells := lost.cells.trans (comp_bit before.ports rfl)
      groups := lost.groups.trans (comp_bit before.groups rfl)
      shelf := lost.shelf.trans (comp_bit before.sh rfl)
      profile := lost.profile.trans (comp_bit before.pf rfl)
      storage := lost.storage.trans (comp_bit before.pl rfl)
      capture := lost.capture.trans (comp_bit before.cr rfl)
      tether := lost.tether.trans (comp_bit before.teth rfl)
      start := lost.start.trans start }

end

end Sys2Proof.Machine
end

section
/-!
What records and datagrams leave: of the host interface all but its events, of the network all but the counts of what was
sent.
-/

namespace Sys2Proof.Machine

open Sys2Proof

/-- The network without what sending moves in it. -/
def Gulene.sansSent (g : Gulene) : Gulene := { g with seq := 0, txOk := 0 }

/-- From one state to the other the module has recorded and sent, and done nothing else to its host and network. -/
structure Talks (s t : State) : Prop where
  host : t.hq.sansEvents = s.hq.sansEvents
  net : t.gn.sansSent = s.gn.sansSent

namespace Talks
variable {s t v : State}

theorem of_eq (hq : t.hq = s.hq) (gn : t.gn = s.gn) : Talks s t := ⟨congrArg _ hq, congrArg _ gn⟩

theorem refl (s : State) : Talks s s := ⟨rfl, rfl⟩

theorem trans (first : Talks s t) (second : Talks t v) : Talks s v :=
  ⟨second.host.trans first.host, second.net.trans first.net⟩

/-- What neither touches before. -/
theorem since (second : Talks t v) (hq : t.hq = s.hq) (gn : t.gn = s.gn) : Talks s v := (of_eq hq gn).trans second

theorem cond {c : Prop} [Decidable c] (yes : Talks s t) (no : Talks s v) : Talks s (if c then t else v) := by
  split <;> assumption

theorem foldl {α : Type} {f : State → α → State} (each : ∀ v a, Talks v (f v a)) (l : List α) (s : State) :
    Talks s (l.foldl f s) :=
  foldl_kept .refl (fun _ _ _ => .trans) each l s

theorem record (s : State) (code sev kind subject : Nat) (p : Bytes) : Talks s (s.record code sev kind subject p) :=
  ⟨s.record_sansEvents .., rfl⟩

theorem gnSend (s : State) (k : Key) (typ : Nat) (head : UdpHead) (body : Bytes) : Talks s (s.gnSend k typ head body) := by
  unfold State.gnSend
  split
  · exact refl s
  · exact ⟨rfl, rfl⟩

theorem rackSend (s : State) (typ : Nat) (body : Bytes) : Talks s (s.rackSend typ body) := by
  unfold State.rackSend
  split
  · exact gnSend ..
  · exact refl s

theorem sendAlert (s : State) (kind : Nat) : Talks s (s.sendAlert kind) := rackSend ..

theorem setGv (s : State) (f : Governor → Governor) : Talks s (s.setGv f) := of_eq rfl rfl

theorem sendShare (s : State) (final : Bool) : Talks s (s.sendShare final) := by
  unfold State.sendShare
  dsimp only
  exact ((setGv ..).trans (rackSend ..)).trans (foldl (fun _ _ => rackSend ..) _ _)

theorem driveSnuff (s : State) (on : Bool) : Talks s (s.driveSnuff on) := by
  unfold State.driveSnuff
  split
  · exact refl s
  · exact (record ..).since rfl rfl

theorem endThrottle (s : State) (e : Endpoint) : Talks s (s.endThrottle e) := by
  unfold State.endThrottle
  split
  · exact refl s
  · exact cond ((record ..).since rfl rfl) (of_eq rfl rfl)

theorem yieldLead (s : State) (final : Bool) : Talks s (s.yieldLead final) := by
  unfold State.yieldLead
  refine cond (refl s) ?_
  dsimp only
  have snuff : Talks s (if s.gv.snuffOut then (s.driveSnuff false).sendAlert 1 else s) :=
    cond ((driveSnuff ..).trans (sendAlert ..)) (refl s)
  generalize (if s.gv.snuffOut then (s.driveSnuff false).sendAlert 1 else s) = v at snuff ⊢
  exact ((snuff.trans (foldl endThrottle v.gv.eps v)).trans (cond (sendShare ..) (refl _))).trans (setGv ..)

theorem dropLead (s : State) : Talks s s.dropLead := by
  unfold State.dropLead
  exact cond ((record ..).since rfl rfl) (of_eq rfl rfl)

theorem inflight (talks : Talks s t) : t.hq.inflight = s.hq.inflight := HostIf.inflight_of_sansEvents talks.host

theorem mode (talks : Talks s t) : t.gn.mode = s.gn.mode :=
  show t.gn.sansSent.mode = s.gn.sansSent.mode from congrArg Gulene.mode talks.net

end Talks

/-- An isolated module has recorded and sent its last word (R269). -/
theorem State.isolate_keeps (s : State) : s.isolate.hq.sansEvents = s.hq.sansEvents ∧ s.isolate.gn.mode = s.gn.mode ∧
    s.isolate.gn.isolated = true := by
  unfold State.isolate
  split
  next already => exact ⟨rfl, rfl, already⟩
  next =>
    have said := Talks.yieldLead s false
    generalize s.yieldLead false = v at said ⊢
    exact ⟨(State.record_sansEvents ..).trans said.host, said.mode, rfl⟩

theorem State.joinGroups_gn (s : State) : s.joinGroups.gn = { s.gn with joined := s.groupsWanted } := by
  have sent : Touch 0x800000 s ((s.groupsWanted.filter (fun a => !s.gn.joined.contains a)).foldl (fun s a => s.emit (.net 5 a)) s) :=
    (Touch.refl _ s).foldl fun v a => v.emit_touch _ rfl
  exact congrArg (fun g : Gulene => { g with joined := s.groupsWanted }) (comp_bit sent.gn rfl)

/-- A link that goes down (R248, R269). -/
theorem State.linkDown_keeps (s : State) : s.linkDown.hq.sansEvents = s.hq.sansEvents ∧ s.linkDown.gn.mode = 0 ∧
    s.linkDown.gn.isolated = true := by
  let v := s.setGn (fun g => { g with mode := 0 })
  obtain ⟨host, mode, isolated⟩ := v.joinGroups.isolate_keeps
  have hq : v.joinGroups.hq = s.hq := comp_bit v.joinGroups_touch.hq rfl
  exact ⟨host.trans (congrArg _ hq), mode.trans (congrArg Gulene.mode v.joinGroups_gn), isolated⟩

end Sys2Proof.Machine
end

section
namespace Sys2Proof

open Sys2Proof.Machine

variable {s t : State} {h : CmdHdr} {op : Nat} {w : Wait}

theorem WarmKept.await (kept : WarmKept (s.await h op w) t) : WarmKept s t :=
  ⟨kept.role, kept.start, kept.slots, kept.table, kept.frame, kept.cells, kept.groups, kept.shelf⟩

theorem HostKept.await (kept : HostKept (s.await h op w) t) : HostKept s t :=
  ⟨kept.role, kept.loops, kept.cells, kept.groups, kept.shelf, kept.profile, kept.storage, kept.capture, kept.tether, kept.start⟩

end Sys2Proof
end

section
/-!
R345, R387, R394 to R397: RESET, BLOCK_RESET, the PCIe resets and the watchdogs.
-/

namespace Sys2Proof.Machine

open Sys2Proof

/-! ### BLOCK_RESET -/

/-- What a block loses leaves the commands in flight and the slots alone, and takes what Table 17-4 gives. -/
structure BlockLost (s t : State) (b : Nat) : Prop where
  flights : t.hq.inflight = s.hq.inflight
  slots : t.le.slots = s.le.slots
  crucible : b = 1 → t.cr = {}
  profile : b = 2 → t.pf.period = 0 ∧ t.pf.table = []
  network : b = 4 → t.clk.ptpState = .free ∧ t.gn.mode = 0 ∧ t.gn.isolated = true
  staged : b = 5 → t.se.staged = none

theorem State.loseBlock_lost (s : State) (b : Nat) : BlockLost s (s.loseBlock b) b := by
  unfold State.loseBlock
  by_cases crucible : b = 1
  · rw [if_pos crucible]
    exact ⟨rfl, rfl, fun _ => rfl, by omega, by omega, by omega⟩
  by_cases profile : b = 2
  · rw [if_neg crucible, if_pos profile]
    exact ⟨rfl, rfl, by omega, fun _ => ⟨rfl, rfl⟩, by omega, by omega⟩
  by_cases governor : b = 3
  · rw [if_neg crucible, if_neg profile, if_pos governor]
    exact ⟨(Talks.dropLead s).inflight, congrArg LoopEngine.slots (comp_bit s.dropLead_touch.le rfl), by omega, by omega, by omega, by omega⟩
  by_cases network : b = 4
  · rw [if_neg crucible, if_neg profile, if_neg governor, if_pos network]
    let v := ({ s with gn := s.gn.relink }).losePtp false
    obtain ⟨host, mode, isolated⟩ := v.linkDown_keeps
    have clk : v.linkDown.clk = v.clk := comp_bit v.linkDown_touch.clk rfl
    have le : v.linkDown.le = v.le := comp_bit v.linkDown_touch.le rfl
    exact ⟨HostIf.inflight_of_sansEvents host, congrArg LoopEngine.slots le, by omega, by omega,
      fun _ => ⟨congrArg Clock.ptpState clk, mode, isolated⟩, by omega⟩
  rw [if_neg crucible, if_neg profile, if_neg governor, if_neg network]
  by_cases security : b = 5
  · rw [if_pos security]
    exact ⟨rfl, rfl, by omega, by omega, by omega, fun _ => rfl⟩
  · rw [if_neg security]
    exact ⟨rfl, rfl, by omega, by omega, by omega, by omega⟩

/-! ### The statement -/

/-- A reset met by one of equal or wider scope is counted and does nothing more (R396). -/
theorem State.assertReset_absorbed {s : State} {src : Nat} (powered : s.rc.power = .run ∨ s.rc.power = .quiet)
    (met : s.rc.absorbs src 0 = true) :
    s.assertReset src 0 false none = { s with rc := { s.rc with absorbed := min (s.rc.absorbed + 1) 65535 } } := by
  unfold State.assertReset
  dsimp only
  rw [if_neg (by rcases powered with is | is <;> simp [is]), if_pos (by simpa [ResetCtl.scopeNow] using met)]
  rfl

/-- Settles O19: a reset not absorbed is `State.assertReset_resetBy` with what its scope leaves; a block loses its part of Table 17-4. -/
theorem resetsComplete : Obligations.ResetsComplete := by
  refine ⟨fun h s a running => ⟨?cold, ?warm, ?early, ?host⟩, ?pcie, fun s powered => ⟨?steward, ?loop, ?absorbed⟩, ?block⟩
  case cold =>
    intro fresh
    let v := s.await h 0x0B01 .reset
    exact a.completes rfl rfl rfl rfl rfl rfl
      ⟨State.assertReset_resetBy (s := v) (.inl running) rfl fresh, State.assertReset_cold (s := v) (.inl running) rfl fresh⟩
  case warm =>
    intro fresh ran
    let v := s.await h 0x0B01 .reset
    have scope : v.rc.scopeNow 1 = Scope.warm.code := by
      show s.rc.scopeNow 1 = 1
      rcases ran with ran | ran <;> simp [ResetCtl.scopeNow, ran]
    exact a.completes rfl rfl rfl rfl rfl rfl
      ⟨State.assertReset_resetBy (s := v) (.inl running) scope fresh, (State.assertReset_warm (s := v) (.inl running) scope fresh).await⟩
  case early =>
    intro fresh cold
    let v := s.await h 0x0B01 .reset
    have scope : v.rc.scopeNow 1 = Scope.cold.code := by
      show s.rc.scopeNow 1 = 0
      rcases cold with cold | cold <;> simp [ResetCtl.scopeNow, cold]
    exact a.completes rfl rfl rfl rfl rfl rfl
      ⟨State.assertReset_resetBy (s := v) (.inl running) scope fresh, State.assertReset_cold (s := v) (.inl running) scope fresh⟩
  case host =>
    intro fresh
    let v := s.await h 0x0B01 .reset
    exact a.completes rfl rfl rfl rfl rfl rfl
      ⟨State.assertReset_resetBy (s := v) (.inl running) rfl fresh, (State.assertReset_host (s := v) (.inl running) rfl fresh).await⟩
  case pcie =>
    intro s powered fresh other
    have runs : exec .pcieReset s = .next (s.assertReset 6 2 false none) := by
      show execPcieReset s = _
      unfold execPcieReset
      cases under : s.rc.release with
      | none => rfl
      | some r => rcases other r under with host | on <;> simp [*]
    exact ⟨_, runs, State.assertReset_resetBy powered rfl fresh, State.assertReset_host powered rfl fresh⟩
  case steward => exact fun fresh => ⟨_, rfl, State.assertReset_resetBy powered rfl fresh, State.assertReset_cold powered rfl fresh⟩
  case loop => exact fun fresh => ⟨_, rfl, State.assertReset_resetBy powered rfl fresh, State.assertReset_cold powered rfl fresh⟩
  case absorbed => exact fun met => ⟨_, rfl, State.assertReset_absorbed powered met⟩
  case block =>
    intro h b s a low high run clocks idle
    refine a.completes rfl rfl rfl rfl rfl (by simp [need, param, low, high, run, clocks, idle, a.block]) ?_
    have before : Touch 0x814000 s (s.resetRecord 4 4 b) := State.resetRecord_touch ..
    have waits := Waits.await (s.resetRecord 4 4 b) h 0x0B01 (.blockReset b)
    have lost := ((s.resetRecord 4 4 b).await h 0x0B01 (.blockReset b)).loseBlock_lost b
    have loses := ((s.resetRecord 4 4 b).await h 0x0B01 (.blockReset b)).loseBlock_touch b
    dsimp only
    generalize ((s.resetRecord 4 4 b).await h 0x0B01 (.blockReset b)).loseBlock b = w at lost loses ⊢
    refine ⟨rfl, rfl, fun d inside => List.mem_append_right _ inside, rfl, rfl, rfl, ?_, ?_, ?_, ?_,
      lost.crucible, lost.profile, lost.network, lost.staged⟩
    · obtain ⟨f, member, is⟩ := waits
      exact ⟨f, show f ∈ w.hq.inflight from lost.flights ▸ member, is⟩
    · exact lost.slots.trans (congrArg LoopEngine.slots (comp_bit before.le rfl))
    · exact (comp_bit loses.ports rfl).trans (comp_bit before.ports rfl)
    · exact (comp_bit loses.groups rfl).trans (comp_bit before.groups rfl)

end Sys2Proof.Machine
end

section
/-!
R394, R424, R439, R443: POWER_ON and RESET_N.
-/

namespace Sys2Proof

open Sys2Proof.Machine

/-- What a reset is said of depends on the reset control, the host interface, the part and the next SEQ alone. -/
theorem ResetBy.since {s v t : State} {src : Nat} {c : Scope} {cmd : Option CmdHdr} (r : ResetBy v t src c cmd)
    (part : v.part = s.part) (rc : v.rc = s.rc) (hq : v.hq = s.hq) (ev : v.ev = s.ev) : ResetBy s t src c cmd where
  source := r.source
  scope := r.scope
  count := rc ▸ r.count
  release := r.release
  domains := part ▸ r.domains
  ended := r.ended
  ledger := by
    have ledger := r.ledger
    rwa [hq, ev] at ledger

end Sys2Proof

namespace Sys2Proof.Machine

open Sys2Proof

theorem State.dropPins_resetLow (s : State) : s.dropPins.pins.resetLow = s.pins.resetLow := by
  unfold State.dropPins
  dsimp only
  split <;> split <;> rfl

theorem State.loseCold_resetLow (s : State) : s.loseCold.pins.resetLow = s.pins.resetLow := by
  have kept : s.flashCut.dropPins.pins.resetLow = s.pins.resetLow :=
    s.flashCut.dropPins_resetLow.trans (congrArg Pins.resetLow (comp_bit s.flashCut_touch.pins rfl))
  unfold State.loseCold
  generalize s.flashCut.dropPins = v at kept ⊢
  exact kept

/-- A RESET_N pulse that counts is a COLD reset of source 1, held while the pin is low (R394). -/
theorem State.resetPin_cold {s v : State} (powered : s.rc.power = .run ∨ s.rc.power = .quiet) (fresh : s.rc.absorbs 1 0 = false)
    (held : Bool) (f : Pins → Pins) (pin : ∀ p, (f p).resetLow = held) (same : v = s.setPins f) :
    ResetBy s (v.assertReset 1 0 held none) 1 .cold none ∧ ColdLost (v.assertReset 1 0 held none) ∧
      (v.assertReset 1 0 held none).pins.resetLow = held ∧
      (v.assertReset 1 0 held none).rc.release.map (·.asserted) = some held := by
  subst same
  refine ⟨(State.assertReset_resetBy (s := s.setPins f) (scope0 := 0) (c := .cold) powered rfl fresh).since rfl rfl rfl rfl,
    State.assertReset_cold (s := s.setPins f) powered rfl fresh, ?_, ?_⟩
  · have entered := congrArg Pins.resetLow (comp_bit ((s.setPins f).entered_touch 1 Scope.cold.code none).pins rfl)
    have low : (((s.setPins f).entered 1 Scope.cold.code none).lose .cold).pins.resetLow = held :=
      (State.loseCold_resetLow _).trans (entered.trans (pin _))
    rw [State.assertReset_eq (s := s.setPins f) (c := .cold) powered rfl fresh]
    generalize State.lose _ _ = t at low ⊢
    exact low
  · rw [State.assertReset_eq (s := s.setPins f) (c := .cold) powered rfl fresh]
    rfl

/-- Settles O39: by the time the pin is low; between 200 ns and 1 us by the free bit. -/
theorem powerOnAndResetPinComplete : Obligations.PowerOnAndResetPinComplete := by
  refine ⟨?power, ?short, ?long, ?between, ?rises⟩
  case power =>
    intro s unpowered lost closed
    have runs : exec .powerOn s = .next ((s.loseRetained.setRc (fun r => { r with startAt := s.clk.now })).holdScope .cold true s.pins.resetLow) := by
      show execPowerOn s = _
      rw [execPowerOn, if_pos (by simp [unpowered, lost, closed])]
      rfl
    exact ⟨_, runs, rfl, rfl, fun d inside => List.mem_append_right _ inside, rfl, rfl, rfl, rfl, rfl⟩
  case short =>
    intro low s high_ short high
    refine ⟨s, ?_, rfl⟩
    show execResetN low high s = _
    rw [execResetN, if_neg (by simp [high_]), if_pos short]
  case long =>
    intro low high s was long powered fresh
    have runs : exec (.resetN low high) s = .next ((s.setPins (fun p => { p with resetLow := !high })).assertReset 1 0 (!high) none) := by
      show execResetN low high s = _
      rw [execResetN, if_neg (by simp [was]), if_neg (by omega), if_neg (show ¬ low < 1000 by omega)]
      exact congrArg _ (if_neg (by rcases powered with is | is <;> simp [is]))
    exact ⟨_, runs, State.resetPin_cold powered fresh (!high) _ (fun _ => rfl) rfl⟩
  case between =>
    intro low s was long short powered fresh
    let v : State := { s with free := s.free + 1 }
    have runs : exec (.resetN low true) s = if Config.freeBit s.free then
        .next ((v.setPins (fun p => { p with resetLow := false })).assertReset 1 0 false none) else .next v := by
      show execResetN low true s = _
      rw [execResetN, if_neg (by simp [was]), if_neg (by omega), if_pos short]
      cases taken : Config.freeBit s.free
      · simp [State.freeBit, taken, v]
      · have on : ¬(s.rc.power = .aux ∨ s.rc.power = .off) := by rcases powered with is | is <;> simp [is]
        simp [State.freeBit, taken, v, on]
    cases taken : Config.freeBit s.free
    case false => exact ⟨v, by rw [runs, taken]; rfl, .inl rfl⟩
    case true =>
      obtain ⟨resetBy, lost, -⟩ := State.resetPin_cold (s := v) powered fresh false (fun p => { p with resetLow := false }) (fun _ => rfl) rfl
      exact ⟨_, by rw [runs, taken]; rfl, .inr ⟨resetBy.since rfl rfl rfl rfl, lost⟩⟩
  case rises =>
    intro low s was
    refine ⟨_, if_pos was, rfl, rfl, fun r is => ?_⟩
    obtain ⟨x, -, rfl⟩ := Option.map_eq_some_iff.mp is
    rfl

end Sys2Proof.Machine
end

section
/-!
R420 to R424, R427: the recovery loader.
-/

namespace Sys2Proof.Machine

open Sys2Proof

/-- A reset of source 4 keeps the failed starts as they are. -/
theorem State.loseCold_failed (s : State) : s.loseCold.rc.failed = s.rc.failed := by
  have rc := s.flashCut_dropPins_rc
  unfold State.loseCold
  generalize s.flashCut.dropPins = v at rc ⊢
  exact show v.rc.failed = _ from congrArg ResetCtl.failed rc

/-- A start that no watchdog cuts off is not counted as failed (R404). -/
theorem State.entered_uncounted (s : State) {src : Nat} (other : src ≠ 2 ∧ src ≠ 3) (scope : Nat) (cmd : Option CmdHdr) :
    (s.entered src scope cmd).rc = s.rc := by
  unfold State.entered State.countFailed
  rw [if_neg (by omega), State.enterLedger_rc, (State.rescope_touch ..).rc_eq rfl, (State.resetRecord_touch ..).rc_eq rfl]

/-- The area erased: a mark on the image, a count, and what the wear of the area says (R422). -/
theorem State.imageErase_se (s : State) : s.imageErase.se = { s.se with image := [], areaInvalid := true, wear := upd s.se.wear 0 (· + 1) } := by
  unfold State.imageErase State.eraseArea
  dsimp only
  split
  · exact comp_bit (State.raiseCause_touch ..).se rfl
  · rfl

/-- Settles O43: by the state of the loader; RETRY and RESTART are COLD resets of source 4. -/
theorem recoveryComplete : Obligations.RecoveryComplete := by
  refine ⟨fun s on idle idle' => ⟨?load, ?length⟩, fun good s on verifying => ⟨?verified, ?refused⟩, fun s on writing => ⟨?written, ?cut⟩, ?retry, ?restart⟩
  case load =>
    intro low high
    refine ⟨s.setSe (fun x => { x with rcvState := 1, rcvReason := 0 }), ?_, rfl⟩
    show execSeRcvLoad s = _
    rw [execSeRcvLoad, if_neg (by simp [on, idle, idle']), if_neg (by simp [imageMax]; omega)]
  case length =>
    intro out
    refine ⟨s.setSe (fun x => { x with rcvState := 4, rcvReason := 1 }), ?_, rfl⟩
    show execSeRcvLoad s = _
    rw [execSeRcvLoad, if_neg (by simp [on, idle, idle']), if_pos (by simpa [imageMax] using out)]
  case verified =>
    intro good_
    refine ⟨s.imageErase.setSe (fun x => { x with rcvState := 2 }), ?_, ?_⟩
    · show execRecoveryWriteDone good s = _
      rw [execRecoveryWriteDone]
      rw [if_neg (by simp [on]), if_pos verifying, good_]
    · have erased := s.imageErase_se
      generalize s.imageErase = v at erased
      exact ⟨rfl, show v.se.image = [] by rw [erased], show v.se.areaInvalid = true by rw [erased]⟩
  case refused =>
    intro k o bad
    refine ⟨s.setSe (fun x => { x with rcvState := 4, rcvReason := k + 1 }), ?_, rfl⟩
    show execRecoveryWriteDone good s = _
    rw [execRecoveryWriteDone]
    rw [if_neg (by simp [on]), if_pos verifying, bad]
    rfl
  case written =>
    refine ⟨((s.imageWrite (Mem.readN 0 s.hdma 0 s.se.rcvLen)).setSe (fun x => { x with rcvState := 3 })).setRc (fun r => { r with failed := [] }), ?_, rfl, rfl, rfl, rfl⟩
    show execRecoveryWriteDone true s = _
    simp [execRecoveryWriteDone, on, writing]
  case cut =>
    refine ⟨(s.imageCut (Mem.readN 0 s.hdma 0 s.se.rcvLen)).setSe (fun x => { x with rcvState := 4, rcvReason := 7 }), ?_, rfl, rfl, rfl⟩
    show execRecoveryWriteDone false s = _
    simp [execRecoveryWriteDone, on, writing]
  case retry =>
    intro s on idle idle' powered fresh
    let v := s.setRc (fun r => { r with failed := [] })
    have runs : exec .seRcvRetry s = .next (v.assertReset 4 0 false none) := by
      show execSeRcvRetry s = _
      rw [execSeRcvRetry, if_neg (by simp [on, idle, idle'])]
    have reset : ResetBy v (v.assertReset 4 0 false none) 4 .cold none :=
      State.assertReset_resetBy (s := v) (scope0 := 0) (c := .cold) powered rfl fresh
    refine ⟨_, runs, ?_, reset.source, State.assertReset_cold (s := v) powered rfl fresh⟩
    have none_ : ((v.entered 4 Scope.cold.code none).lose .cold).rc.failed = [] :=
      (State.loseCold_failed _).trans (congrArg ResetCtl.failed (v.entered_uncounted (by decide) ..))
    rw [State.assertReset_eq (s := v) (c := .cold) powered rfl fresh]
    generalize State.lose _ _ = t at none_ ⊢
    exact none_
  case restart =>
    intro s on ended powered fresh
    have runs : exec .seRcvRestart s = .next (s.assertReset 4 0 false none) := if_pos ⟨on, ended⟩
    exact ⟨_, runs, State.assertReset_resetBy powered rfl fresh, State.assertReset_cold powered rfl fresh⟩

end Sys2Proof.Machine
end

section
/-!
R313, R360, R406, R407, R439, R442, R450: the supplies.
-/

namespace Sys2Proof.Machine

open Sys2Proof

/-- The loss of VIN_MAIN as the loss of a COLD scope whose domains are not yet released (R406). -/
theorem State.powerLoss_eq {s : State} (powered : s.rc.power = .run ∨ s.rc.power = .quiet) : s.powerLoss =
    ((s.entered 7 3 none).loseCold.noteReset 7 3 0 s.ev.nextSeq).setRc (fun r => { r with
      power := .aux, release := none, off := s.part.domains.filter (fun d => d != 0 && d != 2) }) := by
  have part : ((s.entered 7 3 none).loseCold.noteReset 7 3 0 s.ev.nextSeq).part = s.part :=
    (State.noteReset_touch ..).part.trans ((State.loseCold_touch _).part.trans (State.entered_touch ..).part)
  rw [← part]
  unfold State.powerLoss State.entered State.countFailed
  rw [if_neg (by rcases powered with is | is <;> simp [is]), if_neg (by omega)]

/-- What the loss of VIN_MAIN leaves (R360, R406). -/
structure PowerLost (s t : State) : Prop where
  power : t.rc.power = .aux
  release : t.rc.release = none
  source : t.rc.lastSource = 7
  scope : t.rc.lastScope = 3
  domains : ∀ d < s.part.clockDomains, d ≠ 0 → d ≠ 2 → d ∈ t.rc.off
  lost : ColdLost t
  ledger : s.hq.ledger.length + s.hq.flights.length ≤ 512 → ∀ f ∈ s.hq.flights,
    ledgerEntry 3 7 s.ev.nextSeq none f.2 ∈ t.hq.ledger

theorem State.powerLoss_lost {s : State} (powered : s.rc.power = .run ∨ s.rc.power = .quiet) : PowerLost s s.powerLoss := by
  rw [State.powerLoss_eq powered]
  have emptied := (s.entered 7 3 none).loseCold_emptied
  exact
    { power := rfl
      release := rfl
      source := rfl
      scope := rfl
      domains := fun d inside root retained =>
        List.mem_filter.mpr ⟨List.mem_range.mpr inside, by simp [root, retained]⟩
      lost := ⟨rfl, rfl, rfl, rfl, rfl, rfl, rfl, rfl, rfl, rfl, rfl⟩
      ledger := fun room f member => emptied.ledger ▸ s.entered_ledger 7 3 none room f member }

/-- The return of VIN_MAIN with the retained domain valid (R439). -/
theorem State.powerReturn_eq {s : State} (unpowered : s.rc.power = .aux ∨ s.rc.power = .off) (valid : s.rc.valid = true) :
    s.powerReturn = ((s.setEv (fun e => { e with pwrCycles := min (e.pwrCycles + 1) (2 ^ 24 - 1) })).setRc
      (fun r => { r with startAt := s.clk.now })).holdScope .cold false s.pins.resetLow :=
  if_pos ⟨unpowered, valid⟩

/-- Settles O40: the loss is that of a COLD scope (`State.powerLoss_lost`), the return holds its domains for release. -/
theorem suppliesComplete : Obligations.SuppliesComplete := by
  refine ⟨?warns, fun s => ⟨_, rfl, rfl⟩, ?loss, ?return_, fun s => ⟨_, rfl, rfl, rfl, rfl, rfl, rfl, rfl, rfl⟩, fun s => ⟨_, rfl, rfl⟩, ?trip, ?cools, fun up s => ⟨_, rfl, rfl⟩⟩
  case warns =>
    intro s quiet
    let v := (s.setPins (fun p => { p with pfWarn := true }))
    have newest : Newest v _ _ _ _ _ _ := v.record_newest 0x0204 1 kNone 0 []
    have capture : (v.record 0x0204 1 kNone 0 []).cr = s.cr := rfl
    refine ⟨((v.record 0x0204 1 kNone 0 []).setEv (fun e => { e with flushDue := true })).setCr
      (fun r => { r with seen := r.seen ||| 2 ^ 3 }), if_neg (by simp [quiet]), rfl, ?_⟩
    generalize v.record 0x0204 1 kNone 0 [] = w at newest capture
    exact ⟨newest, rfl, congrArg (fun r : Crucible => r.seen ||| 8) capture⟩
  case loss =>
    intro s powered
    have lost := State.powerLoss_lost powered
    exact ⟨_, rfl, lost.power, lost.release, lost.source, lost.scope, lost.domains, lost.lost, lost.ledger⟩
  case return_ =>
    intro s closed unpowered valid
    have runs : exec .vinMainReturn s = .next s.powerReturn := congrArg _ (if_neg (by simp [closed]))
    rw [State.powerReturn_eq unpowered valid] at runs
    exact ⟨_, runs, rfl, rfl, rfl, fun d inside => List.mem_append_right _ inside, rfl⟩
  case trip =>
    intro s powered
    have lost := State.powerLoss_lost powered
    refine ⟨_, rfl, lost.power, rfl, rfl, rfl, ?_⟩
    obtain ⟨role, start, loops, cells, groups, shelf, profile, storage, capture, checkpoint, time⟩ := lost.lost
    exact ⟨role, start, loops, cells, groups, shelf, profile, storage, capture, checkpoint, time⟩
  case cools =>
    intro s open_ aux valid
    let v := s.setPins (fun p => { p with railOpen := false, tempHigh := false })
    have runs : exec .thermalReturn s = .next v.powerReturn := congrArg _ (if_pos open_)
    rw [State.powerReturn_eq (s := v) (.inl aux) valid] at runs
    exact ⟨_, runs, rfl, rfl, rfl, rfl⟩

end Sys2Proof.Machine
end

section
/-!
R385, R386, R415, R417, R420 to R423: images staged, committed and activated.
-/

namespace Sys2Proof.Machine

open Sys2Proof

/-- Of the commands that wait so, the first in flight is answered. -/
theorem State.completeFirst_answers {s : State} {p : Wait → Bool} {f : Flight} {l : List Flight} (first : s.hq.inflight = f :: l)
    (waits : p f.wait = true) (st r : Nat) : Answered s (s.completeFirst p st r) f.hdr st r := by
  unfold State.completeFirst
  rw [first, List.find?_cons_of_pos (p := fun f : Flight => p f.wait) waits]
  exact State.complete_answers ..

theorem execImageStageDone_good {s : State} {h : Option CmdHdr} {b : Bytes} {r : List (Option CmdHdr × Bytes)}
    (oldest : s.se.staging = (h, b) :: r) (good : s.se.imageFault b = none) : exec .imageStageDone s =
      .next ((s.setSe (fun x => { x with staging := r, staged := some b })).completeOpt h stOk (u b 0x0C 1)) := by
  show execImageStageDone s = _
  rw [execImageStageDone, oldest]
  show (match s.se.imageFault b with | some f => _ | none => _) = _
  rw [good]
  rfl

/-- The answer of an image that fails a check (R415). -/
theorem stageStatus_eq (k o : Nat) : stageStatus (k, o) =
    (if k = 1 then stBadParam else if k = 4 then stDenied else stAuthFail, if k = 1 then 8 + o * 2 ^ 32 else 0) := by
  unfold stageStatus
  split
  next is => cases is; rfl
  next is => cases is; rfl
  next not_ not_' =>
    have not1 : k ≠ 1 := fun is => not_ o (by rw [is])
    have not4 : k ≠ 4 := fun is => not_' o (by rw [is])
    rw [if_neg not1, if_neg not4, if_neg not1]

/-- Settles O18: an image is answered by its check (`stageStatus_eq`); a write that fails is cut at the free number of
`State.imageCut`; an activation is the WARM reset of source 4. -/
theorem imageCommandsComplete : Obligations.ImageCommandsComplete := by
  refine ⟨?stage, fun h b r s oldest => ⟨?verified, ?refused⟩, ?commit, fun act b s committing staged => ⟨?written, ?cut⟩, ?activate, ?raise⟩
  case stage =>
    intro h buf s a some_ short good idle
    exact a.completes rfl rfl rfl (by simp [need, param, some_, show decide (buf.len ≤ imageMax) = true from decide_eq_true short, good])
      (by simp [need, idle, a.real]) ⟨rfl, Waits.await ..⟩
  case verified =>
    intro good
    exact ⟨_, execImageStageDone_good oldest good, rfl, Answered.since (State.complete_answers ..) rfl ⟨[], rfl⟩⟩
  case refused =>
    intro k o bad
    have runs : exec .imageStageDone s = .next ((s.setSe (fun x => { x with staging := r })).complete h (stageStatus (k, o)).1 (stageStatus (k, o)).2) := by
      show execImageStageDone s = _
      rw [execImageStageDone, oldest]
      show (match s.se.imageFault b with | some f => _ | none => _) = _
      rw [bad]
      rfl
    rw [stageStatus_eq] at runs
    exact ⟨_, runs, rfl, Answered.since (State.complete_answers ..) rfl ⟨[], rfl⟩⟩
  case commit =>
    intro h a b s ok small staged idle idle' good
    refine ok.completes rfl rfl rfl (by simp [need, param, small]) (by simp [need, staged, idle, idle', good]) ?_
    have erased := (s.setSe (fun x => { x with commit := some (a == 1) })).imageErase_se
    generalize (s.setSe (fun x => { x with commit := some (a == 1) })).imageErase = v at erased ⊢
    refine ⟨?_, ?_, ?_, ?_, Waits.await ..⟩
    · show v.se.commit = _
      rw [erased]
      rfl
    · show v.se.staged = _
      rw [erased]
      exact staged
    · show v.se.image = _
      rw [erased]
    · show v.se.areaInvalid = _
      rw [erased]
  case written =>
    let v := ((s.setSe (fun x => { x with commit := none })).imageWrite b)
    let w := ({ v with rc := { v.rc with imageChanged := true } }).setSe (fun x => { x with activateDue := x.activateDue || act })
    have runs : exec (.imageCommitDone true) s = .next (w.completeFirst isCommit stOk 0) := by
      show execImageCommitDone true s = _
      rw [execImageCommitDone, committing]
      dsimp only
      rw [staged]
      rfl
    have ends := w.completeFirst_touch isCommit stOk 0
    have se : (w.completeFirst isCommit stOk 0).se = w.se := comp_bit ends.se rfl
    exact ⟨_, runs, by rw [se]; rfl, by rw [ends.rc_eq rfl]; rfl,
      fun f l first commits => Answered.since (State.completeFirst_answers (s := w) first commits _ _) rfl ⟨[], rfl⟩⟩
  case cut =>
    let w := (s.setSe (fun x => { x with commit := none })).imageCut b
    have runs : exec (.imageCommitDone false) s = .next (w.completeFirst isCommit stTimeout 0) := by
      show execImageCommitDone false s = _
      rw [execImageCommitDone, committing]
      dsimp only
      rw [staged]
      rfl
    have ends := w.completeFirst_touch isCommit stTimeout 0
    have se : (w.completeFirst isCommit stTimeout 0).se = w.se := comp_bit ends.se rfl
    refine ⟨_, runs, by rw [se]; rfl, by rw [se]; rfl, ⟨Config.freeNat s.free % ((b.drop 4096).length + 1), ?_, by rw [se]; rfl⟩,
      by rw [ends.rc_eq rfl]; rfl,
      fun f l first commits => Answered.since (State.completeFirst_answers (s := w) first commits _ _) rfl ⟨[], rfl⟩⟩
    exact Nat.le_of_lt_succ (Nat.mod_lt _ (Nat.succ_pos _))
  case activate =>
    intro s due powered ran fresh
    let v := s.setSe (fun x => { x with activateDue := false })
    have scope : v.rc.scopeNow 1 = Scope.warm.code := by
      show s.rc.scopeNow 1 = 1
      simp [ResetCtl.scopeNow, ran]
    have runs : exec .imageActivate s = .next (v.assertReset 4 1 false none) :=
      show Host.Outcome.next _ = _ from congrArg _ (if_pos due)
    obtain ⟨role, start, slots, table, frame, cells, groups, shelf⟩ :=
      State.assertReset_warm (s := v) (src := 4) (held := false) (cmd := none) powered scope fresh
    exact ⟨_, runs, (State.assertReset_resetBy (s := v) powered scope fresh).since rfl rfl rfl rfl,
      role, start, slots, table, frame, cells, groups, shelf⟩
  case raise =>
    intro s run raises newer
    have runs : exec .svnRaise s = .next (s.setSe (fun x => { x with svn := s.se.run 0x0C 1, svnRaised := true })) :=
      show Host.Outcome.next _ = _ from congrArg _ (if_pos ⟨run, raises, newer⟩)
    exact ⟨_, runs, rfl⟩

end Sys2Proof.Machine
end

section
/-!
R428 to R431, R446: attestation over SPDM, and JTAG.
-/

namespace Sys2Proof.Machine

open Sys2Proof

/-- What the mailbox answers is put out where it is on. -/
theorem completes_spdm {c : Instr} {s v : State} {a : SpdmAnswer} (runs : exec c s = .next (v.spdm a)) (on : v.spdmOn = true)
    (out : v.out = s.out) : Completes c s (fun t => t.out = .spdm a :: s.out) := by
  refine ⟨_, runs, ?_⟩
  rw [State.spdm, if_pos on]
  exact congrArg _ out

theorem State.freeBytes_length (s : State) (n : Nat) : (s.freeBytes n).1.length = n := by
  simp [State.freeBytes]

/-- Settles O45: each request has its answer where the mailbox is on; nonce and signature are the free bytes taken. -/
theorem attestationComplete : Obligations.AttestationComplete := by
  refine ⟨fun s on => ⟨?_, ?_, ?_, ?_⟩, ?certificate, ?wrong, ?challenge, ?measurements, ?idcode, ?bypass⟩
  · exact completes_spdm rfl on rfl
  · exact completes_spdm rfl on rfl
  · exact completes_spdm rfl on rfl
  · exact completes_spdm rfl on rfl
  case certificate =>
    intro off len s on inside
    have left : s.se.chain.length - off - ((s.se.chain.drop off).take len).length = s.se.chain.length - off - len := by
      rw [List.length_take, List.length_drop]
      omega
    refine completes_spdm (v := s) ?_ on rfl
    rw [← left]
    exact congrArg (fun a => Host.Outcome.next (s.spdm a)) (if_pos ⟨rfl, inside⟩)
  case wrong =>
    intro slot off len s on other
    exact completes_spdm (v := s)
      (congrArg (fun a => Host.Outcome.next (s.spdm a)) (if_neg (by simp [other]))) on rfl
  case challenge =>
    intro summary s on
    obtain ⟨t, runs, out⟩ := completes_spdm (s := s) (c := .challenge 0 summary) (v := ((s.freeBytes 32).2.freeBytes 384).2) rfl on rfl
    exact ⟨t, runs, _, _, s.freeBytes_length 32, (s.freeBytes 32).2.freeBytes_length 384, out⟩
  case measurements =>
    intro index s on known
    have inside : ¬(5 < index ∧ index ≠ 0xFF) := by omega
    refine ⟨completes_spdm (v := s) (if_neg inside) on rfl, ?_⟩
    obtain ⟨t, runs, out⟩ := completes_spdm (s := s) (c := .getMeasurements index true) (v := ((s.freeBytes 32).2.freeBytes 384).2) (if_neg inside) on rfl
    exact ⟨t, runs, _, _, s.freeBytes_length 32, (s.freeBytes 32).2.freeBytes_length 384, out⟩
  case idcode => exact fun s => ⟨_, rfl, rfl⟩
  case bypass =>
    intro ir s other
    exact ⟨_, rfl, congrArg (fun n => Output.jtag ir n :: s.out) (if_neg other)⟩

end Sys2Proof.Machine
end

section
/-!
R301, R405, R443, R445: Quiet, SNUFF_SENSE, the pulse pins and the SMBus target.
-/

namespace Sys2Proof.Machine

open Sys2Proof

/-- A cleared bit reads 0. -/
theorem bitAt_setBit_false (v k : Nat) : bitAt (setBit v k false) k = false := by
  unfold bitAt setBit
  split
  next set =>
    rw [if_neg Bool.false_ne_true]
    rw [Nat.testBit_eq_decide_div_mod_eq, decide_eq_true_eq] at set
    have less := Nat.sub_mul_div v (2 ^ k) 1
    rw [Nat.mul_one] at less
    rw [Nat.testBit_eq_decide_div_mod_eq, decide_eq_false_iff_not, less]
    omega
  next clear => simpa using clear

/-- The clock without its lock (R255). -/
theorem State.loseLock_unlocked (s : State) : s.loseLock.clk.ptpState ≠ .lock := by
  unfold State.loseLock
  split
  next unlocked => simpa [State.ptpLock] using unlocked
  next =>
    dsimp only
    split <;> exact fun is => by cases is

theorem execSmbusReadByte_on {s : State} (on : s.smbusOn = true) (c : Nat) :
    exec (.smbusReadByte c) s = .next (s.emit (.smbus ((s.smbusByte c).map (BitVec.ofNat 8)))) :=
  congrArg (fun b => Host.Outcome.next (s.emit (.smbus b))) (if_pos on)

/-- Settles O44: by signal; entering Quiet keeps all of the reset control but the power state. -/
theorem pinsAndQuietComplete : Obligations.PinsAndQuietComplete := by
  refine ⟨?quiet, fun s => ⟨?sensed, ?released⟩, ?pulseIn, ?rises, ?falls, fun s on => ⟨?part, ?causes, ?supply, ?other⟩, ?alert⟩
  case quiet =>
    intro s power run enabled off free
    let v := if s.canSend then s.rowSend (leBytes 1 (u s.lanternBody 0 1 / 2 * 2) ++ s.lanternBody.drop 1) else s
    let w := (v.setRc (fun r => { r with power := .quiet })).noForecast
    have runs : exec .quietEnter s = .next w.loseLock :=
      if_pos ⟨power, run, enabled, List.all_eq_true.mpr fun G member => by simpa using off G member,
        List.all_eq_true.mpr fun f member => by simpa using free f member⟩
    have rc : v.rc = s.rc := Touch.rc_eq (F := 0x800400) (Touch.cond (State.rowSend_touch ..) (.refl _ s)) rfl
    have le : w.loseLock.le = w.le := comp_bit w.loseLock_touch.le rfl
    refine ⟨_, runs, ?_, ?_, w.loseLock_unlocked⟩
    · rw [State.loseLock_rc]
      exact congrArg (fun r : ResetCtl => { r with power := .quiet }) rc
    · rw [le]
      exact bitAt_setBit_false ..
  case sensed =>
    let v := (s.setGv (fun g => { g with sense := true, foreign := g.foreign && true })).setCr (fun r => { r with seen := r.seen ||| 2 ^ 2 })
    have kept : v.snuffForeign.gv.sense = true ∧ v.snuffForeign.cr = v.cr := by
      unfold State.snuffForeign
      split <;> exact ⟨rfl, rfl⟩
    exact ⟨v.snuffForeign, rfl, kept.1, by rw [kept.2]; rfl⟩
  case released => exact ⟨_, rfl, by simp [State.setGv], rfl⟩
  case pulseIn =>
    exact fun s on => ⟨_, congrArg Host.Outcome.next (if_pos on), rfl⟩
  case rises =>
    intro s on locked low
    have runs : exec (.ppsOut true) s = .next ((s.setPins (fun p => { p with ppsOut := true })).emit (.pin "PPS_OUT" true)) := by
      show execPpsOut true s = _
      rw [execPpsOut]
      rw [if_neg (by rcases locked with is | is <;> simp [on, is]), if_neg (by simp [low])]
    exact ⟨_, runs, rfl, rfl⟩
  case falls =>
    intro s high
    have runs : exec (.ppsOut false) s = .next ((s.setPins (fun p => { p with ppsOut := false })).emit (.pin "PPS_OUT" false)) :=
      if_neg (by simp [high])
    exact ⟨_, runs, rfl, rfl⟩
  case part =>
    refine ⟨_, execSmbusReadByte_on on 1, ?_⟩
    cases is : s.part <;> simp [State.smbusByte, is]
  case causes =>
    refine ⟨_, execSmbusReadByte_on on 3, ?_⟩
    have low : BitVec.ofNat 8 (s.ev.causeBits % 256) = BitVec.ofNat 8 s.ev.causeBits := BitVec.eq_of_toNat_eq (by simp)
    simp [State.smbusByte, low]
  case supply => exact ⟨_, execSmbusReadByte_on on 5, rfl⟩
  case other =>
    intro c beyond
    refine ⟨_, execSmbusReadByte_on on c, ?_⟩
    have none_ : s.smbusByte c = none := by
      unfold State.smbusByte
      rw [if_neg (by omega), if_neg (by omega), if_neg (by omega), if_neg (by omega), if_neg (by omega)]
    rw [none_]
    rfl
  case alert =>
    intro s on alert
    exact ⟨_, if_pos (by simp [on, alert]), rfl, rfl⟩

end Sys2Proof.Machine
end

section
/-!
R313, R322, R323, R448: housekeeping, memory errors and link margins.
-/

namespace Sys2Proof.Machine

open Sys2Proof

/-! ### Causes of a replacement request -/

section
variable (s : State) (cause kind subject : Nat)

theorem State.raiseCause_raised : cause ∈ (s.raiseCause cause kind subject).ev.causes := by
  unfold State.raiseCause
  split
  next stands => simpa using stands
  next => exact List.mem_append_right _ (List.mem_singleton.mpr rfl)

theorem State.raiseCause_stands {s : State} {cause : Nat} (stands : cause ∈ s.ev.causes) (kind subject : Nat) :
    s.raiseCause cause kind subject = s := if_pos (by simpa using stands)

theorem State.clearCause_cleared : cause ∉ (s.clearCause cause kind subject).ev.causes := by
  unfold State.clearCause
  split
  next => exact fun still => by simpa using (List.mem_filter.mp still).2
  next clear => simpa using clear

theorem State.raiseCause_sansEvents : (s.raiseCause cause kind subject).hq.sansEvents = s.hq.sansEvents := by
  unfold State.raiseCause
  split
  · rfl
  · exact State.record_sansEvents ..

theorem State.raiseCause_marginLow : (s.raiseCause cause kind subject).ev.marginLow = s.ev.marginLow := by
  unfold State.raiseCause
  split <;> rfl

theorem State.clearCause_marginLow : (s.clearCause cause kind subject).ev.marginLow = s.ev.marginLow := by
  unfold State.clearCause
  split <;> rfl

theorem State.raiseCause_dramCe : (s.raiseCause cause kind subject).ev.dramCe = s.ev.dramCe := by
  unfold State.raiseCause
  split <;> rfl

theorem State.clearCause_dramCe : (s.clearCause cause kind subject).ev.dramCe = s.ev.dramCe := by
  unfold State.clearCause
  split <;> rfl

end

/-- The margin of link 0 shows in the host interface (R448). -/
def State.noteMargin (s : State) (k m : Nat) : State := if k = 0 then { s with hq := { s.hq with margin := m % 256 } } else s

theorem State.noteMargin_ev (s : State) (k m : Nat) : (s.noteMargin k m).ev = s.ev := by
  unfold State.noteMargin
  split <;> rfl

theorem State.noteMargin_margin (s : State) (k m : Nat) (host : k = 0) : (s.noteMargin k m).hq.margin = m % 256 := by
  rw [State.noteMargin, if_pos host]

theorem State.noteMargin_mkRec (s : State) (k m code sev kind subject : Nat) (p : Bytes) :
    (s.noteMargin k m).mkRec code sev kind subject p = s.mkRec code sev kind subject p := by
  unfold State.noteMargin
  split <;> rfl

/-- A link margin too low, for the first time within the hour (R448). -/
theorem State.lowMargin {s : State} {k m : Nat} (small : m < 20) (fresh : k ∉ s.ev.marginLow) :
    exec (.serdesMargin k m false) s = .next ((((s.noteMargin k m).setEv (fun e => { e with marginLow := e.marginLow ++ [k] })).record
      0x0E04 1 kLink k (leBytes 1 m)).raiseCause 4 kLink k) := by
  have fresh' : k ∉ (s.noteMargin k m).ev.marginLow := by rwa [s.noteMargin_ev]
  refine if_neg ?_
  rintro (large | known)
  · omega
  · exact fresh' (List.contains_iff_mem.mp known)

/-- Settles O38: a condition is recorded and raises its cause; where the cause stands already, its record is the newest. -/
theorem housekeepingCompletes : Obligations.HousekeepingCompletes := by
  refine ⟨fun s die vm va => ?tick, fun s ch addr w => ⟨⟨_, rfl, rfl⟩, ?uncorrectable⟩, fun s => ?window, fun s k m => ⟨?low, ?high, ?hour⟩⟩
  case tick =>
    by_cases powered : s.rc.power = .run ∨ s.rc.power = .quiet
    · refine ⟨_, congrArg Host.Outcome.next (if_pos powered), rfl, fun _ => rfl, fun off => ?_⟩
      rcases powered with is | is <;> simp [is] at off
    · exact ⟨_, congrArg Host.Outcome.next (if_neg powered), rfl, fun on => absurd on powered, fun _ => rfl⟩
  case uncorrectable =>
    let v := match w with
      | some w => s.setCr (fun r => { r with badWords := if r.badWords.contains w then r.badWords else w :: r.badWords })
      | none => s
    let u := v.record 0x0E02 3 kDram ch (leBytes 8 addr)
    have cr : (u.raiseCause 2 kNone 0).cr = v.cr := comp_bit (u.raiseCause_touch ..).cr rfl
    refine ⟨u.raiseCause 2 kNone 0, rfl, u.raiseCause_raised .., fun k is => ?_, fun is => ?_, fun stands => ?_⟩
    · subst is
      rw [cr]
      show k ∈ if s.cr.badWords.contains k then s.cr.badWords else k :: s.cr.badWords
      split
      next already => simpa using already
      next => exact List.mem_cons_self
    · subst is
      exact cr
    · have there : 2 ∈ u.ev.causes := by cases w <;> exact stands
      rw [State.raiseCause_stands there]
      have newest : Newest v u _ _ _ _ _ := v.record_newest ..
      cases w <;> exact newest
  case window =>
    let v := s.setEv (fun e => { e with dramCe := 0 })
    by_cases many : 256 < s.ev.dramCe
    · let u := v.record 0x0E01 1 kNone 0 (leBytes 4 (min s.ev.dramCe (2 ^ 32 - 1)))
      have runs : exec .dramCeWindow s = .next (u.raiseCause 1 kNone 0) := congrArg Host.Outcome.next (if_pos many)
      refine ⟨_, runs, u.raiseCause_dramCe .., fun _ => u.raiseCause_raised .., fun few => absurd many (by omega), fun _ stands => ?_⟩
      rw [State.raiseCause_stands (s := u) stands]
      exact v.record_newest ..
    · have runs : exec .dramCeWindow s = .next (v.clearCause 1 kNone 0) := congrArg Host.Outcome.next (if_neg many)
      exact ⟨_, runs, v.clearCause_dramCe .., fun more => absurd more many, fun _ => v.clearCause_cleared _ _ _, fun more => absurd more many⟩
  case low =>
    intro small fresh
    let v := (s.noteMargin k m).setEv (fun e => { e with marginLow := e.marginLow ++ [k] })
    let w := v.record 0x0E04 1 kLink k (leBytes 1 m)
    refine ⟨_, State.lowMargin small fresh, ?_, w.raiseCause_raised .., fun host => ?_, fun stands => ?_⟩
    · rw [State.raiseCause_marginLow]
      exact List.mem_append_right _ (List.mem_singleton.mpr rfl)
    · have hq := (w.raiseCause_sansEvents 4 kLink k).trans (v.record_sansEvents ..)
      have margin : (w.raiseCause 4 kLink k).hq.sansEvents.margin = v.hq.sansEvents.margin := congrArg HostIf.margin hq
      exact margin.trans (s.noteMargin_margin k m host)
    · have there : 4 ∈ w.ev.causes := show 4 ∈ (s.noteMargin k m).ev.causes by rwa [s.noteMargin_ev]
      rw [State.raiseCause_stands (s := w) there]
      exact (v.record_newest ..).trans (congrArg some (s.noteMargin_mkRec ..))
  case high =>
    intro enough
    have runs : exec (.serdesMargin k m false) s = .next (s.noteMargin k m) := if_pos (.inl enough)
    exact ⟨_, runs, s.noteMargin_ev k m, s.noteMargin_margin k m⟩
  case hour =>
    let v := s.setEv (fun e => { e with marginLow := e.marginLow.filter (· != k) })
    by_cases last : v.ev.marginLow.isEmpty
    · have runs : exec (.serdesMargin k m true) s = .next (v.clearCause 4 kLink k) := congrArg Host.Outcome.next (if_pos last)
      refine ⟨_, runs, v.clearCause_marginLow .., fun _ => v.clearCause_cleared _ _ _, fun more => ?_⟩
      rw [v.clearCause_marginLow] at more
      exact absurd (List.isEmpty_iff.mp last) more
    · have runs : exec (.serdesMargin k m true) s = .next v := congrArg Host.Outcome.next (if_neg last)
      exact ⟨_, runs, rfl, fun none_ => absurd (List.isEmpty_iff.mpr none_) last, fun _ => rfl⟩

end Sys2Proof.Machine
end

section
/-!
R64, R91, R217, R295: reads that latch a high word, and reads that start a peak again.
-/

namespace Sys2Proof.Machine

open Sys2Proof

/-- The word put under a key is the one found there. -/
theorem look_putKey {β : Type} (l : List (Nat × β)) (k : Nat) (v : β) : look (putKey l k v) k = some v := by
  induction l with
  | nil => simp [putKey, look]
  | cons x l ih =>
    obtain ⟨a, b⟩ := x
    unfold putKey
    split
    next => simp [look]
    next notLess =>
      split
      next same => simp [look]
      next differs =>
        unfold look at ih ⊢
        rw [List.find?_cons_of_neg (by simpa using fun same => differs same.symm)]
        exact ih

/-! ### Sub-blocks of telemetry -/

theorem execTm_some {s : State} {x : Sig} {c : Chan} {on : Bool} (is : s.sig x = some (c, on)) :
    exec (.tmMin x) s =
      .next ((s.setSig (fun c => { c with mn := 2 ^ 31 - 1 }) x).emit (.regRead (sigAddr x + 0x0C) (ofSigned 32 c.mn))) ∧
    exec (.tmMax x) s =
      .next ((s.setSig (fun c => { c with mx := -(2 ^ 31) }) x).emit (.regRead (sigAddr x + 0x10) (ofSigned 32 c.mx))) := by
  constructor
  · show execTmMin x s = _
    rw [execTmMin, is]
  · show execTmMax x s = _
    rw [execTmMax, is]

theorem State.setSig_port {s : State} {p ch : Nat} (inside : p < s.ports.length) (channel : ch < (s.port p).tele.length)
    (f : Chan → Chan) : nth ((s.setSig f (.port p ch)).port p).tele ch {} = f (nth (s.port p).tele ch {}) := by
  show nth ((s.setPort p _).port p).tele ch {} = _
  rw [State.port_setPort, if_pos ⟨rfl, inside⟩]
  exact nth_upd_same _ _ _ _ channel

theorem State.setSig_group {s : State} {g k : Nat} (inside : g < s.groups.length) (f : Chan → Chan) :
    ((s.setSig f (.group g k)).group g).chan k = f ((s.group g).chan k) := by
  show ((s.setGroup g _).group g).chan k = _
  rw [State.group_setGroup, if_pos ⟨rfl, inside⟩]
  unfold Group.chan
  by_cases k0 : k = 0
  · simp [k0]
  by_cases k1 : k = 1
  · simp [k1]
  by_cases k2 : k = 2
  · simp [k2]
  simp [k0, k1, k2]

/-- No register of the Profile Table has a _HI register. -/
theorem State.wide_profileTable {s : State} {a : Nat} (low : 0x01000000 ≤ a) (high : a < 0x01400000) : s.wide a = none := by
  unfold State.wide
  repeat rw [if_neg (by omega)]

/-- The address of a peak of a port's or a group's sub-block. -/
theorem regRead_out {a b : Nat} (same : a = b) (v : Nat) (l : List Output) : Output.regRead a v :: l = .regRead b v :: l := by
  rw [same]

/-- Settles O12: each read is one latch, or one peak that starts again, and one answer. -/
theorem readsComplete : Obligations.ReadsComplete := by
  refine ⟨?integ, ?shadow, ?table, ?port, ?group, ?shelf⟩
  case integ =>
    intro k whole s shape bar inside
    have small := s.part.slots_le
    let v := s.setSlot k (fun x => { x with integShadow := ofSigned 64 (s.slot k).integ / 2 ^ 32 })
    have runs : exec (.loRead (0x00400218 + 0x400 * k) whole) s = .next (v.emit (.regRead (0x00400218 + 0x400 * k)
        (if whole then ofSigned 64 (s.slot k).integ else ofSigned 64 (s.slot k).integ % 2 ^ 32))) := by
      show execLoRead _ whole s = _
      rw [execLoRead, if_neg (by simp [bar]), if_neg (by omega), State.integAt_integLo (off := 0x218) (by omega) (by decide) inside rfl]
    refine ⟨_, runs, ?_, rfl⟩
    rw [State.slot_emit, State.slot_setSlot, if_pos ⟨rfl, shape.slots ▸ Nat.lt_of_lt_of_le inside small⟩]
  case shadow =>
    intro a v s bar none_ wide
    have outside : ¬(0x01000000 ≤ a ∧ a < 0x01400000) := by
      rintro ⟨low, high⟩
      rw [State.wide_profileTable low high] at wide
      cases wide
    have runs (whole : Bool) : exec (.loRead a whole) s =
        .next ((s.setHq (fun q => { q with shadows := putKey q.shadows a (v / 2 ^ 32 % 2 ^ 32) })).emit
          (.regRead a (if whole then v % 2 ^ 64 else v % 2 ^ 32))) := by
      show execLoRead a whole s = _
      rw [execLoRead, if_neg (by simp [bar]), if_neg outside, none_, wide]
    exact ⟨⟨_, runs false, look_putKey .., rfl⟩, ⟨_, runs true, rfl⟩⟩
  case table =>
    intro b s inside
    have low : 8 * b / 8 = b := by omega
    have runs (whole : Bool) : exec (.profileTableRead (8 * b) whole) s =
        if whole then .next (s.emit (.regRead (0x01000000 + 8 * b) (pfEntry s.pf.table b).word))
        else .next ((s.setPf (fun p => { p with tabShadow := (pfEntry s.pf.table b).word / 2 ^ 32 })).emit
          (.regRead (0x01000000 + 8 * b) ((pfEntry s.pf.table b).word % 2 ^ 32))) := by
      show execProfileTableRead (8 * b) whole s = _
      rw [execProfileTableRead, low, if_pos inside]
      exact ite_congr rfl (fun _ => rfl) (fun _ => if_pos (Nat.mul_mod_right 8 b))
    have upper : exec (.profileTableRead (8 * b + 4) false) s = .next (s.emit (.regRead (0x01000000 + (8 * b + 4)) s.pf.tabShadow)) := by
      show execProfileTableRead (8 * b + 4) false s = _
      rw [execProfileTableRead, if_neg Bool.false_ne_true, if_neg (by omega)]
    exact ⟨⟨_, runs false, rfl, rfl⟩, ⟨_, upper, rfl⟩, ⟨_, runs true, rfl⟩⟩
  case port =>
    intro p ch s shape inside tele channel
    have is : s.sig (.port p ch) = some (nth (s.port p).tele ch {}, (s.port p).chanOn ch) := if_pos ⟨inside, channel⟩
    have place : p < s.ports.length := shape.ports ▸ Nat.lt_of_lt_of_le inside (by cases s.part <;> decide)
    exact ⟨⟨_, (execTm_some is).1, regRead_out (by simp only [sigAddr]; omega) .., State.setSig_port place tele (fun c => { c with mn := 2 ^ 31 - 1 })⟩,
      ⟨_, (execTm_some is).2, regRead_out (by simp only [sigAddr]; omega) .., State.setSig_port place tele (fun c => { c with mx := -(2 ^ 31) })⟩⟩
  case group =>
    intro g k s shape inside channel
    have is : s.sig (.group g k) = some ((s.group g).chan k, (s.group g).gtype != 0) := if_pos ⟨inside, channel⟩
    have place : g < s.groups.length := shape.groups ▸ inside
    exact ⟨⟨_, (execTm_some is).1, regRead_out (by simp only [sigAddr]; omega) .., State.setSig_group place (fun c => { c with mn := 2 ^ 31 - 1 })⟩,
      ⟨_, (execTm_some is).2, regRead_out (by simp only [sigAddr]; omega) .., State.setSig_group place (fun c => { c with mx := -(2 ^ 31) })⟩⟩
  case shelf => exact fun s => ⟨⟨_, rfl, rfl, rfl⟩, ⟨_, rfl, rfl, rfl⟩⟩

end Sys2Proof.Machine
end

section
/-!
R392, R393, R396 to R398, Tables 17-2 and 17-5: releases and clock faults.
-/

namespace Sys2Proof.Machine

open Sys2Proof

/-! ### A domain that fails while running -/

theorem State.loseLock_net (s : State) : s.loseLock.gn.mode = s.gn.mode ∧ s.loseLock.gn.isolated = s.gn.isolated := by
  unfold State.loseLock
  split
  · exact ⟨rfl, rfl⟩
  · dsimp only
    split <;> exact ⟨rfl, rfl⟩

/-- The tether's training and the loss of the partner stand through a takeover. -/
theorem State.takeover_teth (s : State) (cause : Nat) :
    (s.takeover cause).teth.trained = s.teth.trained ∧ (s.takeover cause).teth.lost = s.teth.lost := by
  have teth : ∀ (l : List Nat) (v : State), (l.foldl State.holdCheck v).teth = v.teth := fun l v =>
    comp_bit ((Touch.refl 0x814020 v).foldl State.holdCheck_touch).teth rfl
  unfold State.takeover
  dsimp only
  rw [teth]
  exact ⟨rfl, rfl⟩

theorem State.partnerLost_teth (s : State) : s.partnerLost.teth.trained = s.teth.trained ∧
    (s.teth.seen = true → s.teth.lost = false → s.partnerLost.teth.lost = true) := by
  unfold State.partnerLost
  split
  next still => exact ⟨rfl, fun seen lost => by simp [seen, lost] at still⟩
  next =>
    dsimp only
    split
    · exact ⟨(State.takeover_teth ..).1, fun _ _ => (State.takeover_teth ..).2⟩
    · exact ⟨rfl, fun _ _ => rfl⟩

/-- A running domain whose clock is not good is held (R393). -/
def State.holdDomain (s : State) (d : Nat) : State :=
  (s.clockFault d false).setRc (fun r => { r with held := r.held ++ [d], badClk := r.badClk ++ [d] })

theorem execRcClockFault_runs {s : State} {d : Nat} (inside : d < s.part.clockDomains) (on : s.rc.on d = true) (root : s.rc.on 1 = true)
    (pcie : d = 12 → s.hq.speed ≠ 0) (net : d = 14 ∨ d = 15 → s.gn.linkUp = true) :
    exec (.rcClockFault d) s = .next ((s.holdDomain d).clockAction d) := by
  have domain : s.part.domains.contains d = true := List.contains_iff_mem.mpr (List.mem_range.mpr inside)
  have running : ((d == 12 && s.hq.speed == 0) || ((d == 14 || d == 15) && !s.gn.linkUp)) = false := by
    by_cases d12 : d = 12
    · simp [d12, pcie d12]
    · by_cases phy : d = 14 ∨ d = 15
      · simp [d12, net phy]
      · simpa [d12] using fun other => absurd other phy
  show execRcClockFault d s = _
  rw [execRcClockFault]
  dsimp only
  rw [running, domain, on, root]
  rfl

/-- The action of Table 17-2 leaves the reset control alone and does its part. -/
structure ClockActed (s t : State) (d : Nat) : Prop where
  rc : t.rc = s.rc
  forecast : d = 5 → bitAt t.le.xinValid 0 = false
  crucible : d = 11 → s.cr.state = .armed ∨ s.cr.state = .triggered → t.cr.state = .frozen
  pcie : d = 12 ∨ d = 13 → t.hq.speed = 0 ∧ t.hq.width = 0
  network : 14 ≤ d → d ≤ 16 → t.gn.mode = 0 ∧ t.gn.isolated = true
  time : 14 ≤ d → d ≤ 17 → t.clk.ptpState ≠ .lock
  dram : 22 ≤ d → 2 ∈ t.ev.causes

theorem State.clockAction_acted (s : State) {d : Nat} (inside : d < 40) (plain : d < 18 ∨ (22 ≤ d ∧ d ≤ 29) ∨ 32 ≤ d) :
    ClockActed s (s.clockAction d) d := by
  unfold State.clockAction
  by_cases forecast : d = 5
  · rw [if_pos forecast]
    exact ⟨rfl, fun _ => bitAt_setBit_false .., by omega, by omega, by omega, by omega, by omega⟩
  by_cases crucible : d = 11
  · rw [if_neg forecast, if_pos crucible]
    refine ⟨Touch.rc_eq (F := 0x815000) (Touch.cond (s.crFreeze_touch.mono rfl) (.refl _ s)) rfl, by omega, fun _ live => ?_, by omega,
      by omega, by omega, by omega⟩
    rw [if_pos live]
    rfl
  by_cases pcie : d = 12 ∨ d = 13
  · rw [if_neg forecast, if_neg crucible, if_pos pcie]
    exact ⟨rfl, by omega, by omega, fun _ => ⟨rfl, rfl⟩, by omega, by omega, by omega⟩
  by_cases network : 14 ≤ d ∧ d ≤ 16
  · rw [if_neg forecast, if_neg crucible, if_neg pcie, if_pos network]
    obtain ⟨-, mode, isolated⟩ := s.linkDown_keeps
    exact ⟨(State.loseLock_rc _).trans (s.linkDown_touch.rc_eq rfl), by omega, by omega, by omega,
      fun _ _ => ⟨(State.loseLock_net _).1.trans mode, (State.loseLock_net _).2.trans isolated⟩, fun _ _ => State.loseLock_unlocked _, by omega⟩
  by_cases time : d = 17
  · rw [if_neg forecast, if_neg crucible, if_neg pcie, if_neg network, if_pos time]
    exact ⟨State.loseLock_rc _, by omega, by omega, by omega, by omega, fun _ _ => s.loseLock_unlocked, by omega⟩
  rw [if_neg forecast, if_neg crucible, if_neg pcie, if_neg network, if_neg time, if_neg (by omega)]
  by_cases dram : (22 ≤ d ∧ d ≤ 29) ∨ (32 ≤ d ∧ d ≤ 39)
  · rw [if_pos dram]
    exact ⟨(s.raiseCause_touch ..).rc_eq rfl, by omega, by omega, by omega, by omega, by omega, fun _ => s.raiseCause_raised ..⟩
  · rw [if_neg dram, if_neg (by omega)]
    exact ⟨rfl, by omega, by omega, by omega, by omega, by omega, by omega⟩

/-- Settles O41: by kind of release; a running domain is held, then `State.clockAction_acted` says what Table 17-2 does. -/
theorem releasesComplete : Obligations.ReleasesComplete := by
  refine ⟨fun x s under asserted stopped => ⟨?step, fun d => ?stop⟩, fun s active stopped => ⟨?block, fun d => ?blockStop⟩,
    fun x s under stopped => ⟨?retry, ?given⟩, fun s active stopped => ⟨?blockRetry, ?blockGiven⟩, ?fault, ?tether⟩
  case step =>
    have runs : exec (.releaseStep false none) s = .next (s.setRc (fun r => { r with
        off := r.off.filter (fun d => !(s.part.stepDomains x.step).contains d)
        release := (x.scope.after x.powerOn x.step).map (fun k => { x with step := k }) })) := by
      show execReleaseStep false none s = _
      simp [execReleaseStep, under, asserted, stopped]
    refine ⟨_, runs, fun d inside => ?_, fun d outside => ?_, rfl⟩
    · simp [State.setRc, inside]
    · simp [State.setRc, outside]
  case stop =>
    have runs : exec (.releaseStep false (some d)) s = .next ((s.clockFault d true).setRc (fun r => { r with
        release := some { x with tries := x.tries + 1, stopped := true } })) := by
      show execReleaseStep false (some d) s = _
      simp [execReleaseStep, under, asserted, stopped]
    exact ⟨_, runs, rfl, rfl, rfl, by simp [State.clockFault, State.setRc]⟩
  case block =>
    let b := s.rc.blockCode
    let v := s.setRc (fun r => { r with off := r.off.filter (fun d => !(blockDomains b).contains d), blockActive := false })
    let w := if b = 3 then v.restoreCheckpoint else v
    have runs : exec (.releaseStep true none) s = .next (w.completeWhere (· == Wait.blockReset b) stOk 0) := by
      show execReleaseStep true none s = _
      simp [execReleaseStep, active, stopped, State.blockReleased, w, v, b]
    have touch : Touch 0xa00 v w := Touch.cond v.restoreCheckpoint_touch (.refl _ v)
    have rc : (w.completeWhere (· == Wait.blockReset b) stOk 0).rc = v.rc :=
      ((w.completeWhere_touch ..).rc_eq rfl).trans (touch.rc_eq rfl)
    have before : Touch 0x8a00 s w := ((s.setRc_touch _).mono rfl).step touch rfl
    refine ⟨_, runs, by rw [rc]; rfl, fun d inside => ?_,
      State.completeWhere_answersSince before rfl (congrArg HostIf.inflight (comp_bit touch.hq rfl)) stOk 0⟩
    rw [rc]
    exact fun still => by simpa [inside, b] using (List.mem_filter.mp still).2
  case blockStop =>
    have runs : exec (.releaseStep true (some d)) s = .next ((s.clockFault d true).setRc (fun r => { r with
        blockTries := r.blockTries + 1, blockStopped := true })) := by
      show execReleaseStep true (some d) s = _
      simp [execReleaseStep, active, stopped]
    exact ⟨_, runs, active, rfl, rfl, rfl, rfl⟩
  case retry =>
    intro few
    have runs : exec (.releaseRetry false) s = .next (s.setRc (fun r => { r with release := some { x.scope.fresh x.powerOn x.asserted with tries := x.tries } })) := by
      show execReleaseRetry false s = _
      simp [execReleaseRetry, under, stopped, few]
    exact ⟨_, runs, rfl⟩
  case given =>
    intro many
    refine ⟨s, ?_, rfl⟩
    show execReleaseRetry false s = _
    simp [execReleaseRetry, under, stopped, show ¬x.tries < 3 by omega]
  case blockRetry =>
    intro few
    have runs : exec (.releaseRetry true) s = .next (s.setRc (fun r => { r with blockStopped := false })) := by
      show execReleaseRetry true s = _
      simp [execReleaseRetry, active, stopped, few]
    exact ⟨_, runs, rfl⟩
  case blockGiven =>
    intro many
    refine ⟨s, ?_, rfl⟩
    show execReleaseRetry true s = _
    simp [execReleaseRetry, active, stopped, show ¬s.rc.blockTries < 3 by omega]
  case fault =>
    intro d s inside on root domain pcie net
    have acted := (s.holdDomain d).clockAction_acted (Nat.lt_of_lt_of_le inside (by cases s.part <;> decide)) domain
    refine ⟨_, execRcClockFault_runs inside on root pcie net, ?_, ?_, ?_, acted.forecast, acted.crucible, acted.pcie,
      acted.network, acted.time, acted.dram⟩
    · rw [acted.rc]
      exact List.mem_append_right _ (List.mem_singleton.mpr rfl)
    · rw [acted.rc]
      exact List.mem_append_right _ (List.mem_singleton.mpr rfl)
    · rw [acted.rc]
      rfl
  case tether =>
    intro s on root
    let v := (s.holdDomain 18).setTeth (fun t => { t with trained := false })
    have runs : exec (.rcClockFault 18) s = .next v.partnerLost :=
      execRcClockFault_runs (by cases s.part <;> decide) on root (by omega) (by omega)
    obtain ⟨trained, lost⟩ := v.partnerLost_teth
    refine ⟨_, runs, trained, ?_, lost⟩
    rw [v.partnerLost_touch.rc_eq rfl]
    exact List.mem_append_right _ (List.mem_singleton.mpr rfl)

end Sys2Proof.Machine
end

section
/-!
R108 to R111, R114, R116: the bus target, its writes, and the registers of burst.
-/

namespace Sys2Proof.Machine

open Sys2Proof

variable (s : State)

theorem State.aimAll_sh : s.aimAll.sh = s.sh := comp_bit s.aimAll_touch.sh rfl

/-- Burst ends with its hold and its count set anew; the target and the slew stand. -/
theorem State.burstExit_target : s.burstExit.sh.target = s.sh.target ∧ s.burstExit.sh.slew = s.sh.slew ∧
    s.burstExit.sh.vset = s.sh.vset := by
  unfold State.burstExit
  split
  · exact ⟨rfl, rfl, rfl⟩
  · have leaves : (s.burstGroups.foldl State.leaveBurst s).sh = s.sh :=
      comp_bit (F := 0x810050) ((Touch.refl _ _).foldl fun v g => v.leaveBurst_touch g).sh rfl
    dsimp only
    rw [leaves]
    exact ⟨rfl, rfl, rfl⟩

/-- A change of the bus is in force at once. -/
theorem State.setBus_target (target : Int) (slew : Nat) : (s.setBus target slew).sh.target = target ∧
    (s.setBus target slew).sh.slew = slew ∧ (s.setBus target slew).sh.vset = s.sh.vset := by
  unfold State.setBus
  dsimp only
  rw [State.aimAll_sh]
  split
  · exact State.burstExit_target _
  · exact ⟨rfl, rfl, rfl⟩

/-- The BUS_VSET that was running is answered; no other part of the shelf moves but the flag that says so. -/
theorem State.supersedeBus_answers : ∀ f ∈ s.hq.inflight, f.wait = .busVset → Answered s s.supersedeBus f.hdr stSuperseded 0 := by
  intro f member is
  have waits : s.waiting Wait.busVset = true := List.any_eq_true.mpr ⟨f, member, by simp [is]⟩
  rw [State.supersedeBus, if_pos waits]
  exact (State.completeWhere_answers { s with sh := { s.sh with superseded := true } } (· == Wait.busVset) stSuperseded 0 f
    member (by simp [is])).since rfl ⟨[], rfl⟩

theorem State.supersedeBus_vset : s.supersedeBus.sh.vset = s.sh.vset := by
  unfold State.supersedeBus
  split
  · rw [comp_bit (State.completeWhere_touch ..).sh rfl]
  · rfl

/-- A value the registers of the bus refuse is recorded. -/
theorem State.refusal_newest (x : Shelf) (d : Reg) :
    Newest s ({ s with sh := x }.record 0x0404 0 kNone 0 (leBytes 4 d.toNat)) 0x0404 0 kNone 0 (leBytes 4 d.toNat) ∧
      ({ s with sh := x }.record 0x0404 0 kNone 0 (leBytes 4 d.toNat)).sh = x :=
  ⟨State.record_newest { s with sh := x } .., rfl⟩

theorem bits_mod {v hi lo n : Nat} (inside : hi < n) : bits (v % 2 ^ n) hi lo = bits v hi lo := by
  refine Nat.eq_of_testBit_eq fun i => ?_
  simp only [bits, Nat.testBit_mod_two_pow, Nat.testBit_shiftRight]
  by_cases here : i < hi + 1 - lo
  · simp [here, show lo + i < n by omega]
  · simp [here]

/-- Settles O7: a value in range is put in force (`State.setBus_target`, `State.supersedeBus_answers`), another is recorded
(`State.refusal_newest`). -/
theorem busWritesComplete : Obligations.BusWritesComplete := by
  refine ⟨fun d s bar0 standby => ⟨?target, ?targetRefused⟩, fun d s bar0 standby => ⟨?slew, ?slewRefused⟩, fun d s bar0 => ?lead,
    fun d s bar0 => ⟨?enter, ?enterRefused⟩, fun d s bar0 => ⟨?dwell, ?dwellRefused⟩, fun d s bar0 => ⟨?band, ?bandRefused⟩⟩
  case target =>
    intro good
    let v : State := { s with sh := { s.sh with vset := d } }
    obtain ⟨target, slew, vset⟩ := v.supersedeBus.setBus_target d.toInt s.sh.slew
    refine ⟨v.supersedeBus.setBus d.toInt s.sh.slew, ?_, vset.trans v.supersedeBus_vset, target, slew, fun f member is => ?_⟩
    · show execPtBusVset d s = _
      rw [execPtBusVset, if_neg (by simp [bar0, standby]), if_pos good]
    · exact Answered.since (s := s) (Answered.later (v.supersedeBus_answers f member is) (State.setBus_touch ..)) rfl ⟨[], rfl⟩
  case targetRefused =>
    intro bad
    refine ⟨_, ?_, (s.refusal_newest _ d).2, (s.refusal_newest _ d).1⟩
    show execPtBusVset d s = _
    rw [execPtBusVset, if_neg (by simp [bar0, standby]), if_neg (by simp [bad])]
  case slew =>
    intro good
    let v : State := { s with sh := { s.sh with slewReg := bits d.toNat 9 0, slew := bits d.toNat 9 0 } }
    refine ⟨v.aimAll, ?_, v.aimAll_sh⟩
    show execPtBusSlew d s = _
    rw [execPtBusSlew, if_neg (by simp [bar0, standby]), if_pos good]
  case slewRefused =>
    intro bad
    refine ⟨_, ?_, (s.refusal_newest _ d).2, (s.refusal_newest _ d).1⟩
    show execPtBusSlew d s = _
    rw [execPtBusSlew, if_neg (by simp [bar0, standby]), if_neg (by simp [bad])]
  case lead =>
    refine ⟨_, rfl, ?_⟩
    by_cases small : bits d.toNat 6 0 ≤ 100 <;> simp [small, bar0]
  case enter =>
    intro low high
    exact ⟨{ s with sh := { s.sh with burstEnter := d.toNat } }, by
      show execPtBurstEnter d s = _
      rw [execPtBurstEnter, if_neg (by simp [bar0]), if_pos ⟨low, high⟩], rfl⟩
  case enterRefused =>
    intro bad
    refine ⟨_, ?_, (s.refusal_newest _ d).2, (s.refusal_newest _ d).1⟩
    show execPtBurstEnter d s = _
    rw [execPtBurstEnter, if_neg (by simp [bar0]), if_neg (by omega)]
    rfl
  case dwell =>
    intro good
    exact ⟨{ s with sh := { s.sh with burstDwell := bits d.toNat 15 0 } }, by
      show execPtBurstDwell d s = _
      rw [execPtBurstDwell, if_neg (by simp [bar0]), if_pos good], rfl⟩
  case dwellRefused =>
    intro bad
    refine ⟨_, ?_, (s.refusal_newest _ d).2, (s.refusal_newest _ d).1⟩
    show execPtBurstDwell d s = _
    rw [execPtBurstDwell, if_neg (by simp [bar0]), if_neg (by omega)]
    rfl
  case band =>
    intro exit_ low order
    exact ⟨{ s with sh := { s.sh with burstBand := d.toNat % 2 ^ 30 } }, by
      show execPtBurstBand d s = _
      rw [execPtBurstBand, if_neg (by simp [bar0]), bits_mod (by decide), bits_mod (by decide), bits_mod (by decide),
        if_pos ⟨exit_, low, order⟩], rfl⟩
  case bandRefused =>
    intro bad
    refine ⟨_, ?_, (s.refusal_newest _ d).2, (s.refusal_newest _ d).1⟩
    show execPtBurstBand d s = _
    rw [execPtBurstBand, if_neg (by simp [bar0]), bits_mod (by decide), bits_mod (by decide), bits_mod (by decide),
      if_neg (by omega)]
    rfl

end Sys2Proof.Machine
end

section
/-!
R100, R101, R103, R113: what a start and a quench leave of the groups.
-/

namespace Sys2Proof.Machine

open Sys2Proof

section
variable {F : Nat} {s t : State} (g : Touch F s t)
include g

theorem Touch.group_eq (outside : F.testBit 6 = false) (k : Nat) : t.group k = s.group k :=
  congrArg (fun l => nth l k ({} : Group)) (comp_bit g.groups outside)

theorem Touch.port_eq (outside : F.testBit 5 = false) (p : Nat) : t.port p = s.port p :=
  congrArg (fun l => nth l p ({} : Port)) (comp_bit g.ports outside)

theorem Touch.slot_eq (outside : F.testBit 4 = false) (k : Nat) : t.slot k = s.slot k :=
  congrArg (fun x : LoopEngine => nth x.slots k ({} : Slot)) (comp_bit g.le outside)

end

section
variable (s : State)

/-- A group leaves burst by itself. -/
theorem State.leaveBurst_group {g k : Nat} (other : g ≠ k) : (s.leaveBurst g).group k = s.group k := by
  unfold State.leaveBurst
  dsimp only
  split
  · rw [(State.completeWhere_touch ..).group_eq rfl, (State.aimGroup_touch ..).group_eq rfl]
    exact nth_upd_other _ _ _ _ _ other
  · rw [(State.aimGroup_touch ..).group_eq rfl]
    exact nth_upd_other _ _ _ _ _ other

/-- A group that leaves burst does not go to OFF. -/
theorem State.leaveBurst_on {g k : Nat} (on_ : (s.group k).state ≠ .off) : ((s.leaveBurst g).group k).state ≠ .off := by
  by_cases same : g = k
  · subst same
    unfold State.leaveBurst
    dsimp only
    have regulates : ∀ v : State, v.groups = upd s.groups g (fun G => { G with
        state := .regulating, startPend := G.startPend || (s.group g).state == .burstSleep
        wakePend := G.wakePend || (s.group g).state == .burstSleep, toReg := false }) → (v.group g).state ≠ .off := by
      intro v groups
      rw [State.group, groups, nth_upd]
      split
      · exact fun h => by cases h
      · exact on_
    split
    · rw [(State.completeWhere_touch ..).group_eq rfl, (State.aimGroup_touch ..).group_eq rfl]
      exact regulates _ rfl
    · rw [(State.aimGroup_touch ..).group_eq rfl]
      exact regulates _ rfl
  · rwa [s.leaveBurst_group same]

theorem State.leaveBursts_group {k : Nat} (l : List Nat) (other : k ∉ l) : (l.foldl State.leaveBurst s).group k = s.group k := by
  induction l generalizing s with
  | nil => rfl
  | cons g l ih =>
    rw [List.foldl_cons, ih _ fun member => other (.tail _ member), s.leaveBurst_group fun is => other (by simp [is])]

theorem State.leaveBursts_on {k : Nat} (l : List Nat) (on_ : (s.group k).state ≠ .off) :
    ((l.foldl State.leaveBurst s).group k).state ≠ .off := by
  induction l generalizing s with
  | nil => exact on_
  | cons g l ih => exact ih _ (s.leaveBurst_on on_)

/-- A group outside burst is not moved by its end. -/
theorem State.burstExit_group {k : Nat} (outside : s.inBurst k = false) : s.burstExit.group k = s.group k := by
  unfold State.burstExit
  split
  · rfl
  · exact s.leaveBursts_group _ fun member => by
      rw [State.burstGroups, List.mem_filter, outside] at member
      exact Bool.false_ne_true member.2

theorem State.burstExit_on {k : Nat} (on_ : (s.group k).state ≠ .off) : (s.burstExit.group k).state ≠ .off := by
  unfold State.burstExit
  split
  · exact on_
  · exact s.leaveBursts_on _ on_

/-- A group that is quenched. -/
def Group.quenched (G : Group) (cause : Nat) : Group :=
  { G with state := .quenching, lastQuench := cause, startPend := false, wakePend := false, toReg := false, regRun := 0 }

/-- A quench of a group that runs is its own change of the group, then the end of burst (R103, R113). -/
theorem State.quench_runs {g : Nat} (cause : Nat) (runs : ¬ ((s.group g).state = .off ∨ (s.group g).state = .quenching)) :
    ∃ v : State, s.quench g cause = v.burstExit.busCheck ∧ Touch 0x81c070 s v ∧
      v.groups = upd s.groups g (fun G => G.quenched cause) := by
  unfold State.quench
  dsimp only
  rw [if_neg runs]
  let a := s.setGroup g (fun G => G.quenched cause)
  let b := (a.activeMembers g).foldl (fun s p => s.setPort p (fun P => { P with stopSeen := false })) a
  have stops : Touch 0x20 a b := (Touch.refl _ _).foldl fun v p => v.setPort_touch p _
  let c := (b.openGroup g).completeWhere (· == Wait.groupEnable g) stDenied 1
  have opens : Touch 0x810030 a c :=
    ((stops.mono rfl).step (b.openGroup_touch g) rfl).step (State.completeWhere_touch _ (· == Wait.groupEnable g) stDenied 1) rfl
  have ends : Touch 0x81c030 a ((c.members g).foldl State.endRestore c) :=
    (opens.mono rfl).step (F := 0x81c030) (Touch.foldl (Touch.refl _ _) fun v p => v.endRestore_touch p) rfl
  exact ⟨_, rfl, ((s.setGroup_touch g _).mono rfl).step (F := 0x81c070) ends rfl, comp_bit ends.groups rfl⟩

/-- A group is quenched once, and its cause is the first (R103, R373). -/
theorem State.quench_same {g : Nat} (cause : Nat) (size : g < s.groups.length) (on_ : (s.group g).state ≠ .off) :
    ((s.quench g cause).group g).state = .quenching ∧ ((s.quench g cause).group g).lastQuench =
      if (s.group g).state = .quenching then (s.group g).lastQuench else cause := by
  by_cases already : (s.group g).state = .quenching
  · rw [show s.quench g cause = s from if_pos (.inr already), if_pos already]
    exact ⟨already, rfl⟩
  · obtain ⟨v, is, -, groups⟩ := s.quench_runs cause (g := g) (by simp [on_, already])
    have same : v.group g = (s.group g).quenched cause :=
      (congrArg (fun l => nth l g ({} : Group)) groups).trans (nth_upd_same _ _ _ _ size)
    have left : (s.quench g cause).group g = (s.group g).quenched cause := by
      rw [is, (State.busCheck_touch _).group_eq rfl, v.burstExit_group (by rw [State.inBurst, same]; rfl), same]
    rw [left, if_neg already]
    exact ⟨rfl, rfl⟩

/-- A group that quenches is left to it. -/
theorem State.quench_quenching {g k : Nat} (cause : Nat) (quenches : (s.group k).state = .quenching) :
    (s.quench g cause).group k = s.group k := by
  by_cases idle : (s.group g).state = .off ∨ (s.group g).state = .quenching
  · rw [show s.quench g cause = s from if_pos idle]
  · obtain ⟨v, is, -, groups⟩ := s.quench_runs cause idle
    have other : g ≠ k := fun same => idle (.inr (same ▸ quenches))
    have same : v.group k = s.group k := (congrArg (fun l => nth l k ({} : Group)) groups).trans (nth_upd_other _ _ _ _ _ other)
    rw [is, (State.busCheck_touch _).group_eq rfl, v.burstExit_group (by rw [State.inBurst, same, quenches]; rfl), same]

/-- No group goes to OFF at a quench. -/
theorem State.quench_on {g k : Nat} (cause : Nat) (on_ : (s.group k).state ≠ .off) : ((s.quench g cause).group k).state ≠ .off := by
  by_cases idle : (s.group g).state = .off ∨ (s.group g).state = .quenching
  · rwa [show s.quench g cause = s from if_pos idle]
  · obtain ⟨v, is, -, groups⟩ := s.quench_runs cause idle
    rw [is, (State.busCheck_touch _).group_eq rfl]
    refine v.burstExit_on ?_
    rw [State.group, groups, nth_upd]
    split
    · exact fun h => by cases h
    · exact on_

/-- A start leaves its group STARTING (R101). -/
theorem State.startGroup_groups (g : Nat) : (s.startGroup g).groups = upd s.groups g (fun G =>
    { G with state := .starting, startPend := true, wakePend := false, toReg := true, autoTried := true, regRun := 0 }) := by
  unfold State.startGroup
  dsimp only
  have rearms (v : State) (l : List Nat) : (l.foldl (fun s p => s.setPort p Port.rearm) v).groups = v.groups :=
    comp_bit (F := 0x20) ((Touch.refl _ _).foldl fun v p => v.setPort_touch p _).groups rfl
  split
  · exact (comp_bit (State.setConst_touch ..).groups rfl).trans (rearms _ _)
  · split
    · exact (comp_bit (State.aimGroup_touch ..).groups rfl).trans (rearms _ _)
    · exact rearms _ _

/-- How BUS_VSET goes on once the bus has its target (R110, R373). -/
def State.busAnswer (h : CmdHdr) : State :=
  if s.busLive.isEmpty then s.done h stOk 0 else (s.await h 0x0403 .busVset).busCheck

theorem State.busAnswer_touch (h : CmdHdr) : Touch 0x810000 s (s.busAnswer h) := by
  unfold State.busAnswer
  split
  · exact State.complete_touch ..
  · exact ((s.await_touch h 0x0403 .busVset).mono rfl).step (State.busCheck_touch _) rfl

/-- Its own flight is among those that the check of the bus answers. -/
theorem State.busAnswer_says (h : CmdHdr) : (s.busLive = [] → Answered s (s.busAnswer h) h stOk 0) ∧
    (s.busLive ≠ [] → s.busLive.all s.atTarget = true →
      Answered s (s.busAnswer h) h stOk (s.busLive.foldl (fun m g => m + 2 ^ g) 0)) ∧
    (s.busLive.all s.atTarget = false → Waits (s.busAnswer h) h .busVset) := by
  unfold State.busAnswer
  refine ⟨fun none_ => ?_, fun some_ all => ?_, fun not => ?_⟩
  · rw [if_pos (by simp [none_])]
    exact State.complete_answers ..
  · rw [if_neg (by simp [some_]), State.busCheck]
    rw [show (s.await h 0x0403 .busVset).busLive.all (s.await h 0x0403 .busVset).atTarget = true from all, if_pos rfl]
    obtain ⟨f, member, rfl, is⟩ := Waits.await s h 0x0403 .busVset
    exact Answered.before (s.await_touch f.hdr 0x0403 .busVset) rfl
      (State.completeWhere_answers _ (· == Wait.busVset) _ _ f member (by simp [is]))
  · have some_ : s.busLive ≠ [] := fun none_ => by simp [none_] at not
    rw [if_neg (by simp [some_]), State.busCheck]
    rw [show (s.await h 0x0403 .busVset).busLive.all (s.await h 0x0403 .busVset).atTarget = false from not,
      if_neg Bool.false_ne_true]
    exact Waits.await ..

/-- Settles O5: the groups by `State.startGroup_groups` and `State.quench_same`, the bus by `State.setBus_target`; BUS_VSET is itself
among the commands that the check of the bus answers. -/
theorem groupCommandsComplete : Obligations.GroupCommandsComplete := by
  refine ⟨fun h g s a w low typed => ⟨?start, ?runs⟩, fun h g s a w low typed => ⟨?idle, ?quench⟩, ?bus⟩
  case start =>
    intro off good
    refine a.completes rfl rfl (by simp [param, need, low, typed]) (by simp [off, good]) ?_
    rw [if_neg (by simp [off])]
    have same : ((s.startGroup g).await h 0x0401 (.groupEnable g)).group g = _ :=
      (congrArg (fun l => nth l g ({} : Group)) (s.startGroup_groups g)).trans (nth_upd_same _ _ _ _ (w.groups ▸ low))
    rw [same]
    exact ⟨rfl, rfl, rfl, rfl, Waits.await ..⟩
  case runs =>
    intro on_ other
    refine a.completes rfl rfl (by simp [param, need, low, typed]) (by simp [on_, other]) ?_
    rw [if_pos on_]
    exact ⟨comp_bit (State.complete_touch ..).groups rfl, State.complete_answers ..⟩
  case idle =>
    intro off
    refine a.completes rfl rfl (by simp [param, need, low, typed]) rfl ?_
    rw [if_pos off]
    exact ⟨comp_bit (State.complete_touch ..).groups rfl, State.complete_answers ..⟩
  case quench =>
    intro on_
    refine a.completes rfl rfl (by simp [param, need, low, typed]) rfl ?_
    rw [if_neg on_]
    obtain ⟨state, cause⟩ := s.quench_same 1 (w.groups ▸ low) on_
    exact ⟨state, cause, Waits.await ..⟩
  case bus =>
    intro h target slew s a good good'
    refine a.completes rfl rfl (by simp [param, need, good, good']) rfl ?_
    let v := s.supersedeBus.setBus target slew
    obtain ⟨target_, slew_, -⟩ := s.supersedeBus.setBus_target target slew
    have comes : Touch 0x8100d0 s v := ((s.supersedeBus_touch).mono rfl).step (State.setBus_touch ..) rfl
    have later := v.busAnswer_touch h
    have shelf := comp_bit later.sh rfl
    obtain ⟨empty, settled, moves⟩ := v.busAnswer_says h
    show (v.busAnswer h).sh.target = _ ∧ (v.busAnswer h).sh.slew = _ ∧ _
    rw [shelf]
    exact ⟨target_, slew_,
      fun f member is => Answered.later (Answered.later (s.supersedeBus_answers f member is) (State.setBus_touch ..)) later,
      fun is => Answered.before comes rfl (empty is), fun some_ all => Answered.before comes rfl (settled some_ all), moves⟩

end

end Sys2Proof.Machine
end

section
/-!
R105 to R107, R374: cells are retired and restored.
-/

namespace Sys2Proof.Machine

open Sys2Proof

theorem Part.ports_le (p : Part) : p.ports ≤ 80 := by cases p <;> decide

section
variable (s : State)

theorem State.clearPort_sansEvents (cause p : Nat) : (s.clearPort cause p).hq.sansEvents = s.hq.sansEvents := by
  unfold State.clearPort State.replaceRecord
  split <;> split
  · exact State.record_sansEvents { s with ev := _ } ..
  · rfl
  · exact State.record_sansEvents { s with ev := _ } ..
  · rfl

theorem State.raisePort_sansEvents (cause p : Nat) : (s.raisePort cause p).hq.sansEvents = s.hq.sansEvents := by
  unfold State.raisePort State.replaceRecord
  split <;> split
  · rfl
  · exact State.record_sansEvents { s with ev := _ } ..
  · rfl
  · exact State.record_sansEvents { s with ev := _ } ..

/-- A cell that is retired. -/
def Port.retire (P : Port) (cause : Nat) : Port :=
  { P with retired := true, cause := cause, stopSeen := false, restore := none, devCount := 0, imbCount := 0, compLow := 0 }

theorem State.retire_ports (p cause : Nat) : (s.retire p cause).ports = upd s.ports p (fun P => P.retire cause) := by
  unfold State.retire
  dsimp only
  have before : (s.cutRestore p).ports = s.ports := comp_bit (s.cutRestore_touch p).ports rfl
  generalize s.cutRestore p = v at before ⊢
  have opens (w : State) (c : Prop) [Decidable c] (l) : (if c then w.openSlots l else w).ports = w.ports := by
    split
    · exact comp_bit (w.openSlots_touch l).ports rfl
    · rfl
  split
  · rw [comp_bit (State.raisePort_touch ..).ports rfl, opens]
    exact congrArg (upd · p _) before
  · rw [opens]
    exact congrArg (upd · p _) before

theorem State.retire_noted (p cause : Nat) : p ∈ (s.retire p cause).rc.retiredBk := by
  unfold State.retire
  dsimp only
  generalize s.cutRestore p = v
  have noted : p ∈ (if v.rc.retiredBk.contains p then v.rc.retiredBk else v.rc.retiredBk ++ [p]) := by
    split
    next already => simpa using already
    next => simp
  have opens (w : State) (c : Prop) [Decidable c] (l) : (if c then w.openSlots l else w).rc = w.rc := by
    split
    · exact (w.openSlots_touch l).rc_eq rfl
    · rfl
  split
  · rw [(State.raisePort_touch ..).rc_eq rfl, opens]
    exact noted
  · rw [opens]
    exact noted

/-- A cell that is a member again. -/
theorem State.rejoin_leaves (p : Nat) :
    (s.rejoin p).ports = upd s.ports p (fun P => { P with retired := false, restore := none, tempAgain := P.cause == 4 }) ∧
      p ∉ (s.rejoin p).rc.retiredBk ∧ (s.rejoin p).hq.inflight = s.hq.inflight := by
  unfold State.rejoin
  dsimp only
  refine ⟨(comp_bit (State.clearPort_touch ..).ports rfl).trans rfl, ?_,
    HostIf.inflight_of_sansEvents (State.clearPort_sansEvents ..)⟩
  rw [(State.clearPort_touch ..).rc_eq rfl]
  exact fun still => by simpa using (List.mem_filter.mp still).2

end

/-- What R107 decides for a restore that waits. -/
theorem State.restore_answers {F : Nat} {s v : State} {h : CmdHdr} {p : Nat} (g : Touch F s v) (outside : F.testBit 2 = false)
    (w : Waits v h (.restore p)) (st r : Nat) : Answered s (v.completeWhere (· == Wait.restore p) st r) h st r := by
  obtain ⟨f, member, rfl, is⟩ := w
  exact Answered.before g outside (State.completeWhere_answers _ (· == Wait.restore p) _ _ f member (by simp [is]))

section
variable {v : State} {h : CmdHdr} {p : Nat} (size : p < v.ports.length) (w : Waits v h (.restore p))

/-- The restore is over: its flight is answered. -/
def State.endRestoreWith (v : State) (p st r : Nat) : State :=
  (v.setPort p (fun P => { P with restore := none })).completeWhere (· == Wait.restore p) st r

theorem State.endRestoreWith_retired (v : State) (p st r : Nat) :
    ((v.endRestoreWith p st r).port p).retired = (v.port p).retired := by
  unfold State.endRestoreWith
  rw [(State.completeWhere_touch ..).port_eq rfl, State.port_setPort]
  split <;> rfl

include w in
theorem State.endRestoreWith_answers (st r : Nat) : Answered v (v.endRestoreWith p st r) h st r :=
  State.restore_answers (v.setPort_touch p _) rfl w st r

/-- The restore is over with the cell a member. -/
def State.joinWith (v : State) (p st r : Nat) : State := (v.rejoin p).completeWhere (· == Wait.restore p) st r

include w in
theorem State.joinWith_answers (st r : Nat) : Answered v (v.joinWith p st r) h st r := by
  obtain ⟨f, member, is, waits⟩ := w
  exact State.restore_answers (v.rejoin_touch p) rfl ⟨f, (v.rejoin_leaves p).2.2 ▸ member, is, waits⟩ st r

include size in
theorem State.joinWith_member (st r : Nat) : ((v.joinWith p st r).port p).retired = false ∧ p ∉ (v.joinWith p st r).rc.retiredBk := by
  obtain ⟨ports, noted, -⟩ := v.rejoin_leaves p
  unfold State.joinWith
  rw [(State.completeWhere_touch ..).port_eq rfl, (State.completeWhere_touch ..).rc_eq rfl]
  refine ⟨?_, noted⟩
  rw [State.port, ports, nth_upd_same _ _ _ _ size]

end

/-- A command that the state of its object refuses is answered and does nothing more (R357). -/
theorem State.start_stateRefused {s : State} {h : CmdHdr} (a : AcceptedRun s h) {k : Cmd} (act : State → State) {st r : Nat}
    (role : k.activeOnly = true → s.role = .active) (zero : k.zero = false) (entry : k.chk = none)
    (object : k.chk6 = some (st, r)) : s.start h k act = s.complete h st r := by
  have still : (if wakes k.op then s.leaveQuiet else s) = s := by
    rw [State.leaveQuiet, if_neg a.awake, ite_self]
  have free : s.rc.blocks k.op = false := by
    unfold ResetCtl.blocks
    rw [a.block, Bool.false_and]
  have refused : s.refusal k = some (st, r) := by
    unfold State.refusal
    cases only : k.activeOnly <;> simp [zero, entry, object, role, only, a.run, free]
  unfold State.start
  dsimp only
  rw [still, refused]

section
variable {v : State} {h : CmdHdr} {p : Nat} (size : p < v.ports.length) (w : Waits v h (.restore p))
include size w

/-- R107 from its checks on, as the cell, its bridge and its group stand. -/
theorem State.applyRestore_says :
    ((v.port p).latched = true → v.applyRestore p = v.endRestoreWith p stDenied 1) ∧
    ((v.port p).latched = false → (v.port p).state ≠ .trained → v.applyRestore p = v.endRestoreWith p stDenied 2) ∧
    ((v.port p).latched = false → (v.port p).state = .trained →
      ((v.port p).retired = false → v.applyRestore p = v.endRestoreWith p stOk 0) ∧
      ((v.port p).retired = true → (v.group (v.port p).group).state = .off → v.applyRestore p = v.joinWith p stOk 0) ∧
      ((v.port p).retired = true → (v.group (v.port p).group).state = .quenching →
        ((v.group (v.port p).group).gtype = 1 → v.cellSlotOk p = true) → v.applyRestore p = v.joinWith p stDenied 3) ∧
      ((v.port p).retired = true → (v.group (v.port p).group).state ≠ .off → (v.group (v.port p).group).gtype = 1 →
        v.cellSlotOk p = false → v.applyRestore p = v.endRestoreWith p stDenied 4) ∧
      ((v.port p).retired = true → (v.group (v.port p).group).state ≠ .off → (v.group (v.port p).group).state ≠ .quenching →
        ((v.group (v.port p).group).gtype = 1 → v.cellSlotOk p = true) →
          ((v.applyRestore p).port p).retired = false ∧ ((v.applyRestore p).port p).restore = some .srStep ∧
          p ∉ (v.applyRestore p).rc.retiredBk ∧ Waits (v.applyRestore p) h (.restore p))) := by
  unfold State.applyRestore
  dsimp only
  refine ⟨fun latched => if_pos latched, fun fine down => ?_, fun fine trained => ⟨fun member => ?_, fun out off => ?_,
    fun out quenches good => ?_, fun out on_ cells bad => ?_, fun out on_ runs good => ?_⟩⟩
  · rw [if_neg (by simp [fine]), if_pos down]
    rfl
  · rw [if_neg (by simp [fine]), if_neg (by simp [trained]), if_pos (by simp [member])]
    rfl
  · rw [if_neg (by simp [fine]), if_neg (by simp [trained]), if_neg (by simp [out]), if_pos off]
    rfl
  · rw [if_neg (by simp [fine]), if_neg (by simp [trained]), if_neg (by simp [out]), if_neg (by simp [quenches]),
      if_neg (fun ⟨cells, bad⟩ => by simp [good cells] at bad), if_pos quenches]
    rfl
  · rw [if_neg (by simp [fine]), if_neg (by simp [trained]), if_neg (by simp [out]), if_neg on_,
      if_pos ⟨cells, by simp [bad]⟩]
    rfl
  · rw [if_neg (by simp [fine]), if_neg (by simp [trained]), if_neg (by simp [out]), if_neg on_,
      if_neg (fun ⟨cells, bad⟩ => by simp [good cells] at bad), if_neg runs]
    obtain ⟨ports, noted, flights⟩ := v.rejoin_leaves p
    obtain ⟨f, member, is, waits⟩ := w
    have step : Touch 0x10 ((v.rejoin p).setPort p (fun P => { P with restore := some .srStep }))
        (if (v.group (v.port p).group).gtype = 1 then
          ((v.rejoin p).setPort p (fun P => { P with restore := some .srStep })).handSlot (v.port p).cellSlot
            (.closeIt (.value 0))
        else (v.rejoin p).setPort p (fun P => { P with restore := some .srStep })) :=
      Touch.cond (State.handSlot_touch ..) (Touch.refl _ _)
    have same := (congrArg (fun l => nth l p ({} : Port)) ports).trans (nth_upd_same _ _ _ _ size)
    have length : p < (v.rejoin p).ports.length := by rw [ports, upd_length]; exact size
    refine ⟨?_, ?_, (step.rc_eq rfl) ▸ noted, ⟨f, ?_, is, waits⟩⟩
    · rw [step.port_eq rfl, State.port_setPort, if_pos ⟨rfl, length⟩]
      exact congrArg Port.retired same
    · rw [step.port_eq rfl, State.port_setPort, if_pos ⟨rfl, length⟩]
    · rw [comp_bit step.hq rfl]
      exact flights ▸ member

end

/-- Settles O6: R107 case by case; its own flight is among those that the end of a restore answers (`State.restore_answers`). -/
theorem cellCommandsComplete : Obligations.CellCommandsComplete := by
  refine ⟨fun h p s a w low cell => ⟨?retire, ?last, ?retired⟩, ?clear, fun h p s a w low cell => ?restore, ?limit, ?step⟩
  case retire =>
    intro member more
    refine a.completes rfl rfl (by simp [param, need, low, cell]) (by simp [need, more]) ?_
    rw [if_neg (by simp [member])]
    have same : ((s.retire p 1).await h 0x0404 (.retire p)).port p = (s.port p).retire 1 :=
      (congrArg (fun l => nth l p ({} : Port)) (s.retire_ports p 1)).trans
        (nth_upd_same _ _ _ _ (w.ports ▸ Nat.lt_of_lt_of_le low s.part.ports_le))
    rw [same]
    exact ⟨rfl, rfl, rfl, s.retire_noted p 1, Waits.await ..⟩
  case last =>
    intro last
    have member : (s.port p).retired = false := by
      unfold State.lastCell at last
      simp only [Bool.and_eq_true, Bool.not_eq_true'] at last
      exact last.1.1
    refine ⟨_, rfl, ?_⟩
    rw [State.start_stateRefused a.toAcceptedRun _ (fun _ => a.role) rfl (by simp [param, need, low, cell])
      (st := stDenied) (r := 0) (by simp [need, last, member])]
    exact ⟨comp_bit (State.complete_touch ..).ports rfl, State.complete_answers ..⟩
  case retired =>
    intro already
    refine a.completes rfl rfl (by simp [param, need, low, cell]) (by simp [need, already]) ?_
    rw [if_pos already]
    exact ⟨comp_bit (State.complete_touch ..).ports rfl, State.complete_answers ..⟩
  case clear =>
    intro h p s a w low cell trained
    have size : p < s.ports.length := w.ports ▸ Nat.lt_of_lt_of_le low s.part.ports_le
    refine a.completes rfl rfl (by simp [param, need, low, cell]) (by simp [need, trained]) ?_
    rw [if_pos rfl, State.svcQueue]
    let v := s.await h 0x0405 (.restore p)
    let u := v.setPort p (fun P => { P with restore := some .clearing })
    have same : u.port p = { s.port p with restore := some .clearing } :=
      (State.port_setPort v p p _).trans (if_pos ⟨rfl, size⟩)
    have left (f : Port → Port) : (u.setPort p f).port p = f { s.port p with restore := some .clearing } := by
      rw [State.port_setPort, if_pos ⟨rfl, by rw [show u.ports.length = s.ports.length from upd_length ..]; exact size⟩, same]
    rw [left]
    exact ⟨rfl, rfl, Waits.await ..⟩
  case restore =>
    have size : p < s.ports.length := w.ports ▸ Nat.lt_of_lt_of_le low s.part.ports_le
    let v := s.await h 0x0405 (.restore p)
    have waits : Waits v h (.restore p) := Waits.await ..
    have comes : Touch 0x10000 s v := s.await_touch ..
    have runs {P : State → Prop} (leaves : P (v.applyRestore p)) : Completes (.cellRestore h p false) s P :=
      a.completes rfl rfl (by simp [param, need, low, cell]) rfl (by rw [if_neg Bool.false_ne_true]; exact leaves)
    have ends {st r : Nat} (is : v.applyRestore p = v.endRestoreWith p st r) : Completes (.cellRestore h p false) s (fun t =>
        (t.port p).retired = (s.port p).retired ∧ Answered s t h st r) :=
      runs (by rw [is]; exact ⟨v.endRestoreWith_retired .., Answered.before comes rfl (State.endRestoreWith_answers waits ..)⟩)
    have joins {st r : Nat} (is : v.applyRestore p = v.joinWith p st r) : Completes (.cellRestore h p false) s (fun t =>
        (t.port p).retired = false ∧ p ∉ t.rc.retiredBk ∧ Answered s t h st r) := by
      obtain ⟨member, noted⟩ := State.joinWith_member (v := v) size st r
      exact runs (by rw [is]; exact ⟨member, noted, Answered.before comes rfl (State.joinWith_answers waits ..)⟩)
    obtain ⟨latched, down, more⟩ := State.applyRestore_says (v := v) size waits
    refine ⟨fun is => ends (latched is), fun fine is => ends (down fine is), fun fine trained => ?_⟩
    obtain ⟨member, off, quenches, bad, step⟩ := more fine trained
    refine ⟨fun is => ?_, fun out is => joins (off out is), fun out is good => ?_, fun out on_ cells is => ?_,
      fun out on_ runs_ good => runs (step out on_ runs_ good)⟩
    · obtain ⟨t, is, -, answered⟩ := ends (member is)
      exact ⟨t, is, answered⟩
    · obtain ⟨t, is, joined, -, answered⟩ := joins (quenches out is good)
      exact ⟨t, is, joined, answered⟩
    · obtain ⟨t, is, still, answered⟩ := ends (bad out on_ cells is)
      exact ⟨t, is, still.trans out, answered⟩
  case limit =>
    intro p s
    exact ⟨_, rfl, comp_bit (State.completeWhere_touch ..).ports rfl,
      fun f member is => State.completeWhere_answers s (· == Wait.retire p) stTimeout 0 f member (by simp [is])⟩
  case step =>
    intro p s w low step_
    have size : p < s.ports.length := w.ports ▸ Nat.lt_of_lt_of_le low s.part.ports_le
    refine ⟨s.endRestoreWith p stOk 0, if_pos step_, ?_, fun f member is => ?_⟩
    · unfold State.endRestoreWith
      rw [(State.completeWhere_touch ..).port_eq rfl, State.port_setPort, if_pos ⟨rfl, size⟩]
    · exact State.endRestoreWith_answers ⟨f, member, rfl, is⟩ stOk 0

end Sys2Proof.Machine
end

section
/-!
R332, R335, R336, R338, R343, R357: doorbells and the fetch.
-/

namespace Sys2Proof

open Sys2Proof.Machine

/-- The newest record as a state before has it, with the same recorder, clock and role. -/
theorem Newest.before {F : Nat} {s v t : State} {code sev kind subject : Nat} {p : Bytes} (g : Touch F s v)
    (n : Newest v t code sev kind subject p) (ev : v.ev = s.ev) (clk : F.testBit 1 = false) (role : F.testBit 2 = false) :
    Newest s t code sev kind subject p := by
  unfold Newest State.mkRec at n ⊢
  rwa [ev, comp_bit g.clk clk, g.standby role] at n

end Sys2Proof

namespace Sys2Proof.Machine

open Sys2Proof

/-- Arbitration picks a queue and counts its turn; nothing else of the host interface moves (R336). -/
theorem HostIf.arbitrate_turn {x y : HostIf} {q : Nat} (turn : x.arbitrate = some (q, y)) :
    q < 4 ∧ ∃ run0 rrQueue rrLeft, y = { x with run0 := run0, rrQueue := rrQueue, rrLeft := rrLeft } := by
  unfold HostIf.arbitrate at turn
  dsimp only at turn
  split at turn
  · cases turn
    exact ⟨by decide, _, x.rrQueue, x.rrLeft, rfl⟩
  · split at turn
    · cases turn
    · split at turn
      next own =>
        cases turn
        rw [Bool.and_eq_true] at own
        have among : x.rrQueue ∈ [1, 2, 3] := (List.mem_filter.mp (List.contains_iff_mem.mp own.1)).1
        exact ⟨by simp at among; omega, 0, x.rrQueue, _, rfl⟩
      next =>
        split at turn
        next r found =>
          cases turn
          have among := (List.find?_some found)
          have among : q ∈ [1, 2, 3] := (List.mem_filter.mp (List.contains_iff_mem.mp among)).1
          exact ⟨by simp at among; omega, 0, q, _, rfl⟩
        next => cases turn

/-- A stall flag goes with a free entry (R344). -/
theorem HostIf.unstall_says (x : HostIf) {q : Nat} (low : q < x.queues.length) :
    (nth (x.unstall q).queues q {}).cqHead = (nth x.queues q {}).cqHead ∧
      (0 < (x.unstall q).cqFree q → (nth (x.unstall q).queues q {}).stall = false) := by
  unfold HostIf.unstall
  split
  next =>
    have same : nth (x.setQ q (fun c => { c with stall := false })).queues q {} = { nth x.queues q {} with stall := false } :=
      nth_upd_same _ _ _ _ low
    rw [same]
    exact ⟨rfl, fun _ => rfl⟩
  next none_ => exact ⟨rfl, fun some_ => absurd some_ none_⟩

/-- A doorbell that is refused is counted. -/
theorem State.reject_hq (s : State) : s.reject.hq = { s.hq with dbReject := min (s.hq.dbReject + 1) 255 } := rfl

section
variable (x : HostSide)

theorem HostSide.msix_eq (v : Nat) : (x.msix v).hq.eq = x.hq.eq := by
  unfold HostSide.msix
  dsimp only
  split <;> rfl

/-- An entry in the event queue leaves its head and its count of records not queued. -/
theorem HostSide.postEvent_eq (r : Rec) :
    (x.postEvent r).hq.eq.head = x.hq.eq.head ∧ (x.postEvent r).hq.eq.notQueued = x.hq.eq.notQueued := by
  unfold HostSide.postEvent HostSide.signalEq
  dsimp only
  split
  · rw [HostSide.msix_eq]
    exact ⟨rfl, rfl⟩
  · exact ⟨rfl, rfl⟩

end

/-- The overflow record goes out first, and with it the count (R343). -/
theorem State.overflow_says (s : State) : s.overflow.hq.eq.head = s.hq.eq.head ∧
    (s.hq.eq.notQueued ≠ 0 → s.hq.eq.faulted = false → 2 ≤ s.hq.eq.free →
      s.overflow.hq.eq.notQueued = 0 ∧ Newest s s.overflow 0x0802 1 kNone 0 (leBytes 4 s.hq.eq.notQueued)) := by
  unfold State.overflow
  dsimp only
  split
  next stands => exact ⟨rfl, fun some_ fine room => by rcases stands with is | is | is <;> first | omega | simp_all⟩
  next =>
    obtain ⟨head, count⟩ := HostSide.postEvent_eq (s.setHq (fun x => { x with eq := { x.eq with notQueued := 0 } })).hostSide
      (s.mkRec 0x0802 1 kNone 0 (leBytes 4 s.hq.eq.notQueued))
    exact ⟨head, fun _ _ _ => ⟨count, Recorder.push_last ..⟩⟩

/-- Settles O9: doorbells by their range; a fetch hands the place of the entry back, then runs or parks it. -/
theorem doorbellsAndFetchComplete : Obligations.DoorbellsAndFetchComplete := by
  refine ⟨fun q d s w bar0 low => ⟨?tail, ?tailRefused⟩, fun q d s w bar0 low => ⟨?head, ?headRefused⟩,
    fun d s bar0 => ⟨?events, ?eventsRefused⟩, ?fetch⟩
  case tail =>
    intro present inside
    refine ⟨s.setHq (fun x => x.setQ q (fun c => { c with sqTail := d.toNat % 65536 })), ?_, ?_, rfl⟩
    · show execSqTail q d s = _
      rw [execSqTail, if_neg (by simp [bar0, low]), if_pos (by simp [present, inside])]
    · exact nth_upd_same _ _ _ _ (w.queues ▸ low)
  case tailRefused =>
    intro bad
    refine ⟨s.reject, ?_, s.reject_hq⟩
    show execSqTail q d s = _
    rw [execSqTail, if_neg (by simp [bar0, low]), if_neg (by rcases bad with is | is <;> simp [is])]
  case head =>
    intro present good
    refine ⟨s.setHq (fun x => (x.setQ q (fun c => { c with cqHead := d.toNat % 65536 })).unstall q), ?_, ?_⟩
    · show execCqHead q d s = _
      rw [execCqHead, if_neg (by simp [bar0, low]), if_pos (by simp [present, good])]
    · let c : CmdQueue := { nth s.hq.queues q {} with cqHead := d.toNat % 65536 }
      let y := s.hq.setQ q (fun c => { c with cqHead := d.toNat % 65536 })
      have same : nth y.queues q {} = c := nth_upd_same _ _ _ _ (w.queues ▸ low)
      have length : q < y.queues.length := by rw [show y.queues = upd _ _ _ from rfl, upd_length]; exact w.queues ▸ low
      obtain ⟨moved, clear⟩ := y.unstall_says length
      exact ⟨by rw [show (s.setHq _).hq = y.unstall q from rfl, moved, same], clear⟩
  case headRefused =>
    intro bad
    refine ⟨s.reject, ?_, s.reject_hq⟩
    show execCqHead q d s = _
    rw [execCqHead, if_neg (by simp [bar0, low]), if_neg (by rcases bad with is | is <;> simp [is])]
  case events =>
    intro present good
    let u := s.setHq (fun x => { x with eq := { x.eq with head := d.toNat % 65536 } })
    let v := if 0 < u.hq.eq.free then u.setHq (fun x => { x with eq := { x.eq with stall := false } }) else u
    obtain ⟨head, queued⟩ := v.overflow_says
    refine ⟨v.overflow, ?_, ?_⟩
    · show execEqHead d s = _
      rw [execEqHead, if_neg (by simp [bar0]), if_pos (by simp [present, good])]
    · have same : Touch 0x10000 s v :=
        Touch.cond ((s.setHq_touch _ rfl id).step (State.setHq_touch _ _ rfl id) rfl) (s.setHq_touch _ rfl id)
      have kept : v.hq.eq.head = u.hq.eq.head ∧ v.hq.eq.notQueued = s.hq.eq.notQueued ∧ v.hq.eq.faulted = u.hq.eq.faulted ∧
          v.hq.eq.free = u.hq.eq.free ∧ v.ev = s.ev := by
        unfold v
        split <;> exact ⟨rfl, rfl, rfl, rfl, rfl⟩
      obtain ⟨head_, count, faulted, free, ev⟩ := kept
      refine ⟨head.trans head_, fun some_ fine room => ?_⟩
      obtain ⟨zero, newest⟩ := queued (count ▸ some_) (faulted ▸ fine) (free ▸ room)
      exact ⟨zero, Newest.before same (count ▸ newest) ev rfl rfl⟩
  case eventsRefused =>
    intro bad
    refine ⟨s.reject, ?_, s.reject_hq⟩
    show execEqHead d s = _
    rw [execEqHead, if_neg (by simp [bar0]), if_neg (by rcases bad with is | is <;> simp [is])]
  case fetch =>
    intro q x s w fetches none_ turn
    obtain ⟨low, run0, rrQueue, rrLeft, rfl⟩ := HostIf.arbitrate_turn turn
    extract_lets c b h p
    let head := (c.sqHead + 1) % c.sqN
    let u : State := { s with hq := { s.hq with
      run0 := run0, rrQueue := rrQueue, rrLeft := rrLeft, queues := upd s.hq.queues q (fun c => { c with sqHead := head })
      fetchNo := s.hq.fetchNo + 1 } }
    let v := u.withHost (u.hostSide.writeBack (0x20 + 4 * q) head)
    have place : (nth v.hq.queues q {}).sqHead = head := congrArg CmdQueue.sqHead (nth_upd_same _ _ _ _ (w.queues ▸ low))
    have back : Puts s v (.hostWrite ((s.hq.wbBase + (0x20 + 4 * q)) % 2 ^ 64) (leBytes 4 head)) := ⟨[_], rfl, .head _⟩
    have unparked (n : Nat) : State.startParked n s = s := by
      cases n with
      | zero => rfl
      | succ n => rw [State.startParked, none_]; rfl
    have runs : exec .commandFetch s = if v.hq.mayStart p then .next (v.runEntry p)
        else .next (v.setHq (fun x => { x with parked := x.parked ++ [p] })) := by
      show execCommandFetch s = _
      rw [execCommandFetch, if_neg (by simp [fetches]), unparked]
      dsimp only
      rw [turn]
      rfl
    have parked : v.hq.parked = [] := none_
    have runsIf : v.hq.mayStart p = (!h.fence || s.hq.inflight.all (fun f => f.hdr.queue != q || decide (s.hq.fetchNo ≤ f.no))) := by
      rw [HostIf.mayStart, parked]
      rfl
    by_cases may : v.hq.mayStart p = true
    · refine ⟨v.runEntry p, runs.trans (if_pos may), Puts.later back (v.runEntry_touch p), fun fenced ⟨f, member, own, before⟩ => ?_,
        fun _ => ⟨v, place, rfl, rfl, rfl, rfl, rfl, rfl, rfl⟩, fun _ undefined => ?_⟩
      · rw [runsIf, fenced] at may
        have still := List.all_eq_true.mp may f member
        simp [own] at still
        omega
      · unfold State.runEntry
        dsimp only
        rw [undefined]
        let y := v.setHq (fun x => { x with curNo := some p.no })
        have answered : Answered y ((y.complete h stBadOpcode 0).setHq (fun x => { x with curNo := none })) h stBadOpcode 0 :=
          Answered.later (F := 0x10000) (State.complete_answers ..) (State.setHq_touch _ _ rfl id)
        exact Answered.since (s := s) answered rfl ⟨[_], rfl⟩
    · refine ⟨_, runs.trans (if_neg may), Puts.later (t := v) (F := 0x10000) back (State.setHq_touch _ _ rfl id), fun _ _ => ⟨?_, rfl, place⟩, fun free => ?_, fun free => ?_⟩
      · exact congrArg (· ++ [p]) parked
      · refine absurd ?_ may
        rw [runsIf]
        rcases free with is | others
        · rw [is]
          rfl
        · rw [List.all_eq_true.mpr fun f member => by simp [others f member], Bool.or_true]
      · rw [runsIf, free] at may
        exact absurd rfl may

end Sys2Proof.Machine
end

section
/-!
R333, R334, R342, R344, R361: the bootstrap queue, delivery of the reset ledger, coalescing and the stall flags.
-/

namespace Sys2Proof.Machine

open Sys2Proof

/-- What the signal of a completion queue leaves of the host interface: a pending bit and a count of completions to signal apart. -/
structure HostIf.Signalled (p q : HostIf) : Prop where
  size : ∀ j, (nth q.queues j {}).cqN = (nth p.queues j {}).cqN
  head : ∀ j, (nth q.queues j {}).cqHead = (nth p.queues j {}).cqHead
  tail : ∀ j, (nth q.queues j {}).cqTail = (nth p.queues j {}).cqTail
  flights : q.inflight = p.inflight
  parked : q.parked = p.parked
  ledger : q.ledger = p.ledger
  lost : q.ledgerLost = p.ledgerLost
  errors : q.dmaErr = p.dmaErr

theorem HostSide.msix_signalled (x : HostSide) (v : Nat) : x.hq.Signalled (x.msix v).hq := by
  unfold HostSide.msix
  dsimp only
  split <;> exact ⟨fun _ => rfl, fun _ => rfl, fun _ => rfl, rfl, rfl, rfl, rfl, rfl⟩

theorem HostSide.signalCq_signalled (x : HostSide) (q : Nat) : x.hq.Signalled (x.signalCq q).hq := by
  unfold HostSide.signalCq
  dsimp only
  split
  · let y : HostSide := { x with hq := { x.hq with queues := upd x.hq.queues q (fun c => { c with unsig := 0 }) } }
    obtain ⟨size, head, tail, flights, parked, ledger, lost, errors⟩ := y.msix_signalled (nth x.hq.queues q {}).vec
    have counted (j : Nat) : nth y.hq.queues j {} = { nth x.hq.queues j {} with unsig := (nth y.hq.queues j {}).unsig } := by
      show nth (upd _ _ _) j _ = _
      rw [nth_upd]
      split <;> rfl
    exact ⟨fun j => (size j).trans (by rw [counted]), fun j => (head j).trans (by rw [counted]),
      fun j => (tail j).trans (by rw [counted]), flights, parked, ledger, lost, errors⟩
  · exact ⟨fun _ => rfl, fun _ => rfl, fun _ => rfl, rfl, rfl, rfl, rfl, rfl⟩

/-- An entry takes one place of its ring. -/
theorem ring_place {n head tail : Nat} (room : 0 < (head + 2 * n - tail - 1) % n) :
    (head + 2 * n - (tail + 1) % n - 1) % n + 1 = (head + 2 * n - tail - 1) % n := by
  have turns := Nat.mod_add_div (tail + 1) n
  have rest := Nat.mod_add_div (head + 2 * n - tail - 1) n
  generalize (tail + 1) % n = t at *
  generalize (tail + 1) / n = k at *
  generalize (head + 2 * n - tail - 1) / n = m at *
  by_cases empty : n = 0
  · subst empty
    simp at *
    omega
  have below := Nat.mod_lt (head + 2 * n - tail - 1) (Nat.pos_of_ne_zero empty)
  generalize (head + 2 * n - tail - 1) % n = r at *
  have moved : head + 2 * n - t - 1 = r - 1 + n * (m + k) := by
    rw [Nat.mul_add]
    omega
  rw [moved, Nat.add_mul_mod_self_left, Nat.mod_eq_of_lt (by omega)]
  omega

/-- A completion entry keeps the flights and the ledger, and takes at most one place of its ring. -/
theorem HostSide.postCompletion_keeps (x : HostSide) (q tag st fl qq ix r : Nat) :
    let y := x.postCompletion q tag st fl qq ix r
    y.hq.ledger = x.hq.ledger ∧ y.hq.ledgerLost = x.hq.ledgerLost ∧ x.hq.cqFree q ≤ y.hq.cqFree q + 1 := by
  intro y
  by_cases posts : (nth x.hq.queues q {}).present && !(nth x.hq.queues q {}).faulted && (nth x.hq.queues q {}).cqN != 0
  · have is : y = (x.posted q tag st fl qq ix r).signalCq q := if_pos posts
    obtain ⟨size, head, tail, flights, parked, ledger, lost, -⟩ := (x.posted q tag st fl qq ix r).signalCq_signalled q
    rw [is]
    refine ⟨ledger, lost, ?_⟩
    have inside : q < x.hq.queues.length := by
      refine Classical.byContradiction fun outside => ?_
      rw [show nth x.hq.queues q {} = ({} : CmdQueue) from by
        rw [nth, List.getD_eq_getElem?_getD, List.getElem?_eq_none (by omega)]
        rfl] at posts
      exact Bool.false_ne_true posts
    have place := HostSide.posted_queue (tag := tag) (st := st) (fl := fl) (qq := qq) (ix := ix) (r := r) inside
    unfold HostIf.cqFree HostIf.inFlight
    dsimp only
    rw [size q, head q, tail q, flights, parked, place]
    show _ ≤ (if _ then _ else _ - HostIf.inFlight x.hq q) + 1
    generalize nth x.hq.queues q {} = c
    split
    · omega
    · have counted := ring_place (n := c.cqN) (head := c.cqHead) (tail := c.cqTail)
      have free : (c.cqHead + 2 * c.cqN - c.cqTail - 1) % c.cqN ≤
          (c.cqHead + 2 * c.cqN - (c.cqTail + 1) % c.cqN - 1) % c.cqN + 1 := by omega
      have spread : ∀ a b c : Nat, a ≤ b + 1 → a - c ≤ b - c + 1 := by omega
      exact spread _ _ _ free
  · have is : y = { x with out := .completion tag st fl qq ix r :: x.out } := if_neg posts
    rw [is]
    exact ⟨rfl, rfl, Nat.le_succ _⟩

/-- One ledger completion, with room for it. -/
theorem State.deliverOne_says {s : State} {e : LedgerEntry} {r : List LedgerEntry} (ledger : s.hq.ledger = e :: r)
    (room : s.hq.cqFree 0 ≠ 0) : s.deliverOne.hq.ledger = r ∧
      s.deliverOne.hq.ledgerLost = (if r.isEmpty then 0 else s.hq.ledgerLost) ∧ s.deliverOne.role = s.role ∧
      s.hq.cqFree 0 ≤ s.deliverOne.hq.cqFree 0 + 1 ∧
      Puts s s.deliverOne (.completion e.tag e.status (if s.standbyFlag then 3 else 1) e.queue e.sqIndex
        (e.scope + e.source * 2 ^ 8 + e.seq * 2 ^ 16 + s.hq.ledgerLost * 2 ^ 48)) := by
  unfold State.deliverOne
  rw [ledger]
  dsimp only
  rw [if_neg room]
  obtain ⟨-, lost, free⟩ := s.hostSide.postCompletion_keeps 0 e.tag e.status (if s.standbyFlag then 3 else 1) e.queue e.sqIndex
    (e.result s.hq.ledgerLost)
  refine ⟨rfl, ?_, rfl, free, HostTouch.postCompletion_puts ..⟩
  exact congrArg (fun n => if r.isEmpty then 0 else n) lost

/-- The ledger is delivered as far as the completion queue has room (R361). -/
theorem State.deliver_says (l : List LedgerEntry) (s : State) (ledger : s.hq.ledger = l) (room : l.length ≤ s.hq.cqFree 0) :
    let t := l.foldl (fun v _ => v.deliverOne) s
    t.hq.ledger = [] ∧ (l ≠ [] → t.hq.ledgerLost = 0) ∧ t.role = s.role ∧ (∃ m, t.out = m ++ s.out) ∧
      ∀ e ∈ l, Puts s t (.completion e.tag e.status (if s.standbyFlag then 3 else 1) e.queue e.sqIndex
        (e.scope + e.source * 2 ^ 8 + e.seq * 2 ^ 16 + s.hq.ledgerLost * 2 ^ 48)) := by
  induction l generalizing s with
  | nil => exact ⟨ledger, fun h => absurd rfl h, rfl, ⟨[], rfl⟩, fun e member => absurd member List.not_mem_nil⟩
  | cons e r ih =>
    rw [List.length_cons] at room
    obtain ⟨left, lost, role, free, puts⟩ := State.deliverOne_says ledger (by omega)
    obtain ⟨done, zero, role', ⟨m, out⟩, others⟩ := ih s.deliverOne left (by omega)
    obtain ⟨k, first, member⟩ := puts
    have standby : s.deliverOne.standbyFlag = s.standbyFlag := by simp only [State.standbyFlag, role]
    have more : (r.foldl (fun v _ => v.deliverOne) s.deliverOne).out = m ++ k ++ s.out := by rw [out, first, List.append_assoc]
    refine ⟨done, fun _ => ?_, role'.trans role, ⟨_, more⟩, fun e' among => ?_⟩
    · cases r with
      | nil => exact lost
      | cons => exact zero (List.cons_ne_nil _ _)
    · rcases List.mem_cons.mp among with rfl | later
      · exact ⟨_, more, List.mem_append_right _ member⟩
      · have some_ : r.isEmpty = false := by
          cases r with
          | nil => cases later
          | cons => rfl
        obtain ⟨k', out', member'⟩ := others e' later
        rw [standby, lost.trans (if_neg (by simp [some_]))] at member'
        exact ⟨k' ++ k, by rw [List.foldl_cons, out', first, List.append_assoc], List.mem_append_left _ member'⟩

/-- The one message of a vector, or its pending bit (R342). -/
theorem HostSide.msix_says (x : HostSide) (v : Nat) :
    let m := nth x.hq.msix v {}
    (bitAt m.ctl.toNat 0 = false → (x.msix v).out = .msix (m.addrHi.toNat * 2 ^ 32 + m.addrLo.toNat) m.data.toNat :: x.out) ∧
      (bitAt m.ctl.toNat 0 = true → (x.msix v).out = x.out ∧ (x.msix v).hq.pba = setBit x.hq.pba v true) := by
  refine ⟨fun open_ => ?_, fun masked => ?_⟩
  · rw [x.msix_sent open_]
  · rw [x.msix_masked masked]
    exact ⟨rfl, rfl⟩

/-- Settles O10: by event; the delivery is an induction over the ledger (`State.deliver_says`). -/
theorem ringEventsComplete : Obligations.RingEventsComplete := by
  refine ⟨fun s bar0 off => ⟨?boot, ?fault⟩, ?disable, ?deliver, ?message, ?events, ?stall, ?eqStall⟩
  case boot =>
    intro good
    refine ⟨_, (if_neg (by simp [bar0, off])).trans (if_pos good), rfl, ?_⟩
    exact ⟨[_], rfl, .head _⟩
  case fault =>
    intro bad
    exact ⟨_, (if_neg (by simp [bar0, off])).trans (if_neg (by simp [bad])), rfl, rfl⟩
  case disable =>
    intro s bar0 on_
    exact ⟨_, if_neg (by simp [bar0, on_]), rfl, rfl, rfl, rfl, rfl, rfl, rfl, rfl, rfl⟩
  case deliver =>
    intro s on_ present sound w some_ room
    obtain ⟨empty, lost, -, -, puts⟩ := State.deliver_says _ s rfl room
    exact ⟨_, if_neg (by simp [on_, present, sound]), empty, lost some_, puts⟩
  case message =>
    intro q s w low on_ present timed waits
    let u := s.setHq (fun x => x.setQ q (fun c => { c with unsig := 0 }))
    obtain ⟨sent, masked⟩ := u.hostSide.msix_says (nth s.hq.queues q {}).vec
    refine ⟨u.withHost (u.hostSide.msix (nth s.hq.queues q {}).vec), ?_, ?_, sent, masked⟩
    · refine (if_neg (by simp [on_])).trans ((if_neg (by omega)).trans ?_)
      exact congrArg Host.Outcome.next (if_pos ⟨present, timed, waits⟩)
    · show (nth (u.hostSide.msix _).hq.queues q {}).unsig = 0
      rw [HostSide.msix_queues]
      exact congrArg CmdQueue.unsig (nth_upd_same _ _ _ _ (w.queues ▸ low))
  case events =>
    intro s on_ present timed waits
    let u := s.setHq (fun x => { x with eq := { x.eq with unsig := 0 } })
    obtain ⟨sent, masked⟩ := u.hostSide.msix_says s.hq.eq.vec
    refine ⟨u.withHost (u.hostSide.msix s.hq.eq.vec), ?_, ?_, sent, masked⟩
    · refine (if_neg (by simp [on_])).trans ((if_pos rfl).trans ?_)
      exact congrArg Host.Outcome.next (if_pos ⟨present, timed, waits⟩)
    · show (u.hostSide.msix _).hq.eq.unsig = 0
      rw [HostSide.msix_eq]
      rfl
  case stall =>
    intro q s w low present full
    exact ⟨_, congrArg Host.Outcome.next (if_pos ⟨present, full⟩), nth_upd_same _ _ _ _ (w.queues ▸ low)⟩
  case eqStall =>
    intro s present full
    exact ⟨_, congrArg Host.Outcome.next (if_pos ⟨present, full⟩), rfl⟩

end Sys2Proof.Machine
end

section
/-!
R325, R326, R328, R329, R345, R346: failed requests, refused accesses, BAR4, the link and the identity.
-/

namespace Sys2Proof.Machine

open Sys2Proof

/-! ### What is in flight after a command has ended -/

/-- From one host interface to another commands leave those in flight, and none joins. -/
structure HostIf.Fewer (p q : HostIf) : Prop where
  flights : ∀ f ∈ q.inflight, f ∈ p.inflight
  parked : q.parked = p.parked
  errors : q.dmaErr = p.dmaErr

theorem HostIf.Fewer.refl (p : HostIf) : p.Fewer p := ⟨fun _ => id, rfl, rfl⟩

theorem HostIf.Fewer.trans {p q r : HostIf} (a : p.Fewer q) (b : q.Fewer r) : p.Fewer r :=
  ⟨fun f member => a.flights f (b.flights f member), b.parked.trans a.parked, b.errors.trans a.errors⟩

theorem HostSide.postCompletion_fewer (x : HostSide) (q tag st fl qq ix r : Nat) :
    x.hq.Fewer (x.postCompletion q tag st fl qq ix r).hq := by
  by_cases posts : (nth x.hq.queues q {}).present && !(nth x.hq.queues q {}).faulted && (nth x.hq.queues q {}).cqN != 0
  · rw [show x.postCompletion q tag st fl qq ix r = (x.posted q tag st fl qq ix r).signalCq q from if_pos posts]
    have signalled := (x.posted q tag st fl qq ix r).signalCq_signalled q
    exact ⟨fun f member => signalled.flights ▸ member, signalled.parked, signalled.errors⟩
  · rw [show x.postCompletion q tag st fl qq ix r = { x with out := .completion tag st fl qq ix r :: x.out } from if_neg posts]
    exact .refl _

theorem HostSide.complete1_fewer (x : HostSide) (b : Bool) (c : CmdHdr) (st r : Nat) :
    x.hq.Fewer (x.complete1 b c st r).hq ∧ ∀ f ∈ (x.complete1 b c st r).hq.inflight, f.hdr ≠ c := by
  obtain ⟨flights, parked, errors⟩ := x.postCompletion_fewer c.queue c.tag st (if b then 2 else 0) c.queue c.sqIndex r
  exact ⟨⟨fun f member => flights f (List.mem_filter.mp member).1, parked, errors⟩,
    fun f member => by simpa using (List.mem_filter.mp member).2⟩

theorem HostSide.settleDeletes_fewer (n : Nat) (b : Bool) (x : HostSide) : x.hq.Fewer (x.settleDeletes n b).hq := by
  induction n generalizing x with
  | zero => exact .refl _
  | succ n ih =>
    unfold HostSide.settleDeletes
    split
    next c op q no found =>
      let y : HostSide := { x with hq := { x.hq with queues := x.hq.queues.set q {} } }
      obtain ⟨⟨flights, parked, errors⟩, -⟩ := y.complete1_fewer b c 0 0
      exact HostIf.Fewer.trans ⟨flights, parked, errors⟩ (ih (y.complete1 b c 0 0))
    next => exact .refl _

/-- A command that has ended is in flight no more. -/
theorem State.complete_fewer (s : State) (c : CmdHdr) (st r : Nat) :
    s.hq.Fewer (s.complete c st r).hq ∧ ∀ f ∈ (s.complete c st r).hq.inflight, f.hdr ≠ c := by
  obtain ⟨fewer, gone⟩ := s.hostSide.complete1_fewer s.standbyFlag c st r
  have settled := HostSide.settleDeletes_fewer 4 s.standbyFlag (s.hostSide.complete1 s.standbyFlag c st r)
  exact ⟨fewer.trans settled, fun f member => gone f (settled.flights f member)⟩

theorem State.completeAll_fewer (l : List CmdHdr) (s : State) (st : Nat) :
    s.hq.Fewer (l.foldl (fun v c => v.complete c st 0) s).hq ∧
      ∀ f ∈ (l.foldl (fun v c => v.complete c st 0) s).hq.inflight, f.hdr ∉ l := by
  induction l generalizing s with
  | nil => exact ⟨.refl _, fun _ _ => List.not_mem_nil⟩
  | cons c l ih =>
    obtain ⟨first, gone⟩ := s.complete_fewer c st 0
    obtain ⟨rest, others⟩ := ih (s.complete c st 0)
    refine ⟨first.trans rest, fun f member => ?_⟩
    rw [List.mem_cons]
    exact not_or.mpr ⟨gone f (rest.flights f member), others f member⟩

theorem mem_insertBy {α : Type} (lt : α → α → Bool) (x : α) (l : List α) (y : α) : y ∈ insertBy lt x l ↔ y = x ∨ y ∈ l := by
  induction l with
  | nil => simp [insertBy]
  | cons z r ih =>
    unfold insertBy
    split
    · simp
    · rw [List.mem_cons, ih, List.mem_cons]
      exact or_left_comm

theorem mem_sortBy {α : Type} (lt : α → α → Bool) (l : List α) (y : α) : y ∈ sortBy lt l ↔ y ∈ l := by
  have into (l acc : List α) : y ∈ l.foldl (fun acc x => insertBy lt x acc) acc ↔ y ∈ acc ∨ y ∈ l := by
    induction l generalizing acc with
    | nil => simp
    | cons x l ih =>
      rw [List.foldl_cons, ih, mem_insertBy, List.mem_cons, or_assoc]
      exact or_left_comm
  exact (into l []).trans (by simp)

/-- Every command in flight is among the flights, in fetch order. -/
theorem HostIf.mem_flights {q : HostIf} {f : Flight} (member : f ∈ q.inflight) : (f.no, f.hdr) ∈ q.flights := by
  rw [HostIf.flights, mem_sortBy]
  exact List.mem_append_left _ (List.mem_map.mpr ⟨f, member, rfl⟩)

/-- What is parked, staged or owned for commands that end is dropped (R346). -/
def State.withdrawn (s : State) (gone : CmdHdr → Bool) : State :=
  ((s.setHq (fun x => { x with parked := x.parked.filter (fun p => !gone p.hdr) })).setSe (fun x =>
    { x with staging := x.staging.filter (fun y => !(y.1.any gone)) })).forget gone

/-- A plan that was being loaded given up. -/
def State.unplanned (s : State) (plan : Bool) : State := if plan then s.setPf Profile.toSearch else s

theorem State.unplanned_says (s : State) (plan : Bool) : (s.unplanned plan).hq = s.hq ∧ (s.unplanned plan).role = s.role ∧
    (s.unplanned plan).out = s.out := by
  cases plan with
  | false => exact ⟨rfl, rfl, rfl⟩
  | true => exact ⟨rfl, rfl, rfl⟩

theorem State.endCommands_eq (s : State) (gone : CmdHdr → Bool) (status : Nat) : ∃ plan, s.endCommands gone status =
    ((s.hq.flights.map (·.2)).filter gone).foldl (fun v c => v.complete c status 0) ((s.withdrawn gone).unplanned plan) :=
  ⟨s.hq.inflight.any (fun f => gone f.hdr && f.wait == Wait.planLoad) && (s.withdrawn gone).pf.state == .loading, rfl⟩

/-- Commands that a failed request ends are in flight no more, and each of them is answered (R346). -/
theorem State.endCommands_says (s : State) (gone : CmdHdr → Bool) (status : Nat) :
    let t := s.endCommands gone status
    t.hq.dmaErr = s.hq.dmaErr ∧ (∀ f ∈ t.hq.inflight, gone f.hdr = false) ∧ (∀ p ∈ t.hq.parked, gone p.hdr = false) ∧
      ∀ f ∈ s.hq.inflight, gone f.hdr = true → Answered s t f.hdr status 0 := by
  intro t
  let l := (s.hq.flights.map (·.2)).filter gone
  obtain ⟨plan, is⟩ := s.endCommands_eq gone status
  obtain ⟨hq, role, out⟩ := (s.withdrawn gone).unplanned_says plan
  replace is : t = l.foldl (fun v c => v.complete c status 0) ((s.withdrawn gone).unplanned plan) := is
  generalize (s.withdrawn gone).unplanned plan = v at is hq role out
  have ending {f : Flight} (member : f ∈ s.hq.inflight) (ends : gone f.hdr = true) : f.hdr ∈ l :=
    List.mem_filter.mpr ⟨List.mem_map.mpr ⟨_, HostIf.mem_flights member, rfl⟩, ends⟩
  obtain ⟨⟨flights, parked, errors⟩, others⟩ := State.completeAll_fewer l v status
  rw [is]
  refine ⟨errors.trans (show v.hq.dmaErr = (s.withdrawn gone).hq.dmaErr from congrArg HostIf.dmaErr hq), fun f member => ?_, fun p member => ?_, fun f member ends => ?_⟩
  · refine Classical.byContradiction fun ends => ?_
    have before : f ∈ s.hq.inflight := (show v.hq.inflight = (s.withdrawn gone).hq.inflight from congrArg HostIf.inflight hq) ▸ flights f member
    exact others f member (ending before (by simpa using ends))
  · rw [parked, hq] at member
    simpa using (List.mem_filter.mp member).2
  · exact Answered.since (s := s) (State.completeAll_answers l v status 0 f.hdr (ending member ends)) role ⟨[], out⟩

section
variable (off n : Nat) (data : Bytes) (s : State)

theorem execBar4Access_read : exec (.bar4Access false off n data) s =
    .next (s.emit (.barRead off ((List.range n).map (fun k => s.bar4 (off + k))))) := by
  show execBar4Access false off n data s = _
  rw [execBar4Access]
  exact if_pos rfl

theorem execBar4Access_write : exec (.bar4Access true off n data) s =
    if s.part.ringGib * 2 ^ 30 ≤ off ∧ off + data.length ≤ s.part.ringGib * 2 ^ 30 + 2 ^ 28 then
      .next { s with hdma := Mem.writeN 0 s.hdma (off - s.part.ringGib * 2 ^ 30) data }
    else .next (s.setHq (fun x => { x with barDrop := satInc 8 x.barDrop })) := by
  show execBar4Access true off n data s = _
  rw [execBar4Access]
  exact if_neg Bool.false_ne_true

end

/-- Settles O11: by access; a failed request ends commands as `State.endCommands_says` tells. -/
theorem hostAccessesComplete : Obligations.HostAccessesComplete := by
  refine ⟨fun s => ?identity, ?queue, ?events, ?buffer, fun read a s => ?bad, ?dma, ?ring, fun off n data s => ⟨?write, ?drop⟩, ?link⟩
  case identity =>
    have small := Config.dieRevision.isLt
    have class_ (v d r sv sd : Nat) (below : r < 256) : (PciHeader.mk v d 0x118000 r sv sd).word 8 / 2 ^ 8 = 0x118000 := by
      rw [PciHeader.word, if_neg (by decide), if_pos rfl]
      dsimp only
      omega
    refine ⟨?_, class_ _ _ _ _ _ small, ?_⟩
    · rw [PciHeader.word, if_pos rfl, State.pciHeader]
      cases s.part <;> simp
    · rw [PciHeader.word, if_neg (by decide), if_neg (by decide), if_pos rfl, State.pciHeader]
  case queue =>
    intro q fail s w low present
    let u := s.setHq (fun x => { x with dmaErr := satInc 8 x.dmaErr })
    let v := u.setHq (fun x => { x.setQ q (fun c => { c with faulted := true }) with bootFault := x.bootFault || q == 0 })
    obtain ⟨errors, flights, parked, answers⟩ := v.endCommands_says (fun c => c.queue == q) (dmaStatus fail)
    refine ⟨_, if_neg (by simp [present]), errors, fun f member => by simpa using flights f member,
      fun p member => by simpa using parked p member, fun f member is => ?_⟩
    exact Answered.since (s := s) (answers f member (by simp [is])) rfl ⟨[], rfl⟩
  case events =>
    intro fail s present
    exact ⟨_, if_neg (by simp [present]), rfl⟩
  case buffer =>
    intro h fail s ⟨f, member, is⟩
    let u := s.setHq (fun x => { x with dmaErr := satInc 8 x.dmaErr })
    obtain ⟨errors, flights, -, answers⟩ := u.endCommands_says (· == h) (dmaStatus fail)
    refine ⟨_, rfl, errors, fun g among => by simpa using flights g among, ?_⟩
    have answered : Answered u (u.endCommands (· == h) (dmaStatus fail)) h (dmaStatus fail) 0 :=
      is ▸ answers f member (by simp [is])
    exact Answered.since (s := s) answered rfl ⟨[], rfl⟩
  case bad =>
    refine ⟨_, rfl, ?_⟩
    cases read <;> exact ⟨rfl, rfl⟩
  case dma =>
    intro off n data s inside
    refine ⟨_, execBar4Access_read .., congrArg (Output.barRead off · :: s.out) (List.map_congr_left fun k among => ?_), rfl⟩
    obtain ⟨low, high⟩ := inside k (List.mem_range.mp among)
    rw [State.bar4]
    exact (if_neg (Nat.not_lt.mpr low)).trans (if_pos high)
  case ring =>
    intro off n data s inside runs
    refine ⟨_, execBar4Access_read .., congrArg (Output.barRead off · :: s.out) (List.map_congr_left fun k among => ?_)⟩
    have below : off + k < s.part.ringGib * 2 ^ 30 := Nat.lt_of_lt_of_le (Nat.add_lt_add_left (List.mem_range.mp among) _) inside
    rw [State.bar4]
    exact (if_pos below).trans (if_neg (by simp [runs]))
  case write =>
    intro low high
    exact ⟨_, (execBar4Access_write ..).trans (if_pos ⟨low, high⟩), rfl, rfl⟩
  case drop =>
    intro outside
    refine ⟨_, (execBar4Access_write ..).trans (if_neg fun ⟨low, high⟩ => ?_), rfl, rfl⟩
    rcases outside with is | is
    · exact absurd low (Nat.not_le.mpr is)
    · exact absurd high (Nat.not_le.mpr is)
  case link =>
    intro sp w flit bm mx s core net
    exact ⟨_, if_neg (by simp [core, net]), rfl⟩

end Sys2Proof.Machine
end

section
/-!
R14 to R16, R167, R296, R333, R405: register writes.
-/

namespace Sys2Proof.Machine

open Sys2Proof

section
variable {s : State} (bar0 : s.bar0 = true)
include bar0

theorem State.bar0_running : s.rc.recovery = false := by
  unfold State.bar0 at bar0
  simp only [Bool.and_eq_true, Bool.not_eq_true'] at bar0
  exact bar0.1.1.1

/-- A write of a shelf protection register (Tables 6-9 to 6-11). -/
theorem exec_protShelf {a : Nat} (low : 0xA10000 ≤ a) (high : a < 0xA11000) (d : Reg) :
    exec (.protRegisterWrite a d) s = .next ((s.protShelf (a - 0xA10000) d).getD (s.protRefused a)) := by
  show execProtRegisterWrite a d s = _
  rw [execProtRegisterWrite, if_neg (by simp [bar0]), if_pos ⟨low, high⟩]

/-- A write of a group protection register (Tables 6-14 to 6-18). -/
theorem exec_protGroup {a : Nat} (low : 0xA00000 ≤ a) (high : a < 0xA10000) {d : Reg} {r : Option Group}
    (is : (s.group ((a - 0xA00000) / 0x1000)).protWrite (a % 0x1000) d = r) : exec (.protRegisterWrite a d) s =
      .next ((r.map (fun G => s.setGroup ((a - 0xA00000) / 0x1000) (fun _ => G))).getD (s.protRefused a)) := by
  show execProtRegisterWrite a d s = _
  rw [execProtRegisterWrite, if_neg (by simp [bar0]), if_neg (by omega), if_pos ⟨low, high⟩]
  dsimp only
  rw [is]
  cases r <;> rfl

/-- A write of a shelf protection register that is taken, and one that is refused. -/
theorem completes_protTaken {a : Nat} {t : State} {P : State → Prop} (low : 0xA10000 ≤ a) (high : a < 0xA11000) {d : Reg}
    (is : s.protShelf (a - 0xA10000) d = some t) (leaves : P t) : Completes (.protRegisterWrite a d) s P :=
  ⟨_, exec_protShelf bar0 low high d, by rwa [is]⟩

theorem completes_protRefused {a : Nat} {P : State → Prop} (low : 0xA10000 ≤ a) (high : a < 0xA11000) {d : Reg}
    (is : s.protShelf (a - 0xA10000) d = none) (leaves : P (s.protRefused a)) : Completes (.protRegisterWrite a d) s P :=
  ⟨_, exec_protShelf bar0 low high d, by rwa [is]⟩

end

theorem State.protRefused_newest (s : State) (a : Nat) : Newest s (s.protRefused a) 0x0405 0 kNone 0 (leBytes 4 a) :=
  State.record_newest { s with sh := _ } ..

/-- Quiet ends (R405). -/
theorem State.leaveQuiet_rc (v : State) :
    v.leaveQuiet.rc = { v.rc with power := if v.rc.power = .quiet then .run else v.rc.power } := by
  unfold State.leaveQuiet
  split
  · rfl
  · rfl

/-- A telemetry source of a group (R296). -/
theorem exec_sourceTaken {g which : Nat} {d : Reg} {s : State} (bar0 : s.bar0 = true) (low : g < 16)
    (good : s.part.srcOk 4 d.toNat = true) : exec (.tmGrpSrcWrite g which d) s = .next (s.setGroup g (fun G =>
      if which = 0 then { G with vSrc := srcMask d } else if which = 1 then { G with iSrc := srcMask d }
      else if which = 2 then { G with pSrc := srcMask d } else G)) := by
  show execTmGrpSrcWrite g which d s = _
  rw [execTmGrpSrcWrite, if_pos (by simp [bar0, good, low])]

theorem exec_sourceRefused {g which : Nat} {d : Reg} {s : State} (bad : s.part.srcOk 4 d.toNat = false) :
    exec (.tmGrpSrcWrite g which d) s = .next s := by
  show execTmGrpSrcWrite g which d s = _
  rw [execTmGrpSrcWrite, if_neg (by simp [bad])]

/-- Settles O8: by register; the W1C clauses by the equations of `State.clearBits`. -/
theorem registerWritesComplete : Obligations.RegisterWritesComplete := by
  refine ⟨fun a d s bar0 w low high => ⟨fun G is => ?taken, fun is => ?refused⟩,
    fun d s bar0 => ⟨fun good => ?cool, fun bad => ?coolRefused, fun good => ?flow, fun bad => ?flowRefused⟩,
    fun i d s bar0 inside => ⟨fun good => ?source, fun bad => ?sourceRefused⟩,
    fun g which d s bar0 w low inside => ⟨fun good => ?group, fun bad => ?groupRefused⟩,
    fun d s runs => ?events, fun d s bar0 => ⟨fun some_ => ?power, fun zero => ?powerRefused⟩,
    fun d kept s bar0 => ?clear, fun d s bar0 => ⟨fun off => ?boot, fun on_ => ?bootHeld⟩, fun d s loads => ?load⟩
  case taken =>
    have inside : (a - 0xA00000) / 0x1000 < s.groups.length := by rw [w.groups]; omega
    refine ⟨s.setGroup ((a - 0xA00000) / 0x1000) (fun _ => G),
      by rw [exec_protGroup bar0 low high is, Option.map_some, Option.getD_some], ?_, ?_, comp_bit (s.setGroup_touch ..).sh rfl⟩
    · rw [State.group_setGroup, if_pos ⟨rfl, inside⟩]
    · intro g other
      rw [State.group_setGroup, if_neg fun ⟨same, _⟩ => other same.symm]
  case refused =>
    exact ⟨s.protRefused a, exec_protGroup bar0 low high is, rfl, rfl, s.protRefused_newest a⟩
  case cool =>
    refine completes_protTaken bar0 (by decide) (by decide) (t := { s with sh := { s.sh with coolT := d } }) ?_ rfl
    rw [State.protShelf, if_pos (by decide), if_pos good]
  case coolRefused =>
    refine completes_protRefused bar0 (by decide) (by decide) ?_ rfl
    rw [State.protShelf, if_pos (by decide), if_neg (by omega)]
  case flow =>
    refine completes_protTaken bar0 (by decide) (by decide)
      (t := { s with sh := { s.sh with coolCfg := BitVec.ofNat 32 (d.toNat % 2 ^ 24) } }) ?_ ⟨rfl, rfl⟩
    rw [State.protShelf, if_neg (by decide), if_pos (by decide), if_pos good]
  case flowRefused =>
    refine completes_protRefused bar0 (by decide) (by decide) ?_ rfl
    rw [State.protShelf, if_neg (by decide), if_pos (by decide), if_neg (by omega)]
  case source =>
    have off : 0xA1010C + 4 * i - 0xA10000 = 0x10C + 4 * i := by omega
    refine completes_protTaken bar0 (by omega) (by omega) (t := { s with sh := { s.sh with coolSrc := _ } }) ?_ rfl
    rw [off, State.protShelf, if_neg (by omega), if_neg (by omega), if_pos (by omega), if_pos good,
      show (0x10C + 4 * i - 0x10C) / 4 = i by omega]
  case sourceRefused =>
    have off : 0xA1010C + 4 * i - 0xA10000 = 0x10C + 4 * i := by omega
    refine completes_protRefused bar0 (by omega) (by omega) ?_ rfl
    rw [off, State.protShelf, if_neg (by omega), if_neg (by omega), if_pos (by omega), if_neg (by simp [bad])]
  case group =>
    refine ⟨_, exec_sourceTaken bar0 low good, ?_⟩
    refine (State.group_setGroup ..).trans ((if_pos ⟨rfl, w.groups ▸ low⟩).trans ?_)
    rcases (by omega : which = 0 ∨ which = 1 ∨ which = 2) with rfl | rfl | rfl <;> simp
  case groupRefused => exact ⟨s, exec_sourceRefused bad, rfl⟩
  case events =>
    refine ⟨_, rfl, ?_⟩
    by_cases small : bits d.toNat 2 0 ≤ 5 <;> simp [small, runs]
  case power =>
    refine ⟨_, if_neg (by simp [bar0, some_]), ?_⟩
    cases bitAt d.toNat 16
    · rw [if_neg Bool.false_ne_true, State.leaveQuiet_rc]
      exact ⟨rfl, rfl, ite_congr (by simp) (fun _ => rfl) (fun _ => rfl)⟩
    · rw [if_pos rfl, if_neg fun is => Bool.noConfusion is.1]
      exact ⟨rfl, rfl, rfl⟩
  case powerRefused => exact ⟨s, if_pos (by simp [zero]), rfl⟩
  case clear =>
    intro c
    have write {a : Nat} {P : State → Prop} (leaves : ∀ m, (∀ k, (!bitAt m k) = !c k) → P (s.clearBits a m)) :
        Completes (.w1cWrite a d kept) s P :=
      completes_w1cWrite bar0 (State.bar0_running bar0) fun m spares => leaves m fun k => by
        rw [spares k, Bool.not_and, Bool.not_not]
    refine ⟨write fun m spares => ?_, write fun m spares => ?_, write fun m spares => ?_, write fun m spares => ?_,
      write fun m spares => ?_, write fun m spares => ?_, write fun m spares => ?_⟩
    · simp [State.clearBits_ptBusStatus, spares]
    · simp [State.clearBits_ptProtStatus, spares]
    · simp [State.clearBits_flTethState, spares]
    · simp [State.clearBits_plStatus, spares]
    · simp [State.clearBits_pfStatus, spares]
    · simp [State.clearBits_evStatus, spares]
    · simp [State.clearBits_idPins, spares]
  case boot =>
    have runs := State.bar0_running bar0
    have write {a : Nat} (low : 0x00200014 ≤ a) (high : a < 0x00200040) :
        exec (.registerWrite a d none) s = .next (s.setHq (fun q => q.bootWrite (a - 0x00200000) d)) := by
      show Host.Outcome.next (s.regWrite a d) = _
      rw [State.regWrite, if_neg (by simp [runs]), if_neg (by simp [bar0]), if_pos ⟨low, high⟩, if_neg (by simp [off])]
    exact ⟨⟨_, write (by decide) (by decide), rfl⟩, ⟨_, write (by decide) (by decide), rfl⟩⟩
  case bootHeld =>
    refine ⟨_, rfl, ?_⟩
    rw [State.regWrite, if_neg (by simp [State.bar0_running bar0]), if_neg (by simp [bar0]), if_pos (by decide), if_pos on_]
  case load =>
    refine ⟨_, rfl, ?_⟩
    rw [State.regWrite, if_pos loads, if_pos rfl]
    rfl

end Sys2Proof.Machine
end

section
/-!
R299 to R302, R313 to R320: the Crucible's samples, and the flushes of the event recorder.
-/

namespace Sys2Proof.Machine

open Sys2Proof

/-! ### Samples -/

/-- With no sample to write the ring and the channels stand. -/
theorem Crucible.putAll_none (r : Crucible) (vals : List (List Int)) (none_ : ∀ l ∈ vals, l = []) : r.putAll vals = r := by
  have each (k : Nat) : nth vals k [] = [] := by
    by_cases low : k < vals.length
    · rw [nth, List.getD_eq_getElem?_getD, List.getElem?_eq_getElem low]
      exact none_ _ (List.getElem_mem low)
    · rw [nth, List.getD_eq_getElem?_getD, List.getElem?_eq_none (by omega)]
      rfl
  unfold Crucible.putAll
  simp only [each, List.foldl_nil]
  generalize List.range vals.length = l
  induction l with
  | nil => rfl
  | cons k l ih => exact ih

/-- Samples move the ring and the channels alone. -/
structure Crucible.Sampled (r t : Crucible) : Prop where
  state : t.state = r.state
  trigF : t.trigF = r.trigF

theorem Crucible.put_sampled (r : Crucible) (k : Nat) (v : Int) : r.Sampled (r.put k v) := by
  unfold Crucible.put
  dsimp only
  (repeat' split) <;> exact ⟨rfl, rfl⟩

theorem Crucible.putAll_sampled (r : Crucible) (vals : List (List Int)) : r.Sampled (r.putAll vals) := by
  have trans {a b c : Crucible} (x : a.Sampled b) (y : b.Sampled c) : a.Sampled c :=
    ⟨y.state.trans x.state, y.trigF.trans x.trigF⟩
  have channel (k : Nat) (l : List Int) (r : Crucible) : r.Sampled (l.foldl (fun r v => r.put k v) r) := by
    induction l generalizing r with
    | nil => exact ⟨rfl, rfl⟩
    | cons v l ih => exact trans (r.put_sampled k v) (ih _)
  unfold Crucible.putAll
  generalize List.range vals.length = l
  induction l generalizing r with
  | nil => exact ⟨rfl, rfl⟩
  | cons k l ih => exact trans (channel k _ r) (ih _)

/-- One sample of a channel that goes on. -/
theorem Crucible.put_first {r : Crucible} {c : CrChan} {v : Int} (chans : r.chans = [c]) (going : c.left = none) (len : c.len ≠ 0)
    (some_ : v ≠ -32768) : (r.put 0 v).chans = [{ c with wr := c.wr + 1, nowN := c.nowN + 1, last := some v }] ∧
      (r.put 0 v).ring = Mem.writeN 0 r.ring (c.base + 2 * (c.wr % c.len)) (leBytesI 2 v) ∧ (r.put 0 v).state = r.state := by
  have first (d : CrChan) : nth r.chans 0 d = c := by rw [chans]; rfl
  unfold Crucible.put
  dsimp only
  rw [first, if_neg (by rw [going]; exact fun h => by cases h), if_neg len]
  refine ⟨?_, rfl, rfl⟩
  dsimp only
  rw [chans]
  show [({ c with wr := c.wr + 1, nowN := c.nowN + 1, left := c.left.map (· - 1)
                  last := if v = -32768 then c.last else some v } : CrChan)] = _
  rw [if_neg some_, going]
  rfl

/-- The samples of a frame period, by channel. -/
def State.crSamples (s : State) : List (List Int) :=
  s.cr.chans.map (fun c => if (s.cr.state == .armed || s.cr.state == .triggered) && c.due s.cr.f0 s.le.frame then s.crValues c
    else [])

/-- The conditions of a trigger in a frame period (R301). -/
def State.crHolds (s : State) : Nat :=
  let r := s.cr
  let edge := crEdge r.trig (r.chans[r.trig.trigCh]?.bind (fun c => c.last)) (nth s.crSamples r.trig.trigCh [])
  let arose := (flagAt (decide (r.trig.ladderMin ≤ s.sh.ladderSeen)) 0 + flagAt edge 1 + r.seen) &&& r.trig.sources
  arose ||| (flagAt s.gv.sense 2 &&& r.trig.sources)

/-- The Crucible as a frame period finds it. -/
def State.crFrame (s : State) : State := s.setCr (fun r =>
  { r with sampledF := some s.le.frame, chans := r.chans.map (fun c => { c with nowN := 0 }) })

/-- Its samples are written, and its conditions count anew. -/
def State.crWrite (s : State) (vals : List (List Int)) : State :=
  let w := s.setCr (fun r => { r.putAll vals with seen := 0 })
  { w with sh := { w.sh with ladderSeen := 0 } }

section
variable {s : State} (fresh : s.cr.sampledF ≠ some s.le.frame)
include fresh

theorem exec_captureSample_idle (idle : s.cr.state = .idle) :
    exec .captureSample s = .next (s.crFrame.crWrite s.crSamples) := by
  show execCaptureSample s = _
  rw [execCaptureSample, if_neg fresh]
  dsimp only
  rw [if_neg (by rw [idle]; decide), if_pos idle]
  rfl

theorem exec_captureSample_armed (armed : s.cr.state = .armed) : exec .captureSample s =
    .next ((if s.crHolds = 0 then s.crFrame else s.crFrame.crTrigger s.crHolds).crWrite s.crSamples) := by
  show execCaptureSample s = _
  rw [execCaptureSample, if_neg fresh]
  unfold State.crHolds
  dsimp only
  rw [if_pos armed]
  rfl

end

theorem State.crWrite_cr (s : State) (vals : List (List Int)) : (s.crWrite vals).cr = { s.cr.putAll vals with seen := 0 } := rfl

/-! ### Flushes -/

/-- A flush that leaves room in the log writes every record it copies (R318). -/
theorem State.appendLog_room {s : State} {l : List Rec} (whole : s.ev.clearedRec = none) (below : s.ev.dropped < 2 ^ 32)
    (room : s.ev.log.length + l.length < 262143) :
    s.appendLog l = s.setEv (fun e => { e with log := e.log ++ l.map LogSlot.whole }) := by
  have fits : l.length ≤ logLast - s.ev.log.length := by unfold logLast; omega
  have none_ : satAdd 32 s.ev.dropped 0 = s.ev.dropped := by unfold satAdd; omega
  unfold State.appendLog
  rw [whole]
  dsimp only
  rw [List.drop_eq_nil_of_le fits, List.take_of_length_le fits, List.filter_nil, List.length_nil, if_neg]
  · unfold State.setEv
    dsimp only
    rw [none_, whole]
  · simp [State.setEv, logLast]
    omega

/-- A LOG_READ that has waited for a flush ends as the log then stands (R381). -/
theorem State.endLogRead_says (s : State) (c : CmdHdr) (b : Buf) (a n : Nat) (full : s.ev.logFull = false) :
    (a + n ≤ s.ev.log.length → Answered s (s.endLogRead c b a n true) c stOk n) ∧
    (s.ev.log.length < a + n → Answered s (s.endLogRead c b a n true) c stBadParam 0x18) := by
  unfold State.endLogRead
  refine ⟨fun inside => ?_, fun outside => ?_⟩
  · rw [if_pos inside, full, if_neg (by simp)]
    exact State.done_answers (State.bufWrite_touch ..) rfl ..
  · rw [if_neg (by omega)]
    exact State.complete_answers ..

/-- A command in flight at the end of a flush. -/
def State.endFlushed (s : State) (f : Flight) : State := match f.wait with
  | .logRead b a n k => if k ≤ s.ev.flushNo then s.endLogRead f.hdr b a n true else s
  | _ => s

theorem State.endFlushed_touch (s : State) (f : Flight) : Touch 0xa10000 s (s.endFlushed f) := by
  unfold State.endFlushed
  split
  · exact Touch.cond (State.endLogRead_touch ..) (Touch.refl _ _)
  · exact Touch.refl _ _

theorem State.endFlushed_says {s : State} {f : Flight} {b : Buf} {a n k : Nat} (waits : f.wait = .logRead b a n k)
    (ended : k ≤ s.ev.flushNo) : s.endFlushed f = s.endLogRead f.hdr b a n true := by
  unfold State.endFlushed
  rw [waits]
  exact if_pos ended

theorem State.endLogReads_says (s : State) (full : s.ev.logFull = false) :
    ∀ f ∈ s.hq.inflight, ∀ b a n k, f.wait = .logRead b a n k → k ≤ s.ev.flushNo →
      (a + n ≤ s.ev.log.length → Answered s s.endLogReads f.hdr stOk n) ∧
      (s.ev.log.length < a + n → Answered s s.endLogReads f.hdr stBadParam 0x18) := by
  intro f member b a n k waits ended
  have among : ∀ (l : List Flight) (v : State), Touch 0xa10000 s v → f ∈ l →
      (a + n ≤ s.ev.log.length → Answered s (l.foldl State.endFlushed v) f.hdr stOk n) ∧
      (s.ev.log.length < a + n → Answered s (l.foldl State.endFlushed v) f.hdr stBadParam 0x18) := by
    intro l
    induction l with
    | nil => exact fun _ _ h => absurd h List.not_mem_nil
    | cons x l ih =>
      intro v g here
      rcases List.mem_cons.mp here with rfl | later
      · have ev : v.ev = s.ev := comp_bit g.ev rfl
        have rest : Touch 0xa10000 (v.endFlushed f) (l.foldl State.endFlushed (v.endFlushed f)) :=
          (Touch.refl _ _).foldl fun v f => v.endFlushed_touch f
        obtain ⟨inside, outside⟩ := v.endLogRead_says f.hdr b a n (by rw [ev, full])
        rw [ev, ← State.endFlushed_says waits (by rw [ev]; exact ended)] at inside outside
        exact ⟨fun is => Answered.before g rfl (Answered.later (inside is) rest),
          fun is => Answered.before g rfl (Answered.later (outside is) rest)⟩
      · exact ih _ (g.step (v.endFlushed_touch x) rfl) later
  exact among _ s (Touch.refl _ _) member

/-- A record made in a state that gives a record the same fields as `s` is a record of `s`, whatever else the recorder then keeps of it. -/
theorem State.record_newest_of {s u : State} {g : Recorder → Recorder} (code sev kind subject : Nat) (p : Bytes)
    (same : u.mkRec code sev kind subject p = s.mkRec code sev kind subject p) (ring : ∀ e, (g e).ring = e.ring) :
    Newest s ((u.record code sev kind subject p).setEv g) code sev kind subject p := by
  unfold Newest State.setEv
  dsimp only
  rw [ring, ← same]
  exact State.record_newest u ..

/-- Settles O37: samples by `Crucible.putAll`, a flush by `State.appendLog_room`, its reads by `State.endLogReads_says`. -/
theorem captureAndFlushComplete : Obligations.CaptureAndFlushComplete := by
  refine ⟨fun s again => ⟨s, if_pos again, rfl⟩, fun s fresh idle => ?idle, ?sample, fun s fresh armed sense source => ?trigger,
    fun s triggered stopped => ?frozen, fun s goes => ?goes, fun s due still whole => ?flush, fun s no => ?noFlush,
    fun s flushing whole clear full below room => ?ended, fun s no => ?notEnded, fun s clearing => ?cleared,
    fun s no => ⟨s, if_pos (by simp [no]), rfl⟩⟩
  case idle =>
    refine ⟨_, exec_captureSample_idle fresh idle, ?_, rfl⟩
    rw [State.crWrite_cr, Crucible.putAll_none _ _ fun l member => ?_]
    · rfl
    · rw [State.crSamples, idle] at member
      obtain ⟨c, -, rfl⟩ := List.mem_map.mp member
      exact if_neg (by simp)
  case sample =>
    intro s c v fresh armed chans slot due going len sources is
    have quiet : s.crHolds = 0 := by
      unfold State.crHolds
      dsimp only
      rw [sources, Nat.and_zero, Nat.and_zero]
      rfl
    have values : s.crSamples = [[v]] := by
      rw [State.crSamples, chans, armed]
      show [if _ then _ else _] = _
      rw [if_pos (by simp [due]), State.crValues, if_neg (by rw [slot]; decide)]
      dsimp only
      rw [if_pos slot, is]
      rfl
    have frame : s.crFrame.cr.chans = [{ c with nowN := 0 }] := by
      show s.cr.chans.map _ = _
      rw [chans]
      rfl
    obtain ⟨chans_, ring, state⟩ := Crucible.put_first (v := v) frame going len (by unfold clampI at is; omega)
    have runs := exec_captureSample_armed fresh armed
    rw [if_pos quiet, values] at runs
    exact ⟨_, runs, state.trans armed, chans_, ring, rfl⟩
  case trigger =>
    have holds : s.crHolds ≠ 0 := fun none_ => by
      have bit : s.crHolds.testBit 2 = true := by
        unfold State.crHolds
        dsimp only
        rw [sense, Nat.testBit_or, Nat.testBit_and (flagAt true 2), show s.cr.trig.sources.testBit 2 = true from source,
          show (flagAt true 2).testBit 2 = true by decide, Bool.and_self, Bool.or_true]
      rw [none_] at bit
      exact absurd bit (by decide)
    have runs := exec_captureSample_armed fresh armed
    rw [if_neg holds] at runs
    obtain ⟨state, trigF⟩ := Crucible.putAll_sampled (s.crFrame.crTrigger s.crHolds).cr s.crSamples
    exact ⟨_, runs, state, trigF⟩
  case frozen =>
    exact ⟨s.crFreeze, congrArg Host.Outcome.next (if_pos ⟨triggered, stopped⟩), rfl, State.record_newest (s.setCr _) ..⟩
  case goes =>
    exact ⟨s, congrArg Host.Outcome.next (if_neg fun ⟨triggered, stopped⟩ => by simp [triggered, stopped] at goes), rfl⟩
  case flush => exact ⟨_, congrArg Host.Outcome.next (if_pos (by simp [due, still, whole])), rfl⟩
  case noFlush => exact ⟨s, congrArg Host.Outcome.next (if_neg (by rcases no with is | is | is <;> simp [is])), rfl⟩
  case ended =>
    let u := s.setEv (fun e => { e with flushing := false, unflushed := e.unflushed - s.ev.flushList.length, flushCount := 0 })
    let v := u.setEv (fun e => { e with log := e.log ++ s.ev.flushList.map LogSlot.whole })
    let w := v.setEv (fun e => { e with journal := some v.journalNow })
    have written : u.appendLog s.ev.flushList = v := State.appendLog_room (s := u) clear below room
    have reads := w.endLogReads_touch
    have ev : w.endLogReads.ev = w.ev := comp_bit reads.ev rfl
    have ends := w.endLogReads_says full
    have runs : exec .flushEnd s =
        .next (if w.endLogReads.ev.flushDue then w.endLogReads.setEv Recorder.beginFlush else w.endLogReads) := by
      show execFlushEnd s = _
      rw [execFlushEnd, if_neg (by simp [flushing, whole])]
      dsimp only
      rw [written]
    obtain ⟨t, runs, out, is⟩ : ∃ t : State, exec .flushEnd s = .next t ∧ t.out = w.endLogReads.out ∧
        t.ev = if s.ev.flushDue then w.ev.beginFlush else w.ev := by
      generalize w.endLogReads = r at ev runs
      refine ⟨_, runs, ?_⟩
      rw [show r.ev.flushDue = w.ev.flushDue from congrArg Recorder.flushDue ev]
      show _ ∧ _ = if w.ev.flushDue then _ else _
      split
      · exact ⟨rfl, congrArg Recorder.beginFlush ev⟩
      · exact ⟨rfl, ev⟩
    have log : t.ev.log = w.ev.log := by rw [is]; split <;> rfl
    refine ⟨t, runs, log, by rw [is]; split <;> rfl, by rw [is]; split <;> rfl, by rw [is]; cases s.ev.flushDue <;> rfl,
      by rw [is]; split <;> rfl, by rw [is]; split <;> rfl, fun f member b a n k waits over_ => ?_⟩
    obtain ⟨inside, outside⟩ := ends f member b a n k waits over_
    rw [log]
    unfold Answered Puts at inside outside ⊢
    rw [out]
    exact ⟨inside, outside⟩
  case notEnded => exact ⟨s, if_pos (by rcases no with is | is <;> simp [is]), rfl⟩
  case cleared =>
    let u := s.setEv (fun e => { e with clearing := false, log := [], logFull := false, dropped := 0, badCrc := 0 })
    let v := (u.record 0x0804 1 kFlash 1 []).setEv (fun e => { e with clearedRec := some (u.mkRec 0x0804 1 kFlash 1 []) })
    have last := State.completeWhere_touch v (· == Wait.logClear) stOk 0
    have ev := comp_bit last.ev rfl
    have newest : Newest s v 0x0804 1 kFlash 1 [] :=
      State.record_newest_of (s := s) (u := u) 0x0804 1 kFlash 1 [] rfl fun _ => rfl
    refine ⟨_, if_neg (by simp [clearing]), by rw [ev]; rfl, by rw [ev]; rfl, by rw [ev]; rfl, by rw [ev]; rfl, by rw [ev]; rfl,
      newest.kept last rfl, fun f member is => ?_⟩
    have flights : f ∈ v.hq.inflight := (u.record_inflight 0x0804 1 kFlash 1 []) ▸ member
    have keeps (v : State) (r : Rec) : Touch 0x4000 v (v.setEv fun e => { e with clearedRec := some r }) := State.setEv_touch v _ id
    have recorded : Touch 0x814000 u (u.record 0x0804 1 kFlash 1 []) := (u.record_touch ..).mono rfl
    have come : Touch 0x814000 u v := recorded.step (keeps _ _) rfl
    have answered := State.completeWhere_answers v (· == Wait.logClear) stOk 0 f flights (by simp [is])
    exact Answered.since (s := s) (Answered.before come rfl answered) rfl ⟨[], rfl⟩

end Sys2Proof.Machine
end

section
/-!
R208, R211, R376, R377: PLAN_LOAD and the PROFILE_CTRL actions.
-/

namespace Sys2Proof.Machine

open Sys2Proof

/-- Whether the table, the anchors and the period stay where learning is set to run with `c` (R211). -/
def State.keepsTable (s : State) (c : PfSet) : Prop :=
  0 < s.pf.period ∧ c.minUs = s.pf.cfg.minUs ∧ c.maxUs = s.pf.cfg.maxUs ∧ s.part.chooseBin c.binExp s.pf.period = some s.pf.n

theorem newRange_false {c d : PfSet} : newRange c d = false ↔ c.minUs = d.minUs ∧ c.maxUs = d.maxUs := by
  simp [newRange]

/-- START leaves the table where SET would keep it, and else clears it. -/
theorem State.startLearning_pf (s : State) (c : PfSet) :
    (s.keepsTable c → (s.startLearning c).pf =
      { ({ s.pf with cfg := c, learn := true, noFit := false } : Profile).restart with
        state := .search, phase := 0, winCover := none, limitRun := 0, lowWin := 0, binSum := 0, binCnt := 0 }) ∧
    (¬ s.keepsTable c → (s.startLearning c).pf = ({ s.pf with cfg := c, learn := true, noFit := false } : Profile).toSearch) := by
  have is : (decide (0 < s.pf.period) && !newRange c s.pf.cfg && s.part.chooseBin c.binExp s.pf.period == some s.pf.n) = true ↔
      s.keepsTable c := by
    simp [State.keepsTable, newRange_false, and_assoc]
  unfold State.startLearning State.setPf
  dsimp only
  exact ⟨fun keep => if_pos (is.mpr keep), fun not => if_neg (mt is.mp not)⟩

/-- SET with no period leaves the settings, and a correlator that starts anew where the decimation is another. -/
theorem State.newPfSet_none {s : State} {c : PfSet} (none_ : s.pf.period ≤ 0) : (s.newPfSet c).pf = s.pf.putSet c := by
  unfold State.newPfSet
  dsimp only
  rw [if_pos none_]
  rfl

theorem State.newPfSet_fits {s : State} {c : PfSet} {k : Nat} (some_ : 0 < s.pf.period)
    (fits : s.part.chooseBin c.binExp s.pf.period = some k) : (s.newPfSet c).pf =
      if c.minUs = s.pf.cfg.minUs ∧ c.maxUs = s.pf.cfg.maxUs ∧ k = s.pf.n then s.pf.putSet c
      else { (s.pf.putSet c).clear with n := k } := by
  unfold State.newPfSet
  dsimp only
  rw [if_neg (by omega), show (s.setPf fun p => p.putSet c).part = s.part from rfl, fits]
  dsimp only
  have is : (newRange c s.pf.cfg || k != s.pf.n) = true ↔ ¬ (c.minUs = s.pf.cfg.minUs ∧ c.maxUs = s.pf.cfg.maxUs ∧ k = s.pf.n) := by
    simp only [newRange, bne_iff_ne, Bool.or_eq_true, decide_eq_true_eq, ne_eq]
    grind
  split
  · rw [if_neg (is.mp ‹_›)]
    rfl
  · rw [if_pos (Classical.not_not.mp (mt is.mpr ‹_›))]
    rfl

/-- A period that no exponent of SET fits goes with its table from LOCKED, and elsewhere loses the table. -/
theorem State.newPfSet_noFit {s : State} {c : PfSet} (some_ : 0 < s.pf.period)
    (none_ : s.part.chooseBin c.binExp s.pf.period = none) : s.newPfSet c =
      ((s.setPf (fun p => p.putSet c)).setPf
        (fun q => if q.state = .locked then q.toSearch else q.clear)).pfNoFit s.pf.period := by
  unfold State.newPfSet
  dsimp only
  rw [if_neg (by omega), show (s.setPf fun p => p.putSet c).part = s.part from rfl, none_]

theorem Profile.putSet_same {p : Profile} {c : PfSet} (same : decM c.maxUs = decM p.cfg.maxUs) : p.putSet c = { p with cfg := c } :=
  if_pos same

theorem Profile.putSet_other {p : Profile} {c : PfSet} (other : decM c.maxUs ≠ decM p.cfg.maxUs) :
    p.putSet c = ({ p with cfg := c } : Profile).restart := if_neg other

/-- What SET takes over whatever the decimation. -/
theorem Profile.putSet_keeps (p : Profile) (c : PfSet) : (p.putSet c).cfg = c ∧ (p.putSet c).state = p.state ∧
    (p.putSet c).period = p.period ∧ (p.putSet c).n = p.n ∧ (p.putSet c).table = p.table := by
  unfold Profile.putSet
  dsimp only
  split
  all_goals exact ⟨rfl, rfl, rfl, rfl, rfl⟩

theorem State.newPfSet_cfg (s : State) (c : PfSet) : (s.newPfSet c).pf.cfg = c := by
  obtain ⟨cfg, -⟩ := s.pf.putSet_keeps c
  rcases Int.lt_or_le 0 s.pf.period with some_ | none_
  · cases fits : s.part.chooseBin c.binExp s.pf.period with
    | none =>
      rw [State.newPfSet_noFit some_ fits]
      show (if (s.pf.putSet c).state = .locked then (s.pf.putSet c).toSearch else (s.pf.putSet c).clear).cfg = c
      split
      all_goals exact cfg
    | some k =>
      rw [State.newPfSet_fits some_ fits]
      split
      all_goals exact cfg
  · rw [State.newPfSet_none none_, cfg]

/-- A PROFILE_CTRL action that may run leaves its effect and answers OK with MIN_COUNT and LOSS_MS (R377). -/
theorem State.profileCtrl_says {s : State} {h : CmdHdr} {i : Instr} {chk : Refuse} {act : State → State} {c : PfSet}
    (a : AcceptedRun s h) (is : exec i s = .next (State.profileCtrl s h chk act)) (idle : s.pf.state ≠ .loading) (entry : chk = none)
    (touch : Touch 0x814100 s (act s)) (cfg : (act s).pf.cfg = c) :
    ∃ t, exec i s = .next t ∧ t.pf = (act s).pf ∧ t.ev = (act s).ev ∧ Answered s t h stOk (c.minCount + c.lossMs * 2 ^ 16) :=
  a.completes is rfl rfl entry (by simp [need, idle]) ⟨rfl, rfl, cfg ▸ State.done_answers touch rfl h stOk _⟩

/-- In LOADING it is answered BUSY and does nothing more (R211). -/
theorem State.profileCtrl_busy {s : State} {h : CmdHdr} {i : Instr} {chk : Refuse} {act : State → State}
    (a : AcceptedRun s h) (is : exec i s = .next (State.profileCtrl s h chk act)) (loading : s.pf.state = .loading) (entry : chk = none) :
    Completes i s (fun t => t.pf = s.pf ∧ Answered s t h stBusy 0) := by
  refine ⟨_, is, ?_⟩
  show (fun t => t.pf = s.pf ∧ Answered s t h stBusy 0) (s.start h _ _)
  rw [State.start_stateRefused a _ (fun only => absurd only Bool.false_ne_true) rfl entry (st := stBusy) (r := 0)
    (by simp [need, loading])]
  exact ⟨rfl, State.complete_answers ..⟩

/-- Settles O14: each action is a lemma about the engine it leaves (`startLearning_pf`, `newPfSet_…`); PLAN_LOAD and the answers are
those of any command accepted. -/
theorem profileCommandsComplete : Obligations.ProfileCommandsComplete := by
  refine ⟨fun h buf count binExp mode weight timeoutMs n actTime s a idle least most len bin inside weighs timeout time good phases long fits => ?load,
    fun h c s a idle good => ?start, fun h s a idle => ⟨?stop, ?clear⟩, fun h c s a idle good => ?set, fun h c s a loading good => ?busy⟩
  case load =>
    refine a.completes rfl rfl rfl ?entry (by simp [need, idle])
      ⟨rfl, rfl, rfl, rfl, rfl, by rw [← Option.getD_some (a := n) (b := 0), ← fits]; rfl, Waits.await ..⟩
    simp [param, need, bin, inside, weighs, timeout, time, good, fits, len, most]
    exact ⟨by omega, by rw [phases], long⟩
  case start =>
    obtain ⟨keeps, clears⟩ := s.startLearning_pf c
    obtain ⟨t, runs, pf, -, answered⟩ := State.profileCtrl_says a (i := .profileStart h c) rfl idle good (c := c)
      ((s.startLearning_touch c).mono rfl) (by
        by_cases keep : s.keepsTable c
        · rw [keeps keep]; rfl
        · rw [clears keep]; rfl)
    refine ⟨t, runs, ?_⟩
    dsimp only
    by_cases keep : s.keepsTable c
    · rw [pf, keeps keep]
      exact ⟨rfl, rfl, rfl, rfl, rfl, fun _ => ⟨rfl, rfl, rfl, rfl⟩, fun not => absurd keep not, answered⟩
    · rw [pf, clears keep]
      exact ⟨rfl, rfl, rfl, rfl, rfl, fun same => absurd same keep, fun _ => ⟨rfl, rfl, rfl⟩, answered⟩
  case stop =>
    obtain ⟨t, runs, pf, -, answered⟩ := State.profileCtrl_says a (i := .profileStop h) rfl idle rfl (c := s.pf.cfg) ((State.setPf_touch s _).mono rfl) rfl
    exact ⟨t, runs, pf, answered⟩
  case clear =>
    let v := s.setPf (fun p => if p.learn then p.toSearch else { p.toSearch with state := .idle })
    have now : v.pf = if s.pf.learn then s.pf.toSearch else { s.pf.toSearch with state := .idle } := rfl
    obtain ⟨t, runs, pf, -, answered⟩ := State.profileCtrl_says a (i := .profileClear h) rfl idle rfl (c := s.pf.cfg) ((State.setPf_touch s _).mono rfl)
      (show v.pf.cfg = _ by rw [now]; split <;> rfl)
    refine ⟨t, runs, ?_⟩
    dsimp only
    rw [pf.trans now]
    by_cases learns : s.pf.learn = true
    · rw [if_pos learns, if_pos learns]
      exact ⟨rfl, rfl, rfl, rfl, rfl, rfl, answered⟩
    · rw [if_neg learns, if_neg learns]
      exact ⟨rfl, rfl, rfl, rfl, rfl, rfl, answered⟩
  case set =>
    obtain ⟨cfg, state, period, number, table⟩ := s.pf.putSet_keeps c
    obtain ⟨t, runs, pf, ev, answered⟩ := State.profileCtrl_says a (i := .profileSet h c) rfl idle good (c := c) (s.newPfSet_touch c)
      (s.newPfSet_cfg c)
    refine ⟨t, runs, answered, by rw [pf, s.newPfSet_cfg], fun none_ same => ?_, fun none_ other => ?_, fun some_ k fits => ?_,
      fun some_ unfit => ?_⟩
    · rw [pf, State.newPfSet_none none_, Profile.putSet_same same]
    · rw [pf, State.newPfSet_none none_, Profile.putSet_other other]
      rfl
    · rw [pf, State.newPfSet_fits some_ fits]
      split
      case isTrue same => exact ⟨state, period, number.trans same.2.2.symm, table⟩
      case isFalse => exact ⟨state, period, rfl, rfl⟩
    · have newest : Newest s (s.newPfSet c) 0x0602 1 kNone 0 (leBytesI 8 (divRne s.pf.period (2 ^ 16))) := by
        rw [State.newPfSet_noFit some_ unfit]
        exact State.record_newest (State.setPf _ _) ..
      have now : (s.newPfSet c).pf = { (if (s.pf.putSet c).state = .locked then (s.pf.putSet c).toSearch else (s.pf.putSet c).clear) with
          noFit := true } := by
        rw [State.newPfSet_noFit some_ unfit]
        rfl
      refine ⟨?_, ?_, ?_, ?_, ?_⟩
      case _ => rw [pf, now]; split <;> rfl
      case _ => rw [pf, now]
      case _ =>
        rw [pf, now, state]
        split
        · rfl
        · exact state
      case _ =>
        rw [pf, now, state]
        split
        · rfl
        · exact period
      case _ => unfold Newest at newest ⊢; rwa [ev]
  case busy =>
    intro i member
    simp only [List.mem_cons, List.not_mem_nil, or_false] at member
    rcases member with rfl | rfl | rfl | rfl
    · exact State.profileCtrl_busy a rfl loading good
    · exact State.profileCtrl_busy a rfl loading rfl
    · exact State.profileCtrl_busy a rfl loading rfl
    · exact State.profileCtrl_busy a rfl loading good

end Sys2Proof.Machine
end

section
/-!
R208, R210, R376: the plan under way, and the forecast of every frame period.
-/

namespace Sys2Proof.Machine

open Sys2Proof

theorem wrapT_zero (t : Int) : wrapT 0 t = 0 := by
  unfold wrapT
  split
  · rfl
  · exact Int.zero_emod t

/-- An activation at phase 0: LOCKED with the plan's exponent and period, and PLAN_LOAD completes OK (R208). -/
theorem State.activatePlan_says {s : State} {q : Plan} (plan : s.pf.plan = some q) :
    (s.activatePlan 0).pf.state = .locked ∧ (s.activatePlan 0).pf.planned = true ∧ (s.activatePlan 0).pf.phase = 0 ∧
    (s.activatePlan 0).pf.plan = none ∧ (s.activatePlan 0).pf.table = s.pf.table ∧ (s.activatePlan 0).pf.anchors = s.pf.anchors ∧
    (s.activatePlan 0).pf.n = q.binN ∧ (s.activatePlan 0).pf.period = planPeriod q.phases ∧
    ∀ f ∈ s.hq.inflight, f.wait = .planLoad → Answered s (s.activatePlan 0) f.hdr stOk 0 := by
  let v := s.setPf (fun p => match p.plan with
    | some q => { ({ p with plan := none, n := q.binN, period := planPeriod q.phases }).toLocked 0 with planned := true }
    | none => p)
  have now : v.pf = { ({ s.pf with plan := none, n := q.binN, period := planPeriod q.phases } : Profile).toLocked 0 with planned := true } := by
    show (match s.pf.plan with
      | some q => _
      | none => _) = _
    rw [plan]
  have is : (s.activatePlan 0).pf = v.pf := comp_bit (v.completeWhere_touch (· == Wait.planLoad) stOk 0).pf rfl
  rw [is, now]
  refine ⟨rfl, rfl, wrapT_zero _, rfl, rfl, rfl, rfl, rfl, fun f member waits => ?_⟩
  exact Answered.before (State.setPf_touch s _) rfl
    (State.completeWhere_answers v (· == Wait.planLoad) stOk 0 f member (by simp [waits]))

/-- Settles O28: an activation by `State.activatePlan_says`; the forecast writes its two fields of input 0. -/
theorem plansAndForecastComplete : Obligations.PlansAndForecastComplete := by
  refine ⟨fun s q plan fresh => ?written, fun s q plan written timed => ?atTime, fun s q plan waits => ?timeout,
    fun s runs => ⟨_, if_neg (by simp [runs]), rfl, rfl⟩, fun s runs locked => ?parity, fun s parity off => ⟨_, if_pos (by simp [off]), rfl, rfl⟩⟩
  case written =>
    let v := s.setPf (fun p => { p with plan := some { q with written := true }, table := planTable q, anchors := planAnchors q })
    have runs : exec .planWritten s =
        .next (if q.mode = 0 ∨ (q.mode = 1 ∧ q.actTime ≤ s.clk.ptp) then v.activatePlan 0 else v) := by
      show execPlanWritten s = _
      rw [execPlanWritten, plan]
      dsimp only
      rw [fresh]
      rfl
    obtain ⟨state, planned, phase, gone, table, anchors, number, period, answers⟩ :=
      State.activatePlan_says (s := v) (q := { q with written := true }) rfl
    refine ⟨_, runs, ?_⟩
    split
    case isTrue now =>
      exact ⟨table, anchors, fun _ => ⟨state, planned, phase, gone, number, period, fun f member is =>
        Answered.before (State.setPf_touch s _) rfl (answers f member is)⟩, fun later => absurd now (by omega)⟩
    case isFalse later =>
      exact ⟨rfl, rfl, fun now => absurd now later, fun _ => ⟨rfl, rfl, rfl, rfl, rfl⟩⟩
  case atTime =>
    obtain ⟨state, planned, phase, gone, table, -, number, period, answers⟩ := State.activatePlan_says plan
    have runs : exec .planActivateAtTime s = .next (s.activatePlan 0) := by
      show execPlanActivateAtTime s = _
      rw [execPlanActivateAtTime, plan]
      dsimp only
      rw [if_pos ⟨timed, written⟩]
    exact ⟨_, runs, state, planned, phase, gone, table, number, period, answers⟩
  case timeout =>
    let v := s.setPf Profile.toSearch
    have runs : exec .planActTimeout s = .next (v.completeWhere (· == Wait.planLoad) stTimeout 0) := by
      show execPlanActTimeout s = _
      rw [execPlanActTimeout, plan]
      dsimp only
      rw [if_neg waits]
    have is : (v.completeWhere (· == Wait.planLoad) stTimeout 0).pf = v.pf := comp_bit (v.completeWhere_touch ..).pf rfl
    refine ⟨_, runs, ?_⟩
    dsimp only
    rw [is]
    exact ⟨rfl, rfl, rfl, fun f member waits => Answered.before (State.setPf_touch s _) rfl
      (State.completeWhere_answers v (· == Wait.planLoad) stTimeout 0 f member (by simp [waits]))⟩
  case parity =>
    let b := (wrapT (s.pf.phase + s.sh.leadUs * 2 ^ 16) s.pf.period / binWidth s.pf.n).toNat
    have reads : s.forecastParity true s.sh.leadUs = s.pfParity b := if_pos (by simp [locked])
    have newest : Newest s (s.pfParity b) 0x0603 1 kNone 0 (leBytes 4 b) := State.record_newest (s.setPf _) ..
    have shown : (s.pfParity b).pf.parityFlag = true := rfl
    rw [← reads] at newest shown
    exact ⟨_, if_neg (by simp [runs]), shown, newest⟩

end Sys2Proof.Machine
end

section
/-!
R197 to R206: the Profile Engine's samples, loss of lock and WICK notices.
-/

namespace Sys2Proof.Machine

open Sys2Proof

/-! ### A sample -/

/-- What the averagers, the correlator and the parity check leave as it is in LOCKED. -/
structure Profile.Steady (p q : Profile) : Prop where
  state : q.state = p.state
  period : q.period = p.period
  phase : q.phase = p.phase
  n : q.n = p.n
  periods : q.periods = p.periods
  recross : q.recross = p.recross

theorem Profile.Steady.trans {p q r : Profile} (a : p.Steady q) (b : q.Steady r) : p.Steady r :=
  ⟨b.state.trans a.state, b.period.trans a.period, b.phase.trans a.phase, b.n.trans a.n, b.periods.trans a.periods, b.recross.trans a.recross⟩

/-- The correlator is evaluated in SEARCH and COAST alone. -/
theorem State.correlate_locked {s : State} (locked : s.pf.state = .locked) : s.correlate = s :=
  if_pos (by simp [locked])

/-- In LOCKED the decimator changes its own sums alone. -/
theorem State.decimate_locked {s : State} (locked : s.pf.state = .locked) (x : Int) :
    s.pf.Steady (s.decimate x).pf ∧ (s.decimate x).pf.parityFlag = s.pf.parityFlag ∧ (s.decimate x).ev = s.ev := by
  unfold State.decimate
  dsimp only
  split
  · exact ⟨⟨rfl, rfl, rfl, rfl, rfl, rfl⟩, rfl, rfl⟩
  · split
    · rw [State.correlate_locked (by exact locked)]
      exact ⟨⟨rfl, rfl, rfl, rfl, rfl, rfl⟩, rfl, rfl⟩
    · exact ⟨⟨rfl, rfl, rfl, rfl, rfl, rfl⟩, rfl, rfl⟩

/-- A good sample joins the sums of its bin and window and the decimator; a missing one does not. -/
def State.pfTake (s : State) (x : Option Int) : State := match x with
  | some v => (s.setPf (fun p => { p with
      binSum := if p.state = PfState.locked then p.binSum + v else p.binSum
      binCnt := if p.state = PfState.locked then p.binCnt + 1 else p.binCnt
      winSum := p.winSum + v, winCnt := p.winCnt + 1 })).decimate v
  | none => s

/-- The entry of the present bin is checked in LOCKED. -/
def State.pfCheck (s : State) (parity : Bool) : State :=
  if parity && s.pf.state == PfState.locked then s.pfParity (s.pf.phase / binWidth s.pf.n).toNat else s

/-- The sample joins the recent ones. -/
def State.pfKeep (s : State) (x : Option Int) : State :=
  s.setPf (fun p => { p with recent := (x :: p.recent).take ((p.period / 2 ^ 16).toNat + 2), winPos := p.winPos + 1 })

/-- The phase of LOCKED and COAST goes on. -/
def State.pfAdvance (s : State) : State :=
  if s.pf.state = .locked ∨ s.pf.state = .coast then (s.setPf Profile.advance).pfRefit else s

/-- A window of 1,000 samples ends. -/
def State.pfWindow (s : State) : State := if s.pf.winPos ≥ 1000 then s.setPf Profile.endWindow else s

/-- A sample of a running engine, part by part. -/
theorem exec_profileSample {s : State} {parity : Bool} (runs : s.rc.profile = true) (on : s.pf.state ≠ .idle) :
    exec (.profileSample parity) s =
      .next ((((s.pfCheck parity).pfTake s.pfSample).pfKeep s.pfSample).pfAdvance.pfWindow) := by
  show execProfileSample parity s = _
  rw [execProfileSample, if_neg (by simp [runs, on])]
  rfl

theorem State.pfCheck_locked {s : State} (locked : s.pf.state = .locked) (parity : Bool) : s.pf.Steady (s.pfCheck parity).pf ∧
    (parity = true → (s.pfCheck parity).pf.parityFlag = true ∧
      Newest s (s.pfCheck parity) 0x0603 1 kNone 0 (leBytes 4 (s.pf.phase / binWidth s.pf.n).toNat)) := by
  cases parity with
  | false => exact ⟨⟨rfl, rfl, rfl, rfl, rfl, rfl⟩, fun wrong => absurd wrong Bool.false_ne_true⟩
  | true =>
    rw [State.pfCheck, if_pos (by simp [locked])]
    exact ⟨⟨rfl, rfl, rfl, rfl, rfl, rfl⟩, fun _ => ⟨rfl, State.record_newest (s.setPf _) ..⟩⟩

theorem State.pfTake_locked {s : State} (locked : s.pf.state = .locked) (x : Option Int) :
    s.pf.Steady (s.pfTake x).pf ∧ (s.pfTake x).pf.parityFlag = s.pf.parityFlag ∧ (s.pfTake x).ev = s.ev := by
  cases x with
  | none => exact ⟨⟨rfl, rfl, rfl, rfl, rfl, rfl⟩, rfl, rfl⟩
  | some v =>
    have ⟨steady, flag, ev⟩ := State.decimate_locked (s := s.setPf (fun p => { p with
      binSum := if p.state = PfState.locked then p.binSum + v else p.binSum
      binCnt := if p.state = PfState.locked then p.binCnt + 1 else p.binCnt
      winSum := p.winSum + v, winCnt := p.winCnt + 1 })) locked v
    exact ⟨⟨steady.state, steady.period, steady.phase, steady.n, steady.periods, steady.recross⟩, flag, ev⟩

theorem Profile.leaveBin_steady (p : Profile) (b : Nat) : p.Steady (p.leaveBin b) ∧ (p.leaveBin b).parityFlag = p.parityFlag := by
  unfold Profile.leaveBin
  split
  all_goals exact ⟨⟨rfl, rfl, rfl, rfl, rfl, rfl⟩, rfl⟩

/-- The skill of a window does not change the engine's place in the table. -/
theorem Profile.endWindow_keeps (p : Profile) : p.Steady p.endWindow ∧ p.endWindow.parityFlag = p.parityFlag ∧
    p.endWindow.snap = p.snap ∧ p.endWindow.table = p.table ∧ p.endWindow.periodBins = p.periodBins ∧ p.endWindow.noFit = p.noFit := by
  unfold Profile.endWindow
  dsimp only
  split
  · split
    all_goals exact ⟨⟨rfl, rfl, rfl, rfl, rfl, rfl⟩, rfl, rfl, rfl, rfl, rfl⟩
  · exact ⟨⟨rfl, rfl, rfl, rfl, rfl, rfl⟩, rfl, rfl, rfl, rfl, rfl⟩

/-- The phase goes on within the table. -/
theorem Profile.advance_within {p : Profile} (some_ : 0 < p.period) (within : p.phase + 2 ^ 16 < p.period) :
    p.advance.state = p.state ∧ p.advance.phase = p.phase + 2 ^ 16 ∧ p.advance.periods = p.periods ∧
    p.advance.period = p.period ∧ p.advance.n = p.n ∧ p.advance.parityFlag = p.parityFlag := by
  rw [Profile.advance]
  dsimp only
  rw [if_neg (by omega), if_neg (by omega)]
  split
  · obtain ⟨steady, flag⟩ := Profile.leaveBin_steady { p with phase := p.phase + 2 ^ 16 } (p.phase / binWidth p.n).toNat
    exact ⟨steady.state, steady.phase, steady.periods, steady.period, steady.n, flag⟩
  · exact ⟨rfl, rfl, rfl, rfl, rfl, rfl⟩

/-- The phase runs over the end in LOCKED: a period ends, unless that end was met before. -/
theorem Profile.advance_over {p : Profile} (some_ : 0 < p.period) (past : p.period ≤ p.phase + 2 ^ 16) (locked : p.state = .locked) :
    p.advance.state = .locked ∧ p.advance.parityFlag = p.parityFlag ∧ p.advance.recross = (if p.recross then false else p.advance.recross) ∧
    p.advance.periodBins = [] ∧ p.advance.periods = (if p.recross then p.periods else satInc 16 p.periods) ∧
    (p.recross = false → p.advance.snap = p.advance.table) := by
  rw [Profile.advance]
  dsimp only
  rw [if_neg (by omega), if_pos (by omega), if_pos (by simp [locked])]
  obtain ⟨steady, flag⟩ := Profile.leaveBin_steady { p with phase := wrapT (p.phase + 2 ^ 16) p.period } (p.phase / binWidth p.n).toNat
  generalize Profile.leaveBin _ _ = q at steady flag
  have same : q.recross = p.recross := steady.recross
  rw [Profile.cross, same]
  cases again : p.recross with
  | true => exact ⟨steady.state.trans locked, flag, rfl, rfl, steady.periods, fun wrong => absurd wrong (by decide)⟩
  | false =>
    refine ⟨steady.state.trans locked, flag, rfl, rfl, ?_, fun _ => rfl⟩
    show satInc 16 q.periods = _
    rw [steady.periods]
    rfl

/-- An exponent chosen for a period gives it a table it fits (R196). -/
theorem Part.chooseBin_fits {part : Part} {setting n : Nat} {t : Int} (is : part.chooseBin setting t = some n) :
    binsOf t n ≤ part.profileEntries := by
  unfold Part.chooseBin at is
  split at is
  · exact of_decide_eq_true (List.find?_some (p := fun n => decide (binsOf t n ≤ part.profileEntries)) is)
  · split at is
    · cases is
      assumption
    · cases is

/-- A period that has grown past the table ends in a table it fits, or in SEARCH (R196). -/
theorem State.pfRefit_says {s : State} (locked : s.pf.state = .locked) :
    (s.pfRefit = s ∧ binsOf s.pf.period s.pf.n ≤ s.part.profileEntries) ∨
    (∃ n, s.pfRefit = s.setPf (fun p => { p.clear with n := n, avg := 0 }) ∧ binsOf s.pf.period n ≤ s.part.profileEntries) ∨
    s.pfRefit = (s.setPf Profile.toSearch).pfNoFit s.pf.period := by
  unfold State.pfRefit
  dsimp only
  by_cases fits : binsOf s.pf.period s.pf.n ≤ s.part.profileEntries
  · exact .inl ⟨if_pos (.inr fits), fits⟩
  · rw [if_neg (by simp [locked]; omega)]
    cases is : s.part.chooseBin s.pf.cfg.binExp s.pf.period with
    | none => exact .inr (.inr rfl)
    | some n => exact .inr (.inl ⟨n, rfl, Part.chooseBin_fits is⟩)

/-- A sample in LOCKED within the table: the phase goes on by 1 µs. -/
theorem State.pfAdvance_within {s : State} (locked : s.pf.state = .locked) (some_ : 0 < s.pf.period)
    (within : s.pf.phase + 2 ^ 16 < s.pf.period) (fits : binsOf s.pf.period s.pf.n ≤ s.part.profileEntries) :
    s.pfAdvance.pf = s.pf.advance ∧ s.pfAdvance.pf.state = .locked ∧ s.pfAdvance.pf.phase = s.pf.phase + 2 ^ 16 ∧
    s.pfAdvance.pf.periods = s.pf.periods ∧ s.pfAdvance.pf.period = s.pf.period := by
  obtain ⟨state, phase, periods, period, number, -⟩ := Profile.advance_within some_ within
  have same : s.pfAdvance = s.setPf Profile.advance := by
    rw [State.pfAdvance, if_pos (.inl locked)]
    refine if_pos (.inr ?_)
    show binsOf s.pf.advance.period s.pf.advance.n ≤ s.part.profileEntries
    rwa [period, number]
  rw [same]
  exact ⟨rfl, state.trans locked, phase, periods, period⟩

/-- A sample in LOCKED over the end of the table. -/
theorem State.pfAdvance_over {s : State} (locked : s.pf.state = .locked) (some_ : 0 < s.pf.period)
    (past : s.pf.period ≤ s.pf.phase + 2 ^ 16) : s.pfAdvance.pf.periodBins = [] ∧
    (s.pf.recross = false → s.pfAdvance.pf.periods = satInc 16 s.pf.periods ∧ s.pfAdvance.pf.snap = s.pfAdvance.pf.table ∧
      (s.pfAdvance.pf.state = .locked ∧ binsOf s.pfAdvance.pf.period s.pfAdvance.pf.n ≤ s.part.profileEntries ∨
        s.pfAdvance.pf.state = .search ∧ s.pfAdvance.pf.noFit = true)) ∧
    (s.pf.recross = true → s.pfAdvance.pf.periods = s.pf.periods ∧ s.pfAdvance.pf.recross = false) := by
  obtain ⟨state, -, recross, bins, periods, snap⟩ := Profile.advance_over some_ past locked
  rw [State.pfAdvance, if_pos (.inl locked)]
  rcases State.pfRefit_says (s := s.setPf Profile.advance) state with ⟨is, fits⟩ | ⟨n, is, fits⟩ | is
  · rw [is]
    exact ⟨bins, fun first => ⟨by rw [first] at periods; exact periods, snap first, .inl ⟨state, fits⟩⟩,
      fun again => by rw [again] at periods recross; exact ⟨periods, recross⟩⟩
  · rw [is]
    exact ⟨rfl, fun first => ⟨by rw [first] at periods; exact periods, rfl, .inl ⟨state, fits⟩⟩,
      fun again => ⟨by rw [again] at periods; exact periods, rfl⟩⟩
  · rw [is]
    exact ⟨rfl, fun first => ⟨by rw [first] at periods; exact periods, rfl, .inr ⟨rfl, rfl⟩⟩,
      fun again => ⟨by rw [again] at periods; exact periods, rfl⟩⟩

/-- The parity flag stays, and in LOCKED no record is made after it. -/
theorem State.pfAdvance_flag {s : State} (locked : s.pf.state = .locked) (some_ : 0 < s.pf.period) :
    s.pfAdvance.pf.parityFlag = s.pf.parityFlag ∧ (s.pfAdvance.pf.state = .locked → s.pfAdvance.ev = s.ev) := by
  have advanced : s.pf.advance.state = .locked ∧ s.pf.advance.parityFlag = s.pf.parityFlag := by
    rcases Int.lt_or_le (s.pf.phase + 2 ^ 16) s.pf.period with within | past
    · obtain ⟨state, -, -, -, -, flag⟩ := Profile.advance_within some_ within
      exact ⟨state.trans locked, flag⟩
    · obtain ⟨state, flag, -⟩ := Profile.advance_over some_ past locked
      exact ⟨state, flag⟩
  obtain ⟨state, flag⟩ := advanced
  rw [State.pfAdvance, if_pos (.inl locked)]
  rcases State.pfRefit_says (s := s.setPf Profile.advance) state with ⟨is, -⟩ | ⟨n, is, -⟩ | is
  · rw [is]
    exact ⟨flag, fun _ => rfl⟩
  · rw [is]
    exact ⟨flag, fun _ => rfl⟩
  · rw [is]
    exact ⟨flag, fun wrong => absurd (show PfState.search = PfState.locked from wrong) (by decide)⟩

/-- The end of a window keeps what the sample left. -/
theorem State.pfWindow_keeps (s : State) : s.pf.Steady s.pfWindow.pf ∧ s.pfWindow.pf.parityFlag = s.pf.parityFlag ∧
    s.pfWindow.pf.snap = s.pf.snap ∧ s.pfWindow.pf.table = s.pf.table ∧ s.pfWindow.pf.periodBins = s.pf.periodBins ∧
    s.pfWindow.pf.noFit = s.pf.noFit ∧ s.pfWindow.ev = s.ev := by
  unfold State.pfWindow
  split
  · obtain ⟨steady, flag, snap, table, bins, fit⟩ := s.pf.endWindow_keeps
    exact ⟨steady, flag, snap, table, bins, fit, rfl⟩
  · exact ⟨⟨rfl, rfl, rfl, rfl, rfl, rfl⟩, rfl, rfl, rfl, rfl, rfl, rfl⟩

/-! ### Notices -/

theorem wrapT_wrapT (x t : Int) : wrapT (wrapT x t) t = wrapT x t := by
  unfold wrapT
  split
  · rfl
  · exact Int.emod_emod_of_dvd x (Int.dvd_refl t)

/-- A period that ends at a jump measures no phase, and so leaves it where it is. -/
theorem Profile.cross_jumped {p : Profile} {x : Int} (jumped : p.wickJump = true) (phase : p.phase = wrapT x p.period) :
    p.cross.phase = p.phase ∧ p.cross.applied = p.applied ∧ p.cross.rejected = p.rejected := by
  unfold Profile.cross
  split
  · exact ⟨rfl, rfl, rfl⟩
  · refine ⟨?_, rfl, rfl⟩
    unfold Profile.endPeriod
    dsimp only
    rw [jumped]
    show wrapT p.phase p.period = p.phase
    rw [phase, wrapT_wrapT]

/-- A bin left at a jump changes neither the phase nor a count of notices. -/
theorem Profile.leaveBin_jump (p : Profile) (b : Nat) : (p.leaveBin b).wickJump = p.wickJump ∧
    (p.leaveBin b).applied = p.applied ∧ (p.leaveBin b).rejected = p.rejected := by
  unfold Profile.leaveBin
  split
  all_goals exact ⟨rfl, rfl, rfl⟩

/-- A jump moves the phase by its distance, and counts no notice. -/
theorem Profile.jump_phase (p : Profile) (d : Int) : (p.jump d).phase = wrapT (p.phase + d) p.period ∧
    (p.jump d).applied = p.applied ∧ (p.jump d).rejected = p.rejected := by
  have after : ∀ q : Profile, q.wickJump = true → q.phase = wrapT (p.phase + d) q.period → q.period = p.period →
      q.applied = p.applied → q.rejected = p.rejected → ∀ r : Profile,
      r = (if p.period ≤ p.phase + d then q.cross else if p.phase + d < 0 then { q with recross := true } else q) →
      r.phase = wrapT (p.phase + d) p.period ∧ r.applied = p.applied ∧ r.rejected = p.rejected := by
    intro q jumped phase period applied rejected r is
    obtain ⟨stays, applied', rejected'⟩ := Profile.cross_jumped jumped phase
    rw [period] at phase
    split at is
    · rw [is]
      exact ⟨stays.trans phase, applied'.trans applied, rejected'.trans rejected⟩
    · split at is
      all_goals
        rw [is]
        exact ⟨phase, applied, rejected⟩
  let m : Profile := { p with phase := wrapT (p.phase + d) p.period, wickJump := true }
  by_cases same : (m.phase / binWidth m.n).toNat = (p.phase / binWidth p.n).toNat
  · exact after m rfl rfl rfl rfl rfl _ (by rw [Profile.jump]; dsimp only; rw [if_pos same])
  · obtain ⟨steady, -⟩ := m.leaveBin_steady (p.phase / binWidth p.n).toNat
    obtain ⟨jumped, applied, rejected⟩ := m.leaveBin_jump (p.phase / binWidth p.n).toNat
    exact after _ jumped (steady.phase.trans (by rw [steady.period])) steady.period applied rejected _
      (by rw [Profile.jump]; dsimp only; rw [if_neg same])

/-- A notice whose distance is within SNAP jumps, and is counted (R205). -/
theorem State.anchorJump_within {s : State} {w : Notice} {a : Int}
    (within : absI (wrapHalf (a - s.phaseAt w.at_) s.pf.period) * 100 ≤ s.pf.cfg.snapPct * s.pf.period) :
    (s.anchorJump w a).pf.phase = wrapT (s.pf.phase + wrapHalf (a - s.phaseAt w.at_) s.pf.period) s.pf.period ∧
    (s.anchorJump w a).pf.applied = (s.pf.applied + 1) % 2 ^ 16 ∧ (s.anchorJump w a).pf.rejected = s.pf.rejected := by
  obtain ⟨phase, applied, rejected⟩ := s.pf.jump_phase (wrapHalf (a - s.phaseAt w.at_) s.pf.period)
  have is : s.anchorJump w a = (s.setPf (fun p =>
      { p.jump (wrapHalf (a - s.phaseAt w.at_) s.pf.period) with rejects := dropKey p.rejects w.tag })).pfApplied := by
    unfold State.anchorJump
    dsimp only
    exact if_pos (by rw [decide_eq_true within, Bool.true_or])
  rw [is]
  exact ⟨phase, congrArg (fun n => (n + 1) % 2 ^ 16) applied, rejected⟩

theorem State.applyNotice_reject {s : State} {w : Notice} (no : w.tag = 0 ∨ s.pf.state = .idle) : s.applyNotice w = s.pfReject :=
  if_pos (no.imp_right .inl)

/-- In LOCKED a notice of no older than a period goes to its anchor. -/
theorem State.applyNotice_locked {s : State} {w : Notice} (tag : w.tag ≠ 0) (locked : s.pf.state = .locked)
    (young : 0 < s.pf.noticePeriod → phaseOf (s.clk.ptp - w.at_) ≤ s.pf.noticePeriod) :
    s.applyNotice w = match look s.pf.anchors w.tag with
      | none => (s.newAnchor w).pfApplied
      | some a => s.anchorJump w a := by
  unfold State.applyNotice
  dsimp only
  refine (if_neg ?_).trans (if_pos locked)
  rintro (zero | idle | old)
  · exact tag zero
  · exact absurd (locked.symm.trans idle) (by decide)
  · simp only [Bool.and_eq_true, decide_eq_true_eq] at old
    obtain ⟨⟨-, period⟩, late⟩ := old
    exact absurd (young period) (by omega)

theorem phaseOf_zero : phaseOf 0 = 0 := by decide

/-! ### The commands -/

/-- A good sample in SEARCH that does not fill the decimator. -/
theorem State.pfTake_search {s : State} {v : Int} (search : s.pf.state = .search) (short : s.pf.decCnt + 1 < 2 ^ s.pf.m) :
    s.pfTake (some v) = s.setPf (fun p => { p with
      decSum := p.decSum + v, decCnt := p.decCnt + 1, winSum := p.winSum + v, winCnt := p.winCnt + 1 }) := by
  have sums : (s.setPf (fun p => { p with
      binSum := if p.state = PfState.locked then p.binSum + v else p.binSum
      binCnt := if p.state = PfState.locked then p.binCnt + 1 else p.binCnt
      winSum := p.winSum + v, winCnt := p.winCnt + 1 })) = s.setPf (fun p => { p with winSum := p.winSum + v, winCnt := p.winCnt + 1 }) := by
    unfold State.setPf
    dsimp only
    rw [if_neg (by simp [search]), if_neg (by simp [search])]
  unfold State.pfTake
  dsimp only
  rw [sums]
  exact if_pos short

/-- The engine's samples change no part. -/
theorem State.pfSampled_part (s : State) (parity : Bool) (x : Option Int) : (((s.pfCheck parity).pfTake x).pfKeep x).part = s.part := by
  have checked : (s.pfCheck parity).part = s.part := by
    unfold State.pfCheck
    split
    · rfl
    · rfl
  cases x with
  | none => exact checked
  | some v => exact (State.decimate_touch _ v).part.trans checked

/-- A notice of the past. -/
theorem State.takeNotice_past {s : State} {w : Notice} (runs : s.rc.profile = true) (past : w.at_ ≤ s.clk.ptp) :
    ∃ v : State, s.takeNotice w = v.applyNotice w ∧ v.pf = s.pf ∧ v.clk = s.clk := by
  by_cases burst : (s.active && decide (0 < w.delta)) = true
  · refine ⟨s.burstExit, ?_, comp_bit s.burstExit_touch.pf rfl, comp_bit s.burstExit_touch.clk rfl⟩
    unfold State.takeNotice
    rw [if_pos burst]
    dsimp only
    rw [if_neg (by rw [s.burstExit_touch.rc_eq rfl, runs]; decide), if_neg]
    rw [show s.burstExit.clk = s.clk from comp_bit s.burstExit_touch.clk rfl]
    omega
  · refine ⟨s, ?_, rfl, rfl⟩
    unfold State.takeNotice
    rw [if_neg burst]
    dsimp only
    rw [if_neg (by simp [runs]), if_neg (by omega)]

/-- A notice of the future waits for its time. -/
theorem State.takeNotice_future {s : State} {w : Notice} (runs : s.rc.profile = true) (future : s.clk.ptp < w.at_) :
    (s.takeNotice w).pf = { s.pf with waiting := insertBy (fun a b => decide (a.at_ < b.at_)) w s.pf.waiting } := by
  by_cases burst : (s.active && decide (0 < w.delta)) = true
  · have pf : s.burstExit.pf = s.pf := comp_bit s.burstExit_touch.pf rfl
    unfold State.takeNotice
    rw [if_pos burst]
    dsimp only
    rw [if_neg (by rw [s.burstExit_touch.rc_eq rfl, runs]; decide), if_pos]
    · show ({ s.burstExit.pf with waiting := _ } : Profile) = _
      rw [pf]
    · rw [show s.burstExit.clk = s.clk from comp_bit s.burstExit_touch.clk rfl]
      exact future
  · unfold State.takeNotice
    rw [if_neg burst]
    dsimp only
    rw [if_neg (by simp [runs]), if_pos future]
    rfl

/-- Settles O27: a sample part by part (`exec_profileSample`), its phase by `State.pfAdvance_…`; a notice by the jump of its anchor. -/
theorem profileEngineComplete : Obligations.ProfileEngineComplete := by
  refine ⟨fun s v runs search sample within short => ?search, fun s parity runs locked some_ => ?locked, fun s locked lost => ?lost,
    fun s coast => ⟨_, congrArg Host.Outcome.next (if_pos coast), rfl, rfl, rfl, rfl, rfl⟩,
    fun s tag tw delta dur runs => ?notice, fun s w l runs waiting now tag locked fresh => ?apply⟩
  case search =>
    let u := (s.setPf (fun p => { p with
      decSum := p.decSum + v, decCnt := p.decCnt + 1, winSum := p.winSum + v, winCnt := p.winCnt + 1 })).pfKeep (some v)
    have stays : u.pfAdvance = u := if_neg (show ¬ (s.pf.state = _ ∨ s.pf.state = _) by simp [search])
    have open_ : u.pfWindow = u := if_neg (show ¬ s.pf.winPos + 1 ≥ 1000 by omega)
    have leaves := exec_profileSample (parity := false) runs (by simp [search])
    rw [sample, show s.pfCheck false = s from rfl, State.pfTake_search search short,
      show (State.pfKeep _ _).pfAdvance = u from stays, open_] at leaves
    exact ⟨u, leaves, rfl⟩
  case locked =>
    obtain ⟨checked, finds⟩ := State.pfCheck_locked locked parity
    obtain ⟨taken, flag, ev⟩ := State.pfTake_locked (checked.state.trans locked) s.pfSample
    have steady := checked.trans taken
    have part := s.pfSampled_part parity s.pfSample
    refine ⟨_, exec_profileSample runs (by simp [locked]), ?_⟩
    generalize (s.pfCheck parity).pfTake s.pfSample = w at steady part flag ev ⊢
    have state : (w.pfKeep s.pfSample).pf.state = .locked := steady.state.trans locked
    have period : (w.pfKeep s.pfSample).pf.period = s.pf.period := steady.period
    have phase : (w.pfKeep s.pfSample).pf.phase = s.pf.phase := steady.phase
    have number : (w.pfKeep s.pfSample).pf.n = s.pf.n := steady.n
    have periods : (w.pfKeep s.pfSample).pf.periods = s.pf.periods := steady.periods
    have recross : (w.pfKeep s.pfSample).pf.recross = s.pf.recross := steady.recross
    have flag : (w.pfKeep s.pfSample).pf.parityFlag = (s.pfCheck parity).pf.parityFlag := flag
    have ev : (w.pfKeep s.pfSample).ev = (s.pfCheck parity).ev := ev
    generalize w.pfKeep s.pfSample = u at state period phase number periods recross part flag ev ⊢
    obtain ⟨kept, flag', snap, table, bins, fit, ev'⟩ := u.pfAdvance.pfWindow_keeps
    refine ⟨fun within fits => ?_, fun past first => ?_, fun past again => ?_, fun wrong => ?_⟩
    · obtain ⟨-, state', phase', periods', period'⟩ := State.pfAdvance_within state (by omega) (by omega)
        (by rw [period, number, part]; exact fits)
      exact ⟨kept.state.trans state', kept.phase.trans (phase'.trans (by rw [phase])), kept.periods.trans (periods'.trans periods),
        kept.period.trans (period'.trans period)⟩
    · obtain ⟨bins', ends, -⟩ := State.pfAdvance_over state (by omega) (by omega)
      obtain ⟨periods', snap', fits⟩ := ends (recross.trans first)
      rw [kept.state, kept.period, kept.n, kept.periods, snap, table, bins, fit, ← part, ← periods]
      exact ⟨periods', snap', bins', fits⟩
    · obtain ⟨bins', -, ends⟩ := State.pfAdvance_over state (by omega) (by omega)
      obtain ⟨periods', recross'⟩ := ends (recross.trans again)
      exact ⟨kept.periods.trans (periods'.trans periods), kept.recross.trans recross', bins.trans bins'⟩
    · obtain ⟨flag'', later⟩ := State.pfAdvance_flag state (by omega)
      obtain ⟨shown, newest⟩ := finds wrong
      refine ⟨flag'.trans (flag''.trans (flag.trans shown)), fun still => ?_⟩
      unfold Newest at newest ⊢
      rw [ev', later (kept.state.symm.trans still), ev, newest]
  case lost =>
    refine ⟨_, if_pos ⟨locked, by simpa using lost⟩, rfl, rfl, rfl, rfl, rfl, rfl, s.freeNat.1, ?_⟩
    exact State.record_newest (s.freeNat.2.setPf _) ..
  case notice =>
    refine ⟨s.takeNotice ⟨tag, tw, delta, dur⟩, rfl, fun future => State.takeNotice_future runs future, fun past no => ?_,
      fun past real locked plan young a anchor within => ?_⟩
    · obtain ⟨v, is, pf, -⟩ := State.takeNotice_past (w := ⟨tag, tw, delta, dur⟩) runs past
      rw [is, State.applyNotice_reject (by rwa [pf])]
      show ({ v.pf with rejected := _ } : Profile) = _
      rw [pf]
    · obtain ⟨v, is, pf, clk⟩ := State.takeNotice_past (w := ⟨tag, tw, delta, dur⟩) runs past
      have at_ : v.phaseAt tw = s.phaseAt tw := by
        unfold State.phaseAt
        rw [pf, clk]
      have period : v.pf.noticePeriod = s.pf.period := by
        rw [pf, Profile.noticePeriod, plan]
      obtain ⟨phase, applied, rejected⟩ := State.anchorJump_within (s := v) (w := ⟨tag, tw, delta, dur⟩) (a := a)
        (by rw [at_, pf]; exact within)
      rw [is, State.applyNotice_locked real (by rw [pf, locked]) (fun _ => by rw [period, clk]; exact young)]
      dsimp only
      rw [pf, anchor]
      dsimp only
      rw [phase, applied, rejected, pf, at_]
      exact ⟨rfl, rfl, rfl⟩
  case apply =>
    let v := s.setPf (fun p => { p with waiting := l })
    have leaves : exec .wickApply s = .next (v.applyNotice w) := by
      show execWickApply s = _
      rw [execWickApply, waiting]
      dsimp only
      rw [if_pos (show v.rc.profile = true from runs), show min w.at_ v.clk.ptp = w.at_ by rw [now]; exact Int.min_self _]
    have young : 0 < v.pf.noticePeriod → phaseOf (v.clk.ptp - w.at_) ≤ v.pf.noticePeriod := fun some_ => by
      rw [now, show v.clk.ptp - s.clk.ptp = 0 from Int.sub_self _, phaseOf_zero]
      omega
    have phase : v.phaseAt w.at_ = wrapT s.pf.phase s.pf.period := by
      unfold State.phaseAt
      rw [now, show v.clk.ptp - s.clk.ptp = 0 from Int.sub_self _, phaseOf_zero, Int.sub_zero]
      rfl
    refine ⟨_, leaves, ?_⟩
    rw [State.applyNotice_locked tag (show v.pf.state = .locked from locked) young, show look v.pf.anchors w.tag = none from fresh]
    exact ⟨rfl, rfl, by rw [← phase]; rfl⟩

end Sys2Proof.Machine
end

section
/-!
R99 to R103, R112: AUTOSTART, the pre-biased closing of a group, REGULATING and the limits of start and quench.
-/

namespace Sys2Proof.Machine

open Sys2Proof

theorem le_foldl_min {c a : Nat} {l : List Nat} (first : c ≤ a) (all : ∀ x ∈ l, c ≤ x) : c ≤ l.foldl min a := by
  induction l generalizing a with
  | nil => exact first
  | cons x l ih => exact ih (Nat.le_min_of_le_of_le first (all x (.head _))) fun y member => all y (.tail _ member)

theorem foldl_min_le {a : Nat} {l : List Nat} : l.foldl min a ≤ a ∧ ∀ x ∈ l, l.foldl min a ≤ x := by
  induction l generalizing a with
  | nil => exact ⟨Nat.le_refl a, fun x member => nomatch member⟩
  | cons x l ih =>
    obtain ⟨first, rest⟩ := ih (a := min a x)
    refine ⟨Nat.le_trans first (Nat.min_le_left a x), fun y member => ?_⟩
    rcases List.mem_cons.mp member with rfl | member
    · exact Nat.le_trans first (Nat.min_le_right a y)
    · exact rest y member

/-! ### AUTOSTART -/

/-- The groups that still have to be started by themselves. -/
def State.autoTodo (s : State) : List Nat := (List.range 16).filter (fun g =>
  (s.group g).gtype != 0 && (s.group g).autostart && !(s.group g).autoTried)

/-- The first START_ORDER among them. -/
def State.autoOrder (s : State) : Nat := (s.autoTodo.map (fun g => (s.group g).startOrder)).foldl min 15

/-- Every group before that order has ended its start. -/
def State.autoSettled (s : State) : Bool := (List.range 16).all (fun g => !((s.group g).toReg && decide ((s.group g).startOrder < s.autoOrder)))

/-- One group of AUTOSTART is tried once. -/
def State.autoTry (s : State) (g : Nat) : State :=
  let v := s.setGroup g (fun G => { G with autoTried := true })
  if (v.group g).state = .off ∧ (v.startRefusal g).isNone then v.startGroup g else v

theorem exec_autostart_waits {s : State}
    (waits : s.role ≠ .active ∨ s.rc.run = false ∨ s.sh.storeOk = false ∨ s.sh.calOk = false ∨ s.autoSettled = false) :
    exec .autostart s = .next s := by
  refine if_pos (show (!s.active || !s.rc.run || !s.sh.storeOk || !s.sh.calOk || !s.autoSettled) = true from ?_)
  rcases waits with is | is | is | is | is
  · simp [State.active, is]
  all_goals simp [is]

theorem exec_autostart_tries {s : State} (role : s.role = .active) (run : s.rc.run = true) (store : s.sh.storeOk = true)
    (cal : s.sh.calOk = true) (settled : s.autoSettled = true) : exec .autostart s =
      .next ((s.autoTodo.filter (fun g => (s.group g).startOrder == s.autoOrder)).foldl State.autoTry s) := by
  refine if_neg (show ¬ (!s.active || !s.rc.run || !s.sh.storeOk || !s.sh.calOk || !s.autoSettled) = true from ?_)
  simp [State.active, role, run, store, cal, settled]

theorem State.mem_autoTodo {s : State} {g : Nat} :
    g ∈ s.autoTodo ↔ g < 16 ∧ (s.group g).gtype ≠ 0 ∧ (s.group g).autostart = true ∧ (s.group g).autoTried = false := by
  simp [State.autoTodo, and_assoc]

/-- A list without repetitions all of whose members are one of them is that one alone. -/
theorem eq_singleton_of_forall {l : List Nat} {g : Nat} (once : l.Nodup) (member : g ∈ l) (all : ∀ k ∈ l, k = g) : l = [g] := by
  rw [List.eq_replicate_iff.mpr ⟨rfl, all⟩] at once ⊢
  rw [List.nodup_replicate] at once
  have some_ := List.length_pos_of_mem member
  rw [show l.length = 1 by omega]
  rfl

/-- A group that comes before every other one to be tried, and after none that is still starting, is tried alone (R99). -/
theorem exec_autostart_first {s : State} {g : Nat} (role : s.role = .active) (run : s.rc.run = true) (store : s.sh.storeOk = true)
    (cal : s.sh.calOk = true) (todo : g ∈ s.autoTodo) (order : (s.group g).startOrder ≤ 15)
    (before : ∀ k ∈ s.autoTodo, k ≠ g → (s.group g).startOrder < (s.group k).startOrder)
    (after : ∀ k, k < 16 → k ≠ g → (s.group k).toReg = true → (s.group g).startOrder ≤ (s.group k).startOrder) :
    exec .autostart s = .next (s.autoTry g) := by
  have least : s.autoOrder = (s.group g).startOrder := by
    refine Nat.le_antisymm (foldl_min_le.2 _ (List.mem_map.mpr ⟨g, todo, rfl⟩)) (le_foldl_min order fun x member => ?_)
    obtain ⟨k, todo', rfl⟩ := List.mem_map.mp member
    by_cases same : k = g
    · exact Nat.le_of_eq (by rw [same])
    · exact Nat.le_of_lt (before k todo' same)
  have settled : s.autoSettled = true := by
    refine List.all_eq_true.mpr fun k member => ?_
    rw [List.mem_range] at member
    by_cases same : k = g
    · simp [least, same]
    · cases starts : (s.group k).toReg
      · rfl
      · have := after k member same starts
        simp only [least, Bool.true_and, Bool.not_eq_true', decide_eq_false_iff_not]
        omega
  have alone : s.autoTodo.filter (fun g => (s.group g).startOrder == s.autoOrder) = [g] := by
    refine eq_singleton_of_forall ((List.nodup_range.filter _).filter _) (List.mem_filter.mpr ⟨todo, by simp [least]⟩) fun k member => ?_
    obtain ⟨member, is⟩ := List.mem_filter.mp member
    refine Classical.byContradiction fun other => ?_
    have later := before k member other
    rw [least, beq_iff_eq] at is
    omega
  rw [exec_autostart_tries role run store cal settled, alone]
  rfl

/-- A field that a change of one group keeps. -/
theorem State.group_setGroup_field {α : Type} (s : State) {φ : Group → α} {f : Group → Group} (kept : ∀ G, φ (f G) = φ G) (g k : Nat) :
    φ ((s.setGroup g f).group k) = φ (s.group k) := by
  rw [State.group_setGroup]
  split
  · exact kept _
  · rfl

/-- That a group has been tried is no reason to refuse its start. -/
theorem State.startRefusal_tried (s : State) (g : Nat) :
    (s.setGroup g (fun G => { G with autoTried := true })).startRefusal g = s.startRefusal g := by
  let tried : Group → Group := fun G => { G with autoTried := true }
  let v := s.setGroup g tried
  have volt (k : Nat) : (v.group k).voltSlot = (s.group k).voltSlot := s.group_setGroup_field (φ := Group.voltSlot) (f := tried) (fun _ => rfl) g k
  have curr : (v.group g).currSlot = (s.group g).currSlot := s.group_setGroup_field (φ := Group.currSlot) (f := tried) (fun _ => rfl) g g
  have type_ : (v.group g).gtype = (s.group g).gtype := s.group_setGroup_field (φ := Group.gtype) (f := tried) (fun _ => rfl) g g
  have input : (v.group g).pbIn = (s.group g).pbIn := s.group_setGroup_field (φ := Group.pbIn) (f := tried) (fun _ => rfl) g g
  have low : (v.group g).vinMin = (s.group g).vinMin := s.group_setGroup_field (φ := Group.vinMin) (f := tried) (fun _ => rfl) g g
  have high : (v.group g).vinMax = (s.group g).vinMax := s.group_setGroup_field (φ := Group.vinMax) (f := tried) (fun _ => rfl) g g
  have cells : v.cellSlotOk = s.cellSlotOk := by
    funext p
    show (v.ready _ && innerOk 1 _ p (v.group (s.port p).group).voltSlot _) = _
    rw [volt]
    rfl
  show v.startRefusal g = _
  unfold State.startRefusal State.requiredOk
  simp only [volt, curr, type_, input, low, high, cells]
  rfl

/-- A group that is OFF is tried: it starts, or stays OFF where its start is refused. -/
theorem State.autoTry_says {s : State} {g : Nat} (size : g < s.groups.length) (off : (s.group g).state = .off) :
    ((s.autoTry g).group g).autoTried = true ∧
    (s.startRefusal g = none → ((s.autoTry g).group g).state = .starting ∧ ((s.autoTry g).group g).startPend = true) ∧
    (∀ r, s.startRefusal g = some r → ((s.autoTry g).group g).state = .off) := by
  let v := s.setGroup g (fun G => { G with autoTried := true })
  have now : v.group g = { s.group g with autoTried := true } := nth_upd_same _ _ _ _ size
  have still : (v.group g).state = .off := by rw [now]; exact off
  have same : v.startRefusal g = s.startRefusal g := s.startRefusal_tried g
  cases refused : s.startRefusal g with
  | none =>
    have starts : s.autoTry g = v.startGroup g := if_pos ⟨still, by rw [same, refused]; rfl⟩
    have left : (s.autoTry g).group g = { v.group g with
        state := .starting, startPend := true, wakePend := false, toReg := true, autoTried := true, regRun := 0 } := by
      rw [starts]
      exact (congrArg (fun l => nth l g ({} : Group)) (v.startGroup_groups g)).trans
        (nth_upd_same _ _ _ _ (show g < (upd s.groups g _).length by rwa [upd_length]))
    rw [left]
    exact ⟨rfl, fun _ => ⟨rfl, rfl⟩, fun r wrong => nomatch wrong⟩
  | some r =>
    have stays : s.autoTry g = v := if_neg (by rw [same, refused]; simp)
    rw [stays, now]
    exact ⟨rfl, (fun wrong => nomatch wrong), fun _ _ => off⟩

/-! ### Pre-biased start -/

theorem State.handSlot_scheduled {s : State} {k : Nat} (scheduled : (s.entry k).isSome = true) (c : SlotChange) :
    s.handSlot k c = s.setSlot k (fun x => { x with pend := x.pend ++ [c] }) := if_pos scheduled

/-! ### Ends -/

/-- A field that a change of ports keeps. -/
theorem State.port_setPorts_field {α : Type} {φ : Port → α} {f : Port → Port} (kept : ∀ P, φ (f P) = φ P) (l : List Nat) (s : State) (k : Nat) :
    φ ((l.foldl (fun s p => s.setPort p f) s).port k) = φ (s.port k) := by
  induction l generalizing s with
  | nil => rfl
  | cons p l ih =>
    rw [List.foldl_cons, ih, State.port_setPort]
    split
    · exact kept _
    · rfl

/-- Where no port restores, none ends to restore. -/
theorem State.endRestores_none {s : State} (l : List Nat) (none_ : ∀ p ∈ l, (s.port p).restore = none) :
    l.foldl State.endRestore s = s := by
  induction l with
  | nil => rfl
  | cons p l ih =>
    have stays : s.endRestore p = s := if_neg (by rw [none_ p (.head _)]; decide)
    rw [List.foldl_cons, stays, ih fun q member => none_ q (.tail _ member)]

/-- A quench that meets no restore makes no record. -/
theorem State.quench_ev {s : State} {g : Nat} (cause : Nat) (none_ : ∀ p ∈ s.members g, (s.port p).restore = none) :
    (s.quench g cause).ev = s.ev := by
  unfold State.quench
  dsimp only
  split
  · rfl
  let a := s.setGroup g (fun G => G.quenched cause)
  let stop : Port → Port := fun P => { P with stopSeen := false }
  let b := (a.activeMembers g).foldl (fun s p => s.setPort p stop) a
  let c := (b.openGroup g).completeWhere (· == Wait.groupEnable g) stDenied 1
  have stops : Touch 0x20 a b := (Touch.refl _ _).foldl fun v p => v.setPort_touch p _
  have opens : Touch 0x810010 b c :=
    ((b.openGroup_touch g).mono rfl).step (State.completeWhere_touch _ (· == Wait.groupEnable g) stDenied 1) rfl
  have kept {α : Type} (φ : Port → α) (same : ∀ P, φ (stop P) = φ P) (p : Nat) : φ (c.port p) = φ (s.port p) := by
    rw [opens.port_eq rfl]
    exact State.port_setPorts_field same _ a p
  have ends : (c.members g).foldl State.endRestore c = c := State.endRestores_none _ fun p member => by
    rw [kept Port.restore fun _ => rfl]
    refine none_ p ?_
    rw [State.members, List.mem_filter, kept Port.isCell fun _ => rfl, kept Port.group fun _ => rfl, opens.part, stops.part] at member
    exact List.mem_filter.mpr member
  show ((c.members g).foldl State.endRestore c).burstExit.busCheck.ev = s.ev
  rw [ends]
  exact (comp_bit (State.busCheck_touch _).ev rfl).trans ((comp_bit c.burstExit_touch.ev rfl).trans
    ((comp_bit opens.ev rfl).trans (comp_bit stops.ev rfl)))

/-- Settles O24: AUTOSTART tries one group (`exec_autostart_first`), a start hands its two slots their closings, and a quench
that meets no restore makes no record of its own. -/
theorem startsAndQuenchesComplete : Obligations.StartsAndQuenchesComplete := by
  refine ⟨fun s g w low role run store cal typed auto fresh off others order => ?auto,
    fun s not => ⟨s, exec_autostart_waits (not.imp_right (·.imp_right (·.imp_right .inl))), rfl⟩, fun s k low starts order later => ?unsettled,
    fun s g none_ => ⟨s, if_neg (by simp [none_]), rfl⟩, fun s g v c w low pends typed vIs cIs differ vLow cLow vEnt cEnt => ?close,
    fun s g w low => ⟨fun starting closed count => ?regulates, fun not => ⟨s, if_neg ?_, rfl⟩, fun starts => ?tooLong,
      fun not not' => ⟨s, if_neg (by simp [not, not']), rfl⟩, fun quenches => ?off,
      fun not => ⟨s, if_neg not, rfl⟩⟩⟩
  case auto =>
    have leaves := exec_autostart_first role run store cal (State.mem_autoTodo.mpr ⟨low, typed, auto, fresh⟩) order
      (fun k member other => by
        obtain ⟨low', typed', auto', fresh'⟩ := State.mem_autoTodo.mp member
        exact (others k low' other).1 typed' auto' fresh')
      (fun k low' other => (others k low' other).2)
    exact ⟨_, leaves, State.autoTry_says (w.groups ▸ low) off⟩
  case unsettled =>
    refine ⟨s, exec_autostart_waits (.inr (.inr (.inr (.inr ?_)))), rfl⟩
    have least : (s.group k).startOrder < s.autoOrder := le_foldl_min (c := (s.group k).startOrder + 1) order fun x member => by
      obtain ⟨g, todo, rfl⟩ := List.mem_map.mp member
      obtain ⟨low', typed, auto, fresh⟩ := State.mem_autoTodo.mp todo
      exact later g low' typed auto fresh
    refine List.all_eq_false.mpr ⟨k, List.mem_range.mpr low, ?_⟩
    simp [starts, least]
  case close =>
    subst vIs cIs
    let y := (s.readSrc (s.slot (s.group g).currSlot).meas (s.slot (s.group g).currSlot).const).v
    let pre : Preload := if (s.group g).wakePend then .out else
      .value ((s.group g).pbValue (s.readSel (s.group g).pbOut).v (s.readSel (s.group g).pbIn).v)
    let v := s.setSlot (s.group g).voltSlot (fun x => { x with pend := x.pend ++ [.closeIt (.value y)] })
    let u := v.setSlot (s.group g).currSlot (fun x => { x with pend := x.pend ++ [.closeIt pre] })
    have closes : s.closeGroup g = u.setGroup g (fun G => { G with startPend := false, wakePend := false, regRun := 0 }) := by
      unfold State.closeGroup
      dsimp only
      rw [if_neg typed, if_neg typed, State.handSlot_scheduled vEnt, List.foldl_cons, List.foldl_nil,
        State.handSlot_scheduled (show (v.entry (s.group g).currSlot).isSome = true from cEnt)]
    have group : (s.closeGroup g).group g = { s.group g with startPend := false, wakePend := false, regRun := 0 } := by
      rw [closes]
      exact nth_upd_same _ _ _ _ (w.groups ▸ low)
    have outer : (s.closeGroup g).slot (s.group g).voltSlot = v.slot (s.group g).voltSlot := by
      rw [closes]
      exact nth_upd_other _ _ _ _ _ (Ne.symm differ)
    have inner : (s.closeGroup g).slot (s.group g).currSlot =
        { v.slot (s.group g).currSlot with pend := (v.slot (s.group g).currSlot).pend ++ [.closeIt pre] } := by
      rw [closes]
      exact nth_upd_same _ _ _ _ (show _ < (upd s.le.slots _ _).length by rw [upd_length, w.slots]; exact cLow)
    have outer' : v.slot (s.group g).voltSlot = _ := nth_upd_same _ _ _ _ (w.slots ▸ vLow)
    have inner' : v.slot (s.group g).currSlot = s.slot (s.group g).currSlot := nth_upd_other _ _ _ _ _ differ
    refine ⟨_, if_pos pends, ?_⟩
    dsimp only
    rw [group, outer, inner, outer', inner']
    exact ⟨rfl, rfl, rfl, rfl, rfl⟩
  case regulates =>
    let v := s.setGroup g (fun G => { G with state := .regulating, toReg := false })
    have is : v.group g = { s.group g with state := .regulating, toReg := false } := nth_upd_same _ _ _ _ (w.groups ▸ low)
    have last := v.completeWhere_touch (· == Wait.groupEnable g) stOk 0
    refine ⟨_, if_pos ⟨starting, by simp [closed], count⟩, ?_⟩
    dsimp only
    rw [show State.group _ g = v.group g from last.group_eq rfl g, is]
    exact ⟨rfl, rfl, fun f member waits => Answered.before (s.setGroup_touch g _) rfl
      (State.completeWhere_answers v (· == Wait.groupEnable g) stOk 0 f member (by simp [waits]))⟩
  case tooLong =>
    have on_ : (s.group g).state ≠ .off ∧ (s.group g).state ≠ .quenching := by
      rcases starts with is | ⟨-, on_⟩
      · rw [is]
        decide
      · exact on_
    let v := s.completeWhere (· == Wait.groupEnable g) stTimeout 0
    let u := v.record 0x0402 4 kGroup g []
    have answered := s.completeWhere_touch (· == Wait.groupEnable g) stTimeout 0
    have noted := v.record_touch 0x0402 4 kGroup g []
    have same : u.group g = s.group g := (noted.group_eq rfl g).trans (answered.group_eq rfl g)
    obtain ⟨state, cause⟩ := u.quench_same (g := g) 3
      (show g < u.groups.length by rw [comp_bit noted.groups rfl, comp_bit answered.groups rfl, w.groups]; exact low) (by rw [same]; exact on_.1)
    rw [same, if_neg on_.2] at cause
    refine ⟨_, if_pos (starts.imp id And.left), state, cause, fun f member waits => ?_, fun none_ => ?_⟩
    · exact Answered.later (Answered.later
        (State.completeWhere_answers s (· == Wait.groupEnable g) stTimeout 0 f member (by simp [waits])) noted) (u.quench_touch g 3)
    · have quiet : (u.quench g 3).ev = u.ev := State.quench_ev 3 fun p member => by
        have ports : u.ports = s.ports := (comp_bit noted.ports rfl).trans (comp_bit answered.ports rfl)
        have part : u.part = s.part := noted.part.trans answered.part
        have same (k : Nat) : u.port k = s.port k := congrArg (fun l => nth l k ({} : Port)) ports
        rw [State.members, List.mem_filter, part, same] at member
        rw [same]
        exact none_ p (List.mem_filter.mpr member)
      have newest : Newest s u 0x0402 4 kGroup g [] := Newest.before answered (State.record_newest v ..) (comp_bit answered.ev rfl) rfl rfl
      unfold Newest at newest ⊢
      rw [quiet, newest]
  case off =>
    let v := s.setGroup g (fun G => { G with state := .off, ovNs := 0, uvNs := 0 })
    have is : v.group g = { s.group g with state := .off, ovNs := 0, uvNs := 0 } := nth_upd_same _ _ _ _ (w.groups ▸ low)
    have answered := v.completeWhere_touch (· == Wait.groupQuench g) stOk 0
    have last := State.busCheck_touch (v.completeWhere (· == Wait.groupQuench g) stOk 0)
    refine ⟨_, if_pos quenches, ?_, fun f member waits => ?_⟩
    · show (State.group _ g).state = _
      rw [State.groupOff, last.group_eq rfl, answered.group_eq rfl, is]
    · exact Answered.later (Answered.before (s.setGroup_touch g _) rfl
        (State.completeWhere_answers v (· == Wait.groupQuench g) stOk 0 f member (by simp [waits]))) last
  case _ =>
    rintro ⟨starting, closed, count⟩
    rcases not with is | is | is
    · exact is starting
    · exact closed is
    · omega

end Sys2Proof.Machine
end

section
/-!
R61, R66, R83, R84, R368 to R372: the loop commands.
-/

namespace Sys2Proof.Machine

open Sys2Proof

/-! ### A change handed to a slot -/

theorem State.handSlot_unscheduled {s : State} {k : Nat} (not : (s.entry k).isSome = false) (c : SlotChange) :
    s.handSlot k c = s.setSlot k (fun x => x.apply c) := if_neg (by simp [not])

theorem Slot.apply_openIt_closed (x : Slot) : (x.apply .openIt).closed = false := by
  show (if x.closed then ({ x with closed := false, init := none, openNs := 0, openDone := false } : Slot) else x).closed = false
  cases closed : x.closed
  · exact closed
  · rfl

theorem State.handSlot_entry (s : State) (k : Nat) (c : SlotChange) (j : Nat) : (s.handSlot k c).entry j = s.entry j := by
  unfold State.handSlot
  split
  all_goals rfl

theorem State.handSlot_slots_length (s : State) (k : Nat) (c : SlotChange) : (s.handSlot k c).le.slots.length = s.le.slots.length := by
  unfold State.handSlot
  split
  all_goals exact upd_length ..

/-- A scheduled slot keeps a change for its next evaluation; another one takes it at once (R61, R66). -/
theorem State.handSlot_slot {s : State} {k : Nat} (size : k < s.le.slots.length) (c : SlotChange) : (s.handSlot k c).slot k =
    if (s.entry k).isSome then { s.slot k with pend := (s.slot k).pend ++ [c] } else (s.slot k).apply c := by
  split
  case isTrue scheduled =>
    rw [State.handSlot_scheduled scheduled]
    exact nth_upd_same _ _ _ _ size
  case isFalse not =>
    rw [State.handSlot_unscheduled (by simpa using not)]
    exact nth_upd_same _ _ _ _ size

theorem State.handSlot_other (s : State) {k j : Nat} (c : SlotChange) (other : k ≠ j) : (s.handSlot k c).slot j = s.slot j := by
  unfold State.handSlot
  split
  all_goals exact nth_upd_other _ _ _ _ _ other

/-- Blocks of different slots reach each its own slot. -/
theorem State.handBlocks_slot {s : State} {l : List Bytes} (once : (blockSlots l).Nodup)
    (inside : ∀ b ∈ l, u b 0 1 < s.le.slots.length) : ∀ b ∈ l, (s.handBlocks l).slot (u b 0 1) =
      if (s.entry (u b 0 1)).isSome then { s.slot (u b 0 1) with pend := (s.slot (u b 0 1)).pend ++ [blockLoad b] }
      else (s.slot (u b 0 1)).apply (blockLoad b) := by
  induction l generalizing s with
  | nil => exact fun b member => nomatch member
  | cons d l ih =>
    obtain ⟨fresh, once⟩ := List.nodup_cons.mp once
    have step : s.handBlocks (d :: l) = (s.handSlot (u d 0 1) (blockLoad d)).handBlocks l := rfl
    intro b member
    rw [step]
    rcases List.mem_cons.mp member with rfl | member
    · have kept := (s.handSlot (u b 0 1) (blockLoad b)).handBlocks_slots l
      have same : ((s.handSlot (u b 0 1) (blockLoad b)).handBlocks l).slot (u b 0 1) = (s.handSlot (u b 0 1) (blockLoad b)).slot (u b 0 1) :=
        kept.other _ fresh
      rw [same]
      exact State.handSlot_slot (inside b (.head _)) _
    · have other : u d 0 1 ≠ u b 0 1 := fun same => fresh (List.mem_map.mpr ⟨b, member, same.symm⟩)
      rw [ih once (fun b member => by rw [State.handSlot_slots_length]; exact inside b (.tail _ member)) b member,
        State.handSlot_entry, State.handSlot_other _ _ other]

/-- A block without a fault names a slot of the part. -/
theorem Part.blockFault_none {part : Part} {b : Bytes} (good : part.blockFault b = none) : u b 0 1 < part.slots := by
  unfold Part.blockFault at good
  rw [Option.map_eq_none_iff, List.find?_eq_none] at good
  simpa using good (0x000, decide (u b 0 1 < part.slots)) (by simp)

/-- Blocks without a fault name different slots of the part (R370). -/
theorem Part.blocksFault_none {part : Part} {l : List Bytes} (good : part.blocksFault l = none) :
    (blockSlots l).Nodup ∧ ∀ b ∈ l, u b 0 1 < part.slots := by
  have each (j : Nat) (low : j < l.length) : part.blockFault l[j] = none ∧ (l.take j).any (fun y => u y 0 1 == u l[j] 0 1) = false := by
    have is := List.findSome?_eq_none_iff.mp good (l[j], j) (List.mk_mem_zipIdx_iff_getElem?.mpr (List.getElem?_eq_getElem low))
    cases fault : part.blockFault l[j] with
    | some o => simp [fault] at is
    | none => simpa [fault] using is
  refine ⟨?_, fun b member => ?_⟩
  · refine List.pairwise_iff_getElem.mpr fun i j low high before same => ?_
    rw [blockSlots, List.length_map] at low high
    have none_ := List.any_eq_false.mp (each j high).2 l[i] (List.mem_take_iff_getElem.mpr ⟨i, by omega, rfl⟩)
    simp [blockSlots] at same
    exact none_ (by simp [same])
  · obtain ⟨j, low, rfl⟩ := List.getElem_of_mem member
    exact Part.blockFault_none (each j low).1

/-! ### A table -/

/-- A table accepted waits for its switch (R84). -/
theorem State.acceptTable_pend (s : State) (t : List SchedEnt) : (s.acceptTable t).le.pendTable = some (s.schedCtx.build t) := by
  let v : State := { s with le := { s.le with pendTable := some (s.schedCtx.build t) } }
  have records : Touch 0x814000 v (s.acceptTable t) :=
    (Touch.refl _ v).foldl fun w p => Touch.cond (w.record_touch ..) (.refl _ w)
  rw [comp_bit records.le rfl]

/-- The checks of LOOP_SCHEDULE before the table's own. -/
def State.scheduleCmd (s : State) (buf : Buf) (count : Nat) : Cmd :=
  { op := 0x0305,
    chk := need (count != 0) stBadLength 0x14 <|> need (buf.len = 8 * count) stBadLength 0x10
      <|> param (count ≤ 256 * s.part.pipes) 0x14 <|> param (bufOk buf (8 * count)) 0x08,
    chk6 := need s.le.pendTable.isNone stBusy 0 }

/-- A command that passes its checks in RUN is not refused. -/
theorem State.refusal_none {s : State} {h : CmdHdr} (a : AcceptedRun s h) {k : Cmd} (role : k.activeOnly = false) (zero : k.zero = false)
    (entry : k.chk = none) (object : k.chk6 = none) : s.refusal k = none := by
  have free : s.rc.blocks k.op = false := by
    unfold ResetCtl.blocks
    rw [a.block, Bool.false_and]
  unfold State.refusal
  simp [zero, entry, object, role, a.run, free]

section
variable {s : State} {h : CmdHdr} {buf : Buf} {n : Nat} (a : AcceptedRun s h) (some_ : n ≠ 0) (len : buf.len = 8 * n)
  (most : n ≤ 256 * s.part.pipes) (good : bufOk buf (8 * n) = true) (free : s.le.pendTable = none)
include a some_ len most good free

theorem State.scheduleCmd_passes : (s.scheduleCmd buf n).chk = none ∧ (s.scheduleCmd buf n).chk6 = none ∧
    s.refusal (s.scheduleCmd buf n) = none := by
  have entry : (s.scheduleCmd buf n).chk = none := by simp [State.scheduleCmd, need, param, some_, len, most, good]
  have object : (s.scheduleCmd buf n).chk6 = none := by simp [State.scheduleCmd, need, free]
  exact ⟨entry, object, State.refusal_none a rfl rfl entry object⟩

theorem exec_loopSchedule_accepts (accepts : s.schedCtx.check true (entriesOf (s.bufRead buf 0 (8 * n)) n) = none) :
    Completes (.loopSchedule h buf n) s (fun t =>
      t = (s.acceptTable (entriesOf (s.bufRead buf 0 (8 * n)) n)).await h 0x0305 .schedule) := by
  obtain ⟨entry, object, passes⟩ := State.scheduleCmd_passes a some_ len most good free
  refine a.completes (k := s.scheduleCmd buf n)
    (act := fun v => (v.acceptTable (entriesOf (s.bufRead buf 0 (8 * n)) n)).await h 0x0305 .schedule) ?_ rfl rfl entry object rfl
  show execLoopSchedule h buf n s = _
  rw [execLoopSchedule, accepts]
  unfold State.scheduleCmd at passes
  rw [passes]
  rfl

theorem exec_loopSchedule_refuses {r : SchedRefusal} (refuses : s.schedCtx.check true (entriesOf (s.bufRead buf 0 (8 * n)) n) = some r) :
    exec (.loopSchedule h buf n) s = .next ((s.noteRefusal r).complete h (schedRefuse r).1 (schedRefuse r).2) := by
  obtain ⟨entry, object, passes⟩ := State.scheduleCmd_passes a some_ len most good free
  show execLoopSchedule h buf n s = _
  rw [execLoopSchedule, refuses]
  unfold State.scheduleCmd at passes
  rw [passes]
  dsimp only
  rw [a.real]
  rfl

end

/-- Settles O2: a change goes to its slot (`State.handSlot_slot`, `State.handBlocks_slot`); a table waits or is refused. -/
theorem loopCommandsComplete : Obligations.LoopCommandsComplete := by
  refine ⟨fun h k s a w low loaded => ⟨fun idle closing sched => ?opens, fun idle closing unsched => ?opened, fun idle closed => ?open_⟩,
    fun h k mode v s a w low modes value loaded sched held idle => ⟨fun opening => ?closes, fun closing => ?closed⟩,
    fun h buf n s a w some_ len most good fault opened => ?load, fun h buf i n s a some_ most good => ?read,
    fun h buf n s a some_ len most good free => ⟨fun accepts => ?accepts, fun r refuses => ?refuses⟩⟩
  case opens =>
    have size : k < s.le.slots.length := by rw [w.slots]; exact Nat.lt_of_lt_of_le low s.part.slots_le
    refine a.completes rfl rfl rfl (by simp [param, need, low]) (by simp [need, idle]) ?_
    rw [if_neg (by simp [loaded, closing]), if_neg (by simpa using Option.ne_none_iff_isSome.mpr sched)]
    have same : ((s.handSlot k .openIt).await h 0x0301 (.loopOpen k)).slot k = _ := (State.handSlot_slot size .openIt).trans (if_pos sched)
    rw [same]
    exact ⟨rfl, Waits.await ..⟩
  case opened =>
    have size : k < s.le.slots.length := by rw [w.slots]; exact Nat.lt_of_lt_of_le low s.part.slots_le
    refine a.completes rfl rfl rfl (by simp [param, need, low]) (by simp [need, idle]) ?_
    rw [if_neg (by simp [loaded, closing]), if_pos (by simpa using unsched)]
    have same : ((s.handSlot k .openIt).done h stOk 0).slot k = _ := (State.handSlot_slot size .openIt).trans (if_neg (by simp [unsched]))
    rw [same]
    exact ⟨Slot.apply_openIt_closed _, State.done_answers (s.handSlot_touch k .openIt) rfl h stOk 0⟩
  case open_ =>
    refine a.completes rfl rfl rfl (by simp [param, need, low]) (by simp [need, idle]) ?_
    rw [if_pos (by simp [closed])]
    exact ⟨rfl, State.complete_answers ..⟩
  case closes =>
    have size : k < s.le.slots.length := by rw [w.slots]; exact Nat.lt_of_lt_of_le low s.part.slots_le
    refine a.completes rfl rfl rfl (by simp [param, need, low, modes, value]) (by
      by_cases holds : mode = 2
      · simp [need, param, idle, loaded, sched, held holds]
      · simp [need, param, idle, loaded, sched, holds]) ?_
    rw [if_neg (by simp [opening])]
    have same : ((s.handSlot k (.closeIt (preloadOf mode v))).await h 0x0302 (.loopClose k)).slot k = _ :=
      (State.handSlot_slot size _).trans (if_pos sched)
    rw [same]
    exact ⟨rfl, Waits.await ..⟩
  case closed =>
    refine a.completes rfl rfl rfl (by simp [param, need, low, modes, value]) (by
      by_cases holds : mode = 2
      · simp [need, param, idle, loaded, sched, held holds]
      · simp [need, param, idle, loaded, sched, holds]) ?_
    rw [if_pos closing]
    exact ⟨rfl, State.complete_answers ..⟩
  case load =>
    obtain ⟨once, inside⟩ := Part.blocksFault_none fault
    have size : ∀ b ∈ blocksOf (s.bufRead buf 0 (576 * n)) n, u b 0 1 < s.le.slots.length := fun b member => by
      rw [w.slots]
      exact Nat.lt_of_lt_of_le (inside b member) s.part.slots_le
    have hands := State.handBlocks_slot once size
    have object : (blockSlots (blocksOf (s.bufRead buf 0 (576 * n)) n)).find? (fun k => (s.slot k).closing) = none := by
      refine List.find?_eq_none.mpr fun k member => ?_
      obtain ⟨b, block, rfl⟩ := List.mem_map.mp member
      simpa using opened b block
    refine a.completes rfl rfl rfl ?entry ?object ?leaves
    case entry =>
      simp [need, param, len, good, most, some_]
      rw [fault]
    case object =>
      rw [object]
    case leaves =>
      let l := blocksOf (s.bufRead buf 0 (576 * n)) n
      let wait := (blockSlots l).filter (fun k => (s.entry k).isSome)
      let v := s.handBlocks l
      have hands' (t : State) (le : t.le = v.le) : ∀ b ∈ l, if (s.entry (u b 0 1)).isSome
          then (t.slot (u b 0 1)).pend = (s.slot (u b 0 1)).pend ++ [blockLoad b]
          else t.slot (u b 0 1) = (s.slot (u b 0 1)).apply (blockLoad b) := fun b member => by
        rw [State.slot, le]
        have is := hands b member
        rw [State.slot] at is
        rw [is]
        split
        · rfl
        · rfl
      show _ ∧ if wait = [] then _ else _
      by_cases idle : wait = []
      · rw [if_pos idle, if_pos (show wait.isEmpty = true by simp [idle])]
        exact ⟨hands' _ rfl, State.done_answers (s.handBlocks_touch l) rfl h stOk n⟩
      · rw [if_neg idle, if_neg (show ¬ wait.isEmpty = true by simp [idle])]
        exact ⟨hands' _ rfl, Waits.await ..⟩
  case read => exact a.completes rfl rfl rfl (by simpa using some_) (by simp [param, need, good, most]; omega) rfl (State.bufWrite_done_answers ..)
  case accepts =>
    obtain ⟨t, runs, rfl⟩ := exec_loopSchedule_accepts a some_ len most good free accepts
    exact ⟨_, runs, s.acceptTable_pend _, Waits.await ..⟩
  case refuses =>
    exact ⟨_, exec_loopSchedule_refuses a some_ len most good free refuses, rfl, Answered.since (State.complete_answers ..) rfl ⟨[], rfl⟩⟩

end Sys2Proof.Machine
end

section
/-!
R58 to R60, R65, R71, R75 to R77, R80, R88: the evaluation of a slot, and the trips of its supervision.
-/

namespace Sys2Proof.Machine

open Sys2Proof

/-! ### What an evaluation leaves of the slot's settings -/

theorem Slot.follow_w (x : Slot) (e : Int) : (x.follow e).w = x.w := by
  unfold Slot.follow
  split
  all_goals rfl

theorem Slot.evalClosed_w (x : Slot) (i : EvalIn) (held : Int) : (x.evalClosed i held).w = x.w := by
  show (Slot.follow (x.record i _ _ _) _).w = x.w
  rw [Slot.follow_w]
  rfl

/-- An evaluation, also a discarded one, leaves the slot's destination. -/
theorem Slot.evaluated_w (x : Slot) (parity : Bool) (i : EvalIn) (held : Int) :
    (if parity then x.discard else if x.closed then x.evalClosed i held else x.evalOpen i).w = x.w := by
  split
  · rfl
  · split
    · exact x.evalClosed_w i held
    · rfl

/-! ### Commands to the ports -/

/-- A change that is made to each of some ports, and done twice is done once. -/
theorem State.port_setPorts {f : Port → Port} (once : ∀ P, f (f P) = f P) (l : List Nat) (s : State) (k : Nat) :
    (k ∉ l → (l.foldl (fun s p => s.setPort p f) s).port k = s.port k) ∧
    (k ∈ l → k < s.ports.length → (l.foldl (fun s p => s.setPort p f) s).port k = f (s.port k)) := by
  induction l generalizing s with
  | nil => exact ⟨fun _ => rfl, fun member => nomatch member⟩
  | cons p l ih =>
    obtain ⟨outside, inside⟩ := ih (s.setPort p f)
    refine ⟨fun no => ?_, fun member size => ?_⟩
    · rw [List.foldl_cons, outside fun member => no (.tail _ member), State.port_setPort, if_neg fun is => no (by simp [is.1])]
    · rw [List.foldl_cons]
      by_cases again : k ∈ l
      · rw [inside again (by show k < (upd s.ports p f).length; rwa [upd_length]), State.port_setPort]
        split
        · exact once _
        · rfl
      · have first : p = k := (List.mem_cons.mp member).elim Eq.symm fun is => absurd is again
        rw [outside again, State.port_setPort, if_pos ⟨first, size⟩]

theorem State.sendOut_port (s : State) (x : Slot) (k : Nat) :
    (k ∉ s.destPorts x → (s.sendOut x).port k = s.port k) ∧
    (k ∈ s.destPorts x → k < s.ports.length → (s.sendOut x).port k = { s.port k with cmd := (s.port k).cmd.set x.destField x.out }) :=
  State.port_setPorts (f := fun q => { q with cmd := q.cmd.set x.destField x.out })
    (fun P => by simp) (s.destPorts x) s k

theorem State.destPorts_congr {s t : State} {x y : Slot} (part : t.part = s.part) (ports : t.ports = s.ports) (w : y.w = x.w) :
    t.destPorts y = s.destPorts x := by
  have members (g : Nat) : t.members g = s.members g := by
    unfold State.members State.port
    rw [part, ports]
  have dest : y.dest = x.dest := congrArg (fun w => (nth w (0x010 / 4) 0).toNat) w
  unfold State.destPorts Slot.destType Slot.destIndex
  rw [dest, members]

/-! ### The evaluation in its parts -/

/-- The slot after an evaluation. -/
def State.evaluated (v : State) (k : Nat) (parity : Bool) : Slot :=
  if parity then (v.slot k).discard
  else if (v.slot k).closed then (v.slot k).evalClosed (v.evalIn k) ((v.heldOf (v.slot k)).getD (v.slot k).out)
  else (v.slot k).evalOpen (v.evalIn k)

/-- The slot kept, and the records of the evaluation. -/
def State.evalKept (v : State) (k : Nat) (parity : Bool) : State :=
  let s := v.setSlot k (fun _ => { v.evaluated k parity with prevOut := (v.slot k).out, evalAt := some (v.evalCycle k) })
  let s := if parity then s.record 0x0301 1 kSlot k [] else s
  if !parity && v.heldMismatch (v.slot k) then s.record 0x0304 0 kSlot k (leBytesI 4 ((v.heldOf (v.slot k)).getD (v.slot k).out)) else s

/-- What follows once the output has been sent. -/
def State.evalEnd (s : State) (k : Nat) (parity cleared : Bool) : State :=
  let s := if cleared then s.clearFollow k else s
  let s := if parity then s else s.watchStart k
  (if (s.slot k).pend.isEmpty then s.slotAnswered k else s).busCheck

theorem State.evalKept_touch (v : State) (k : Nat) (parity : Bool) : Touch 0x814010 v (v.evalKept k parity) := by
  unfold State.evalKept
  dsimp only
  have kept := v.setSlot_touch k (fun _ => { v.evaluated k parity with prevOut := (v.slot k).out, evalAt := some (v.evalCycle k) })
  refine .cond (.step ?_ (State.record_touch ..) rfl) ?_
  all_goals exact .cond ((kept.mono rfl).step (State.record_touch ..) rfl) (kept.mono rfl)

theorem State.evalKept_le (v : State) (k : Nat) (parity : Bool) : (v.evalKept k parity).le =
    (v.setSlot k (fun _ => { v.evaluated k parity with prevOut := (v.slot k).out, evalAt := some (v.evalCycle k) })).le := by
  unfold State.evalKept
  dsimp only
  split
  · split
    all_goals rfl
  · split
    all_goals rfl

theorem State.evalEnd_touch (s : State) (k : Nat) (parity cleared : Bool) : Touch 0x8100c0 s (s.evalEnd k parity cleared) := by
  unfold State.evalEnd
  dsimp only
  have a : Touch 0x8100c0 s (if cleared then s.clearFollow k else s) := .cond ((s.clearFollow_touch k).mono rfl) (.refl _ s)
  generalize (if cleared then s.clearFollow k else s) = u at a ⊢
  have b : Touch 0x8100c0 s (if parity then u else u.watchStart k) := .cond a (a.step (u.watchStart_touch k) rfl)
  generalize (if parity then u else u.watchStart k) = w at b ⊢
  exact (Touch.cond (b.step (w.slotAnswered_touch k) rfl) b).step (State.busCheck_touch _) rfl

theorem exec_slotEvaluation {s : State} {k : Nat} {parity : Bool} {e : SchedEnt} (entry : s.entry k = some e)
    (fires : s.le.frame % e.k = e.phase) (works : (nth s.le.pipes e.pipe {}).failed = false) :
    exec (.slotEvaluation k parity) s = .next ((((s.takeChanges k).evalKept k parity).sendOut ((s.takeChanges k).evaluated k parity)).evalEnd k parity
      (((s.takeChanges k).slot k).feLatched && !((s.takeChanges k).evaluated k parity).feLatched)) := by
  show execSlotEvaluation k parity s = _
  rw [execSlotEvaluation, entry]
  dsimp only
  rw [if_neg (by simp [fires]), if_neg (by simp [works])]
  rfl

theorem State.active_setSlot (s : State) (k : Nat) (f : Slot → Slot) : (s.setSlot k f).active = s.active := rfl

/-- What a supervision acts on hangs on the words of the slots alone. -/
theorem State.slotSubjects_setSlot (s : State) (k j : Nat) {f : Slot → Slot} (kept : ∀ x, (f x).w = x.w) :
    (s.setSlot k f).slotSubjects j = s.slotSubjects j := by
  have words (i : Nat) : ((s.setSlot k f).slot i).w = (s.slot i).w := by
    rw [State.slot_setSlot]
    split
    · exact kept _
    · rfl
  have sets (i : Nat) : ((s.setSlot k f).slot i).setp = (s.slot i).setp := congrArg (fun w => (nth w (0x008 / 4) 0).toNat) (words i)
  have dest (i : Nat) : ((s.setSlot k f).slot i).dest = (s.slot i).dest := congrArg (fun w => (nth w (0x010 / 4) 0).toNat) (words i)
  unfold State.slotSubjects Slot.destType Slot.destIndex
  simp only [sets, dest]
  rfl

theorem State.slotSubjects_record (s : State) (code sev kind subject : Nat) (p : Bytes) (k : Nat) :
    (s.record code sev kind subject p).slotSubjects k = s.slotSubjects k := rfl

theorem State.takeChanges_says (s : State) (k : Nat) : OnlySlots s (s.takeChanges k) ∧
    (s.takeChanges k).le.slots.length = s.le.slots.length := by
  unfold State.takeChanges
  dsimp only
  split
  · exact ⟨(s.setSlot_onlySlots k _).trans rfl, (List.length_map _).trans (upd_length ..)⟩
  · exact ⟨s.setSlot_onlySlots k _, upd_length ..⟩

/-- Settles O3: an evaluation in its parts (`exec_slotEvaluation`), each of which leaves the slot or the commands alone; the trips
and the read are their definitions. -/
theorem evaluationsComplete : Obligations.EvaluationsComplete := by
  refine ⟨fun k parity s quiet => ?quiet, fun k e parity s w low entry fires => ⟨fun fails => ?fails, fun works => ?works⟩,
    fun k s w low due => ⟨fun role => ?feWaits, fun role => ?feTrips⟩,
    fun k s w low loaded open_ limit fresh => ⟨fun role => ?openWaits, fun role => ?openTrips⟩, fun k s w low => ?read⟩
  case quiet =>
    refine ⟨s, ?_, rfl⟩
    show execSlotEvaluation k parity s = _
    rw [execSlotEvaluation]
    cases entry : s.entry k with
    | none => rfl
    | some e => exact if_pos (quiet e entry)
  case fails =>
    refine ⟨_, ?_, rfl⟩
    show execSlotEvaluation k parity s = _
    rw [execSlotEvaluation, entry]
    dsimp only
    rw [if_neg (by simp [fires]), if_pos fails]
  case works =>
    let v := s.takeChanges k
    let y := v.evaluated k parity
    let u := v.evalKept k parity
    have taken := s.takeChanges_touch k
    obtain ⟨only, length'⟩ := s.takeChanges_says k
    have kept := v.evalKept_touch k parity
    have sent := u.sendOut_touch y
    have ends := (u.sendOut y).evalEnd_touch k parity ((v.slot k).feLatched && !y.feLatched)
    have ports : u.ports = s.ports := (comp_bit kept.ports rfl).trans (comp_bit taken.ports rfl)
    have length : u.ports.length = 80 := by rw [ports, w.ports]
    have port (p : Nat) : u.port p = s.port p := congrArg (fun l => nth l p ({} : Port)) ports
    have dest : u.destPorts y = v.destPorts (v.slot k) :=
      State.destPorts_congr kept.part (comp_bit kept.ports rfl) (Slot.evaluated_w (v.slot k) parity _ _)
    have field : y.destField = (v.slot k).destField :=
      congrArg (fun w : List Reg => bits (nth w (0x010 / 4) 0).toNat 14 12) (Slot.evaluated_w (v.slot k) parity _ _)
    refine ⟨_, exec_slotEvaluation entry fires works, ?_, fun p member size inside => ?_, fun p no => ?_⟩
    · have cycle : v.evalCycle k = 400 * s.le.frame + e.start := by
        have same : v.entry k = some e := by
          unfold State.entry
          rw [only]
          exact entry
        unfold State.evalCycle
        rw [same, only.frame]
      have size : k < v.le.slots.length := by rw [length', w.slots]; exact low
      show State.slot _ k = _
      rw [ends.slot_eq rfl, sent.slot_eq rfl, ← cycle]
      exact (congrArg (fun l : LoopEngine => nth l.slots k ({} : Slot)) (v.evalKept_le k parity)).trans (nth_upd_same _ _ _ _ size)
    · rw [ends.port_eq rfl, (u.sendOut_port y p).2 (by rw [dest]; exact member) (by omega), port, field]
      show nth ((s.port p).cmd.set _ _) _ 0 = _
      rw [nth, List.getD_eq_getElem?_getD, List.getElem?_set_self inside]
      rfl
    · rw [ends.port_eq rfl, (u.sendOut_port y p).1 (by rw [dest]; exact no), port]
  case feWaits =>
    have off : s.active = false := by simp [State.active, role]
    refine ⟨_, ?_, rfl⟩
    show execFeTrip k s = _
    rw [execFeTrip, if_neg (by simp [due])]
    dsimp only
    rw [State.active_setSlot, off]
    rfl
  case feTrips =>
    have on_ : s.active = true := by simp [State.active, role]
    refine ⟨_, ?_, rfl⟩
    show execFeTrip k s = _
    rw [execFeTrip, if_neg (by simp [due])]
    dsimp only
    rw [State.active_setSlot, on_, State.slotSubjects_record, State.slotSubjects_setSlot]
    · rfl
    · exact fun _ => rfl
  case openWaits =>
    have off : s.active = false := by simp [State.active, role]
    refine ⟨s.setSlot k (fun y => { y with openTrip := true, openDone := false, openNs := max y.openNs ((y.openMax + 1) * 1000) }), ?_, ?_⟩
    · show execOpenTrip k s = _
      rw [execOpenTrip, if_neg (by simp [loaded, open_, limit, fresh, low])]
      dsimp only
      rw [State.active_setSlot, off]
      rfl
    · have is : (s.setSlot k (fun y => { y with openTrip := true, openDone := false, openNs := max y.openNs ((y.openMax + 1) * 1000) })).slot k = _ :=
        nth_upd_same _ _ _ _ (by rw [w.slots]; exact Nat.lt_of_lt_of_le low s.part.slots_le)
      dsimp only
      rw [is]
      exact ⟨rfl, rfl, Nat.le_max_right .., rfl, rfl⟩
  case openTrips =>
    have on_ : s.active = true := by simp [State.active, role]
    refine ⟨_, ?_, rfl⟩
    show execOpenTrip k s = _
    rw [execOpenTrip, if_neg (by simp [loaded, open_, limit, fresh, low])]
    dsimp only
    rw [State.active_setSlot, on_, State.slotSubjects_record, State.slotSubjects_setSlot]
    · rfl
    · exact fun _ => rfl
  case read =>
    have is : (s.setSlot k (fun x => { x with taperShadow := ofSigned 32 (x.taperPos / 2 ^ 16) })).slot k = _ :=
      nth_upd_same _ _ _ _ (by rw [w.slots]; exact Nat.lt_of_lt_of_le low s.part.slots_le)
    refine ⟨_, if_neg (by omega), ?_⟩
    refine ⟨congrArg Slot.taperShadow is, ?_⟩
    have position := congrArg Slot.taperPos is
    show Output.regRead _ ((State.slot _ k).taperPos % 2 ^ 16).toNat :: s.out = _
    rw [position]
    rfl

end Sys2Proof.Machine
end

section
/-!
R84 to R89, R384: ASSAY, its vectors, and the switches of the schedule.
-/

namespace Sys2Proof.Machine

open Sys2Proof

/-! ### What a switch leaves of the Loop Engine -/

/-- The Loop Engine is the same but for its slots and the table in force. -/
def OnlyPlaced (s t : State) : Prop := t.le = { s.le with slots := t.le.slots, table := t.le.table }

theorem OnlyPlaced.of_slots {s t : State} (only : OnlySlots s t) : OnlyPlaced s t := by
  unfold OnlyPlaced
  rw [only]

theorem OnlyPlaced.trans {s t v : State} (first : OnlyPlaced s t) (second : OnlyPlaced t v) : OnlyPlaced s v := by
  unfold OnlyPlaced at *
  rw [second, first]

theorem OnlyPlaced.keeps {s t : State} (only : OnlyPlaced s t) :
    t.le.pendTable = s.le.pendTable ∧ t.le.gen = s.le.gen ∧ t.le.fallen = s.le.fallen ∧ t.le.pendFall = s.le.pendFall := by
  rw [only]
  exact ⟨rfl, rfl, rfl, rfl⟩

theorem State.takeChanges_onlySlots (s : State) (k : Nat) : OnlySlots s (s.takeChanges k) := (s.takeChanges_says k).1

theorem State.slotAnswered_onlySlots (s : State) (k : Nat) : OnlySlots s (s.slotAnswered k) := .of_touch (s.slotAnswered_touch k) rfl

theorem State.flushUnscheduled_onlySlots (s : State) : OnlySlots s s.flushUnscheduled :=
  .foldl (fun v k => .cond (((v.setSlot_onlySlots k _).trans (State.takeChanges_onlySlots _ k)).trans (State.slotAnswered_onlySlots _ k)) (.refl v)) _ s

theorem State.quench_onlySlots (s : State) (g cause : Nat) : OnlySlots s (s.quench g cause) := by
  unfold State.quench
  dsimp only
  refine .cond (.refl s) ?_
  have stops (v : State) (l : List Nat) : OnlySlots v (l.foldl (fun s p => s.setPort p (fun P => { P with stopSeen := false })) v) :=
    .foldl (fun v p => .of_touch (v.setPort_touch p _) rfl) l v
  have ends (v : State) (l : List Nat) : OnlySlots v (l.foldl State.endRestore v) := .foldl (fun v p => .of_touch (v.endRestore_touch p) rfl) l v
  refine .trans ?_ (.of_touch (State.busCheck_touch _) rfl)
  refine .trans ?_ (State.burstExit_onlySlots _)
  refine .trans ?_ (ends _ _)
  refine .trans ?_ (State.completeWhere_onlySlots _ _ _ _)
  refine .trans ?_ (State.openGroup_onlySlots _ g)
  exact .trans (.of_touch (s.setGroup_touch g _) rfl) (stops _ _)

/-- A quench of an unplaced group through the ladder. -/
theorem State.ladderQuench_onlySlots (s : State) (g cause code : Nat) : OnlySlots s (s.ladder (.group g) 4 cause code) := by
  unfold State.ladder
  dsimp only
  refine .cond (.cond (.of_touch (s.stand_touch _ code 4) rfl) (.refl s)) (.cond (.of_touch (State.ladderRecord_touch ..) rfl) ?_)
  have noted := OnlySlots.of_touch (s.ladderRecord_touch (s.mend (.group g) 4).1 (s.mend (.group g) 4).2 cause code) rfl
  refine .cond noted (noted.trans (.trans (.of_touch (State.stand_touch _ (.group g) code 4) rfl) ?_))
  exact State.quench_onlySlots _ g 2

theorem State.quenchUnplaced_onlySlots (s : State) (l : List Nat) : OnlySlots s (s.quenchUnplaced l) :=
  .foldl (fun v g => v.ladderQuench_onlySlots g 0 17) _ s

/-- The table in force and the launch cycles of the ports, before the unscheduled slots take their changes. -/
def State.tablePut (s : State) (t : SchedTable) : State :=
  { s with le := { s.le with table := t }, ports := s.ports.mapIdx (fun p (P : Port) => { P with launch := (s.schedCtx.launch t.ents p).getD 0 }) }

theorem State.putTable_eq (s : State) (t : SchedTable) : s.putTable t = (s.tablePut t).flushUnscheduled := rfl

theorem State.putTable_onlyPlaced (s : State) (t : SchedTable) : OnlyPlaced s (s.putTable t) := by
  have put : OnlyPlaced s (s.tablePut t) := rfl
  exact put.trans (.of_slots (s.tablePut t).flushUnscheduled_onlySlots)

theorem State.putTable_table (s : State) (t : SchedTable) : (s.putTable t).le.table = t :=
  congrArg LoopEngine.table (s.tablePut t).flushUnscheduled_onlySlots

/-- The slots that a fallback moves are marked. -/
def State.fallMarked (s : State) (moved lost : List Nat) : State :=
  let slots := s.le.slots.mapIdx
    (fun k (x : Slot) => if moved.contains k && !lost.contains k then { x with remapped := true } else x)
  { s with le := { s.le with slots := slots } }

/-- The slots of a FAILED pipeline that find no place. -/
def State.fallLost (s : State) (p : Nat) : List Nat := (s.slotsOn p).filter (fun k => !((s.fallEnts p).any (fun e => e.slot == k)))

theorem State.fallOver_eq (s : State) (p : Nat) : s.fallOver p =
    ((s.fallMarked (s.slotsOn p) (s.fallLost p)).putTable { s.le.table with ents := s.fallEnts p }).quenchUnplaced (s.fallLost p) := rfl

theorem State.fallOver_onlyPlaced (s : State) (p : Nat) : OnlyPlaced s (s.fallOver p) := by
  have marked : OnlyPlaced s (s.fallMarked (s.slotsOn p) (s.fallLost p)) := rfl
  rw [State.fallOver_eq]
  exact (marked.trans (State.putTable_onlyPlaced _ _)).trans (.of_slots (State.quenchUnplaced_onlySlots _ _))

theorem State.healTable_onlyPlaced (s : State) : OnlyPlaced s s.healTable := by
  unfold State.healTable
  generalize s.le.fallen = l
  induction l generalizing s with
  | nil => exact rfl
  | cons p l ih =>
    refine .trans ?_ (ih _)
    dsimp only
    split
    · exact rfl
    · exact s.fallOver_onlyPlaced p

/-- A table that names no pipeline whose switch has been made stays (R88). -/
theorem State.healTable_sound {s : State} (sound : ∀ p ∈ s.le.fallen, p ∈ s.le.pendFall ∨ ∀ e ∈ s.le.table.ents, e.pipe ≠ p) :
    s.healTable = s := by
  unfold State.healTable
  generalize s.le.fallen = l at sound
  induction l with
  | nil => rfl
  | cons p l ih =>
    have stays : (if s.le.pendFall.contains p || (s.slotsOn p).isEmpty then s else s.fallOver p) = s := by
      refine if_pos ?_
      rcases sound p (.head _) with pending | absent
      · simp [pending]
      · have none_ : SchedCtx.ofPipe s.le.table.ents p = [] := List.filter_eq_nil_iff.mpr fun e member => by simpa using absent e member
        simp [State.slotsOn, none_]
    rw [List.foldl_cons, stays]
    exact ih fun q member => sound q (.tail _ member)

/-! ### The mark of a remapped slot -/

theorem Slot.apply_remapped (x : Slot) (c : SlotChange) : (x.apply c).remapped = x.remapped := by
  unfold Slot.apply
  cases c with
  | openIt => dsimp only; split <;> rfl
  | openAfter => dsimp only; split <;> rfl
  | closeIt => dsimp only; split <;> rfl
  | load => dsimp only; split <;> rfl

theorem Slot.applyAll_remapped (x : Slot) : x.applyAll.remapped = x.remapped := by
  have all (l : List SlotChange) (y : Slot) : (l.foldl Slot.apply y).remapped = y.remapped := by
    induction l generalizing y with
    | nil => rfl
    | cons c l ih => rw [List.foldl_cons, ih, Slot.apply_remapped]
  exact all _ _

/-- A field of the slots that a change of one of them keeps. -/
theorem State.slot_setSlot_field {α : Type} (s : State) {φ : Slot → α} {f : Slot → Slot} (kept : ∀ x, φ (f x) = φ x) (k j : Nat) :
    φ ((s.setSlot k f).slot j) = φ (s.slot j) := by
  rw [State.slot_setSlot]
  split
  · exact kept _
  · rfl

/-- A field that a change of every entry keeps. -/
theorem nth_map_field {α β : Type} (l : List α) (f : α → α) (k : Nat) (d : α) (φ : α → β) (kept : ∀ a, φ (f a) = φ a) :
    φ (nth (l.map f) k d) = φ (nth l k d) := by
  unfold nth
  rw [List.getD_eq_getElem?_getD, List.getD_eq_getElem?_getD, List.getElem?_map]
  cases l[k]? with
  | none => rfl
  | some a => exact kept a

theorem State.takeChanges_remapped (s : State) (k j : Nat) : ((s.takeChanges k).slot j).remapped = (s.slot j).remapped := by
  have applied := s.slot_setSlot_field (φ := Slot.remapped) (f := Slot.applyAll) Slot.applyAll_remapped k j
  unfold State.takeChanges
  dsimp only
  split
  · exact (nth_map_field (s.setSlot k Slot.applyAll).le.slots (Slot.follows k) j {} Slot.remapped fun _ => rfl).trans applied
  · exact applied

theorem State.flushUnscheduled_remapped (s : State) (j : Nat) : (s.flushUnscheduled.slot j).remapped = (s.slot j).remapped := by
  unfold State.flushUnscheduled
  generalize List.range s.part.slots = l
  induction l generalizing s with
  | nil => rfl
  | cons k l ih =>
    rw [List.foldl_cons, ih]
    split
    · rw [(State.slotAnswered_touch _ k).slot_eq rfl, State.takeChanges_remapped]
      exact s.slot_setSlot_field (φ := Slot.remapped) (f := Slot.unwait) (fun _ => rfl) k j
    · rfl

/-- Where no change waits, none is taken. -/
theorem State.flushUnscheduled_idle {s : State} (idle : ∀ k, (s.slot k).pend = []) : s.flushUnscheduled = s := by
  unfold State.flushUnscheduled
  generalize List.range s.part.slots = l
  induction l with
  | nil => rfl
  | cons k l ih => rw [List.foldl_cons, if_neg (by simp [idle]), ih]

/-! ### Vectors -/

/-- A vector's pipeline afterwards, but for its failure. -/
def Pipe.ran (x : Pipe) (miss : Bool) : Pipe :=
  { x with vectors := (x.vectors + 1) % 2 ^ 16, mismatches := if miss then satInc 16 x.mismatches else x.mismatches,
           repeatV := miss && !x.repeatV, vector := if miss then x.vector else (x.vector + 1) % 32 }

/-- The ASSAY under way after a vector of pipeline `p`. -/
def AssayRun.ran (a : AssayRun) (p : Nat) (miss : Bool) : AssayRun :=
  if !bitAt a.mask p then a else
    { a with left := if miss then a.left else upd a.left p (· - 1), miss := if miss then upd a.miss p (· + 1) else a.miss }

/-- The Loop Engine after a vector. -/
def State.vectorRan (s : State) (p : Nat) (miss : Bool) : State :=
  { s with le := { s.le with pipes := upd s.le.pipes p (fun x => x.ran miss), assay := s.le.assay.map (fun a => a.ran p miss) } }

theorem exec_assayEvaluation {s : State} {p : Nat} {miss : Bool} (low : p < s.part.pipes) (works : (nth s.le.pipes p {}).failed = false) :
    exec (.assayEvaluation p miss) s = .next (if miss && (nth s.le.pipes p {}).repeatV
      then (s.vectorRan p miss).pipeFailed p (nth s.le.pipes p {}).vector else s.vectorRan p miss).assayCheck :=
  if_neg (by simp [works]; omega)

theorem Part.pipes_le (part : Part) : part.pipes ≤ 4 := by cases part <;> decide

/-- The end of an ASSAY changes no pipeline. -/
theorem State.assayCheck_le (s : State) : ∃ a, s.assayCheck.le = { s.le with assay := a } := by
  unfold State.assayCheck
  split
  · exact ⟨s.le.assay, rfl⟩
  · dsimp only
    split
    · exact ⟨none, comp_bit (State.completeWhere_touch ..).le rfl⟩
    · exact ⟨s.le.assay, rfl⟩

/-- A pipeline that fails keeps its counts (R88). -/
theorem State.pipeFailed_le (s : State) (p vector : Nat) : (s.pipeFailed p vector).le = { s.le with
    pipes := upd s.le.pipes p (fun x => { x with failed := true, repeatV := false })
    pendFall := s.le.pendFall ++ [p], fallen := s.le.fallen ++ [p] } := by
  have raised := State.raiseCause_touch (State.record { s with le := { s.le with
    pipes := upd s.le.pipes p (fun x => { x with failed := true, repeatV := false })
    pendFall := s.le.pendFall ++ [p], fallen := s.le.fallen ++ [p] } } 0x0305 3 kPipe p (leBytes 1 vector)) 0 kNone 0
  exact comp_bit raised.le rfl

/-- A vector changes of the pipelines' failures none. -/
theorem State.vectorRan_failed (s : State) (p q : Nat) (miss : Bool) :
    (nth (s.vectorRan p miss).le.pipes q ({} : Pipe)).failed = (nth s.le.pipes q ({} : Pipe)).failed := by
  show (nth (upd s.le.pipes p fun x => x.ran miss) q ({} : Pipe)).failed = _
  rw [nth_upd]
  split
  · rfl
  · rfl

/-- The answer of an ASSAY, byte by byte (R384). -/
def State.assayResult (s : State) (a : AssayRun) : Nat := (List.range 4).foldl (fun r q =>
  r + (if !bitAt a.mask q then 0 else if (nth s.le.pipes q {}).failed then 0xFF else min (nth a.miss q 0) 0xFE) * 2 ^ (8 * q)) 0

/-- An ASSAY whose pipelines have all run their vectors or failed is answered. -/
theorem State.assayCheck_ends {s : State} {a : AssayRun} (run : s.le.assay = some a)
    (all : ∀ q < 4, bitAt a.mask q = true → nth a.left q 0 = 0 ∨ (nth s.le.pipes q {}).failed = true) :
    s.assayCheck.le.assay = none ∧ ∀ f ∈ s.hq.inflight, f.wait = .assay → Answered s s.assayCheck f.hdr stOk (s.assayResult a) := by
  let v : State := { s with le := { s.le with assay := none } }
  have ends : s.assayCheck = v.completeWhere (· == Wait.assay) stOk (s.assayResult a) := by
    unfold State.assayCheck
    rw [run]
    refine if_pos (List.all_eq_true.mpr fun q member => ?_)
    cases named : bitAt a.mask q
    · rfl
    · rcases all q (List.mem_range.mp member) named with done | fails
      · simp [done]
      · simp [fails]
  have kept : (v.completeWhere (· == Wait.assay) stOk (s.assayResult a)).le = v.le := comp_bit (v.completeWhere_touch ..).le rfl
  rw [ends, kept]
  exact ⟨rfl, fun f member waits => Answered.since (s := s) (State.completeWhere_answers v (· == Wait.assay) stOk _ f member (by simp [waits])) rfl
    ⟨[], rfl⟩⟩

theorem nth_mapIdx {α : Type} (l : List α) (f : Nat → α → α) {k : Nat} (d : α) (low : k < l.length) :
    nth (l.mapIdx f) k d = f k (nth l k d) := by
  unfold nth
  rw [List.getD_eq_getElem?_getD, List.getD_eq_getElem?_getD, List.getElem?_mapIdx, List.getElem?_eq_getElem low]
  rfl

/-- A switch to an accepted table, before the pipelines that have failed leave it. -/
def State.switched (s : State) (n : SchedTable) : State := State.putTable { s with le := { s.le with
  pendTable := none, gen := (s.le.gen + 1) % 256, slots := s.le.slots.map (fun (x : Slot) => { x with remapped := false }) } } n

theorem exec_scheduleSwitch {s : State} {n : SchedTable} (pend : s.le.pendTable = some n) : exec .scheduleSwitch s =
    .next ((s.switched n).healTable.completeWhere (· == Wait.schedule) stOk (s.switched n).healTable.le.gen) := by
  show execScheduleSwitch s = _
  rw [execScheduleSwitch, pend]
  rfl

/-- Settles O4: a switch is its table put in force (`State.switched`) and then left by the FAILED pipelines (`State.healTable`,
`State.fallOver_eq`); neither touches the rest of the Loop Engine (`OnlyPlaced`). -/
theorem schedulesAndVectorsComplete : Obligations.SchedulesAndVectorsComplete := by
  refine ⟨fun h m s a some_ high work free => ?assay, fun p miss s w low works => ?vector, fun p a s w low works run named last others => ?ends,
    fun n s pend => ?switch, fun s => ⟨_, rfl, rfl⟩, fun p s w one => ?fall⟩
  case assay =>
    have none_ : (List.range 4).any (fun p => bitAt m p && (nth s.le.pipes p {}).failed) = false := by
      refine List.any_eq_false.mpr fun p member => ?_
      have := work p (List.mem_range.mp member)
      cases named : bitAt m p
      · simp
      · simp [this named]
    exact a.completes rfl rfl rfl (by simp [param, need, some_, high]) (by simp [need, none_, free]) ⟨rfl, Waits.await ..⟩
  case vector =>
    let u := s.vectorRan p miss
    have size : p < s.le.pipes.length := by rw [w.pipes]; exact Nat.lt_of_lt_of_le low s.part.pipes_le
    have ran : nth u.le.pipes p ({} : Pipe) = (nth s.le.pipes p {}).ran miss := nth_upd_same _ _ _ _ size
    refine ⟨_, exec_assayEvaluation low works, ?_⟩
    by_cases fails : (miss && (nth s.le.pipes p {}).repeatV) = true
    · rw [if_pos fails]
      let v := u.pipeFailed p (nth s.le.pipes p {}).vector
      obtain ⟨a, le⟩ := v.assayCheck_le
      have raised : 0 ∈ v.ev.causes := State.raiseCause_raised ..
      have failed : nth v.le.pipes p ({} : Pipe) = { (nth s.le.pipes p {}).ran miss with failed := true, repeatV := false } := by
        rw [u.pipeFailed_le, ← ran]
        exact nth_upd_same _ _ _ _ (show p < (upd s.le.pipes p _).length by rwa [upd_length])
      obtain ⟨missed, again⟩ := Bool.and_eq_true_iff.mp fails
      dsimp only
      rw [le, show State.ev _ = v.ev from comp_bit v.assayCheck_touch.ev rfl]
      refine ⟨?_, fun _ => ⟨?_, ?_, raised⟩, fun not => absurd fails (by simp [not])⟩
      · show nth v.le.pipes p ({} : Pipe) = _
        rw [failed, fails, missed, again]
        rfl
      · show v.le.pendFall = _
        rw [u.pipeFailed_le]
        rfl
      · show v.le.fallen = _
        rw [u.pipeFailed_le]
        rfl
    · rw [if_neg fails]
      obtain ⟨a, le⟩ := u.assayCheck_le
      rw [le]
      refine ⟨?_, fun wrong => absurd wrong fails, fun _ => ⟨rfl, rfl⟩⟩
      show nth u.le.pipes p ({} : Pipe) = _
      rw [ran, Bool.eq_false_iff.mpr fails, Pipe.ran, works]
  case ends =>
    let u := s.vectorRan p false
    have size : p < a.left.length := by
      refine Classical.byContradiction fun outside => ?_
      rw [nth, List.getD_eq_getElem?_getD, List.getElem?_eq_none (by omega)] at last
      exact absurd last (by decide)
    have now : a.ran p false = { a with left := upd a.left p (· - 1) } := if_neg (by simp [named])
    have run' : u.le.assay = some { a with left := upd a.left p (· - 1) } := by
      rw [← now]
      show s.le.assay.map _ = _
      rw [run]
      rfl
    obtain ⟨gone, answers⟩ := State.assayCheck_ends run' fun q below named' => by
      show nth (upd a.left p (· - 1)) q 0 = 0 ∨ _
      rw [s.vectorRan_failed]
      by_cases same : q = p
      · subst same
        rw [nth_upd_same _ _ _ _ size, last]
        exact .inl rfl
      · rw [nth_upd_other _ _ _ _ _ (Ne.symm same)]
        exact others q below same named'
    have result : u.assayResult { a with left := upd a.left p (· - 1) } = s.assayResult a := by
      unfold State.assayResult
      simp only [show ∀ q, (nth u.le.pipes q ({} : Pipe)).failed = (nth s.le.pipes q ({} : Pipe)).failed from fun q => s.vectorRan_failed p q false]
    have runs := exec_assayEvaluation (miss := false) low works
    rw [Bool.false_and, if_neg Bool.false_ne_true] at runs
    rw [result] at answers
    exact ⟨_, runs, gone, fun f member waits => Answered.since (s := s) (answers f member waits) rfl ⟨[], rfl⟩⟩
  case switch =>
    let v := s.switched n
    have last := v.healTable.completeWhere_touch (· == Wait.schedule) stOk v.healTable.le.gen
    have placed : OnlyPlaced _ v := State.putTable_onlyPlaced _ n
    obtain ⟨pend', gen, fallen, pendFall⟩ := placed.keeps
    obtain ⟨pend'', gen', -, -⟩ := v.healTable_onlyPlaced.keeps
    have table : v.le.table = n := State.putTable_table _ n
    have groups : v.groups = s.groups := comp_bit (State.putTable_touch _ n).groups rfl
    have marks (k : Nat) : (v.slot k).remapped = false := by
      show ((State.flushUnscheduled _).slot k).remapped = false
      rw [State.flushUnscheduled_remapped]
      show (nth (s.le.slots.map fun (x : Slot) => { x with remapped := false }) k ({} : Slot)).remapped = false
      unfold nth
      rw [List.getD_eq_getElem?_getD, List.getElem?_map]
      cases s.le.slots[k]?
      · rfl
      · rfl
    refine ⟨_, exec_scheduleSwitch pend, ?_⟩
    dsimp only
    rw [show State.le _ = v.healTable.le from comp_bit last.le rfl, show State.groups _ = v.healTable.groups from comp_bit last.groups rfl]
    refine ⟨pend''.trans pend', gen'.trans gen, ⟨v, table, fallen, pendFall, marks, groups, rfl, rfl⟩, fun sound => ?_⟩
    have heals : v.healTable = v := State.healTable_sound fun p member => by
      rw [pendFall, table]
      exact sound p (fallen ▸ member)
    rw [heals]
    refine ⟨table, groups, fun idle f member waits => ?_⟩
    let u := State.tablePut { s with le := { s.le with
      pendTable := none, gen := (s.le.gen + 1) % 256, slots := s.le.slots.map (fun (x : Slot) => { x with remapped := false }) } } n
    have still : v = u := State.flushUnscheduled_idle fun k =>
      (nth_map_field s.le.slots (fun (x : Slot) => { x with remapped := false }) k {} Slot.pend fun _ => rfl).trans (idle k)
    rw [gen, still]
    exact Answered.since (s := s) (State.completeWhere_answers u (· == Wait.schedule) stOk _ f member (by simp [waits])) rfl ⟨[], rfl⟩
  case fall =>
    let s' : State := { s with le := { s.le with pendFall := [] } }
    let v := (s'.fallMarked (s'.slotsOn p) (s'.fallLost p)).putTable { s'.le.table with ents := s'.fallEnts p }
    have placed : OnlyPlaced s' v := by
      have marked : OnlyPlaced s' (s'.fallMarked (s'.slotsOn p) (s'.fallLost p)) := rfl
      exact marked.trans (State.putTable_onlyPlaced _ _)
    obtain ⟨-, gen, -, pendFall⟩ := placed.keeps
    have runs : exec .fallbackSwitch s = .next (v.quenchUnplaced (s'.fallLost p)) := by
      show execFallbackSwitch s = _
      rw [execFallbackSwitch, one, List.foldl_cons, List.foldl_nil]
      rfl
    refine ⟨_, runs, v, pendFall, gen, State.putTable_table .., fun k low moved kept => ?_, comp_bit (State.putTable_touch ..).groups rfl, rfl⟩
    show ((State.flushUnscheduled _).slot k).remapped = true
    rw [State.flushUnscheduled_remapped]
    show (nth (s.le.slots.mapIdx fun k (x : Slot) => if (s'.slotsOn p).contains k && !(s'.fallLost p).contains k
      then { x with remapped := true } else x) k ({} : Slot)).remapped = true
    rw [nth_mapIdx _ _ _ (by rw [w.slots]; exact low), if_pos]
    simp only [Bool.and_eq_true, List.contains_iff_mem, Bool.not_eq_true']
    exact ⟨moved, Bool.eq_false_iff.mpr (mt List.contains_iff_mem.mp kept)⟩

end Sys2Proof.Machine
end

section
/-!
R134 to R136, R152: what the fault ladder leaves of a port, and the training of a port.
-/

namespace Sys2Proof.Machine

open Sys2Proof

/-! ### What the ladder leaves of a port -/

/-- A port but for what a retirement and a quench change of it. -/
def Port.sansLadder (P : Port) : Port :=
  { P with retired := false, cause := 0, stopSeen := false, restore := none, devCount := 0, imbCount := 0, compLow := 0 }

/-- No port changes but in what a retirement and a quench change, and no port asks for its replacement or ceases to. -/
structure LadderKept (s t : State) : Prop where
  port : ∀ p, (t.port p).sansLadder = (s.port p).sansLadder
  cause : t.ev.portCause = s.ev.portCause

section
variable {s t v : State}

theorem LadderKept.refl (s : State) : LadderKept s s := ⟨fun _ => rfl, rfl⟩

theorem LadderKept.trans (first : LadderKept s t) (second : LadderKept t v) : LadderKept s v :=
  ⟨fun p => (second.port p).trans (first.port p), second.cause.trans first.cause⟩

theorem LadderKept.cond {c : Prop} [Decidable c] (yes : LadderKept s t) (no : LadderKept s v) : LadderKept s (if c then t else v) := by
  split <;> assumption

theorem LadderKept.of_touch {F : Nat} (g : Touch F s t) (ports : F.testBit 5 = false) (ev : F.testBit 14 = false) : LadderKept s t :=
  ⟨fun p => by rw [g.port_eq ports], by rw [comp_bit g.ev ev]⟩

theorem LadderKept.of_ports (ports : t.ports = s.ports) (cause : t.ev.portCause = s.ev.portCause) : LadderKept s t :=
  ⟨fun p => by rw [State.port, ports, State.port], cause⟩

theorem LadderKept.withRc (s : State) (r : ResetCtl) : LadderKept s { s with rc := r } := ⟨fun _ => rfl, rfl⟩

theorem LadderKept.withSh (s : State) (x : Shelf) : LadderKept s { s with sh := x } := ⟨fun _ => rfl, rfl⟩

theorem LadderKept.setPort (s : State) (p : Nat) {f : Port → Port} (kept : ∀ P, (f P).sansLadder = P.sansLadder) :
    LadderKept s (s.setPort p f) := by
  refine ⟨fun q => ?_, rfl⟩
  rw [State.port_setPort]
  split
  · exact kept _
  · rfl

theorem LadderKept.foldl {α : Type} {f : State → α → State} (each : ∀ v a, LadderKept v (f v a)) (l : List α) (s : State) :
    LadderKept s (l.foldl f s) := by
  induction l generalizing s with
  | nil => exact .refl s
  | cons a l ih => exact (each s a).trans (ih _)

theorem LadderKept.record (s : State) (code sev kind subject : Nat) (p : Bytes) : LadderKept s (s.record code sev kind subject p) :=
  ⟨fun q => by rw [(s.record_touch code sev kind subject p).port_eq rfl], rfl⟩

theorem LadderKept.clearPort (s : State) (p : Nat) : LadderKept s (s.clearPort 6 p) := by
  unfold State.clearPort
  rw [if_neg (by decide)]
  exact .cond (.of_ports rfl rfl) (.refl s)

theorem LadderKept.raisePort (s : State) (p : Nat) : LadderKept s (s.raisePort 6 p) := by
  unfold State.raisePort
  rw [if_neg (by decide)]
  exact .cond (.refl s) (.of_ports rfl rfl)

end

theorem State.endRestore_ladderKept (s : State) (p : Nat) : LadderKept s (s.endRestore p) := by
  unfold State.endRestore
  refine .cond ?_ (.refl s)
  refine .trans ?_ (.of_touch (State.completeWhere_touch ..) rfl rfl)
  refine .trans ?_ (.clearPort _ p)
  exact .trans (.setPort s p (by intro P; rfl)) (.withRc _ _)

theorem State.quench_ladderKept (s : State) (g cause : Nat) : LadderKept s (s.quench g cause) := by
  unfold State.quench
  dsimp only
  refine .cond (.refl s) ?_
  refine .trans ?_ (.of_touch (State.busCheck_touch _) rfl rfl)
  refine .trans ?_ (.of_touch (State.burstExit_touch _) rfl rfl)
  refine .trans ?_ (.foldl State.endRestore_ladderKept _ _)
  refine .trans ?_ (.of_touch (State.completeWhere_touch ..) rfl rfl)
  refine .trans ?_ (.of_touch (State.openGroup_touch _ g) rfl rfl)
  refine .trans (.of_touch (s.setGroup_touch g (fun G => G.quenched cause)) rfl rfl) ?_
  exact .foldl (fun v p => .setPort v p (by intro P; rfl)) _ _

theorem State.retire_ladderKept (s : State) (p cause : Nat) : LadderKept s (s.retire p cause) := by
  unfold State.retire
  dsimp only
  refine .cond (.trans ?_ (.raisePort _ p)) ?_
  all_goals
    refine .cond (.trans ?_ (.of_touch (State.openSlots_touch ..) rfl rfl)) ?_
  all_goals
    refine .trans (.of_touch (s.cutRestore_touch p) rfl rfl) ?_
    exact .trans (.setPort _ p (by intro P; rfl)) (.withRc _ _)

theorem State.actOn_ladderKept (s : State) (x : Subj) (level cause : Nat) : LadderKept s (s.actOn x level cause) := by
  unfold State.actOn
  cases x with
  | cell p => exact .cond (s.retire_ladderKept p cause) (.refl s)
  | group g => exact .cond (s.quench_ladderKept g 2) (.refl s)
  | shelf => exact .cond (.trans (.withSh s _) (.foldl (fun v g => v.quench_ladderKept g 2) _ _)) (.refl s)

theorem State.ladderRecord_ladderKept (s : State) (x : Subj) (level cause code : Nat) : LadderKept s (s.ladderRecord x level cause code) := by
  unfold State.ladderRecord
  cases x
  all_goals
    dsimp only
    exact .trans (.withSh s _) (.record _ _ _ _ _ _)

theorem State.ladder_ladderKept (s : State) (x : Subj) (level cause code : Nat) : LadderKept s (s.ladder x level cause code) := by
  unfold State.ladder
  dsimp only
  refine .cond (.cond (.of_touch (s.stand_touch x code level) rfl rfl) (.refl s))
    (.cond (s.ladderRecord_ladderKept x level cause code) ?_)
  have noted := s.ladderRecord_ladderKept (s.mend x level).1 (s.mend x level).2 cause code
  refine .cond noted (.trans (noted.trans (.of_touch (State.stand_touch ..) rfl rfl)) (State.actOn_ladderKept _ _ _ cause))

theorem State.ladderAll_ladderKept (s : State) (l : List Found) : LadderKept s (s.ladderAll l) :=
  .foldl (fun v (f : Found) => v.ladder_ladderKept f.1 f.2.1 f.2.2.1 f.2.2.2) _ s

/-- Fields of a port that the ladder leaves as they are. -/
theorem LadderKept.field {α : Type} {s t : State} (kept : LadderKept s t) {φ : Port → α} (same : ∀ P : Port, φ P.sansLadder = φ P) (p : Nat) :
    φ (t.port p) = φ (s.port p) := by
  rw [← same (t.port p), kept.port p, same]

/-! ### Service accesses ended -/

theorem State.port_setPort_same {s : State} {p : Nat} (size : p < s.ports.length) (f : Port → Port) : (s.setPort p f).port p = f (s.port p) :=
  nth_upd_same _ _ _ _ size

/-- A port is the same but for the mark of a timeout and a restore that ends with it. -/
def SvcEnded (p : Nat) (s t : State) : Prop := ∃ a b, t.port p = { s.port p with svcTimeout := a, restore := b }

section
variable {p : Nat} {s t v : State}

theorem SvcEnded.refl (s : State) : SvcEnded p s s := ⟨_, _, rfl⟩

theorem SvcEnded.trans (first : SvcEnded p s t) (second : SvcEnded p t v) : SvcEnded p s v := by
  obtain ⟨a, b, is⟩ := first
  obtain ⟨c, d, is'⟩ := second
  exact ⟨c, d, by rw [is', is]⟩

theorem SvcEnded.of_touch {F : Nat} (g : Touch F s t) (outside : F.testBit 5 = false) : SvcEnded p s t :=
  ⟨(s.port p).svcTimeout, (s.port p).restore, g.port_eq outside p⟩

theorem SvcEnded.timeout (s : State) : SvcEnded p s (s.setPort p (fun P => { P with svcTimeout := true })) := by
  unfold SvcEnded
  rw [State.port_setPort]
  split
  · exact ⟨true, (s.port p).restore, rfl⟩
  · exact ⟨_, _, rfl⟩

theorem SvcEnded.restore (s : State) : SvcEnded p s (s.setPort p (fun P => { P with restore := none })) := by
  unfold SvcEnded
  rw [State.port_setPort]
  split
  · exact ⟨(s.port p).svcTimeout, none, rfl⟩
  · exact ⟨_, _, rfl⟩

theorem SvcEnded.svcFailed (s : State) (x : SvcUse) : SvcEnded p s (s.svcFailed p x) := by
  have ends (w : Wait → Bool) (st r : Nat) : SvcEnded p s ((s.setPort p (fun P => { P with restore := none })).completeWhere w st r) :=
    (SvcEnded.restore s).trans (.of_touch (State.completeWhere_touch ..) rfl)
  cases x with
  | clearFault => exact ends ..
  | readFault => exact ends ..
  | unlatch => exact .refl s
  | discover => exact .refl s

theorem SvcEnded.endAccess (s : State) (r : SvcReq) : SvcEnded p s (s.endAccess p r) :=
  ((SvcEnded.timeout s).trans (.of_touch (State.record_touch ..) rfl)).trans (.svcFailed _ _)

theorem SvcEnded.endAll (l : List SvcReq) (s : State) : SvcEnded p s (l.foldl (fun s r => s.endAccess p r) s) := by
  induction l generalizing s with
  | nil => exact .refl s
  | cons r l ih => exact (SvcEnded.endAccess s r).trans (ih _)

end

section
variable {s : State} {p : Nat} (w : WellShaped s) (low : p < 80)
include w low

/-- What was being carried on a port is gone from it. -/
theorem State.endAccesses_port : ∃ a b, (s.endAccesses p).port p =
    { s.port p with svcTimeout := a, restore := b, svcOut := [], svcWait := [] } := by
  obtain ⟨a, b, is⟩ := SvcEnded.endAll (p := p) (((s.port p).svcOut ++ (s.port p).svcWait).filter (fun r => r.use != .discover))
    (s.setPort p (fun P => { P with svcOut := [], svcWait := [] }))
  exact ⟨a, b, is.trans (by rw [State.port_setPort_same (w.ports ▸ low)])⟩

/-- Training begins anew with the reads of discovery (R135). -/
theorem State.trainAttempt_port : ∃ a b, (s.trainAttempt p).port p = { s.port p with
    svcTimeout := a, restore := b, svcOut := [], svcWait := discoveryReads, sentLaunch := 0
    line := { (s.port p).line with begun := [] }, brRead := [] } := by
  obtain ⟨a, b, is⟩ := State.endAccesses_port w low
  refine ⟨a, b, ?_⟩
  let v := (s.endAccesses p).setPort p (fun P => { P with
    sentLaunch := 0, line := { P.line with begun := [] }, brRead := [], svcWait := discoveryReads })
  have now : v.port p = { s.port p with
      svcTimeout := a, restore := b, svcOut := [], svcWait := discoveryReads, sentLaunch := 0
      line := { (s.port p).line with begun := [] }, brRead := [] } := by
    rw [State.port_setPort_same (((s.endAccesses_touch p).shape w).ports ▸ low), is]
  show (if v.rc.portOn p then v.emit (.train p (v.trainHeader p)) else v).port p = _
  split
  · exact now
  · exact now

/-- Training begins on a port (R135). -/
theorem State.startTraining_port : ∃ a b, (s.startTraining p).port p = { s.port p with
    state := .training, trainTries := 1, held := [none, none, none, none]
    svcTimeout := a, restore := b, svcOut := [], svcWait := discoveryReads, sentLaunch := 0
    line := { (s.port p).line with begun := [] }, brRead := [] } := by
  have set := s.setPort_touch p (fun P => { P with state := .training, trainTries := 1, held := [none, none, none, none] })
  obtain ⟨a, b, is⟩ := State.trainAttempt_port (set.shape w) low
  exact ⟨a, b, is.trans (by rw [State.port_setPort_same (w.ports ▸ low)])⟩

/-- A port that fails keeps what training has read of it. -/
theorem State.failPort_port (step : Nat) : ∃ a b, (s.failPort p step).port p = { s.port p with
    svcTimeout := a, restore := b, svcOut := [], svcWait := [], state := .failed, line := { (s.port p).line with begun := [] } } := by
  obtain ⟨a, b, is⟩ := State.endAccesses_port w low
  refine ⟨a, b, ?_⟩
  unfold State.failPort
  dsimp only
  rw [(State.raisePort_touch ..).port_eq rfl, (State.record_touch ..).port_eq rfl,
    State.port_setPort_same (((s.endAccesses_touch p).shape w).ports ▸ low), is]

end

/-- TRAIN blocks leave where the transmitter's domains run (R135 step 1). -/
theorem State.trainAttempt_puts {s : State} {p : Nat} (on_ : s.rc.portOn p = true) : Puts s (s.trainAttempt p) (.train p (s.trainHeader p)) := by
  let v := (s.endAccesses p).setPort p (fun P => { P with
    sentLaunch := 0, line := { P.line with begun := [] }, brRead := [], svcWait := discoveryReads })
  have comes : Touch 0x814020 s v := ((s.endAccesses_touch p).mono rfl).step (State.setPort_touch _ p _) rfl
  have sends : s.trainAttempt p = v.emit (.train p (s.trainHeader p)) := by
    show (if v.rc.portOn p then v.emit (.train p (v.trainHeader p)) else v) = _
    rw [comes.rc_eq rfl, if_pos on_]
    unfold State.trainHeader
    rw [comp_bit comes.teth rfl]
  rw [sends]
  exact Puts.before comes (Puts.emit _ _)

theorem State.startTraining_puts {s : State} {p : Nat} (on_ : s.rc.portOn p = true) : Puts s (s.startTraining p) (.train p (s.trainHeader p)) :=
  Puts.before (s.setPort_touch p _) (State.trainAttempt_puts (s := s.setPort p _) on_)

theorem State.raisePort_raised (s : State) (p : Nat) : p ∈ (s.raisePort 5 p).ev.portCause := by
  unfold State.raisePort
  rw [if_pos rfl]
  split
  next stands => simpa using stands
  next => exact List.mem_append_right _ (List.mem_singleton.mpr rfl)

theorem State.raisePort_stands {s : State} {p : Nat} (stands : s.ev.portCause.contains p = true) : s.raisePort 5 p = s := by
  unfold State.raisePort
  rw [if_pos rfl, if_pos stands]

theorem State.clearPort_cleared (s : State) (p : Nat) : p ∉ (s.clearPort 5 p).ev.portCause := by
  unfold State.clearPort
  rw [if_pos rfl]
  split
  next => exact fun member => by simpa using (List.mem_filter.mp member).2
  next none_ => simpa using none_

/-- A port that fails with no access under way makes the one record (R136). -/
theorem State.failPort_newest {s : State} {p : Nat} (step : Nat) (stands : s.ev.portCause.contains p = true)
    (idle : ∀ r ∈ (s.port p).svcOut ++ (s.port p).svcWait, r.use = .discover) :
    Newest s (s.failPort p step) 0x0B01 3 kPort p (leBytes 1 step) := by
  let v := (s.setPort p (fun P => { P with svcOut := [], svcWait := [] })).setPort p (fun P =>
    { P with state := .failed, line := { P.line with begun := [] } })
  have none_ : ((s.port p).svcOut ++ (s.port p).svcWait).filter (fun r => r.use != .discover) = [] :=
    List.filter_eq_nil_iff.mpr fun r member => by simp [idle r member]
  have ends : s.failPort p step = (v.record 0x0B01 3 kPort p (leBytes 1 step)).raisePort 5 p := by
    unfold State.failPort State.endAccesses
    dsimp only
    rw [none_]
    rfl
  rw [ends, State.raisePort_stands (s := v.record 0x0B01 3 kPort p (leBytes 1 step)) stands]
  exact State.record_newest v ..

/-- An attempt that ends while another one is left (R136). -/
theorem State.trainAgain_says {s : State} {p : Nat} (w : WellShaped s) (low : p < 80) (left : (s.port p).trainTries < 3) (step : Nat) :
    ((s.trainAgain p step).port p).state = (s.port p).state ∧
    ((s.trainAgain p step).port p).trainTries = (s.port p).trainTries + 1 ∧
    ((s.trainAgain p step).port p).retrains = satInc 8 (s.port p).retrains ∧
    (s.rc.portOn p = true → Puts s (s.trainAgain p step) (.train p (s.trainHeader p))) := by
  let v := s.setPort p (fun P => { P with trainTries := P.trainTries + 1, retrains := satInc 8 P.retrains })
  have again : s.trainAgain p step = v.trainAttempt p := if_neg (by omega)
  have set : Touch 0x20 s v := s.setPort_touch p _
  have now : v.port p = { s.port p with trainTries := (s.port p).trainTries + 1, retrains := satInc 8 (s.port p).retrains } :=
    State.port_setPort_same (w.ports ▸ low) _
  obtain ⟨a, b, is⟩ := State.trainAttempt_port (set.shape w) low
  rw [now] at is
  rw [again, is]
  exact ⟨rfl, rfl, rfl, fun on_ => Puts.before set (State.trainAttempt_puts (s := v) on_)⟩

/-! ### The end of training -/

/-- A port but for what is found out of it once it is trained. -/
def Port.sansTrained (P : Port) : Port := { P.sansLadder with holdShort := false, brFault := 0, latchTold := 0 }

/-- A port as the end of its training leaves it, `latched` with the request that takes its latch away. -/
def Port.nowTrained (P : Port) (arrival : Nat) (latched active : Bool) : Port :=
  let Q := if latched then { P.adopt arrival with svcWait := (P.adopt arrival).svcWait ++
    [{ tag := 0, op := 2, addr := 4, data := 1, mask := 1, sends := 0, use := .unlatch }] } else P.adopt arrival
  { Q with
    state := .trained, lock := true, badRun := 0, obeyRun := 0, upSeq := none, fresh := false, stale := true
    held := [none, none, none, none]
    line := if active then Q.line else { Q.line with begun := [] } }

theorem Port.nowTrained_says (P : Port) (arrival : Nat) (latched active : Bool) :
    (P.nowTrained arrival latched active).state = .trained ∧ (P.nowTrained arrival latched active).lock = true ∧
    (P.nowTrained arrival latched active).bridgeId = bits (P.brReg 0) 31 16 ∧
    (P.nowTrained arrival latched active).layout = BitVec.ofNat 32 (P.brReg 2) ∧
    (P.nowTrained arrival latched active).laneEn = bits (P.brReg 1) 7 0 ∧
    (P.nowTrained arrival latched active).holdUs = bits (P.brReg 3) 8 0 ∧
    (P.nowTrained arrival latched active).arrival = arrival ∧ (P.nowTrained arrival latched active).degraded = P.degraded ∧
    (latched = true → (P.nowTrained arrival latched active).svcWait = P.svcWait ++
      [{ tag := 0, op := 2, addr := 4, data := 1, mask := 1, sends := 0, use := .unlatch }]) := by
  cases latched
  · exact ⟨rfl, rfl, rfl, rfl, rfl, rfl, rfl, rfl, fun wrong => absurd wrong Bool.false_ne_true⟩
  · exact ⟨rfl, rfl, rfl, rfl, rfl, rfl, rfl, rfl, fun _ => rfl⟩

/-- What is done of a port as it is trained. -/
def State.endTraining (s : State) (p : Nat) (P : Port) : State :=
  (((if P.degraded then s else s.clearPort 5 p).holdCheck p).retireAgain p).takeFault p (P.brReg 5 % 16)

section
variable {s : State} {p : Nat} (w : WellShaped s) (low : p < 80)
include w low

theorem State.holdCheck_port : ∃ b, (s.holdCheck p).port p = { s.port p with holdShort := b } := by
  refine ⟨s.teth.trained && decide ((s.port p).holdUs < 20), ?_⟩
  unfold State.holdCheck
  dsimp only
  split
  · rw [(State.record_touch ..).port_eq rfl, State.port_setPort_same (w.ports ▸ low)]
  · rw [State.port_setPort_same (w.ports ▸ low)]

theorem State.takeFault_says (v : Nat) : ((s.takeFault p v).port p).sansTrained = (s.port p).sansTrained ∧
    ((s.takeFault p v).port p).brFault = v ∧ (s.takeFault p v).ev.portCause = s.ev.portCause := by
  unfold State.takeFault
  split
  · have found : (s.brFaults p v).1.port p = { s.port p with brFault := v, latchTold := if s.active then v % 16 else 0 } :=
      State.port_setPort_same (w.ports ▸ low) _
    have kept := (s.brFaults p v).1.ladderAll_ladderKept (s.brFaults p v).2
    refine ⟨?_, (kept.field (φ := Port.brFault) (fun _ => rfl) p).trans (by rw [found]), kept.cause⟩
    exact (kept.field (φ := Port.sansTrained) (fun _ => rfl) p).trans (by rw [found]; rfl)
  · rw [State.port_setPort_same (w.ports ▸ low)]
    exact ⟨rfl, rfl, rfl⟩

theorem State.endTraining_says (P : Port) : ((s.endTraining p P).port p).sansTrained = (s.port p).sansTrained ∧
    ((s.endTraining p P).port p).brFault = P.brReg 5 % 16 ∧
    (P.degraded = false → p ∉ (s.endTraining p P).ev.portCause) := by
  let a := if P.degraded then s else s.clearPort 5 p
  let b := a.holdCheck p
  let c := b.retireAgain p
  have cleared : Touch 0x814000 s a := .cond (.refl _ s) (s.clearPort_touch 5 p)
  have checked := a.holdCheck_touch p
  obtain ⟨x, holds⟩ := State.holdCheck_port (cleared.shape w) low
  have again : LadderKept b c := .cond (b.retire_ladderKept p 10) (.refl b)
  have shape : WellShaped c := by
    have retired : Touch 0x81c030 b c := .cond (b.retire_touch p 10) (.refl _ b)
    exact retired.shape (checked.shape (cleared.shape w))
  obtain ⟨kept, fault, cause⟩ := State.takeFault_says shape low (P.brReg 5 % 16)
  refine ⟨kept.trans ?_, fault, fun fine => ?_⟩
  · rw [again.field (φ := Port.sansTrained) (fun _ => rfl) p, holds, cleared.port_eq rfl]
    rfl
  · show p ∉ (c.takeFault p (P.brReg 5 % 16)).ev.portCause
    rw [cause, again.cause]
    have noted : b.ev.portCause = a.ev.portCause := by
      show (a.holdCheck p).ev.portCause = _
      unfold State.holdCheck
      dsimp only
      split
      all_goals rfl
    have is : a = s.clearPort 5 p := if_neg (by simp [fine])
    rw [noted, is]
    exact s.clearPort_cleared p

end

/-- A port all of whose reads are answered, with a bridge that may be trained. -/
theorem exec_portTrained_ok {s : State} {p : Nat} {d : Training} (w : WellShaped s) (low : p < 80) (training : (s.port p).state = .training)
    (lock : gainsLock d.heads = true) (answer : bitAt d.answer 9 = true) (sixteen : d.arrivals.length = 16)
    (steady : d.arrivals.foldl max 0 - d.arrivals.foldl min (d.arrivals.headD 0) ≤ 2) (found : (s.port p).discovered = true) :
    (s.bridgeOk p = true → ∃ v : State, WellShaped v ∧ exec (.portTrained p d) s = .next (v.endTraining p (s.port p)) ∧
      v.port p = (s.port p).nowTrained (d.arrivals.foldl max 0 % 400) (bitAt ((s.port p).brReg 5) 1 && !s.standbyFlag) s.active) ∧
    (s.bridgeOk p = false → exec (.portTrained p d) s =
      .next ((s.setPort p (fun P => P.adopt (d.arrivals.foldl max 0 % 400))).failPort p 5)) := by
  have runs : exec (.portTrained p d) s = execPortTrained p d s := rfl
  unfold execPortTrained at runs
  dsimp only at runs
  rw [if_neg (by simp [training]), if_neg (by simp [lock, answer]), if_neg (by rw [sixteen, decide_eq_false (by omega)]; decide), if_neg (by simp [found])] at runs
  refine ⟨fun ok => ?_, fun not => runs.trans (if_pos (by simp [not]))⟩
  rw [if_neg (by simp [ok])] at runs
  let a := s.setPort p (fun P => P.adopt (d.arrivals.foldl max 0 % 400))
  let b := if bitAt ((s.port p).brReg 5) 1 && !a.standbyFlag then
    a.svcQueue p { tag := 0, op := 2, addr := 4, data := 1, mask := 1, sends := 0, use := .unlatch } else a
  let c := b.setPort p (fun P => { P with
    state := .trained, lock := true, badRun := 0, obeyRun := 0, upSeq := none, fresh := false, stale := true
    held := [none, none, none, none]
    line := if b.active then P.line else { P.line with begun := [] } })
  have first : Touch 0x20 s a := s.setPort_touch p _
  have adopted : a.port p = (s.port p).adopt (d.arrivals.foldl max 0 % 400) := State.port_setPort_same (w.ports ▸ low) _
  have second : Touch 0x20 a b := .cond (a.setPort_touch p _) (.refl _ a)
  have third : Touch 0x20 b c := b.setPort_touch p _
  have queued : b.port p = if bitAt ((s.port p).brReg 5) 1 && !s.standbyFlag then
      { a.port p with svcWait := (a.port p).svcWait ++
        [{ tag := 0, op := 2, addr := 4, data := 1, mask := 1, sends := 0, use := .unlatch }] } else a.port p := by
    show State.port (if _ then _ else _) p = _
    rw [show a.standbyFlag = s.standbyFlag from rfl]
    split
    · exact State.port_setPort_same ((first.shape w).ports ▸ low) _
    · rfl
  have active : b.active = s.active := by
    show (b.role == _) = (s.role == _)
    rw [comp_bit second.role rfl]
    rfl
  refine ⟨c, third.shape (second.shape (first.shape w)), runs, ?_⟩
  have now : c.port p = _ := State.port_setPort_same ((second.shape (first.shape w)).ports ▸ low) _
  rw [now, queued, adopted, active]
  rfl

/-- A port whose line, answer or arrivals do not let it be trained begins another attempt. -/
theorem exec_portTrained_bad {s : State} {p : Nat} {d : Training} (training : (s.port p).state = .training)
    (bad : gainsLock d.heads = false ∨ bitAt d.answer 9 = false ∨ d.arrivals.length ≠ 16 ∨
      2 < d.arrivals.foldl max 0 - d.arrivals.foldl min (d.arrivals.headD 0)) :
    ∃ step, exec (.portTrained p d) s = .next (s.trainAgain p step) := by
  have runs : exec (.portTrained p d) s = execPortTrained p d s := rfl
  unfold execPortTrained at runs
  dsimp only at runs
  rw [if_neg (by simp [training])] at runs
  by_cases line : (!gainsLock d.heads || !bitAt d.answer 9) = true
  · exact ⟨2, runs.trans (if_pos line)⟩
  · rw [if_neg line] at runs
    refine ⟨4, runs.trans (if_pos ?_)⟩
    rcases bad with is | is | is | is
    · exact absurd (by simp [is]) line
    · exact absurd (by simp [is]) line
    · simp [is]
    · rw [decide_eq_true is, Bool.true_or]

/-- Settles O22: an attempt by `State.trainAttempt_port`, the end of training by `exec_portTrained_ok` and what the ladder leaves
of the port (`LadderKept`). -/
theorem trainingCompletes : Obligations.TrainingCompletes := by
  refine ⟨fun s p w low lost role few => ?retrain, fun s p no => ?still, fun s p step w low training => ⟨fun left => ?again, fun none_ => ?fails⟩,
    fun s p step no => ⟨s, if_neg no, rfl⟩,
    fun s p d w low training lock answer sixteen steady => ⟨fun unfound => ?waits, fun found ident rev layout cal => ?trained,
      fun found other => ?refused⟩, fun s p d w low training left bad => ?bad⟩
  case retrain =>
    have low := Nat.lt_of_lt_of_le low s.part.ports_le
    let v := s.setPort p (fun P => { P with retrains := satInc 8 P.retrains
                                            retrainAt := (s.port p).retrainAt.filter (fun t => decide (s.clk.now < t + 10000000000)) ++ [s.clk.now] })
    have set : Touch 0x20 s v := s.setPort_touch p _
    obtain ⟨a, b, is⟩ := State.startTraining_port (set.shape w) low
    have now : v.port p = _ := State.port_setPort_same (w.ports ▸ low) _
    rw [now] at is
    refine ⟨v.startTraining p, if_neg (by simp [lost, role]; simpa using few), ?_⟩
    dsimp only
    rw [is]
    refine ⟨rfl, rfl, rfl, rfl, rfl, rfl, rfl, rfl, fun on_ => Puts.before set (State.startTraining_puts (s := v) on_), fun q other => ?_⟩
    have kept : PortsKept p s (v.startTraining p) := .trans (.setPort _) (.trans (.setPort _) .trainAttempt)
    exact kept.other q other
  case still =>
    refine ⟨s, if_pos ?_, rfl⟩
    grind
  case again =>
    have low := Nat.lt_of_lt_of_le low s.part.ports_le
    obtain ⟨state, tries, retrains, puts⟩ := State.trainAgain_says w low left step
    exact ⟨_, if_pos training, state.trans training, tries, retrains, puts⟩
  case fails =>
    have low := Nat.lt_of_lt_of_le low s.part.ports_le
    have ends : s.trainAgain p step = s.failPort p step := if_pos none_
    obtain ⟨a, b, is⟩ := State.failPort_port w low step
    refine ⟨s.failPort p step, by rw [← ends]; exact if_pos training, by rw [is], State.raisePort_raised _ p,
      State.failPort_newest step⟩
  case waits =>
    refine ⟨s, ?_, rfl⟩
    show execPortTrained p d s = _
    unfold execPortTrained
    dsimp only
    rw [if_neg (by simp [training]), if_neg (by simp [lock, answer]), if_neg (by rw [sixteen, decide_eq_false (by omega)]; decide),
      if_pos (by simp [unfound])]
  case trained =>
    have low := Nat.lt_of_lt_of_le low s.part.ports_le
    have ok : s.bridgeOk p = true := by
      unfold State.bridgeOk
      simp [ident, rev, layout, cal, linkRev]
    obtain ⟨v, shape, runs, now⟩ := (exec_portTrained_ok w low training lock answer sixteen steady found).1 ok
    obtain ⟨same, fault, cause⟩ := State.endTraining_says shape low (s.port p)
    have is {α : Type} (φ : Port → α) (kept : ∀ P : Port, φ P.sansTrained = φ P) : φ ((v.endTraining p (s.port p)).port p) =
        φ ((s.port p).nowTrained (d.arrivals.foldl max 0 % 400) (bitAt ((s.port p).brReg 5) 1 && !s.standbyFlag) s.active) := by
      rw [← kept, same, now, kept]
    obtain ⟨state, lock', ident', layout', lanes, hold, arrival, degraded, waits⟩ := Port.nowTrained_says (s.port p)
      (d.arrivals.foldl max 0 % 400) (bitAt ((s.port p).brReg 5) 1 && !s.standbyFlag) s.active
    have still := (is Port.degraded fun _ => rfl).trans degraded
    refine ⟨_, runs, (is Port.state fun _ => rfl).trans state, (is Port.lock fun _ => rfl).trans lock', (is Port.bridgeId fun _ => rfl).trans ident',
      (is Port.layout fun _ => rfl).trans layout', (is Port.laneEn fun _ => rfl).trans lanes, (is Port.holdUs fun _ => rfl).trans hold,
      (is Port.arrival fun _ => rfl).trans arrival, fault, still, cause, fun latched alone => ?_⟩
    exact (is Port.svcWait fun _ => rfl).trans (waits (by rw [latched, alone]; rfl))
  case refused =>
    have low := Nat.lt_of_lt_of_le low s.part.ports_le
    let v := s.setPort p (fun P => P.adopt (d.arrivals.foldl max 0 % 400))
    have set : Touch 0x20 s v := s.setPort_touch p _
    have not : s.bridgeOk p = false := by
      unfold State.bridgeOk
      simp [other]
    have now : v.port p = (s.port p).adopt (d.arrivals.foldl max 0 % 400) := State.port_setPort_same (w.ports ▸ low) _
    obtain ⟨a, b, is⟩ := State.failPort_port (set.shape w) low 5
    rw [now] at is
    refine ⟨_, (exec_portTrained_ok w low training lock answer sixteen steady found).2 not, ?_⟩
    dsimp only
    rw [is]
    exact ⟨rfl, rfl, State.raisePort_raised _ p⟩
  case bad =>
    have low := Nat.lt_of_lt_of_le low s.part.ports_le
    obtain ⟨step, runs⟩ := exec_portTrained_bad training bad
    obtain ⟨state, tries, -, puts⟩ := State.trainAgain_says w low left step
    exact ⟨_, runs, state.trans training, tries, puts⟩

end Sys2Proof.Machine
end

section
/-!
R96, R97, R170, R215, R279, R313, R322, R401 to R408, R420, R421: the steps of a cold and of a warm start.
-/

namespace Sys2Proof.Machine

open Sys2Proof

/-! ### Step 1 -/

/-- The retained domain begun anew, before POWER_ON is recorded. -/
def State.firstCounted (s : State) : State :=
  let s := s.restoreCounters.setEv (fun e => { e with pwrCycles := min (e.pwrCycles + 1) (2 ^ 24 - 1) })
  let seq := s.ev.nextSeq
  let s := if s.rc.lastSource = 0 then s.hwRecord 0x0201 0 false (leBytes 3 0) else s
  s.setRc (fun r => { r with valid := true, resetSeq := if r.lastSource = 0 then seq else r.resetSeq })

/-- What the log in flash shows, and POWER_ON. -/
def State.firstNoted (s : State) : State :=
  (s.setEv (fun e => { e with badCrc := cutCount e.log, logFull := decide (262144 ≤ e.log.length) })).record 0x0101 0 kNone 0
    (leBytes 1 s.rc.lastSource ++ leBytes 1 0)

theorem State.firstStep_valid {s : State} (valid : s.rc.valid = true) :
    s.firstStep = (s.setEv (fun e => { e with flushDue := e.flushDue || decide (0 < e.unflushed) })).firstNoted := by
  unfold State.firstStep
  dsimp only
  rw [if_pos valid]
  rfl

theorem State.firstStep_invalid {s : State} (invalid : s.rc.valid = false) : s.firstStep = s.firstCounted.firstNoted := by
  unfold State.firstStep
  dsimp only
  rw [if_neg (by simp [invalid])]
  rfl

theorem State.firstNoted_says (s : State) : s.firstNoted.ev.ring.getLast?.map (·.code) = some 0x0101 ∧
    s.firstNoted.ev.ring.getLast?.map (·.payload) = some (leBytes 1 s.rc.lastSource ++ leBytes 1 0) ∧
    Newest s s.firstNoted 0x0101 0 kNone 0 (leBytes 1 s.rc.lastSource ++ leBytes 1 0) := by
  have newest : Newest s s.firstNoted 0x0101 0 kNone 0 (leBytes 1 s.rc.lastSource ++ leBytes 1 0) := State.record_newest (s.setEv _) ..
  have last := newest
  unfold Newest at last
  rw [last]
  exact ⟨rfl, rfl, newest⟩

theorem State.hwRecord_keeps (s : State) (code sev : Nat) (noTime : Bool) (p : Bytes) : (s.hwRecord code sev noTime p).rc = s.rc ∧
    (s.hwRecord code sev noTime p).se = s.se ∧ (s.hwRecord code sev noTime p).ev.pwrCycles = s.ev.pwrCycles ∧
    (s.hwRecord code sev noTime p).ev.opTime = s.ev.opTime ∧ (s.hwRecord code sev noTime p).ev.restored = s.ev.restored :=
  ⟨rfl, rfl, rfl, rfl, rfl⟩

theorem State.restoreCounters_rc (s : State) : s.restoreCounters.rc = s.rc := by
  unfold State.restoreCounters
  split
  · rfl
  · rfl

theorem State.firstCounted_says (s : State) : s.firstCounted.rc.valid = true ∧ s.firstCounted.rc.lastSource = s.rc.lastSource ∧
    (∀ j, s.ev.journal = some j → s.firstCounted.ev.pwrCycles = min (j.pwrCycles + 1) (2 ^ 24 - 1) ∧
      s.firstCounted.ev.opTime = j.opTime ∧ s.firstCounted.ev.restored = true ∧ s.firstCounted.se.authSeq = j.authSeq) := by
  let a := s.restoreCounters.setEv (fun e => { e with pwrCycles := min (e.pwrCycles + 1) (2 ^ 24 - 1) })
  let b := if a.rc.lastSource = 0 then a.hwRecord 0x0201 0 false (leBytes 3 0) else a
  have counted : b.rc = s.rc ∧ b.se = a.se ∧ b.ev.pwrCycles = a.ev.pwrCycles ∧ b.ev.opTime = a.ev.opTime ∧ b.ev.restored = a.ev.restored := by
    show State.rc (if _ then _ else _) = _ ∧ State.se (if _ then _ else _) = _ ∧ (State.ev (if _ then _ else _)).pwrCycles = _ ∧
      (State.ev (if _ then _ else _)).opTime = _ ∧ (State.ev (if _ then _ else _)).restored = _
    split
    · obtain ⟨rc, se, cycles, time, restored⟩ := a.hwRecord_keeps 0x0201 0 false (leBytes 3 0)
      exact ⟨rc.trans s.restoreCounters_rc, se, cycles, time, restored⟩
    · exact ⟨s.restoreCounters_rc, rfl, rfl, rfl, rfl⟩
  obtain ⟨rc, se, cycles, time, restored⟩ := counted
  refine ⟨rfl, show b.rc.lastSource = _ by rw [rc], fun j journal => ?_⟩
  have from_ : a.ev.pwrCycles = min (j.pwrCycles + 1) (2 ^ 24 - 1) ∧ a.ev.opTime = j.opTime ∧ a.ev.restored = true ∧
      a.se.authSeq = j.authSeq := by
    show (State.setEv (State.restoreCounters s) _).ev.pwrCycles = _ ∧ (State.setEv (State.restoreCounters s) _).ev.opTime = _ ∧
      (State.setEv (State.restoreCounters s) _).ev.restored = _ ∧ (State.setEv (State.restoreCounters s) _).se.authSeq = _
    rw [State.restoreCounters, journal]
    exact ⟨rfl, rfl, rfl, rfl⟩
  obtain ⟨cycles', time', restored', auth⟩ := from_
  exact ⟨cycles.trans cycles', time.trans time', restored.trans restored', (congrArg Security.authSeq se).trans auth⟩

/-! ### Steps 3, 5, 7 and 9 -/

theorem State.scrub_found (s : State) {l : List (Nat × Nat)} (some_ : l ≠ []) : 2 ∈ (s.scrub l).ev.causes := by
  unfold State.scrub
  rw [if_neg (by simpa using some_)]
  obtain ⟨l, x, rfl⟩ := List.eq_nil_or_concat l |>.resolve_left some_
  rw [List.concat_eq_append, List.foldl_append]
  exact State.raiseCause_raised ..

theorem State.putStore_gtypes (s : State) (b : Bytes) (m : CellMap) :
    (s.putStore b m).groups.map (·.gtype) = m.groups.map (·.gtype) := by
  unfold State.putStore
  dsimp only
  rw [List.map_map]
  refine List.map_congr_left fun G _ => ?_
  show Group.gtype (if G.gtype = 0 then {} else _) = _
  split
  next zero => exact zero.symm
  next => rfl

/-- The calibration page taken, before it is judged. -/
def State.calLoaded (s : State) : State :=
  let s' := s.setCal (fun c => { c with
    entries := calEntries s.cal.page, invalid := (calFault s.cal.page).isSome, writer := u s.cal.page 0x28 1, used := c.flash })
  { s' with sh := { s'.sh with calOk := (calFault s.cal.page).isNone } }

theorem State.loadCal_cases (s : State) : (∃ k, s.loadCal = s.calLoaded.record 0x0901 3 kNone 0 (leBytes 1 k) ∧ calFault s.cal.page ≠ none) ∨
    s.loadCal = s.calLoaded := by
  unfold State.loadCal State.calLoaded
  dsimp only
  generalize calFault s.cal.page = fault
  cases fault with
  | none => exact .inr rfl
  | some x => exact .inl ⟨x.1, rfl, Option.some_ne_none x⟩

/-- The calibration in force. -/
theorem State.loadCal_says (s : State) : s.loadCal.cal.entries = calEntries s.cal.page ∧
    s.loadCal.cal.invalid = (calFault s.cal.page).isSome ∧ s.loadCal.cal.used = s.cal.flash ∧
    s.loadCal.sh = { s.sh with calOk := (calFault s.cal.page).isNone } ∧ (calFault s.cal.page = none → s.loadCal.ev = s.ev) := by
  rcases s.loadCal_cases with ⟨k, loads, bad⟩ | loads
  · have noted := s.calLoaded.record_touch 0x0901 3 kNone 0 (leBytes 1 k)
    rw [loads, comp_bit noted.cal rfl, comp_bit noted.sh rfl]
    simp only [State.calLoaded, State.setCal, true_and]
    exact fun fine => absurd fine bad
  · rw [loads]
    simp only [State.calLoaded, State.setCal, true_and, implies_true]

/-- Every port that is DOWN and populated begins to train (R135). -/
theorem State.trainAll_says {l : List Nat} (once : l.Nodup) {s : State} (w : WellShaped s) (low : ∀ p ∈ l, p < 80) : ∀ p ∈ l,
    ((l.foldl State.startTraining s).port p).state = .training ∧
    (s.rc.portOn p = true → Puts s (l.foldl State.startTraining s) (.train p (s.trainHeader p))) := by
  induction l generalizing s with
  | nil => exact fun p member => nomatch member
  | cons k l ih =>
    obtain ⟨fresh, once⟩ := List.nodup_cons.mp once
    have first := s.startTraining_touch k
    have rest : Touch 0x814020 (s.startTraining k) (l.foldl State.startTraining (s.startTraining k)) :=
      (Touch.refl _ _).foldl fun v p => v.startTraining_touch p
    intro p member
    rw [List.foldl_cons]
    rcases List.mem_cons.mp member with rfl | member
    · obtain ⟨a, b, is⟩ := State.startTraining_port w (low p (.head _))
      have other : ∀ (l : List Nat) (v : State), p ∉ l → (l.foldl State.startTraining v).port p = v.port p := by
        intro l
        induction l with
        | nil => exact fun v _ => rfl
        | cons k l ih =>
          intro v out
          have kept : PortsKept k v (v.startTraining k) := .trans (.setPort _) .trainAttempt
          rw [List.foldl_cons, ih _ fun member => out (.tail _ member), kept.other p fun is => out (is ▸ .head _)]
      rw [other l _ fresh, is]
      exact ⟨rfl, fun on_ => Puts.later (State.startTraining_puts on_) rest⟩
    · obtain ⟨state, puts⟩ := ih once (first.shape w) (fun p member => low p (.tail _ member)) p member
      refine ⟨state, fun on_ => Puts.before first ?_⟩
      have same : (s.startTraining k).trainHeader p = s.trainHeader p := by
        unfold State.trainHeader
        rw [comp_bit first.teth rfl]
      rw [← same]
      exact puts (by rw [first.rc_eq rfl]; exact on_)

theorem Recorder.ring_push (e : Recorder) (r : Rec) : (e.push r).ring = (e.ring ++ [r]).drop (e.ring.length + 1 - 1024) := by
  unfold Recorder.push
  dsimp only

theorem Recorder.ring_push_length (e : Recorder) (r : Rec) : (e.push r).ring.length ≤ 1024 := by
  rw [Recorder.ring_push, List.length_drop, List.length_append, List.length_singleton]
  omega

/-- The newest record stays for at least one more. -/
theorem Recorder.newest_mem_push {e : Recorder} {r : Rec} (last : e.ring.getLast? = some r) (short : e.ring.length ≤ 1024) (x : Rec) :
    r ∈ (e.push x).ring := by
  rw [Recorder.ring_push]
  generalize e.ring = l at last short ⊢
  obtain ⟨k, rfl⟩ := List.getLast?_eq_some_iff.mp last
  rw [List.length_append, List.length_singleton] at short ⊢
  rw [List.append_assoc, List.drop_append_of_le_length (by omega)]
  exact List.mem_append_right _ (.head _)

theorem State.record_ev (s : State) (code sev kind subject : Nat) (p : Bytes) :
    (s.record code sev kind subject p).ev = s.ev.push (s.mkRec code sev kind subject p) := by
  unfold State.record
  dsimp only

/-- A record just made is in the ring also when a cause is cleared after it. -/
theorem State.clearCause_code (s : State) (code sev kind subject : Nat) (p : Bytes) (cause k x : Nat) :
    code ∈ (s.record code sev kind subject p).ev.ring.map (·.code) ∧
    code ∈ ((s.record code sev kind subject p).clearCause cause k x).ev.ring.map (·.code) := by
  have last := s.record_newest code sev kind subject p
  have short : (s.record code sev kind subject p).ev.ring.length ≤ 1024 := by
    rw [State.record_ev]
    exact Recorder.ring_push_length ..
  unfold Newest at last
  generalize s.record code sev kind subject p = v at last short ⊢
  have now : code ∈ v.ev.ring.map (·.code) := List.mem_map.mpr ⟨_, List.mem_of_getLast? last, rfl⟩
  refine ⟨now, ?_⟩
  unfold State.clearCause
  split
  · unfold State.replaceRecord
    dsimp only
    rw [State.record_ev]
    exact List.mem_map.mpr ⟨_, Recorder.newest_mem_push last short _, rfl⟩
  · exact now

/-! ### The starts -/

theorem exec_coldStart {s : State} {k : Nat} {l : List (Nat × Nat)} (due : s.rc.due .cold k = true) :
    exec (.coldStart k l) s =
      if k = 1 then .next (s.firstStep.nextStep 2)
      else if k = 2 then .next (s.nextStep 3)
      else if k = 3 then .next ((s.scrub l).nextStep 4)
      else if k = 4 then .next (s.coldImage.nextStep 5)
      else if k = 5 then .next (s.loadStore.loadCal.nextStep 6)
      else if k = 6 then
        .next ((if s.role ≠ .starting then s else match s.roleFor with
          | .active => s.becomeActive
          | r => { s with role := r }).nextStep 7)
      else if k = 7 then .next ((if s.portsWait then s else s.trainDown).nextStep 8)
      else if k = 8 then .next (s.loadLoops.nextStep 9)
      else
        let s := s.loadRest
        let s := if s.le.pipes.all (fun x => !x.failed) then s.clearCause 0 kNone 0 else s
        .next (s.reachRun.nextStep 10) := by
  refine (if_neg (by simp [due])).trans ?_
  rfl

theorem ResetCtl.due_start {r : ResetCtl} {start : StartState} {step : Nat} (due : r.due start step = true) : r.start = start := by
  unfold ResetCtl.due at due
  simp only [Bool.and_eq_true, beq_iff_eq] at due
  obtain ⟨⟨⟨is, -⟩, -⟩, -⟩ := due
  exact is

/-- The image check of a cold start in its three cases (R404, R420). -/
theorem State.coldImage_says (s : State) : (s.rc.threeFailed = true → s.coldImage = s.recover 2) ∧
    (s.rc.threeFailed = false → s.se.flashFault.isSome = true → s.coldImage = s.recover 1) ∧
    (s.rc.threeFailed = false → s.se.flashFault = none → s.coldImage = s.runImage) := by
  unfold State.coldImage
  refine ⟨fun three => if_pos three, fun few bad => ?_, fun few fine => ?_⟩
  · rw [few, bad]
    rfl
  · rw [few, fine]
    rfl

/-- The image check of a warm start in its three cases (R420, R421). -/
theorem State.warmImage_says (s : State) : (s.rc.imageChanged = false → s.warmImage = s) ∧
    (s.rc.imageChanged = true → s.se.flashFault = none → s.warmImage = s.runImage) ∧
    (s.rc.imageChanged = true → s.se.flashFault.isSome = true → s.warmImage =
      (s.setSe (fun x => { x with imageBad := true, areaInvalid := true })).setRc (fun r => { r with imageChanged := false })) := by
  unfold State.warmImage
  refine ⟨fun still => ?_, fun changed fine => ?_, fun changed bad => ?_⟩
  · rw [still]
    rfl
  · rw [changed, fine]
    rfl
  · obtain ⟨x, is⟩ := Option.isSome_iff_exists.mp bad
    rw [changed, is]
    rfl

theorem State.loadStore_refused {s : State} {r o : Nat} (fault : s.part.storeCheck s.rc.retiredBk s.se.storeBytes = .inl (r, o)) :
    s.loadStore = (s.setSe (fun x => { x with storeDigest := sha256 [] })).record 0x0102 1 kNone 0 (leBytes 4 r ++ leBytes 4 o) := by
  unfold State.loadStore
  dsimp only
  rw [fault]

theorem State.loadStore_good {s : State} {secs : List StoreSec} {m : CellMap}
    (good : s.part.storeCheck s.rc.retiredBk s.se.storeBytes = .inr (secs, m)) :
    s.loadStore = (s.setSe (fun x => { x with storeDigest := sha256 s.se.storeBytes })).putStore s.se.storeBytes m := by
  unfold State.loadStore
  dsimp only
  rw [good]

/-- What a store in force sets (R96, R97, R108). -/
theorem State.putStore_says (s : State) (b : Bytes) (m : CellMap) : (s.putStore b m).sh.storeOk = true ∧ (s.putStore b m).ports = m.ports ∧
    (s.putStore b m).se = s.se ∧ (s.putStore b m).sh.ratingW = u b 0x10 4 ∧ (s.putStore b m).sh.target = u b 0x14 4 := by
  simp only [State.putStore, and_self]

/-- Without a store in force no section is read (R170, R215). -/
theorem State.loadRest_none {s : State} (none_ : s.sh.storeOk = false) : s.loadRest = s.noLimits.noDefaults.sectionRefused 5 0 := by
  have empty : s.sections s.se.storeBytes = [] := if_pos (by simp [none_])
  unfold State.loadRest
  dsimp only
  rw [empty]
  rfl

/-- Settles O42: each step is its own function of the state (`exec_coldStart`), whose cases are lemmas of their own. -/
theorem startStepsComplete : Obligations.StartStepsComplete := by
  refine ⟨fun s l due => ?first, fun s l => ⟨fun due => ⟨_, exec_coldStart due, rfl⟩, fun due => ?scrub, fun due => ?image, fun due => ?store, fun due => ?role,
    fun due w ready => ?train, fun due role waits still => ?wait, fun due => ⟨_, exec_coldStart due, rfl⟩, fun due => ?rest⟩,
    fun s k l no => ⟨s, if_pos (by simp [no]), rfl⟩, fun s => ⟨fun k other other' due => ?warm, fun due => ?warmImage, fun due => ?warmEnd⟩,
    fun s k no => ⟨s, if_pos (by simp [no]), rfl⟩, fun s => ⟨_, rfl, rfl⟩, fun s => ⟨_, rfl, rfl⟩⟩
  case first =>
    refine ⟨s.firstStep.nextStep 2, exec_coldStart due, ?_⟩
    by_cases valid : s.rc.valid = true
    · let v := s.setEv (fun e => { e with flushDue := e.flushDue || decide (0 < e.unflushed) })
      have is : s.firstStep = v.firstNoted := State.firstStep_valid valid
      obtain ⟨code, payload, newest⟩ := v.firstNoted_says
      rw [is]
      exact ⟨rfl, valid, code, payload, fun _ => ⟨rfl, rfl, newest⟩, fun _ wrong => absurd (valid.symm.trans wrong) (by decide)⟩
    · have invalid : s.rc.valid = false := by simpa using valid
      obtain ⟨now, source, counts⟩ := s.firstCounted_says
      obtain ⟨code, payload, -⟩ := s.firstCounted.firstNoted_says
      rw [State.firstStep_invalid invalid]
      rw [source] at payload
      refine ⟨rfl, now, code, payload, fun wrong => absurd wrong valid, fun j _ journal => ?_⟩
      obtain ⟨cycles, time, restored, auth⟩ := counts j journal
      exact ⟨cycles, time, restored, auth⟩
  case scrub =>
    refine ⟨_, exec_coldStart due, rfl, fun none_ => ?_, fun some_ => s.scrub_found some_⟩
    subst none_
    exact State.clearCause_cleared (s := s) (cause := 2) (kind := kNone) (subject := 0)
  case image =>
    obtain ⟨third, bad_, fine_⟩ := s.coldImage_says
    refine ⟨s.coldImage.nextStep 5, exec_coldStart due, rfl, fun three => ?_, fun few bad => ?_, fun few fine => ?_⟩
    · rw [third three]
      exact ⟨rfl, rfl⟩
    · rw [bad_ few bad]
      exact ⟨rfl, rfl, Bool.or_true _⟩
    · rw [fine_ few fine]
      simp only [State.runImage, State.setSe, State.setRc, State.nextStep, and_true]
      exact ResetCtl.due_start due
  case store =>
    let v := s.loadStore
    have loaded : Touch 0x8341e0 s v := s.loadStore_touch
    have cal := comp_bit loaded.cal rfl
    obtain ⟨entries, bad, used, sh, quiet⟩ := v.loadCal_says
    have kept : Touch 0x816080 v v.loadCal := v.loadCal_touch
    rw [cal] at entries bad used sh quiet
    have runs : exec (.coldStart 5 l) s = .next (v.loadCal.nextStep 6) := exec_coldStart due
    generalize v.loadCal = x at entries bad used sh quiet kept runs
    have calOk : x.sh.calOk = (calFault s.cal.page).isNone := by rw [sh]
    refine ⟨x.nextStep 6, runs, rfl, entries, bad, used, calOk, fun secs m good => ?_, fun r o fault => ?_⟩
    · have is : v = (s.setSe (fun x => { x with storeDigest := sha256 s.se.storeBytes })).putStore s.se.storeBytes m :=
        State.loadStore_good good
      obtain ⟨ok, ports, se, rating, target⟩ := State.putStore_says
        (s.setSe (fun x => { x with storeDigest := sha256 s.se.storeBytes })) s.se.storeBytes m
      have types := State.putStore_gtypes (s.setSe (fun x => { x with storeDigest := sha256 s.se.storeBytes })) s.se.storeBytes m
      rw [← is] at ok ports se rating target types
      have digest : v.se.storeDigest = sha256 s.se.storeBytes := by rw [se, State.setSe]
      generalize v = y at ok ports digest rating target types sh kept
      show x.sh.storeOk = _ ∧ x.ports = _ ∧ x.se.storeDigest = _ ∧ x.sh.ratingW = _ ∧ x.sh.target = _ ∧ x.groups.map (·.gtype) = _
      rw [sh, comp_bit kept.ports rfl, comp_bit kept.se rfl, comp_bit kept.groups rfl]
      exact ⟨ok, ports, digest, rating, target, types⟩
    · let u := s.setSe (fun x => { x with storeDigest := sha256 [] })
      have is : v = u.record 0x0102 1 kNone 0 (leBytes 4 r ++ leBytes 4 o) := State.loadStore_refused fault
      have noted := u.record_touch 0x0102 1 kNone 0 (leBytes 4 r ++ leBytes 4 o)
      have newest : Newest s v 0x0102 1 kNone 0 (leBytes 4 r ++ leBytes 4 o) := is ▸ u.record_newest ..
      rw [← is] at noted
      have back : Touch 0x834000 s v := ((State.setSe_touch s _).mono rfl).step noted rfl
      generalize v = y at back newest quiet sh kept
      show x.sh.storeOk = _ ∧ x.ports = _ ∧ x.groups = _ ∧ (_ → x.ev.ring.getLast? = _)
      rw [sh, comp_bit kept.ports rfl, comp_bit kept.groups rfl, comp_bit back.sh rfl, comp_bit back.ports rfl, comp_bit back.groups rfl]
      exact ⟨rfl, rfl, rfl, fun fine => by rw [quiet fine]; exact newest⟩
  case role =>
    refine ⟨_, exec_coldStart due, rfl, ?_⟩
    show State.role (if _ then _ else _) = _
    by_cases starts : s.role = .starting
    · rw [if_neg (not_not_intro starts), if_pos starts]
      cases s.roleFor <;> rfl
    · rw [if_pos starts, if_neg starts]
  case train =>
    refine ⟨_, exec_coldStart due, rfl, fun off => ?_, fun on_ p low kind down => ?_⟩
    · have idle : s.portsWait = false := by simp [State.portsWait, off]
      have none_ : s.trainDown = s := if_pos off
      rw [idle, none_]
      rfl
    · have goes : s.portsWait = false := by
        unfold State.portsWait
        by_cases standby : s.role = .standby
        · rcases ready standby with is | is <;> simp [is]
        · simp [standby]
      let l := (List.range s.part.ports).filter (fun p => ((s.port p).kind == 1 || (s.port p).kind == 2) && (s.port p).state == .down)
      have trains : s.trainDown = l.foldl State.startTraining s := if_neg on_
      have member : p ∈ l := List.mem_filter.mpr ⟨List.mem_range.mpr low, by simpa [down] using kind⟩
      obtain ⟨state, puts⟩ := State.trainAll_says (l := l) (List.nodup_range.filter _) w
        (fun k member => Nat.lt_of_lt_of_le (List.mem_range.mp (List.mem_filter.mp member).1) s.part.ports_le) p member
      rw [goes, trains]
      exact ⟨state, puts⟩
  case wait =>
    refine ⟨_, exec_coldStart due, ?_⟩
    rw [show s.portsWait = true by simp [State.portsWait, role, waits, still]]
    rfl
  case rest =>
    have rest : Touch 0x814e50 s s.loadRest := s.loadRest_touch
    let v := s.loadRest
    let x := if v.le.pipes.all (fun x => !x.failed) then v.clearCause 0 kNone 0 else v
    have cleared : Touch 0x814000 v x := .cond (v.clearCause_touch 0 kNone 0) (.refl _ v)
    have clk : x.clk = s.clk := (comp_bit cleared.clk rfl).trans (comp_bit rest.clk rfl)
    have rc : x.rc = s.rc := (cleared.rc_eq rfl).trans (rest.rc_eq rfl)
    refine ⟨x.reachRun.nextStep 10, exec_coldStart due, rfl, rfl, by show x.clk.now = _; rw [clk], by
      show min ((x.clk.now - x.rc.startAt) / 1000000) 65535 = _
      rw [clk, rc], fun none_ => ?_⟩
    have is : v = s.noLimits.noDefaults.sectionRefused 5 0 := State.loadRest_none none_
    let y := s.noLimits.noDefaults
    have refused : Touch 0x814000 y v := is ▸ State.record_touch y ..
    have pl : x.pl = y.pl := (comp_bit cleared.pl rfl).trans (comp_bit refused.pl rfl)
    have gv : x.gv = y.gv := (comp_bit cleared.gv rfl).trans (comp_bit refused.gv rfl)
    obtain ⟨noted, noted'⟩ := y.clearCause_code 0x0103 1 kNone 0 (leBytes 1 5 ++ List.replicate 3 0 ++ leBytes 4 0) 0 kNone 0
    show x.pl.mode = 2 ∧ x.gv.ok = false ∧ x.pl.budget = _ ∧ _ ∈ x.ev.ring.map (·.code)
    rw [pl, gv]
    refine ⟨rfl, rfl, rfl, ?_⟩
    show _ ∈ (State.ev (if _ then _ else _)).ring.map (·.code)
    split
    · rw [is]
      exact noted'
    · rw [is]
      exact noted
  case warm =>
    refine ⟨_, ?_, rfl⟩
    refine (if_neg (by simp [due])).trans ((if_neg other).trans (if_neg other'))
  case warmImage =>
    refine ⟨s.warmImage.nextStep 5, (if_neg (by simp [due])).trans (if_pos rfl), rfl, ?_⟩
    have start := ResetCtl.due_start due
    obtain ⟨same, fine_, bad_⟩ := s.warmImage_says
    cases changed : s.rc.imageChanged with
    | false =>
      rw [same changed]
      exact ⟨start, fun _ => rfl, fun wrong => absurd wrong Bool.false_ne_true⟩
    | true =>
      cases fault : s.se.flashFault with
      | none =>
        rw [fine_ changed fault]
        exact ⟨start, fun wrong => absurd wrong (by decide), fun _ => ⟨rfl, fun _ => rfl, fun wrong => absurd wrong (by decide)⟩⟩
      | some x =>
        rw [bad_ changed (by rw [fault]; rfl)]
        exact ⟨start, fun wrong => absurd wrong (by decide), fun _ => ⟨rfl, (fun wrong => nomatch wrong), fun _ => ⟨rfl, rfl⟩⟩⟩
  case warmEnd =>
    let u := if s.checkpoint.isSome then s.restoreCheckpoint else { s with gv := s.gv.initial }
    have restored : u.clk = s.clk ∧ u.ports = s.ports ∧ u.groups = s.groups ∧ u.le = s.le := by
      show State.clk (if _ then _ else _) = _ ∧ State.ports (if _ then _ else _) = _ ∧ State.groups (if _ then _ else _) = _ ∧
        State.le (if _ then _ else _) = _
      have kept := s.restoreCheckpoint_touch
      split
      · exact ⟨comp_bit kept.clk rfl, comp_bit kept.ports rfl, comp_bit kept.groups rfl, comp_bit kept.le rfl⟩
      · exact ⟨rfl, rfl, rfl, rfl⟩
    obtain ⟨clk, ports, groups, le⟩ := restored
    refine ⟨u.reachRun.nextStep 10, (if_neg (by simp [due])).trans ((if_neg (by decide)).trans (if_pos rfl)), rfl, rfl,
      congrArg Clock.now clk, ports, groups, le,
      fun c is => ?_⟩
    have from_ : u = s.restoreCheckpoint := if_pos (by simp [is])
    show u.gv.role = 0 ∧ u.gv.budgetMw = _ ∧ u.pl.mode = _ ∧ u.pl.fills = [] ∧ u.pl.trim = 0 ∧ u.pl.strs = _
    rw [from_, State.restoreCheckpoint, is]
    exact ⟨rfl, rfl, rfl, rfl, rfl, rfl⟩

end Sys2Proof.Machine
end

section
/-!
PROOF. The service accesses of a port (R130 to R132, R135, R165): what each access, its time limit and its response leave in the port.
-/

namespace Sys2Proof.Machine

open Sys2Proof

section
variable {s : State} {p : Nat} (w : WellShaped s) (low : p < 80)
include w low

theorem State.svcSend_port (r : SvcReq) : (s.svcSend p r).port p = { s.port p with line := { (s.port p).line with
    begun := (s.port p).line.begun ++ svcBlocks 0x4B (fieldAt r.op 4 36 + fieldAt r.tag 4 32 + fieldAt r.addr 16 16) r.data r.mask
      (svcCrcOf 0x4B (fieldAt r.op 4 36 + fieldAt r.tag 4 32 + fieldAt r.addr 16 16) r.data r.mask) } } :=
  State.port_setPort_same (w.ports ▸ low) _

/-- An access that ends shows the time limit, notes it, and gives a restore up that waited for it. -/
theorem State.endAccess_says (r : SvcReq) : ((s.endAccess p r).port p).svcTimeout = true ∧
    ((s.endAccess p r).port p).svcOut = (s.port p).svcOut ∧ Newest s (s.endAccess p r) 0x0B02 0 kPort p (leBytes 2 r.addr) ∧
    (r.use = .clearFault ∨ r.use = .readFault → ((s.endAccess p r).port p).restore = none ∧
      ∀ f ∈ s.hq.inflight, f.wait = .restore p → Answered s (s.endAccess p r) f.hdr stTimeout 0) := by
  let a := s.setPort p (fun P => { P with svcTimeout := true })
  let b := a.record 0x0B02 0 kPort p (leBytes 2 r.addr)
  let c := b.setPort p (fun P => { P with restore := none })
  let d := c.completeWhere (· == Wait.restore p) stTimeout 0
  have noted : Touch 0x814020 s b := ((s.setPort_touch p _).mono rfl).step (a.record_touch ..) rfl
  have closes : Touch 0x810020 b c := (b.setPort_touch p _).mono rfl
  have newest : Newest s b 0x0B02 0 kPort p (leBytes 2 r.addr) := a.record_newest ..
  have shown : b.port p = { s.port p with svcTimeout := true } :=
    ((a.record_touch ..).port_eq rfl p).trans (State.port_setPort_same (w.ports ▸ low) _)
  have given : d.port p = { s.port p with svcTimeout := true, restore := none } := by
    rw [(c.completeWhere_touch ..).port_eq rfl, State.port_setPort_same ((noted.shape w).ports ▸ low), shown]
  have clears : ((d.port p).svcTimeout = true ∧ (d.port p).svcOut = (s.port p).svcOut ∧ Newest s d 0x0B02 0 kPort p (leBytes 2 r.addr) ∧
      ((d.port p).restore = none ∧ ∀ f ∈ s.hq.inflight, f.wait = .restore p → Answered s d f.hdr stTimeout 0)) := by
    rw [given]
    refine ⟨rfl, rfl, Newest.kept newest (closes.step (c.completeWhere_touch ..) rfl) rfl, rfl,
      State.completeWhere_answersSince (F := 0x814020) (noted.step (b.setPort_touch p _) rfl) rfl (State.record_inflight ..) stTimeout 0⟩
  unfold State.endAccess
  cases use : r.use with
  | clearFault => exact ⟨clears.1, clears.2.1, clears.2.2.1, fun _ => clears.2.2.2⟩
  | readFault => exact ⟨clears.1, clears.2.1, clears.2.2.1, fun _ => clears.2.2.2⟩
  | unlatch | discover =>
    show (b.port p).svcTimeout = true ∧ (b.port p).svcOut = (s.port p).svcOut ∧ Newest s b 0x0B02 0 kPort p (leBytes 2 r.addr) ∧ _
    rw [shown]
    exact ⟨rfl, rfl, newest, fun wrong => by simp at wrong⟩

/-- A request that leaves in the period under way (R122, R132). -/
theorem exec_svcDn_sends {r : SvcReq} {rest : List SvcReq} (waits : (s.port p).svcWait = r :: rest) (sends : s.sendsOn p = true)
    (free : (s.port p).line.slotFree = true) (room : (s.port p).svcOut.length < 4) :
    Completes (.svcDn p) s (fun t =>
      let h := fieldAt r.op 4 36 + fieldAt (s.port p).freeTag 4 32 + fieldAt r.addr 16 16
      (t.port p).svcWait = rest ∧
      (t.port p).svcOut = (s.port p).svcOut ++ [{ r with tag := (s.port p).freeTag, sends := 1 }] ∧
      (t.port p).line.begun = (s.port p).line.begun ++ svcBlocks 0x4B h r.data r.mask (svcCrcOf 0x4B h r.data r.mask) ∧
      Puts s t (.svcDn p h r.data r.mask (svcCrcOf 0x4B h r.data r.mask)) ∧ ∀ q, q ≠ p → t.port q = s.port q) := by
  let r' : SvcReq := { r with tag := (s.port p).freeTag, sends := 1 }
  let v := s.setPort p (fun P => { P with svcWait := rest, svcOut := P.svcOut ++ [r'] })
  have taken : v.port p = { s.port p with svcWait := rest, svcOut := (s.port p).svcOut ++ [r'] } :=
    State.port_setPort_same (w.ports ▸ low) _
  have set : Touch 0x20 s v := s.setPort_touch p _
  have sent := State.svcSend_port (set.shape w) low r'
  refine ⟨v.svcSend p r', ?_, ?_⟩
  · show execSvcDn p s = _
    unfold execSvcDn
    dsimp only
    rw [waits]
    dsimp only
    exact if_neg (by simp [sends, free, Nat.not_le.mpr room])
  · dsimp only
    rw [sent, taken]
    exact ⟨rfl, rfl, rfl, Puts.before set (Puts.before (v.setPort_touch p _) (Puts.emit _ _)),
      (PortsKept.trans (.setPort _) (.svcSend _)).other⟩

/-- A request not answered in time is sent again. -/
theorem exec_svcTimeout_again {tag : Nat} {r : SvcReq} (found : (s.port p).svcOut.find? (fun r => r.tag == tag) = some r)
    (left : r.sends < 3) : Completes (.svcTimeout p tag) s (fun t => t.ev = s.ev ∧
      (s.sendsOn p = true → (s.port p).line.slotFree = true → ∃ h c, Puts s t (.svcDn p h r.data r.mask c)) ∧
      (t.port p).svcOut = (s.port p).svcOut.map (fun q => if q.tag = tag then { q with sends := q.sends + 1 } else q)) := by
  let out := (s.port p).svcOut.map (fun (q : SvcReq) => if q.tag = tag then { q with sends := q.sends + 1 } else q)
  let v := s.setPort p (fun P => { P with svcOut := out })
  have counted : v.port p = { s.port p with svcOut := out } := State.port_setPort_same (w.ports ▸ low) _
  have set : Touch 0x20 s v := s.setPort_touch p _
  have sends : v.sendsOn p = s.sendsOn p := by
    unfold State.sendsOn
    dsimp only
    rw [counted]
    rfl
  have runs : exec (.svcTimeout p tag) s = .next (if s.sendsOn p && (s.port p).line.slotFree then v.svcSend p r else v) := by
    show execSvcTimeout p tag s = _
    unfold execSvcTimeout
    dsimp only
    rw [found]
    dsimp only
    rw [if_pos left, sends]
  refine ⟨_, runs, ?_⟩
  dsimp only
  split
  next on_ =>
    rw [State.svcSend_port (set.shape w) low, counted]
    exact ⟨rfl, fun _ _ => ⟨_, _, Puts.before set (Puts.before (v.setPort_touch p _) (Puts.emit _ _))⟩, rfl⟩
  next off =>
    rw [counted]
    exact ⟨rfl, fun a b => absurd (by rw [a, b]; rfl) off, rfl⟩

/-- After the third send the access ends. -/
theorem exec_svcTimeout_ends {tag : Nat} {r : SvcReq} (found : (s.port p).svcOut.find? (fun r => r.tag == tag) = some r)
    (none_ : 3 ≤ r.sends) : Completes (.svcTimeout p tag) s (fun t => (t.port p).svcTimeout = true ∧
      (t.port p).svcOut = (s.port p).svcOut.filter (fun q => q.tag != tag) ∧
      Newest s t 0x0B02 0 kPort p (leBytes 2 r.addr) ∧
      (r.use = .clearFault ∨ r.use = .readFault → (t.port p).restore = none ∧
        ∀ f ∈ s.hq.inflight, f.wait = .restore p → Answered s t f.hdr stTimeout 0)) := by
  let v := s.setPort p (fun P => { P with svcOut := P.svcOut.filter (fun q => q.tag != tag) })
  have taken : (v.port p).svcOut = (s.port p).svcOut.filter (fun q => q.tag != tag) := by
    rw [State.port_setPort_same (w.ports ▸ low)]
  have set : Touch 0x20 s v := s.setPort_touch p _
  obtain ⟨shown, out, newest, ends⟩ := State.endAccess_says (set.shape w) low r
  refine ⟨v.endAccess p r, ?_, shown, out.trans taken, newest, fun use => ⟨(ends use).1, fun f member is => Answered.before set rfl ((ends use).2 f member is)⟩⟩
  show execSvcTimeout p tag s = _
  unfold execSvcTimeout
  dsimp only
  rw [found]
  exact if_neg (by omega)

/-- A good response to an outstanding request. -/
theorem exec_svcResponse_runs {f : SvcFrame} {r : SvcReq} (hears : s.hears p = true) (good : svcGood f = true)
    (op : svcOp f = 9 ∨ svcOp f = 10) (found : (s.port p).svcOut.find? (fun r => r.tag == svcTag f) = some r) :
    ∃ v, WellShaped v ∧ v.port p = { s.port p with svcOut := (s.port p).svcOut.filter (fun q => q.tag != svcTag f) } ∧
      exec (.svcResponse p f) s = .next (v.svcDone p r (bits f.hdr 15 8) f.data) := by
  refine ⟨s.setPort p (fun P => { P with svcOut := P.svcOut.filter (fun q => q.tag != svcTag f) }), (s.setPort_touch p _).shape w,
    State.port_setPort_same (w.ports ▸ low) _, ?_⟩
  show execSvcResponse p f s = _
  unfold execSvcResponse
  rw [if_neg (by simp [hears]), if_neg (by rcases op with op | op <;> simp [good, op])]
  dsimp only
  rw [found]

/-- The good responses by what the request was for (R135, R165). -/
theorem exec_svcResponse_good {f : SvcFrame} (hears : s.hears p = true) (good : svcGood f = true)
    (op : svcOp f = 9 ∨ svcOp f = 10) (r : SvcReq) (found : (s.port p).svcOut.find? (fun r => r.tag == svcTag f) = some r) :
    (r.use = .unlatch → Completes (.svcResponse p f) s (fun t =>
        t.port p = { (s.port p) with svcOut := (s.port p).svcOut.filter (fun q => q.tag != svcTag f) })) ∧
      (r.use = .discover → bits f.hdr 15 8 = 0 → Completes (.svcResponse p f) s (fun t =>
        t.port p = { (s.port p) with svcOut := (s.port p).svcOut.filter (fun q => q.tag != svcTag f)
                                     brRead := (s.port p).brRead ++ [(r.addr, f.data)] })) ∧
      (r.use = .clearFault → Completes (.svcResponse p f) s (fun t =>
        (t.port p).svcOut = (s.port p).svcOut.filter (fun q => q.tag != svcTag f) ∧
        (t.port p).svcWait = (s.port p).svcWait ++
          [{ tag := 0, op := 1, addr := 5, data := 0, mask := 0, sends := 0, use := .readFault }])) ∧
      (r.use = .readFault → bits f.hdr 15 8 = 0 → (s.port p).restore = none → Completes (.svcResponse p f) s (fun t =>
        (t.port p).brFault = f.data)) := by
  obtain ⟨v, shape, taken, runs⟩ := exec_svcResponse_runs w low hears good op found
  refine ⟨fun use => ⟨_, runs, ?_⟩, fun use ok => ⟨_, runs, ?_⟩, fun use => ⟨_, runs, ?_⟩, fun use ok calm => ⟨_, runs, ?_⟩⟩
  all_goals dsimp only; unfold State.svcDone; rw [use]; dsimp only
  · exact taken
  · rw [if_pos ok, State.port_setPort_same (shape.ports ▸ low), taken]
  · unfold State.svcQueue
    rw [State.port_setPort_same (shape.ports ▸ low), taken]
    exact ⟨rfl, rfl⟩
  · rw [if_pos ok, if_neg]
    · rw [State.port_setPort_same (shape.ports ▸ low)]
    · rw [State.port_setPort_same (shape.ports ▸ low), taken]
      simp [calm]

end

/-! ### Frames that are bad, and ports that do not hear -/

/-- A frame taken for bad counts and nothing else (R142). -/
theorem exec_frames_bad {s : State} {p : Nat} (f : SvcFrame) (hears : s.hears p = true) :
    (svcGood f = false ∨ svcOp f ≠ 9 ∧ svcOp f ≠ 10 → exec (.svcResponse p f) s = .next (s.badSvc p)) ∧
    (svcGood f = false ∨ svcOp f ≠ 11 ∨ 3 < svcIndex f → exec (.held p f) s = .next (s.badSvc p)) ∧
    (svcGood f = false ∨ svcOp f ≠ 12 ∨ 3 < svcIndex f → exec (.status p f) s = .next (s.badSvc p)) := by
  have hears' : ¬ (!s.hears p) = true := by simp [hears]
  refine ⟨fun bad => (if_neg hears').trans (if_pos ?_), fun bad => (if_neg hears').trans (if_pos ?_),
    fun bad => (if_neg hears').trans (if_pos ?_)⟩
  all_goals simp; grind

/-- A port that is not trained, lost or training takes no service frame. -/
theorem exec_frames_deaf {s : State} {p : Nat} (f : SvcFrame) (deaf : s.hears p = false) : exec (.svcResponse p f) s = .next s ∧
    exec (.held p f) s = .next s ∧ exec (.status p f) s = .next s := by
  have deaf' : (!s.hears p) = true := by simp [deaf]
  exact ⟨if_pos deaf', if_pos deaf', if_pos deaf'⟩

/-- A good STATUS: the temperatures it carries, and then its BR_FAULT. -/
theorem exec_status_runs {s : State} {p : Nat} {f : SvcFrame} (hears : s.hears p = true) (good : svcGood f = true) (op : svcOp f = 12)
    (index : svcIndex f ≤ 3) : ∃ g : Port → Port, (∀ P, (g P).temps =
      (P.temps.set (2 * svcIndex f) (toSigned 16 (bits f.data 15 0))).set (2 * svcIndex f + 1) (toSigned 16 (bits f.data 31 16))) ∧
      exec (.status p f) s = .next ((s.setPort p g).takeFault p (f.mask % 16)) := by
  refine ⟨?g, ?temps, ?runs⟩
  case runs =>
    show execStatus p f s = _
    unfold execStatus
    rw [if_neg (by simp [hears]), if_neg (by simp [good, op, index])]
  case temps => exact fun _ => rfl

/-- Settles O23: the request and its time limit by `exec_svcDn_sends` and `exec_svcTimeout_*`, the response by
`exec_svcResponse_good`; a STATUS is a BR_FAULT taken after its temperatures, which the ladder leaves (`State.takeFault_says`). -/
theorem serviceAccessesComplete : Obligations.ServiceAccessesComplete := by
  refine ⟨fun s p r rest w low waits sends free room => exec_svcDn_sends w (Nat.lt_of_lt_of_le low s.part.ports_le) waits sends free room,
    fun s p idle => ⟨s, ?idle, rfl⟩,
    fun s p tag r w low found => ⟨exec_svcTimeout_again w (Nat.lt_of_lt_of_le low s.part.ports_le) found,
      exec_svcTimeout_ends w (Nat.lt_of_lt_of_le low s.part.ports_le) found⟩,
    fun s p f w low up => ?frames, fun s p f deaf => ?deaf⟩
  case idle =>
    show execSvcDn p s = _
    unfold execSvcDn
    dsimp only
    split
    · rfl
    next r rest waits =>
      rw [if_pos]
      rcases idle with idle | idle | idle | idle
      · simp [waits] at idle
      all_goals simp [idle]
  case frames =>
    have hears : s.hears p = true := by
      unfold State.hears
      rcases up with up | up | up <;> simp [up, low]
    have low := Nat.lt_of_lt_of_le low s.part.ports_le
    obtain ⟨badResponse, badHeld, badStatus⟩ := exec_frames_bad f hears
    have hears' : ¬ (!s.hears p) = true := by simp [hears]
    refine ⟨fun bad => ⟨_, badResponse bad, rfl⟩, exec_svcResponse_good w low hears, fun good op index still => ?held, fun bad => ⟨_, badHeld bad, rfl⟩,
      fun good op index => ?status, fun bad => ⟨_, badStatus bad, rfl⟩⟩
    case held =>
      exact ⟨s.setPort p (fun P => { P with held := P.held.set (svcIndex f) (some (toSigned 32 f.data)) }),
        (if_neg hears').trans ((if_neg (by simp [good, op, index])).trans (if_neg still)),
        State.port_setPort_same (w.ports ▸ low) _, (PortsKept.setPort _).other⟩
    case status =>
      obtain ⟨g, read, runs⟩ := exec_status_runs hears good op index
      have now : (s.setPort p g).port p = g (s.port p) := State.port_setPort_same (w.ports ▸ low) _
      obtain ⟨same, fault, -⟩ := State.takeFault_says ((s.setPort_touch p g).shape w) low (f.mask % 16)
      have temps (P : Port) : P.sansTrained.temps = P.temps := rfl
      exact ⟨_, runs, fault, by rw [← temps, same, temps, now, read]⟩
  case deaf =>
    obtain ⟨response, held, status⟩ := exec_frames_deaf f deaf
    exact ⟨⟨_, response, rfl⟩, ⟨_, held, rfl⟩, ⟨_, status, rfl⟩⟩

end Sys2Proof.Machine
end

section
/-!
R120 to R128, R142 to R144: the fast frames of a port, and its loss.
-/

namespace Sys2Proof.Machine

open Sys2Proof

/-! ### What the line of a port shows -/

/-- What the last frame of a port and its state of training leave in it. -/
def Port.onLine (P : Port) : PortState × Bool × Nat × Nat × Bool × Option Nat × List Int :=
  (P.state, P.fresh, P.hdr, P.badRun, P.stale, P.upSeq, P.raw)

/-- No port changes in what its line shows. -/
def LineKept (s t : State) : Prop := ∀ p, (t.port p).onLine = (s.port p).onLine

section
variable {s t v : State}

theorem LineKept.refl (s : State) : LineKept s s := fun _ => rfl

theorem LineKept.trans (first : LineKept s t) (second : LineKept t v) : LineKept s v := fun p => (second p).trans (first p)

theorem LineKept.cond {c : Prop} [Decidable c] (yes : LineKept s t) (no : LineKept s v) : LineKept s (if c then t else v) := by
  split <;> assumption

theorem LineKept.of_ports (ports : t.ports = s.ports) : LineKept s t := fun p => by rw [State.port, ports, State.port]

theorem LineKept.of_touch {F : Nat} (g : Touch F s t) (ports : F.testBit 5 = false) : LineKept s t := fun p => by
  rw [g.port_eq ports]

theorem LineKept.of_ladder (kept : LadderKept s t) : LineKept s t := fun p => kept.field (φ := Port.onLine) (fun _ => rfl) p

theorem LineKept.setPort (s : State) (p : Nat) {f : Port → Port} (kept : ∀ P, (f P).onLine = P.onLine) : LineKept s (s.setPort p f) := by
  intro q
  rw [State.port_setPort]
  split
  · exact kept _
  · rfl

theorem LineKept.foldl {α : Type} {f : State → α → State} (each : ∀ v a, LineKept v (f v a)) (l : List α) (s : State) :
    LineKept s (l.foldl f s) := by
  induction l generalizing s with
  | nil => exact .refl s
  | cons a l ih => exact (each s a).trans (ih _)

end

section
variable (s : State)

theorem State.endAccess_lineKept (p : Nat) (r : SvcReq) : LineKept s (s.endAccess p r) := by
  have timeout : LineKept s ((s.setPort p (fun P => { P with svcTimeout := true })).record 0x0B02 0 kPort p (leBytes 2 r.addr)) :=
    .trans (.setPort s p (by intro P; rfl)) (.of_touch (State.record_touch ..) rfl)
  have ends (v : State) : LineKept v ((v.setPort p (fun P => { P with restore := none })).completeWhere (· == Wait.restore p) stTimeout 0) :=
    .trans (.setPort v p (by intro P; rfl)) (.of_touch (State.completeWhere_touch ..) rfl)
  unfold State.endAccess
  cases r.use with
  | clearFault => exact timeout.trans (ends _)
  | readFault => exact timeout.trans (ends _)
  | unlatch => exact timeout
  | discover => exact timeout

theorem State.endAccesses_lineKept (p : Nat) : LineKept s (s.endAccesses p) :=
  .trans (.setPort s p (by intro P; rfl)) (.foldl (fun v r => v.endAccess_lineKept p r) _ _)

theorem State.idlePorts_lineKept : LineKept s s.idlePorts := by
  refine .trans (t := s.mapPorts Port.idleLine) (fun p => ?_) (.foldl State.endAccesses_lineKept _ _)
  exact nth_map_field s.ports Port.idleLine p {} Port.onLine fun _ => rfl

/-- Ports that idle, and a role that ends, leave what the lines have shown (R285). -/
theorem State.stepDown_lineKept (r : Role) : LineKept s (s.stepDown r) := by
  unfold State.stepDown
  exact .trans (.trans (.of_touch s.dropLead_touch rfl) (State.idlePorts_lineKept _)) (.of_ports rfl)

theorem State.depose_lineKept (seen : Nat) : LineKept s (s.depose seen) := by
  let v := { s.stepDown .offline with teth := { (s.stepDown .offline).teth with deposed := true } }
  exact .trans (t := v) (.trans (s.stepDown_lineKept .offline) (.of_ports rfl)) (.of_touch (v.record_touch ..) rfl)

theorem State.ownership_lineKept (p : Nat) : LineKept s (s.ownership p) := by
  unfold State.ownership
  exact .cond (.refl s) (.cond (.refl s) (.cond (s.depose_lineKept _) (.cond (.cond (s.depose_lineKept _) (.of_ports rfl)) (.refl s))))

theorem State.endTakeover_lineKept (st r : Nat) : LineKept s (s.endTakeover st r) := .of_touch (s.endTakeover_touch st r) rfl

/-- The time a switch of ownership took, noted once every port reports its epoch (Table 11-12). -/
def State.noteSwitch : State := match s.teth.tkoAt with
  | some t =>
    if s.active && s.allReport s.teth.epoch then
      { s with teth := { s.teth with tkoAt := none, lastSwitch := min ((s.clk.now - t) / 10) 65535 } }
    else s
  | none => s

/-- A handover as its ports report it (R286). -/
def State.closeHand : State := match s.teth.hand with
  | .offered e => if s.active && s.allReport (nextEpoch e) then (s.stepDown .standby).endTakeover stOk 0 else s
  | .taken e => if s.active && s.allReport e then s.endTakeover stOk 0 else s
  | _ => s

theorem State.switchCheck_eq : s.switchCheck = s.noteSwitch.closeHand := rfl

theorem State.switchCheck_lineKept : LineKept s s.switchCheck := by
  have notes : LineKept s s.noteSwitch := by
    unfold State.noteSwitch
    split
    · exact .cond (.of_ports rfl) (.refl s)
    · exact .refl s
  have closes (v : State) : LineKept v v.closeHand := by
    unfold State.closeHand
    split
    · exact .cond (.trans (v.stepDown_lineKept .standby) (State.endTakeover_lineKept _ _ _)) (.refl v)
    · exact .cond (v.endTakeover_lineKept _ _) (.refl v)
    · exact .refl v
  rw [State.switchCheck_eq]
  exact notes.trans (closes _)

theorem State.brFaults_lineKept (p v : Nat) : LineKept s (s.brFaults p v).1 := .setPort s p (by intro P; rfl)

theorem State.frameFaults_lineKept (p : Nat) : LineKept s (s.frameFaults p).1 := by
  have a : LineKept s (if bitAt (s.port p).hdr 16 then s.brFaults p (setBit (s.port p).brFault 0 true) else (s, [])).1 := by
    split
    · exact s.brFaults_lineKept p _
    · exact .refl s
  unfold State.frameFaults
  dsimp only
  split
  all_goals
    split
    · exact a.trans (.setPort _ p (by intro P; rfl))
    · exact a

theorem State.frameSense_lineKept (p : Nat) : LineKept s (s.frameSense p).1 := by
  unfold State.frameSense
  dsimp only
  have seen (x : Option Int) : LineKept s (s.setPort p (fun P => { P with
      laneSeen := if P.laneSeen.isSome then P.laneSeen else x
      laneConst := P.laneConst && (P.laneSeen.isNone || P.laneSeen == x) })) := .setPort s p (by intro P; rfl)
  split
  · exact seen _
  · split
    · exact (seen _).trans (.setPort _ p (by intro P; rfl))
    · exact seen _

theorem State.frameFindings_lineKept (p : Nat) : LineKept s (s.frameFindings p) :=
  .trans (.trans (s.frameFaults_lineKept p) (State.frameSense_lineKept _ p)) (.of_ladder (State.ladderAll_ladderKept _ _))

theorem State.frameStop_lineKept (p : Nat) : LineKept s (s.frameStop p) := by
  unfold State.frameStop
  dsimp only
  have stops : LineKept s (s.setPort p (fun P => { P with stopSeen := true })) := .setPort s p (by intro P; rfl)
  have ends := stops.trans (.of_touch (State.completeWhere_touch _ (· == Wait.retire p) stOk 0) rfl)
  refine .cond (.refl s) (.cond (.trans ?_ (.of_touch (State.groupOff_touch ..) rfl)) ?_)
  all_goals exact .cond ends stops

/-- A good frame taken: its header, its samples and the gaps of its sequence. -/
def State.takeFrame (p : Nat) (f : FastFrame) (gap : Nat) (run : Port → Nat) : State :=
  (s.setPort p (fun P => { P with
    hdr := f.hdr, upSeq := some (f.hdr % 256), badRun := 0
    fastCrc := satAdd 16 P.fastCrc gap, badThisS := P.badThisS + gap, obeyRun := run P })).deposit p f.payload

/-- What a good frame of a cell shows beyond its samples. -/
def State.cellFrame (p : Nat) : State := if (s.port p).isCell then (s.frameFindings p).frameStop p else s

theorem State.cellFrame_lineKept (p : Nat) : LineKept s (s.cellFrame p) :=
  .cond (.trans (s.frameFindings_lineKept p) (State.frameStop_lineKept _ p)) (.refl s)

end

/-! ### Frames received -/

section
variable {s : State} {p : Nat} (w : WellShaped s) (low : p < 80)
include w low

theorem State.badUp_port : (s.badUp p).port p = { s.port p with
    fastCrc := satInc 16 (s.port p).fastCrc, badRun := (s.port p).badRun + 1, badThisS := (s.port p).badThisS + 1
    stale := true, fresh := true } := State.port_setPort_same (w.ports ▸ low) _

omit w low in
/-- A good frame of a trained port is taken, and then what it leads to (R126). -/
theorem State.goodUp_eq (s : State) (p : Nat) (f : FastFrame) : ∃ gap run,
    s.goodUp p f = (((s.takeFrame p f gap run).cellFrame p).ownership p).switchCheck := ⟨_, _, rfl⟩

theorem State.takeFrame_port (f : FastFrame) (gap : Nat) (run : Port → Nat) : ((s.takeFrame p f gap run).port p).onLine =
    ((s.port p).state, true, f.hdr, 0, false, some (f.hdr % 256), (List.range 8).map (laneOf f.payload)) := by
  unfold State.takeFrame State.deposit
  rw [State.port_setPort_same (((s.setPort_touch p _).shape w).ports ▸ low), State.port_setPort_same (w.ports ▸ low)]
  rfl

theorem State.goodUp_port (f : FastFrame) : ((s.goodUp p f).port p).onLine =
    ((s.port p).state, true, f.hdr, 0, false, some (f.hdr % 256), (List.range 8).map (laneOf f.payload)) := by
  obtain ⟨gap, run, is⟩ := State.goodUp_eq s p f
  rw [is, State.switchCheck_lineKept, State.ownership_lineKept, State.cellFrame_lineKept, State.takeFrame_port w low]

omit w low in
/-- A good frame of a port leaves the lines of the others. -/
theorem State.goodUp_other (f : FastFrame) {q : Nat} (other : q ≠ p) : ((s.goodUp p f).port q).onLine = (s.port q).onLine := by
  obtain ⟨gap, run, is⟩ := State.goodUp_eq s p f
  rw [is, State.switchCheck_lineKept, State.ownership_lineKept, State.cellFrame_lineKept]
  unfold State.takeFrame State.deposit
  simp [other.symm]

/-- A good frame of a lost port (R142). -/
theorem State.lostUp_port (f : FastFrame) : ((s.lostUp p f).port p).onLine =
    ((s.port p).state, true, f.hdr, 0, false, some (f.hdr % 256), (List.range 8).map (laneOf f.payload)) := by
  obtain ⟨gap, is⟩ : ∃ gap, s.lostUp p f = s.takeFrame p f gap Port.obeyRun := ⟨_, rfl⟩
  rw [is, State.takeFrame_port w low]

end

/-! ### Frames sent -/

section
variable (s : State) (p : Nat)

/-- The line of a port is no part of its frame. -/
theorem State.dn_setLine (l : Line) : (s.setPort p (fun P => { P with line := l })).dnHeader p = s.dnHeader p ∧
    (s.setPort p (fun P => { P with line := l })).dnPayload p = s.dnPayload p ∧
    ((s.setPort p (fun P => { P with line := l })).port p).launchNow = (s.port p).launchNow := by
  let v := s.setPort p (fun P => { P with line := l })
  have is : v.port p = s.port p ∨ v.port p = { s.port p with line := l } := by
    rw [State.port_setPort]
    split
    · exact .inr rfl
    · exact .inl rfl
  show v.dnHeader p = s.dnHeader p ∧ v.dnPayload p = s.dnPayload p ∧ (v.port p).launchNow = (s.port p).launchNow
  unfold State.dnHeader State.dnPayload State.fieldWritten State.srFlag State.runFlag
  dsimp only
  rcases is with is | is
  all_goals
    rw [is]
    exact ⟨rfl, rfl, rfl⟩

theorem State.endPeriod_dn (d : Nat) : (s.endPeriod p d).dnHeader p = s.dnHeader p ∧ (s.endPeriod p d).dnPayload p = s.dnPayload p ∧
    ((s.endPeriod p d).port p).launchNow = (s.port p).launchNow := by
  let v := if d = 0 then s else s.emit (.launchMove p (d / 50) (d % 50))
  have moves : v.dnHeader p = s.dnHeader p ∧ v.dnPayload p = s.dnPayload p ∧ (v.port p).launchNow = (s.port p).launchNow := by
    unfold v
    split
    · exact ⟨rfl, rfl, rfl⟩
    · exact ⟨rfl, rfl, rfl⟩
  unfold State.endPeriod
  dsimp only
  split
  · exact moves
  · obtain ⟨header, payload, launch⟩ := v.dn_setLine p { begun := [], hist := ((s.port p).line.period (if d = 0 then none else some (d / 50, d % 50))).2 }
    exact ⟨header.trans moves.1, payload.trans moves.2.1, launch.trans moves.2.2⟩

/-- The outputs and the line of a period that ends. -/
theorem State.endPeriod_says (d : Nat) : Touch 0x800020 s (s.endPeriod p d) ∧ PortsKept p s (s.endPeriod p d) ∧
    (d ≠ 0 → Puts s (s.endPeriod p d) (.launchMove p (d / 50) (d % 50))) ∧
    ((s.port p).line.begun ≠ [] → Puts s (s.endPeriod p d)
      (.line p ((s.port p).line.period (if d = 0 then none else some (d / 50, d % 50))).1 (d % 50))) := by
  let v := if d = 0 then s else s.emit (.launchMove p (d / 50) (d % 50))
  have moves : Touch 0x800000 s v := .cond (.refl _ _) (s.emit_touch _)
  have moved : d ≠ 0 → Puts s v (.launchMove p (d / 50) (d % 50)) := fun is => by
    rw [show v = _ from if_neg is]
    exact Puts.emit _ _
  have kept : PortsKept p s v := .of_touch moves rfl rfl
  unfold State.endPeriod
  dsimp only
  split
  next idle =>
    exact ⟨moves.mono rfl, kept, moved, fun begun => absurd (by simpa using idle) begun⟩
  next =>
    refine ⟨((moves.mono rfl).step (v.setPort_touch p _) rfl).step (State.emit_touch ..) rfl,
      (kept.trans (.setPort _)).trans (.of_eq rfl rfl), fun is => ?_, fun _ => ?_⟩
    · exact Puts.later (Puts.later (moved is) (v.setPort_touch p _)) (State.emit_touch ..)
    · exact Puts.before moves (Puts.before (v.setPort_touch p _) (Puts.emit _ _))

/-- The last port of a forced takeover ends it (R287). -/
theorem State.forcedSent_last {l : List Nat} (hand : s.teth.hand = .forced l) (last : l.filter (· != p) = []) :
    (s.forcedSent p).teth.hand = .none ∧ ∀ f ∈ s.hq.inflight, f.wait = .takeover → Answered s (s.forcedSent p) f.hdr stOk 0 := by
  let v : State := { s with teth := { s.teth with hand := .none } }
  have is : s.forcedSent p = v.completeWhere (· == Wait.takeover) stOk 0 := by
    unfold State.forcedSent
    rw [hand]
    dsimp only
    rw [last]
    rfl
  rw [is]
  exact ⟨congrArg Tether.hand (comp_bit (State.completeWhere_touch ..).teth rfl), fun f member waits =>
    Answered.since (s := s) (v := v) (State.completeWhere_answers v (· == Wait.takeover) stOk 0 f member (by simp [waits])) rfl ⟨[], rfl⟩⟩

end

/-- A frame of a port that sends (R122, R123, R126). -/
theorem exec_fastDn_sends {s : State} {p : Nat} (sends : s.sendsOn p = true) : Completes (.fastDn p) s (fun t =>
      let now := (s.port p).launchNow
      let d := (launchUi now + 1250 - launchUi (s.port p).sentLaunch) % 1250
      Puts s t (.fastDn p (s.dnHeader p) (s.dnPayload p) (fastCrcOf 0x2D (s.dnHeader p) (s.dnPayload p))) ∧
      (WellShaped s → (t.port p).sentLaunch = now ∧ (t.port p).line.begun =
        fastBlocks 0x2D (s.dnHeader p) (s.dnPayload p) (fastCrcOf 0x2D (s.dnHeader p) (s.dnPayload p))) ∧
      (d ≠ 0 → Puts s t (.launchMove p (d / 50) (d % 50))) ∧
      ((s.port p).line.begun ≠ [] → Puts s t
        (.line p ((s.port p).line.period (if d = 0 then none else some (d / 50, d % 50))).1 (d % 50))) ∧
      (∀ q, q ≠ p → t.port q = s.port q) ∧
      (∀ l, s.teth.hand = .forced l → l.filter (· != p) = [] → t.teth.hand = .none ∧
        ∀ f ∈ s.hq.inflight, f.wait = .takeover → Answered s t f.hdr stOk 0)) := by
  let d := (launchUi (s.port p).launchNow + 1250 - launchUi (s.port p).sentLaunch) % 1250
  obtain ⟨ends, kept, moves, lines⟩ := s.endPeriod_says p d
  obtain ⟨header, payload, launch⟩ := s.endPeriod_dn p d
  let a := s.endPeriod p d
  let h := s.dnHeader p
  let b := s.dnPayload p
  let c := a.setPort p (fun P => { P with
      sentLaunch := P.launchNow, line := { P.line with begun := fastBlocks 0x2D h b (fastCrcOf 0x2D h b) } })
  let e := c.emit (.fastDn p h b (fastCrcOf 0x2D h b))
  have sets : Touch 0x800020 s c := ends.step (a.setPort_touch p _) rfl
  have sent : Touch 0x800020 s e := sets.step (c.emit_touch _) rfl
  have runs : exec (.fastDn p) s = .next (e.forcedSent p) := by
    show execFastDn p s = _
    unfold execFastDn
    dsimp only
    rw [if_neg (by simp [sends]), header, payload]
  have last := e.forcedSent_touch p
  refine ⟨_, runs, ?_, fun w => ?_, fun moved => ?_, fun begun => ?_, fun q other => ?_, fun l hand none_ => ?_⟩
  · exact Puts.later (Puts.before sets (Puts.emit c _)) last
  · have low : p < s.part.ports := by
      unfold State.sendsOn at sends
      simp at sends
      exact sends.1.1
    have now : c.port p = _ := State.port_setPort_same ((ends.shape w).ports ▸ Nat.lt_of_lt_of_le low s.part.ports_le) _
    rw [last.port_eq rfl, show e.port p = c.port p from rfl, now]
    exact ⟨launch, rfl⟩
  · exact Puts.later (Puts.later (Puts.later (moves moved) (a.setPort_touch p _)) (c.emit_touch _)) last
  · exact Puts.later (Puts.later (Puts.later (lines begun) (a.setPort_touch p _)) (c.emit_touch _)) last
  · rw [last.port_eq rfl]
    exact (kept.trans (.setPort _)).other q other
  · obtain ⟨ended, answered⟩ := e.forcedSent_last p ((congrArg Tether.hand (comp_bit sent.teth rfl)).trans hand) none_
    refine ⟨ended, fun f member waits => Answered.before sent rfl (answered f ?_ waits)⟩
    rw [comp_bit sent.hq rfl]
    exact member

/-! ### The frame period of a module that receives -/

/-- The frame period waits for a trained port that has not had its frame. -/
theorem State.allFresh_waits {s : State} {q : Nat} (low : q < s.part.ports) (trained : (s.port q).state = .trained)
    (waits : (s.port q).fresh = false) : s.allFresh = false := by
  unfold State.allFresh
  rw [List.all_eq_false]
  exact ⟨q, by simp [State.trainedPorts, low, trained], by simp [waits]⟩

theorem State.badUp_allFresh {s : State} {p : Nat} (w : WellShaped s) (low : p < 80) (alone : s.trainedPorts = [p]) :
    (s.badUp p).allFresh = true := by
  have now := State.badUp_port w low
  have same : (s.badUp p).trainedPorts = s.trainedPorts := by
    refine List.filter_congr fun q _ => ?_
    by_cases is : q = p
    · rw [is, now]
    · rw [show (s.badUp p).port q = s.port q from (PortsKept.setPort _).other q is]
  unfold State.allFresh
  rw [same, alone]
  simp [now]

/-- A frame of a trained port, or the lack of one. -/
def State.takesUp (s : State) (p : Nat) (f : Option FastFrame) : State := match f with
  | some f => if goodFast 0x33 f then s.goodUp p f else s.badUp p
  | none => s.badUp p

theorem exec_fastUp_trained {s : State} {p : Nat} {f : Option FastFrame} (low : p < s.part.ports) (trained : (s.port p).state = .trained)
    (stale : (s.port p).fresh = false) :
    exec (.fastUp p f) s = .next (if (s.takesUp p f).allFresh then (s.takesUp p f).framePeriod else s.takesUp p f) := by
  show execFastUp p f s = _
  unfold execFastUp
  rw [if_neg (by omega), if_neg (by simp [trained]), if_neg (by simp [trained]), if_neg (by simp [stale])]
  rfl

theorem exec_fastUp_lost {s : State} {p : Nat} (low : p < s.part.ports) (lost : (s.port p).state = .lost) :
    exec (.fastUp p none) s = .next (s.badUp p) ∧
    ∀ f, goodFast 0x33 f = true → exec (.fastUp p (some f)) s = .next (s.lostUp p f) := by
  have here : ¬ s.part.ports ≤ p := by omega
  refine ⟨?_, fun f good => ?_⟩
  · show execFastUp p none s = _
    unfold execFastUp
    exact (if_neg here).trans (if_pos lost)
  · show execFastUp p (some f) s = _
    unfold execFastUp
    exact (if_neg here).trans ((if_pos lost).trans (congrArg Host.Outcome.next (if_pos good)))

/-! ### Loss -/

theorem State.mem_activeMembers {s : State} {g q : Nat} : q ∈ s.activeMembers g ↔
    q < s.part.ports ∧ (s.port q).isCell = true ∧ (s.port q).group = g ∧ (s.port q).out = false := by
  unfold State.activeMembers State.members
  simp only [List.mem_filter, List.mem_range, Bool.and_eq_true, beq_iff_eq, Bool.not_eq_true', and_assoc]

/-- What a finding leads to that is acted on: its record, its level in effect, and its action (R151, R152). -/
theorem State.ladder_acts {s : State} {x y : Subj} {level l cause code : Nat} (active : s.active = true)
    (member : ∀ p, x = .cell p → (s.port p).isCell = true) (mends : s.mend x level = (y, l)) (open_ : s.spent y = false)
    (below : s.levelOn y < l) :
    s.ladder x level cause code = ((s.ladderRecord y l cause code).stand y code l).actOn y l cause := by
  unfold State.ladder
  dsimp only
  rw [if_neg (by simp [active]), if_neg ?_, mends]
  · exact if_neg (by simp [open_, below])
  · cases x with
    | cell p => simp [member p rfl]
    | group g => simp
    | shelf => simp

theorem State.acts_touch (s : State) (y : Subj) (l cause code : Nat) :
    Touch 0x814080 s ((s.ladderRecord y l cause code).stand y code l) :=
  ((s.ladderRecord_touch y l cause code).mono rfl).step (State.stand_touch ..) rfl

section
variable {s : State} {p : Nat} (w : WellShaped s) (low : p < 80)
include w low

theorem State.loseTrained_ladderKept : ∃ v, v.port p = { s.port p with state := .lost, lostSeen := true } ∧
    LadderKept v (s.loseTrained p) := by
  let v := s.setPort p (fun P => { P with state := .lost, lostSeen := true })
  refine ⟨v, State.port_setPort_same (w.ports ▸ low) _, ?_⟩
  unfold State.loseTrained
  exact .cond (v.ladder_ladderKept ..) (v.ladder_ladderKept ..)

theorem State.loseTrained_port : ((s.loseTrained p).port p).state = .lost ∧ ((s.loseTrained p).port p).lostSeen = true ∧
    ((s.loseTrained p).port p).lock = (s.port p).lock ∧ ((s.loseTrained p).port p).lockLoss = (s.port p).lockLoss := by
  obtain ⟨v, is, kept⟩ := State.loseTrained_ladderKept w low
  have field {α : Type} (φ : Port → α) (same : ∀ P : Port, φ P.sansLadder = φ P) :
      φ ((s.loseTrained p).port p) = φ { s.port p with state := .lost, lostSeen := true } := is ▸ kept.field same p
  exact ⟨field Port.state fun _ => rfl, field Port.lostSeen fun _ => rfl, field Port.lock fun _ => rfl, field Port.lockLoss fun _ => rfl⟩

/-- The loss of a port without a cell is noted at level 1. -/
theorem State.loseTrained_other (role : s.role = .active) (other : (s.port p).isCell = false) :
    (s.loseTrained p).ev.ring.getLast?.map (·.sev) = some 1 := by
  let v := s.setPort p (fun P => { P with state := .lost, lostSeen := true })
  have now : v.port p = { s.port p with state := .lost, lostSeen := true } := State.port_setPort_same (w.ports ▸ low) _
  have cell : (v.port p).isCell = false := by rw [now]; exact other
  have active : v.active = true := by simp [State.active, v, role]
  have is : s.loseTrained p = v.ladderRecord (.cell p) 1 8 15 := by
    show (if (v.port p).isCell then v.ladder (.cell p) 3 8 15 else v.ladder (.cell p) 1 8 15) = _
    rw [cell]
    show v.ladder (.cell p) 1 8 15 = _
    unfold State.ladder
    dsimp only
    rw [active, cell]
    rfl
  have noted : Newest { v with sh := { v.sh with ladderSeen := max v.sh.ladderSeen 1 } } (v.ladderRecord (.cell p) 1 8 15) 0x0401 1
    kPort p (leBytes 1 1 ++ leBytes 1 8 ++ leBytes 1 15) := State.record_newest ..
  unfold Newest at noted
  rw [is, noted]
  rfl

/-- What a cell that is lost leaves, before the ladder takes it up. -/
theorem State.loseTrained_cell (role : s.role = .active) (cell : (s.port p).isCell = true) :
    ∃ v, v.active = true ∧ v.port p = { s.port p with state := .lost, lostSeen := true } ∧ Touch 0x20 s v ∧
      (∀ q, q ≠ p → v.port q = s.port q) ∧ s.loseTrained p = v.ladder (.cell p) 3 8 15 := by
  let v := s.setPort p (fun P => { P with state := .lost, lostSeen := true })
  have now : v.port p = { s.port p with state := .lost, lostSeen := true } := State.port_setPort_same (w.ports ▸ low) _
  refine ⟨v, by simp [State.active, v, role], now, s.setPort_touch p _, (PortsKept.setPort _).other, ?_⟩
  show (if (v.port p).isCell then v.ladder (.cell p) 3 8 15 else v.ladder (.cell p) 1 8 15) = _
  rw [show (v.port p).isCell = true by rw [now]; exact cell]
  rfl

/-- The loss of a cell beside others of its group retires it (R142, Table 6-1). -/
theorem State.loseTrained_retires (role : s.role = .active) (cell : (s.port p).isCell = true) (member : (s.port p).retired = false)
    (below : s.levelOn (.cell p) < 3) (more : ∃ q ∈ s.activeMembers (s.port p).group, q ≠ p) :
    ((s.loseTrained p).port p).retired = true ∧ ((s.loseTrained p).port p).cause = 8 := by
  obtain ⟨v, active, now, same, others, loses⟩ := State.loseTrained_cell w low role cell
  obtain ⟨q, of_, other⟩ := more
  have shelf : v.sh = s.sh := comp_bit same.sh rfl
  have alone : v.lastCell p = false := by
    unfold State.lastCell
    rw [Bool.and_eq_false_iff, List.all_eq_false]
    refine .inr ⟨q, ?_, by simpa using other⟩
    rw [State.mem_activeMembers, others q other, now, same.part]
    exact State.mem_activeMembers.mp of_
  let u := (v.ladderRecord (.cell p) 3 8 15).stand (.cell p) 15 3
  have acts : v.ladder (.cell p) 3 8 15 = u.retire p 8 := State.ladder_acts (x := .cell p) (y := .cell p) (level := 3) (l := 3) active
    (by rintro _ ⟨⟩; rw [now]; exact cell) (by simp [State.mend, alone]) (by show (v.port p).retired = false; rw [now]; exact member)
    (by unfold State.levelOn at below ⊢; rwa [shelf])
  have before : Touch 0x8140a0 s u := (same.mono rfl).step (v.acts_touch (.cell p) 3 8 15) rfl
  have retired : (u.retire p 8).port p = (u.port p).retire 8 := by
    rw [State.port, State.retire_ports]
    exact nth_upd_same _ _ _ _ ((before.shape w).ports ▸ low)
  rw [loses, acts, retired]
  exact ⟨rfl, rfl⟩

/-- The loss of the last cell of a group that runs quenches the group (R151). -/
theorem State.loseTrained_quenches (role : s.role = .active) (cell : (s.port p).isCell = true) (member : (s.port p).retired = false)
    (group : (s.port p).group < 16) (below : s.levelOn (.group (s.port p).group) < 4)
    (regulates : (s.group (s.port p).group).state = .regulating) (last : ∀ q ∈ s.activeMembers (s.port p).group, q = p) :
    ((s.loseTrained p).group (s.port p).group).state = .quenching ∧
      ((s.loseTrained p).group (s.port p).group).lastQuench = 2 := by
  obtain ⟨v, active, now, same, others, loses⟩ := State.loseTrained_cell w low role cell
  have shelf : v.sh = s.sh := comp_bit same.sh rfl
  let g := (s.port p).group
  have is : v.group g = s.group g := same.group_eq rfl g
  have group' : (v.port p).group = g := by rw [now]
  have alone : v.lastCell p = true := by
    unfold State.lastCell
    have left : ∀ q ∈ v.activeMembers g, q = p := fun q of_ => by
      refine Classical.byContradiction fun other => ?_
      rw [State.mem_activeMembers, others q other, same.part] at of_
      exact other (last q (State.mem_activeMembers.mpr of_))
    have running : (s.group g).state ≠ .off := by rw [regulates]; decide
    dsimp only
    rw [group', is, now]
    simp only [Bool.and_eq_true, List.all_eq_true]
    exact ⟨⟨by simp [member], by simp [running]⟩, fun q of_ => by simp [left q of_]⟩
  let u := (v.ladderRecord (.group g) 4 8 15).stand (.group g) 15 4
  have acts : v.ladder (.cell p) 3 8 15 = u.quench g 2 := State.ladder_acts (x := .cell p) (y := .group g) (l := 4) active
    (by rintro _ ⟨⟩; rw [now]; exact cell) (by simp [State.mend, alone, group'])
    (by show ((v.group g).state == .off) = false; rw [is, regulates]; rfl) (by unfold State.levelOn at below ⊢; rwa [shelf])
  have before : Touch 0x8140a0 s u := (same.mono rfl).step (v.acts_touch (.group g) 4 8 15) rfl
  have still : u.group g = s.group g := before.group_eq rfl g
  obtain ⟨quenching, cause⟩ := u.quench_same 2 ((before.shape w).groups ▸ group) (by rw [still, regulates]; decide)
  rw [loses, acts]
  refine ⟨quenching, cause.trans (if_neg ?_)⟩
  rw [still, regulates]
  decide

end

/-! ### The quality of a line -/

/-- The end of a window of 1 s (R144). -/
theorem exec_degraded_says {s : State} {p margin : Nat} (w : WellShaped s) (low : p < 80) (up : (s.port p).state ≠ .down)
    (whole : (s.port p).state ≠ .failed) :
    Completes (.degraded p margin) s (fun t => (t.port p).degraded = (decide (1000 < (s.port p).badThisS) || decide (margin < 20)) ∧
      (t.port p).badThisS = 0 ∧ (t.port p).badLastS = min (s.port p).badThisS 65535 ∧ (t.port p).margin = margin % 256 ∧
      ((t.port p).degraded = true → (s.port p).degraded = false → p ∈ t.ev.portCause) ∧
      ((t.port p).degraded = false → (s.port p).degraded = true → p ∉ t.ev.portCause)) := by
  let bad := decide (1000 < (s.port p).badThisS) || decide (margin < 20)
  let last := min (s.port p).badThisS 65535
  let v := s.setPort p (fun P => { P with badLastS := last, badThisS := 0, margin := margin % 256, degraded := bad })
  have now : v.port p = { s.port p with badLastS := last, badThisS := 0, margin := margin % 256, degraded := bad } :=
    State.port_setPort_same (w.ports ▸ low) _
  let r := v.record 0x0B04 1 kPort p (leBytes 2 last ++ leBytes 1 (margin % 256))
  have runs : exec (.degraded p margin) s = .next (if bad && !(s.port p).degraded then r.raisePort 5 p
      else if !bad && (s.port p).degraded then v.clearPort 5 p else v) := by
    show execDegraded p margin s = _
    unfold execDegraded
    rw [if_neg (by simp [up, whole])]
    dsimp only
    split
    · rfl
    · split
      · rfl
      · rfl
  refine ⟨_, runs, ?_⟩
  dsimp only
  split
  next turns =>
    have turns : bad = true ∧ (s.port p).degraded = false := by simpa using turns
    rw [(r.raisePort_touch 5 p).port_eq rfl, (v.record_touch ..).port_eq rfl, now]
    exact ⟨rfl, rfl, rfl, rfl, fun _ _ => State.raisePort_raised r p, fun good => absurd (turns.1.symm.trans good) (by decide)⟩
  next =>
    split
    next mends =>
      have mends : bad = false ∧ (s.port p).degraded = true := by simpa using mends
      rw [(v.clearPort_touch 5 p).port_eq rfl, now]
      exact ⟨rfl, rfl, rfl, rfl, fun wrong => absurd (mends.1.symm.trans wrong) (by decide), fun _ _ => State.clearPort_cleared v p⟩
    next still steady =>
      rw [now]
      refine ⟨rfl, rfl, rfl, rfl, fun is was => absurd ?_ still, fun is was => absurd ?_ steady⟩
      · rw [show bad = true from is, was]; rfl
      · rw [show bad = false from is, was]; rfl

/-- A line that loses its lock (R121). -/
theorem exec_blockLockLost {s : State} {p : Nat} (low : p < s.part.ports) (heads : List Nat) (lock : (s.port p).lock = true)
    (bad : 16 ≤ ((heads.drop (heads.length - 64)).filter badSync).length) :
    let v := s.setPort p (fun P => { P with lock := false, lockLoss := satInc 8 P.lockLoss })
    exec (.blockLockLost ⟨p, heads⟩) s = .next (if (v.port p).state = .trained then v.loseTrained p else v) := by
  show execBlockLockLost ⟨p, heads⟩ s = _
  unfold execBlockLockLost
  exact if_neg (by simp [lock, low, losesLock, bad])

/-- Settles O21: what a frame leaves in its port by `State.goodUp_port` and `State.badUp_port`, whatever it leads to (`LineKept`); a loss
by the ladder's own case (`State.loseTrained_retires`, `State.loseTrained_quenches`). -/
theorem fastFramesComplete : Obligations.FastFramesComplete := by
  refine ⟨fun s p low on_ role => ?sends, fun s p quiet => ⟨s, if_pos (by rw [quiet]; rfl), rfl⟩,
    fun s p q w low trained stale lowq other trainedq waits => ⟨fun f bad => ?bad, fun f good => ?good⟩,
    fun s p low alone stale w => ?last, fun s p low lost w => ?lost,
    fun s p w low => ⟨fun heads lock bad => ⟨fun trained => ?locked, fun idle => ?unlocked⟩, fun heads steady => ⟨s, if_pos ?steady, rfl⟩,
      fun trained bad => ?loses, fun trained few fewer => ⟨s, if_neg (by omega), rfl⟩⟩,
    fun s p margin w low up whole => exec_degraded_says w (Nat.lt_of_lt_of_le low s.part.ports_le) up whole⟩
  case sends =>
    refine exec_fastDn_sends ?_
    unfold State.sendsOn
    rcases role with ⟨role, state | state | state⟩ | ⟨role, state⟩
    all_goals simp [State.active, low, on_, role, state]
  case bad =>
    have low' := Nat.lt_of_lt_of_le low s.part.ports_le
    have takes : s.takesUp p f = s.badUp p := by
      cases f with
      | none => rfl
      | some f => exact if_neg (by rw [bad f rfl]; decide)
    have left : (s.badUp p).port q = s.port q := (PortsKept.setPort _).other q other
    have runs := exec_fastUp_trained (f := f) low trained stale
    rw [takes, if_neg (by rw [State.allFresh_waits (s := s.badUp p) (q := q) lowq (by rw [left, trainedq]) (by rw [left, waits])]; decide)] at runs
    exact ⟨_, runs, State.badUp_port w low', (PortsKept.setPort _).other⟩
  case good =>
    have low' := Nat.lt_of_lt_of_le low s.part.ports_le
    have takes : s.takesUp p (some f) = s.goodUp p f := if_pos good
    have left := State.goodUp_other f other (s := s)
    have part : (s.goodUp p f).part = s.part := (s.goodUp_touch p f).part
    have runs := exec_fastUp_trained (f := some f) low trained stale
    rw [takes, if_neg (by rw [State.allFresh_waits (s := s.goodUp p f) (q := q) (part ▸ lowq) ((congrArg (·.1) left).trans trainedq)
      ((congrArg (·.2.1) left).trans waits)]; decide)] at runs
    refine ⟨_, runs, ?_⟩
    have is := State.goodUp_port w low' f
    simp only [Port.onLine, Prod.mk.injEq] at is
    obtain ⟨-, fresh, header, run, old, seq, raw⟩ := is
    exact ⟨header, run, old, fresh, seq, raw⟩
  case last =>
    have trained : (s.port p).state = .trained := by
      have of_ : p ∈ s.trainedPorts := by rw [alone]; exact List.mem_singleton.mpr rfl
      unfold State.trainedPorts at of_
      simpa using (List.mem_filter.mp of_).2
    have runs := exec_fastUp_trained (f := none) low trained stale
    rw [show s.takesUp p none = s.badUp p from rfl, if_pos (State.badUp_allFresh w (Nat.lt_of_lt_of_le low s.part.ports_le) alone)] at runs
    exact ⟨_, runs, rfl⟩
  case lost =>
    have low' := Nat.lt_of_lt_of_le low s.part.ports_le
    obtain ⟨missing, good⟩ := exec_fastUp_lost low lost
    refine ⟨⟨_, missing, rfl⟩, fun f ok => ⟨_, good f ok, ?_⟩⟩
    have is := State.lostUp_port w low' f
    rw [lost] at is
    simp only [Port.onLine, Prod.mk.injEq] at is
    obtain ⟨state, -, header, run, -, -, raw⟩ := is
    exact ⟨header, state, run, raw, rfl⟩
  case locked =>
    have low' := Nat.lt_of_lt_of_le low s.part.ports_le
    let v := s.setPort p (fun P => { P with lock := false, lockLoss := satInc 8 P.lockLoss })
    have now : v.port p = { s.port p with lock := false, lockLoss := satInc 8 (s.port p).lockLoss } := State.port_setPort_same (w.ports ▸ low') _
    obtain ⟨lost, seen, lock', loss⟩ := State.loseTrained_port ((s.setPort_touch p _).shape w : WellShaped v) low'
    rw [now] at lock' loss
    exact ⟨_, (exec_blockLockLost low heads lock bad).trans (congrArg _ (if_pos (by rw [now]; exact trained))), lost, seen, lock', loss⟩
  case unlocked =>
    have low' := Nat.lt_of_lt_of_le low s.part.ports_le
    let v := s.setPort p (fun P => { P with lock := false, lockLoss := satInc 8 P.lockLoss })
    have now : v.port p = { s.port p with lock := false, lockLoss := satInc 8 (s.port p).lockLoss } := State.port_setPort_same (w.ports ▸ low') _
    exact ⟨v, (exec_blockLockLost low heads lock bad).trans (congrArg _ (if_neg (by rw [now]; exact idle))), now, rfl⟩
  case steady =>
    rcases steady with lock | few
    · simp [lock]
    · simp only [losesLock, decide_eq_true_eq]
      omega
  case loses =>
    have low' := Nat.lt_of_lt_of_le low s.part.ports_le
    obtain ⟨lost, seen, -, -⟩ := State.loseTrained_port w low'
    exact ⟨_, if_pos ⟨trained, bad⟩, lost, seen, State.loseTrained_other w low', fun role cell member below more =>
      State.loseTrained_retires w low' role cell member below more, fun role cell member group below regulates last =>
      State.loseTrained_quenches w low' role cell member group below regulates last⟩

end Sys2Proof.Machine
end

section
/-!
R251, R259 to R261, R266, R269: the groups joined, the keys, and isolation.
-/

namespace Sys2Proof.Machine

open Sys2Proof

/-! ### Isolation -/

/-- A message that can leave goes out to the rack group (R250, R257). -/
theorem State.rackSend_puts {s : State} (can : s.canSend = true) (typ : Nat) (body : Bytes) : ∃ k b, s.gn.rackKey.cur = some k ∧
    Puts s (s.rackSend typ body) (.datagram (toGroup (rackGroup k.v4 s.rackId)) b) := by
  unfold State.rackSend
  cases key : s.gn.rackKey.cur with
  | none =>
    unfold State.canSend at can
    simp [key] at can
  | some k =>
    dsimp only
    unfold State.gnSend
    rw [if_neg (by simp [can])]
    exact ⟨k, _, rfl, Puts.before (s.setGn_touch (fun g => { g with seq := (g.seq + 1) % 2 ^ 32, txOk := (g.txOk + 1) % 2 ^ 32 }) id)
      (Puts.emit _ _)⟩

theorem State.sendAlert_puts {s : State} (can : s.canSend = true) (kind : Nat) : ∃ d b, d.dport = 49870 ∧
    Puts s (s.sendAlert kind) (.datagram d b) := by
  obtain ⟨k, b, -, puts⟩ := State.rackSend_puts can 0x08 (leBytes 4 kind ++ leBytes 4 s.gv.leadEpoch ++ leBytes 8 0)
  exact ⟨_, b, rfl, puts⟩

section
variable {s : State}

theorem State.endThrottle_idle {e : Endpoint} (idle : e.thr = none) : s.endThrottle e = s := by
  unfold State.endThrottle
  rw [idle]

theorem State.endThrottles_idle (l : List Endpoint) (idle : ∀ e ∈ l, e.thr = none) : l.foldl State.endThrottle s = s := by
  induction l with
  | nil => rfl
  | cons e l ih =>
    rw [List.foldl_cons, State.endThrottle_idle (idle e (.head _)), ih fun x of_ => idle x (.tail _ of_)]

/-- Throttle intervals that end leave the governor's settings and SNUFF_N. -/
theorem State.endThrottle_gv (e : Endpoint) : (s.endThrottle e).gv = { s.gv with eps := (s.endThrottle e).gv.eps } := by
  unfold State.endThrottle
  split
  · rfl
  · dsimp only
    split
    · rfl
    · rfl

theorem State.endThrottles_gv (l : List Endpoint) (s : State) :
    (l.foldl State.endThrottle s).gv = { s.gv with eps := (l.foldl State.endThrottle s).gv.eps } := by
  induction l generalizing s with
  | nil => rfl
  | cons e l ih =>
    rw [List.foldl_cons, ih, State.endThrottle_gv]

theorem State.yieldLead_idle (final : Bool) (idle : s.isLead = false) : s.yieldLead final = s := if_pos (by simp [idle])

/-- A lead that does not drive SNUFF_N ends its role by itself. -/
theorem State.yieldLead_calm (lead : s.isLead = true) (calm : s.gv.snuffOut = false) : s.yieldLead false =
    (s.gv.eps.foldl State.endThrottle s).setGv (fun g => { g with
      role := 0, leadShelf := none, epochGrants := [], newBudget := none, steady := none }) := by
  unfold State.yieldLead
  rw [if_neg (by simp [lead])]
  simp only [calm]
  rfl

theorem State.endThrottles_touch (s : State) (l : List Endpoint) : Touch 0x814800 s (l.foldl State.endThrottle s) :=
  (Touch.refl _ s).foldl fun v e => v.endThrottle_touch e

theorem State.isolate_eq (alone : s.gn.isolated = false) : s.isolate =
    (((s.yieldLead false).setGn (fun g => { g with isolated := true })).setGv (fun g => { g with
      role := 0, leadShelf := none, claim := none, lowMs := 0, peers := [] })).record 0x0D02 1 kNone 0 (leBytes 1 1) :=
  if_neg (by simp [alone])

/-- A module that becomes isolated holds no role (R269). -/
theorem State.isolate_gv (alone : s.gn.isolated = false) : s.isolate.gv.role = 0 ∧ s.isolate.gv.leadShelf = none ∧
    s.isolate.gv.claim = none ∧ s.isolate.gv.peers = [] := by
  rw [State.isolate_eq alone]
  exact ⟨rfl, rfl, rfl, rfl⟩

/-- A module that drives no SNUFF_N says nothing as it becomes isolated. -/
theorem State.isolate_calm (alone : s.gn.isolated = false) (calm : s.gv.snuffOut = false) :
    s.isolate.gn = { s.gn with isolated := true } ∧ s.isolate.gv.budgetMw = s.gv.budgetMw := by
  rw [State.isolate_eq alone]
  have kept : (s.yieldLead false).gn = s.gn ∧ (s.yieldLead false).gv.budgetMw = s.gv.budgetMw := by
    cases lead : s.isLead with
    | false =>
      rw [State.yieldLead_idle false lead]
      exact ⟨rfl, rfl⟩
    | true =>
      rw [State.yieldLead_calm lead calm]
      refine ⟨comp_bit (s.endThrottles_touch _).gn rfl, ?_⟩
      show (s.gv.eps.foldl State.endThrottle s).gv.budgetMw = _
      rw [State.endThrottles_gv]
  exact ⟨congrArg (fun g : Gulene => { g with isolated := true }) kept.1, kept.2⟩

theorem State.isolate_newest (alone : s.gn.isolated = false)
    (quiet : s.isLead = false ∨ s.gv.snuffOut = false ∧ ∀ e ∈ s.gv.eps, e.thr = none) : Newest s s.isolate 0x0D02 1 kNone 0 (leBytes 1 1) := by
  rw [State.isolate_eq alone]
  by_cases lead : s.isLead = true
  · obtain ⟨calm, idle⟩ := quiet.resolve_left (by simp [lead])
    rw [State.yieldLead_calm lead calm, State.endThrottles_idle _ idle]
    exact State.record_newest ..
  · rw [State.yieldLead_idle false (by simpa using lead)]
    exact State.record_newest ..

/-- A lead that drives SNUFF_N lets it go and says so (R241). -/
theorem State.isolate_releases (alone : s.gn.isolated = false) (lead : s.isLead = true) (drives : s.gv.snuffOut = true) :
    s.isolate.gv.snuffOut = false ∧ Puts s s.isolate (.pin "SNUFF_N" true) ∧
      (s.canSend = true → ∃ d b, d.dport = 49870 ∧ Puts s s.isolate (.datagram d b)) := by
  let a := s.driveSnuff false
  let b := a.sendAlert 1
  let c := b.gv.eps.foldl State.endThrottle b
  let d := (c.setGv (fun g => { g with role := 0, leadShelf := none, epochGrants := [], newBudget := none, steady := none }))
  have gives : s.yieldLead false = d := by
    unfold State.yieldLead
    rw [if_neg (by simp [lead])]
    simp only [drives]
    rfl
  have released : a = ((s.setGv (fun g => { g with snuffOut := false, relRun := 0 })).emit (.pin "SNUFF_N" true)).record 0x0702 2 kNone 0
      (leBytes 1 0) := if_neg (by rw [drives]; decide)
  have pin : Puts s a (.pin "SNUFF_N" true) := by
    rw [released]
    exact Puts.later (Puts.before (s.setGv_touch _) (Puts.emit _ _)) (State.record_touch ..)
  have rest : Touch 0x814c00 b s.isolate := by
    rw [State.isolate_eq alone, gives]
    exact ((((State.endThrottles_touch b b.gv.eps).mono rfl).step (c.setGv_touch _) rfl).step (d.setGn_touch _ id) rfl).step
      (State.setGv_touch ..) rfl |>.step (State.record_touch ..) rfl
  refine ⟨?_, Puts.later (Puts.later pin (a.sendAlert_touch 1)) rest, fun can => ?_⟩
  · have calm : a.gv.snuffOut = false := by rw [released]; rfl
    have same : b.gv = a.gv := comp_bit (a.sendAlert_touch 1).gv rfl
    rw [State.isolate_eq alone, gives]
    show c.gv.snuffOut = false
    rw [State.endThrottles_gv b.gv.eps b, same]
    exact calm
  · have same : a.canSend = true := by
      rw [released]
      exact can
    obtain ⟨d, b, port, puts⟩ := State.sendAlert_puts same 1
    exact ⟨d, b, port, Puts.later (Puts.before (s.driveSnuff_touch false) puts) rest⟩

end

/-! ### Groups joined -/

section
variable (s : State)

theorem State.joinGroups_puts {a : Nat} (wanted : a ∈ s.groupsWanted) (new : a ∉ s.gn.joined) : Puts s s.joinGroups (.net 5 a) := by
  have emits (l : List Nat) (v : State) (of_ : a ∈ l) : Puts v (l.foldl (fun s a => s.emit (.net 5 a)) v) (.net 5 a) := by
    induction l generalizing v with
    | nil => exact absurd of_ List.not_mem_nil
    | cons b l ih =>
      have rest (u : State) : Touch 0x800000 u (l.foldl (fun s a => s.emit (.net 5 a)) u) := (Touch.refl _ u).foldl fun v a => v.emit_touch _
      rw [List.foldl_cons]
      rcases List.mem_cons.mp of_ with is | of_
      · rw [is]
        exact Puts.later (Puts.emit _ _) (rest _)
      · exact Puts.before (v.emit_touch _) (ih _ of_)
  refine Puts.later (emits (s.groupsWanted.filter (fun a => !s.gn.joined.contains a)) s ?_)
    (State.setGn_touch _ (fun g => { g with joined := s.groupsWanted }) id)
  exact List.mem_filter.mpr ⟨wanted, by simpa using new⟩

/-- What a module wants to join does not change as it joins it. -/
theorem State.joinGroups_wanted : s.joinGroups.groupsWanted = s.groupsWanted := by
  unfold State.groupsWanted State.rackId
  rw [State.joinGroups_gn, show s.joinGroups.gv = s.gv from comp_bit s.joinGroups_touch.gv rfl]
  rfl

theorem State.joinGroups_same (all : s.gn.joined = s.groupsWanted) : s.joinGroups = s := by
  unfold State.joinGroups
  dsimp only
  rw [show s.groupsWanted.filter (fun a => !s.gn.joined.contains a) = [] from
    List.filter_eq_nil_iff.mpr fun a of_ => by simpa [all] using of_]
  show s.setGn (fun g => { g with joined := s.groupsWanted }) = s
  rw [← all]
  rfl

end

/-! ### The statements -/

theorem Gulene.role_setRole (g : Gulene) (row : Bool) (f : KeyRole → KeyRole) :
    (g.setRole row f).role row = f (g.role row) ∧ (g.setRole row f).role (!row) = g.role (!row) := by
  cases row
  · exact ⟨rfl, rfl⟩
  · exact ⟨rfl, rfl⟩

theorem Gulene.setRole_same (g : Gulene) (row : Bool) {f : KeyRole → KeyRole} (same : f (g.role row) = g.role row) : g.setRole row f = g := by
  cases row
  · exact congrArg (fun k => { g with rackKey := k }) same
  · exact congrArg (fun k => { g with rowKey := k }) same

theorem Gulene.role_joined (g : Gulene) (l : List Nat) (row : Bool) : ({ g with joined := l } : Gulene).role row = g.role row := rfl

theorem Gulene.setRole_joined (g : Gulene) (row : Bool) (f : KeyRole → KeyRole) : (g.setRole row f).joined = g.joined := by
  cases row
  · rfl
  · rfl

/-- Settles O32: a key by what a change of one role leaves of the other, the groups by `State.joinGroups_puts`, isolation by
`State.isolate_calm` and `State.isolate_releases`. -/
theorem guleneUpkeepCompletes : Obligations.GuleneUpkeepCompletes := by
  refine ⟨fun s => ⟨_, rfl, rfl, fun more => ?more, fun last => ?last⟩, fun s rack sender => ⟨_, rfl, fun r of_ => ?gone, fun r of_ other => ?kept⟩,
    fun s row k next => ?switches, fun s row none_ => ?stands, fun s row => ⟨_, rfl, (s.gn.role_setRole row _).1, (s.gn.role_setRole row _).2⟩,
    fun s down => ?isolates, fun s up few => ⟨s, ?up, rfl⟩, fun s => ⟨_, rfl, rfl⟩⟩
  case more =>
    have on_ : ¬ s.gn.msTick + 1 ≥ 1000 := by omega
    unfold State.setGn
    simp only [if_neg on_]
  case last =>
    have over_ : s.gn.msTick + 1 ≥ 1000 := by omega
    unfold State.setGn
    simp only [if_pos over_]
  case gone =>
    have left := (List.mem_filter.mp of_).2
    simp only [Bool.not_eq_true', Bool.and_eq_false_iff, beq_eq_false_iff_ne] at left
    grind
  case kept => exact List.mem_filter.mpr ⟨of_, by simp only [Bool.not_eq_true', Bool.and_eq_false_iff, beq_eq_false_iff_ne]; grind⟩
  case switches =>
    let v := s.setGn (fun g => g.setRole row KeyRole.switch)
    have switched : (s.gn.role row).switch = { cur := some k, next := none, old := (s.gn.role row).cur.toList ++ (s.gn.role row).old } := by
      unfold KeyRole.switch
      rw [next]
    obtain ⟨own, other⟩ := s.gn.role_setRole row KeyRole.switch
    refine ⟨v.joinGroups, rfl, ?_, ?_, ?_, fun a of_ new => ?_⟩
    · rw [v.joinGroups_gn, Gulene.role_joined]
      exact own.trans switched
    · rw [v.joinGroups_gn, Gulene.role_joined]
      exact other
    · rw [v.joinGroups_wanted, v.joinGroups_gn]
    · rw [v.joinGroups_gn] at of_
      exact Puts.before (s.setGn_touch (fun g => g.setRole row KeyRole.switch) (by cases row; all_goals exact id)) (v.joinGroups_puts of_ (by rwa [show v.gn.joined = s.gn.joined from s.gn.setRole_joined ..]))
  case stands =>
    have same : s.setGn (fun g => g.setRole row KeyRole.switch) = s := by
      have idle : (s.gn.role row).switch = s.gn.role row := by
        unfold KeyRole.switch
        rw [none_]
      exact congrArg (fun g => { s with gn := g }) (Gulene.setRole_same _ _ idle)
    refine ⟨s.joinGroups, ?_, fun r => ?_, fun all => s.joinGroups_same all⟩
    · show Host.Outcome.next (s.setGn (fun g => g.setRole row KeyRole.switch)).joinGroups = _
      rw [same]
    · rw [s.joinGroups_gn, Gulene.role_joined]
  case isolates =>
    have runs : exec .isolated s = .next s.isolate := by
      refine congrArg Host.Outcome.next (if_pos ?_)
      rcases down with down | more
      · simp [Gulene.linkUp, down]
      · simp [more]
    refine ⟨fun already => ⟨_, runs, if_pos already⟩, fun alone calm => ⟨_, runs, ?_⟩, fun alone lead drives => ⟨_, runs, ?_⟩⟩
    · obtain ⟨role, lead, claim, peers⟩ := State.isolate_gv alone
      obtain ⟨gn, budget⟩ := State.isolate_calm alone calm
      exact ⟨gn, role, lead, claim, peers, budget, fun quiet => State.isolate_newest alone (quiet.imp id fun idle => ⟨calm, idle⟩)⟩
    · obtain ⟨released, pin, alert⟩ := State.isolate_releases alone lead drives
      exact ⟨(s.isolate_keeps).2.2, (State.isolate_gv alone).1, released, pin, alert⟩
  case up =>
    refine congrArg Host.Outcome.next (if_neg ?_)
    simp [Gulene.linkUp, up]
    omega

end Sys2Proof.Machine
end

section
/-!
R248, R249, R269: the Ethernet link.
-/

namespace Sys2Proof.Machine

open Sys2Proof

/-- The link takes the highest mode that both ends offer (R248). -/
theorem modeOf_highest {offer : List Nat} {mode : Nat} (low : 1 ≤ mode) (high : mode ≤ 4) (of_ : mode ∈ offer)
    (first : ∀ m ∈ offer, 1 ≤ m → mode ≤ m) : modeOf offer = mode := by
  have out (m : Nat) (pos : 1 ≤ m) (below : m < mode) : m ∉ offer := fun of_ => by
    have := first m of_ pos
    omega
  unfold modeOf
  obtain rfl | rfl | rfl | rfl : mode = 1 ∨ mode = 2 ∨ mode = 3 ∨ mode = 4 := by omega
  · simp [of_]
  · simp [of_, out 1 (by omega) (by omega)]
  · simp [of_, out 1 (by omega) (by omega), out 2 (by omega) (by omega)]
  · simp [of_, out 1 (by omega) (by omega), out 2 (by omega) (by omega), out 3 (by omega) (by omega)]

theorem modeOf_none {offer : List Nat} (none_ : ∀ m, 1 ≤ m → m ≤ 4 → m ∉ offer) : modeOf offer = 0 := by
  unfold modeOf
  simp [none_ 1 (by omega) (by omega), none_ 2 (by omega) (by omega), none_ 3 (by omega) (by omega), none_ 4 (by omega) (by omega)]

section
variable (s : State)

/-- What a link that comes up asks for, before isolation ends. -/
def State.linkAsks : State := (s.joinGroups.emit (.net 3 s.joinGroups.gn.linkLocal)).emit (.net 4 s.joinGroups.gn.mac)

theorem State.linkUp_eq : s.linkUp = if s.gv.shelves ≤ 1 then s.linkAsks.endIsolation else s.linkAsks := by
  have gv : s.linkAsks.gv = s.gv := comp_bit s.joinGroups_touch.gv rfl
  unfold State.linkUp
  exact congrArg (fun g : Governor => if g.shelves ≤ 1 then s.linkAsks.endIsolation else s.linkAsks) gv

theorem State.linkAsks_touch : Touch 0x800400 s s.linkAsks :=
  (s.joinGroups_touch.step (State.emit_touch ..) rfl).step (State.emit_touch ..) rfl

theorem State.linkAsks_gn : s.linkAsks.gn = { s.gn with joined := s.groupsWanted } := s.joinGroups_gn

theorem State.linkAsks_puts : Puts s s.linkAsks (.net 3 s.gn.linkLocal) ∧ Puts s s.linkAsks (.net 4 s.gn.mac) := by
  have joins := s.joinGroups_touch
  have gn := s.joinGroups_gn
  have first : s.joinGroups.gn.linkLocal = s.gn.linkLocal := by rw [gn]; rfl
  have second : s.joinGroups.gn.mac = s.gn.mac := by rw [gn]
  unfold State.linkAsks
  rw [first, second]
  exact ⟨Puts.later (Puts.before joins (Puts.emit _ _)) (State.emit_touch ..),
    Puts.before (joins.step (State.emit_touch ..) rfl) (Puts.emit _ _)⟩

theorem State.endIsolation_wanted : s.endIsolation.groupsWanted = s.groupsWanted := by
  unfold State.endIsolation
  split
  · rfl
  · rfl

/-- Isolation that ends is noted (R269). -/
theorem State.endIsolation_says : s.endIsolation.gn = { s.gn with isolated := false } ∧
    (s.gn.isolated = false → s.endIsolation.ev = s.ev) ∧
    (s.gn.isolated = true → Newest s s.endIsolation 0x0D02 1 kNone 0 (leBytes 1 0)) := by
  by_cases alone : s.gn.isolated = true
  · have is : s.endIsolation = (s.setGn (fun g => { g with isolated := false })).record 0x0D02 1 kNone 0 (leBytes 1 0) := if_pos alone
    rw [is]
    exact ⟨rfl, fun wrong => absurd (alone.symm.trans wrong) (by decide), fun _ => State.record_newest ..⟩
  · rw [show s.endIsolation = s from if_neg alone]
    have off : s.gn.isolated = false := by simpa using alone
    exact ⟨congrArg (fun b => { s.gn with isolated := b }) off, fun _ => rfl, fun wrong => absurd wrong alone⟩

/-- A link that comes up (R248, R249, R251, R269). -/
theorem State.linkUp_says : s.linkUp.gn.mode = s.gn.mode ∧ s.linkUp.gn.negFailed = s.gn.negFailed ∧
    s.linkUp.gn.joined = s.linkUp.groupsWanted ∧ Puts s s.linkUp (.net 3 s.gn.linkLocal) ∧ Puts s s.linkUp (.net 4 s.gn.mac) ∧
    (1 < s.gv.shelves → s.linkUp.gn.isolated = s.gn.isolated ∧ s.linkUp.ev = s.ev) ∧
    (s.gv.shelves ≤ 1 → s.linkUp.gn.isolated = false ∧ (s.gn.isolated = false → s.linkUp.ev = s.ev) ∧
      (s.gn.isolated = true → Newest s s.linkUp 0x0D02 1 kNone 0 (leBytes 1 0))) := by
  let v := s.linkAsks
  have asks := s.linkAsks_touch
  have gn := s.linkAsks_gn
  obtain ⟨first, second⟩ := s.linkAsks_puts
  have wanted : v.groupsWanted = s.groupsWanted := s.joinGroups_wanted
  have ev : v.ev = s.ev := comp_bit asks.ev rfl
  obtain ⟨ends, still, notes⟩ := v.endIsolation_says
  rw [s.linkUp_eq]
  split
  next few =>
    have alone : v.gn.isolated = s.gn.isolated := by rw [gn]
    refine ⟨?_, ?_, ?_, Puts.later first v.endIsolation_touch, Puts.later second v.endIsolation_touch, fun many => by omega,
      fun _ => ⟨?_, fun is => (still (alone.trans is)).trans ev, fun is => ?_⟩⟩
    · rw [ends, gn]
    · rw [ends, gn]
    · rw [v.endIsolation_wanted, ends, wanted, gn]
    · rw [ends]
    · exact Newest.before asks (notes (alone.trans is)) ev rfl rfl
  next many =>
    refine ⟨?_, ?_, ?_, first, second, fun _ => ⟨?_, ev⟩, fun few => absurd few many⟩
    · rw [gn]
    · rw [gn]
    · rw [wanted, gn]
    · rw [gn]

end
/-- The link is down: no group is joined, and the module is isolated (R248, R269). -/
theorem State.linkDown_says (s : State) : s.linkDown.gn.mode = 0 ∧ s.linkDown.gn.isolated = true ∧ s.linkDown.gn.joined = [] ∧
    (s.gn.isolated = false → s.linkDown.gv.role = 0 ∧ s.linkDown.gv.peers = [] ∧
      (s.isLead = false → Newest s s.linkDown 0x0D02 1 kNone 0 (leBytes 1 1))) := by
  let u := s.setGn (fun g => { g with mode := 0 })
  let v := u.joinGroups
  have gn : v.gn = { u.gn with joined := u.groupsWanted } := u.joinGroups_gn
  have none_ : u.groupsWanted = [] := by
    unfold State.groupsWanted
    split
    · rfl
    · rfl
  have before : Touch 0x800400 s v := ((s.setGn_touch (fun g => { g with mode := 0 }) id).mono rfl).step u.joinGroups_touch rfl
  obtain ⟨-, mode, isolated⟩ := s.linkDown_keeps
  refine ⟨mode, isolated, ?_, fun open_ => ?_⟩
  · have joined : v.isolate.gn.joined = v.gn.joined := by
      have talked : (v.yieldLead false).gn.joined = v.gn.joined := show (v.yieldLead false).gn.sansSent.joined = v.gn.sansSent.joined from
        congrArg Gulene.joined (Talks.yieldLead v false).net
      unfold State.isolate
      split
      · rfl
      · exact talked
    exact joined.trans (by rw [gn]; exact none_)
  · have alone : v.gn.isolated = false := by rw [gn]; exact open_
    obtain ⟨role, -, -, peers⟩ := State.isolate_gv alone
    have gv : v.gv = s.gv := comp_bit before.gv rfl
    refine ⟨role, peers, fun other => Newest.before before (State.isolate_newest alone (.inl ?_)) (comp_bit before.ev rfl) rfl rfl⟩
    unfold State.isLead State.active at other ⊢
    rw [gv, comp_bit before.role rfl]
    exact other

theorem State.negotiate_on {s : State} (on_ : s.rc.ethOn = true) : s.negotiate = s.emit (.autoneg [1, 2, 3, 4] Config.hyewardOui) := if_pos on_

/-- A partner that offers, or offers nothing in common (R248). -/
theorem exec_ethernetLink {s : State} (on_ : s.rc.ethOn = true) (offer : List Nat) :
    let v := s.setGn (fun g => { g with mode := modeOf offer, negFailed := false })
    exec (.ethernetLink offer) s = .next (if v.gn.linkUp then v.linkUp else v.linkDown.negotiate) := by
  show execEthernetLink offer s = _
  unfold execEthernetLink
  exact if_neg (by simp [on_])

theorem exec_negFail {s : State} (on_ : s.rc.ethOn = true) (down : s.gn.mode = 0) : exec .negFail s =
    .next (if s.gn.negFailed then s else (s.setGn (fun g => { g with negFailed := true })).record 0x0D01 1 kLink 0 []).negotiate :=
  if_neg (by simp [Gulene.linkUp, down, on_])

/-- Settles O33: the mode by `modeOf_highest`, what a link does as it comes up or goes down by `State.linkUp_says` and
`State.linkDown_says`. -/
theorem ethernetPortCompletes : Obligations.EthernetPortCompletes := by
  refine ⟨fun s offer off => ⟨⟨s, if_pos (by simp [off]), rfl⟩, s, if_pos (by simp [off]), rfl⟩,
    fun s offer mode on_ low high of_ first => ?up, fun s offer on_ none_ => ?down,
    fun s on_ down => ⟨fun first => ?fails, fun again => ?retries⟩,
    fun s up => ⟨s, if_pos (by simp [Gulene.linkUp, up]), rfl⟩,
    fun s a => ⟨fun own => ⟨⟨_, congrArg Host.Outcome.next (if_pos own), rfl⟩, _, congrArg Host.Outcome.next (if_pos own), rfl⟩,
      fun other => ⟨⟨_, congrArg Host.Outcome.next (if_neg (by simp [other])), rfl⟩, _, congrArg Host.Outcome.next (if_neg (by simp [other])), rfl⟩,
      fun own => ⟨_, congrArg Host.Outcome.next (if_pos (by simp [own])), rfl⟩, fun other => ⟨_, congrArg Host.Outcome.next (if_neg (by simpa using other)), rfl⟩,
      ⟨_, rfl, rfl⟩, _, rfl, rfl⟩⟩
  case up =>
    let v := s.setGn (fun g => { g with mode := modeOf offer, negFailed := false })
    have is := modeOf_highest low high of_ first
    have live : v.gn.linkUp = true := by
      show (modeOf offer != 0) = true
      rw [is]
      simp
      omega
    obtain ⟨mode', failed, joined, first', second, many, few⟩ := v.linkUp_says
    have set : Touch 0x400 s v := s.setGn_touch (fun g => { g with mode := modeOf offer, negFailed := false }) id
    refine ⟨v.linkUp, (exec_ethernetLink on_ offer).trans (congrArg _ (if_pos live)), mode'.trans is, failed, joined,
      Puts.before set first', Puts.before set second, many, fun small => ?_⟩
    obtain ⟨ends, still, notes⟩ := few small
    exact ⟨ends, still, notes⟩
  case down =>
    let v := s.setGn (fun g => { g with mode := modeOf offer, negFailed := false })
    have dead : ¬ v.gn.linkUp = true := by
      show ¬ (modeOf offer != 0) = true
      rw [modeOf_none none_]
      decide
    obtain ⟨mode, isolated, joined, alone⟩ := v.linkDown_says
    have set : Touch 0x400 s v := s.setGn_touch (fun g => { g with mode := modeOf offer, negFailed := false }) id
    have downs : Touch 0x814c00 s v.linkDown := (set.mono rfl).step v.linkDown_touch rfl
    have on_' : v.linkDown.rc.ethOn = true := by rw [downs.rc_eq rfl, on_]
    have talks := State.negotiate_on on_'
    refine ⟨v.linkDown.negotiate, (exec_ethernetLink on_ offer).trans (congrArg _ (if_neg dead)), ?_⟩
    dsimp only
    rw [talks]
    exact ⟨mode, isolated, joined, Puts.before downs (Puts.emit _ _), fun open_ => alone open_⟩
  case fails =>
    let v := (s.setGn (fun g => { g with negFailed := true })).record 0x0D01 1 kLink 0 []
    have noted : Touch 0x814400 s v :=
      ((s.setGn_touch (fun g => { g with negFailed := true }) id).mono rfl).step (State.record_touch ..) rfl
    have runs : exec .negFail s = .next v.negotiate := (exec_negFail on_ down).trans
      (congrArg (fun v => Host.Outcome.next (State.negotiate v)) (if_neg (by simp [first])))
    rw [State.negotiate_on (s := v) (by rw [noted.rc_eq rfl, on_])] at runs
    exact ⟨_, runs, rfl, State.record_newest .., Puts.before noted (Puts.emit _ _)⟩
  case retries =>
    have runs : exec .negFail s = .next s.negotiate := (exec_negFail on_ down).trans
      (congrArg (fun v => Host.Outcome.next (State.negotiate v)) (if_pos again))
    rw [State.negotiate_on on_] at runs
    exact ⟨_, runs, rfl⟩

end Sys2Proof.Machine
end

section
/-!
R219, R223, R225, R231, R263: what ends by itself in the governor.
-/

namespace Sys2Proof.Machine

open Sys2Proof

/-! ### What grants leave of the governor -/

/-- Endpoints by what no grant changes of them. -/
def Governor.names (g : Governor) : List (Nat × Nat) := g.eps.map (fun e => (e.id, e.lbar))

/-- A change of endpoints that keeps their names. -/
theorem names_map (l : List Endpoint) (f : Endpoint → Endpoint) (kept : ∀ e, ((f e).id, (f e).lbar) = (e.id, e.lbar)) :
    (l.map f).map (fun e => (e.id, e.lbar)) = l.map (fun e => (e.id, e.lbar)) := by
  rw [List.map_map]
  exact List.map_congr_left fun e _ => kept e

/-- No endpoint comes or goes, and no barrier. -/
structure Governed (s t : State) : Prop where
  names : t.gv.names = s.gv.names
  barriers : t.gv.barriers = s.gv.barriers

section
variable {s t v : State}

theorem Governed.refl (s : State) : Governed s s := ⟨rfl, rfl⟩

theorem Governed.trans (first : Governed s t) (second : Governed t v) : Governed s v :=
  ⟨second.names.trans first.names, second.barriers.trans first.barriers⟩

theorem Governed.cond {c : Prop} [Decidable c] (yes : Governed s t) (no : Governed s v) : Governed s (if c then t else v) := by
  split <;> assumption

theorem Governed.of_gv (same : t.gv = s.gv) : Governed s t := ⟨congrArg _ same, congrArg _ same⟩

theorem Governed.issueGrant (s : State) (force : Bool) (id : Nat) (x : Grant) : Governed s (s.issueGrant force id x) := by
  unfold State.issueGrant
  split
  · dsimp only
    refine .cond (.refl s) ?_
    refine .trans (.of_gv (comp_bit (State.gnSend_touch ..).gv rfl)) ⟨?_, rfl⟩
    exact names_map _ _ fun e => by split <;> rfl
  · exact .refl s

theorem Governed.issueAll (s : State) (force : Bool) (l : List (Nat × Grant)) : Governed s (s.issueAll force l) := by
  unfold State.issueAll
  induction l generalizing s with
  | nil => exact .refl s
  | cons x l ih => exact (Governed.issueGrant s force x.1 x.2).trans (ih _)

theorem Governed.govern (s : State) (force : Bool) : Governed s (s.govern force) :=
  .trans (t := (s.computeGrants s.rackViews).1) ⟨rfl, rfl⟩ (.issueAll _ force _)

/-- Grants computed where they are not computed at epochs (R233). -/
theorem Governed.regovern (s : State) : Governed s (if s.gv.atEpochs then s else s.govern false) :=
  .cond (.refl s) (.govern s false)

end

theorem State.regovern_touch (s : State) : Touch 0x800c00 s (if s.gv.atEpochs then s else s.govern false) :=
  .cond (.refl _ _) (s.govern_touch false)

theorem State.endThrottle_names (s : State) (e : Endpoint) : (s.endThrottle e).gv.names = s.gv.names := by
  have set : (s.setEp e.id (fun e => { e with thr := none, intervals := (e.intervals + 1) % 256 })).gv.names = s.gv.names :=
    names_map _ _ fun x => by split <;> rfl
  unfold State.endThrottle
  split
  · rfl
  · dsimp only
    split
    · exact set
    · exact set

theorem State.endThrottles_names (l : List Endpoint) (s : State) : (l.foldl State.endThrottle s).gv.names = s.gv.names := by
  induction l generalizing s with
  | nil => rfl
  | cons e l ih => rw [List.foldl_cons, ih, State.endThrottle_names]

/-! ### Requests that end -/

/-- What is pending is not this module's own request. -/
theorem State.endOwn_gv (s : State) (id st r : Nat) : (s.endOwn id st r).gv = { s.gv with own := (s.endOwn id st r).gv.own } := by
  unfold State.endOwn
  split
  · rfl
  · dsimp only
    split
    · rw [comp_bit (State.complete_touch ..).gv rfl]
      rfl
    · rfl

theorem State.settleReq_gv (s : State) (r : Req) (st result : Nat) : (s.settleReq r st result).gv = { s.gv with
    own := (s.settleReq r st result).gv.own
    pend := s.gv.pend.map (fun p => if p.req = r then { p with state := st, finalAt := s.clk.now } else p) } := by
  unfold State.settleReq
  dsimp only
  split
  · rw [State.endOwn_gv]
    rfl
  · rfl

/-- A request that has reached a final state. -/
def Pend.settledBy (l : List Pend) (st now : Nat) (p : Pend) : Pend :=
  if p.req ∈ l.map (·.req) then { p with state := st, finalAt := now } else p

theorem Pend.settledBy_cons (x : Pend) (l : List Pend) (st now : Nat) (p : Pend) :
    Pend.settledBy l st now (if p.req = x.req then { p with state := st, finalAt := now } else p) = Pend.settledBy (x :: l) st now p := by
  unfold Pend.settledBy
  rw [List.map_cons]
  by_cases own : p.req = x.req
  · simp [own]
  · simp [own]

theorem State.settleAll_pend (l : List Pend) (st : Nat) (s : State) :
    (l.foldl (fun s p => s.settleReq p.req st 0) s).gv.pend = s.gv.pend.map (Pend.settledBy l st s.clk.now) := by
  induction l generalizing s with
  | nil => exact (List.map_id _).symm
  | cons x l ih =>
    rw [List.foldl_cons, ih, comp_bit (s.settleReq_touch x.req st 0).clk rfl, State.settleReq_gv, List.map_map]
    exact List.map_congr_left fun p _ => Pend.settledBy_cons x l st _ p

/-- Requests that end change nothing else of the governor. -/
theorem State.settleAll_gv {α : Type} (φ : Governor → α) (kept : ∀ (g : Governor) (own : List OwnReq) (pend : List Pend),
    φ { g with own := own, pend := pend } = φ g) (l : List Pend) (st : Nat) (s : State) :
    φ (l.foldl (fun s p => s.settleReq p.req st 0) s).gv = φ s.gv := by
  induction l generalizing s with
  | nil => rfl
  | cons x l ih => rw [List.foldl_cons, ih, State.settleReq_gv, kept]

/-- An endpoint as a barrier staggers it (R232). -/
def Endpoint.staggered (rank : List Nat) (tag span : Nat) (e : Endpoint) : Endpoint :=
  if rank.contains e.id then
    { e with tag := tag, stagger := if rank.length ≤ 1 then 0 else (rank.idxOf e.id) * span / (rank.length - 1) }
  else if e.tag = tag then { e with stagger := 0, tag := 0 } else e

theorem Endpoint.staggered_name (e : Endpoint) (rank : List Nat) (tag span : Nat) :
    ((e.staggered rank tag span).id, (e.staggered rank tag span).lbar) = (e.id, e.lbar) := by
  unfold Endpoint.staggered
  split
  · rfl
  · split
    · rfl
    · rfl

/-- A barrier that is complete leaves every lateness smoothed by the arrivals' own (R231). -/
theorem State.barrierDone_says (s : State) (o : Barrier) (arr : List (Nat × Int × Int)) (late : List (Nat × Int))
    (came : arr = o.arrived.filter (fun a => (s.gv.ep a.1).isSome)) (some_ : arr ≠ [])
    (by_ : late = arr.map (fun a => (a.1, divFloor (a.2.1 - minI (arr.map (·.2.1)) 0) 1000))) :
    (s.barrierDone o).gv.names = s.gv.eps.map (fun e =>
        (e.id, ((e.lbar : Int) + divFloor ((look late e.id).getD (maxI (late.map (·.2)) 0) - e.lbar) 8).toNat)) ∧
      (s.barrierDone o).gv.barriers = s.gv.barriers.filter (fun b => b.tag != o.tag) := by
  refine ⟨?_, rfl⟩
  unfold State.barrierDone Governor.names State.setGv
  dsimp only
  rw [← came, if_neg (by simpa using some_), ← by_]
  refine (names_map _ (Endpoint.staggered _ _ _) fun e => e.staggered_name ..).trans ?_
  rw [List.map_map]
  rfl

/-- A request of this module not yet adopted goes out again (R263). -/
theorem exec_budgetReqRepeat {s : State} {o : OwnReq} {req : Nat} (found : s.gv.own.find? (fun o => o.req.id == req) = some o)
    (open_ : o.adopted = false) (gov : s.rc.gov = true) :
    exec (.budgetReqRepeat req) s = .next (if s.isLead then s.leadTake o.req else s.sendReq o.req) := by
  show execBudgetReqRepeat req s = _
  unfold execBudgetReqRepeat
  rw [found]
  exact congrArg Host.Outcome.next (if_neg (by simp [open_, gov]))

/-- Settles O30: requests that end by `State.settleAll_pend`, the rest by what grants leave (`Governed`). -/
theorem governorExpiriesComplete : Obligations.GovernorExpiriesComplete := by
  refine ⟨fun s o h req found open_ host => ?ends, fun s o req found taken => ⟨⟨s, ?adopted, rfl⟩, s, ?repeated, rfl⟩,
    fun s o req found open_ gov => ⟨fun other can => ?sends, fun lead room => ?takes⟩,
    fun s renewed => ⟨s, if_pos (.inr (.inr (.inl (Option.isSome_iff_ne_none.mpr renewed)))), rfl⟩,
    fun s lead here old gov => ?expires, fun s k lead gov => ⟨_, congrArg Host.Outcome.next (if_pos ⟨lead, gov⟩), rfl⟩,
    fun s k e lead gov found => ?leaves, fun s tag o arr lead gov found came some_ => ?barrier, fun s k other => ?idle⟩
  case ends =>
    let mine (x : GnIn) : Bool := x.typ == 5 && x.msg.sender == o.req.sender && x.msg.body == o.req.body
    let v := (s.setGv (fun g => { g with inputs := g.inputs.filter (fun x => !mine x) })).setGn (fun g => { g with
          queue := g.queue.filter (fun x => !mine x) })
    let u := v.setGv (fun g => { g with own := g.own.filter (fun o => o.req.id != req) })
    have gone : v.endOwn req stTimeout 0 = u.complete h stTimeout 0 := by
      unfold State.endOwn
      rw [show v.gv.own.find? (fun o => o.req.id == req) = some o from found]
      dsimp only
      rw [host]
    have runs : exec (.budgetTimeout req) s = .next (u.complete h stTimeout 0) := by
      show execBudgetTimeout req s = _
      unfold execBudgetTimeout
      rw [found]
      dsimp only
      rw [if_neg (by simp [open_]), ← gone]
    have done := u.complete_touch h stTimeout 0
    refine ⟨_, runs, Answered.since (s := s) (u.complete_answers h stTimeout 0) rfl ⟨[], rfl⟩, ?_, ?_, fun x of_ => ?_⟩
    · rw [comp_bit done.gv rfl]
      rfl
    · rw [comp_bit done.gv rfl]
      rfl
    · rw [comp_bit done.gv rfl, comp_bit done.gn rfl] at of_
      have other : mine x = false := by
        rcases List.mem_append.mp of_ with of_ | of_
        · simpa using (List.mem_filter.mp of_).2
        · simpa using (List.mem_filter.mp of_).2
      rintro ⟨typ, sender, body⟩
      simp [mine, typ, sender, body] at other
  case adopted =>
    show execBudgetTimeout req s = _
    unfold execBudgetTimeout
    rw [found]
    exact congrArg Host.Outcome.next (if_pos taken)
  case repeated =>
    show execBudgetReqRepeat req s = _
    unfold execBudgetReqRepeat
    rw [found]
    exact congrArg Host.Outcome.next (if_pos (by simp [taken]))
  case sends =>
    have runs := exec_budgetReqRepeat found open_ gov
    rw [if_neg (by simp [State.isLead, other])] at runs
    obtain ⟨k, b, key, puts⟩ := State.rackSend_puts can 0x05 o.req.body
    refine ⟨_, runs, comp_bit (State.rackSend_touch ..).gv rfl, ?_, _, b, rfl, puts⟩
    unfold State.sendReq State.rackSend
    rw [key]
    dsimp only
    unfold State.gnSend
    rw [if_neg (by simp [can])]
    rfl
  case takes =>
    have runs := exec_budgetReqRepeat found open_ gov
    rw [if_pos lead] at runs
    have queues : s.leadTake o.req = s.setGn (fun g => { g with queue := g.queue ++
        [{ typ := 5, msg := s.ownMsg o.req, at_ := s.clk.now, ptpAt := s.clk.ptp }] }) := if_neg (by omega)
    rw [queues] at runs
    exact ⟨_, runs, rfl, rfl, rfl⟩
  case expires =>
    let v := s.setGv (fun g => { g with hostAbsent := true })
    let l := s.gv.pend.filter (fun p => p.state == 1 && p.req.kind == 0)
    have runs : exec .budgetExpiry s = .next (l.foldl (fun s p => s.settleReq p.req 6 0) v) :=
      if_neg (by simp [lead, here, old, gov])
    refine ⟨_, runs,
      State.settleAll_gv Governor.hostAbsent (fun _ _ _ => rfl) l 6 v, State.settleAll_gv Governor.budgetMw (fun _ _ _ => rfl) l 6 v,
      fun p of_ waits budget q of_' same => ?_⟩
    rw [State.settleAll_pend] at of_'
    obtain ⟨q', -, is⟩ := List.mem_map.mp of_'
    have req' : q.req = q'.req := by
      rw [← is]
      unfold Pend.settledBy
      split
      · rfl
      · rfl
    have due : q'.req ∈ l.map (·.req) :=
      List.mem_map.mpr ⟨p, List.mem_filter.mpr ⟨of_, by simp [waits, budget]⟩, same.symm.trans req'⟩
    rw [← is, Pend.settledBy, if_pos due]
  case leaves =>
    let l := s.gv.eps.filter (fun e => e.id == k)
    let a := l.foldl State.endThrottle s
    let b := a.setGv (fun g => { g with eps := g.eps.filter (fun e => e.id != k) })
    let c := b.record 0x0706 0 kEndpoint k (leBytes 1 1)
    have runs : exec (.endpointDeregister k) s = .next (if c.gv.atEpochs then c else c.govern false) :=
      if_neg (by simp [lead, gov, found])
    have kept := Governed.regovern c
    have ids (g g' : Governor) (same : g.names = g'.names) : g.eps.map (·.id) = g'.eps.map (·.id) := by
      have := congrArg (List.map (·.1)) same
      simpa [Governor.names, Function.comp_def] using this
    have ev : (if c.gv.atEpochs then c else c.govern false).ev = c.ev := comp_bit c.regovern_touch.ev rfl
    have last : Newest b c 0x0706 0 kEndpoint k (leBytes 1 1) := b.record_newest ..
    have all : (if c.gv.atEpochs then c else c.govern false).gv.eps.map (·.id) = (s.gv.eps.filter (fun x => x.id != k)).map (·.id) := by
      rw [ids _ _ kept.names]
      have same := ids _ _ (State.endThrottles_names l s)
      have kept := congrArg (List.filter (· != k)) same
      rw [List.filter_map, List.filter_map] at kept
      exact kept
    refine ⟨_, runs, fun x of_ is => ?_, all, ?_, fun idle => ?_⟩
    · have member : x.id ∈ (s.gv.eps.filter (fun x => x.id != k)).map (·.id) := all ▸ List.mem_map_of_mem of_
      obtain ⟨y, of_, same⟩ := List.mem_map.mp member
      have other := (List.mem_filter.mp of_).2
      simp [same, is] at other
    · rw [ev, last]
      rfl
    · have still : a = s := State.endThrottles_idle l fun x of_ => by
        obtain ⟨member, is⟩ := List.mem_filter.mp of_
        exact idle x member (by simpa using is)
      have last' : Newest s c 0x0706 0 kEndpoint k (leBytes 1 1) := by
        refine Newest.before (v := b) (F := 0x800) ?_ last ?_ rfl rfl
        · rw [show b = a.setGv _ from rfl, still]
          exact s.setGv_touch _
        · rw [show b.ev = a.ev from rfl, still]
      exact Newest.kept last' c.regovern_touch rfl
  case barrier =>
    have named : o.tag = tag := by simpa using List.find?_some found
    obtain ⟨-, gone⟩ := s.barrierDone_says o arr _ came some_ rfl
    have kept := Governed.regovern (s.barrierDone o)
    refine ⟨if (s.barrierDone o).gv.atEpochs then s.barrierDone o else (s.barrierDone o).govern false, ?_, fun b of_ => ?_, fun late by_ => ?_⟩
    · show execBarrierTimeout tag s = _
      unfold execBarrierTimeout
      rw [found]
      exact if_neg (by simp [lead, gov])
    · rw [kept.barriers, gone] at of_
      have other := (List.mem_filter.mp of_).2
      rw [named] at other
      simpa using other
    · obtain ⟨names, -⟩ := s.barrierDone_says o arr late came some_ by_
      exact kept.names.trans names
  case idle =>
    have not : ¬ s.isLead = true := by simp [other]
    intro c of_
    refine ⟨s, ?_, rfl⟩
    simp only [List.mem_cons, List.not_mem_nil, or_false] at of_
    obtain rfl | rfl | rfl | rfl | rfl | rfl := of_
    · exact if_pos (.inl not)
    · exact congrArg Host.Outcome.next (if_neg fun both => not both.1)
    · exact if_pos (.inl not)
    · show execBarrierTimeout k s = _
      unfold execBarrierTimeout
      split
      · exact if_pos (.inl not)
      · rfl
    · exact if_pos (.inl not)
    · exact if_pos (.inl not)

end Sys2Proof.Machine
end

section
/-!
R141, R277, R278, R280, R281: the loss of the partner, and the state copies.
-/

namespace Sys2Proof.Machine

open Sys2Proof

/-! ### HOLD_US checked -/

section
variable (s : State)

/-- The check of one port's HOLD_US leaves the HOLD_US of every port, and every check of another. -/
theorem State.holdCheck_says (p : Nat) : (∀ q, ((s.holdCheck p).port q).holdUs = (s.port q).holdUs) ∧
    (∀ q, q ≠ p → (s.holdCheck p).port q = s.port q) ∧ (s.holdCheck p).teth = s.teth ∧
    (p < s.ports.length → ((s.holdCheck p).port p).holdShort = (s.teth.trained && decide ((s.port p).holdUs < 20))) ∧
    (20 ≤ (s.port p).holdUs → (s.holdCheck p).ev = s.ev) ∧ (s.holdCheck p).ports.length = s.ports.length := by
  let v := s.setPort p (fun P => { P with holdShort := s.teth.trained && decide ((s.port p).holdUs < 20) })
  have set : v.ports = upd s.ports p (fun P => { P with holdShort := s.teth.trained && decide ((s.port p).holdUs < 20) }) := rfl
  have ports : (s.holdCheck p).ports = v.ports := by
    unfold State.holdCheck
    dsimp only
    split
    · exact comp_bit (State.record_touch ..).ports rfl
    · rfl
  have port (q : Nat) : (s.holdCheck p).port q = v.port q := congrArg (fun l => nth l q ({} : Port)) ports
  refine ⟨fun q => ?_, fun q other => ?_, comp_bit (s.holdCheck_touch p).teth rfl, fun low => ?_, fun long => ?_,
    by rw [ports, set, upd_length]⟩
  · rw [port, State.port_setPort]
    split
    · rfl
    · rfl
  · rw [port]
    exact (PortsKept.setPort _).other q other
  · rw [port, State.port_setPort_same low]
  · unfold State.holdCheck
    dsimp only
    rw [if_neg]
    · rfl
    · simp
      omega

/-- Every port of a list has been checked once all have. -/
theorem State.holdChecks_says (l : List Nat) : (∀ q, ((l.foldl State.holdCheck s).port q).holdUs = (s.port q).holdUs) ∧
    (l.foldl State.holdCheck s).teth = s.teth ∧
    (∀ p, p < s.ports.length → p ∈ l ∨ (s.port p).holdShort = (s.teth.trained && decide ((s.port p).holdUs < 20)) →
      ((l.foldl State.holdCheck s).port p).holdShort = (s.teth.trained && decide ((s.port p).holdUs < 20))) ∧
    ((∀ p ∈ l, 20 ≤ (s.port p).holdUs) → (l.foldl State.holdCheck s).ev = s.ev) := by
  induction l generalizing s with
  | nil => exact ⟨fun _ => rfl, rfl, fun p _ done => done.resolve_left List.not_mem_nil, fun _ => rfl⟩
  | cons x l ih =>
    obtain ⟨held, others, teth, short, still, size⟩ := s.holdCheck_says x
    obtain ⟨held', teth', short', still'⟩ := ih (s.holdCheck x)
    refine ⟨fun q => (held' q).trans (held q), teth'.trans teth, fun p low done => ?_, fun long => ?_⟩
    · have := short' p (size ▸ low)
      rw [teth, held] at this
      refine this ?_
      by_cases is : p = x
      · exact .inr (is ▸ short (is ▸ low))
      · rw [others p is]
        exact done.imp_left fun of_ => (List.mem_cons.mp of_).resolve_left is
    · exact (still' fun p of_ => (held p).symm ▸ long p (.tail _ of_)).trans (still (long x (.head _)))

end

/-! ### A standby takes over -/

section
variable (s : State)

/-- What stands once a standby has taken ownership, before HOLD_US is checked. -/
def State.owned (cause : Nat) : State :=
  { s.becomeActive.mapPorts Port.wake with
    le := { s.le with slots := s.le.slots.map Slot.markTakeover }, gv := { s.gv with snuffOut := false }
    teth := { s.becomeActive.teth with
      armed := false, appliedAt := none, copyWhole := false, takeovers := satInc 8 s.teth.takeovers, lastCause := cause, failed := []
      tkoAt := some s.clk.now, checkDue := true, checkPorts := (s.becomeActive.mapPorts Port.wake).trainedPorts } }

theorem State.trainedPorts_map {s t : State} (part : t.part = s.part) (same : ∀ p, (t.port p).state = (s.port p).state) :
    t.trainedPorts = s.trainedPorts := by
  unfold State.trainedPorts
  rw [part]
  exact List.filter_congr fun p _ => by rw [same]

theorem State.wake_field {α : Type} (φ : Port → α) (same : ∀ P : Port, φ P.wake = φ P) (v : State) (p : Nat) :
    φ ((v.mapPorts Port.wake).port p) = φ (v.port p) := nth_map_field v.ports Port.wake p {} φ same

theorem State.takeover_eq (cause : Nat) : s.takeover cause = s.trainedPorts.foldl State.holdCheck (s.owned cause) := by
  have ports : (s.owned cause).trainedPorts = s.trainedPorts :=
    State.trainedPorts_map rfl fun p => State.wake_field Port.state (fun _ => rfl) s p
  rw [← ports]
  rfl

/-- A standby that takes ownership (R273, R281). -/
theorem State.takeover_says (cause : Nat) : (s.takeover cause).role = .active ∧ (s.takeover cause).teth = (s.owned cause).teth ∧
    (s.takeover cause).le = { s.le with slots := s.le.slots.map Slot.markTakeover } ∧
    (WellShaped s → ∀ p ∈ s.trainedPorts, ((s.takeover cause).port p).holdShort = (s.teth.trained && decide ((s.port p).holdUs < 20))) ∧
    ((∀ p ∈ s.trainedPorts, 20 ≤ (s.port p).holdUs) → (s.takeover cause).ev = s.ev) := by
  have held (p : Nat) : ((s.owned cause).port p).holdUs = (s.port p).holdUs := State.wake_field Port.holdUs (fun _ => rfl) s p
  obtain ⟨-, teth, short, still⟩ := (s.owned cause).holdChecks_says s.trainedPorts
  have checks : Touch 0x814020 (s.owned cause) (s.trainedPorts.foldl State.holdCheck (s.owned cause)) :=
    (Touch.refl _ _).foldl fun v p => v.holdCheck_touch p
  rw [s.takeover_eq]
  refine ⟨comp_bit checks.role rfl, teth, comp_bit checks.le rfl, fun w p of_ => ?_, fun long => still fun p of_ => (held p).symm ▸ long p of_⟩
  have low : p < s.part.ports := by
    unfold State.trainedPorts at of_
    exact List.mem_range.mp (List.mem_filter.mp of_).1
  have size : (s.owned cause).ports.length = 80 := (List.length_map _).trans w.ports
  have := short p (size ▸ Nat.lt_of_lt_of_le low s.part.ports_le) (.inl of_)
  rwa [held] at this

end

/-- The loss of a partner that has been heard (R277). -/
theorem State.partnerLost_says {s : State} (seen : s.teth.seen = true) (here : s.teth.lost = false) :
    s.partnerLost.teth.lost = true ∧ s.partnerLost.teth.lostFlag = true ∧ s.partnerLost.teth.losses = satInc 8 s.teth.losses ∧
    (s.role = .standby → s.isArmed = true → s.partnerLost.role = .active ∧ s.partnerLost.teth.epoch = s.chooseEpoch ∧
      s.partnerLost.teth.lastCause = 1 ∧
      s.partnerLost.teth.armed = false ∧ s.partnerLost.le = { s.le with slots := s.le.slots.map Slot.markTakeover } ∧
      (WellShaped s → ∀ p ∈ s.trainedPorts, (s.partnerLost.port p).holdShort = (s.teth.trained && decide ((s.port p).holdUs < 20))) ∧
      ((∀ p ∈ s.trainedPorts, 20 ≤ (s.port p).holdUs) → Newest s s.partnerLost 0x0C01 1 kNone 0 (leBytes 1 1))) ∧
    (s.role ≠ .standby ∨ s.isArmed = false → s.partnerLost.role = s.role ∧ s.partnerLost.le = s.le ∧ s.partnerLost.teth.epoch = s.teth.epoch ∧
      Newest s s.partnerLost 0x0C01 1 kNone 0 (leBytes 1 0)) := by
  let a := s.setTeth (fun t => { t with
      lost := true, lostFlag := true, losses := satInc 8 t.losses, hbRun := 0, missRun := 8
      missedHb := satAdd 16 t.missedHb (8 - t.missRun) })
  let b (n : Nat) := a.record 0x0C01 1 kNone 0 (leBytes 1 n)
  have noted (n : Nat) : Touch 0x814008 s (b n) := ((s.setTeth_touch _).mono rfl).step (a.record_touch ..) rfl
  have last (n : Nat) : Newest s (b n) 0x0C01 1 kNone 0 (leBytes 1 n) := a.record_newest ..
  by_cases armed : s.role = .standby ∧ s.isArmed = true
  · have is : s.partnerLost = (b 1).takeover 1 := by
      unfold State.partnerLost
      rw [if_neg (by simp [seen, here])]
      simp only [armed.1, armed.2]
      rfl
    obtain ⟨role, teth, le, short, still⟩ := (b 1).takeover_says 1
    rw [is, teth]
    refine ⟨rfl, rfl, rfl, fun _ _ => ⟨role, rfl, rfl, rfl, le, fun w p of_ => short ((noted 1).shape w) p of_, fun long => ?_⟩,
      fun not => absurd armed (by rcases not with not | not <;> simp [not])⟩
    exact show ((b 1).takeover 1).ev.ring.getLast? = _ from (still long) ▸ last 1
  · have is : s.partnerLost = b 0 := by
      have not : (s.role == .standby && s.isArmed) = false := by
        simpa using armed
      unfold State.partnerLost
      rw [if_neg (by simp [seen, here])]
      simp only [not]
      rfl
    rw [is]
    exact ⟨rfl, rfl, rfl, fun r a => absurd ⟨r, a⟩ armed, fun _ => ⟨rfl, rfl, rfl, last 0⟩⟩

/-! ### State copies -/

/-- A chunk that is no good, or breaks the order, or does not end a copy (R278). -/
theorem exec_tetherBulk_begins {s : State} {f : BulkFrame} {c : Option StateCopy} (role : s.role = .standby) (trained : s.teth.trained = true) :
    (goodBulk f = false → exec (.tetherBulk f.syncs f.type f.hdr f.data f.crc c) s = .next (s.setTeth (fun t => { t with
      bulkCrc := satInc 8 t.bulkCrc, rxGood := false, copyWhole := false }))) ∧
    (goodBulk f = true → (bitAt f.hdr 11 = false ∨ bits f.hdr 23 12 ≠ 0 ∧
        (s.teth.rxGood = false ∨ s.teth.rxSeq ≠ bits f.hdr 39 24 ∨ s.teth.rxNext ≠ bits f.hdr 23 12)) →
      exec (.tetherBulk f.syncs f.type f.hdr f.data f.crc c) s = .next (s.setTeth (fun t => { t with
        rxSeq := bits f.hdr 39 24, rxNext := bits f.hdr 23 12 + 1, copyWhole := false
        rxGood := bits f.hdr 23 12 == 0 || (s.teth.rxGood && s.teth.rxSeq == bits f.hdr 39 24 && s.teth.rxNext == bits f.hdr 23 12) }))) := by
  refine ⟨fun bad => ?_, fun good stops => ?_⟩
  · show execTetherBulk f.syncs f.type f.hdr f.data f.crc c s = _
    unfold execTetherBulk
    dsimp only
    rw [if_neg (by simp [role, trained]), if_pos (by rw [bad]; rfl)]
  · show execTetherBulk f.syncs f.type f.hdr f.data f.crc c s = _
    unfold execTetherBulk
    dsimp only
    rw [if_neg (by simp [role, trained]), if_neg (by rw [good]; decide), if_pos]
    rcases stops with last | ⟨later, order⟩
    · simp [last]
    · rcases order with order | order | order
      all_goals simp [later, order]

/-- A whole copy, with its format compared (R278). -/
theorem exec_tetherBulk_ends {s : State} {f : BulkFrame} {c : StateCopy} (role : s.role = .standby) (trained : s.teth.trained = true)
    (good : goodBulk f = true) (last : bitAt f.hdr 11 = true) (order : bits f.hdr 23 12 = 0 ∨ (s.teth.rxGood = true ∧
      s.teth.rxSeq = bits f.hdr 39 24 ∧ s.teth.rxNext = bits f.hdr 23 12)) :
    ∃ a, Touch 0x8 s a ∧ a.teth.partnerHand = s.teth.partnerHand ∧
      a.teth.formatMismatch = decide (bits f.hdr 7 0 ≠ s.se.copyFormat) ∧
      exec (.tetherBulk f.syncs f.type f.hdr f.data f.crc (some c)) s =
        .next (if a.teth.formatMismatch then a else a.applyCopy (bits f.hdr 39 24) c) := by
  let a := (s.setTeth (fun t => { t with
      rxSeq := bits f.hdr 39 24, rxNext := bits f.hdr 23 12 + 1, copyWhole := false
      rxGood := bits f.hdr 23 12 == 0 || (s.teth.rxGood && s.teth.rxSeq == bits f.hdr 39 24 && s.teth.rxNext == bits f.hdr 23 12) })).setTeth
    (fun t => { t with rxGood := false, formatMismatch := decide (bits f.hdr 7 0 ≠ s.se.copyFormat) })
  refine ⟨a, (s.setTeth_touch _).step (State.setTeth_touch ..) rfl, rfl, rfl, ?_⟩
  show execTetherBulk f.syncs f.type f.hdr f.data f.crc (some c) s = _
  unfold execTetherBulk
  dsimp only
  rw [if_neg (by simp [role, trained]), if_neg (by rw [good]; decide), if_neg]
  · rfl
  · rcases order with order | ⟨whole, seq, next⟩
    · simp [last, order]
    · simp [last, whole, seq, next]

theorem State.takeOffered_alone {s : State} (alone : s.teth.partnerHand = false) : s.takeOffered = s := if_neg (by simp [alone])

/-- What a standby takes over from a copy (R278, Table 11-4). -/
theorem State.applyCopy_says {s : State} (w : WellShaped s) (alone : s.teth.partnerHand = false) (q : Nat) (c : StateCopy) :
    (s.applyCopy q c).role = s.role ∧
    (s.applyCopy q c).teth = { s.teth with copySeq := q, copyAt := some s.clk.now, appliedAt := some s.clk.now, copyWhole := true } ∧
    (∀ p, p < 80 → ((s.applyCopy q c).port p).retired = (look c.retired p).isSome ∧ ((s.applyCopy q c).port p).copyFailed = c.failed.contains p) ∧
    (s.applyCopy q c).rc.retiredBk = c.retired.map Prod.fst ∧ (s.applyCopy q c).pl = s.pl.fromCopy c.pl ∧
    (s.applyCopy q c).gv = s.gv.fromCopy c.gv := by
  let cell (p : Nat) (P : Port) : Port :=
    { P with retired := (look c.retired p).isSome, cause := (look c.retired p).getD P.cause, copyFailed := c.failed.contains p }
  let a := (List.range 16).foldl (fun s g => s.matchGroup g (nth c.groups g {})) s
  let b : State := { a with ports := a.ports.mapIdx cell, rc := { a.rc with retiredBk := c.retired.map Prod.fst } }
  let d := (c.retired.filter (fun x => (b.group (b.port x.1).group).gtype == 1)).foldl (fun s x => s.openSlots [(s.port x.1).cellSlot]) b
  let e := ({ d with pl := d.pl.fromCopy c.pl, gv := d.gv.fromCopy c.gv }).setTeth
    (fun t => { t with copySeq := q, copyAt := some d.clk.now, appliedAt := some d.clk.now, copyWhole := true })
  have matched : Touch 0x50 s a := (Touch.refl _ s).foldl fun v g => v.matchGroup_touch g _
  have opened : Touch 0x10 b d := (Touch.refl _ b).foldl fun v x => v.openSlots_touch _
  have teth : d.teth = s.teth := (comp_bit opened.teth rfl).trans (comp_bit matched.teth rfl)
  have clk : d.clk = s.clk := (comp_bit opened.clk rfl).trans (comp_bit matched.clk rfl)
  have ends : s.applyCopy q c = e := by
    have not : e.teth.partnerHand = false := by
      show d.teth.partnerHand = false
      rw [teth, alone]
    exact State.takeOffered_alone not
  have ports : e.ports = s.ports.mapIdx cell := (comp_bit opened.ports rfl).trans (congrArg (List.mapIdx cell) (comp_bit matched.ports rfl))
  rw [ends]
  refine ⟨(comp_bit opened.role rfl).trans (comp_bit matched.role rfl), ?_, fun p low => ?_, ?_, ?_, ?_⟩
  · show { d.teth with copySeq := q, copyAt := some d.clk.now, appliedAt := some d.clk.now, copyWhole := true } = _
    rw [teth, clk]
  · rw [State.port, ports, nth_mapIdx s.ports cell {} (w.ports ▸ low)]
    exact ⟨rfl, rfl⟩
  · exact congrArg ResetCtl.retiredBk (opened.rc_eq rfl)
  · show d.pl.fromCopy c.pl = _
    rw [comp_bit opened.pl rfl]
    exact congrArg (Planisher.fromCopy · c.pl) (comp_bit matched.pl rfl)
  · show d.gv.fromCopy c.gv = _
    rw [comp_bit opened.gv rfl]
    exact congrArg (Governor.fromCopy · c.gv) (comp_bit matched.gv rfl)

/-- Settles O36: the loss of the partner by `State.partnerLost_says` (a takeover and its HOLD_US checks), a copy by
`State.applyCopy_says`. -/
theorem partnerAndCopiesComplete : Obligations.PartnerAndCopiesComplete := by
  refine ⟨fun s seen here => ⟨_, rfl, State.partnerLost_says seen here⟩, fun s still => ⟨_, rfl, if_pos ?still⟩,
    fun s gone => ⟨s.raiseCause 7 kNone 0, congrArg Host.Outcome.next (if_pos ?gone), State.raiseCause_raised .., fun stands => State.raiseCause_stands stands ..⟩,
    fun s here seen => ⟨s, congrArg Host.Outcome.next (if_neg (by simp [here, seen])), rfl⟩,
    fun s role trained => ?copies, fun s not => ⟨s, if_pos ?idle, rfl⟩,
    fun s f c not => ⟨s, if_pos (by simpa using not), rfl⟩,
    fun s f c role trained => ⟨fun bad => ⟨_, (exec_tetherBulk_begins role trained).1 bad, rfl, rfl, rfl⟩,
      fun good first more => ⟨_, (exec_tetherBulk_begins role trained).2 good (.inl more), ?_, rfl, rfl⟩,
      fun good later order => ⟨_, (exec_tetherBulk_begins role trained).2 good (.inr ⟨later, order⟩), ?_, rfl, rfl⟩⟩,
    fun s f c w role trained good last order => ?ends⟩
  case still =>
    rcases still with still | still
    all_goals simp [still]
  case gone =>
    rcases gone with gone | gone
    all_goals simp [gone]
  case idle =>
    rcases not with not | not
    all_goals simp [State.active, not]
  case copies =>
    let v := s.emit (.tetherCopy ((s.teth.copySeq + 1) % 2 ^ 16) s.se.copyFormat s.makeCopy)
    refine ⟨_, if_neg (by simp [State.active, role, trained]), Puts.later (Puts.emit _ _) (v.setTeth_touch _), rfl, rfl, rfl, ?_⟩
    show (match s.teth.hand with
      | .copyDue => Handover.copying
      | h => h) = _
    cases s.teth.hand
    case copyDue => rfl
    all_goals rfl
  · have stays : (bits f.hdr 23 12 == 0 || (s.teth.rxGood && s.teth.rxSeq == bits f.hdr 39 24 && s.teth.rxNext == bits f.hdr 23 12)) = true := by
      simp [first]
    unfold State.setTeth
    dsimp only
    rw [stays, first]
  · have breaks : (bits f.hdr 23 12 == 0 || (s.teth.rxGood && s.teth.rxSeq == bits f.hdr 39 24 && s.teth.rxNext == bits f.hdr 23 12)) = false := by
      rcases order with order | order | order
      all_goals simp [later, order]
    unfold State.setTeth
    dsimp only
    rw [breaks]
  case ends =>
    obtain ⟨a, touch, hand, mismatch, runs⟩ := exec_tetherBulk_ends (c := c) role trained good last order
    refine ⟨fun other => ⟨a, ?_, ?_, comp_bit touch.pl rfl, comp_bit touch.gv rfl, comp_bit touch.ports rfl⟩, fun same alone => ?_⟩
    · rw [runs, if_pos (by rw [mismatch]; simpa using other)]
    · rw [mismatch]
      simpa using other
    · have whole : a.teth.formatMismatch = false := by
        rw [mismatch]
        simp [same]
      rw [if_neg (by rw [whole]; decide)] at runs
      obtain ⟨role', teth, ports, retired, pl, gv⟩ := State.applyCopy_says (touch.shape w) (hand.trans alone) (bits f.hdr 39 24) c
      refine ⟨_, runs, ?_⟩
      dsimp only
      rw [teth, pl, gv, ← show a.clk = s.clk from comp_bit touch.clk rfl]
      refine ⟨(role'.trans (comp_bit touch.role rfl)).trans role, rfl, rfl, rfl, rfl, whole, ports, retired, rfl, rfl, rfl, rfl, rfl, rfl, ?_, rfl⟩
      exact List.map_map.trans rfl

end Sys2Proof.Machine
end

section
/-!
R219, R233, R259, R263, R379, R388: the governor's commands.
-/

namespace Sys2Proof.Machine

open Sys2Proof

/-! ### Requests -/

theorem State.gnQueue_inflight (s : State) (typ : Nat) (m : GnMsg) : (s.gnQueue typ m).hq.inflight = s.hq.inflight := by
  have drops (v : State) (kind sender count : Nat) : (v.dropRecord kind sender count).hq.inflight = v.hq.inflight := by
    unfold State.dropRecord
    dsimp only
    split
    · exact State.record_inflight ..
    · exact State.record_inflight ..
  unfold State.gnQueue
  split
  · dsimp only
    split
    all_goals
      split
      · rfl
      · exact drops ..
  · rfl

/-- A host command that has become a request waits, and goes to the lead, or is taken by it (R263). -/
theorem State.request_says (s : State) (h : CmdHdr) (op kind : Nat) (w : Int) (ms value id : Nat) (role : s.role = .active)
    (is : id = (if (s.gv.reqId + 1) % 2 ^ 32 = 0 then 1 else (s.gv.reqId + 1) % 2 ^ 32)) :
    Requested s (s.request h op kind w ms value) h ⟨s.gnSelf, id, kind, w, ms, value⟩
      (if kind = 0 then .budget else .setting kind value) := by
  let r : Req := ⟨s.gnSelf, id, kind, w, ms, value⟩
  let a := s.setGv (fun g => { g with reqId := id, own := g.own ++ [{ req := r, hdr := some h, adopted := false }] })
  let b := a.await h op (if kind = 0 then .budget else .setting kind value)
  have runs : s.request h op kind w ms value = if s.isLead then b.leadTake r else b.sendReq r := by
    subst is
    rfl
  have waits : Waits b h (if kind = 0 then .budget else .setting kind value) := Waits.await ..
  have sends := b.rackSend_touch 0x05 r.body
  have lead : s.isLead = (s.gv.role == 2) := by simp [State.isLead, State.active, role]
  rw [runs]
  split
  next leads =>
    have takes := b.gnQueue_touch 5 (b.ownMsg r)
    rw [lead] at leads
    refine ⟨?_, ?_, fun _ room => ?_, fun other => absurd (by simpa using leads) other⟩
    · obtain ⟨f, of_, rest⟩ := waits
      exact ⟨f, by rw [State.leadTake, State.gnQueue_inflight]; exact of_, rest⟩
    · exact comp_bit takes.gv rfl
    · rw [State.leadTake, State.gnQueue, if_neg (by show ¬ s.gn.queue.length ≥ 4096; omega)]
      rfl
  next follows =>
    rw [lead] at follows
    refine ⟨?_, comp_bit sends.gv rfl, fun leads => absurd (by simpa using leads) follows, fun _ can k key => ?_⟩
    · obtain ⟨f, of_, rest⟩ := waits
      exact ⟨f, by rw [State.sendReq, comp_bit sends.hq rfl]; exact of_, rest⟩
    · have can' : b.canSend = true := can
      have key' : b.gn.rackKey.cur = some k := key
      unfold State.sendReq State.rackSend
      rw [key']
      dsimp only
      unfold State.gnSend
      rw [if_neg (by simp [can'])]
      exact Puts.emit _ _

/-! ### Keys -/

section
variable (s : State) (k : Key)

/-- A key goes to its role alone (R259). -/
theorem State.loadKey_says (row : Bool) (is : row = decide (0x80 < k.id)) :
    ((s.gn.role row).cur = none → (s.loadKey k).gn.role row = { s.gn.role row with cur := some k }) ∧
    (∀ c, (s.gn.role row).cur = some c → k.activate ≠ 0 → s.clk.ptp < k.activate →
      (s.loadKey k).gn.role row = { s.gn.role row with next := some k }) ∧
    (∀ c, (s.gn.role row).cur = some c → (k.activate = 0 ∨ k.activate ≤ s.clk.ptp) →
      (s.loadKey k).gn.role row = { cur := some k, next := none, old := c :: (s.gn.role row).old }) ∧
    (s.loadKey k).gn.role (!row) = s.gn.role (!row) := by
  subst is
  refine ⟨fun first => ?_, fun c cur some_ later => ?_, fun c cur now => ?_, (Gulene.role_setRole ..).2⟩
  · refine (Gulene.role_setRole ..).1.trans (if_pos ?_)
    rw [first]
    rfl
  · refine (Gulene.role_setRole ..).1.trans ((if_neg ?_).trans (if_neg ?_))
    · simp [cur]
    · omega
  · refine (Gulene.role_setRole ..).1.trans ((if_neg ?_).trans ((if_pos now).trans ?_))
    · simp [cur]
    · unfold KeyRole.switch
      dsimp only
      rw [cur]
      rfl

end

/-- Keys are kept as groups are joined and a command answered. -/
theorem State.joinAnswer_role (s : State) (h : CmdHdr) (row : Bool) :
    (s.joinGroups.complete h stOk 0).gn.role row = s.gn.role row := by
  rw [comp_bit (State.complete_touch ..).gn rfl, State.joinGroups_gn, Gulene.role_joined]

/-! ### The time -/

/-- A time that is lost leaves the clock and its domain. -/
theorem State.loseLock_clk (s : State) : s.loseLock.clk.ptp = s.clk.ptp ∧ s.loseLock.clk.ptpHeld = s.clk.ptpHeld ∧
    (s.clk.ptpState = .lock → s.loseLock.clk.ptpState = .holdover) := by
  unfold State.loseLock
  split
  next free => exact ⟨rfl, rfl, fun lock => absurd lock (by simpa [State.ptpLock] using free)⟩
  next =>
    dsimp only
    split
    · exact ⟨rfl, rfl, fun _ => rfl⟩
    · exact ⟨rfl, rfl, fun _ => rfl⟩

/-- The PTP domain and source as TIME_SET gives them (R388). -/
def State.timeDomain (s : State) (role domain : Nat) : State :=
  (if domain ≠ s.gn.domain then
      (s.loseLock).setGn (fun g => { g with domain := domain, better := none, goodSync := 0, badSync := 0 })
    else s).setGn (fun g => { g with rackSource := role == 1 }.elect)

theorem State.timeDomain_says (s : State) (role domain : Nat) : Touch 0x814c02 s (s.timeDomain role domain) ∧
    (s.timeDomain role domain).gn.domain = domain ∧ (s.timeDomain role domain).gn.rackSource = (role == 1) ∧
    (s.timeDomain role domain).clk.ptp = s.clk.ptp ∧ (s.timeDomain role domain).clk.ptpHeld = s.clk.ptpHeld ∧
    (domain ≠ s.gn.domain → s.clk.ptpState = .lock → (s.timeDomain role domain).clk.ptpState = .holdover) := by
  have last (v : State) : Touch 0x400 v (v.setGn (fun g => { g with rackSource := role == 1 }.elect)) := v.setGn_touch _ id
  obtain ⟨ptp, held, over_⟩ := s.loseLock_clk
  unfold State.timeDomain
  split
  · exact ⟨((s.loseLock_touch.mono rfl).step (s.loseLock.setGn_touch
      (fun g => { g with domain := domain, better := none, goodSync := 0, badSync := 0 }) id) rfl).step (last _) rfl, rfl, rfl, ptp, held,
      fun _ => over_⟩
  next same =>
    exact ⟨(last s).mono rfl, (Classical.not_not.mp same).symm, rfl, rfl, rfl, fun other => absurd (Classical.not_not.mp same) other⟩

/-! ### Requests adopted -/

theorem Talks.queue {s t : State} (talks : Talks s t) : t.gn.queue = s.gn.queue :=
  show t.gn.sansSent.queue = s.gn.sansSent.queue from congrArg Gulene.queue talks.net

section
variable {s : State}

/-- A lead that sends its shares again keeps what it has adopted (R222). -/
theorem State.reshare_says (s : State) : s.reshare.gn.queue = s.gn.queue ∧ (∃ l, s.reshare.gv = { s.gv with shares := l }) ∧
    Touch 0x800e00 s s.reshare := by
  refine ⟨?_, ?_, s.reshare_touch⟩
  · unfold State.reshare State.shareOut
    split
    · exact (Talks.rackSend (s.setGv (fun g => { g with shares := s.sharesOf })) 0x05 _).queue
    · rfl
  · unfold State.reshare State.shareOut
    split
    · exact ⟨_, comp_bit (State.rackSend_touch ..).gv rfl⟩
    · exact ⟨s.gv.shares, rfl⟩

/-- A queue that holds one request of a lead is drained by its adoption (R263, R267). -/
theorem exec_guleneDrain_request {q : GnIn} (gov : s.rc.gov = true) (lead : s.isLead = true) (responsive : s.gv.atEpochs = false)
    (alone : s.gn.queue = [q]) (typ : q.typ = 5) (kind : u q.msg.body 0 1 ≤ 1) (ok : reqOk (reqOf q.msg) = true)
    (names : u q.msg.body 0 1 = 0 ∨ u q.msg.body 1 1 ≠ 0) :
    exec .guleneDrain s = .next (((s.setGn (fun g => { g with queue := [] })).adopt (reqOf q.msg)).reshare) := by
  let v := s.setGn (fun g => { g with queue := [] })
  have takes : v.takeMsg q = (v.adopt (reqOf q.msg), false) := by
    have lead' : v.isLead = true := lead
    unfold State.takeMsg
    rw [if_neg (by omega), if_neg (by omega), if_neg (by omega), if_neg (by omega), if_neg (by omega), if_neg (by
      show ¬ s.gv.atEpochs = true
      simp [responsive]), if_neg (by omega), if_neg (by omega)]
    unfold State.takeBudget
    dsimp only
    rw [if_neg (by omega), if_pos ⟨lead', ok, names⟩]
  show execGuleneDrain s = _
  unfold execGuleneDrain State.drain
  dsimp only
  rw [if_neg (by simp [gov]), alone, List.foldl_cons, List.foldl_nil, takes]
  rfl

/-- A request is noted so that a repeat of it does nothing (R263). -/
def State.noteReq (s : State) (r : Req) : State := s.setGv (fun g => { g with seen := (r.sender, r.id) :: g.seen })

/-- A request waits to be settled. -/
def State.enterReq (s : State) (r : Req) (due : Int) : State := s.setGv (fun g => { g with
  pend := g.pend ++ [{ req := r, state := 1, due := due, finalAt := 0 }]
  own := g.own.map (fun o => if o.req = r then { o with adopted := true } else o) })

theorem State.adopt_budget {r : Req} (new : (r.sender, r.id) ∉ s.gv.seen) (kind : r.kind = 0) : s.adopt r =
    ((((s.gv.pend.filter (fun p => p.state == 1 && p.req.kind == 0)).foldl (fun s p => s.settleReq p.req 3 0) (s.noteReq r)).enterReq r
      0).setGv (fun g => { g with newBudget := some (r.w, r.ms) })) := by
  unfold State.adopt
  rw [if_neg (by simpa using new)]
  dsimp only
  rw [if_neg (by omega), if_pos kind, if_pos kind, kind]
  rfl

theorem State.adopt_mode {r : Req} (new : (r.sender, r.id) ∉ s.gv.seen) (kind : r.kind ≠ 0) (none_ : s.gv.pend = [])
    (can : r.kind = 1 → r.value = 1 → s.ptpLock = true) :
    s.adopt r = (s.noteReq r).enterReq r ((s.clk.ptp / 1000000 + 1) * 1000000) := by
  unfold State.adopt
  rw [if_neg (by simpa using new)]
  dsimp only
  rw [if_neg fun ⟨k, v, free⟩ => free (can k v), if_neg kind, if_neg kind]
  show State.enterReq ((((s.noteReq r).gv.pend.filter _).foldl _ (s.noteReq r))) r _ = _
  rw [show (s.noteReq r).gv.pend = [] from none_]
  rfl

theorem State.adopt_denied {r : Req} (new : (r.sender, r.id) ∉ s.gv.seen) (kind : r.kind = 1) (value : r.value = 1) (free : s.ptpLock = false) :
    s.adopt r = ((s.noteReq r).enterReq r ((s.clk.ptp / 1000000 + 1) * 1000000)).settleReq r 5 0 := by
  unfold State.adopt
  rw [if_neg (by simpa using new)]
  dsimp only
  rw [if_pos ⟨kind, value, fun lock => Bool.false_ne_true (free.symm.trans lock)⟩, if_neg (by omega)]
  rfl

/-- This module's own request that is refused answers its command (R263). -/
theorem State.adopt_denies {r : Req} {o : OwnReq} {h : CmdHdr} (new : (r.sender, r.id) ∉ s.gv.seen) (kind : r.kind = 1) (value : r.value = 1)
    (free : s.ptpLock = false) (self : r.sender = s.gnSelf) (own : s.gv.own = [o]) (is : o.req = r) (host : o.hdr = some h) :
    (s.adopt r).gv.timing = s.gv.timing ∧ (s.adopt r).gv.own = [] ∧ Answered s (s.adopt r) h stDenied 0 := by
  let a := (s.noteReq r).enterReq r ((s.clk.ptp / 1000000 + 1) * 1000000)
  let b := a.setGv (fun g => { g with pend := g.pend.map (fun p => if p.req = r then { p with state := 5, finalAt := a.clk.now } else p) })
  let c := b.setGv (fun g => { g with own := g.own.filter (fun o => o.req.id != r.id) })
  have owns : b.gv.own = [{ o with adopted := true }] := by
    show s.gv.own.map (fun o => if o.req = r then { o with adopted := true } else o) = _
    rw [own, List.map_singleton, if_pos is]
  have ends : s.adopt r = c.complete h stDenied 0 := by
    rw [State.adopt_denied new kind value free]
    have settles : a.settleReq r 5 0 = b.endOwn r.id stDenied 0 := if_pos self
    rw [settles]
    unfold State.endOwn
    rw [owns, List.find?_cons_of_pos (by simp [is])]
    dsimp only
    rw [host]
  have done := c.complete_touch h stDenied 0
  rw [ends]
  have before : Touch 0x800 s c := (((s.setGv_touch _).step (State.setGv_touch ..) rfl).step (a.setGv_touch _) rfl).step (b.setGv_touch _) rfl
  refine ⟨?_, ?_, Answered.before before rfl (c.complete_answers h stDenied 0)⟩
  · rw [comp_bit done.gv rfl]
    simp only [c, b, a, State.setGv, State.enterReq, State.noteReq]
  rw [comp_bit done.gv rfl]
  show b.gv.own.filter (fun o => o.req.id != r.id) = []
  rw [owns]
  simp [is]

end

/-- TIME_SET as it acts (R388). -/
theorem State.timeSet_says (s : State) (h : CmdHdr) (role domain : Nat) (setTime : Bool) (time : Int) {t : State}
    (is : t = (let v := s.timeDomain role domain
      (if setTime && !v.clk.ptpHeld then { v with clk := { v.clk with ptp := time, ptpState := .set } } else v).complete h stOk
        (if setTime && !v.clk.ptpHeld then 1 else 0))) :
    t.gn.domain = domain ∧ t.gn.rackSource = (role == 1) ∧
      (setTime = true → s.clk.ptpHeld = false → t.clk.ptp = time ∧ t.clk.ptpState = .set ∧ Answered s t h stOk 1) ∧
      (setTime = false ∨ s.clk.ptpHeld = true → t.clk.ptp = s.clk.ptp ∧ Answered s t h stOk 0) ∧
      (domain ≠ s.gn.domain → s.clk.ptpState = .lock → setTime = false ∨ s.clk.ptpHeld = true → t.clk.ptpState = .holdover) := by
  let v := s.timeDomain role domain
  obtain ⟨touch, domain', source, ptp, held, lost⟩ := s.timeDomain_says role domain
  by_cases sets : setTime = true ∧ s.clk.ptpHeld = false
  · let w : State := { v with clk := { v.clk with ptp := time, ptpState := .set } }
    have applies : (setTime && !v.clk.ptpHeld) = true := by
      rw [show v.clk.ptpHeld = s.clk.ptpHeld from held]
      simp [sets]
    have done := w.complete_touch h stOk 1
    have ends : t = w.complete h stOk 1 := by
      rw [is]
      dsimp only
      rw [if_pos applies, if_pos applies]
    have answered : Answered s (w.complete h stOk 1) h stOk 1 :=
      Answered.before touch rfl (Answered.since (s := v) (w.complete_answers h stOk 1) rfl ⟨[], rfl⟩)
    rw [ends, comp_bit done.gn rfl, comp_bit done.clk rfl]
    have clash (not : setTime = false ∨ s.clk.ptpHeld = true) : False := by
      rcases not with not | not
      · simp [sets.1] at not
      · simp [sets.2] at not
    exact ⟨domain', source, fun _ _ => ⟨rfl, rfl, answered⟩, fun not => (clash not).elim, fun _ _ not => (clash not).elim⟩
  · have stays : (setTime && !v.clk.ptpHeld) = false := by
      rw [show v.clk.ptpHeld = s.clk.ptpHeld from held]
      simpa using sets
    have done := v.complete_touch h stOk 0
    have ends : t = v.complete h stOk 0 := by
      rw [is]
      dsimp only
      rw [stays]
      rfl
    rw [ends, comp_bit done.gn rfl, comp_bit done.clk rfl]
    exact ⟨domain', source, fun a b => absurd ⟨a, b⟩ sets, fun _ => ⟨ptp, Answered.before touch rfl (v.complete_answers h stOk 0)⟩,
      fun other lock _ => lost other lock⟩

/-- Settles O15: a command becomes a request by `State.request_says`; the drain of one request is its adoption
(`exec_guleneDrain_request`), and what `State.adopt` does goes by its kind. -/
theorem governorCommandsComplete : Obligations.GovernorCommandsComplete := by
  refine ⟨fun h w ms id s a ok pos range is => a.completes rfl rfl ?_ ?_ (s.request_says h 0x0701 0 w ms 0 id a.role is),
    fun h k v id s a ok range is => ?mode, fun h v id s a ok low is => a.completes rfl rfl ?_ ?_ (s.request_says h 0x0703 2 0 0 v id a.role is),
    fun h w k v s a ok pos low kind => ?denied, fun q r s gov lead responsive alone typ body is good new => ?drain,
    fun h buf s a len buffer fault k is row side => ?key, fun h role domain setTime time s a low inside =>
      a.completes rfl rfl rfl (by simp [param, need, low, inside]) rfl (s.timeSet_says h role domain setTime time rfl)⟩
  · simp [param, need, pos, range]
  · simp [need, ok]
  case mode =>
    have named : (if k = 0 then Wait.budget else .setting k v) = .setting k v := if_neg (by omega)
    have says_ := s.request_says h 0x0702 k 0 0 v id a.role is
    rw [named] at says_
    refine a.completes rfl rfl ?_ (by simp [need, ok]) says_
    rcases range with ⟨rfl, low⟩ | ⟨rfl, low⟩
    · simp [param, need, low]
    · simp [param, need, low]
  · simp [param, need, low]
  · simp [need, ok]
  case denied =>
    have denies {op : Nat} {chk : Option (Nat × Nat)} {act : State → State} (entry : chk = none) :
        s.start h { op := op, activeOnly := true, chk := chk, chk6 := need s.gv.ok stDenied 0 } act = s.complete h stDenied 0 :=
      State.start_stateRefused a.toAcceptedRun act (fun _ => a.role) rfl entry (by simp [need, ok])
    have says_ : (s.complete h stDenied 0).gv = s.gv ∧ Answered s (s.complete h stDenied 0) h stDenied 0 :=
      ⟨comp_bit (s.complete_touch h stDenied 0).gv rfl, s.complete_answers h stDenied 0⟩
    refine ⟨⟨_, congrArg Host.Outcome.next (denies ?_), says_⟩, ⟨_, congrArg Host.Outcome.next (denies ?_), says_⟩,
      _, congrArg Host.Outcome.next (denies ?_), says_⟩
    · simp [param, need, pos]
    · rcases kind with rfl | rfl
      · simp [param, need, low]
      · simp [param, need]
        omega
    · simp [param, need, low]
  case drain =>
    subst is
    let v := s.setGn (fun g => { g with queue := [] })
    have cleared : Touch 0x400 s v := s.setGn_touch (fun g => { g with queue := [] }) (fun _ => Nat.zero_le _)
    have new' : ((reqOf q.msg).sender, (reqOf q.msg).id) ∉ v.gv.seen := new
    have runs := exec_guleneDrain_request gov lead responsive alone typ body good
    have adopts := v.adopt_touch (reqOf q.msg)
    obtain ⟨queue, ⟨l, gv⟩, later⟩ := (v.adopt (reqOf q.msg)).reshare_says
    refine ⟨fun kind none_ budget => ?budget, fun p kind budget one open_ same other => ?supersedes, fun kind none_ can => ?setting,
      fun o h kind value free self own req host => ?refuses⟩
    case budget =>
      have is := State.adopt_budget new' kind
      rw [show v.gv.pend = [] from none_, List.filter_nil, List.foldl_nil] at is
      refine ⟨_, runs (.inl budget), ?_, ?_⟩
      · rw [queue, comp_bit adopts.gn rfl]
        rfl
      · rw [gv, is]
        exact ⟨rfl, .head _, congrArg (· ++ _) none_⟩
    case supersedes =>
      have is := State.adopt_budget new' kind
      have settles : (v.noteReq (reqOf q.msg)).settleReq p.req 3 0 = (v.noteReq (reqOf q.msg)).setGv (fun g => { g with
          pend := g.pend.map (fun x => if x.req = p.req then { x with state := 3, finalAt := s.clk.now } else x) }) := if_neg other
      rw [show v.gv.pend = [p] from one, List.filter_cons_of_pos (by simp [open_, same]), List.filter_nil, List.foldl_cons,
        List.foldl_nil, settles] at is
      refine ⟨_, runs (.inl budget), ?_⟩
      dsimp only
      rw [gv, is]
      refine ⟨rfl, ?_⟩
      show s.gv.pend.map _ ++ _ = _
      rw [one, List.map_singleton, if_pos rfl]
      rfl
    case setting =>
      have is := State.adopt_mode new' kind none_ can
      have named : u q.msg.body 0 1 = 0 ∨ u q.msg.body 1 1 ≠ 0 := by
        refine Classical.byContradiction fun not => ?_
        obtain ⟨mode, zero⟩ := not_or.mp not
        refine kind ?_
        show (if u q.msg.body 0 1 = 0 then 0 else u q.msg.body 1 1) = 0
        rw [if_neg mode]
        omega
      refine ⟨_, runs named, ?_⟩
      dsimp only
      rw [gv, is]
      exact ⟨rfl, rfl, rfl, congrArg (· ++ _) none_⟩
    case refuses =>
      have named : u q.msg.body 0 1 = 0 ∨ u q.msg.body 1 1 ≠ 0 := by
        refine Classical.byContradiction fun not => ?_
        obtain ⟨mode, zero⟩ := not_or.mp not
        have : (reqOf q.msg).kind = u q.msg.body 1 1 := if_neg mode
        omega
      obtain ⟨timing, own', answered⟩ := State.adopt_denies (s := v) new' kind value free self own req host
      refine ⟨_, runs named, ?_, ?_, Answered.before cleared rfl (Answered.later answered later)⟩
      · rw [gv]
        exact timing
      · rw [gv]
        exact own'
  case key =>
    have loads : Touch 0x400 s (s.loadKey k) := s.loadKey_touch k
    obtain ⟨first, next, now, other⟩ := s.loadKey_says k row side
    have kept (r : Bool) := (s.loadKey k).joinAnswer_role h r
    refine a.completes rfl rfl rfl (by simp [param, need, len, buffer, fault]) rfl ?_
    rw [← is]
    refine ⟨Answered.before (F := 0x800400) ((loads.mono rfl).step (State.joinGroups_touch _) rfl) rfl (State.complete_answers ..), ?_⟩
    rw [kept, kept]
    exact ⟨first, next, now, other⟩

end Sys2Proof.Machine
end

section
/-!
R157 to R164, R294, R296: what the end of a window and the detectors leave of the averages.
-/

namespace Sys2Proof.Machine

open Sys2Proof

/-! ### What the detectors leave -/

/-- A port but for what its detectors count and find. -/
def Port.sansFind (P : Port) : Port :=
  { P with
    devCount := 0, imbCount := 0, compLow := 0
    devOpen := false, mGood := none, laneSeen := none, laneConst := false, lanePrev := none, mPrev := none, imbOk := 0, imbOn := false
    imbFlag := false, imbDev := 0, tempMax := none, tempFind := false, tempShut := false, tempAgain := false, tempFactor := 0
    olWarn := false, olDerate := false, olTrip := false }

/-- A port but for its heat too. -/
def Port.sansHeat (P : Port) : Port := { P.sansFind with heat := 0 }

/-- What of a port no detector and no action of the ladder changes. -/
def Port.sansDetect (P : Port) : Port := P.sansHeat.sansLadder

theorem Port.of_sansFind {P Q : Port} (same : P.sansFind = Q.sansFind) : P.tele = Q.tele ∧ P.heat = Q.heat ∧ P.group = Q.group ∧
    P.ratingMa = Q.ratingMa ∧ P.cellSlot = Q.cellSlot ∧ P.retired = Q.retired :=
  ⟨(congrArg Port.tele same :), (congrArg Port.heat same :), (congrArg Port.group same :), (congrArg Port.ratingMa same :),
    (congrArg Port.cellSlot same :), (congrArg Port.retired same :)⟩

theorem Port.heat_of_sansLadder {P Q : Port} (same : P.sansLadder = Q.sansLadder) : P.heat = Q.heat := (congrArg Port.heat same :)

theorem Port.tele_of_sansDetect {P Q : Port} (same : P.sansDetect = Q.sansDetect) : P.tele = Q.tele := (congrArg Port.tele same :)

/-- The averages of a group and their sources. -/
def Group.window (G : Group) : Chan × Chan × Chan × Reg × Reg × Reg := (G.tv, G.ti, G.tp, G.vUse, G.iUse, G.pUse)

def Group.bursts (G : Group) : Bool := G.state == .burstRun || G.state == .burstSleep

/-- No average changes, no port but in what `φ` leaves out, and burst does not begin nor go on waiting otherwise. -/
structure WindowKept {α : Type} (φ : Port → α) (s t : State) : Prop where
  port : ∀ p, φ (t.port p) = φ (s.port p)
  group : ∀ g, (t.group g).window = (s.group g).window
  shelf : t.sh.windows = s.sh.windows ∧ t.sh.outTele = s.sh.outTele ∧ t.sh.burstEnter = s.sh.burstEnter ∧
    t.sh.burstDwell = s.sh.burstDwell ∧ t.sh.burstBand = s.sh.burstBand
  calm : (∀ g, (s.group g).bursts = false) → (∀ g, (t.group g).bursts = false) ∧ t.sh.burstLow = s.sh.burstLow

section
variable {α : Type} {φ : Port → α} {s t v : State}

theorem WindowKept.refl (s : State) : WindowKept φ s s := ⟨fun _ => rfl, fun _ => rfl, ⟨rfl, rfl, rfl, rfl, rfl⟩, fun calm => ⟨calm, rfl⟩⟩

theorem WindowKept.trans (first : WindowKept φ s t) (second : WindowKept φ t v) : WindowKept φ s v := by
  obtain ⟨a, b, c, d, e⟩ := first.shelf
  obtain ⟨a', b', c', d', e'⟩ := second.shelf
  refine ⟨fun p => (second.port p).trans (first.port p), fun g => (second.group g).trans (first.group g),
    ⟨a'.trans a, b'.trans b, c'.trans c, d'.trans d, e'.trans e⟩, fun calm => ?_⟩
  obtain ⟨still, low⟩ := first.calm calm
  obtain ⟨still', low'⟩ := second.calm still
  exact ⟨still', low'.trans low⟩

theorem WindowKept.cond {c : Prop} [Decidable c] (yes : WindowKept φ s t) (no : WindowKept φ s v) : WindowKept φ s (if c then t else v) := by
  split <;> assumption

theorem WindowKept.foldl {β : Type} {f : State → β → State} (each : ∀ v a, WindowKept φ v (f v a)) (l : List β) (s : State) :
    WindowKept φ s (l.foldl f s) := by
  induction l generalizing s with
  | nil => exact .refl s
  | cons a l ih => exact (each s a).trans (ih _)

theorem WindowKept.gather {f : State → Nat → State × List Found} (each : ∀ v k, WindowKept φ v (f v k).1) (l : List Nat)
    (a : State × List Found) : WindowKept φ a.1 (gather f l a).1 := by
  unfold Machine.gather
  induction l generalizing a with
  | nil => exact .refl _
  | cons k l ih => exact (each a.1 k).trans (ih ((f a.1 k).1, a.2 ++ (f a.1 k).2))

/-- What changes no port, group or shelf. -/
theorem WindowKept.of_touch {F : Nat} (g : Touch F s t) (ports : F.testBit 5 = false) (groups : F.testBit 6 = false)
    (sh : F.testBit 7 = false) : WindowKept φ s t := by
  have shelf := comp_bit g.sh sh
  exact ⟨fun p => by rw [g.port_eq ports], fun k => by rw [g.group_eq groups], by rw [shelf]; exact ⟨rfl, rfl, rfl, rfl, rfl⟩,
    fun calm => ⟨fun k => by rw [g.group_eq groups]; exact calm k, by rw [shelf]⟩⟩

theorem WindowKept.setPort (s : State) (p : Nat) {f : Port → Port} (kept : ∀ P, φ (f P) = φ P := by intro P; rfl) : WindowKept φ s (s.setPort p f) := by
  refine ⟨fun q => ?_, fun _ => rfl, ⟨rfl, rfl, rfl, rfl, rfl⟩, fun calm => ⟨calm, rfl⟩⟩
  rw [State.port_setPort]
  split
  · exact kept _
  · rfl

theorem WindowKept.setGroup (s : State) (g : Nat) {f : Group → Group} (kept : ∀ G, (f G).window = G.window := by intro G; rfl)
    (calm : ∀ G, G.bursts = false → (f G).bursts = false := by intro G off; exact off) : WindowKept φ s (s.setGroup g f) := by
  refine ⟨fun _ => rfl, fun k => State.group_setGroup_field s kept .., ⟨rfl, rfl, rfl, rfl, rfl⟩, fun still => ⟨fun k => ?_, rfl⟩⟩
  rw [State.group_setGroup]
  split
  · exact calm _ (still k)
  · exact still k

/-- What changes of the shelf only the findings and their levels. -/
theorem WindowKept.setFindings (s : State) (l : List Finding) : WindowKept φ s { s with sh := { s.sh with findings := l } } :=
  ⟨fun _ => rfl, fun _ => rfl, ⟨rfl, rfl, rfl, rfl, rfl⟩, fun calm => ⟨calm, rfl⟩⟩

theorem WindowKept.stand (s : State) (x : Subj) (code level : Nat) : WindowKept φ s (s.stand x code level) := .setFindings ..

theorem WindowKept.unstand (s : State) (x : Subj) (code : Nat) : WindowKept φ s (s.unstand x code) := .setFindings ..

theorem WindowKept.calmed (s : State) (x : Subj) (code : Nat) : WindowKept φ s (s.calm x code) := .cond (.refl s) (.unstand s x code)

theorem WindowKept.settle (s : State) (x : Subj) (code : Nat) (w d : Bool) : WindowKept φ s (s.settle x code w d) :=
  .cond (.refl s) (.cond (.stand s x code 1) (.unstand s x code))

theorem WindowKept.heatX (s : State) (i : Int) (num den : Nat) : WindowKept φ s (s.heatX i num den).2 :=
  .of_touch (s.heatX_touch i num den) rfl rfl rfl

/-- Less is kept of each port. -/
theorem WindowKept.weaken {β : Type} {ψ : Port → β} (kept : WindowKept φ s t) (less : ∀ P Q, φ P = φ Q → ψ P = ψ Q) : WindowKept ψ s t :=
  ⟨fun p => less _ _ (kept.port p), kept.group, kept.shelf, kept.calm⟩

/-- What changes no group and no shelf, when nothing is asked of the ports. -/
theorem WindowKept.of_still {F : Nat} (g : Touch F s t) (groups : F.testBit 6 = false) (sh : F.testBit 7 = false) :
    WindowKept (fun _ => ()) s t := by
  have shelf := comp_bit g.sh sh
  exact ⟨fun _ => rfl, fun k => by rw [g.group_eq groups], by rw [shelf]; exact ⟨rfl, rfl, rfl, rfl, rfl⟩,
    fun calm => ⟨fun k => by rw [g.group_eq groups]; exact calm k, by rw [shelf]⟩⟩

end

/-! ### The detectors of the window -/

theorem State.senseWindow_kept (s : State) (p : Nat) : WindowKept Port.sansFind s (s.senseWindow p) := by
  unfold State.senseWindow
  dsimp only
  exact .cond (.refl s) (.cond (.setPort s p) (.setPort s p))

theorem State.imbWindow_kept (s : State) (p : Nat) : WindowKept Port.sansFind s (s.imbWindow p) := by
  unfold State.imbWindow
  dsimp only
  refine .cond (.setPort s p) (.cond (.setPort s p) (.cond ?_ (.setPort s p)))
  exact .cond (.trans (.setPort s p) (.unstand _ _ _)) (.setPort s p)

theorem State.cellTemp_kept (s : State) (p : Nat) : WindowKept Port.sansFind s (s.cellTemp p).1 := by
  unfold State.cellTemp
  dsimp only
  split
  · exact .refl s
  next t =>
    split
    · exact .cond (.trans (.trans (.setPort s p) (.setPort _ p)) (.calmed _ _ _))
        (.trans (.setPort s p) (.setPort _ p))
    · exact .cond (.trans (.trans (.setPort s p) (.setPort _ p)) (.calmed _ _ _))
        (.trans (.setPort s p) (.setPort _ p))

theorem State.compWindow_kept (s : State) (p : Nat) : WindowKept Port.sansFind s (s.compWindow p).1 := .setPort s p

theorem State.cellHeat_kept (s : State) (p : Nat) : WindowKept Port.sansHeat s (s.cellHeat p).1 := by
  unfold State.cellHeat
  dsimp only
  split
  · exact .cond (.trans (.trans (.heatX s _ _ _) (.setPort _ p)) (.settle _ _ _ _ _))
      (.trans (.heatX s _ _ _) (.setPort _ p))
  · exact .cond (.trans (.trans (.heatX s _ _ _) (.setPort _ p)) (.settle _ _ _ _ _))
      (.trans (.heatX s _ _ _) (.setPort _ p))

theorem State.groupHeat_kept {α : Type} {φ : Port → α} (s : State) (g : Nat) : WindowKept φ s (s.groupHeat g).1 := by
  unfold State.groupHeat
  dsimp only
  split
  · exact .refl s
  split
  · split
    · exact .trans (.setGroup s g) (.settle _ _ _ _ _)
    · exact .refl s
  · exact .cond (.trans (.trans (.heatX s _ _ _) (.setGroup _ g)) (.settle _ _ _ _ _))
      (.trans (.heatX s _ _ _) (.setGroup _ g))

/-! ### The ladder -/

theorem State.burstGroups_calm {s : State} (calm : ∀ g, (s.group g).bursts = false) : s.burstGroups = [] :=
  List.filter_eq_nil_iff.mpr fun g _ => by
    have still := calm g
    unfold Group.bursts at still
    simp [State.inBurst, still]

theorem State.calm_of_none {s : State} (w : WellShaped s) (none_ : s.burstGroups = []) (g : Nat) : (s.group g).bursts = false := by
  by_cases low : g < 16
  · exact Bool.eq_false_iff.mpr (List.filter_eq_nil_iff.mp none_ g (List.mem_range.mpr low))
  · have absent : s.group g = {} := by
      unfold State.group nth
      rw [List.getD_eq_getElem?_getD, List.getElem?_eq_none (by rw [w.groups]; omega)]
      rfl
    rw [absent]
    rfl

theorem State.leaveBurst_window (s : State) (g k : Nat) : ((s.leaveBurst g).group k).window = (s.group k).window := by
  unfold State.leaveBurst
  dsimp only
  have left := s.group_setGroup_field (φ := Group.window) (f := fun G => { G with
    state := .regulating, startPend := G.startPend || (s.group g).state == .burstSleep
    wakePend := G.wakePend || (s.group g).state == .burstSleep, toReg := false }) (fun _ => rfl) g k
  split
  · rw [(State.completeWhere_touch ..).group_eq rfl, (State.aimGroup_touch ..).group_eq rfl, (State.setSlot_touch ..).group_eq rfl]
    exact left
  · rw [(State.aimGroup_touch ..).group_eq rfl, (State.setSlot_touch ..).group_eq rfl]
    exact left

theorem State.leaveBursts_window (l : List Nat) (s : State) :
    (∀ k, ((l.foldl State.leaveBurst s).group k).window = (s.group k).window) ∧ (l.foldl State.leaveBurst s).sh = s.sh := by
  induction l generalizing s with
  | nil => exact ⟨fun _ => rfl, rfl⟩
  | cons g l ih => exact ⟨fun k => ((ih _).1 k).trans (s.leaveBurst_window g k), (ih _).2.trans (comp_bit (s.leaveBurst_touch g).sh rfl)⟩

theorem State.burstExit_kept (s : State) : WindowKept (fun _ => ()) s s.burstExit := by
  unfold State.burstExit
  split
  · exact .refl s
  next live =>
    obtain ⟨group, sh⟩ := s.leaveBursts_window s.burstGroups
    dsimp only
    refine ⟨fun _ => rfl, group, ?_, fun calm => absurd (by rw [State.burstGroups_calm calm]; rfl) live⟩
    rw [sh]
    exact ⟨rfl, rfl, rfl, rfl, rfl⟩

theorem State.quench_kept (s : State) (g cause : Nat) : WindowKept (fun _ => ()) s (s.quench g cause) := by
  unfold State.quench
  dsimp only
  refine .cond (.refl s) ?_
  refine .trans ?_ (.of_still (State.busCheck_touch _) rfl rfl)
  refine .trans ?_ (State.burstExit_kept _)
  refine .trans ?_ (.foldl (fun v p => .of_still (v.endRestore_touch p) rfl rfl) _ _)
  refine .trans ?_ (.of_still (State.completeWhere_touch ..) rfl rfl)
  refine .trans ?_ (.of_still (State.openGroup_touch _ g) rfl rfl)
  refine .trans (.setGroup s g (f := fun G => G.quenched cause) (by intro G; rfl) (by intro G _; rfl)) ?_
  exact .foldl (fun v p => .setPort v p) _ _

theorem State.actOn_kept (s : State) (x : Subj) (level cause : Nat) : WindowKept (fun _ => ()) s (s.actOn x level cause) := by
  unfold State.actOn
  cases x with
  | cell p => exact .cond (.of_still (s.retire_touch p cause) rfl rfl) (.refl s)
  | group g => exact .cond (s.quench_kept g 2) (.refl s)
  | shelf =>
    refine .cond (.trans ?_ (.foldl (fun v g => v.quench_kept g 2) _ _)) (.refl s)
    exact ⟨fun _ => rfl, fun _ => rfl, ⟨rfl, rfl, rfl, rfl, rfl⟩, fun calm => ⟨calm, rfl⟩⟩

theorem State.ladderRecord_kept (s : State) (x : Subj) (level cause code : Nat) :
    WindowKept (fun _ => ()) s (s.ladderRecord x level cause code) := by
  have seen : WindowKept (fun _ => ()) s { s with sh := { s.sh with ladderSeen := max s.sh.ladderSeen level } } :=
    ⟨fun _ => rfl, fun _ => rfl, ⟨rfl, rfl, rfl, rfl, rfl⟩, fun calm => ⟨calm, rfl⟩⟩
  unfold State.ladderRecord
  cases x
  all_goals exact seen.trans (.of_still (State.record_touch ..) rfl rfl)

theorem State.ladder_kept (s : State) (x : Subj) (level cause code : Nat) : WindowKept (fun _ => ()) s (s.ladder x level cause code) := by
  unfold State.ladder
  dsimp only
  refine .cond (.cond (.stand s x code level) (.refl s)) (.cond (s.ladderRecord_kept x level cause code) ?_)
  have noted := s.ladderRecord_kept (s.mend x level).1 (s.mend x level).2 cause code
  exact .cond noted ((noted.trans (.stand _ _ _ _)).trans (State.actOn_kept _ _ _ cause))

theorem State.ladderAll_kept (s : State) (l : List Found) : WindowKept Port.sansLadder s (s.ladderAll l) := by
  have kept : WindowKept (fun _ => ()) s (s.ladderAll l) :=
    .foldl (fun v (f : Found) => v.ladder_kept f.1 f.2.1 f.2.2.1 f.2.2.2) _ s
  exact ⟨(s.ladderAll_ladderKept l).port, kept.group, kept.shelf, kept.calm⟩

/-! ### Burst at the end of a window -/

/-- The settings that the window to come works with (R113). -/
def State.newBand (s : State) : State :=
  { s with sh := { s.sh with useEnter := s.sh.burstEnter, useDwell := s.sh.burstDwell, useBand := s.sh.burstBand } }

/-- The groups in burst aimed anew where the band moved. -/
def State.reaimed (s : State) : State :=
  if s.sh.useBand != s.sh.burstBand then (s.newBand.burstGroups.filter (fun g => (s.newBand.group g).state == .burstRun)).foldl State.aimGroup s.newBand
  else s.newBand

theorem State.reaimed_touch (s : State) : Touch 0x10 s.newBand s.reaimed :=
  .cond ((Touch.refl _ _).foldl fun v g => v.aimGroup_touch g) (.refl _ _)

theorem State.burstExit_shelf (s : State) : s.burstExit.sh.windows = s.sh.windows ∧ s.burstExit.sh.outTele = s.sh.outTele ∧
    s.burstExit.sh.useEnter = s.sh.useEnter ∧ s.burstExit.sh.useDwell = s.sh.useDwell ∧ s.burstExit.sh.useBand = s.sh.useBand := by
  unfold State.burstExit
  split
  · exact ⟨rfl, rfl, rfl, rfl, rfl⟩
  · dsimp only
    rw [(s.leaveBursts_window s.burstGroups).2]
    exact ⟨rfl, rfl, rfl, rfl, rfl⟩

/-- Burst ended by the window, or its hold counted down. -/
def State.burstHeld (s : State) (out : Int) : State :=
  if s.active && !s.burstGroups.isEmpty && decide (2 * (s.sh.useEnter : Int) < out) then s.burstExit
  else { s with sh := { s.sh with burstHold := s.sh.burstHold - 1 } }

theorem State.burstHeld_says (s : State) (out : Int) :
    (∀ p, (s.burstHeld out).port p = s.port p) ∧ (∀ g, ((s.burstHeld out).group g).window = (s.group g).window) ∧
      ((s.burstHeld out).sh.windows = s.sh.windows ∧ (s.burstHeld out).sh.outTele = s.sh.outTele ∧
        (s.burstHeld out).sh.useEnter = s.sh.useEnter ∧ (s.burstHeld out).sh.useDwell = s.sh.useDwell ∧
        (s.burstHeld out).sh.useBand = s.sh.useBand) ∧ (s.burstGroups = [] → (s.burstHeld out).sh.burstLow = s.sh.burstLow) := by
  unfold State.burstHeld
  split
  next ends =>
    refine ⟨fun p => by rw [s.burstExit_touch.port_eq rfl], s.burstExit_kept.group, s.burstExit_shelf, fun none_ => ?_⟩
    rw [none_] at ends
    simp at ends
  · exact ⟨fun _ => rfl, fun _ => rfl, ⟨rfl, rfl, rfl, rfl, rfl⟩, fun _ => rfl⟩

/-- The windows with little use counted (R113). -/
def State.burstCounted (s : State) (out : Int) : State :=
  { s with sh := { s.sh with burstLow := if out < s.sh.useEnter then s.sh.burstLow + 1 else 0 } }

theorem State.burstWindow_eq (s : State) : s.burstWindow = (s.reaimed.burstHeld s.sh.outTele.avg1).burstCounted s.sh.outTele.avg1 := rfl

theorem State.burstCounted_says (s : State) (out : Int) : (s.burstCounted out).port = s.port ∧ (s.burstCounted out).group = s.group ∧
    (s.burstCounted out).sh = { s.sh with burstLow := if out < s.sh.useEnter then s.sh.burstLow + 1 else 0 } := ⟨rfl, rfl, rfl⟩

theorem State.newBand_says (s : State) : s.newBand.port = s.port ∧ s.newBand.group = s.group ∧ s.newBand.sh = { s.sh with
    useEnter := s.sh.burstEnter, useDwell := s.sh.burstDwell, useBand := s.sh.burstBand } := ⟨rfl, rfl, rfl⟩

theorem State.reaimed_says (s : State) : s.reaimed.port = s.port ∧ s.reaimed.group = s.group ∧ s.reaimed.sh = { s.sh with
    useEnter := s.sh.burstEnter, useDwell := s.sh.burstDwell, useBand := s.sh.burstBand } := by
  have aimed := s.reaimed_touch
  obtain ⟨port, group, sh⟩ := s.newBand_says
  exact ⟨(funext (aimed.port_eq rfl)).trans port, (funext (aimed.group_eq rfl)).trans group, (comp_bit aimed.sh rfl).trans sh⟩

theorem State.burstWindow_says (s : State) :
    (∀ p, s.burstWindow.port p = s.port p) ∧ (∀ g, (s.burstWindow.group g).window = (s.group g).window) ∧
      (s.burstWindow.sh.windows = s.sh.windows ∧ s.burstWindow.sh.outTele = s.sh.outTele ∧ s.burstWindow.sh.useEnter = s.sh.burstEnter ∧
        s.burstWindow.sh.useDwell = s.sh.burstDwell ∧ s.burstWindow.sh.useBand = s.sh.burstBand) ∧
      (s.sh.burstEnter ≤ s.sh.outTele.avg1 → s.burstWindow.sh.burstLow = 0) ∧
      (s.burstGroups = [] → s.sh.outTele.avg1 < s.sh.burstEnter → s.burstWindow.sh.burstLow = s.sh.burstLow + 1) := by
  rw [s.burstWindow_eq]
  obtain ⟨port', group', sh'⟩ := s.reaimed_says
  have calm : s.reaimed.burstGroups = s.burstGroups := by
    unfold State.burstGroups State.inBurst
    rw [group']
  generalize s.reaimed = v at port' group' sh' calm ⊢
  obtain ⟨port, group, ⟨windows, out, enter, dwell, band⟩, low⟩ := v.burstHeld_says s.sh.outTele.avg1
  rw [calm] at low
  rw [sh'] at windows out enter dwell band low
  rw [port'] at port
  rw [group'] at group
  generalize v.burstHeld s.sh.outTele.avg1 = w at port group windows out enter dwell band low ⊢
  obtain ⟨port'', group'', sh''⟩ := w.burstCounted_says s.sh.outTele.avg1
  rw [port'', group'', sh'']
  refine ⟨port, group, ⟨windows, out, enter, dwell, band⟩, fun high => ?_, fun none_ under => ?_⟩
  · show (if s.sh.outTele.avg1 < w.sh.useEnter then _ else 0) = 0
    rw [enter]
    exact if_neg (Int.not_lt.mpr high)
  · show (if s.sh.outTele.avg1 < w.sh.useEnter then w.sh.burstLow + 1 else 0) = _
    rw [enter, low none_]
    exact if_pos under

/-! ### Heat -/

/-- The current that a cell's heat is measured by (R157). -/
def State.heatRef (s : State) (p : Nat) : Nat := (s.group (s.port p).group).refPct * (s.port p).ratingMa

/-- The heat that a window leaves a cell with a rating (R157). -/
def State.heats (s : State) (p : Nat) : Nat :=
  heatNext (s.port p).heat (min ((s.cellCurrent p * s.cellCurrent p).toNat * 2 ^ 32 * (100 * 100) / (s.heatRef p * s.heatRef p)) (2 ^ 64 - 1))
    (s.group (s.port p).group).tauMs

/-- A port as the heat of a cell is noted, whatever of its warnings is settled. -/
theorem State.noted_port {c : Prop} [Decidable c] (s : State) (i : Int) (num k code : Nat) (f : Port → Port) (x : Subj) (w d : Bool) (q : Nat) :
    (if c then ((s.heatX i num 100).2.setPort k f).settle x code w d else (s.heatX i num 100).2.setPort k f).port q =
      (s.setPort k f).port q := by
  rw [apply_ite (fun v : State => v.port q), (State.settle_touch ..).port_eq rfl, ite_self, State.port_setPort, State.port_setPort,
    (s.heatX_touch i num 100).port_eq rfl, comp_bit (s.heatX_touch i num 100).ports rfl]

theorem State.cellHeat_other {s : State} {p k : Nat} (other : k ≠ p) : (s.cellHeat k).1.port p = s.port p := by
  have apart (f : Port → Port) : (s.setPort k f).port p = s.port p := by
    rw [State.port_setPort, if_neg fun both => other both.1]
  unfold State.cellHeat
  dsimp only
  split
  · exact (s.noted_port ..).trans (apart _)
  · exact (s.noted_port ..).trans (apart _)

theorem State.heatX_rated {s : State} {i : Int} {num den : Nat} (rated : num ≠ 0) :
    (s.heatX i num den).1 = min ((i * i).toNat * 2 ^ 32 * (den * den) / (num * num)) (2 ^ 64 - 1) := by
  unfold State.heatX
  rw [if_neg rated]

theorem State.cellHeat_same {s : State} {p : Nat} (size : p < s.ports.length) (live : (s.port p).retired = false)
    (rated : s.heatRef p ≠ 0) : ((s.cellHeat p).1.port p).heat = s.heats p := by
  unfold State.cellHeat
  dsimp only
  rw [if_neg (by rw [live]; decide), s.noted_port, State.port_setPort_same size, if_neg (by rw [live]; decide)]
  show heatNext _ (s.heatX _ (s.heatRef p) 100).1 _ = _
  rw [State.heatX_rated rated]
  rfl

/-- The current of a cell follows from its own averages, its group and its slot. -/
theorem State.cellCurrent_of {s t : State} {p : Nat} (tele : (t.port p).tele = (s.port p).tele) (own : (t.port p).group = (s.port p).group)
    (slot_ : (t.port p).cellSlot = (s.port p).cellSlot) (type_ : (t.group (s.port p).group).gtype = (s.group (s.port p).group).gtype)
    (curr : (t.group (s.port p).group).currSlot = (s.group (s.port p).group).currSlot) (slots : ∀ k, t.slot k = s.slot k) :
    t.currentCh p = s.currentCh p ∧ t.cellCurrent p = s.cellCurrent p := by
  have ch : t.currentCh p = s.currentCh p := by
    unfold State.currentCh
    dsimp only
    rw [own, slot_, type_, curr, slots]
  exact ⟨ch, by unfold State.cellCurrent; rw [tele, ch]⟩

theorem State.heats_of {s t : State} {p : Nat} (port : t.port p = s.port p) (groups : ∀ g, t.group g = s.group g)
    (slots : ∀ k, t.slot k = s.slot k) : t.heats p = s.heats p ∧ t.heatRef p = s.heatRef p := by
  have ref : t.heatRef p = s.heatRef p := by
    unfold State.heatRef
    rw [port, groups]
  have current := (State.cellCurrent_of (by rw [port]) (by rw [port]) (by rw [port]) (by rw [groups]) (by rw [groups]) slots).2
  exact ⟨by unfold State.heats; rw [port, groups, ref, current], ref⟩

/-- The heats of the cells come one after another, each from its own cell. -/
theorem gather_cellHeat_heat {p : Nat} {l : List Nat} (once : l.Nodup) (member : p ∈ l) {a : State × List Found} (w : WellShaped a.1)
    (low : p < 80) (live : (a.1.port p).retired = false) (rated : a.1.heatRef p ≠ 0) : ((gather State.cellHeat l a).1.port p).heat = a.1.heats p := by
  have after (l : List Nat) (apart : p ∉ l) (a : State × List Found) : (gather State.cellHeat l a).1.port p = a.1.port p := by
    induction l generalizing a with
    | nil => rfl
    | cons k l ih =>
      obtain ⟨other, apart⟩ := not_or.mp (mt List.mem_cons.mpr apart)
      exact (ih apart ((a.1.cellHeat k).1, a.2 ++ (a.1.cellHeat k).2)).trans (State.cellHeat_other (Ne.symm other))
  induction l generalizing a with
  | nil => exact absurd member List.not_mem_nil
  | cons k l ih =>
    obtain ⟨apart, once⟩ := List.nodup_cons.mp once
    by_cases is : k = p
    · subst is
      exact (congrArg Port.heat (after l apart ((a.1.cellHeat k).1, a.2 ++ (a.1.cellHeat k).2))).trans (State.cellHeat_same (by rw [w.ports]; exact low) live rated)
    · have port : (a.1.cellHeat k).1.port p = a.1.port p := State.cellHeat_other is
      have touch := a.1.cellHeat_touch k
      obtain ⟨heats, ref⟩ := State.heats_of port (touch.group_eq rfl) (touch.slot_eq rfl)
      have later := ih once ((List.mem_cons.mp member).resolve_left (Ne.symm is)) (a := ((a.1.cellHeat k).1, a.2 ++ (a.1.cellHeat k).2))
      rw [port, ref, heats] at later
      exact later (touch.shape w) live rated

/-! ### The window -/

theorem State.groupTemp_group (s : State) (g k : Nat) : ∃ c, (s.groupTemp g).group k = { s.group k with tt := c } := by
  unfold State.groupTemp
  split
  · exact ⟨_, rfl⟩
  · rw [State.group_setGroup]
    split
    · exact ⟨_, rfl⟩
    · exact ⟨_, rfl⟩

theorem State.groupTemps_group (l : List Nat) (s : State) (k : Nat) :
    ∃ c, (l.foldl State.groupTemp s).group k = { s.group k with tt := c } := by
  induction l generalizing s with
  | nil => exact ⟨_, rfl⟩
  | cons g l ih =>
    obtain ⟨c, first⟩ := s.groupTemp_group g k
    obtain ⟨d, rest⟩ := ih (s.groupTemp g)
    exact ⟨d, by rw [List.foldl_cons, rest, first]⟩

/-- A group at the end of a window (R296). -/
def Group.endWindow (n : Nat) (G : Group) : Group :=
  if G.gtype = 0 then G else { G with
    tv := G.tv.endWindow n, ti := G.ti.endWindow n, tp := G.tp.endWindow n, tt := G.tt.endWindow n, vUse := G.vSrc, iUse := G.iSrc, pUse := G.pSrc }

/-- A port at the end of a window. -/
def Port.endWindow (n : Nat) (P : Port) : Port :=
  { P with tele := P.tele.mapIdx fun ch (c : Chan) => if (P.lanesOf ch).isEmpty then c else c.endWindow n }

/-- The averages at the end of a window. -/
def State.endWindow (s : State) (n : Nat) : State :=
  { s with
    sh := { s.sh with
      windows := s.sh.windows + 1, outTele := s.sh.outTele.endWindow n, selTele := s.sh.selTele.map fun x => (x.1, x.2.end1) }
    ports := s.ports.map (Port.endWindow n), groups := s.groups.map (Group.endWindow n) }

theorem State.endWindow_group (s : State) (n g : Nat) : (s.endWindow n).group g = (s.group g).endWindow n := by
  show nth (s.groups.map (Group.endWindow n)) g {} = _
  unfold State.group nth
  rw [List.getD_eq_getElem?_getD, List.getD_eq_getElem?_getD, List.getElem?_map]
  cases s.groups[g]? with
  | none => rfl
  | some G => rfl

theorem State.endWindow_port {s : State} (n : Nat) {p : Nat} (low : p < s.ports.length) : (s.endWindow n).port p = (s.port p).endWindow n := by
  show nth (s.ports.map (Port.endWindow n)) p {} = _
  unfold State.port nth
  rw [List.getD_eq_getElem?_getD, List.getD_eq_getElem?_getD, List.getElem?_map, List.getElem?_eq_getElem low]
  rfl

section
variable (s : State)

def State.cellPorts : List Nat := (List.range s.part.ports).filter fun p => (s.port p).isCell

/-- The averages of the window taken, before its detectors. -/
def State.averaged : State := ((List.range 16).foldl State.groupTemp s).endWindow s.le.frame

/-- Sense deviation and imbalance judged. -/
def State.judged : State :=
  s.cellPorts.foldl State.imbWindow (s.cellPorts.foldl (fun v p => if (v.port p).out then v else v.senseWindow p) s.averaged)

def State.heated : State × List Found := gather State.cellHeat s.cellPorts (s.judged, [])

/-- Temperatures and compliance judged too. -/
def State.found : State × List Found :=
  gather State.compWindow s.cellPorts (gather State.cellTemp s.cellPorts (gather State.groupHeat (List.range 16) s.heated))

theorem exec_msWindow : exec .msWindow s = .next (s.found.1.ladderAll s.found.2).burstWindow := rfl

theorem State.judged_kept : WindowKept Port.sansFind s.averaged s.judged :=
  .trans (.foldl (fun v p => .cond (.refl v) (v.senseWindow_kept p)) _ _) (.foldl State.imbWindow_kept _ _)

theorem State.judged_touch : Touch 0xa0 s.averaged s.judged :=
  ((Touch.refl 0xa0 s.averaged).foldl fun v p => .cond (.refl _ _) ((v.senseWindow_touch p).mono rfl)).foldl
    fun v p => v.imbWindow_touch p

theorem State.heated_kept : WindowKept Port.sansHeat s.judged s.heated.1 := .gather State.cellHeat_kept _ (s.judged, [])

theorem State.found_kept : WindowKept Port.sansFind s.heated.1 s.found.1 :=
  (WindowKept.gather State.groupHeat_kept _ s.heated).trans
    ((WindowKept.gather State.cellTemp_kept _ _).trans (.gather State.compWindow_kept _ _))

theorem State.found_ladder : WindowKept Port.sansDetect s.averaged (s.found.1.ladderAll s.found.2) := by
  refine .trans (s.judged_kept.weaken ?_) (.trans (s.heated_kept.weaken ?_) (.trans (s.found_kept.weaken ?_) ((State.ladderAll_kept _ _).weaken ?_)))
  · exact fun P Q same => congrArg (fun R : Port => ({ R with heat := 0 } : Port).sansLadder) same
  · exact fun P Q same => congrArg Port.sansLadder same
  · exact fun P Q same => congrArg (fun R : Port => ({ R with heat := 0 } : Port).sansLadder) same
  · exact fun P Q same => congrArg Port.sansHeat same

end

theorem State.averaged_says {s : State} (w : WellShaped s) :
    (∀ p, p < 80 → s.averaged.port p = (s.port p).endWindow s.le.frame) ∧
      (∀ g, ∃ c, s.averaged.group g = ({ s.group g with tt := c } : Group).endWindow s.le.frame) ∧
      s.averaged.sh.windows = s.sh.windows + 1 ∧ s.averaged.sh.outTele = s.sh.outTele.endWindow s.le.frame ∧
      s.averaged.sh.burstEnter = s.sh.burstEnter ∧ s.averaged.sh.burstDwell = s.sh.burstDwell ∧
      s.averaged.sh.burstBand = s.sh.burstBand ∧ s.averaged.sh.burstLow = s.sh.burstLow ∧ s.averaged.le = s.le := by
  have temps : Touch 0x40 s ((List.range 16).foldl State.groupTemp s) := (Touch.refl _ _).foldl fun v g => v.groupTemp_touch g
  have sh := comp_bit temps.sh rfl
  refine ⟨fun p low => ?_, fun g => ?_, ?_⟩
  · refine (State.endWindow_port _ ?_).trans ?_
    · rw [comp_bit temps.ports rfl, w.ports]
      exact low
    · rw [temps.port_eq rfl]
  · obtain ⟨c, group⟩ := State.groupTemps_group (List.range 16) s g
    exact ⟨c, (State.endWindow_group _ _ g).trans (by rw [group])⟩
  · unfold State.averaged State.endWindow
    dsimp only
    rw [sh]
    exact ⟨rfl, rfl, rfl, rfl, rfl, rfl, comp_bit temps.le rfl⟩

theorem State.endWindow_shape {s : State} (w : WellShaped s) (n : Nat) : WellShaped (s.endWindow n) :=
  ⟨(List.length_map _).trans w.ports, (List.length_map _).trans w.groups, w.slots, w.pipes, w.queues, w.ring, w.received, w.ledger,
    w.host, w.hdma⟩

theorem State.averaged_shape {s : State} (w : WellShaped s) : WellShaped s.averaged := by
  have temps : Touch 0x40 s ((List.range 16).foldl State.groupTemp s) := (Touch.refl _ _).foldl fun v g => v.groupTemp_touch g
  exact State.endWindow_shape (temps.shape w) _

theorem Group.endWindow_says (n : Nat) (G : Group) : (G.endWindow n).gtype = G.gtype ∧ (G.endWindow n).currSlot = G.currSlot ∧
    (G.endWindow n).olCfg = G.olCfg ∧ (G.endWindow n).state = G.state := by
  unfold Group.endWindow
  split
  · exact ⟨rfl, rfl, rfl, rfl⟩
  · exact ⟨rfl, rfl, rfl, rfl⟩

/-- A group when the cells' heats are taken, but for the averages it had. -/
theorem State.judged_group {s : State} (w : WellShaped s) (g : Nat) : (s.judged.group g).gtype = (s.group g).gtype ∧
    (s.judged.group g).currSlot = (s.group g).currSlot ∧ (s.judged.group g).olCfg = (s.group g).olCfg ∧
    (s.judged.group g).state = (s.group g).state := by
  obtain ⟨_, group, _⟩ := State.averaged_says w
  obtain ⟨c, group⟩ := group g
  rw [s.judged_touch.group_eq rfl, group]
  exact Group.endWindow_says ..

theorem State.judged_port {s : State} (w : WellShaped s) {p : Nat} (low : p < 80) :
    (s.judged.port p).sansFind = ((s.port p).endWindow s.le.frame).sansFind := by
  rw [s.judged_kept.port, (State.averaged_says w).1 p low]

/-- Every cell's heat is taken once a window, from its current of that window (R157). -/
theorem State.heated_heat {s : State} (w : WellShaped s) {p : Nat} (low : p < s.part.ports) (cell : (s.port p).isCell = true)
    (live : (s.port p).retired = false) (rated : s.heatRef p ≠ 0) : (s.heated.1.port p).heat =
      heatNext (s.port p).heat (min (((nth (s.judged.port p).tele (s.currentCh p) {}).avg1 * (nth (s.judged.port p).tele (s.currentCh p) {}).avg1).toNat
        * 2 ^ 32 * (100 * 100) / (s.heatRef p * s.heatRef p)) (2 ^ 64 - 1)) (s.group (s.port p).group).tauMs := by
  have small := Nat.lt_of_lt_of_le low s.part.ports_le
  have port := State.judged_port w small
  obtain ⟨_, heat, own, rating, slot_, gone⟩ := Port.of_sansFind port
  replace heat : _ = (s.port p).heat := heat
  replace own : _ = (s.port p).group := own
  replace rating : _ = (s.port p).ratingMa := rating
  replace slot_ : _ = (s.port p).cellSlot := slot_
  obtain ⟨type_, curr, ol, _⟩ := State.judged_group w (s.port p).group
  have slots (k : Nat) : s.judged.slot k = s.slot k := by
    rw [s.judged_touch.slot_eq rfl]
    exact congrArg (fun l : LoopEngine => nth l.slots k {}) (State.averaged_says w).2.2.2.2.2.2.2.2
  have ref : s.judged.heatRef p = s.heatRef p := by
    unfold State.heatRef Group.refPct
    rw [own, rating, ol]
  have ch : s.judged.currentCh p = s.currentCh p := by
    unfold State.currentCh
    dsimp only
    rw [own, slot_, type_, curr, slots]
  have shape : WellShaped s.judged := s.judged_touch.shape (State.averaged_shape w)
  have member : p ∈ s.cellPorts := List.mem_filter.mpr ⟨List.mem_range.mpr low, cell⟩
  refine (gather_cellHeat_heat (List.nodup_range.filter _) member (a := (s.judged, [])) shape small
    (gone.trans live) (by rw [ref]; exact rated)).trans ?_
  unfold State.heats State.cellCurrent Group.tauMs
  rw [heat, ref, ch, own, ol]

theorem Group.endWindow_window {n : Nat} {G : Group} (typed : G.gtype ≠ 0) :
    (G.endWindow n).window = (G.tv.endWindow n, G.ti.endWindow n, G.tp.endWindow n, G.vSrc, G.iSrc, G.pSrc) := by
  unfold Group.endWindow
  rw [if_neg typed]
  rfl

/-- What the end of a window leaves of averages, sources, settings of burst and heats. -/
theorem State.msWindow_says {s : State} (w : WellShaped s) (t : State) (is : t = (s.found.1.ladderAll s.found.2).burstWindow) :
    (t.sh.windows = s.sh.windows + 1 ∧ t.sh.outTele = s.sh.outTele.endWindow s.le.frame ∧ t.sh.useEnter = s.sh.burstEnter ∧
      t.sh.useDwell = s.sh.burstDwell ∧ t.sh.useBand = s.sh.burstBand) ∧
    ((s.sh.burstEnter : Int) ≤ t.sh.outTele.avg1 → t.sh.burstLow = 0) ∧
    (s.burstGroups = [] → t.sh.outTele.avg1 < (s.sh.burstEnter : Int) → t.sh.burstLow = s.sh.burstLow + 1) ∧
    (∀ g, (s.group g).gtype ≠ 0 → (t.group g).window = ((s.group g).tv.endWindow s.le.frame, (s.group g).ti.endWindow s.le.frame,
      (s.group g).tp.endWindow s.le.frame, (s.group g).vSrc, (s.group g).iSrc, (s.group g).pSrc)) ∧
    (∀ p, p < 80 → (t.port p).tele = ((s.port p).endWindow s.le.frame).tele) ∧
    ∀ p, p < s.part.ports → (s.port p).isCell = true → (s.port p).retired = false → s.heatRef p ≠ 0 → (t.port p).heat =
      heatNext (s.port p).heat (min (((nth (t.port p).tele (s.currentCh p) {}).avg1 * (nth (t.port p).tele (s.currentCh p) {}).avg1).toNat
        * 2 ^ 32 * (100 * 100) / (s.heatRef p * s.heatRef p)) (2 ^ 64 - 1)) (s.group (s.port p).group).tauMs := by
  obtain ⟨port, group, windows, out, enter, dwell, band, low, _⟩ := State.averaged_says w
  have kept := s.found_ladder
  obtain ⟨windows', out', enter', dwell', band'⟩ := kept.shelf
  obtain ⟨port'', group'', ⟨windows'', out'', enter'', dwell'', band''⟩, high, under⟩ := (s.found.1.ladderAll s.found.2).burstWindow_says
  have total : t.sh.outTele = s.sh.outTele.endWindow s.le.frame := by rw [is, out'', out', out]
  have tele (p : Nat) : (t.port p).tele = (s.averaged.port p).tele := by
    rw [is, port'']
    exact Port.tele_of_sansDetect (kept.port p)
  subst is
  refine ⟨⟨by rw [windows'', windows', windows], total, by rw [enter'', enter', enter], by rw [dwell'', dwell', dwell],
    by rw [band'', band', band]⟩, fun above => ?_, fun calm below => ?_, fun g typed => ?_, fun p small => ?_, fun p low cell live rated => ?_⟩
  · exact high (by rw [enter', enter, ← out'']; exact above)
  · have still (g : Nat) : (s.averaged.group g).bursts = false := by
      obtain ⟨c, is⟩ := group g
      unfold Group.bursts
      rw [is, (Group.endWindow_says s.le.frame ({ s.group g with tt := c } : Group)).2.2.2]
      exact State.calm_of_none w calm g
    obtain ⟨none_, low'⟩ := kept.calm still
    rw [under (State.burstGroups_calm none_) (by rw [enter', enter, ← out'']; exact below), low', low]
  · obtain ⟨c, is⟩ := group g
    rw [group'', kept.group, is]
    exact Group.endWindow_window typed
  · rw [tele p, port p small]
  · have one : (s.judged.port p).tele = (s.averaged.port p).tele := (Port.of_sansFind (s.judged_kept.port p)).1
    have after : ((s.found.1.ladderAll s.found.2).port p).heat = (s.found.1.port p).heat :=
      Port.heat_of_sansLadder ((State.ladderAll_kept s.found.1 s.found.2).port p)
    have same : (s.found.1.port p).heat = (s.heated.1.port p).heat := (Port.of_sansFind (s.found_kept.port p)).2.1
    rw [tele, ← one, port'', after, same]
    exact State.heated_heat w low cell live rated

theorem Group.window_of {G : Group} {v i p : Chan} {a b c : Reg} (same : G.window = (v, i, p, a, b, c)) :
    G.tv = v ∧ G.ti = i ∧ G.tp = p ∧ G.vUse = a ∧ G.iUse = b ∧ G.pUse = c := by
  simpa only [Group.window, Prod.mk.injEq] using same


end Sys2Proof.Machine
end

section
/-!
R113, R149 to R164, R294: burst entry, sense and imbalance findings, voltage limits and the coolant.
-/

namespace Sys2Proof.Machine

open Sys2Proof

section
variable {s : State}

/-! ### The ladder and what it leaves -/

/-- A quench changes of the shelf only the hold of burst. -/
theorem State.quench_shelf (s : State) (g cause : Nat) :
    ∃ hold low, (s.quench g cause).sh = { s.sh with burstHold := hold, burstLow := low } := by
  by_cases idle : (s.group g).state = .off ∨ (s.group g).state = .quenching
  · exact ⟨s.sh.burstHold, s.sh.burstLow, by rw [show s.quench g cause = s from if_pos idle]⟩
  · obtain ⟨v, is, touch, _⟩ := s.quench_runs cause idle
    have sh : v.sh = s.sh := comp_bit touch.sh rfl
    rw [is, comp_bit (State.busCheck_touch _).sh rfl, ← sh]
    unfold State.burstExit
    split
    · exact ⟨v.sh.burstHold, v.sh.burstLow, rfl⟩
    · dsimp only
      rw [(v.leaveBursts_window v.burstGroups).2]
      exact ⟨v.sh.useDwell, 0, rfl⟩

theorem State.quenches_shelf (l : List Nat) (cause : Nat) (s : State) :
    ∃ hold low, (l.foldl (fun v g => v.quench g cause) s).sh = { s.sh with burstHold := hold, burstLow := low } := by
  induction l generalizing s with
  | nil => exact ⟨s.sh.burstHold, s.sh.burstLow, rfl⟩
  | cons g l ih =>
    obtain ⟨_, _, first⟩ := s.quench_shelf g cause
    obtain ⟨hold, low, rest⟩ := ih (s.quench g cause)
    exact ⟨hold, low, by rw [List.foldl_cons, rest, first]⟩

/-- A group that leaves burst regulates. -/
theorem State.leaveBurst_state (s : State) (g k : Nat) :
    ((s.leaveBurst g).group k).state = (s.group k).state ∨ ((s.leaveBurst g).group k).state = .regulating := by
  by_cases same : g = k
  · subst same
    unfold State.leaveBurst
    dsimp only
    have regulates (v : State) (groups : v.groups = upd s.groups g fun G => { G with
        state := .regulating, startPend := G.startPend || (s.group g).state == .burstSleep
        wakePend := G.wakePend || (s.group g).state == .burstSleep, toReg := false }) :
        (v.group g).state = (s.group g).state ∨ (v.group g).state = .regulating := by
      rw [State.group, groups, nth_upd]
      split
      · exact .inr rfl
      · exact .inl rfl
    split
    · exact regulates _ (comp_bit (State.completeWhere_touch ..).groups rfl |>.trans (comp_bit (State.aimGroup_touch ..).groups rfl))
    · exact regulates _ (comp_bit (State.aimGroup_touch ..).groups rfl)
  · exact .inl (by rw [s.leaveBurst_group same])

theorem State.leaveBursts_state (l : List Nat) (s : State) (k : Nat) :
    ((l.foldl State.leaveBurst s).group k).state = (s.group k).state ∨ ((l.foldl State.leaveBurst s).group k).state = .regulating := by
  induction l generalizing s with
  | nil => exact .inl rfl
  | cons g l ih =>
    rcases ih (s.leaveBurst g) with same | regulates
    · rcases s.leaveBurst_state g k with first | first
      · exact .inl (same.trans first)
      · exact .inr (same.trans first)
    · exact .inr regulates

/-- A quench leaves every other group in its state, or regulating where burst ends. -/
theorem State.quench_other {g k : Nat} (cause : Nat) (other : g ≠ k) :
    ((s.quench g cause).group k).state = (s.group k).state ∨ ((s.quench g cause).group k).state = .regulating := by
  by_cases idle : (s.group g).state = .off ∨ (s.group g).state = .quenching
  · exact .inl (by rw [show s.quench g cause = s from if_pos idle])
  · obtain ⟨v, is, _, groups⟩ := s.quench_runs cause idle
    have same : v.group k = s.group k := (congrArg (fun l => nth l k ({} : Group)) groups).trans (nth_upd_other _ _ _ _ _ other)
    rw [is, (State.busCheck_touch _).group_eq rfl, ← same]
    unfold State.burstExit
    split
    · exact .inl rfl
    · exact v.leaveBursts_state v.burstGroups k

theorem State.levelOn_stand {x y : Subj} (apart : x ≠ y) (code level : Nat) : (s.stand x code level).levelOn y = s.levelOn y := by
  have others (l : List Finding) : (l.filter fun f => !(f.subj == x && f.code == code)).filter (fun f => f.subj == y) =
      l.filter fun f => f.subj == y := by
    rw [List.filter_filter]
    refine List.filter_congr fun f _ => ?_
    by_cases of_ : f.subj = y
    · simp [of_, Ne.symm apart]
    · simp [of_]
  have none_ : (if level = 0 then [] else [({ subj := x, code := code, level := level } : Finding)]).filter (fun f => f.subj == y) = [] := by
    split
    · rfl
    · simp [apart]
  show (((_ : List Finding) ++ _).filter fun f => f.subj == y).foldl _ 0 = _
  rw [List.filter_append, none_, List.append_nil, others]
  rfl

/-- A record and a level in effect leave the findings on another subject. -/
theorem State.ladderRecord_findings (s : State) (x : Subj) (level cause code : Nat) :
    (s.ladderRecord x level cause code).sh = { s.sh with ladderSeen := max s.sh.ladderSeen level } := by
  unfold State.ladderRecord
  cases x
  all_goals exact comp_bit (State.record_touch ..).sh rfl

/-- A finding against a group of level 4 quenches it, or is only recorded. -/
theorem State.ladder_group {g cause code : Nat} (active : s.active = true) :
    s.ladder (.group g) 4 cause code = s.ladderRecord (.group g) 4 cause code ∨
      s.ladder (.group g) 4 cause code = ((s.ladderRecord (.group g) 4 cause code).stand (.group g) code 4).quench g 2 := by
  unfold State.ladder
  dsimp only
  rw [if_neg (by simp [active]), if_neg (by simp), show s.mend (.group g) 4 = (.group g, 4) from rfl]
  dsimp only
  split
  · exact .inl rfl
  · exact .inr rfl

theorem State.stood_group (g k cause code : Nat) : ((s.ladderRecord (.group g) 4 cause code).stand (.group g) code 4).group k = s.group k :=
  (s.acts_touch (.group g) 4 cause code).group_eq rfl k

/-- A group that quenches is left to it by a finding against a group. -/
theorem State.ladder_group_quenching {g k cause code : Nat} (active : s.active = true) (quenches : (s.group k).state = .quenching) :
    (s.ladder (.group g) 4 cause code).group k = s.group k := by
  rcases State.ladder_group (s := s) (g := g) (cause := cause) (code := code) active with is | is
  · rw [is, (State.ladderRecord_touch ..).group_eq rfl]
  · rw [is, State.quench_quenching (cause := 2) (quenches := by rw [State.stood_group]; exact quenches), State.stood_group]

/-- A finding against another group leaves a group that runs running, with the levels in effect on it. -/
theorem State.ladder_group_other {g k cause code : Nat} (active : s.active = true) (other : g ≠ k) (on_ : (s.group k).state ≠ .off)
    (runs : (s.group k).state ≠ .quenching) : ((s.ladder (.group g) 4 cause code).group k).state ≠ .off ∧
      ((s.ladder (.group g) 4 cause code).group k).state ≠ .quenching ∧
      (s.ladder (.group g) 4 cause code).levelOn (.group k) = s.levelOn (.group k) := by
  have level : (s.ladderRecord (.group g) 4 cause code).levelOn (.group k) = s.levelOn (.group k) := by
    unfold State.levelOn
    rw [s.ladderRecord_findings]
  rcases State.ladder_group (s := s) (g := g) (cause := cause) (code := code) active with is | is
  · rw [is, (State.ladderRecord_touch ..).group_eq rfl]
    exact ⟨on_, runs, level⟩
  · obtain ⟨hold, low, sh⟩ := ((s.ladderRecord (.group g) 4 cause code).stand (.group g) code 4).quench_shelf g 2
    have levels : (s.ladder (.group g) 4 cause code).levelOn (.group k) = s.levelOn (.group k) := by
      rw [is, ← level]
      refine Eq.trans ?_ (State.levelOn_stand (x := .group g) (fun same => other (Subj.group.inj same)) code 4)
      unfold State.levelOn
      rw [sh]
    refine ⟨?_, ?_, levels⟩
    all_goals
      rw [is]
      rcases State.quench_other (s := (s.ladderRecord (.group g) 4 cause code).stand (.group g) code 4) 2 other with same | same
      · rw [same, State.stood_group]
        assumption
      · rw [same]
        decide

/-- A finding of level 4 against a group that runs, above what stands there, quenches it with LAST_QUENCH 2. -/
theorem State.ladder_group_same {g cause code : Nat} (active : s.active = true) (size : g < s.groups.length) (on_ : (s.group g).state ≠ .off)
    (runs : (s.group g).state ≠ .quenching) (below : s.levelOn (.group g) < 4) :
    ((s.ladder (.group g) 4 cause code).group g).state = .quenching ∧ ((s.ladder (.group g) 4 cause code).group g).lastQuench = 2 := by
  rw [State.ladder_acts active (fun p is => by cases is) (y := .group g) (l := 4) rfl
    (by simpa [State.spent] using on_) below]
  have same := s.acts_touch (.group g) 4 cause code
  obtain ⟨quenching, last⟩ := State.quench_same (s := (s.ladderRecord (.group g) 4 cause code).stand (.group g) code 4) 2 (g := g)
    (by rw [comp_bit same.groups rfl]; exact size) (by rw [State.stood_group]; exact on_)
  rw [State.stood_group, if_neg runs] at last
  exact ⟨quenching, last⟩

theorem State.ladder_active {x : Subj} {level cause code : Nat} (active : s.active = true) : (s.ladder x level cause code).active = true := by
  unfold State.active
  rw [comp_bit (s.ladder_touch x level cause code).role rfl]
  exact active

/-- The findings of one detector against several groups, each once, quench every one that runs below level 4. -/
theorem State.ladder_groups {l : List Nat} {cause code : Nat} (once : l.Nodup) {s : State} (w : WellShaped s) (active : s.active = true) {k : Nat}
    (member : k ∈ l) (low : k < 16) (on_ : (s.group k).state ≠ .off) (runs : (s.group k).state ≠ .quenching) (below : s.levelOn (.group k) < 4) :
    ((l.foldl (fun v g => v.ladder (.group g) 4 cause code) s).group k).state = .quenching ∧
      ((l.foldl (fun v g => v.ladder (.group g) 4 cause code) s).group k).lastQuench = 2 := by
  have after (l : List Nat) {s : State} (active : s.active = true) (quenches : (s.group k).state = .quenching) :
      (l.foldl (fun v g => v.ladder (.group g) 4 cause code) s).group k = s.group k := by
    induction l generalizing s with
    | nil => rfl
    | cons g l ih =>
      have same := State.ladder_group_quenching (g := g) (cause := cause) (code := code) active quenches
      rw [List.foldl_cons, ih (State.ladder_active active) (by rw [same]; exact quenches), same]
  induction l generalizing s with
  | nil => exact absurd member List.not_mem_nil
  | cons g l ih =>
    obtain ⟨apart, once⟩ := List.nodup_cons.mp once
    by_cases is : g = k
    · subst is
      obtain ⟨quenching, last⟩ := State.ladder_group_same (cause := cause) (code := code) active (by rw [w.groups]; exact low) on_ runs below
      rw [List.foldl_cons, after l (State.ladder_active active) quenching]
      exact ⟨quenching, last⟩
    · obtain ⟨on', runs', level⟩ := State.ladder_group_other (cause := cause) (code := code) active is on_ runs
      exact ih once ((s.ladder_touch ..).shape w) (State.ladder_active active) ((List.mem_cons.mp member).resolve_left (Ne.symm is)) on' runs'
        (by rw [level]; exact below)

/-- A quench of the whole shelf quenches every group that is not OFF. -/
theorem State.quenches_group {l : List Nat} (cause : Nat) {s : State} (w : WellShaped s) {k : Nat} (member : k ∈ l) (low : k < 16)
    (on_ : (s.group k).state ≠ .off) : ((l.foldl (fun v g => v.quench g cause) s).group k).state = .quenching := by
  have after (l : List Nat) {s : State} (quenches : (s.group k).state = .quenching) :
      ((l.foldl (fun v g => v.quench g cause) s).group k).state = .quenching := by
    induction l generalizing s with
    | nil => exact quenches
    | cons g l ih => exact ih (by rw [s.quench_quenching cause quenches]; exact quenches)
  induction l generalizing s with
  | nil => exact absurd member List.not_mem_nil
  | cons g l ih =>
    by_cases is : g = k
    · subst is
      exact after l (s.quench_same cause (by rw [w.groups]; exact low) on_).1
    · exact ih ((s.quench_touch g cause).shape w) ((List.mem_cons.mp member).resolve_left (Ne.symm is)) (s.quench_on cause on_)

/-- The action of level 5 on the shelf quenches all that is not OFF (Table 6-1). -/
theorem State.actOn_shelf (w : WellShaped s) (cause : Nat) : (s.actOn .shelf 5 cause).sh.shelfQuench = true ∧
    ∀ k, k < 16 → (s.group k).state ≠ .off → ((s.actOn .shelf 5 cause).group k).state = .quenching := by
  let q : State := { s with sh := { s.sh with shelfQuench := true } }
  have is : s.actOn .shelf 5 cause = (List.range 16).foldl (fun v g => v.quench g 2) q := by
    unfold State.actOn
    dsimp only
    rw [if_pos rfl]
    rfl
  have shape : WellShaped q := ⟨w.ports, w.groups, w.slots, w.pipes, w.queues, w.ring, w.received, w.ledger, w.host, w.hdma⟩
  obtain ⟨hold, low, sh⟩ := State.quenches_shelf (List.range 16) 2 q
  rw [is]
  refine ⟨by rw [sh], fun k small on_ => ?_⟩
  have member : k ∈ List.range 16 := List.mem_range.mpr small
  exact State.quenches_group 2 shape member small on_

/-! ### Burst entry -/

theorem State.runGroup_other {g k : Nat} (other : g ≠ k) : (s.runGroup g).group k = s.group k := by
  unfold State.runGroup
  rw [(State.aimGroup_touch _ g).group_eq rfl, State.group_setGroup, if_neg fun both => other both.1]

theorem State.runGroup_same {g : Nat} (size : g < s.groups.length) : ((s.runGroup g).group g).state = .burstRun := by
  unfold State.runGroup
  rw [(State.aimGroup_touch _ g).group_eq rfl, State.group_setGroup, if_pos ⟨rfl, size⟩]

theorem State.runGroups_other {k : Nat} {l : List Nat} (apart : k ∉ l) {s : State} : (l.foldl State.runGroup s).group k = s.group k := by
  induction l generalizing s with
  | nil => rfl
  | cons g l ih =>
    obtain ⟨other, apart⟩ := not_or.mp (mt List.mem_cons.mpr apart)
    rw [List.foldl_cons, ih apart, State.runGroup_other (Ne.symm other)]

theorem State.runGroups_state {k : Nat} {l : List Nat} (low : k < 16) {s : State} (w : WellShaped s)
    (runs : k ∈ l ∨ (s.group k).state = .burstRun) : ((l.foldl State.runGroup s).group k).state = .burstRun := by
  induction l generalizing s with
  | nil => exact runs.resolve_left List.not_mem_nil
  | cons g l ih =>
    refine ih ((s.runGroup_touch g).shape w) ?_
    by_cases is : g = k
    · subst is
      exact .inr (State.runGroup_same (by rw [w.groups]; exact low))
    · rw [State.runGroup_other is]
      exact runs.imp_left fun member => (List.mem_cons.mp member).resolve_left (Ne.symm is)

theorem State.setRate_w (s : State) (k r j : Nat) : ((s.setRate k r).slot j).w = (s.slot j).w :=
  s.slot_setSlot_field (φ := Slot.w) (f := fun x => { x with sup := x.sup.set 4 (BitVec.ofNat 32 r) }) (fun _ => rfl) k j

theorem State.aimGroup_const {s : State} {g : Nat} (size : (s.group g).voltSlot < s.le.slots.length) :
    ((s.aimGroup g).slot (s.group g).voltSlot).w = (s.slot (s.group g).voltSlot).w.set 5 (BitVec.ofInt 32 (s.busAim g)) := by
  unfold State.aimGroup
  dsimp only
  have aimed : (s.setConst (s.group g).voltSlot (s.busAim g)).slot (s.group g).voltSlot =
      { s.slot (s.group g).voltSlot with w := (s.slot (s.group g).voltSlot).w.set 5 (BitVec.ofInt 32 (s.busAim g)) } := by
    unfold State.setConst
    rw [State.slot_setSlot, if_pos ⟨rfl, size⟩]
  rw [State.setRate_w, aimed]

/-- The bus of a group in burst is set to the upper edge of the band (R113). -/
theorem State.runGroup_aim {g : Nat} (w : WellShaped s) (low : g < 16) (slot : (s.group g).voltSlot < 128) :
    ((s.runGroup g).slot (s.group g).voltSlot).w = (s.slot (s.group g).voltSlot).w.set 5 (BitVec.ofInt 32 (s.sh.target + s.sh.burstHi)) := by
  let v := s.setGroup g fun G => { G with
    state := .burstRun, startPend := G.startPend || (s.group g).state == .burstSleep, wakePend := G.wakePend || (s.group g).state == .burstSleep }
  have group : v.group g = { s.group g with
      state := .burstRun, startPend := (s.group g).startPend || (s.group g).state == .burstSleep
      wakePend := (s.group g).wakePend || (s.group g).state == .burstSleep } := by
    rw [State.group_setGroup, if_pos ⟨rfl, by rw [w.groups]; exact low⟩]
  have volt : (v.group g).voltSlot = (s.group g).voltSlot := by rw [group]
  have aim : v.busAim g = s.sh.target + s.sh.burstHi := if_pos (by rw [group])
  have set := State.aimGroup_const (s := v) (g := g) (by rw [volt]; exact lt_of_lt_of_eq slot w.slots.symm)
  rw [volt, aim] at set
  exact set

theorem exec_burstEnter {live : List Nat} (w : WellShaped s) (active : s.role = .active) (dwell : s.sh.useDwell ≤ s.sh.burstLow)
    (hold : s.sh.burstHold = 0) (is : live = s.busGroups.filter fun g => (s.group g).state != .off)
    (all : ∀ g ∈ live, (s.group g).burstEn = true)
    (some_ : ∃ g ∈ live, (s.group g).state ≠ .quenching ∧ (s.group g).state ≠ .burstRun ∧ (s.group g).state ≠ .burstSleep) :
    Completes .burstEnter s (fun t =>
      (∀ g ∈ live, (s.group g).state ≠ .quenching → (t.group g).state = .burstRun) ∧
      (∀ g ∈ live, (s.group g).state = .quenching → t.group g = s.group g) ∧
      (∀ g, live = [g] → (s.group g).voltSlot < 128 → (t.slot (s.group g).voltSlot).w =
        (s.slot (s.group g).voltSlot).w.set 5 (BitVec.ofInt 32 (s.sh.target + s.sh.burstHi)))) := by
  let run := live.filter fun g => (s.group g).state != .quenching
  have small : ∀ g ∈ live, g < 16 := fun g member => by
    rw [is] at member
    exact List.mem_range.mp (List.mem_filter.mp (List.mem_filter.mp member).1).1
  have enters : (s.active && decide (s.sh.useDwell ≤ s.sh.burstLow) && s.sh.burstHold == 0 && run.any (fun g => !s.inBurst g) &&
      live.all (fun g => (s.group g).burstEn)) = true := by
    obtain ⟨g, member, quenching, runs, sleeps⟩ := some_
    have one : run.any (fun g => !s.inBurst g) = true :=
      List.any_eq_true.mpr ⟨g, List.mem_filter.mpr ⟨member, by simp [quenching]⟩, by simp [State.inBurst, runs, sleeps]⟩
    have on_ : s.active = true := by rw [State.active, active]; rfl
    rw [one, List.all_eq_true.mpr all]
    simp [on_, dwell, hold]
  refine ⟨run.foldl State.runGroup s, ?_, fun g member quenching => ?_, fun g member quenching => ?_, fun g one slot => ?_⟩
  · subst is
    exact if_pos enters
  · exact State.runGroups_state (small g member) w (.inl (List.mem_filter.mpr ⟨member, by simp [quenching]⟩))
  · exact State.runGroups_other fun of_ => by simpa [quenching] using (List.mem_filter.mp of_).2
  · obtain ⟨k, member, quenching, _⟩ := some_
    rw [one, List.mem_singleton] at member
    subst member
    have only : run = [k] := by
      show live.filter _ = _
      rw [one]
      exact List.filter_cons_of_pos (by simp [quenching])
    rw [only]
    exact State.runGroup_aim w (small k (by rw [one]; exact .head _)) slot

/-! ### The coolant -/

/-- Findings against the shelf that no action follows. -/
def lowFindings (l : List Found) : Prop := ∀ f ∈ l, f.1 = .shelf ∧ f.2.1 ≤ 2

/-- A low finding against the shelf is recorded and stands. -/
theorem State.ladder_low (s : State) {level cause code : Nat} (low : level ≤ 2) : ∃ a b, (s.ladder .shelf level cause code).sh =
    { s.sh with findings := a, ladderSeen := b } := by
  have mend : s.mend .shelf level = (.shelf, level) := by
    unfold State.mend
    exact if_neg (by omega)
  have idle (v : State) : v.actOn .shelf level cause = v := if_neg (by omega)
  unfold State.ladder
  dsimp only
  rw [mend]
  dsimp only
  rw [idle]
  split
  · split
    · exact ⟨_, s.sh.ladderSeen, rfl⟩
    · exact ⟨s.sh.findings, s.sh.ladderSeen, rfl⟩
  split
  · exact ⟨s.sh.findings, _, s.ladderRecord_findings ..⟩
  split
  · exact ⟨s.sh.findings, _, s.ladderRecord_findings ..⟩
  · refine ⟨((s.ladderRecord .shelf level cause code).stand .shelf code level).sh.findings, max s.sh.ladderSeen level, ?_⟩
    unfold State.stand
    dsimp only
    rw [s.ladderRecord_findings]

theorem State.ladderAll_low {l : List Found} (low : lowFindings l) (s : State) : ∃ a b, (s.ladderAll l).sh =
    { s.sh with findings := a, ladderSeen := b } := by
  have sorted : lowFindings (sortBy (fun a b : Found => decide (b.2.1 < a.2.1)) l) := fun f member => low f ((mem_sortBy _ _ f).mp member)
  unfold State.ladderAll
  generalize sortBy (fun a b : Found => decide (b.2.1 < a.2.1)) l = sorted_ at sorted
  induction sorted_ generalizing s with
  | nil => exact ⟨s.sh.findings, s.sh.ladderSeen, rfl⟩
  | cons f l ih =>
    obtain ⟨shelf, small⟩ := sorted f (.head _)
    obtain ⟨_, _, first⟩ := s.ladder_low (cause := f.2.2.1) (code := f.2.2.2) small
    obtain ⟨a, b, rest⟩ := ih (s.ladder f.1 f.2.1 f.2.2.1 f.2.2.2) fun g member => sorted g (.tail _ member)
    exact ⟨a, b, rest.trans (by rw [shelf, first])⟩

/-- What the coolant temperature makes of the derating (R163). -/
def State.cooled (s : State) : Shelf :=
  match s.coolChan 1 with
  | some (.trained, c) =>
    if s.sh.windows < 100 then s.sh
    else if s.sh.coolTarget c.avg100 ≤ s.sh.coolFactor then { s.sh with
      coolHold := false, coolFactor := s.sh.coolTarget c.avg100
      coolTick := if s.sh.coolTarget c.avg100 < s.sh.coolFactor then 0 else s.sh.coolTick + 1 }
    else if 2 ≤ s.sh.coolTick + 1 then { s.sh with coolHold := false, coolFactor := s.sh.coolFactor + 1, coolTick := 0 }
    else { s.sh with coolHold := false, coolTick := s.sh.coolTick + 1 }
  | _ => { s.sh with coolHold := true, coolTick := s.sh.coolTick + 1 }

/-- Whether the coolant flow is low (R164). -/
def State.flowsLow (s : State) : Bool :=
  match s.coolChan 2 with
  | some (.trained, c) => bits s.sh.coolCfg.toNat 15 0 != 0 && decide (1000 ≤ s.sh.windows) &&
    decide (c.avg1k < (bits s.sh.coolCfg.toNat 15 0 : Int))
  | _ => s.sh.flowLow && bits s.sh.coolCfg.toNat 15 0 != 0

/-- The coolant's findings that have ended taken away. -/
def State.cooledOff (s : State) : State :=
  let u := { s with sh := { s.cooled with flowLow := s.flowsLow } }
  let u := if decide (s.sh.coolFactor < 100) && !decide (s.cooled.coolFactor < 100) then u.unstand .shelf 7 else u
  if s.sh.flowLow && !s.flowsLow then u.unstand .shelf 8 else u

/-- The coolant's findings that have begun. -/
def State.coolFound (s : State) : List Found :=
  (if decide (s.cooled.coolFactor < 100) && !decide (s.sh.coolFactor < 100) then [(Subj.shelf, 2, 0, 7)] else []) ++
    (if s.flowsLow && !s.sh.flowLow then [(Subj.shelf, 1, 0, 8)] else [])

theorem exec_coolantUpdate (s : State) : exec .coolantUpdate s = .next (s.cooledOff.ladderAll s.coolFound) := rfl

theorem State.coolFound_low (s : State) : lowFindings s.coolFound := by
  intro f member
  unfold State.coolFound at member
  rcases List.mem_append.mp member with of_ | of_
  all_goals
    split at of_
    · cases List.mem_singleton.mp of_
      exact ⟨rfl, by decide⟩
    · exact absurd of_ List.not_mem_nil

theorem State.cooledOff_says (s : State) : ∃ a, s.cooledOff = { s with sh := { s.cooled with flowLow := s.flowsLow, findings := a } } := by
  unfold State.cooledOff
  dsimp only
  split
  · split
    · exact ⟨_, rfl⟩
    · exact ⟨_, rfl⟩
  · split
    · exact ⟨_, rfl⟩
    · exact ⟨_, rfl⟩

theorem exec_coolantUpdate_says (s : State) :
    Completes .coolantUpdate s (fun t => t.sh.coolHold = s.cooled.coolHold ∧ t.sh.coolFactor = s.cooled.coolFactor) := by
  refine ⟨_, exec_coolantUpdate s, ?_⟩
  obtain ⟨a, off⟩ := s.cooledOff_says
  obtain ⟨b, c, left⟩ := State.ladderAll_low s.coolFound_low s.cooledOff
  rw [left, off]
  exact ⟨rfl, rfl⟩

/-- The derating of a coolant sensor that answers. -/
theorem State.cooled_trained {c : Chan} (chan : s.coolChan 1 = some (.trained, c)) (enough : 100 ≤ s.sh.windows) :
    s.cooled.coolHold = false ∧ s.cooled.coolFactor = if s.sh.coolTarget c.avg100 ≤ s.sh.coolFactor then s.sh.coolTarget c.avg100
      else if 1 ≤ s.sh.coolTick then s.sh.coolFactor + 1 else s.sh.coolFactor := by
  unfold State.cooled
  rw [chan]
  dsimp only
  rw [if_neg (by omega)]
  by_cases hotter : s.sh.coolTarget c.avg100 ≤ s.sh.coolFactor
  · rw [if_pos hotter, if_pos hotter]
    exact ⟨rfl, rfl⟩
  rw [if_neg hotter, if_neg hotter]
  by_cases second : 1 ≤ s.sh.coolTick
  · rw [if_pos (by omega), if_pos second]
    exact ⟨rfl, rfl⟩
  · rw [if_neg (by omega), if_neg second]
    exact ⟨rfl, rfl⟩

theorem State.cooled_absent (chan : s.coolChan 1 = none) : s.cooled.coolHold = true ∧ s.cooled.coolFactor = s.sh.coolFactor := by
  unfold State.cooled
  rw [chan]
  exact ⟨rfl, rfl⟩

/-- A derating that begins, with no flow sensor, is one finding. -/
theorem State.coolFound_one {c : Chan} (chan : s.coolChan 1 = some (.trained, c)) (flow : s.coolChan 2 = none) (enough : 100 ≤ s.sh.windows)
    (full : s.sh.coolFactor = 100) (derates : s.sh.coolTarget c.avg100 < 100) : s.coolFound = [(Subj.shelf, 2, 0, 7)] := by
  have factor := (State.cooled_trained chan enough).2
  rw [full, if_pos (Nat.le_of_lt derates)] at factor
  have still : s.flowsLow = (s.sh.flowLow && bits s.sh.coolCfg.toNat 15 0 != 0) := by
    unfold State.flowsLow
    rw [flow]
  unfold State.coolFound
  rw [factor, full, still]
  simp [derates]
  intro a b
  simp [a]

theorem State.ladder_shelf_newest {s : State} {level cause code : Nat} (active : s.active = true) (low : level ≤ 2) :
    Newest s (s.ladder .shelf level cause code) 0x0401 level kShelf 0 (leBytes 1 level ++ leBytes 1 cause ++ leBytes 1 code) := by
  have mend : s.mend .shelf level = (.shelf, level) := by
    unfold State.mend
    exact if_neg (by omega)
  have idle (v : State) : v.actOn .shelf level cause = v := if_neg (by omega)
  have noted : Newest s (s.ladderRecord .shelf level cause code) 0x0401 level kShelf 0 (leBytes 1 level ++ leBytes 1 cause ++ leBytes 1 code) :=
    State.record_newest { s with sh := { s.sh with ladderSeen := max s.sh.ladderSeen level } } ..
  unfold State.ladder
  dsimp only
  rw [if_neg (by simp [active]), if_neg (by simp), mend]
  dsimp only
  rw [idle]
  split
  · exact noted
  · exact noted

/-! ### Imbalance and sense findings -/

/-- The two newest records of a ring, newest first. -/
theorem Recorder.last_two (e : Recorder) (a b : Rec) : ((e.push a).push b).ring.reverse.take 2 = [b, a] := by
  have first : ∃ l : List Rec, (e.push a).ring = l ++ [a] ∧ l.length + 1 ≤ 1024 := by
    have short := e.ring_push_length a
    refine ⟨e.ring.drop (e.ring.length + 1 - 1024), ?_, ?_⟩
    · rw [Recorder.ring_push, List.drop_append_of_le_length (by omega)]
    · rw [List.length_drop]
      omega
  obtain ⟨l, first, short⟩ := first
  rw [Recorder.ring_push, first, List.append_assoc, List.drop_append_of_le_length (by rw [List.length_append, List.length_singleton]; omega)]
  simp

/-- A finding of level 1 against a cell is recorded and stands. -/
theorem State.ladder_cell_low (active : s.active = true) {p cause code : Nat} (cell : (s.port p).isCell = true) :
    (s.ladder (.cell p) 1 cause code).ports = s.ports ∧ (s.ladder (.cell p) 1 cause code).ev =
      s.ev.push (s.mkRec 0x0401 1 kPort p (leBytes 1 1 ++ leBytes 1 cause ++ leBytes 1 code)) := by
  have noted : (s.ladderRecord (.cell p) 1 cause code).ports = s.ports ∧ (s.ladderRecord (.cell p) 1 cause code).ev =
      s.ev.push (s.mkRec 0x0401 1 kPort p (leBytes 1 1 ++ leBytes 1 cause ++ leBytes 1 code)) :=
    ⟨comp_bit (State.ladderRecord_touch ..).ports rfl,
      State.record_ev { s with sh := { s.sh with ladderSeen := max s.sh.ladderSeen 1 } } ..⟩
  unfold State.ladder
  dsimp only
  rw [if_neg (by simp [active]), if_neg (by simp [cell]), show s.mend (.cell p) 1 = (.cell p, 1) from rfl]
  dsimp only
  split
  · exact noted
  · exact noted

/-- A cell whose imbalance has lasted (R160). -/
def Port.flagged (P : Port) : Port := { P with imbOn := true, imbFlag := true, imbCount := 0, imbOk := 0 }

theorem exec_imbalance {p : Nat} (w : WellShaped s) (low : p < 80) (cell : (s.port p).isCell = true) (off : (s.port p).imbOn = false)
    (due : (s.group (s.port p).group).imbPersistEff ≤ (s.port p).imbCount) : Completes (.imbalance p) s (fun t =>
      (t.port p).imbOn = true ∧ (t.port p).imbFlag = true ∧ (t.port p).imbCount = 0 ∧
      (s.role = .active → (t.ev.ring.map (·.code)).reverse.take 2 = [0x0401, 0x0403]) ∧ (s.role ≠ .active → t.ev = s.ev)) := by
  let v := s.setPort p Port.flagged
  have port : v.port p = (s.port p).flagged := State.port_setPort_same (by rw [w.ports]; exact low) _
  have runs : exec (.imbalance p) s = if v.active then
      .next ((v.record 0x0403 1 kPort p (leBytes 4 (s.port p).imbDev)).ladder (.cell p) 1 0 18) else .next v :=
    if_pos (by simp [cell, off, due])
  by_cases active : s.role = .active
  · have on_ : v.active = true := by
      show (s.role == .active) = true
      rw [active]
      rfl
    let u := v.record 0x0403 1 kPort p (leBytes 4 (s.port p).imbDev)
    have same : u.port p = v.port p := (State.record_touch ..).port_eq rfl p
    obtain ⟨ports, ev⟩ := State.ladder_cell_low (s := u) (p := p) (cause := 0) (code := 18)
      (by rw [State.active, comp_bit (State.record_touch ..).role rfl]; exact on_)
      (by rw [same, port]; exact cell)
    refine ⟨u.ladder (.cell p) 1 0 18, runs.trans (if_pos on_), ?_⟩
    have after : (u.ladder (.cell p) 1 0 18).port p = (s.port p).flagged :=
      (congrArg (fun l => nth l p ({} : Port)) ports).trans (same.trans port)
    dsimp only
    rw [after]
    refine ⟨rfl, rfl, rfl, fun _ => ?_, fun standby => absurd active standby⟩
    rw [ev, State.record_ev, ← List.map_reverse, ← List.map_take, Recorder.last_two]
    rfl
  · have off_ : ¬ v.active = true := by
      show ¬ (s.role == .active) = true
      simpa using active
    refine ⟨v, runs.trans (if_neg off_), ?_⟩
    dsimp only
    rw [port]
    exact ⟨rfl, rfl, rfl, fun on_ => absurd on_ active, fun _ => rfl⟩

/-! ### Sense findings -/

/-- No port counts a deviation that did not. -/
structure DevCalm (s t : State) : Prop where
  calm : ∀ p, (s.port p).devCount = 0 → (t.port p).devCount = 0

theorem DevCalm.refl (s : State) : DevCalm s s := ⟨fun _ zero => zero⟩

theorem DevCalm.of_touch {s t : State} {F : Nat} (g : Touch F s t) (ports : F.testBit 5 = false) : DevCalm s t := ⟨fun p zero => by
  rw [g.port_eq ports]
  exact zero⟩

theorem DevCalm.setPort (s : State) (p : Nat) {f : Port → Port} (calm : ∀ P, P.devCount = 0 → (f P).devCount = 0) :
    DevCalm s (s.setPort p f) := ⟨fun q zero => by
  rw [State.port_setPort]
  split
  · exact calm _ zero
  · exact zero⟩

theorem DevCalm.trans {s t v : State} (first : DevCalm s t) (second : DevCalm t v) : DevCalm s v :=
  ⟨fun p zero => second.calm p (first.calm p zero)⟩

theorem DevCalm.cond {s t v : State} {c : Prop} [Decidable c] (yes : DevCalm s t) (no : DevCalm s v) : DevCalm s (if c then t else v) := by
  split <;> assumption

theorem DevCalm.foldl {α : Type} {f : State → α → State} (each : ∀ v a, DevCalm v (f v a)) (l : List α) (s : State) :
    DevCalm s (l.foldl f s) := by
  induction l generalizing s with
  | nil => exact .refl s
  | cons a l ih => exact (each s a).trans (ih _)

theorem State.endRestore_devCalm (s : State) (p : Nat) : DevCalm s (s.endRestore p) := by
  unfold State.endRestore
  refine .cond ?_ (.refl s)
  refine .trans (.setPort s p (f := fun P => { P with restore := none, retired := false }) fun _ zero => zero) ?_
  refine .trans ?_ (.of_touch (State.completeWhere_touch ..) rfl)
  refine .trans ?_ (.of_touch (State.clearPort_touch ..) rfl)
  exact ⟨fun _ zero => zero⟩

theorem State.quench_devCalm (s : State) (g cause : Nat) : DevCalm s (s.quench g cause) := by
  unfold State.quench
  dsimp only
  refine .cond (.refl s) ?_
  refine .trans ?_ (.of_touch (State.busCheck_touch _) rfl)
  refine .trans ?_ (.of_touch (State.burstExit_touch _) rfl)
  refine .trans ?_ (.foldl State.endRestore_devCalm _ _)
  refine .trans ?_ (.of_touch (State.completeWhere_touch ..) rfl)
  refine .trans ?_ (.of_touch (State.openGroup_touch _ g) rfl)
  refine .trans (.of_touch (s.setGroup_touch g (fun G => G.quenched cause)) rfl) ?_
  exact .foldl (fun v p => .setPort v p (f := fun P => { P with stopSeen := false }) fun _ zero => zero) _ _

theorem State.retire_devCalm (s : State) (p cause : Nat) : DevCalm s (s.retire p cause) := ⟨fun q zero => by
  have port : (s.retire p cause).port q = if p = q ∧ q < s.ports.length then (s.port q).retire cause else s.port q :=
    (congrArg (fun l => nth l q ({} : Port)) (s.retire_ports p cause)).trans (nth_upd _ _ _ _ _)
  rw [port]
  split
  · rfl
  · exact zero⟩

theorem State.actOn_devCalm (s : State) (x : Subj) (level cause : Nat) : DevCalm s (s.actOn x level cause) := by
  unfold State.actOn
  cases x with
  | cell p => exact .cond (s.retire_devCalm p cause) (.refl s)
  | group g => exact .cond (s.quench_devCalm g 2) (.refl s)
  | shelf => exact .cond (.trans (t := { s with sh := { s.sh with shelfQuench := true } }) ⟨fun _ zero => zero⟩
    (.foldl (fun v g => v.quench_devCalm g 2) _ _)) (.refl s)

theorem State.ladder_devCalm (s : State) (x : Subj) (level cause code : Nat) : DevCalm s (s.ladder x level cause code) := by
  unfold State.ladder
  dsimp only
  refine .cond (.cond (.of_touch (s.stand_touch x code level) rfl) (.refl s)) (.cond (.of_touch (s.ladderRecord_touch ..) rfl) ?_)
  refine .cond (.of_touch (s.ladderRecord_touch ..) rfl) (.trans ?_ (State.actOn_devCalm _ _ _ cause))
  exact .of_touch (s.acts_touch (s.mend x level).1 (s.mend x level).2 cause code) rfl

theorem exec_senseFinding {p : Nat} (w : WellShaped s) (low : p < 80) (cell : (s.port p).isCell = true) (in_ : (s.port p).out = false)
    (some_ : (s.port p).devCount ≠ 0) (active : s.role = .active) (due : (s.group (s.port p).group).sensePersist ≤ (s.port p).devCount) :
    Completes (.senseFinding p) s (fun t => (t.port p).devCount = 0 ∧
      (s.lastCell p = false → s.levelOn (.cell p) < 3 → (t.port p).retired = true ∧
        (t.port p).cause = if (s.port p).devOpen then 6 else 7)) := by
  let clear (P : Port) : Port := { P with devCount := 0 }
  let v := s.setPort p clear
  have on_ : s.active = true := by rw [State.active, active]; rfl
  have size : p < s.ports.length := by rw [w.ports]; exact low
  have port : v.port p = clear (s.port p) := State.port_setPort_same size _
  have field {α : Type} (φ : Port → α) (kept : ∀ P, φ (clear P) = φ P) (q : Nat) : φ (v.port q) = φ (s.port q) := by
    rw [State.port_setPort]
    split
    · exact kept _
    · rfl
  refine ⟨v.ladder (.cell p) 3 (if (s.port p).devOpen then 6 else 7) 13, if_pos (by simp [on_, cell, in_, due, some_]),
    (v.ladder_devCalm _ _ _ _).calm p (by rw [port]), fun more below => ?_⟩
  have more' : v.lastCell p = false := by
    have gone (q : Nat) : (v.port q).out = (s.port q).out := field Port.out (fun _ => rfl) q
    have type_ (q : Nat) : (v.port q).isCell = (s.port q).isCell := field Port.isCell (fun _ => rfl) q
    have group (q : Nat) : (v.port q).group = (s.port q).group := field Port.group (fun _ => rfl) q
    have left : v.activeMembers (s.port p).group = s.activeMembers (s.port p).group := by
      unfold State.activeMembers State.members
      simp only [gone, type_, group]
      rfl
    unfold State.lastCell
    dsimp only
    rw [field Port.retired (fun _ => rfl), group, left]
    exact more
  have mend : v.mend (.cell p) 3 = (.cell p, 3) := by
    unfold State.mend
    dsimp only
    rw [if_neg (by decide), if_neg (by decide), if_neg (by simp [more'])]
  have open_ : (s.port p).retired = false := by
    unfold Port.out at in_
    simp only [Bool.or_eq_false_iff] at in_
    exact in_.1.1.1
  rw [State.ladder_acts (s := v) on_ (fun q is => by cases is; rw [port]; exact cell) mend
    (by show (v.port p).retired = false; rw [port]; exact open_) below]
  let u := (v.ladderRecord (.cell p) 3 (if (s.port p).devOpen then 6 else 7) 13).stand (.cell p) 13 3
  have ports : u.ports = v.ports := comp_bit (v.acts_touch ..).ports rfl
  have retired : (u.retire p (if (s.port p).devOpen then 6 else 7)).port p = (u.port p).retire (if (s.port p).devOpen then 6 else 7) :=
    (congrArg (fun l => nth l p ({} : Port)) (u.retire_ports p _)).trans
      (nth_upd_same _ _ _ _ (by rw [ports]; exact lt_of_lt_of_eq size (upd_length _ _ _).symm))
  show ((u.retire p (if (s.port p).devOpen then 6 else 7)).port p).retired = true ∧ ((u.retire p _).port p).cause = _
  rw [retired]
  exact ⟨rfl, rfl⟩

/-! ### Voltage limits -/

/-- A group whose time over or under its limits starts again (R161). -/
def Group.tripped (ov uv : Bool) (G : Group) : Group := { G with ovNs := if ov then 0 else G.ovNs, uvNs := if uv then 0 else G.uvNs }

theorem exec_voltageLimitTrip {g : Nat} {ov uv : Bool} (w : WellShaped s) (low : g < 16)
    (above : ov = decide (0 < (s.group g).ovNs ∧ (s.group g).ovUs * 1000 ≤ (s.group g).ovNs))
    (beneath : uv = decide (0 < (s.group g).uvNs ∧ (s.group g).uvUs * 1000 ≤ (s.group g).uvNs)) (out : ov = true ∨ uv = true)
    (active : s.role = .active) : Completes (.voltageLimitTrip g) s (fun t =>
      ((s.group g).gtype = 1 → s.levelOn .shelf < 5 → t.sh.shelfQuench = true ∧ ∀ k, k < 16 → (s.group k).state ≠ .off →
        (t.group k).state = .quenching) ∧
      ((s.group g).gtype = 2 → ∀ k ∈ s.busGroups, (s.group k).state ≠ .off → (s.group k).state ≠ .quenching →
        s.levelOn (.group k) < 4 → (t.group k).state = .quenching ∧ (t.group k).lastQuench = 2) ∧
      ((s.group g).gtype = 3 → (s.group g).state ≠ .off → (s.group g).state ≠ .quenching → s.levelOn (.group g) < 4 →
        (t.group g).state = .quenching ∧ (t.group g).lastQuench = 2)) := by
  let v := s.setGroup g (Group.tripped ov uv)
  have on_ : s.active = true := by rw [State.active, active]; rfl
  have shape : WellShaped v := (s.setGroup_touch g _).shape w
  have state (k : Nat) : (v.group k).state = (s.group k).state :=
    s.group_setGroup_field (φ := Group.state) (f := Group.tripped ov uv) (fun _ => rfl) g k
  have type_ (k : Nat) : (v.group k).gtype = (s.group k).gtype :=
    s.group_setGroup_field (φ := Group.gtype) (f := Group.tripped ov uv) (fun _ => rfl) g k
  have groups : v.busGroups = s.busGroups := by
    unfold State.busGroups
    simp only [type_]
  have runs : exec (.voltageLimitTrip g) s = if (s.group g).gtype = 1 then .next (v.ladder .shelf 5 0 9)
      else if (s.group g).gtype = 2 then .next (v.busGroups.foldl (fun s g => s.ladder (.group g) 4 0 (if ov then 10 else 11)) v)
      else .next (v.ladder (.group g) 4 0 12) := by
    show execVoltageLimitTrip g s = _
    unfold execVoltageLimitTrip
    dsimp only
    rw [← Bool.decide_and, ← Bool.decide_and, ← above, ← beneath, if_neg]
    · rfl
    · rcases out with is | is
      · simp [on_, is]
      · simp [on_, is]
  by_cases one : (s.group g).gtype = 1
  · refine ⟨_, runs.trans (if_pos one), fun _ below => ?_, fun two => ?_, fun three => ?_⟩
    · rw [State.ladder_acts (s := v) on_ (fun p is => by cases is) (y := .shelf) (l := 5) rfl rfl below]
      have touch := v.acts_touch .shelf 5 0 9
      obtain ⟨quench, all⟩ := State.actOn_shelf (touch.shape shape) 0
      exact ⟨quench, fun k small on' => all k small (by rw [touch.group_eq rfl, state]; exact on')⟩
    · omega
    · omega
  by_cases two : (s.group g).gtype = 2
  · refine ⟨_, (runs.trans (if_neg one)).trans (if_pos two), fun is => absurd is one, fun _ k member on' runs' below => ?_, fun three => by omega⟩
    have small : k < 16 := List.mem_range.mp (List.mem_filter.mp member).1
    rw [groups]
    exact State.ladder_groups (List.nodup_range.filter _) shape on_ member small (by rw [state]; exact on') (by rw [state]; exact runs') below
  · refine ⟨_, (runs.trans (if_neg one)).trans (if_neg two), fun is => absurd is one, fun is => absurd is two, fun _ on' runs' below => ?_⟩
    exact State.ladder_group_same on_ (by rw [shape.groups]; exact low) (by rw [state]; exact on') (by rw [state]; exact runs') below

/-! ### The obligation -/

/-- Settles O25: the window's averages pass its detectors untouched, each cell's heat is taken once from them, and what the detectors
find goes to the ladder, whose actions are those of the levels in effect. -/
theorem detectorsComplete : Obligations.DetectorsComplete := by
  unfold Obligations.DetectorsComplete
  refine ⟨fun s live w active dwell hold is all some_ => ?enter, fun s stays => ?stay, fun s w => ?window, fun s p w low cell off => ⟨fun due => ?imb, fun early => ?imbNot⟩,
    fun s p w low cell in_ count => ⟨fun active due => ?sense, fun not_ => ?senseNot⟩,
    fun s g ov uv w low above beneath => ⟨fun not_ => ?limitNot, fun out active => ?limit⟩,
    fun s => ⟨fun c chan enough => ?cool, fun chan => ?noSensor, fun c chan flow enough full derates active => ?derates⟩⟩
  case enter => exact exec_burstEnter w active dwell hold is all some_
  case stay =>
    refine ⟨s, if_neg ?_, rfl⟩
    rcases stays with standby | short | held
    · simp [State.active, standby]
    · simp [Nat.not_le.mpr short]
    · simp [held]
  case window =>
    obtain ⟨⟨windows, out, enter, dwell, band⟩, high, under, group, tele, heat⟩ := State.msWindow_says w (s.found.1.ladderAll s.found.2).burstWindow rfl
    exact ⟨_, exec_msWindow s, windows, out, enter, dwell, band, high, under, fun g typed => Group.window_of (group g typed),
      fun p low => tele p (Nat.lt_of_lt_of_le low s.part.ports_le), fun p num i low cell live num_ rated i_ => by
        subst num_ i_
        exact heat p low cell live rated⟩
  case imb => exact exec_imbalance w (Nat.lt_of_lt_of_le low s.part.ports_le) cell off due
  case imbNot => exact ⟨s, if_neg (by simp [cell, off, early]), rfl⟩
  case sense => exact exec_senseFinding w (Nat.lt_of_lt_of_le low s.part.ports_le) cell in_ count active due
  case senseNot => 
    refine ⟨s, if_neg ?_, rfl⟩
    rcases not_ with standby | few
    · simp [State.active, standby]
    · simp [Nat.not_le.mpr few]
  case limitNot =>
    refine ⟨s, ?_, rfl⟩
    show execVoltageLimitTrip g s = _
    unfold execVoltageLimitTrip
    dsimp only
    rw [← Bool.decide_and, ← Bool.decide_and, ← above, ← beneath, if_pos]
    rcases not_ with standby | ⟨is, is'⟩
    · simp [State.active, standby]
    · simp [is, is']
  case limit => exact exec_voltageLimitTrip w low above beneath out active
  case cool =>
    obtain ⟨t, runs, hold, factor⟩ := exec_coolantUpdate_says s
    obtain ⟨hold', factor'⟩ := State.cooled_trained chan enough
    exact ⟨t, runs, hold.trans hold', factor.trans factor'⟩
  case noSensor =>
    obtain ⟨t, runs, hold, factor⟩ := exec_coolantUpdate_says s
    obtain ⟨hold', factor'⟩ := State.cooled_absent chan
    exact ⟨t, runs, hold.trans hold', factor.trans factor'⟩
  case derates =>
    obtain ⟨a, off⟩ := s.cooledOff_says
    have newest := State.ladder_shelf_newest (s := s.cooledOff) (level := 2) (cause := 0) (code := 7)
      (by rw [off, State.active, active]; rfl) (by decide)
    refine ⟨_, exec_coolantUpdate s, ?_⟩
    rw [State.coolFound_one chan flow enough full derates]
    rw [off] at newest ⊢
    exact newest

end

end Sys2Proof.Machine
end

section
/-!
R235, R254 to R256: PTP.
-/

namespace Sys2Proof.Machine

open Sys2Proof

section
variable {s : State}

/-- What a loss of lock leaves of the network's side: only the Syncs that counted and the time it was lost at (R255). -/
theorem State.loseLock_gn (s : State) : ∃ good lost, s.loseLock.gn = { s.gn with goodSync := good, lostAt := lost } := by
  unfold State.loseLock
  split
  · exact ⟨s.gn.goodSync, s.gn.lostAt, rfl⟩
  · dsimp only
    split
    · exact ⟨0, s.clk.now, comp_bit (State.suspendEpochs_touch _).gn rfl⟩
    · exact ⟨0, s.clk.now, rfl⟩

theorem State.loseLock_none (unlocked : s.clk.ptpState ≠ .lock) : s.loseLock = s :=
  if_pos (by simp [State.ptpLock, unlocked])

/-- What the servo steers is the timer alone (R255). -/
theorem State.steer_says (s : State) : ∃ ptp freq v, s.steer = { s with clk := { s.clk with ptp := ptp, ptpFreq := freq }, free := v } := 
  ⟨_, _, _, rfl⟩

/-- The Syncs in a row that are near, with one at this offset (R255). -/
def Gulene.near (g : Gulene) (off : Int) : Nat := if absI off ≤ 100 then g.goodSync + 1 else 0

/-- The Syncs in a row that are far off. -/
def Gulene.far (g : Gulene) (off : Int) : Nat := if 1000 < absI off then g.badSync + 1 else 0

/-- A Sync noted at an offset, and its delay asked for (R255). -/
def State.noteSync (s : State) (via : PtpTransport) (origin off : Int) : State :=
  (s.setGn fun g => { g with
    offset := satI 32 off, goodSync := min (s.gn.near off) 8, badSync := min (s.gn.far off) 2, syncT1 := origin, syncT2 := s.clk.ptp
    reqT3 := some s.clk.ptp }).emit (.ptp 1 via s.clk.ptp)

/-- The lock that a Sync takes away or gives. -/
def State.lockBy (s : State) (off : Int) (v : State) : State :=
  let u := if 2 ≤ s.gn.far off then v.loseLock else v
  if 8 ≤ s.gn.near off then { u with clk := { u.clk with ptpState := .lock, ptpHeld := true } } else u

theorem exec_ptpSync {h : PtpHead} {origin off : Int} (follows : s.gn.follows h.domain h.source h.logInterval = true)
    (is : off = s.clk.ptp - origin - s.gn.pathDelay) :
    exec (.ptpSync h origin) s = .next (s.lockBy off (s.noteSync h.via origin off)).steer := by
  subst is
  exact if_neg (by simp [follows])

theorem State.lockBy_gn (s : State) (off : Int) (v : State) : ∃ good lost, (s.lockBy off v).gn = { v.gn with goodSync := good, lostAt := lost } := by
  obtain ⟨good, lost, gn⟩ := v.loseLock_gn
  unfold State.lockBy
  dsimp only
  split
  · split
    · exact ⟨good, lost, gn⟩
    · exact ⟨v.gn.goodSync, v.gn.lostAt, rfl⟩
  · split
    · exact ⟨good, lost, gn⟩
    · exact ⟨v.gn.goodSync, v.gn.lostAt, rfl⟩

theorem State.lockBy_puts {off : Int} {v : State} {o : Output} (puts : Puts s v o) : Puts s (s.lockBy off v) o := by
  have lost : Puts s (if 2 ≤ s.gn.far off then v.loseLock else v) o := by
    split
    · exact Puts.later puts v.loseLock_touch
    · exact puts
  unfold State.lockBy
  dsimp only
  split
  · exact lost
  · exact lost

/-- When a Sync gives, keeps or takes lock (R255). -/
theorem State.lockBy_state {off : Int} {v : State} (same : v.clk.ptpState = s.clk.ptpState) :
    (s.clk.ptpState ≠ .lock → absI off ≤ 100 → 7 ≤ s.gn.goodSync → (s.lockBy off v).clk.ptpState = .lock) ∧
    (s.clk.ptpState ≠ .lock → s.gn.goodSync < 7 ∨ 100 < absI off → (s.lockBy off v).clk.ptpState = s.clk.ptpState) ∧
    (s.clk.ptpState = .lock → 1000 < absI off → 1 ≤ s.gn.badSync → (s.lockBy off v).clk.ptpState = .holdover) ∧
    (s.clk.ptpState = .lock → absI off ≤ 1000 ∨ s.gn.badSync = 0 → (s.lockBy off v).clk.ptpState = .lock) := by
  have gives (near : 8 ≤ s.gn.near off) : (s.lockBy off v).clk.ptpState = .lock := by
    unfold State.lockBy
    rw [if_pos near]
  have none_ (few : ¬ 8 ≤ s.gn.near off) : s.lockBy off v = if 2 ≤ s.gn.far off then v.loseLock else v := by
    unfold State.lockBy
    rw [if_neg few]
  refine ⟨fun _ small enough => gives ?_, fun free few => ?_, fun lock far enough => ?_, fun lock few => ?_⟩
  · unfold Gulene.near
    rw [if_pos small]
    omega
  · rw [none_, State.loseLock_none (by rw [same]; exact free), ite_self, same]
    unfold Gulene.near
    split
    · omega
    · omega
  · rw [none_, if_pos, (v.loseLock_clk).2.2 (same.trans lock)]
    · unfold Gulene.far
      rw [if_pos far]
      omega
    · unfold Gulene.near
      rw [if_neg (by omega)]
      omega
  · have near : ¬ 2 ≤ s.gn.far off := by
      unfold Gulene.far
      split
      · omega
      · omega
    by_cases eight : 8 ≤ s.gn.near off
    · exact gives eight
    · rw [none_ eight, if_neg near, same, lock]

/-- A lead whose lock is lost suspends its epochs and records it (R235). -/
theorem State.loseLock_suspends (lock : s.clk.ptpState = .lock) (timed : s.gv.timing = 1) (lead : s.isLead = true) :
    s.loseLock.gv.detSusp = true ∧ s.loseLock.ev.ring.getLast?.map (·.code) = some 0x0707 := by
  let v := { s with clk := { s.clk with ptpState := .holdover } }.setGn fun g => { g with goodSync := 0, lostAt := s.clk.now }
  have is : s.loseLock = v.suspendEpochs := by
    unfold State.loseLock
    rw [if_neg (by simp [State.ptpLock, lock])]
    exact if_pos ⟨timed, lead⟩
  rw [is]
  refine ⟨congrArg Governor.detSusp (comp_bit (State.record_touch ..).gv rfl), ?_⟩
  show (State.ev (State.record ..)).ring.getLast?.map _ = _
  rw [State.record_ev, Recorder.push_last]
  rfl

/-- A Sync of another domain, source or interval, or met by a transmitter, is not followed (R254). -/
theorem Gulene.follows_not {g : Gulene} {domain source : Nat} {interval : Int}
    (not_ : domain ≠ g.domain ∨ g.transmitter = true ∨ (∀ a, g.better = some a → a.identity ≠ source) ∨ interval < -7 ∨ 0 < interval) :
    g.follows domain source interval = false := by
  refine Bool.eq_false_iff.mpr fun follows => ?_
  unfold Gulene.follows at follows
  simp only [Bool.and_eq_true, beq_iff_eq, Bool.not_eq_true', decide_eq_true_eq] at follows
  obtain ⟨⟨⟨⟨domain_, idle⟩, source_⟩, low⟩, high⟩ := follows
  rcases not_ with other | transmits | other | short | long
  · exact other domain_
  · exact absurd transmits (by rw [idle]; decide)
  · cases best : g.better with
    | none => rw [best] at source_; cases source_
    | some a => rw [best] at source_; exact other a best (Option.some.inj source_)
  · omega
  · omega

/-! ### The obligation -/

/-- Settles O34: a Sync is noted and answered first and the lock follows from the counts it leaves; the servo then changes the timer
alone. -/
theorem ptpCompletes : Obligations.PtpCompletes := by
  unfold Obligations.PtpCompletes
  refine ⟨fun s source interval via a origin off idle better source_ low high is => ?sync, fun s domain source interval via origin not_ => ?ignored,
    fun s => ?timeout, fun s transmits => ⟨?send, ?ask⟩, fun s idle => ⟨?sendNot, ?askNot⟩, fun s received t3 asked => ?answer,
    fun s a domain none_ => ?announce, fun s a other => ?announceNot⟩
  case sync =>
    have follows : s.gn.follows s.gn.domain source interval = true := by
      simp [Gulene.follows, idle, better, source_, low, high]
    let v := s.noteSync via origin off
    obtain ⟨good, lost, gn⟩ := s.lockBy_gn off v
    obtain ⟨ptp, freq, f, steered⟩ := (s.lockBy off v).steer_says
    refine ⟨_, exec_ptpSync (h := ⟨s.gn.domain, source, interval, via⟩) follows is, ?_⟩
    have puts : Puts s v (.ptp 1 via s.clk.ptp) := ⟨[_], rfl, .head _⟩
    show _ ∧ _
    rw [steered]
    refine ⟨congrArg Gulene.offset gn, State.lockBy_puts puts, congrArg Gulene.reqT3 gn, congrArg Gulene.syncT1 gn, congrArg Gulene.syncT2 gn,
      State.lockBy_state rfl⟩
  case ignored =>
    exact ⟨s, if_pos (by rw [Gulene.follows_not not_]; rfl), rfl⟩
  case timeout =>
    obtain ⟨ptp, _, held⟩ := s.loseLock_clk
    obtain ⟨good, lost, gn⟩ := s.loseLock_gn
    refine ⟨_, rfl, rfl, rfl, ?_, ptp, ?_, fun lock timed lead => State.loseLock_suspends lock timed lead⟩
    · show (s.loseLock.gn.rackSource && true) = _
      rw [gn, Bool.and_true]
    · split
      next lock => exact held lock
      next free =>
        show s.loseLock.clk.ptpState = _
        rw [State.loseLock_none free]
  case send =>
    have runs : exec .ptpSyncSend s = .next (((if s.gn.announceCnt = 0 then s.emit (.announce s.gn.domain s.ownClock) else s).emit
        (.ptp 0 .ethernet (if s.gn.announceCnt = 0 then s.emit (.announce s.gn.domain s.ownClock) else s).clk.ptp)).setGn
          fun g => { g with announceCnt := (g.announceCnt + 1) % 32 }) := if_neg (by simp [transmits])
    by_cases turn : s.gn.announceCnt = 0
    · rw [if_pos turn] at runs
      exact ⟨_, runs, ⟨[_, _], rfl, .head _⟩, fun _ => ⟨[_, _], rfl, .tail _ (.head _)⟩, rfl⟩
    · rw [if_neg turn] at runs
      exact ⟨_, runs, ⟨[_], rfl, .head _⟩, fun now => absurd now turn, rfl⟩
  case ask => exact ⟨_, rfl, if_pos transmits⟩
  case sendNot => exact ⟨s, if_pos (by simp [idle]), rfl⟩
  case askNot => exact ⟨_, rfl, if_neg (by simp [idle])⟩
  case answer =>
    refine ⟨_, ?_, rfl⟩
    show execDelayResp received s = _
    unfold execDelayResp
    rw [asked]
    rfl
  case announce =>
    have runs : exec (.announce a) s = .next (s.setGn fun g =>
        { g with better := if !s.gn.rackSource || Announced.before (announcedKey a) s.ownClock then some a else none }.elect) := by
      show execAnnounce a s = _
      unfold execAnnounce
      rw [if_neg (not_not_intro domain), none_]
    refine ⟨_, runs, fun free => ?_, fun source wins => ?_, fun source loses => ?_⟩
    · simp [State.setGn, Gulene.elect, free]
    · simp [State.setGn, Gulene.elect, source, wins]
    · simp [State.setGn, Gulene.elect, source, loses]
  case announceNot => exact ⟨s, if_pos other, rfl⟩

end

end Sys2Proof.Machine
end

section
/-!
R141, R281, R284, R286, R287, R389: the takeover commands, the port check and the failed handover.
-/

namespace Sys2Proof.Machine

open Sys2Proof

section
variable {s : State}

/-- A takeover that ends answers the commands that wait for it (R287, R389). -/
theorem State.endTakeover_says (s : State) (status result : Nat) : (s.endTakeover status result).teth = { s.teth with hand := .none } ∧
    (s.endTakeover status result).role = s.role ∧
    ∀ f ∈ s.hq.inflight, f.wait = .takeover → Answered s (s.endTakeover status result) f.hdr status result := by
  let v : State := { s with teth := { s.teth with hand := .none } }
  refine ⟨comp_bit (State.completeWhere_touch ..).teth rfl, comp_bit (State.completeWhere_touch ..).role rfl, fun f member waits => ?_⟩
  exact State.completeWhere_answers v (· == Wait.takeover) status result f member (by simp [waits])

/-! ### Ports that have not switched -/

/-- A port that is not down is one of the shelf's. -/
theorem State.port_low (w : WellShaped s) {p : Nat} (up : (s.port p).state ≠ .down) : p < 80 := by
  refine Classical.byContradiction fun high => ?_
  refine up ?_
  unfold State.port nth
  rw [List.getD_eq_getElem?_getD, List.getElem?_eq_none (by rw [w.ports]; omega)]
  rfl

theorem State.raisePort_keeps (s : State) (p : Nat) : ∀ q ∈ s.ev.portCause, q ∈ (s.raisePort 5 p).ev.portCause := by
  intro q member
  unfold State.raisePort State.replaceRecord
  rw [if_pos rfl]
  split
  · exact member
  · exact List.mem_append_left _ member

theorem State.raises_says (l : List Nat) (s : State) : (∀ p ∈ l, p ∈ (l.foldl (fun v p => v.raisePort 5 p) s).ev.portCause) ∧
    (∀ p ∈ s.ev.portCause, p ∈ (l.foldl (fun v p => v.raisePort 5 p) s).ev.portCause) := by
  induction l generalizing s with
  | nil => exact ⟨fun _ member => absurd member List.not_mem_nil, fun _ member => member⟩
  | cons q l ih =>
    obtain ⟨raised, stay⟩ := ih (s.raisePort 5 q)
    refine ⟨fun p member => ?_, fun p member => stay p (s.raisePort_keeps q p member)⟩
    rcases List.mem_cons.mp member with is | later
    · exact stay p (is ▸ s.raisePort_raised q)
    · exact raised p later

theorem State.raisePort_inflight (s : State) (p : Nat) : (s.raisePort 5 p).hq.inflight = s.hq.inflight :=
  HostIf.inflight_of_sansEvents (s.raisePort_sansEvents 5 p)

theorem State.markFailed_inflight (s : State) (l : List Nat) : (s.markFailed l).hq.inflight = s.hq.inflight := by
  have raises (l : List Nat) (v : State) : (l.foldl (fun v p => v.raisePort 5 p) v).hq.inflight = v.hq.inflight := by
    induction l generalizing v with
    | nil => rfl
    | cons p l ih => exact (ih _).trans (v.raisePort_inflight p)
  exact (raises l _).trans (State.record_inflight ..)

theorem State.markFailed_says (s : State) (l : List Nat) : (s.markFailed l).teth = { s.teth with failed := l } ∧
    (s.markFailed l).role = s.role ∧ (∀ p, (s.markFailed l).port p = s.port p) ∧ ∀ p ∈ l, p ∈ (s.markFailed l).ev.portCause := by
  let v := (s.setTeth fun t => { t with failed := l }).record 0x0C02 2 kNone 0 (leBytes 1 s.teth.lastCause ++ leBytes 1 l.length)
  have marks : Touch 0x814000 v (s.markFailed l) := (Touch.refl _ _).foldl fun v p => v.raisePort_touch 5 p
  exact ⟨comp_bit marks.teth rfl, comp_bit marks.role rfl, marks.port_eq rfl, (State.raises_says l v).1⟩

theorem State.loseTrained_kept (s : State) (p : Nat) :
    LadderKept (s.setPort p fun P => { P with state := .lost, lostSeen := true }) (s.loseTrained p) := by
  unfold State.loseTrained
  exact .cond (State.ladder_ladderKept ..) (State.ladder_ladderKept ..)

/-- A port that is lost stays lost, whichever others are. -/
theorem State.loseTrained_lost {s : State} (p q : Nat) (lost : (s.port q).state = .lost) : ((s.loseTrained p).port q).state = .lost ∧
    ((s.port q).lostSeen = true → ((s.loseTrained p).port q).lostSeen = true) ∧ (s.loseTrained p).ev.portCause = s.ev.portCause := by
  have kept := s.loseTrained_kept p
  rw [kept.field (φ := Port.state) (fun _ => rfl) q, kept.field (φ := Port.lostSeen) (fun _ => rfl) q, kept.cause, State.port_setPort]
  split
  · exact ⟨rfl, fun _ => rfl, rfl⟩
  · exact ⟨lost, id, rfl⟩

/-- The loss of several ports loses each, and ends no cause for replacement. -/
theorem State.loseAll_says (l : List Nat) {s : State} (w : WellShaped s) :
    (l.foldl State.loseTrained s).ev.portCause = s.ev.portCause ∧
    (∀ p, (s.port p).state = .lost → ((l.foldl State.loseTrained s).port p).state = .lost ∧
      ((s.port p).lostSeen = true → ((l.foldl State.loseTrained s).port p).lostSeen = true)) ∧
    (∀ p ∈ l, p < 80 → ((l.foldl State.loseTrained s).port p).state = .lost ∧ ((l.foldl State.loseTrained s).port p).lostSeen = true) := by
  induction l generalizing s with
  | nil => exact ⟨rfl, fun _ lost => ⟨lost, id⟩, fun _ member => absurd member List.not_mem_nil⟩
  | cons q l ih =>
    obtain ⟨cause, stays, goes⟩ := ih ((s.loseTrained_touch q).shape w)
    have cause' : (s.loseTrained q).ev.portCause = s.ev.portCause := (s.loseTrained_kept q).cause
    refine ⟨cause.trans cause', fun p lost => ?_, fun p member low => ?_⟩
    · obtain ⟨lost', seen, _⟩ := s.loseTrained_lost q p lost
      obtain ⟨lost'', seen''⟩ := stays p lost'
      exact ⟨lost'', fun is => seen'' (seen is)⟩
    · rcases List.mem_cons.mp member with is | later
      · subst is
        obtain ⟨lost, seen, _⟩ := State.loseTrained_port w low
        obtain ⟨lost', seen'⟩ := stays p lost
        exact ⟨lost', seen' seen⟩
      · exact goes p later low

/-- Which ports have still to switch is found anew from each (R142, R284). -/
theorem exec_takeoverPortCheck (w : WellShaped s) (active : s.role = .active) (due : s.teth.checkDue = true)
    (unplanned : ∀ e, s.teth.hand ≠ .taken e) : Completes .takeoverPortCheck s (fun t =>
      t.teth.checkDue = false ∧ t.teth.failed = s.teth.checkPorts.filter s.behind ∧
      (∀ p ∈ s.teth.checkPorts.filter s.behind, (t.port p).state = .lost ∧ p ∈ t.ev.portCause ∧
        ((s.port p).state = .trained → (t.port p).lostSeen = true)) ∧
      (s.teth.checkPorts.filter s.behind = [] → Newest s t 0x0C02 2 kNone 0 (leBytes 1 s.teth.lastCause ++ leBytes 1 0))) := by
  let l := s.teth.checkPorts.filter s.behind
  let u := s.setTeth fun t => { t with checkDue := false }
  let v := u.markFailed l
  let lost := l.filter fun p => (s.port p).state == .trained
  have runs : exec .takeoverPortCheck s = .next (lost.foldl State.loseTrained v) := by
    show execTakeoverPortCheck s = _
    unfold execTakeoverPortCheck
    rw [if_neg]
    split
    next e is => exact absurd is (unplanned e)
    · simp [State.active, active, due]
  obtain ⟨teth, role, port, raised⟩ := u.markFailed_says l
  have shape : WellShaped v := (u.markFailed_touch l).shape ((s.setTeth_touch _).shape w)
  obtain ⟨cause, stays, goes⟩ := State.loseAll_says lost shape
  have loses : Touch 0x81c0f0 v (lost.foldl State.loseTrained v) := (Touch.refl _ _).foldl fun v p => v.loseTrained_touch p
  have teth' := comp_bit loses.teth rfl
  refine ⟨_, runs, ?_, ?_, fun p member => ?_, fun none_ => ?_⟩
  · rw [teth', teth]
    rfl
  · rw [teth', teth]
  · have of_ := (List.mem_filter.mp member).2
    have is : (s.port p).state = .trained ∨ (s.port p).state = .lost := by
      unfold State.behind at of_
      simp only [Bool.and_eq_true, Bool.or_eq_true, beq_iff_eq, decide_eq_true_eq] at of_
      exact of_.1.1.imp_right And.left
    rcases is with trained | gone
    · obtain ⟨lost', seen⟩ := goes p (List.mem_filter.mpr ⟨member, by simp [trained]⟩) (State.port_low w (by rw [trained]; decide))
      exact ⟨lost', by rw [cause]; exact raised p member, fun _ => seen⟩
    · exact ⟨(stays p (by rw [port]; exact gone)).1, by rw [cause]; exact raised p member, fun trained => by rw [gone] at trained; cases trained⟩
  · have idle : lost = [] := by
      show l.filter _ = []
      rw [show l = [] from none_]
      rfl
    have is : v = (u.setTeth fun t => { t with failed := [] }).record 0x0C02 2 kNone 0 (leBytes 1 s.teth.lastCause ++ leBytes 1 0) := by
      show u.markFailed l = _
      rw [show l = [] from none_]
      rfl
    rw [idle, List.foldl_nil, is]
    exact State.record_newest (u.setTeth fun t => { t with failed := [] }) ..

/-- A handover that a port does not join is taken back with the epoch after next (R287). -/
theorem exec_handoverFail {e : Nat} {l : List Nat} (active : s.role = .active) (offered : s.teth.hand = .offered e)
    (is : l = s.trainedPorts.filter fun p => (s.port p).epochObeyed != nextEpoch e) (some_ : l ≠ []) :
    Completes .handoverFail s (fun t => t.role = .active ∧ t.teth.epoch = nextEpoch (nextEpoch e) ∧ t.teth.failed = l ∧
      t.teth.lastCause = 4 ∧ t.teth.hand = .none ∧
      ∀ f ∈ s.hq.inflight, f.wait = .takeover → Answered s t f.hdr stDenied l.length) := by
  let u := (s.takeEpoch (nextEpoch (nextEpoch e))).setTeth fun t => { t with lastCause := 4 }
  have runs : exec .handoverFail s = .next ((u.markFailed l).endTakeover stDenied l.length) := by
    show execHandoverFail s = _
    unfold execHandoverFail
    rw [offered]
    dsimp only
    rw [if_neg (by simp [State.active, active]), ← is, if_neg (by simpa using some_)]
  obtain ⟨teth, role, -, -⟩ := u.markFailed_says l
  obtain ⟨teth', role', answers⟩ := (u.markFailed l).endTakeover_says stDenied l.length
  refine ⟨_, runs, (role'.trans role).trans active, ?_, ?_, ?_, ?_, fun f member waits => ?_⟩
  · rw [teth', teth]
    rfl
  · rw [teth', teth]
  · rw [teth', teth]
    rfl
  · rw [teth']
  · have still : (u.markFailed l).hq.inflight = s.hq.inflight := u.markFailed_inflight l
    refine Answered.since (answers f (by rw [still]; exact member) waits) role ?_
    obtain ⟨k, out, _⟩ := (u.markFailed_touch l).host
    exact ⟨k, out⟩

/-! ### The obligation -/

theorem State.holdChecks_kept (l : List Nat) (s : State) : (∀ p, ((l.foldl State.holdCheck s).port p).state = (s.port p).state) ∧
    (l.foldl State.holdCheck s).hq.inflight = s.hq.inflight := by
  have one (s : State) (p : Nat) : (∀ q, ((s.holdCheck p).port q).state = (s.port q).state) ∧ (s.holdCheck p).hq.inflight = s.hq.inflight := by
    let short := s.teth.trained && decide ((s.port p).holdUs < 20)
    let v := s.setPort p fun P => { P with holdShort := short }
    have state (q : Nat) : (v.port q).state = (s.port q).state := by
      rw [State.port_setPort]
      split
      · rfl
      · rfl
    unfold State.holdCheck
    dsimp only
    split
    · exact ⟨fun q => (congrArg Port.state ((State.record_touch v ..).port_eq rfl q)).trans (state q), State.record_inflight v ..⟩
    · exact ⟨state, rfl⟩
  induction l generalizing s with
  | nil => exact ⟨fun _ => rfl, rfl⟩
  | cons p l ih => exact ⟨fun q => ((ih _).1 q).trans ((one s p).1 q), (ih _).2.trans (one s p).2⟩

/-- A takeover leaves the ports TRAINED that were, and the commands that wait (R281). -/
theorem State.takeover_kept (s : State) (cause : Nat) : (s.takeover cause).trainedPorts = s.trainedPorts ∧
    (s.takeover cause).hq.inflight = s.hq.inflight ∧ (s.owned cause).teth.checkPorts = s.trainedPorts := by
  have woken (p : Nat) : ((s.owned cause).port p).state = (s.port p).state := State.wake_field Port.state (fun _ => rfl) s p
  obtain ⟨state, waits⟩ := State.holdChecks_kept s.trainedPorts (s.owned cause)
  rw [s.takeover_eq]
  exact ⟨State.trainedPorts_map ((Touch.refl 0x814020 (s.owned cause)).foldl fun v p => v.holdCheck_touch p).part
    fun p => (state p).trans (woken p), waits, State.trainedPorts_map rfl fun p => State.wake_field Port.state (fun _ => rfl) s p⟩

/-- A forced takeover, at the end of what it does at once. -/
def State.force (s : State) : State :=
  if s.trainedPorts.isEmpty then s.endTakeover stOk 0 else s.setTeth fun t => { t with hand := .forced s.trainedPorts }

theorem State.force_says (s : State) : ∃ x, s.force.teth = { s.teth with hand := x } ∧ s.force.role = s.role ∧ s.force.le = s.le ∧
    ∀ p, s.force.port p = s.port p := by
  unfold State.force
  split
  · have touch := s.endTakeover_touch stOk 0
    obtain ⟨teth, role, _⟩ := s.endTakeover_says stOk 0
    exact ⟨.none, teth, role, comp_bit touch.le rfl, touch.port_eq rfl⟩
  · exact ⟨_, rfl, rfl, rfl, fun _ => rfl⟩

theorem exec_takeoverForce {h : CmdHdr} (a : AcceptedRun s h) (idle : s.handing = false) (standby : s.role = .standby)
    (trained : s.teth.trained = true) : Completes (.takeoverForce h) s (fun t =>
      t.role = .active ∧ t.teth.epoch = s.chooseEpoch ∧ t.teth.bkEpoch = s.chooseEpoch ∧ t.teth.lastCause = 3 ∧
      t.teth.takeovers = satInc 8 s.teth.takeovers ∧ t.teth.armed = false ∧ t.teth.checkPorts = s.trainedPorts ∧
      t.le = { s.le with slots := s.le.slots.map Slot.markTakeover } ∧
      (WellShaped s → ∀ p ∈ s.trainedPorts, (t.port p).holdShort = decide ((s.port p).holdUs < 20)) ∧
      (s.trainedPorts ≠ [] → t.teth.hand = .forced s.trainedPorts ∧ Waits t h .takeover) ∧
      (s.trainedPorts = [] → t.teth.hand = .none ∧ Puts s t (.completion h.tag stOk 0 h.queue h.sqIndex 0))) := by
  let u := s.await h 0x0B03 .takeover
  let v := u.takeover 3
  obtain ⟨role, teth, le, short, _⟩ := u.takeover_says 3
  obtain ⟨ports, flights, checks⟩ := u.takeover_kept 3
  obtain ⟨x, teth', role', le', port'⟩ := v.force_says
  have same : v.trainedPorts = s.trainedPorts := ports
  obtain ⟨f, waits, hdr, wait⟩ := Waits.await s h 0x0B03 .takeover
  have left : f ∈ v.hq.inflight := flights ▸ waits
  refine a.completes (act := fun s => ((s.await h 0x0B03 .takeover).takeover 3).force) rfl rfl rfl
    (by simp [param, need, State.active, standby]) (by simp [need, idle, standby, trained]) ?_
  have fields : v.force.teth = { (u.owned 3).teth with hand := x } := by rw [teth', ← teth]
  refine ⟨role'.trans role, congrArg Tether.epoch fields, congrArg Tether.bkEpoch fields, congrArg Tether.lastCause fields,
    congrArg Tether.takeovers fields, congrArg Tether.armed fields, (congrArg Tether.checkPorts fields).trans checks, le'.trans le,
    fun w p member => ?_, fun some_ => ?_, fun none_ => ?_⟩
  · have held := short ((s.await_touch h 0x0B03 .takeover).shape w) p member
    show (v.force.port p).holdShort = _
    rw [port', held]
    show (s.teth.trained && _) = _
    rw [trained]
    rfl
  · have is : v.force = v.setTeth fun t => { t with hand := .forced v.trainedPorts } := if_neg (by rw [same]; simpa using some_)
    show v.force.teth.hand = _ ∧ Waits v.force h .takeover
    rw [is]
    exact ⟨by rw [← same]; rfl, f, left, hdr, wait⟩
  · have is : v.force = v.endTakeover stOk 0 := if_pos (by rw [same, none_]; rfl)
    obtain ⟨ends, _, answers⟩ := v.endTakeover_says stOk 0
    have answer := answers f left wait
    unfold Answered State.standbyFlag at answer
    rw [show v.role = .active from role, hdr] at answer
    show v.force.teth.hand = _ ∧ Puts s v.force _
    rw [is]
    exact ⟨by rw [ends], Puts.before (s.await_touch h 0x0B03 .takeover) (Puts.before (u.takeover_touch 3) answer)⟩

/-- Settles O20: a takeover that is asked for waits with its record of what is due; a forced one is the takeover of a lost partner with
cause 3, and waits for the ports TRAINED then; each end answers those that wait. -/
theorem takeoversComplete : Obligations.TakeoversComplete := by
  unfold Obligations.TakeoversComplete
  refine ⟨fun h s a idle => ⟨fun can => ?ask, fun cannot => ?denied⟩, fun h s a busy => ?busy, fun h s a idle standby trained => ?force,
    fun h s a active => ?forceActive, fun s some_ => ?timeout, fun s none_ => ?timeoutNot,
    fun s l w active due unplanned is => ?check, fun s e l active offered is some_ => ?fail⟩
  case ask =>
    refine a.completes rfl rfl rfl rfl (by simp [need, idle, can]) ⟨?_, Waits.await ..⟩
    simp [State.await, State.setTeth, State.active]
  case denied =>
    refine ⟨_, rfl, ?_⟩
    rw [State.start_stateRefused a _ (by simp) rfl rfl (st := stDenied) (r := 0) (by simp [need, idle, cannot])]
    exact ⟨comp_bit (State.complete_touch ..).teth rfl, State.complete_answers ..⟩
  case busy =>
    refine ⟨_, rfl, ?_⟩
    rw [State.start_stateRefused a _ (by simp) rfl rfl (st := stBusy) (r := 0) (by simp [need, busy])]
    exact ⟨comp_bit (State.complete_touch ..).teth rfl, State.complete_answers ..⟩
  case force => exact exec_takeoverForce a idle standby trained
  case forceActive =>
    refine ⟨_, rfl, ?_⟩
    rw [State.start_fieldRefused a.toAccepted _ (by simp) rfl (st := stBadParam) (r := 8) (by simp [param, need, State.active, active])]
    exact ⟨comp_bit (State.complete_touch ..).teth rfl, State.complete_answers ..⟩
  case timeout =>
    obtain ⟨teth, _, answers⟩ := s.endTakeover_says stTimeout 0
    refine ⟨_, ?_, teth, answers⟩
    show execTakeoverTimeout s = _
    unfold execTakeoverTimeout
    split
    next is => exact absurd is some_
    · rfl
  case timeoutNot =>
    refine ⟨s, ?_, rfl⟩
    show execTakeoverTimeout s = _
    unfold execTakeoverTimeout
    rw [none_]
  case check =>
    subst is
    exact exec_takeoverPortCheck w active due unplanned
  case fail => exact exec_handoverFail active offered is some_

end

end Sys2Proof.Machine
end

section
/-!
R224, R231, R260, R263 to R267: receipt of the messages of Gulene, and the drain of the receive queue.
-/

namespace Sys2Proof.Machine

open Sys2Proof

/-! ### What the governor leaves of the receive queue -/

/-- The receive queue and the count of what was received are kept. -/
structure InQueue (s t : State) : Prop where
  queue : t.gn.queue = s.gn.queue
  count : t.gn.rxOk = s.gn.rxOk

section
variable {s t v : State}

theorem InQueue.refl (s : State) : InQueue s s := ⟨rfl, rfl⟩

theorem InQueue.trans (first : InQueue s t) (second : InQueue t v) : InQueue s v :=
  ⟨second.queue.trans first.queue, second.count.trans first.count⟩

theorem InQueue.cond {c : Prop} [Decidable c] (yes : InQueue s t) (no : InQueue s v) : InQueue s (if c then t else v) := by
  split <;> assumption

theorem InQueue.foldl {α : Type} {f : State → α → State} (each : ∀ v a, InQueue v (f v a)) (l : List α) (s : State) :
    InQueue s (l.foldl f s) := foldl_kept .refl (fun _ _ _ => .trans) each l s

theorem InQueue.of_touch {F : Nat} (g : Touch F s t) (gn : F.testBit 10 = false) : InQueue s t := by
  have same := comp_bit g.gn gn
  exact ⟨by rw [same], by rw [same]⟩

theorem Talks.inQueue (talks : Talks s t) : InQueue s t :=
  ⟨talks.queue, show t.gn.sansSent.rxOk = s.gn.sansSent.rxOk from congrArg Gulene.rxOk talks.net⟩

theorem InQueue.setGv (s : State) (f : Governor → Governor) : InQueue s (s.setGv f) := ⟨rfl, rfl⟩

end

section
variable (s : State)

theorem State.issueAll_inQueue (force : Bool) (l : List (Nat × Grant)) : InQueue s (s.issueAll force l) := by
  refine .foldl (fun v x => ?_) l s
  unfold State.issueGrant
  split
  · refine .cond (.refl v) (.trans ?_ (.setGv _ _))
    exact (Talks.gnSend ..).inQueue
  · exact .refl v

theorem State.govern_inQueue (force : Bool) : InQueue s (s.govern force) := by
  unfold State.govern
  exact .trans (.of_touch (s.computeGrants_touch s.rackViews) rfl) (State.issueAll_inQueue ..)

theorem State.reshare_inQueue : InQueue s s.reshare := by
  unfold State.reshare State.shareOut
  refine .cond ?_ (.refl s)
  exact .trans (.trans (.setGv _ _) (Talks.rackSend ..).inQueue) ⟨rfl, rfl⟩

theorem State.sendElect_inQueue : InQueue s s.sendElect := .trans (.setGv _ _) (Talks.rackSend ..).inQueue

theorem State.follow_inQueue : InQueue s s.follow := .of_touch s.follow_touch rfl

theorem State.electRules_inQueue (tick : Bool) : InQueue s (s.electRules tick) := by
  unfold State.electRules
  dsimp only
  have yields : InQueue s (if s.gv.role = 2 then
      if !s.eligible then s.yieldLead true
      else if s.gv.dupMs ≠ 0 ∨ ((s.gv.peers.map (·.2)).filter (·.lead)).any (fun x => x.epoch == s.gv.leadEpoch && decide (x.shelf < s.gv.shelf))
        then s.yieldLead false else s
    else s) := .cond (.cond (Talks.yieldLead ..).inQueue (.cond (Talks.yieldLead ..).inQueue (.refl s))) (.refl s)
  refine .trans yields ?_
  generalize (if s.gv.role = 2 then _ else s) = v
  refine .cond (.refl v) (.trans v.follow_inQueue ?_)
  refine .cond (.setGv _ _) (.cond (.refl _) (.cond (State.sendElect_inQueue _) (.cond (State.sendElect_inQueue _) (.setGv _ _))))

theorem State.elect_inQueue (tick : Bool) : InQueue s (s.elect tick) := by
  unfold State.elect
  exact .cond (.refl s) (.cond (s.electRules_inQueue tick) (.trans (Talks.yieldLead ..).inQueue (.setGv _ _)))

theorem State.duplicate_inQueue : InQueue s s.duplicate := .trans (.setGv _ _) (State.elect_inQueue _ _)

theorem State.endIsolation_inQueue : InQueue s s.endIsolation := by
  unfold State.endIsolation
  exact .cond (.trans (t := s.setGn fun g => { g with isolated := false }) ⟨rfl, rfl⟩ (.of_touch (State.record_touch ..) rfl)) (.refl s)

variable (q : GnIn)

theorem State.takeLantern_inQueue : InQueue s (s.takeLantern q) := by
  unfold State.takeLantern
  dsimp only
  refine .cond (.cond s.duplicate_inQueue (.refl s)) (.trans ?_ (.of_touch (State.peerFrame_touch ..) rfl))
  exact .cond (.trans (.trans s.endIsolation_inQueue (.setGv _ _)) (State.elect_inQueue _ _)) (.refl s)

theorem State.takeElect_inQueue : InQueue s (s.takeElect q) := by
  unfold State.takeElect
  dsimp only
  refine .trans (.setGv s _) (.cond (.cond (State.duplicate_inQueue _) (.refl _)) ?_)
  exact .trans (.cond (.setGv _ _) (.refl _)) (.cond (Talks.yieldLead ..).inQueue (.refl _))

theorem State.takeMsg_inQueue : InQueue s (s.takeMsg q).1 := by
  unfold State.takeMsg
  split
  · exact .cond (.trans (s.takeLantern_inQueue q) (.of_touch (State.epochInput_touch ..) rfl)) (s.takeLantern_inQueue q)
  split
  · exact s.takeElect_inQueue q
  split
  · exact .of_touch (s.takeShare_touch q) rfl
  split
  · exact .refl s
  split
  · exact .of_touch (s.takeBudget_touch q) rfl
  split
  · exact .of_touch (s.epochInput_touch q) rfl
  split
  · exact .of_touch (s.takeWick_touch q) rfl
  split
  · exact .of_touch (s.takeReport_touch q) rfl
  · exact .of_touch (s.takeBudget_touch q) rfl

theorem State.drain_inQueue : s.drain.1.gn.queue = [] ∧ s.drain.1.gn.rxOk = s.gn.rxOk := by
  have one (l : List GnIn) (r : State × Bool) : InQueue r.1 (l.foldl (fun r q => let x := r.1.takeMsg q; (x.1, r.2 || x.2)) r).1 := by
    induction l generalizing r with
    | nil => exact .refl _
    | cons q l ih => exact (r.1.takeMsg_inQueue q).trans (ih ((r.1.takeMsg q).1, r.2 || (r.1.takeMsg q).2))
  obtain ⟨queue, count⟩ := one s.gn.queue (s.setGn (fun g => { g with queue := [] }), false)
  exact ⟨queue, count⟩

end

/-! ### Receipt -/

section
variable {s : State} {m : GnMsg} {typ : Nat}

theorem takeTokens_kept (l : List (BucketKey × Nat × Nat)) (g : Gulene) :
    ∃ b, l.foldl (fun g b => g.takeToken b.1 b.2.2) g = { g with buckets := b } := by
  induction l generalizing g with
  | nil => exact ⟨g.buckets, rfl⟩
  | cons k l ih =>
    obtain ⟨b, is⟩ := ih (g.takeToken k.1 k.2.2)
    exact ⟨b, is⟩

/-- A message carries the tag of a key that is held (check 4). -/
def State.tagged (s : State) (typ : Nat) (m : GnMsg) : Bool :=
  match s.keyFor typ m with
  | some k => m.tag == msgTag k.key typ m
  | none => false

/-- The state a message that passes every check leaves. -/
def State.takenIn (s : State) (typ : Nat) (m : GnMsg) : State := s.setGn fun g =>
  let g := (s.bucketsOf typ m).foldl (fun g b => g.takeToken b.1 b.2.2) g
  let r := (g.replay.find? (fun r => r.is m)).getD { rack := m.rack, sender := m.sender, hi := (m.seq + 2 ^ 32 - 1) % 2 ^ 32, below := [] }
  let r := if g.replay.any (fun r => r.is m) then r.take m.seq else { r with hi := m.seq }
  { g with
    replay := r :: g.replay.filter (fun r => !r.is m), rxOk := (g.rxOk + 1) % 2 ^ 32
    wickNow := if typ = 1 then g.wickNow + 1 else g.wickNow }

theorem State.gnCheck_eq (s : State) (typ : Nat) (m : GnMsg) : s.gnCheck typ m =
    if !s.rc.on 3 then (s, false)
    else if !senderOk typ m.sender || !bodyFits typ m.sender m.body then (s.setGn fun g => { g with malformed := satInc 16 g.malformed }, false)
    else if s.rackId = 0 ∨ ¬ (m.rack = s.rackId ∨ (typ = 4 ∧ m.rack / 2 ^ 16 = s.rackId / 2 ^ 16)) then (s, false)
    else if !s.tagged typ m then (s.setGn fun g => { g with authFail := satInc 16 g.authFail }, false)
    else if !s.msgFresh m then (s.setGn fun g => { g with replayCnt := satInc 16 g.replayCnt }, false)
    else if (s.bucketsOf typ m).any (fun b => decide (s.gn.tokens b.1 b.2.2 < 1000)) then (s.rateDrop m.sender, false)
    else (s.takenIn typ m, true) := rfl

theorem State.gnCheck_admits (passes : (s.gnCheck typ m).2 = true) : (s.gnCheck typ m).1 = s.takenIn typ m := by
  rw [State.gnCheck_eq] at passes ⊢
  by_cases off : (!s.rc.on 3) = true
  · rw [if_pos off] at passes
    cases passes
  rw [if_neg off] at passes ⊢
  by_cases unfit : (!senderOk typ m.sender || !bodyFits typ m.sender m.body) = true
  · rw [if_pos unfit] at passes
    cases passes
  rw [if_neg unfit] at passes ⊢
  by_cases rack : s.rackId = 0 ∨ ¬ (m.rack = s.rackId ∨ (typ = 4 ∧ m.rack / 2 ^ 16 = s.rackId / 2 ^ 16))
  · rw [if_pos rack] at passes
    cases passes
  rw [if_neg rack] at passes ⊢
  by_cases tag : (!s.tagged typ m) = true
  · rw [if_pos tag] at passes
    cases passes
  rw [if_neg tag] at passes ⊢
  by_cases old : (!s.msgFresh m) = true
  · rw [if_pos old] at passes
    cases passes
  rw [if_neg old] at passes ⊢
  by_cases rate : (s.bucketsOf typ m).any (fun b => decide (s.gn.tokens b.1 b.2.2 < 1000)) = true
  · rw [if_pos rate] at passes
    cases passes
  rw [if_neg rate]

/-- A message that passes the checks is counted, and leaves its tokens and its SEQ noted (R260, R261, R266). -/
theorem State.gnCheck_passes (passes : (s.gnCheck typ m).2 = true) : ∃ a b c, (s.gnCheck typ m).1 = { s with
    gn := { s.gn with buckets := a, replay := b, wickNow := c, rxOk := (s.gn.rxOk + 1) % 2 ^ 32 } } := by
  obtain ⟨tokens, is⟩ := takeTokens_kept (s.bucketsOf typ m) s.gn
  rw [State.gnCheck_admits passes]
  unfold State.takenIn State.setGn
  dsimp only
  rw [is]
  exact ⟨_, _, _, rfl⟩

/-- A message that passes joins the queue, or is dropped from a full one (R267). -/
theorem State.gnReceive_passes (passes : (s.gnCheck typ m).2 = true) :
    (s.gn.queue.length < 4096 → (s.gnReceive typ m).gn.queue = s.gn.queue ++ [{ typ := typ, msg := m, at_ := s.clk.now, ptpAt := s.clk.ptp }] ∧
      (s.gnReceive typ m).gn.rxOk = (s.gn.rxOk + 1) % 2 ^ 32 ∧ (s.gnReceive typ m).gv = s.gv ∧ (s.gnReceive typ m).pl = s.pl ∧
      (s.gnReceive typ m).pf = s.pf) ∧
    (s.gn.queue.length = 4096 → (s.gnReceive typ m).gn.queue = s.gn.queue ∧ (s.gnReceive typ m).gn.rateCnt = satInc 16 s.gn.rateCnt ∧
      (s.gnReceive typ m).gv = s.gv) := by
  obtain ⟨a, b, c, is⟩ := State.gnCheck_passes passes
  have takes : s.gnReceive typ m = State.gnQueue { s with
      gn := { s.gn with buckets := a, replay := b, wickNow := c, rxOk := (s.gn.rxOk + 1) % 2 ^ 32 } } typ m := by
    unfold State.gnReceive
    dsimp only
    rw [if_pos passes, is]
  rw [takes]
  generalize h : ({ s with gn := { s.gn with buckets := a, replay := b, wickNow := c, rxOk := (s.gn.rxOk + 1) % 2 ^ 32 } } : State) = v
  refine ⟨fun room => ?_, fun full => ?_⟩
  · unfold State.gnQueue
    rw [if_neg (by rw [← h]; show ¬ s.gn.queue.length ≥ 4096; omega)]
    subst h
    exact ⟨rfl, rfl, rfl, rfl, rfl⟩
  · have drops : (v.gnQueue typ m).gn.queue = v.gn.queue ∧ (v.gnQueue typ m).gn.rateCnt = satInc 16 v.gn.rateCnt := by
      have drop (w : State) (kind sender count : Nat) : (w.dropRecord kind sender count).gn = w.gn :=
        comp_bit (w.dropRecord_touch kind sender count).gn rfl
      unfold State.gnQueue
      rw [if_pos (by rw [← h]; show s.gn.queue.length ≥ 4096; omega)]
      dsimp only
      split
      all_goals
        split
        · exact ⟨rfl, rfl⟩
        · rw [drop]
          exact ⟨rfl, rfl⟩
    obtain ⟨queue, count⟩ := drops
    have gv : (v.gnQueue typ m).gv = v.gv := comp_bit (v.gnQueue_touch typ m).gv rfl
    subst h
    exact ⟨queue, count, gv⟩

/-- A message that passes no check is not received. -/
theorem State.gnReceive_fails {v : State} (is : s.gnCheck typ m = (v, false)) : s.gnReceive typ m = v := by
  unfold State.gnReceive
  rw [is]
  rfl

theorem State.gnReceive_off (off : s.rc.on 3 = false) : s.gnReceive typ m = s :=
  State.gnReceive_fails (by rw [State.gnCheck_eq, if_pos (by rw [off]; rfl)])

theorem State.gnReceive_malformed (on_ : s.rc.on 3 = true) (unfit : senderOk typ m.sender = false ∨ bodyFits typ m.sender m.body = false) :
    s.gnReceive typ m = { s with gn := { s.gn with malformed := satInc 16 s.gn.malformed } } :=
  State.gnReceive_fails (by
    rw [State.gnCheck_eq, if_neg (by rw [on_]; decide), if_pos]
    · rfl
    · rcases unfit with is | is
      · rw [is]; rfl
      · rw [is]; simp)

section
variable (on_ : s.rc.on 3 = true) (sender : senderOk typ m.sender = true) (fits : bodyFits typ m.sender m.body = true) (given : s.rackId ≠ 0)
  (rack : m.rack = s.rackId)
include on_ sender fits given rack

/-- A message of this rack that fits is left to its tag. -/
theorem State.gnCheck_fits : s.gnCheck typ m =
    if !s.tagged typ m then (s.setGn fun g => { g with authFail := satInc 16 g.authFail }, false)
    else if !s.msgFresh m then (s.setGn fun g => { g with replayCnt := satInc 16 g.replayCnt }, false)
    else if (s.bucketsOf typ m).any (fun b => decide (s.gn.tokens b.1 b.2.2 < 1000)) then (s.rateDrop m.sender, false)
    else (s.takenIn typ m, true) := by
  rw [State.gnCheck_eq, if_neg (by rw [on_]; decide), if_neg (by rw [sender, fits]; decide), if_neg (by simp [given, rack])]

theorem State.gnReceive_untagged (bad : ∀ k, s.keyFor typ m = some k → m.tag ≠ msgTag k.key typ m) :
    s.gnReceive typ m = { s with gn := { s.gn with authFail := satInc 16 s.gn.authFail } } := by
  refine State.gnReceive_fails ((State.gnCheck_fits on_ sender fits given rack).trans (if_pos ?_))
  unfold State.tagged
  split
  next k is => simpa using bad k is
  · rfl

theorem State.gnReceive_old {k : Key} (key : s.keyFor typ m = some k) (tag : m.tag = msgTag k.key typ m) (old : s.msgFresh m = false) :
    s.gnReceive typ m = { s with gn := { s.gn with replayCnt := satInc 16 s.gn.replayCnt } } := by
  refine State.gnReceive_fails ((State.gnCheck_fits on_ sender fits given rack).trans ((if_neg ?_).trans (if_pos (by rw [old]; rfl))))
  unfold State.tagged
  rw [key]
  simp [tag]

end

/-! ### The drain of one message -/

theorem exec_guleneDrain_one {q : GnIn} {v : State} {b : Bool} (gov : s.rc.gov = true) (alone : s.gn.queue = [q])
    (takes : (s.setGn fun g => { g with queue := [] }).takeMsg q = (v, b)) (still : (b && v.isLead) = false) :
    exec .guleneDrain s = .next v.reshare := by
  show execGuleneDrain s = _
  unfold execGuleneDrain State.drain
  dsimp only
  rw [if_neg (by simp [gov]), alone, List.foldl_cons, List.foldl_nil, takes]
  dsimp only
  rw [Bool.false_or, still]
  rfl

theorem State.takeMsg_wick {q : GnIn} (typ : q.typ = 1) (kind : u q.msg.body 0 1 = 0) (responsive : s.gv.atEpochs = false) : s.takeMsg q =
    (s.takeNotice { tag := u q.msg.body 1 1, at_ := i q.msg.body 0x10 8, delta := i q.msg.body 4 4, durUs := u q.msg.body 8 4 }, false) := by
  unfold State.takeMsg State.takeWick
  dsimp only
  rw [if_neg (by omega), if_neg (by omega), if_neg (by omega), if_neg (by omega), if_neg (by omega), if_neg (by simp [responsive]),
    if_pos typ, if_pos kind]

theorem State.takeMsg_report {q : GnIn} (typ : q.typ = 2) (responsive : s.gv.atEpochs = false) : s.takeMsg q = s.takeReport q := by
  unfold State.takeMsg
  rw [if_neg (by omega), if_neg (by omega), if_neg (by omega), if_neg (by omega), if_neg (by omega), if_neg (by simp [responsive]),
    if_neg (by omega), if_pos typ]

/-- A claim of a lower shelf ends this module's own (R217). -/
theorem State.takeMsg_elect {q : GnIn} (typ : q.typ = 6) (lower : u q.msg.body 4 1 < s.gv.shelf) (follows : s.isLead = false) :
    s.takeMsg q = (s.setGv fun g => { g with maxEpoch := max g.maxEpoch (u q.msg.body 0 4), claim := none }, false) := by
  unfold State.takeMsg State.takeElect
  dsimp only
  rw [if_neg (by omega), if_pos typ, if_neg (by show ¬ u q.msg.body 4 1 = s.gv.shelf; omega), if_neg]
  · rw [if_pos (by exact lower)]
    rfl
  · rintro ⟨lead, _⟩
    rw [if_pos (by exact lower)] at lead
    have same : s.isLead = true := lead
    rw [follows] at same
    cases same

/-- A REPORT of an endpoint that is known gives its power, and the address it is heard at (Table 10-8). -/
theorem State.takeReport_says {q : GnIn} {e : Endpoint} (kind : u q.msg.body 0 1 = 0) (known : s.gv.ep q.msg.sender = some e)
    (follows : s.isLead = false) : (s.takeReport q).2 = false ∧ ∃ eps, (s.takeReport q).1 = s.setGv (fun g => { g with
      heard := putKey g.heard q.msg.sender (q.msg.src, q.msg.sport), eps := eps }) ∧
      ∀ x ∈ eps, x.id = q.msg.sender → x.raw = i q.msg.body 4 4 := by
  let heard := s.setGv fun g => { g with heard := putKey g.heard q.msg.sender (q.msg.src, q.msg.sport) }
  let news (e : Endpoint) : Endpoint := { e with
    raw := i q.msg.body 4 4, stale := if heard.isLead then false else e.stale, addr := some (e.addr.getD q.msg.src) }
  let v := heard.setEp q.msg.sender news
  have told : ∀ x ∈ v.gv.eps, x.id = q.msg.sender → x.raw = i q.msg.body 4 4 := by
    intro x member id
    obtain ⟨y, _, is⟩ := List.mem_map.mp member
    by_cases own : y.id = q.msg.sender
    · rw [if_pos own] at is
      rw [← is]
    · rw [if_neg own] at is
      exact absurd (is ▸ id) own
  have reads : s.takeReport q = match v.gv.ep q.msg.sender with
      | some x => (v.setEp q.msg.sender (fun e' => { e' with hist := histAdd (v.powerFrom q) (v.powerOf x) e'.hist }), v.isLead &&
        (bitAt (u q.msg.body 0 1) 0 || e.stale))
      | none => (v, false) := by
    have reg : bitAt (u q.msg.body 0 1) 0 = false := by rw [kind]; rfl
    unfold State.takeReport
    rw [reg]
    dsimp only
    rw [known]
    rfl
  have lead : v.isLead = false := follows
  rw [reads, lead]
  cases v.gv.ep q.msg.sender with
  | none => exact ⟨rfl, v.gv.eps, rfl, told⟩
  | some e =>
    refine ⟨rfl, _, rfl, fun x member id => ?_⟩
    obtain ⟨y, of_, is⟩ := List.mem_map.mp member
    by_cases own : y.id = q.msg.sender
    · rw [if_pos own] at is
      rw [← is]
      exact told y of_ own
    · rw [if_neg own] at is
      exact absurd (is ▸ id) own

/-- A RESET_REQUEST of a host that the current key names acts at receipt (R265). -/
theorem exec_alert_reset (passes : (s.gnCheck 8 m).2 = true) (kind : u m.body 0 1 = 2) (asks : s.resetRequested m = true)
    (powered : s.rc.power = .run ∨ s.rc.power = .quiet) (cold : u m.body 1 1 = 0) (fresh : s.rc.absorbs 5 0 = false) :
    Completes (.alert m) s (fun t => ColdLost t ∧ t.rc.lastSource = 5 ∧ t.rc.lastScope = 0 ∧
      t.rc.resets = (s.rc.resets + 1) % 65536) := by
  obtain ⟨a, b, c, is⟩ := State.gnCheck_passes passes
  have asks' : (s.gnCheck 8 m).1.resetRequested m = true := by
    rw [is]
    unfold State.resetRequested State.gnSelf at asks ⊢
    exact asks
  have rc : ((s.gnCheck 8 m).1.record 0x0203 1 kNone 0 (leBytes 1 (u m.body 1 1))).rc = s.rc := by
    rw [(State.record_touch ..).rc_eq rfl, is]
  generalize hw : (s.gnCheck 8 m).1.record 0x0203 1 kNone 0 (leBytes 1 (u m.body 1 1)) = w at rc
  have runs : exec (.alert m) s = .next (w.assertReset 5 0 false none) := by
    show execAlert m s = _
    unfold execAlert
    dsimp only
    rw [if_neg (by rw [passes]; decide), if_neg (not_not_intro kind), if_pos asks', hw, cold]
  have on_ : w.rc.power = .run ∨ w.rc.power = .quiet := by rw [rc]; exact powered
  have scope : w.rc.scopeNow 0 = Scope.cold.code := rfl
  have fresh' : w.rc.absorbs 5 Scope.cold.code = false := by rw [rc]; exact fresh
  have reset := State.assertReset_resetBy on_ scope fresh' (held := false) (cmd := none)
  exact ⟨_, runs, State.assertReset_cold on_ scope fresh', reset.source, reset.scope, by rw [reset.count, rc]⟩

/-! ### The obligation -/

/-- Settles O31: a message passes the checks or is counted by the first it fails; the drain is one message after another, none of which
puts back what was taken from the queue. -/
theorem guleneReceiptCompletes : Obligations.GuleneReceiptCompletes := by
  unfold Obligations.GuleneReceiptCompletes
  refine ⟨fun s m c typ of_ => ?receive, fun s m passes kind asks powered cold fresh => ?reset, fun s => ⟨_, rfl, rfl⟩,
    fun s gov => ?drain, fun s q gov alone responsive => ⟨fun e typ kind known follows => ?report, fun typ kind lead ok new none_ => ?budget,
    fun typ kind profile future => ?wick, fun typ lower follows => ?elect⟩, fun s off => ⟨s, if_pos (by rw [off]; rfl), rfl⟩⟩
  case receive =>
    have runs : exec c s = .next (s.gnReceive typ m) := by
      rcases of_ with of_ | ⟨is, other⟩
      · simp only [List.mem_cons, List.not_mem_nil, Prod.mk.injEq, or_false] at of_
        rcases of_ with ⟨rfl, rfl⟩ | ⟨rfl, rfl⟩ | ⟨rfl, rfl⟩ | ⟨rfl, rfl⟩ | ⟨rfl, rfl⟩ | ⟨rfl, rfl⟩
        all_goals rfl
      · obtain ⟨rfl, rfl⟩ := Prod.mk.inj is
        show execAlert m s = _
        unfold execAlert State.gnReceive
        dsimp only
        by_cases passes : (s.gnCheck 8 m).2 = true
        · rw [if_neg (by rw [passes]; decide), if_pos other, if_pos passes]
        · rw [if_pos (by simpa using passes), if_neg passes]
    refine ⟨fun passes room => ⟨_, runs, (State.gnReceive_passes passes).1 room⟩, fun passes full => ⟨_, runs, (State.gnReceive_passes passes).2 full⟩,
      fun off => ⟨_, runs, State.gnReceive_off off⟩, fun on_ unfit => ⟨_, runs, State.gnReceive_malformed on_ unfit⟩,
      fun on_ sender fits given rack bad => ⟨_, runs, State.gnReceive_untagged on_ sender fits given rack bad⟩,
      fun k on_ sender fits given rack key tag old => ⟨_, runs, State.gnReceive_old on_ sender fits given rack key tag old⟩⟩
  case reset => exact exec_alert_reset passes kind asks powered cold fresh
  case drain =>
    obtain ⟨empty, count⟩ := s.drain_inQueue
    let v := if s.drain.2 && s.drain.1.isLead && !s.drain.1.gv.atEpochs then s.drain.1.govern false else s.drain.1
    have kept : InQueue s.drain.1 v.reshare := .trans (.cond (State.govern_inQueue ..) (.refl _)) v.reshare_inQueue
    exact ⟨v.reshare, if_neg (by simp [gov]), kept.queue.trans empty, kept.count.trans count⟩
  case report =>
    let u := s.setGn fun g => { g with queue := [] }
    obtain ⟨still, eps, is, told⟩ := State.takeReport_says (s := u) (q := q) kind known follows
    have takes : u.takeMsg q = ((u.takeReport q).1, false) := by rw [State.takeMsg_report (s := u) typ responsive, ← still]
    obtain ⟨_, ⟨l, gv⟩, _⟩ := (u.takeReport q).1.reshare_says
    refine ⟨_, exec_guleneDrain_one gov alone takes rfl, ?_⟩
    show _ ∧ _
    rw [gv, is]
    exact ⟨rfl, told, rfl⟩
  case budget =>
    let v := s.setGn fun g => { g with queue := [] }
    have budget : (reqOf q.msg).kind = 0 := if_pos kind
    have runs := exec_guleneDrain_request gov lead responsive alone typ (by omega) ok (.inl kind)
    rw [State.adopt_budget (s := v) new budget, show v.gv.pend = [] from none_] at runs
    obtain ⟨_, ⟨l, gv⟩, _⟩ := (((v.noteReq (reqOf q.msg)).enterReq (reqOf q.msg) 0).setGv
      fun g => { g with newBudget := some ((reqOf q.msg).w, (reqOf q.msg).ms) }).reshare_says
    refine ⟨_, runs, ?_⟩
    show (State.reshare _).gv.newBudget = _ ∧ (State.reshare _).gv.pend = _
    rw [List.filter_nil, List.foldl_nil, gv]
    refine ⟨rfl, ?_⟩
    show s.gv.pend ++ _ = _
    rw [none_]
    rfl
  case wick =>
    let v := s.setGn fun g => { g with queue := [] }
    have takes := State.takeMsg_wick (s := v) typ kind responsive
    refine ⟨_, exec_guleneDrain_one gov alone takes rfl, ?_⟩
    refine congrArg Profile.waiting ((comp_bit (State.reshare_touch _).pf rfl).trans (State.takeNotice_future (s := v)
      (w := { tag := u q.msg.body 1 1, at_ := i q.msg.body 0x10 8, delta := i q.msg.body 4 4, durUs := u q.msg.body 8 4 }) profile future))
  case elect =>
    let v := s.setGn fun g => { g with queue := [] }
    have takes := State.takeMsg_elect (s := v) typ lower follows
    obtain ⟨_, ⟨l, gv⟩, _⟩ := (v.setGv fun g => { g with maxEpoch := max g.maxEpoch (u q.msg.body 0 4), claim := none }).reshare_says
    refine ⟨_, exec_guleneDrain_one gov alone takes rfl, ?_⟩
    show _ ∧ _
    rw [gv]
    exact ⟨rfl, rfl⟩

end

end Sys2Proof.Machine
end

section
/-!
R9, R272 to R277, R280, R286: the tether's training and frames, and the role.
-/

namespace Sys2Proof.Machine

open Sys2Proof

section
variable (s : State)

/-! ### The role -/

/-- The role a module takes beside what it hears (R9, R272). -/
theorem State.roleFor_alone (alone : s.teth.trained = false ∨ s.teth.seen = false) : s.roleFor = .active := by
  unfold State.roleFor
  dsimp only
  rw [if_pos]
  rcases alone with is | is
  · rw [is]; rfl
  · rw [is]; simp

theorem State.roleFor_partner (trained : s.teth.trained = true) (seen : s.teth.seen = true) : s.roleFor =
    if s.teth.partnerRole = 1 then (if s.teth.capsMismatch then .offline else .standby)
    else if s.teth.partnerRole = 0 then (if s.teth.slotB then (if s.teth.capsMismatch then .offline else .standby) else .active)
    else .active := by
  unfold State.roleFor
  dsimp only
  rw [if_neg (by rw [trained, seen]; decide)]

theorem exec_roleDecision (starts : s.role = .starting) : Completes .roleDecision s (fun t => t.role = s.roleFor ∧
    (t.role = .active → t.teth = { s.teth with epoch := s.chooseEpoch, bkEpoch := s.chooseEpoch }) ∧ (t.role ≠ .active → t.teth = s.teth)) := by
  have runs : exec .roleDecision s = match s.roleFor with
    | .active => .next s.becomeActive
    | r => .next { s with role := r } := if_neg (not_not_intro starts)
  cases role : s.roleFor with
  | active =>
    rw [role] at runs
    exact ⟨_, runs, rfl, fun _ => rfl, fun other => absurd rfl other⟩
  | starting =>
    rw [role] at runs
    exact ⟨_, runs, rfl, fun is => (nomatch is), fun _ => rfl⟩
  | standby =>
    rw [role] at runs
    exact ⟨_, runs, rfl, fun is => (nomatch is), fun _ => rfl⟩
  | offline =>
    rw [role] at runs
    exact ⟨_, runs, rfl, fun is => (nomatch is), fun _ => rfl⟩

/-! ### What leaves on the tether -/

/-- PORTS and SLOTS stand in the header of the tether's training (R274). -/
theorem State.tetherTrainHeader_caps : bits (s.tetherTrainHeader true) 31 24 = s.part.ports ∧
    bits (s.tetherTrainHeader true) 39 32 = s.part.slots := by
  unfold State.tetherTrainHeader State.trainHeader
  cases s.part
  all_goals
    cases s.teth.slotB
    all_goals exact ⟨rfl, rfl⟩

theorem scrambleBlocks_length (h : Nat) (l : List Block) : (scrambleBlocks h l).1.length = l.length := by
  induction l generalizing h with
  | nil => rfl
  | cons b l ih => exact congrArg (· + 1) (ih _)

theorem dataBlocks_length (n v : Nat) : (dataBlocks n v).length = n := (List.length_map _).trans List.length_range

theorem State.bulkPart_length : s.bulkPart.length = 21 := by
  unfold State.bulkPart
  split
  · split
    · exact congrArg (· + 1) (dataBlocks_length ..)
    · exact List.length_replicate
  · exact List.length_replicate

/-- A tether period is 25 blocks (R275). -/
theorem State.tetherPeriod_length (h : Nat) (b : Bytes) (c : Nat) :
    (scrambleBlocks s.teth.hist (fastBlocks 0x99 h b c ++ s.bulkPart)).1.length = 25 := by
  rw [scrambleBlocks_length, List.length_append, s.bulkPart_length]
  exact congrArg (· + 1 + 21) (dataBlocks_length ..)

/-! ### Causes for replacement -/

theorem State.record_causes (code sev kind subject : Nat) (p : Bytes) : (s.record code sev kind subject p).ev.causes = s.ev.causes := by
  rw [State.record_ev]
  rfl

theorem State.endAccesses_causes (p : Nat) : (s.endAccesses p).ev.causes = s.ev.causes := by
  have one (v : State) (r : SvcReq) : (v.endAccess p r).ev.causes = v.ev.causes := by
    unfold State.endAccess State.svcFailed
    split
    · rw [comp_bit (State.completeWhere_touch ..).ev rfl]
      exact State.record_causes ..
    · rw [comp_bit (State.completeWhere_touch ..).ev rfl]
      exact State.record_causes ..
    · exact State.record_causes ..
    · exact State.record_causes ..
  have all (l : List SvcReq) (v : State) : (l.foldl (fun s r => s.endAccess p r) v).ev.causes = v.ev.causes := by
    induction l generalizing v with
    | nil => rfl
    | cons r l ih => exact (ih _).trans (one v r)
  exact all _ _

theorem State.startTraining_causes (p : Nat) : (s.startTraining p).ev.causes = s.ev.causes := by
  unfold State.startTraining State.trainAttempt
  dsimp only
  split
  · exact State.endAccesses_causes ..
  · exact State.endAccesses_causes ..

theorem State.trainStandby_causes : s.trainStandby.ev.causes = s.ev.causes := by
  have all (l : List Nat) (v : State) : (l.foldl State.startTraining v).ev.causes = v.ev.causes := by
    induction l generalizing v with
    | nil => rfl
    | cons p l ih => exact (ih _).trans (v.startTraining_causes p)
  unfold State.trainStandby State.trainDown
  split
  · split
    · rfl
    · exact all ..
  · rfl

theorem State.takeover_causes (cause : Nat) : (s.takeover cause).ev.causes = s.ev.causes := by
  have one (v : State) (p : Nat) : (v.holdCheck p).ev.causes = v.ev.causes := by
    unfold State.holdCheck
    dsimp only
    split
    · exact State.record_causes ..
    · rfl
  have all (l : List Nat) (v : State) : (l.foldl State.holdCheck v).ev.causes = v.ev.causes := by
    induction l generalizing v with
    | nil => rfl
    | cons p l ih => exact (ih _).trans (one v p)
  rw [s.takeover_eq]
  exact all ..

/-! ### A good frame -/

/-- What a tether knows but for its heartbeats (R276, R277). -/
def Tether.sansBeat (t : Tether) : Tether :=
  { t with sinceHb := 0, missRun := 0, lost := false, hbRun := 0, missedHb := 0, armed := false, seen := true }

/-- The partner's part of a good frame taken in (Tables 11-2 and 11-3). -/
def State.hear (f : FastFrame) (e : Int) : State :=
  (s.setTeth fun t => { t with
    partnerEpoch := bits f.hdr 39 24, partnerRole := bits f.hdr 22 21, partnerSlotB := bitAt f.hdr 20
    partnerHand := bitAt f.hdr 19, partnerArmed := bitAt f.hdr 18, partnerReady := bits (u f.payload 0x0C 4) 20 16
    alignErr := satI 8 e, seen := true }).slotRule (bitAt f.hdr 20)

/-- Its heartbeat, or the lack of one. -/
def State.beat (f : FastFrame) : State := if bitAt f.hdr 23 then s.heartbeat else s.tetherMiss

/-- An active asked to hand over, whose copy becomes due (R286 step 1). -/
def State.askedHand : State :=
  if s.active && s.teth.partnerHand && s.teth.partnerRole == 2 && s.teth.partnerArmed && s.teth.hand == .none then
    s.setTeth (fun t => { t with hand := .copyDue, failed := [] })
  else s

theorem exec_tetherFast_good {f : FastFrame} {e : Int} (trained : s.teth.trained = true) (good : goodFast 0x99 f = true) :
    exec (.tetherFast (some f) e) s =
      .next ((((s.hear f e).beat f).trainStandby.followActive f.payload).askedHand.yieldHandover.takeOffered) := by
  show execTetherFast (some f) e s = _
  unfold execTetherFast
  rw [if_neg (by rw [trained]; decide)]
  dsimp only
  rw [if_neg (by rw [good]; decide)]
  rfl

theorem State.heartbeat_says : s.heartbeat.teth.sansBeat = s.teth.sansBeat ∧ s.heartbeat.teth.seen = true ∧ s.heartbeat.teth.lost = false ∧
    s.heartbeat.teth.missRun = 0 ∧ s.heartbeat.teth.sinceHb = 0 ∧ 7 ∉ s.heartbeat.ev.causes ∧
    s.heartbeat.teth.hbRun = (if s.teth.partnerRole == 1 then min (s.teth.hbRun + 1) 16 else 0) ∧
    s.heartbeat.role = if s.role == .offline && s.teth.partnerRole == 1 && !s.teth.capsMismatch then .standby else s.role := by
  let a := s.setTeth fun t => { t with
    sinceHb := 0, missRun := 0, lost := false, seen := true, hbRun := if s.teth.partnerRole == 1 then min (t.hbRun + 1) 16 else 0 }
  let b := a.clearCause 7 kNone 0
  have cleared : 7 ∉ b.ev.causes := State.clearCause_cleared a 7 kNone 0
  have teth : b.teth = a.teth := comp_bit (a.clearCause_touch 7 kNone 0).teth rfl
  have role : b.role = s.role := comp_bit (a.clearCause_touch 7 kNone 0).role rfl
  let c := if b.role == .offline && s.teth.partnerRole == 1 && !b.teth.capsMismatch then { b with role := .standby } else b
  have kept : c.teth = a.teth ∧ c.ev = b.ev ∧
      c.role = if s.role == .offline && s.teth.partnerRole == 1 && !s.teth.capsMismatch then .standby else s.role := by
    show State.teth (if b.role == .offline && s.teth.partnerRole == 1 && !b.teth.capsMismatch then _ else _) = _ ∧ State.ev (if _ then _ else _) = _ ∧
      State.role (if _ then _ else _) = _
    have caps : b.teth.capsMismatch = s.teth.capsMismatch := by rw [teth]; rfl
    rw [role, caps]
    split
    · exact ⟨teth, rfl, rfl⟩
    · exact ⟨teth, rfl, role⟩
  obtain ⟨teth', ev, role'⟩ := kept
  have is : s.heartbeat = if c.role == .standby && decide (16 ≤ c.teth.hbRun) then c.setTeth (fun t => { t with armed := true }) else c := rfl
  rw [is]
  split
  · have set : (c.setTeth fun t => { t with armed := true }).teth = { a.teth with armed := true } := by rw [← teth']; rfl
    rw [set, show (c.setTeth fun t => { t with armed := true }).ev = b.ev from ev]
    exact ⟨rfl, rfl, rfl, rfl, rfl, cleared, rfl, role'⟩
  · rw [teth', ev]
    exact ⟨rfl, rfl, rfl, rfl, rfl, cleared, rfl, role'⟩

theorem State.tetherMiss_says : s.tetherMiss.teth.sansBeat = s.teth.sansBeat ∧ s.tetherMiss.teth.seen = s.teth.seen ∧
    s.tetherMiss.role = s.role := by
  have kept : s.tetherMiss.teth.sansBeat = s.teth.sansBeat ∧ s.tetherMiss.teth.seen = s.teth.seen := by
    unfold State.tetherMiss State.setTeth
    dsimp only
    split
    · exact ⟨rfl, rfl⟩
    · exact ⟨rfl, rfl⟩
  exact ⟨kept.1, kept.2, rfl⟩

/-- What the heartbeat of a good frame, or its lack, leaves. -/
theorem State.beat_says (f : FastFrame) (seen : s.teth.seen = true) : (s.beat f).teth.sansBeat = s.teth.sansBeat ∧
    (s.beat f).teth.seen = true ∧
    (bitAt f.hdr 23 = true → (s.beat f).teth.lost = false ∧ (s.beat f).teth.missRun = 0 ∧ (s.beat f).teth.sinceHb = 0 ∧
      7 ∉ (s.beat f).ev.causes ∧ (s.beat f).teth.hbRun = (if s.teth.partnerRole == 1 then min (s.teth.hbRun + 1) 16 else 0)) ∧
    (s.beat f).role = (if bitAt f.hdr 23 && (s.role == .offline && s.teth.partnerRole == 1 && !s.teth.capsMismatch) then .standby else s.role) ∧
    (s.beat f).le = s.le ∧ (s.beat f).sh = s.sh ∧ (s.beat f).clk = s.clk := by
  unfold State.beat
  split
  next on_ =>
    obtain ⟨kept, seen', lost, miss, since, cause, run, role⟩ := s.heartbeat_says
    have touch := s.heartbeat_touch
    rw [on_, Bool.true_and]
    exact ⟨kept, seen', fun _ => ⟨lost, miss, since, cause, run⟩, role, comp_bit touch.le rfl, comp_bit touch.sh rfl, comp_bit touch.clk rfl⟩
  next off =>
    obtain ⟨kept, seen', role⟩ := s.tetherMiss_says
    rw [Bool.eq_false_iff.mpr off, Bool.false_and]
    exact ⟨kept, seen'.trans seen, fun on_ => absurd on_ (by decide), role, rfl, rfl, rfl⟩

theorem State.aimAll_frame : s.aimAll.le.frame = s.le.frame := by
  have all (l : List Nat) (v : State) : (l.foldl State.aimGroup v).le.frame = v.le.frame := by
    induction l generalizing v with
    | nil => rfl
    | cons g l ih => exact (ih _).trans rfl
  exact all ..

/-- A standby follows its partner (R276); no other does. -/
theorem State.followActive_says (b : Bytes) : (s.role = .standby → s.teth.partnerRole = 1 → (s.followActive b).le.frame = u b 0 8 ∧
      (s.followActive b).sh.target = i b 8 4 ∧ (s.followActive b).sh.slew = u b 0x0C 4 % 2 ^ 10) ∧
    (s.role ≠ .standby → s.followActive b = s) := by
  refine ⟨fun standby role => ?_, fun other => if_pos (.inl other)⟩
  unfold State.followActive
  dsimp only
  rw [if_neg (by simp [standby, role]), State.aimAll_frame, State.aimAll_sh]
  exact ⟨rfl, rfl, rfl⟩

/-- A module with no handover of its own under way yields none (R286). -/
theorem State.yieldHandover_idle (idle : ∀ e, s.teth.hand ≠ .taken e) : s.yieldHandover = s := by
  unfold State.yieldHandover
  split
  next e is => exact absurd is (idle e)
  · rfl

theorem Tether.of_sansBeat {x y : Tether} (same : x.sansBeat = y.sansBeat) : (x.partnerEpoch = y.partnerEpoch ∧
    x.partnerRole = y.partnerRole ∧ x.partnerArmed = y.partnerArmed ∧ x.partnerReady = y.partnerReady ∧ x.partnerHand = y.partnerHand ∧
    x.alignErr = y.alignErr) ∧ x.hand = y.hand ∧ x.copyWhole = y.copyWhole ∧ x.appliedAt = y.appliedAt :=
  ⟨⟨(congrArg Tether.partnerEpoch same :), (congrArg Tether.partnerRole same :), (congrArg Tether.partnerArmed same :),
    (congrArg Tether.partnerReady same :), (congrArg Tether.partnerHand same :), (congrArg Tether.alignErr same :)⟩,
    (congrArg Tether.hand same :), (congrArg Tether.copyWhole same :), (congrArg Tether.appliedAt same :)⟩

/-- What a frame says of the partner, and its heartbeats. -/
def Tether.heard (t : Tether) : (Bool × Nat × Nat × Bool × Nat × Bool × Int) × Bool × Nat × Nat × Nat :=
  ((t.seen, t.partnerEpoch, t.partnerRole, t.partnerArmed, t.partnerReady, t.partnerHand, t.alignErr), t.lost, t.missRun, t.sinceHb, t.hbRun)

theorem State.askedHand_says : s.askedHand.teth.heard = s.teth.heard ∧ s.askedHand.ev = s.ev ∧ s.askedHand.role = s.role ∧
    s.askedHand.le = s.le ∧ s.askedHand.sh = s.sh ∧ s.askedHand.clk = s.clk ∧ (s.role ≠ .active → s.askedHand = s) := by
  unfold State.askedHand
  split
  next asks =>
    refine ⟨rfl, rfl, rfl, rfl, rfl, rfl, fun other => ?_⟩
    simp [State.active, other] at asks
  · exact ⟨rfl, rfl, rfl, rfl, rfl, rfl, fun _ => rfl⟩

theorem State.takeOffered_says : s.takeOffered.teth.heard = s.teth.heard ∧ s.takeOffered.ev.causes = s.ev.causes ∧
    (s.role ≠ .standby ∨ s.teth.partnerHand = false → s.takeOffered = s) ∧
    (s.role = .standby → s.teth.partnerHand = true → s.teth.partnerRole = 1 → s.copyFresh = true → s.teth.copyWhole = true →
      s.takeOffered.role = .active ∧ s.takeOffered.teth.hand = .taken s.takeOffered.teth.epoch ∧ s.takeOffered.teth.lastCause = 2) := by
  obtain ⟨role, teth, _⟩ := s.takeover_says 2
  have takes : State.setTeth (s.takeover 2) (fun t => { t with hand := .taken t.epoch }) =
      { s.takeover 2 with teth := { (s.owned 2).teth with hand := .taken (s.owned 2).teth.epoch } } := by rw [← teth]; rfl
  unfold State.takeOffered
  dsimp only
  rw [takes]
  split
  next due =>
    simp only [Bool.and_eq_true, beq_iff_eq] at due
    obtain ⟨⟨⟨⟨standby, hand⟩, _⟩, _⟩, _⟩ := due
    refine ⟨rfl, s.takeover_causes 2, fun not_ => ?_, fun _ _ _ _ _ => ⟨role, rfl, rfl⟩⟩
    rcases not_ with other | none_
    · exact absurd standby other
    · rw [hand] at none_
      cases none_
  next not_ =>
    exact ⟨rfl, rfl, fun _ => rfl, fun standby hand partner fresh whole => absurd (by simp [standby, hand, partner, fresh, whole]) not_⟩

end

/-- A good frame, from the partner's part of it to what the standby or the active does with it. -/
theorem exec_tetherFast_says {s : State} {f : FastFrame} {e : Int} (trained : s.teth.trained = true) (good : goodFast 0x99 f = true)
    (idle : s.teth.hand = .none) : Completes (.tetherFast (some f) e) s (fun t => t.teth.seen = true ∧ t.teth.partnerEpoch = bits f.hdr 39 24 ∧
      t.teth.partnerRole = bits f.hdr 22 21 ∧ t.teth.partnerArmed = bitAt f.hdr 18 ∧
      t.teth.partnerReady = bits (u f.payload 0x0C 4) 20 16 ∧ t.teth.partnerHand = bitAt f.hdr 19 ∧ t.teth.alignErr = satI 8 e ∧
      (bitAt f.hdr 23 = true → t.teth.lost = false ∧ t.teth.missRun = 0 ∧ t.teth.sinceHb = 0 ∧ 7 ∉ t.ev.causes ∧
        t.teth.hbRun = if bits f.hdr 22 21 = 1 then min (s.teth.hbRun + 1) 16 else 0) ∧
      (s.role = .standby → bits f.hdr 22 21 = 1 → bitAt f.hdr 19 = false →
        t.role = .standby ∧ t.le.frame = u f.payload 0 8 ∧ t.sh.target = i f.payload 8 4 ∧
        t.sh.slew = u f.payload 0x0C 4 % 2 ^ 10) ∧
      (s.role = .standby → bits f.hdr 22 21 = 1 → bitAt f.hdr 19 = true → s.copyFresh = true → s.teth.copyWhole = true →
        t.role = .active ∧ t.teth.hand = .taken t.teth.epoch ∧ t.teth.lastCause = 2) ∧
      (s.role = .offline → bitAt f.hdr 23 = true → bits f.hdr 22 21 = 1 → bitAt f.hdr 19 = false →
        t.role = if s.teth.capsMismatch then .offline else .standby) ∧
      (s.role = .active → t.role = .active ∧ t.le.frame = s.le.frame ∧ t.sh.target = s.sh.target ∧
        (t.teth.hand = .copyDue ↔ bitAt f.hdr 19 = true ∧ bits f.hdr 22 21 = 2 ∧ bitAt f.hdr 18 = true) ∧
        (t.teth.hand = .copyDue → t.teth.failed = []))) := by
  let a := s.hear f e
  obtain ⟨beat, seen, beats, role, le, sh, clk⟩ := a.beat_says f rfl
  let b := a.beat f
  let d := b.trainStandby.followActive f.payload
  have trains := b.trainStandby_touch
  have follows := b.trainStandby.followActive_touch f.payload
  have teth : d.teth = b.teth := (comp_bit follows.teth rfl).trans (comp_bit trains.teth rfl)
  have role' : d.role = b.role := (comp_bit follows.role rfl).trans (comp_bit trains.role rfl)
  have causes : d.ev.causes = b.ev.causes := by rw [comp_bit follows.ev rfl, b.trainStandby_causes]
  have clk' : d.clk = s.clk := ((comp_bit follows.clk rfl).trans (comp_bit trains.clk rfl)).trans clk
  obtain ⟨⟨epoch, partner, armed, ready, hand, align⟩, own, whole, applied⟩ := Tether.of_sansBeat beat
  obtain ⟨asked, askedEv, askedRole, askedLe, askedSh, askedClk, others⟩ := d.askedHand_says
  have none_ : d.teth.hand = .none := by rw [teth, own]; exact idle
  have hands : d.askedHand.teth.hand = if d.active && d.teth.partnerHand && d.teth.partnerRole == 2 && d.teth.partnerArmed then .copyDue
      else .none := by
    unfold State.askedHand
    rw [none_]
    simp only [BEq.rfl, Bool.and_true]
    split
    · rfl
    · exact none_
  have free : ∀ x, d.askedHand.teth.hand ≠ .taken x := by
    intro x is
    rw [hands] at is
    split at is
    · cases is
    · cases is
  have runs := exec_tetherFast_good s (e := e) trained good
  rw [State.yieldHandover_idle _ free] at runs
  obtain ⟨taken, takenCauses, still, takes⟩ := d.askedHand.takeOffered_says
  have told := (taken.trans asked).trans (congrArg Tether.heard teth)
  simp only [Tether.heard, Prod.mk.injEq] at told
  obtain ⟨⟨seenT, epochT, partnerT, armedT, readyT, handT, alignT⟩, lostT, missT, sinceT, runT⟩ := told
  have role_ : d.role = if bitAt f.hdr 23 && (s.role == .offline && bits f.hdr 22 21 == 1 && !s.teth.capsMismatch) then .standby else s.role :=
    role'.trans role
  have partner_ : d.teth.partnerRole = bits f.hdr 22 21 := by rw [teth, partner]; rfl
  have hand_ : d.teth.partnerHand = bitAt f.hdr 19 := by rw [teth, hand]; rfl
  have armed_ : d.teth.partnerArmed = bitAt f.hdr 18 := by rw [teth, armed]; rfl
  have kept (role : s.role ≠ .offline) : d.role = s.role := by rw [role_, if_neg (by simp [role])]
  refine ⟨d.askedHand.takeOffered, runs, by rw [seenT, seen], by rw [epochT, epoch]; rfl, by rw [partnerT, partner]; rfl,
    by rw [armedT, armed]; rfl, by rw [readyT, ready]; rfl, by rw [handT, hand]; rfl, by rw [alignT, align]; rfl, fun on_ => ?beats,
    fun standby active none' => ?follow, fun standby active offered fresh whole' => ?take, fun offline on_ active none' => ?joins, fun active => ?active⟩
  case beats =>
    obtain ⟨lost, miss, since, cause, run⟩ := beats on_
    refine ⟨lostT.trans lost, missT.trans miss, sinceT.trans since, by rw [takenCauses, askedEv, causes]; exact cause, runT.trans (run.trans ?_)⟩
    show (if (bits f.hdr 22 21 == 1) = true then min (s.teth.hbRun + 1) 16 else 0) = _
    simp
  case follow =>
    have was : b.trainStandby.role = .standby := by
      rw [comp_bit trains.role rfl, ← role', kept (by rw [standby]; decide), standby]
    have is : d.role = .standby := (kept (by rw [standby]; decide)).trans standby
    have same := others (by rw [is]; decide)
    rw [same] at still ⊢
    rw [still (.inr (hand_.trans none'))]
    have partnered : b.trainStandby.teth.partnerRole = 1 := by
      rw [comp_bit trains.teth rfl, partner]
      exact active
    exact ⟨is, (b.trainStandby.followActive_says f.payload).1 was partnered⟩
  case take =>
    have is : d.role = .standby := (kept (by rw [standby]; decide)).trans standby
    have same := others (by rw [is]; decide)
    rw [same] at takes ⊢
    refine takes is (hand_.trans offered) (partner_.trans active) ?_ ?_
    · unfold State.copyFresh at fresh ⊢
      rw [teth, applied, clk']
      exact fresh
    · rw [teth, whole]
      exact whole'
  case joins =>
    have is : d.role = if s.teth.capsMismatch then .offline else .standby := by
      rw [role_, on_, offline, active]
      cases s.teth.capsMismatch
      · rfl
      · rfl
    have same := others (by rw [is]; split <;> decide)
    rw [same] at still ⊢
    rw [still (.inr (hand_.trans none')), is]
  case active =>
    have is : d.role = .active := (kept (by rw [active]; decide)).trans active
    have off : b.trainStandby.role ≠ .standby := by
      rw [comp_bit trains.role rfl, ← role', is]
      decide
    have same : d = b.trainStandby := (b.trainStandby.followActive_says f.payload).2 off
    rw [still (.inl (by rw [askedRole, is]; decide)), askedRole, askedLe, askedSh, hands, hand_, partner_, armed_]
    refine ⟨is, ?_, ?_, ?_, ?_⟩
    · rw [same, comp_bit trains.le rfl, le]
      rfl
    · rw [same, comp_bit trains.sh rfl, sh]
      rfl
    · rw [State.active, is]
      simp [and_assoc]
    · intro due
      have asks : (d.active && d.teth.partnerHand && d.teth.partnerRole == 2 && d.teth.partnerArmed) = true := by
        refine Classical.byContradiction fun not_ => ?_
        rw [hand_, partner_, armed_] at not_
        rw [if_neg not_] at due
        cases due
      unfold State.askedHand
      rw [none_, if_pos (by rw [asks]; rfl)]
      rfl

/-! ### Frames sent, missed, and training -/

theorem exec_tetherFastSend {s : State} (trained : s.teth.trained = true) (on_ : s.rc.tetherOn = true) :
    exec .tetherFastSend s = .next (((s.setTeth fun t => { t.sent with
      hist := (scrambleBlocks s.teth.hist (fastBlocks 0x99 s.tetherHeader s.tetherPayload (fastCrcOf 0x99 s.tetherHeader s.tetherPayload) ++
        s.bulkPart)).2 }).emit (.tetherFast s.tetherHeader s.tetherPayload (fastCrcOf 0x99 s.tetherHeader s.tetherPayload))).emit
      (.tetherLine (scrambleBlocks s.teth.hist (fastBlocks 0x99 s.tetherHeader s.tetherPayload
        (fastCrcOf 0x99 s.tetherHeader s.tetherPayload) ++ s.bulkPart)).1)) :=
  if_neg (by rw [trained, on_]; decide)

/-- A chunk that leaves as the last of a planned takeover's copy offers the handover (R286 step 1). -/
theorem Tether.sent_says (t : Tether) : t.sent.chunks = t.chunks.drop 1 ∧
    (t.hand = .copying → t.chunks.length ≤ 1 → t.sent.hand = .offered t.epoch) ∧
    (t.hand ≠ .copying ∨ 1 < t.chunks.length → t.sent.hand = t.hand) := by
  have last : (t.chunks.drop 1).isEmpty = decide (t.chunks.length ≤ 1) := by
    rw [Bool.eq_iff_iff, List.isEmpty_iff, List.drop_eq_nil_iff, decide_eq_true_eq]
  unfold Tether.sent
  dsimp only
  rw [last]
  refine ⟨rfl, fun copying few => if_pos (by simp [copying, few]), fun not_ => if_neg ?_⟩
  rcases not_ with other | more
  · simp [other]
  · simp [Nat.not_le.mpr more]

/-- The blocks after TETHER_FAST of a tether period (R275). -/
theorem State.bulkPart_says (s : State) : (∀ c r, s.role = .active → s.teth.chunks = c :: r →
      s.bulkPart = bulkBlocks c.1 c.2 (bulkCrcOf c.1 c.2)) ∧
    (s.role ≠ .active ∨ s.teth.chunks = [] → s.bulkPart = List.replicate 21 idleBlock) := by
  refine ⟨fun c r active chunks => ?_, fun not_ => ?_⟩
  · unfold State.bulkPart State.active
    rw [chunks, active]
    rfl
  · unfold State.bulkPart State.active
    split
    next h d r chunks =>
      rcases not_ with other | none_
      · exact if_neg (by simpa using other)
      · rw [chunks] at none_
        cases none_
    · rfl

theorem State.tetherMiss_parity (s : State) :
    (s.teth.sinceHb % 2 = 0 → s.tetherMiss.teth = { s.teth with sinceHb := s.teth.sinceHb + 1 }) ∧
    (s.teth.sinceHb % 2 = 1 → s.tetherMiss.teth = { s.teth with
      sinceHb := s.teth.sinceHb + 1, missRun := s.teth.missRun + 1, missedHb := satInc 16 s.teth.missedHb, hbRun := 0 }) :=
  ⟨fun even => if_neg (by omega), fun odd => if_pos (by omega)⟩

/-- Settles O35: training compares the capabilities once both ends have lock; a good frame is taken in before its heartbeat, and what a
standby or an active does with it follows from what it then knows of the partner. -/
theorem tetherFramesComplete : Obligations.TetherFramesComplete := by
  unfold Obligations.TetherFramesComplete
  refine ⟨fun s starts => ?role, fun s other => ⟨s, if_pos other, rfl⟩, fun s hdr heads trips serial off => ⟨s, if_pos (by rw [off]; rfl), rfl⟩,
    fun s hdr heads trips serial on_ deaf => ?deaf, fun s hdr ports slots heads trips serial on_ lock sees is is' => ?train,
    fun s crc fast trained on_ is is' => ?send, fun s off => ⟨s, if_pos ?_, rfl⟩, fun s f e off => ⟨s, if_pos (by rw [off]; rfl), rfl⟩,
    fun s f e trained bad => ?miss, fun s f e trained good idle => exec_tetherFast_says trained good idle⟩
  case role =>
    obtain ⟨t, runs, role, teth, other⟩ := exec_roleDecision s starts
    refine ⟨t, runs, fun alone => role.trans (s.roleFor_alone alone), fun trained seen partner => ?_, fun trained seen partner => ?_,
      fun trained seen p q => ?_, teth, other⟩
    · rw [role, s.roleFor_partner trained seen, if_pos partner]
    · rw [role, s.roleFor_partner trained seen, if_neg (by omega), if_pos partner]
      cases s.teth.slotB
      · rfl
      · rfl
    · rw [role, s.roleFor_partner trained seen, if_neg q, if_neg p]
  case deaf =>
    refine ⟨_, ?_, rfl⟩
    show execTetherTrain hdr heads trips serial s = _
    unfold execTetherTrain
    dsimp only
    rw [if_neg (by rw [on_]; decide), if_pos]
    rcases deaf with is | is
    · rw [is]; rfl
    · rw [is]; simp
  case train =>
    subst is is'
    let bad : Prop := bits hdr 31 24 ≠ s.part.ports ∨ bits hdr 39 32 ≠ s.part.slots
    let v := (s.emit (.tetherTrain (s.tetherTrainHeader true))).setTeth fun t => { t with
      trained := true, seen := false, partnerPorts := bits hdr 31 24, partnerSlots := bits hdr 39 32, capsMismatch := decide bad
      trips := trips, partnerSerial := padTo 16 serial }
    let r := v.record 0x0104 1 kNone 0 (leBytes 4 (bits hdr 31 24) ++ leBytes 4 (bits hdr 39 32))
    have runs : exec (.tetherTrain hdr heads trips serial) s = .next (if bad then r else v) := by
      show execTetherTrain hdr heads trips serial s = _
      unfold execTetherTrain
      dsimp only
      rw [if_neg (by rw [on_]; decide), lock, sees]
      rfl
    have puts : Puts s v (.tetherTrain (s.tetherTrainHeader true)) := Puts.emit ..
    obtain ⟨ports, slots⟩ := s.tetherTrainHeader_caps
    refine ⟨_, runs, ?_⟩
    by_cases differs : bad
    · rw [if_pos differs]
      have teth : r.teth = v.teth := comp_bit (State.record_touch ..).teth rfl
      refine ⟨Puts.later puts (State.record_touch ..), ports, slots, ?_⟩
      rw [teth]
      refine ⟨rfl, rfl, rfl, rfl, rfl, rfl, fun p q => absurd differs (not_or.mpr ⟨not_not_intro p, not_not_intro q⟩), fun _ => ⟨decide_eq_true differs, ?_⟩⟩
      exact State.record_newest v ..
    · rw [if_neg differs]
      exact ⟨puts, ports, slots, rfl, rfl, rfl, rfl, rfl, rfl, fun _ _ => ⟨decide_eq_false differs, rfl⟩, fun other => absurd other differs⟩
  case send =>
    subst is is'
    obtain ⟨chunks, offers, keeps⟩ := s.teth.sent_says
    obtain ⟨carries, idles⟩ := s.bulkPart_says
    refine ⟨_, exec_tetherFastSend trained on_, ⟨[_, _], rfl, .tail _ (.head _)⟩, chunks, offers, keeps, _, ⟨[_, _], rfl, .head _⟩,
      s.tetherPeriod_length _ _ _, fun c r active more => ?_, fun not_ => ?_⟩
    · rw [carries c r active more]
    · rw [idles not_]
  case miss =>
    refine ⟨s.tetherMiss, ?_, s.tetherMiss_parity⟩
    show execTetherFast f e s = _
    unfold execTetherFast
    rw [if_neg (by rw [trained]; decide)]
    cases f with
    | none => rfl
    | some g => exact if_pos (by rw [bad g rfl]; rfl)
  · rcases off with is | is
    · rw [is]; rfl
    · rw [is]; simp

end Sys2Proof.Machine
end

section
/-!
R217, R227: an election, its start and its end, and what they leave of the governor.
-/

namespace Sys2Proof.Machine

open Sys2Proof

/-- A governor without what an election or the end of a lead may change. -/
def Governor.sansElection (g : Governor) : Governor :=
  { g with
    role := 0, leadEpoch := 0, maxEpoch := 0, leadShelf := none, claim := none, lowMs := 0, eps := [], epochGrants := []
    newBudget := none, steady := none, set_ := 0, snuffOut := false, relRun := 0 }

/-- Of the governor nothing has changed but what an election may. -/
structure Elects (s t : State) : Prop where
  gv : t.gv.sansElection = s.gv.sansElection

theorem Governor.sansElection_keeps {g h : Governor} (same : g.sansElection = h.sansElection) : g.peers = h.peers ∧ g.dupMs = h.dupMs ∧
    g.ok = h.ok ∧ g.shelf = h.shelf :=
  ⟨(congrArg Governor.peers same :), (congrArg Governor.dupMs same :), (congrArg Governor.ok same :), (congrArg Governor.shelf same :)⟩

section
variable {s t v : State}

theorem Elects.refl (s : State) : Elects s s := ⟨rfl⟩

theorem Elects.trans (first : Elects s t) (second : Elects t v) : Elects s v := ⟨second.gv.trans first.gv⟩

theorem Elects.cond {c : Prop} [Decidable c] (yes : Elects s t) (no : Elects s v) : Elects s (if c then t else v) := by
  split <;> assumption

theorem Elects.foldl {α : Type} {f : State → α → State} (each : ∀ v a, Elects v (f v a)) (l : List α) (s : State) :
    Elects s (l.foldl f s) := foldl_kept .refl (fun _ _ _ => .trans) each l s

theorem Elects.of_touch {F : Nat} (g : Touch F s t) (gv : F.testBit 11 = false) : Elects s t :=
  ⟨congrArg Governor.sansElection (comp_bit g.gv gv)⟩

theorem Elects.peers (e : Elects s t) : t.gv.peers = s.gv.peers := (Governor.sansElection_keeps e.gv).1

theorem Elects.dupMs (e : Elects s t) : t.gv.dupMs = s.gv.dupMs := (Governor.sansElection_keeps e.gv).2.1

end

section
variable (s : State)

theorem State.driveSnuff_elects (on : Bool) : Elects s (s.driveSnuff on) := by
  unfold State.driveSnuff
  refine .cond (.refl s) ?_
  exact .trans (t := (s.setGv (fun g => { g with snuffOut := on, relRun := 0 })).emit (.pin "SNUFF_N" (!on))) ⟨rfl⟩
    (.of_touch (State.record_touch ..) rfl)

theorem State.sendAlert_elects (kind : Nat) : Elects s (s.sendAlert kind) := .of_touch (State.rackSend_touch ..) rfl

theorem State.endThrottles_elects (l : List Endpoint) : Elects s (l.foldl State.endThrottle s) := by
  constructor
  rw [State.endThrottles_gv]
  rfl

theorem State.sendShare_elects (final : Bool) : Elects s (s.sendShare final) := by
  unfold State.sendShare
  dsimp only
  refine .trans (.trans ?_ (.of_touch (State.rackSend_touch ..) rfl)) (.foldl (fun v b => .of_touch (State.rackSend_touch ..) rfl) _ _)
  exact ⟨rfl⟩

theorem State.yieldLead_elects (final : Bool) : Elects s (s.yieldLead final) := by
  unfold State.yieldLead
  dsimp only
  refine .cond (.refl s) ?_
  have released : Elects s (if s.gv.snuffOut then (s.driveSnuff false).sendAlert 1 else s) :=
    .cond (.trans (s.driveSnuff_elects false) (State.sendAlert_elects _ 1)) (.refl s)
  generalize (if s.gv.snuffOut then (s.driveSnuff false).sendAlert 1 else s) = v at released ⊢
  have ended := v.endThrottles_elects v.gv.eps
  generalize v.gv.eps.foldl State.endThrottle v = w at ended ⊢
  have told : Elects w (if final then w.sendShare true else w) := .cond (w.sendShare_elects true) (.refl w)
  generalize (if final then w.sendShare true else w) = x at told ⊢
  exact ((released.trans ended).trans told).trans ⟨rfl⟩

theorem State.follow_elects : Elects s s.follow := by
  unfold State.follow
  dsimp only
  split <;> exact ⟨rfl⟩

theorem State.sendElect_elects : Elects s s.sendElect := .trans (t := s.setGv fun g => { g with
    maxEpoch := s.gv.maxEpoch + 1, claim := some (s.gv.maxEpoch + 1), lowMs := 0 }) ⟨rfl⟩ (.of_touch (State.rackSend_touch ..) rfl)

/-- The lead's own part of an election: it yields where it is no longer eligible, or meets a duplicate or an older claim (R217). -/
def State.leadRules : State :=
  if s.gv.role = 2 then
    if !s.eligible then s.yieldLead true
    else if s.gv.dupMs ≠ 0 ∨ ((s.gv.peers.map (·.2)).filter (·.lead)).any
        (fun x => x.epoch == s.gv.leadEpoch && decide (x.shelf < s.gv.shelf)) then s.yieldLead false
    else s
  else s

theorem State.leadRules_elects : Elects s s.leadRules :=
  .cond (.cond (s.yieldLead_elects true) (.cond (s.yieldLead_elects false) (.refl s))) (.refl s)

/-- The part of an election of a shelf that does not lead (R217), by the views `leads` of leads and the governor before it. -/
def State.claimRules (leads : List ShelfView) (g : Governor) (tick : Bool) : State :=
  if s.gv.dupMs ≠ 0 ∨ ¬ s.lowest ∨ leads.any (fun x => decide (x.shelf ≤ g.shelf)) then
    s.setGv (fun g' => { g' with lowMs := 0, claim := if g'.dupMs ≠ 0 ∨ ¬ s.eligible then none else g'.claim })
  else if s.gv.claim.isSome then s
  else if leads.isEmpty then s.sendElect
  else
    let n := if tick then s.gv.lowMs + 1 else s.gv.lowMs
    if g.leadReturn ≤ n then s.sendElect else s.setGv (fun g => { g with lowMs := n })

theorem State.claimRules_elects (leads : List ShelfView) (g : Governor) (tick : Bool) : Elects s (s.claimRules leads g tick) :=
  .cond ⟨rfl⟩ (.cond (.refl s) (.cond s.sendElect_elects (.cond s.sendElect_elects ⟨rfl⟩)))

theorem State.electRules_eq (tick : Bool) : s.electRules tick = if s.leadRules.isLead then s.leadRules else
    s.leadRules.follow.claimRules ((s.gv.peers.map (·.2)).filter (·.lead)) s.gv tick := rfl

theorem State.electRules_elects (tick : Bool) : Elects s (s.electRules tick) := by
  rw [s.electRules_eq]
  exact .cond s.leadRules_elects ((s.leadRules_elects.trans (State.follow_elects _)).trans (State.claimRules_elects _ _ _ _))

theorem State.elect_elects (tick : Bool) : Elects s (s.elect tick) := by
  unfold State.elect
  exact .cond (.refl s) (.cond (s.electRules_elects tick) (.trans (s.yieldLead_elects false) ⟨rfl⟩))

end

end Sys2Proof.Machine
end

section
/-!
R169, R172 to R193, Tables 7-1 and 11-4: the steps of the Planisher, ride-through, absence and the silence of a peer.
-/

namespace Sys2Proof.Machine

open Sys2Proof

/-! ### Bits set one after another -/

theorem bitAt_setBit_true (v k : Nat) : bitAt (setBit v k true) k = true := by
  unfold bitAt setBit
  split
  next set => simpa using set
  next clear =>
    rw [if_pos rfl, Nat.add_comm, Nat.testBit_two_pow_add_eq]
    simpa using clear

/-- Setting a bit clears no other one. -/
theorem bitAt_setBit_true_of (v k j : Nat) (on : bitAt v j = true) : bitAt (setBit v k true) j = true := by
  unfold bitAt setBit at *
  split
  next => simpa using on
  next clear =>
    rw [if_pos rfl]
    rcases Nat.lt_trichotomy j k with below | same | above
    · rw [Nat.add_comm, Nat.testBit_two_pow_add_gt below, on]
    · exact absurd (same ▸ on) clear
    · have even : v / 2 ^ k % 2 = 0 := by
        rw [Nat.testBit_eq_decide_div_mod_eq, decide_eq_true_eq] at clear
        omega
      have above_same : (v + 2 ^ k) / 2 ^ (k + 1) = v / 2 ^ (k + 1) := by
        rw [Nat.pow_succ, ← Nat.div_div_eq_div_mul, ← Nat.div_div_eq_div_mul, Nat.add_div_right v (Nat.two_pow_pos k)]
        omega
      have split_ : j = (j - (k + 1)) + (k + 1) := by omega
      rw [split_, ← Nat.testBit_div_two_pow, above_same, Nat.testBit_div_two_pow, ← split_, on]

/-! ### What the steps read and do not change -/

section
variable {F : Nat} {s t : State}

/-- Power and figures of the shelf's groups depend on its ports, its groups and its shelf alone. -/
theorem Touch.availW_eq (g : Touch F s t) (ports : F.testBit 5 = false) (groups : F.testBit 6 = false) (shelf : F.testBit 7 = false)
    (k : Nat) : t.availW k = s.availW k := by
  have group : t.group k = s.group k := g.group_eq groups k
  have port : t.port = s.port := funext (g.port_eq ports)
  unfold State.availW State.factor State.activeMembers State.members
  rw [group, port, g.part, comp_bit g.sh shelf]

theorem Touch.gridGroup_eq (g : Touch F s t) (groups : F.testBit 6 = false) : t.gridGroup = s.gridGroup := by
  unfold State.gridGroup
  rw [funext (g.group_eq groups)]

theorem Touch.availGrid_eq (g : Touch F s t) (ports : F.testBit 5 = false) (groups : F.testBit 6 = false)
    (shelf : F.testBit 7 = false) : t.availGrid = s.availGrid := by
  unfold State.availGrid
  rw [g.gridGroup_eq groups]
  cases s.gridGroup with
  | none => rfl
  | some k => exact congrArg Nat.cast (g.availW_eq ports groups shelf k)

theorem Touch.pg_eq (g : Touch F s t) (groups : F.testBit 6 = false) : t.pg = s.pg := by
  unfold State.pg
  rw [g.gridGroup_eq groups]
  cases s.gridGroup with
  | none => rfl
  | some k => exact congrArg (fun G : Group => G.tp.avg1) (g.group_eq groups k)

end

/-- What the Planisher's steps leave as it was: its mode, its limits and budget, the request, and what a step has taken. -/
structure Planisher.Steady (p q : Planisher) : Prop where
  mode : q.mode = p.mode
  modeNext : q.modeNext = p.modeNext
  absent : q.absent = p.absent
  resume : q.resume = p.resume
  lim : q.lim = p.lim
  budget : q.budget = p.budget
  gReq : q.gReq = p.gReq

theorem Planisher.Steady.trans {p q r : Planisher} (a : p.Steady q) (b : q.Steady r) : p.Steady r :=
  ⟨b.mode.trans a.mode, b.modeNext.trans a.modeNext, b.absent.trans a.absent, b.resume.trans a.resume, b.lim.trans a.lim,
    b.budget.trans a.budget, b.gReq.trans a.gReq⟩

/-- As `Steady`, with ride-through, the grid target and the trim. -/
structure Planisher.Held (p q : Planisher) : Prop where
  steady : p.Steady q
  ride : q.ride = p.ride
  g : q.g = p.g
  trim : q.trim = p.trim

theorem Planisher.Held.trans {p q r : Planisher} (a : p.Held q) (b : q.Held r) : p.Held r :=
  ⟨a.steady.trans b.steady, b.ride.trans a.ride, b.g.trans a.g, b.trim.trans a.trim⟩

/-! ### The parts of a fast step (R181) -/

section
variable (s : State)

/-- The grid target seeded where an absence has been (R180). -/
def State.resumed : State :=
  if s.pl.absent || s.pl.resume then (s.seedGrid).setPl (fun p => { p with absent := false, resume := false }) else s

/-- Guard slots, band flags and the load term of a fast step (R175, R176, R182, R186). -/
def State.measured : State :=
  let s := s.guardStep.bandStep
  let l := s.loadTerm
  (s.setPl (fun p => { p with l := l.1, fcUsed := l.2 })).forecastCheck l.1 l.2

/-- The band of the shelf holds its set-point at 0 (R182). -/
def State.banded : Bool :=
  !s.pl.ride && ((s.pl.atFloor && decide (0 < s.setPoint)) || (s.pl.atCeil && decide (s.setPoint < 0)))

/-- The shelf's own set-point in force (R181, R182). -/
def State.aimed : State := s.setPl (fun p => { p with p := if s.banded then 0 else s.setPoint })

/-- The trim integrated, unless the step stood clamped (R181). -/
def State.trimmed (band held : Bool) : State :=
  s.setPl (fun p =>
    let step := divRne ((s.pg10 - p.gPub) * 10) (p.trimTau * 1000)
    { p with
      trim := if p.mode = 0 ∧ ¬ p.ride ∧ ¬ band ∧ ¬ held then clampI (-(p.trimMax : Int)) p.trimMax (p.trim + step) else p.trim
      winClamp := p.winClamp && (band || held || s.noStorage) })

/-- The set-point of a fast step, its groups' and the trim (R181 to R183). -/
def State.dispatched : State :=
  s.aimed.writeSets.trimmed s.banded (s.aimed.strings.any (fun x => (s.aimed.shareOf x).2))

theorem State.resumed_touch : Touch 0x200 s s.resumed := by
  unfold State.resumed
  exact .cond ((s.seedGrid_touch.mono rfl).step (State.setPl_touch ..) rfl) (Touch.refl _ s)

theorem State.resumed_says : s.resumed.pl.absent = false ∧ s.resumed.pl.resume = false ∧ s.resumed.pl.mode = s.pl.mode ∧
    s.resumed.pl.modeNext = s.pl.modeNext ∧ s.resumed.pl.ride = s.pl.ride ∧ s.resumed.pl.lim = s.pl.lim ∧
    (s.resumed.pl.trim = s.pl.trim ∨ s.resumed.pl.trim = 0) := by
  unfold State.resumed
  split
  · exact ⟨rfl, rfl, rfl, rfl, rfl, rfl, .inr rfl⟩
  next none =>
    simp only [Bool.or_eq_true, not_or, Bool.not_eq_true] at none
    exact ⟨none.1, none.2, rfl, rfl, rfl, rfl, .inl rfl⟩

theorem State.guardStep_says : ∃ l, s.guardStep.pl = { s.pl with strs := l } := by
  unfold State.guardStep
  dsimp only
  generalize folded : s.pl.strs.foldl (fun s x => if x.2.wasOff && (s.group x.1).state != .off then s.closeGuard x.2 else s) s = v
  have kept : Touch 0x10 s v := folded ▸ (Touch.refl _ s).foldl fun v x => Touch.cond ((v.closeGuard_touch x.2).mono rfl) (Touch.refl _ v)
  have same : v.pl = s.pl := comp_bit kept.pl rfl
  unfold State.setPl
  rw [same]
  exact ⟨_, rfl⟩

theorem State.measured_held : s.pl.Held s.measured.pl := by
  obtain ⟨l, guards⟩ := s.guardStep_says
  have first : s.pl.Held s.guardStep.pl := by
    rw [guards]
    exact ⟨⟨rfl, rfl, rfl, rfl, rfl, rfl, rfl⟩, rfl, rfl, rfl⟩
  have second : s.guardStep.pl.Held s.measured.pl := ⟨⟨rfl, rfl, rfl, rfl, rfl, rfl, rfl⟩, rfl, rfl, rfl⟩
  exact first.trans second

theorem State.measured_touch : Touch 0x210 s s.measured :=
  ((s.guardStep_touch.step (State.bandStep_touch _) rfl).step (State.setPl_touch ..) rfl).step (State.forecastCheck_touch ..) rfl

theorem State.enterRide_steady : s.pl.Steady s.enterRide.pl ∧ s.enterRide.pl.trim = s.pl.trim := by
  unfold State.enterRide
  rw [comp_bit (State.record_touch ..).pl rfl]
  exact ⟨⟨rfl, rfl, rfl, rfl, rfl, rfl, rfl⟩, rfl⟩

theorem State.rideStep_steady : s.pl.Steady s.rideStep.pl ∧ s.rideStep.pl.trim = s.pl.trim := by
  have after (f : Planisher → Nat) : let v := s.setPl (fun p => { p with dropRun := f p })
      s.pl.Steady (if 2 ≤ v.pl.dropRun then v.enterRide else v).pl ∧ (if 2 ≤ v.pl.dropRun then v.enterRide else v).pl.trim = s.pl.trim := by
    intro v
    split
    · exact ⟨.trans (q := v.pl) ⟨rfl, rfl, rfl, rfl, rfl, rfl, rfl⟩ v.enterRide_steady.1, v.enterRide_steady.2⟩
    · exact ⟨⟨rfl, rfl, rfl, rfl, rfl, rfl, rfl⟩, rfl⟩
  unfold State.rideStep
  dsimp only
  split
  · exact ⟨⟨rfl, rfl, rfl, rfl, rfl, rfl, rfl⟩, rfl⟩
  · exact after _

theorem State.rideStep_barred (barred : s.canRide = false) : s.rideStep = s.setPl (fun p => { p with dropRun := 0 }) := by
  unfold State.rideStep
  rw [if_pos (by simp [barred])]

/-- The grid target of a step toward the request, at most what the budget and the grid groups allow (R179). -/
def Planisher.gNext (p : Planisher) (avail : Int) : Int :=
  min (if p.mode ≠ 0 then p.g else if p.g < p.gReq * 1000000 then min (p.g + p.ramp * 10) (p.gReq * 1000000)
    else max (p.g - p.ramp * 10) (p.gReq * 1000000)) (min p.budget avail * 1000000)

theorem State.gStep_says : s.pl.Steady s.gStep.pl ∧ s.gStep.pl.trim = s.pl.trim ∧ s.gStep.pl.ride = s.pl.ride ∧
    (s.pl.ride = true → s.gStep.pl.g = 0 ∧ s.gStep.pl.gPub = 0) ∧ (s.pl.ride = false → s.gStep.pl.g = s.pl.gNext s.availGrid) := by
  unfold State.gStep State.setPl
  dsimp only
  cases riding : s.pl.ride with
  | true => exact ⟨⟨rfl, rfl, rfl, rfl, rfl, rfl, rfl⟩, rfl, rfl, fun _ => ⟨rfl, rfl⟩, fun not => (nomatch not)⟩
  | false => exact ⟨⟨rfl, rfl, rfl, rfl, rfl, rfl, rfl⟩, rfl, rfl, fun not => (nomatch not), fun _ => rfl⟩

/-! ### The set-points of the storage groups (R183) -/

/-- The set-point that a group has by its string record (R183). -/
def State.setOf (g : Nat) : Int := match s.strings.find? (fun x => x.1 == g) with
  | some x => (s.shareOf x).1
  | none => 0

theorem State.setOf_bounds (g : Nat) : -(s.availW g : Int) ≤ s.setOf g ∧ s.setOf g ≤ s.availW g ∧ (s.pl.mode = 2 → s.setOf g = 0) := by
  unfold State.setOf
  split
  next x found =>
    have is : x.1 = g := by simpa using List.find?_some found
    unfold State.shareOf
    dsimp only
    split
    · exact ⟨by omega, by omega, fun _ => rfl⟩
    next on =>
      rw [is]
      exact ⟨Int.le_max_left _ _, Int.max_le.mpr ⟨by omega, Int.min_le_left _ _⟩, fun off => absurd off on⟩
  · exact ⟨by omega, by omega, fun _ => rfl⟩

/-- One storage group's set-point written (R183). -/
def State.writeSet (v : State) (g : Nat) : State :=
  if (v.group g).gtype = 3 then
    { v with le := { v.le with xinVal := v.le.xinVal.set (g + 1) (v.setOf g), xinValid := setBit v.le.xinValid (g + 1) true } }
  else v

theorem State.writeSets_eq : s.writeSets = (List.range 16).foldl State.writeSet s := rfl

theorem State.writeSet_le (v : State) (g : Nat) : ∃ l, v.writeSet g = { v with le := l } := by
  unfold State.writeSet
  split
  · exact ⟨_, rfl⟩
  · exact ⟨v.le, rfl⟩

/-- A storage group has its set-point of a state written, with its bit. -/
structure State.Written (v : State) (g : Nat) : Prop where
  valid : bitAt v.le.xinValid (g + 1) = true
  value : nth v.le.xinVal (g + 1) 0 = s.setOf g ∨ nth v.le.xinVal (g + 1) 0 = 0

theorem nth_set_same (l : List Int) (k : Nat) (v : Int) : nth (l.set k v) k 0 = v ∨ nth (l.set k v) k 0 = 0 := by
  unfold nth
  rw [List.getD_eq_getElem?_getD, List.getElem?_set_self']
  cases l[k]? with
  | none => exact .inr rfl
  | some => exact .inl rfl

theorem nth_set_other (l : List Int) {k j : Nat} (other : k ≠ j) (v : Int) : nth (l.set k v) j 0 = nth l j 0 := by
  unfold nth
  rw [List.getD_eq_getElem?_getD, List.getElem?_set_ne other, List.getD_eq_getElem?_getD]

theorem State.writeSet_same (e : LoopEngine) {g : Nat} (storage : (s.group g).gtype = 3) :
    s.Written (({ s with le := e } : State).writeSet g) g := by
  unfold State.writeSet
  split
  · exact ⟨bitAt_setBit_true _ _, nth_set_same _ _ _⟩
  next not => exact absurd storage not

/-- Another set-point written leaves the first. -/
theorem State.Written.writeSet {s : State} {e : LoopEngine} {g : Nat} (has : s.Written { s with le := e } g) (k : Nat) :
    s.Written (({ s with le := e } : State).writeSet k) g := by
  unfold State.writeSet
  split
  · refine ⟨bitAt_setBit_true_of _ _ _ has.valid, ?_⟩
    by_cases same : k = g
    · exact same ▸ nth_set_same _ _ _
    · exact (nth_set_other e.xinVal (k := k + 1) (j := g + 1) (by omega) (s.setOf k)).symm ▸ has.value
  · exact has

/-- Writing the set-points of some groups gives each storage group among them its own. -/
theorem State.writeSet_foldl (e : LoopEngine) (l : List Nat) (g : Nat) (storage : (s.group g).gtype = 3)
    (has : g ∈ l ∨ s.Written { s with le := e } g) : s.Written (l.foldl State.writeSet { s with le := e }) g := by
  induction l generalizing e with
  | nil => exact has.resolve_left (List.not_mem_nil)
  | cons k l ih =>
    obtain ⟨e', next⟩ := ({ s with le := e } : State).writeSet_le k
    have reduced : ({ s with le := e } : State).writeSet k = { s with le := e' } := next
    rw [List.foldl_cons, reduced]
    refine ih e' ?_
    rcases has with member | has
    · rcases List.mem_cons.mp member with here | later
      · exact .inr (reduced ▸ here ▸ s.writeSet_same e storage)
      · exact .inl later
    · exact .inr (reduced ▸ has.writeSet k)

theorem State.writeSets_written {g : Nat} (low : g < 16) (storage : (s.group g).gtype = 3) : s.Written s.writeSets g := by
  rw [s.writeSets_eq]
  exact s.writeSet_foldl s.le (List.range 16) g storage (.inl (List.mem_range.mpr low))

/-! ### The whole fast step -/

theorem State.trimmed_says (band held : Bool) : s.pl.Steady (s.trimmed band held).pl ∧ (s.trimmed band held).pl.ride = s.pl.ride ∧
    (s.trimmed band held).pl.g = s.pl.g ∧ (s.trimmed band held).pl.gPub = s.pl.gPub ∧ (s.trimmed band held).le = s.le ∧
    (-(s.pl.trimMax : Int) ≤ s.pl.trim → s.pl.trim ≤ s.pl.trimMax →
      -(s.pl.trimMax : Int) ≤ (s.trimmed band held).pl.trim ∧ (s.trimmed band held).pl.trim ≤ s.pl.trimMax) := by
  refine ⟨⟨rfl, rfl, rfl, rfl, rfl, rfl, rfl⟩, rfl, rfl, rfl, rfl, fun above below => ?_⟩
  unfold State.trimmed State.setPl
  dsimp only
  split
  · exact ⟨Int.le_max_left _ _, Int.max_le.mpr ⟨by omega, Int.min_le_left _ _⟩⟩
  · exact ⟨above, below⟩

theorem State.aimed_set : s.pl.Held s.aimed.writeSets.pl ∧ s.aimed.writeSets.pl.gPub = s.pl.gPub := by
  rw [(comp_bit (State.writeSets_touch _).pl rfl : s.aimed.writeSets.pl = s.aimed.pl)]
  exact ⟨⟨⟨rfl, rfl, rfl, rfl, rfl, rfl, rfl⟩, rfl, rfl, rfl⟩, rfl⟩

theorem State.dispatched_pl : s.pl.Steady s.dispatched.pl ∧ s.dispatched.pl.ride = s.pl.ride ∧ s.dispatched.pl.g = s.pl.g ∧
    s.dispatched.pl.gPub = s.pl.gPub ∧
    (-(s.pl.trimMax : Int) ≤ s.pl.trim → s.pl.trim ≤ s.pl.trimMax →
      -(s.pl.trimMax : Int) ≤ s.dispatched.pl.trim ∧ s.dispatched.pl.trim ≤ s.pl.trimMax) := by
  obtain ⟨set_, gPub⟩ := s.aimed_set
  have max : s.aimed.writeSets.pl.trimMax = s.pl.trimMax := congrArg (fun l : List Nat => nth l 13 0) set_.steady.lim
  obtain ⟨steady, ride, g, pub, -, trim⟩ :=
    s.aimed.writeSets.trimmed_says s.banded (s.aimed.strings.any (fun x => (s.aimed.shareOf x).2))
  rw [max, set_.trim] at trim
  exact ⟨set_.steady.trans steady, ride.trans set_.ride, g.trans set_.g, pub.trans gPub, trim⟩

/-- Every storage group has a set-point within what it can give (R183). -/
theorem State.dispatched_le {g : Nat} (low : g < 16) (storage : (s.group g).gtype = 3) :
    bitAt s.dispatched.le.xinValid (g + 1) = true ∧
      -(s.availW g : Int) ≤ nth s.dispatched.le.xinVal (g + 1) 0 ∧ nth s.dispatched.le.xinVal (g + 1) 0 ≤ s.availW g ∧
      (s.pl.mode = 2 → nth s.dispatched.le.xinVal (g + 1) 0 = 0) := by
  obtain ⟨-, -, -, -, le, -⟩ :=
    s.aimed.writeSets.trimmed_says s.banded (s.aimed.strings.any (fun x => (s.aimed.shareOf x).2))
  have has := s.aimed.writeSets_written low storage
  obtain ⟨least, most, off⟩ := s.aimed.setOf_bounds g
  have touched : Touch 0x200 s s.aimed := State.setPl_touch ..
  rw [touched.availW_eq rfl rfl rfl g] at least most
  have off : s.pl.mode = 2 → s.aimed.setOf g = 0 := off
  unfold State.dispatched
  rw [le]
  refine ⟨has.valid, ?_⟩
  rcases has.value with is | none
  · rw [is]
    exact ⟨least, most, off⟩
  · rw [none]
    exact ⟨by omega, by omega, fun _ => rfl⟩

/-! ### A mode put in force (R169) -/

theorem State.endRide_says : s.endRide.pl = { s.pl with
      ride := false, dropRun := 0, g := min s.pg (min s.pl.budget s.availGrid) * 1000000, trim := 0, seeded := true } ∧
    Newest s s.endRide 0x0502 1 kNone 0 (leBytes 1 0) :=
  ⟨comp_bit (State.record_touch ..).pl rfl, State.record_newest ..⟩

/-- The state with its new mode, the commands that wait for it answered (R169). -/
def State.moded (m : Nat) : State :=
  (s.setPl (fun p => { p with mode := m, modeNext := none })).completeWhere (· == Wait.storeMode) stOk 0

theorem State.moded_pl (m : Nat) : (s.moded m).pl = { s.pl with mode := m, modeNext := none } :=
  comp_bit (State.completeWhere_touch ..).pl rfl

theorem State.takeMode_some {m : Nat} (next : s.pl.modeNext = some m) :
    s.takeMode = if m = 2 ∧ s.pl.ride then (s.moded m).endRide else s.moded m := by
  have ride : (s.moded m).pl.ride = s.pl.ride := by rw [s.moded_pl]
  unfold State.takeMode
  rw [next]
  show (if m = 2 ∧ (s.moded m).pl.ride then (s.moded m).endRide else s.moded m) = _
  rw [ride]

theorem State.takeMode_none (next : s.pl.modeNext = none) : s.takeMode = s := by
  unfold State.takeMode
  rw [next]

theorem State.takeMode_says : s.takeMode.pl.modeNext = none ∧ s.takeMode.pl.mode = s.pl.modeNext.getD s.pl.mode ∧
    s.takeMode.pl.lim = s.pl.lim ∧ (s.takeMode.pl.trim = s.pl.trim ∨ s.takeMode.pl.trim = 0) ∧
    s.takeMode.pl.ride = (s.pl.ride && s.pl.modeNext != some 2) := by
  cases next : s.pl.modeNext with
  | none =>
    rw [s.takeMode_none next]
    exact ⟨next, rfl, rfl, .inl rfl, by simp⟩
  | some m =>
    rw [s.takeMode_some next]
    split
    next ends =>
      rw [(s.moded m).endRide_says.1, s.moded_pl]
      exact ⟨rfl, rfl, rfl, .inr rfl, by simp [ends.1]⟩
    next on =>
      rw [s.moded_pl]
      refine ⟨rfl, rfl, rfl, .inl rfl, ?_⟩
      show s.pl.ride = _
      cases ride : s.pl.ride with
      | false => rfl
      | true =>
        have other : m ≠ 2 := fun is => on ⟨is, ride⟩
        simp [other]

/-- The commands that wait for a mode are answered with it. -/
theorem State.takeMode_answers {m : Nat} (next : s.pl.modeNext = some m) :
    ∀ f ∈ s.hq.inflight, f.wait = .storeMode → Answered s s.takeMode f.hdr stOk 0 := fun f member waits => by
  have answered : Answered s (s.moded m) f.hdr stOk 0 :=
    State.completeWhere_answersSince (State.setPl_touch s _) rfl rfl stOk 0 f member waits
  rw [s.takeMode_some next]
  split
  · exact Answered.later answered (State.endRide_touch _)
  · exact answered

/-- A ride-through that the mode OFF ends is told (R188). -/
theorem State.takeMode_off (ride : s.pl.ride = true) (next : s.pl.modeNext = some 2) :
    Newest s s.takeMode 0x0502 1 kNone 0 (leBytes 1 0) := by
  rw [s.takeMode_some next, if_pos ⟨rfl, ride⟩]
  have moded : Touch 0x810200 s (s.moded 2) := ((State.setPl_touch s _).mono rfl).step (State.completeWhere_touch ..) rfl
  exact Newest.before moded (s.moded 2).endRide_says.2 (comp_bit moded.ev rfl) rfl rfl

/-! ### Ride-through, grid target and set-points of a fast step -/

theorem State.dispatched_touch : Touch 0x210 s s.dispatched := by
  have aimed : Touch 0x200 s s.aimed := State.setPl_touch ..
  unfold State.dispatched
  generalize (s.aimed.strings.any (fun x => (s.aimed.shareOf x).2)) = held
  have trimmed : Touch 0x200 s.aimed.writeSets (s.aimed.writeSets.trimmed s.banded held) := State.setPl_touch ..
  exact ((aimed.mono rfl).step (State.writeSets_touch _) rfl).step trimmed rfl

/-- A fast step from where ride-through is looked at. -/
def State.ridden : State := s.rideStep.gStep.dispatched

theorem State.ridden_steady : s.pl.Steady s.ridden.pl :=
  (s.rideStep_steady.1.trans s.rideStep.gStep_says.1).trans s.rideStep.gStep.dispatched_pl.1

theorem State.ridden_touch : Touch 0x814210 s s.ridden := by
  exact ((s.rideStep_touch.mono rfl).step (State.gStep_touch _) rfl).step (State.dispatched_touch _) rfl

/-- A step that rides through leaves no grid target (R187). -/
theorem State.ridden_rides (ride : s.pl.ride = true) : s.ridden.pl.ride = true ∧ s.ridden.pl.g = 0 ∧ s.ridden.pl.gPub = 0 := by
  have barred : s.canRide = false := by simp [State.canRide, ride]
  have still : s.rideStep.pl.ride = true := by rw [s.rideStep_barred barred]; exact ride
  obtain ⟨-, ride', g', pub', -⟩ := s.rideStep.gStep.dispatched_pl
  obtain ⟨-, -, ride'', zero, -⟩ := s.rideStep.gStep_says
  obtain ⟨g'', pub''⟩ := zero still
  exact ⟨ride'.trans (ride''.trans still), g'.trans g'', pub'.trans pub''⟩

/-- A step that no ride-through begins in moves the grid target (R179), and has nothing to tell. -/
theorem State.ridden_stays (idle : s.pl.ride = false) (barred : s.canRide = false) : s.ridden.pl.ride = false ∧
    s.ridden.pl.g = s.pl.gNext s.availGrid := by
  have eq := s.rideStep_barred barred
  have avail : s.rideStep.availGrid = s.availGrid := s.rideStep_touch.availGrid_eq rfl rfl rfl
  have next' : s.rideStep.pl.gNext s.availGrid = s.pl.gNext s.availGrid := by rw [eq]; rfl
  have still : s.rideStep.pl.ride = false := by rw [eq]; exact idle
  obtain ⟨-, ride', g', -⟩ := s.rideStep.gStep.dispatched_pl
  obtain ⟨-, -, ride'', -, next⟩ := s.rideStep.gStep_says
  refine ⟨ride'.trans (ride''.trans still), g'.trans ?_⟩
  rw [next still, avail, next']

theorem State.ridden_ev (barred : s.canRide = false) : s.ridden.ev = s.ev := by
  have tail (v : State) : v.gStep.dispatched.ev = v.ev := by
    have touched : Touch 0x210 v v.gStep.dispatched := (v.gStep_touch.mono rfl).step (State.dispatched_touch _) rfl
    exact comp_bit touched.ev rfl
  unfold State.ridden
  rw [tail, s.rideStep_barred barred]
  rfl

theorem State.ridden_trim {m : Nat} (max : s.pl.trimMax = m) (least : -(m : Int) ≤ s.pl.trim) (most : s.pl.trim ≤ m) :
    -(m : Int) ≤ s.ridden.pl.trim ∧ s.ridden.pl.trim ≤ m := by
  obtain ⟨steady, trim'⟩ := s.rideStep_steady
  obtain ⟨steady', trim'', -⟩ := s.rideStep.gStep_says
  obtain ⟨-, -, -, -, bounded⟩ := s.rideStep.gStep.dispatched_pl
  have max' : s.rideStep.gStep.pl.trimMax = m :=
    (congrArg (fun l : List Nat => nth l 13 0) (steady'.lim.trans steady.lim)).trans max
  rw [max', trim'', trim'] at bounded
  exact bounded least most

theorem State.ridden_sets {g : Nat} (low : g < 16) (storage : (s.group g).gtype = 3) :
    bitAt s.ridden.le.xinValid (g + 1) = true ∧
      -(s.availW g : Int) ≤ nth s.ridden.le.xinVal (g + 1) 0 ∧ nth s.ridden.le.xinVal (g + 1) 0 ≤ s.availW g ∧
      (s.ridden.pl.mode = 2 → nth s.ridden.le.xinVal (g + 1) 0 = 0) := by
  have touched : Touch 0x814210 s s.rideStep.gStep := (s.rideStep_touch.mono rfl).step (State.gStep_touch _) rfl
  have mode : s.ridden.pl.mode = s.rideStep.gStep.pl.mode := s.rideStep.gStep.dispatched_pl.1.mode
  have group : s.rideStep.gStep.group g = s.group g := touched.group_eq rfl g
  rw [mode, ← touched.availW_eq rfl rfl rfl g]
  exact s.rideStep.gStep.dispatched_le low (group ▸ storage)

/-! ### The whole fast step (R181) -/

/-- The state of a fast step in which ride-through is looked at. -/
def State.surveyed : State := s.takeMode.resumed.measured

theorem State.fastStep_eq : s.fastStep = s.surveyed.ridden := rfl

theorem State.surveyed_since : Touch 0x210 s.takeMode s.surveyed := ((State.resumed_touch _).mono rfl).step (State.measured_touch _) rfl

theorem State.surveyed_touch : Touch 0x814210 s s.surveyed := (s.takeMode_touch.mono rfl).step s.surveyed_since rfl

theorem State.surveyed_says : s.surveyed.pl.absent = false ∧ s.surveyed.pl.resume = false ∧ s.surveyed.pl.modeNext = none ∧
    s.surveyed.pl.mode = s.pl.modeNext.getD s.pl.mode ∧ s.surveyed.pl.lim = s.pl.lim ∧
    s.surveyed.pl.ride = (s.pl.ride && s.pl.modeNext != some 2) ∧ (s.surveyed.pl.trim = s.pl.trim ∨ s.surveyed.pl.trim = 0) := by
  obtain ⟨modeNext, mode, lim, trim, ride⟩ := s.takeMode_says
  obtain ⟨absent, resume, mode', modeNext', ride', lim', trim'⟩ := s.takeMode.resumed_says
  obtain ⟨steady, ride'', -, trim''⟩ := s.takeMode.resumed.measured_held
  refine ⟨steady.absent.trans absent, steady.resume.trans resume, steady.modeNext.trans (modeNext'.trans modeNext),
    steady.mode.trans (mode'.trans mode), steady.lim.trans (lim'.trans lim), ride''.trans (ride'.trans ride), ?_⟩
  rcases trim' with kept | zero
  · exact trim.imp (trim''.trans <| kept.trans ·) (trim''.trans <| kept.trans ·)
  · exact .inr (trim''.trans zero)

/-- A fast step in which nothing new is taken looks at what was there. -/
theorem State.surveyed_plain (next : s.pl.modeNext = none) (here : s.pl.absent = false) (goes : s.pl.resume = false) :
    s.pl.Held s.surveyed.pl ∧ Touch 0x210 s s.surveyed := by
  have none_ := s.takeMode_none next
  have plain : s.resumed = s := by
    unfold State.resumed
    rw [here, goes]
    rfl
  have since := s.surveyed_since
  unfold State.surveyed at since ⊢
  rw [none_, plain] at since ⊢
  exact ⟨s.measured_held, since⟩

/-- Ride-through may be entered by mode, group and what is under way alone (R187). -/
theorem State.canRide_of {F : Nat} {t : State} (g : Touch F s t) (groups : F.testBit 6 = false) (held : s.pl.Held t.pl) :
    t.canRide = s.canRide := by
  unfold State.canRide
  rw [g.gridGroup_eq groups, held.steady.mode, held.ride]
  cases s.gridGroup with
  | none => rfl
  | some k =>
    dsimp only
    rw [g.group_eq groups]

theorem State.fastStep_taken : s.fastStep.pl.absent = false ∧ s.fastStep.pl.resume = false ∧ s.fastStep.pl.modeNext = none ∧
    s.fastStep.pl.mode = s.pl.modeNext.getD s.pl.mode := by
  obtain ⟨absent, resume, next, mode, -⟩ := s.surveyed_says
  have steady := s.surveyed.ridden_steady
  rw [s.fastStep_eq]
  exact ⟨steady.absent.trans absent, steady.resume.trans resume, steady.modeNext.trans next, steady.mode.trans mode⟩

theorem State.fastStep_rides (ride : s.pl.ride = true) (on : s.pl.modeNext ≠ some 2) :
    s.fastStep.pl.ride = true ∧ s.fastStep.pl.g = 0 ∧ s.fastStep.pl.gPub = 0 := by
  obtain ⟨-, -, -, -, -, riding, -⟩ := s.surveyed_says
  rw [s.fastStep_eq]
  exact s.surveyed.ridden_rides (by rw [riding, ride]; simpa using on)

/-- A step in which the mode OFF ends ride-through tells of it and begins none (R187, R188). -/
theorem State.fastStep_off (ride : s.pl.ride = true) (next : s.pl.modeNext = some 2) : s.fastStep.pl.ride = false ∧
    Newest s s.fastStep 0x0502 1 kNone 0 (leBytes 1 0) := by
  obtain ⟨-, -, -, mode, -, riding, -⟩ := s.surveyed_says
  have mode : s.surveyed.pl.mode = 2 := by rw [mode, next]; rfl
  have barred : s.surveyed.canRide = false := by simp [State.canRide, mode]
  have told := (s.takeMode_off ride next).kept s.surveyed_since rfl
  rw [s.fastStep_eq]
  refine ⟨(s.surveyed.ridden_stays (by rw [riding, next]; simp) barred).1, ?_⟩
  unfold Newest at told ⊢
  rw [s.surveyed.ridden_ev barred]
  exact told

theorem State.fastStep_follows (next : s.pl.modeNext = none) (here : s.pl.absent = false) (goes : s.pl.resume = false)
    (idle : s.pl.ride = false) (barred : s.canRide = false) : s.fastStep.pl.g = s.pl.gNext s.availGrid := by
  obtain ⟨held, touched⟩ := s.surveyed_plain next here goes
  have same : s.surveyed.pl.gNext s.availGrid = s.pl.gNext s.availGrid := by
    have ramp : s.surveyed.pl.ramp = s.pl.ramp := congrArg (fun l : List Nat => nth l 0 0) held.steady.lim
    unfold Planisher.gNext
    rw [held.steady.mode, held.g, held.steady.gReq, held.steady.budget, ramp]
  rw [s.fastStep_eq, (s.surveyed.ridden_stays (held.ride.trans idle) ((State.canRide_of s touched rfl held).trans barred)).2,
    touched.availGrid_eq rfl rfl rfl, same]

theorem State.fastStep_answers {m : Nat} (next : s.pl.modeNext = some m) :
    ∀ f ∈ s.hq.inflight, f.wait = .storeMode → Answered s s.fastStep f.hdr stOk 0 := fun f member waits => by
  rw [s.fastStep_eq]
  exact Answered.later (Answered.later (s.takeMode_answers next f member waits) s.surveyed_since) s.surveyed.ridden_touch

theorem State.fastStep_trim (least : -(s.pl.trimMax : Int) ≤ s.pl.trim) (most : s.pl.trim ≤ s.pl.trimMax) :
    -(s.pl.trimMax : Int) ≤ s.fastStep.pl.trim ∧ s.fastStep.pl.trim ≤ s.pl.trimMax := by
  obtain ⟨-, -, -, -, lim, -, trim⟩ := s.surveyed_says
  have max : s.surveyed.pl.trimMax = s.pl.trimMax := congrArg (fun l : List Nat => nth l 13 0) lim
  rw [s.fastStep_eq]
  rcases trim with same | zero
  · exact s.surveyed.ridden_trim max (by rw [same]; exact least) (by rw [same]; exact most)
  · exact s.surveyed.ridden_trim max (by omega) (by omega)

theorem State.fastStep_sets {g : Nat} (low : g < 16) (storage : (s.group g).gtype = 3) :
    bitAt s.fastStep.le.xinValid (g + 1) = true ∧
      -(s.availW g : Int) ≤ nth s.fastStep.le.xinVal (g + 1) 0 ∧ nth s.fastStep.le.xinVal (g + 1) 0 ≤ s.availW g ∧
      (s.fastStep.pl.mode = 2 → nth s.fastStep.le.xinVal (g + 1) 0 = 0) := by
  rw [s.fastStep_eq, ← s.surveyed_touch.availW_eq rfl rfl rfl g]
  exact s.surveyed.ridden_sets low (s.surveyed_touch.group_eq rfl g ▸ storage)

/-! ### The row, its parity and its roles -/

/-- The forecast's entry looked up leaves the Planisher and the commands in flight; without a parity error, the state. -/
theorem State.forecastParity_says (parity : Bool) (leadUs : Nat) : (s.forecastParity parity leadUs).pl = s.pl ∧
    (s.forecastParity parity leadUs).hq.inflight = s.hq.inflight ∧ (parity = false → s.forecastParity parity leadUs = s) := by
  refine ⟨comp_bit (s.forecastParity_touch parity leadUs).pl rfl, ?_, fun none_ => ?_⟩
  · unfold State.forecastParity State.pfParity
    split
    · exact State.record_inflight ..
    · rfl
  · unfold State.forecastParity
    rw [none_]
    rfl

end

/-! ### The slow step (R176, R177, R184, R190) -/

/-- What the slow step leaves of the Planisher while it reckons. -/
structure Planisher.Slow (p q : Planisher) : Prop where
  lim : q.lim = p.lim
  limNext : q.limNext = p.limNext
  laHist : q.laHist = p.laHist
  budget : q.budget = p.budget
  strs : q.strs = p.strs

theorem Planisher.Slow.trans {p q r : Planisher} (a : p.Slow q) (b : q.Slow r) : p.Slow r :=
  ⟨b.lim.trans a.lim, b.limNext.trans a.limNext, b.laHist.trans a.laHist, b.budget.trans a.budget, b.strs.trans a.strs⟩

theorem Planisher.Slow.refl (p : Planisher) : p.Slow p := ⟨rfl, rfl, rfl, rfl, rfl⟩

section
variable (s : State)

/-- The limits section that waits put in force, its commands answered (R171). -/
def State.limited : State := match s.pl.limNext with
  | some l => (s.setPl (fun p => { p with lim := l, limNext := none })).completeWhere (· == Wait.planLimits) stOk 0
  | none => s

/-- The window's output power remembered (R177). -/
def State.remembered : State := s.setPl (fun p => { p with laHist := (s.sh.outTele.avg1 :: p.laHist).take 1000 })

/-- The grid voltage stands outside its range (R187). -/
def State.gridOutside : Bool := match s.gridGroup with
  | some g => match s.avgSel (s.group g).pbIn with
    | some v => decide (v < (s.group g).vinMin) || decide ((s.group g).vinMax < v)
    | none => false
  | none => false

/-- Ride-through entered by the grid voltage, the grid target seeded, and the error energy of the window (R176, R180, R187). -/
def State.windowed : State :=
  let s := if s.canRide && s.gridOutside then s.enterRide else s
  let s := if !s.pl.ride && (s.pl.mode != 0 || s.pl.winClamp) then s.seedGrid else s
  (s.setPl (fun p => { p with winClamp := true })).forecastWindow

/-- The request of the slow step, with what follows from it (R177, R184, R190). -/
def State.requested : State :=
  let a := if s.pf.conf && s.rc.profile then s.pf.avg else s.pl.lastSecond
  let req := max 0 (min (a - s.socCorrection) (min s.pl.budget s.availGrid))
  let s := (s.setPl (fun p => { p with gReq := req })).requests
  s.setPl (fun p => { p with offer := s.fillOffer, socReg := s.soc })

theorem State.slowStep_eq : s.slowStep = s.limited.remembered.windowed.requested := rfl

theorem State.limited_says : s.limited.pl = { s.pl with lim := s.pl.limNext.getD s.pl.lim, limNext := none } ∧
    Touch 0x810200 s s.limited ∧ ∀ l, s.pl.limNext = some l →
      ∀ f ∈ s.hq.inflight, f.wait = .planLimits → Answered s s.limited f.hdr stOk 0 := by
  unfold State.limited
  cases next : s.pl.limNext with
  | none =>
    refine ⟨?_, Touch.refl _ s, fun l is => (nomatch is)⟩
    show s.pl = { s.pl with lim := s.pl.lim, limNext := none }
    rw [← next]
  | some l =>
    exact ⟨comp_bit (State.completeWhere_touch ..).pl rfl, ((State.setPl_touch s _).mono rfl).step (State.completeWhere_touch ..) rfl,
      fun _ _ => State.completeWhere_answersSince (State.setPl_touch s _) rfl rfl stOk 0⟩

theorem State.enterRide_slow : s.pl.Slow s.enterRide.pl := by
  unfold State.enterRide
  rw [comp_bit (State.record_touch ..).pl rfl]
  exact ⟨rfl, rfl, rfl, rfl, rfl⟩

theorem State.forecastWindow_slow : s.pl.Slow s.forecastWindow.pl ∧ s.forecastWindow.pl.winClamp = s.pl.winClamp := by
  unfold State.forecastWindow
  dsimp only
  split
  · rw [comp_bit (State.record_touch ..).pl rfl]
    exact ⟨⟨rfl, rfl, rfl, rfl, rfl⟩, rfl⟩
  · exact ⟨⟨rfl, rfl, rfl, rfl, rfl⟩, rfl⟩

theorem State.windowed_says : s.pl.Slow s.windowed.pl ∧ s.windowed.pl.winClamp = true ∧ Touch 0x814200 s s.windowed := by
  have entered (v : State) (c : Bool) : v.pl.Slow (if c then v.enterRide else v).pl ∧ Touch 0x814200 v (if c then v.enterRide else v) := by
    cases c with
    | false => exact ⟨.refl _, Touch.refl _ v⟩
    | true => exact ⟨v.enterRide_slow, v.enterRide_touch.mono rfl⟩
  have seeded (v : State) (c : Bool) : v.pl.Slow (if c then v.seedGrid else v).pl ∧ Touch 0x814200 v (if c then v.seedGrid else v) := by
    cases c with
    | false => exact ⟨.refl _, Touch.refl _ v⟩
    | true => exact ⟨⟨rfl, rfl, rfl, rfl, rfl⟩, v.seedGrid_touch.mono rfl⟩
  have clamped (v : State) : v.pl.Slow (v.setPl (fun p => { p with winClamp := true })).pl := ⟨rfl, rfl, rfl, rfl, rfl⟩
  unfold State.windowed
  dsimp only
  obtain ⟨kept, touched⟩ := entered s (s.canRide && s.gridOutside)
  generalize (if s.canRide && s.gridOutside then s.enterRide else s) = v at kept touched ⊢
  obtain ⟨kept', touched'⟩ := seeded v (!v.pl.ride && (v.pl.mode != 0 || v.pl.winClamp))
  generalize (if !v.pl.ride && (v.pl.mode != 0 || v.pl.winClamp) then v.seedGrid else v) = w at kept' touched' ⊢
  obtain ⟨kept'', clamp⟩ := (w.setPl (fun p => { p with winClamp := true })).forecastWindow_slow
  exact ⟨((kept.trans kept').trans (clamped w)).trans kept'', clamp,
    ((touched.step touched' rfl).step (State.setPl_touch w _) rfl).step (State.forecastWindow_touch _) rfl⟩

/-- The state of charge shown depends on the strings in force and the groups. -/
theorem State.soc_of {F : Nat} {t : State} (g : Touch F s t) (groups : F.testBit 6 = false) (strs : t.pl.strs = s.pl.strs) :
    t.soc = s.soc := by
  unfold State.soc State.noStorage State.eNow State.eUse State.strings State.dispatchable
  rw [strs, funext (g.group_eq groups)]

theorem State.requested_touch : Touch 0x200 s s.requested := by
  unfold State.requested
  dsimp only
  exact ((State.setPl_touch s _).step (State.requests_touch _) rfl).step (State.setPl_touch _ _) rfl

theorem State.requested_says : s.pl.Slow s.requested.pl ∧ s.requested.pl.winClamp = s.pl.winClamp ∧ 0 ≤ s.requested.pl.gReq ∧
    s.requested.pl.gReq ≤ max 0 (min s.pl.budget s.availGrid) ∧ s.requested.pl.socReg = s.soc := by
  refine ⟨⟨rfl, rfl, rfl, rfl, rfl⟩, rfl, Int.le_max_left _ _,
    Int.max_le.mpr ⟨Int.le_max_left _ _, Int.le_trans (Int.min_le_right _ _) (Int.le_max_right _ _)⟩, ?_⟩
  exact State.soc_of s (F := 0x200) ((State.setPl_touch s _).step (State.requests_touch _) rfl) rfl rfl

/-- The slow step, of the state it starts from (R177). -/
theorem State.slowStep_says : (0 ≤ s.slowStep.pl.gReq ∧ s.slowStep.pl.gReq ≤ max 0 (min s.pl.budget s.availGrid) ∧
    s.slowStep.pl.winClamp = true ∧ s.slowStep.pl.socReg = s.soc ∧
    s.slowStep.pl.laHist = (s.sh.outTele.avg1 :: s.pl.laHist).take 1000) ∧
    ∀ l, s.pl.limNext = some l → s.slowStep.pl.lim = l ∧ s.slowStep.pl.limNext = none ∧
      ∀ f ∈ s.hq.inflight, f.wait = .planLimits → Answered s s.slowStep f.hdr stOk 0 := by
  obtain ⟨limited, touched, answered⟩ := s.limited_says
  have sh : s.limited.sh = s.sh := comp_bit touched.sh rfl
  have remembered : s.limited.remembered.pl = { s.limited.pl with laHist := (s.limited.sh.outTele.avg1 :: s.limited.pl.laHist).take 1000 } := rfl
  have touched' : Touch 0x810200 s s.limited.remembered := touched.step (State.setPl_touch _ _) rfl
  obtain ⟨slow, clamp, since⟩ := s.limited.remembered.windowed_says
  obtain ⟨slow', clamp', least, most, shown⟩ := s.limited.remembered.windowed.requested_says
  have all : Touch 0x814200 s s.limited.remembered.windowed := (touched'.mono rfl).step since rfl
  rw [sh, limited] at remembered
  have kept := slow.trans slow'
  rw [remembered] at slow kept
  rw [slow.budget, all.availGrid_eq rfl rfl rfl] at most
  rw [State.soc_of s all rfl slow.strs] at shown
  rw [s.slowStep_eq]
  refine ⟨⟨least, most, clamp'.trans clamp, shown, kept.laHist⟩, fun l next => ⟨?_, kept.limNext, fun f member waits => ?_⟩⟩
  · rw [kept.lim, next]
    rfl
  · have later : Touch 0x814200 s.limited s.limited.remembered.windowed := ((State.setPl_touch s.limited _).mono rfl).step since rfl
    exact Answered.later (Answered.later (answered l next f member waits) later) (State.requested_touch _)

end

/-! ### The rows (R172, R181, R185, R187, R191) -/

section
variable {s : State}

theorem exec_estimatorUpdate_one {g : Nat} {r : StrRec} {v c : Int} (on : s.rc.on 4 = true) (alone : s.pl.strs = [(g, r)])
    (known : r.regd = true ∨ (s.group g).state ≠ .regulating ∧ (s.group g).state ≠ .burstRun)
    (volts : s.avgSel (s.group g).pbOut = some v) (amps : s.avgSel r.iSrc = some c) :
    exec .estimatorUpdate s = .next { s with pl := { s.pl with strs := [(g, r.estimate v c)] } } := by
  have not : (!r.regd && ((s.group g).state == .regulating || (s.group g).state == .burstRun)) = false := by
    rcases known with done | ⟨idle, still⟩
    · simp [done]
    · simp [idle, still]
  show execEstimatorUpdate s = _
  unfold execEstimatorUpdate State.setPl
  rw [if_neg (by simp [on])]
  dsimp only
  rw [alone]
  simp only [List.map_cons, List.map_nil, not, volts, amps, Bool.false_eq_true, if_false]

theorem exec_fastStep (parity : Bool) (gov : s.rc.gov = true) (role : s.role = .active ∨ s.role = .standby) :
    exec (.fastStep parity) s = .next (s.forecastParity (parity && s.rc.profile) s.pl.leadUs).fastStep := by
  show execFastStep s parity = _
  unfold execFastStep State.active
  rw [if_pos (by rcases role with is | is <;> simp [gov, is])]

theorem exec_fastStep_refused (parity : Bool) (gone : s.rc.gov = false ∨ (s.role ≠ .active ∧ s.role ≠ .standby)) :
    exec (.fastStep parity) s = .next s := by
  show execFastStep s parity = _
  unfold execFastStep State.active
  rw [if_neg]
  rcases gone with off | ⟨first, second⟩
  · simp [off]
  · simp [first, second]

theorem exec_rideExit {g : Nat} {v : Int} (ride : s.pl.ride = true) (grid : s.gridGroup = some g)
    (regulates : (s.group g).state = .regulating) (volts : s.avgSel (s.group g).pbIn = some v) : exec .rideExit s =
      .next (if (s.group g).vinMin ≤ v ∧ v ≤ (s.group g).vinMax then s.endRide else s) := by
  show execRideExit s = _
  unfold execRideExit
  simp only [ride, grid, regulates, volts, beq_self_eq_true, Bool.true_and, Bool.and_eq_true, decide_eq_true_eq]

/-- What is sent takes the next sequence number and leaves as a datagram (Table 10-4). -/
theorem State.gnSend_says (can : s.canSend = true) (key : Key) (typ : Nat) (head : UdpHead) (body : Bytes) :
    (s.gnSend key typ head body).gn.seq = (s.gn.seq + 1) % 2 ^ 32 ∧ ∃ b, Puts s (s.gnSend key typ head body) (.datagram head b) := by
  unfold State.gnSend
  rw [if_neg (by simp [can])]
  exact ⟨rfl, _, Puts.before (s.setGn_touch (fun g => { g with seq := (g.seq + 1) % 2 ^ 32, txOk := (g.txOk + 1) % 2 ^ 32 }) id)
    (Puts.emit _ _)⟩

theorem State.rowSend_says (body : Bytes) (can : s.canSend = true) : (s.rowSend body).gn.seq = (s.gn.seq + 1) % 2 ^ 32 ∧
    ∃ d b, d.dport = 49870 ∧ Puts s (s.rowSend body) (.datagram d b) := by
  obtain ⟨k, is⟩ : ∃ k, s.gn.rackKey.cur = some k := by
    cases key : s.gn.rackKey.cur with
    | none => simp [State.canSend, key] at can
    | some k => exact ⟨k, rfl⟩
  have sends (key : Key) (addr : Nat) : (s.gnSend key 0x04 (toGroup addr) body).gn.seq = (s.gn.seq + 1) % 2 ^ 32 ∧
      ∃ d b, d.dport = 49870 ∧ Puts s (s.gnSend key 0x04 (toGroup addr) body) (.datagram d b) := by
    obtain ⟨seq, b, puts⟩ := State.gnSend_says can key 0x04 (toGroup addr) body
    exact ⟨seq, toGroup addr, b, rfl, puts⟩
  unfold State.rowSend State.rackSend
  rw [is]
  cases s.gn.rowKey.cur with
  | none => exact sends k _
  | some key => exact sends key _

/-! ### A peer that falls silent (R191, R192) -/

variable (s)

theorem State.reshare_pl : ∃ b, s.reshare.pl = { s.pl with budget := b } := by
  unfold State.reshare State.shareOut
  split
  · unfold State.setPl
    dsimp only
    rw [comp_bit (State.rackSend_touch ..).pl rfl]
    exact ⟨_, rfl⟩
  · exact ⟨s.pl.budget, rfl⟩

/-- The election and the shares that follow a peer's silence leave the Planisher its peers and its fills. -/
theorem State.peerSilence_says (k : Nat) : ∃ t, exec (.peerSilent k) s = .next t ∧ t.pl.peers = (s.peerGone k).pl.peers ∧
    t.pl.fills = (s.peerGone k).pl.fills ∧
    (k / 4 = (s.peerGone k).rackId → (s.peerGone k).gv.ok = true → t.gv.peers = dropKey (s.peerGone k).gv.peers (k % 4)) := by
  show ∃ t, execPeerSilent k s = .next t ∧ _
  unfold execPeerSilent
  generalize s.peerGone k = v
  dsimp only
  by_cases own : k / 4 = v.rackId ∧ v.gv.ok = true
  · rw [if_pos own]
    let w := v.setGv fun g => { g with peers := dropKey g.peers (k % 4) }
    obtain ⟨b, pl⟩ := (w.elect false).reshare_pl
    obtain ⟨-, ⟨l, gv⟩, -⟩ := (w.elect false).reshare_says
    have kept : (w.elect false).pl = v.pl := comp_bit (w.elect_touch false).pl rfl
    refine ⟨_, rfl, ?_, ?_, fun _ _ => ?_⟩
    · rw [pl, kept]
    · rw [pl, kept]
    · rw [gv]
      exact (w.elect_elects false).peers
  · rw [if_neg own]
    exact ⟨v, rfl, rfl, rfl, fun rack ok => absurd ⟨rack, ok⟩ own⟩

theorem State.peerStep_idle {d : Int} (idle : s.pl.offer ≤ 0 ∨ d ≤ 0 ∨ s.gn.isolated = true) : s.peerStep d = s := if_pos idle

theorem State.peerStep_peers (d : Int) : (s.peerStep d).pl.peers = s.pl.peers := by
  unfold State.peerStep
  dsimp only
  split <;> rfl

theorem State.peerStep_fills {d : Int} (offers : 0 < s.pl.offer) (had : 0 < d) (here : s.gn.isolated = false) :
    let sum := s.pl.offer + sumOf (s.pl.peers.filter (fun x => decide (0 < x.2.offer))) (fun x => x.2.offer)
    (s.peerStep d).pl.fills = s.pl.fills ++ [{ num := divFloor (d * s.pl.offer) sum.toNat * 100000 * sum
                                               dec := s.pl.fillRamp * s.pl.offer, den := sum.toNat }] := by
  intro sum
  unfold State.peerStep
  dsimp only
  rw [if_neg (by simp [offers, had, here])]
  rfl

theorem State.peerGone_says {k : Nat} {o : PeerGrid} (is : look s.pl.peers k = some o) :
    (s.peerGone k).pl.peers = dropKey s.pl.peers k ∧
    (s.pl.offer ≤ 0 ∨ o.gridW ≤ 0 ∨ s.gn.isolated = true → (s.peerGone k).pl.fills = s.pl.fills) ∧
    (∀ sum, 0 < s.pl.offer → 0 < o.gridW → s.gn.isolated = false →
      sum = s.pl.offer + sumOf ((dropKey s.pl.peers k).filter (fun x => decide (0 < x.2.offer))) (fun x => x.2.offer) →
      (s.peerGone k).pl.fills = s.pl.fills ++ [{ num := divFloor (o.gridW * s.pl.offer) sum.toNat * 100000 * sum
                                                 dec := s.pl.fillRamp * s.pl.offer, den := sum.toNat }]) := by
  let v := s.setPl (fun p => { p with peers := dropKey p.peers k })
  have gone : s.peerGone k = v.peerStep o.gridW := by
    unfold State.peerGone
    rw [is]
  rw [gone]
  refine ⟨v.peerStep_peers o.gridW, fun none_ => ?_, fun sum offers had here is => ?_⟩
  · rw [v.peerStep_idle none_]
    rfl
  · subst is
    exact v.peerStep_fills offers had here

/-! ### The obligation -/

/-- A fast step says what it takes, rides and moves, of the state it begins in (R181). -/
theorem exec_fastStep_says (parity : Bool) (gov : s.rc.gov = true) (role : s.role = .active ∨ s.role = .standby) :
    Completes (.fastStep parity) s (fun t => t.pl.absent = false ∧
    t.pl.resume = false ∧
    (∀ m, s.pl.modeNext = some m → t.pl.mode = m ∧ t.pl.modeNext = none ∧
      ∀ f ∈ s.hq.inflight, f.wait = .storeMode → Answered s t f.hdr stOk 0) ∧
    (s.pl.ride = true → s.pl.modeNext ≠ some 2 → t.pl.ride = true ∧ t.pl.g = 0 ∧ t.pl.gPub = 0) ∧
    (s.pl.ride = true → s.pl.modeNext = some 2 → t.pl.ride = false ∧
      (parity = false → Newest s t 0x0502 1 kNone 0 (leBytes 1 0))) ∧
    (s.pl.modeNext = none → s.pl.mode = 0 → s.pl.absent = false → s.pl.resume = false → s.pl.ride = false →
      s.canRide = false → t.pl.g = min (if s.pl.g < s.pl.gReq * 1000000 then min (s.pl.g + s.pl.ramp * 10) (s.pl.gReq * 1000000)
        else max (s.pl.g - s.pl.ramp * 10) (s.pl.gReq * 1000000)) (min s.pl.budget s.availGrid * 1000000)) ∧
    (-(s.pl.trimMax : Int) ≤ s.pl.trim → s.pl.trim ≤ s.pl.trimMax →
      -(s.pl.trimMax : Int) ≤ t.pl.trim ∧ t.pl.trim ≤ s.pl.trimMax) ∧
    (∀ g, g < 16 → (s.group g).gtype = 3 → bitAt t.le.xinValid (g + 1) = true ∧
      -(s.availW g : Int) ≤ nth t.le.xinVal (g + 1) 0 ∧ nth t.le.xinVal (g + 1) 0 ≤ s.availW g ∧
      (t.pl.mode = 2 → nth t.le.xinVal (g + 1) 0 = 0))) := by
  refine ⟨_, exec_fastStep parity gov role, ?_⟩
  have touched := s.forecastParity_touch (parity && s.rc.profile) s.pl.leadUs
  obtain ⟨pl, flights, plain⟩ := s.forecastParity_says (parity && s.rc.profile) s.pl.leadUs
  generalize s.forecastParity (parity && s.rc.profile) s.pl.leadUs = v at touched pl flights plain ⊢
  obtain ⟨absent, resume, next, mode⟩ := v.fastStep_taken
  rw [← pl]
  refine ⟨absent, resume, fun m is => ⟨by rw [mode, is]; rfl, next, fun f member waits => ?_⟩, v.fastStep_rides,
    fun ride is => ⟨(v.fastStep_off ride is).1, fun none_ => ?_⟩, fun is auto here goes idle barred => ?_, v.fastStep_trim,
    fun g low storage => ?_⟩
  · exact Answered.before touched rfl (v.fastStep_answers is f (flights ▸ member) waits)
  · have same : v = s := plain (by rw [none_]; rfl)
    have told := (v.fastStep_off ride is).2
    unfold Newest at told ⊢
    rwa [same] at told ⊢
  · have still : v.canRide = false := (State.canRide_of s touched rfl (pl ▸ ⟨⟨rfl, rfl, rfl, rfl, rfl, rfl, rfl⟩, rfl, rfl, rfl⟩)).trans barred
    rw [v.fastStep_follows is here goes idle still, touched.availGrid_eq rfl rfl rfl]
    unfold Planisher.gNext
    rw [if_neg (not_not_intro auto)]
  · rw [← touched.availW_eq rfl rfl rfl g]
    exact v.fastStep_sets low (touched.group_eq rfl g ▸ storage)

/-- The slow step of a running governor reckons the shelf's energies, and an active shelf's Planisher steps and tells its row (R177). -/
theorem exec_slowStep (gov : s.rc.gov = true) : exec .slowStep s = .next (if s.active then
      let v := s.slowStep.setGv fun g => { g with eOut := g.eOut + s.sh.outTele.avg1, eIn := g.eIn + s.pg }
      v.rowSend v.lanternBody
    else s.setGv fun g => { g with eOut := g.eOut + s.sh.outTele.avg1, eIn := g.eIn + s.pg }) := by
  show execSlowStep s = _
  unfold execSlowStep
  rw [if_neg (by simp [gov])]
  dsimp only
  have touched := s.slowStep_touch
  cases on : s.active with
  | false =>
    have still : (s.setGv fun g => { g with eOut := g.eOut + s.sh.outTele.avg1, eIn := g.eIn + s.pg }).active = false := on
    simp only [Bool.false_eq_true, if_false, still]
  | true =>
    have still : (s.slowStep.setGv fun g => { g with eOut := g.eOut + s.sh.outTele.avg1, eIn := g.eIn + s.pg }).active = true :=
      (congrArg (· == Role.active) (comp_bit touched.role rfl)).trans on
    simp only [if_true, comp_bit touched.sh rfl, touched.pg_eq rfl, still]

theorem exec_slowStep_says (gov : s.rc.gov = true) : Completes .slowStep s (fun t =>
    t.gv = { s.gv with eOut := s.gv.eOut + s.sh.outTele.avg1, eIn := s.gv.eIn + s.pg } ∧
    (s.role ≠ .active → t.pl = s.pl ∧ t.gn = s.gn) ∧
    (s.role = .active → 0 ≤ t.pl.gReq ∧ t.pl.gReq ≤ max 0 (min s.pl.budget s.availGrid) ∧ t.pl.winClamp = true ∧
      t.pl.socReg = s.soc ∧ t.pl.laHist = (s.sh.outTele.avg1 :: s.pl.laHist).take 1000 ∧
      (∀ l, s.pl.limNext = some l → t.pl.lim = l ∧ t.pl.limNext = none ∧
        ∀ f ∈ s.hq.inflight, f.wait = .planLimits → Answered s t f.hdr stOk 0) ∧
      (s.canSend = true → t.gn.seq = (s.gn.seq + 1) % 2 ^ 32 ∧ ∃ d b, d.dport = 49870 ∧ Puts s t (.datagram d b)))) := by
  refine ⟨_, exec_slowStep s gov, ?_⟩
  by_cases active : s.role = .active
  · have touched := s.slowStep_touch
    obtain ⟨⟨least, most, clamp, soc, hist⟩, limits⟩ := s.slowStep_says
    rw [if_pos (by simp [State.active, active])]
    generalize s.slowStep = v at touched least most clamp soc hist limits ⊢
    let w := v.setGv fun g => { g with eOut := g.eOut + s.sh.outTele.avg1, eIn := g.eIn + s.pg }
    have gv : w.gv = { s.gv with eOut := s.gv.eOut + s.sh.outTele.avg1, eIn := s.gv.eIn + s.pg } := by
      show ({ v.gv with eOut := v.gv.eOut + s.sh.outTele.avg1, eIn := v.gv.eIn + s.pg } : Governor) = _
      rw [comp_bit touched.gv rfl]
    have gn : w.gn = s.gn := comp_bit touched.gn rfl
    have sent := w.rowSend_touch w.lanternBody
    have since : Touch 0x814a00 s w := (touched.mono rfl).step (v.setGv_touch _) rfl
    have pl : (w.rowSend w.lanternBody).pl = v.pl := comp_bit sent.pl rfl
    have can : s.canSend = true → w.canSend = true := fun can => by
      unfold State.canSend at can ⊢
      have same : w.active = s.active := congrArg (· == Role.active) (comp_bit touched.role rfl)
      have ok : w.gv.ok = s.gv.ok := by rw [gv]
      have rc : w.rc = s.rc := comp_bit touched.rc rfl
      have clk : w.clk = s.clk := comp_bit touched.clk rfl
      rwa [same, ok, gn, rc, clk]
    show (w.rowSend w.lanternBody).gv = _ ∧ _
    refine ⟨(comp_bit sent.gv rfl).trans gv, fun not => absurd active not, fun _ => ?_⟩
    rw [pl]
    refine ⟨least, most, clamp, soc, hist, fun l is => ?_, fun may => ?_⟩
    · obtain ⟨taken, none_, answered⟩ := limits l is
      exact ⟨taken, none_, fun f member waits => Answered.later (answered f member waits)
        (((v.setGv_touch _).mono (F := 0x800c00) rfl).step sent rfl)⟩
    · obtain ⟨seq, d, b, port, puts⟩ := State.rowSend_says w.lanternBody (can may)
      exact ⟨seq.trans (by rw [gn]), d, b, port, Puts.before since puts⟩
  · rw [if_neg (by simp [State.active, active])]
    exact ⟨rfl, fun _ => ⟨rfl, rfl⟩, fun is => absurd is active⟩

end

/-- Settles O26: the fast and the slow step by their parts, of which each keeps what the others set; the other rows by what their one
change is. -/
theorem planisherStepsComplete : Obligations.PlanisherStepsComplete := by
  unfold Obligations.PlanisherStepsComplete
  refine ⟨?_, ?_, ?_, ?_, ?_, ?_, ?_, ?_, ?_⟩
  · intro s g r v c voc ev e on alone known volts amps vocIs evIs eIs
    subst vocIs evIs eIs
    exact ⟨_, exec_estimatorUpdate_one on alone known volts amps, rfl⟩
  · intro s off
    have off' : s.rc.on 4 = false := off
    refine ⟨⟨s, ?_, rfl⟩, ⟨s, ?_, rfl⟩, ⟨s, ?_, rfl⟩⟩
    · show execEstimatorUpdate s = _
      exact if_pos (by simp [off'])
    · show execAbsenceDetect s = _
      exact if_neg (by simp [off'])
    · show execAbsenceDecay s = _
      exact if_pos (by simp [off'])
  · exact fun s parity gov role => exec_fastStep_says s parity gov role
  · exact fun s parity gone => ⟨s, exec_fastStep_refused parity gone, rfl⟩
  · intro s g v ride grid regulates volts
    refine ⟨fun least most => ⟨_, exec_rideExit ride grid regulates volts, ?_⟩, fun outside => ⟨_, exec_rideExit ride grid regulates volts, ?_⟩⟩
    · rw [if_pos ⟨least, most⟩]
      obtain ⟨pl, told⟩ := s.endRide_says
      rw [pl]
      exact ⟨rfl, rfl, rfl, told⟩
    · exact if_neg (by omega)
  · exact fun s gov => exec_slowStep_says s gov
  · exact fun s => ⟨_, rfl, rfl⟩
  · intro s on
    refine ⟨⟨_, if_pos on, rfl⟩, fun absent => ⟨_, if_neg (by simp [absent, on]), rfl, rfl⟩⟩
  · intro s k o is
    obtain ⟨peers, none_, some_⟩ := s.peerGone_says is
    obtain ⟨t, runs, peers', fills', dropped⟩ := s.peerSilence_says k
    have gv : (s.peerGone k).gv = s.gv := comp_bit (s.peerGone_touch k).gv rfl
    have rack : (s.peerGone k).rackId = s.rackId := by unfold State.rackId; rw [gv]
    rw [gv, rack] at dropped
    exact ⟨t, runs, peers'.trans peers, fun idle => fills'.trans (none_ idle),
      fun sum offers had here sumIs => fills'.trans (some_ sum offers had here sumIs), dropped⟩

end Sys2Proof.Machine
end

section
/-!
R37, R217, R218, R221, R223, R226, R229, R235, R237: the governor's step, the start of a lead, epochs and the release of their grants.
-/

namespace Sys2Proof.Machine

open Sys2Proof

/-! ### What a shelf's election reads -/

section
variable {F : Nat} {s t : State}

/-- A shelf stays eligible while its module, stores, groups and network are as they were (R216). -/
theorem Touch.eligible_eq (g : Touch F s t) (role : F.testBit 2 = false) (groups : F.testBit 6 = false) (shelf : F.testBit 7 = false)
    (net : F.testBit 10 = false) (rc : F.testBit 15 = false) (ok : t.gv.ok = s.gv.ok) : t.eligible = s.eligible := by
  unfold State.eligible State.active
  rw [comp_bit g.role role, comp_bit g.sh shelf, ok, comp_bit g.rc rc, comp_bit g.gn net, comp_bit g.groups groups]

theorem Touch.active_eq (g : Touch F s t) (role : F.testBit 2 = false) : t.active = s.active := by
  unfold State.active
  rw [comp_bit g.role role]

/-- An eligible shelf is an active module of a running governor with its settings, not isolated (R216). -/
theorem State.eligible_says (eligible : s.eligible = true) : s.active = true ∧ s.gv.ok = true ∧ s.rc.gov = true ∧
    s.gn.isolated = false := by
  unfold State.eligible at eligible
  simp only [Bool.and_eq_true, Bool.not_eq_true'] at eligible
  obtain ⟨⟨⟨⟨⟨⟨active, -⟩, ok⟩, gov⟩, -⟩, here⟩, -⟩ := eligible
  exact ⟨active, ok, gov, here⟩

end

section
variable (s : State)

theorem State.rackViews_out : sumOf s.rackViews (·.out) = s.sh.outTele.avg1 + sumOf (s.gv.peers.map (·.2)) (·.out) := rfl

theorem State.rackViews_grid : sumOf s.rackViews (·.grid) = s.pg + sumOf (s.gv.peers.map (·.2)) (·.grid) := rfl

/-! ### The figures of a governor's step -/

/-- The state of a governor's step before its election: a foreign assertion told, the duplicate counted out, and the figures of the rack
(R217, R229, R242). -/
def State.figured : State :=
  let s := s.snuffForeign.setGv (fun g => { g with dupMs := g.dupMs - 1 })
  if s.gv.ok then s.rackFigures else s

theorem exec_governorStep (gov : s.rc.gov = true) : exec .governorStep s =
    .next (if (s.figured.elect true).isLead then (s.figured.elect true).leadStep else s.figured.elect true) :=
  if_neg (by simp [gov])

theorem State.snuffForeign_gv : ∃ b, s.snuffForeign.gv = { s.gv with foreign := b } := by
  unfold State.snuffForeign
  split
  · exact ⟨true, comp_bit (State.record_touch ..).gv rfl⟩
  · exact ⟨s.gv.foreign, rfl⟩

theorem State.figured_touch : Touch 0x814800 s s.figured := by
  have figures (v : State) : Touch 0x800 v (if v.gv.ok then v.rackFigures else v) := .cond v.rackFigures_touch (Touch.refl _ _)
  unfold State.figured
  exact (s.snuffForeign_touch.step (State.setGv_touch _ _) rfl).step (figures _) rfl

theorem State.rackFigures_gv : ∃ gridHist gridNow convHist known measured, s.rackFigures.gv = { s.gv with
      gridHist := gridHist, gridNow := gridNow, convHist := convHist, known := known, measured := measured } ∧
    (s.gv.atEpochs = false →
      convHist = ((sumOf s.rackViews (·.grid) - sumOf s.rackViews (·.out)) :: s.gv.convHist).take 1000) := by
  let v := s.setGv (fun g => { g with
    gridHist := (sumOf s.rackViews (·.grid) :: g.gridHist).take 100, gridNow := sumOf s.rackViews (·.grid) })
  show ∃ gridHist gridNow convHist known measured, (if s.gv.atEpochs then v else v.loadFigures v.rackViews).gv = _ ∧ _
  cases s.gv.atEpochs with
  | true => exact ⟨_, _, s.gv.convHist, s.gv.known, s.gv.measured, rfl, fun not => (nomatch not)⟩
  | false => exact ⟨_, _, _, _, _, rfl, fun _ => rfl⟩

/-- Figures are all that a step changes of the governor before its election. -/
theorem State.figured_gv : ∃ foreign gridHist gridNow convHist known measured, s.figured.gv = { s.gv with
      foreign := foreign, dupMs := s.gv.dupMs - 1, gridHist := gridHist, gridNow := gridNow, convHist := convHist, known := known
      measured := measured } ∧
    (s.gv.ok = true → s.gv.atEpochs = false →
      convHist = ((sumOf s.rackViews (·.grid) - sumOf s.rackViews (·.out)) :: s.gv.convHist).take 1000) := by
  obtain ⟨b, foreign⟩ := s.snuffForeign_gv
  let v := s.snuffForeign.setGv (fun g => { g with dupMs := g.dupMs - 1 })
  have gv : v.gv = { s.gv with foreign := b, dupMs := s.gv.dupMs - 1 } := congrArg (fun g : Governor => { g with dupMs := g.dupMs - 1 }) foreign
  have touched : Touch 0x814800 s v := s.snuffForeign_touch.step (State.setGv_touch _ _) rfl
  show ∃ foreign gridHist gridNow convHist known measured, (if v.gv.ok then v.rackFigures else v).gv = _ ∧ _
  by_cases ok : s.gv.ok = true
  · rw [if_pos (by rw [gv]; exact ok)]
    have grid : sumOf v.rackViews (·.grid) = sumOf s.rackViews (·.grid) := by
      rw [v.rackViews_grid, s.rackViews_grid, touched.pg_eq rfl, gv]
    have out : sumOf v.rackViews (·.out) = sumOf s.rackViews (·.out) := by
      rw [v.rackViews_out, s.rackViews_out, comp_bit touched.sh rfl, gv]
    obtain ⟨gridHist, gridNow, convHist, known, measured, figures, conv⟩ := v.rackFigures_gv
    rw [grid, out, gv] at conv
    exact ⟨b, gridHist, gridNow, convHist, known, measured, figures.trans (by rw [gv]), fun _ => conv⟩
  · rw [if_neg (by rw [gv]; exact ok)]
    exact ⟨b, s.gv.gridHist, s.gv.gridNow, s.gv.convHist, s.gv.known, s.gv.measured, gv, fun is => absurd is ok⟩

/-! ### The election of a shelf that does not lead (R217) -/

theorem State.follow_gv : ∃ role shelf epoch, s.follow.gv = { s.gv with role := role, leadShelf := shelf, leadEpoch := epoch } ∧ role ≠ 2 := by
  unfold State.follow
  dsimp only
  split
  · exact ⟨0, none, s.gv.leadEpoch, rfl, by omega⟩
  · exact ⟨1, _, _, rfl, by omega⟩

theorem State.follow_none (none_ : (s.gv.peers.map (·.2)).filter (·.lead) = []) :
    s.follow = s.setGv (fun g => { g with role := 0, leadShelf := none }) := by
  unfold State.follow
  dsimp only
  rw [none_]

theorem State.follow_one {v : ShelfView} (one : (s.gv.peers.map (·.2)).filter (·.lead) = [v]) :
    s.follow = s.setGv (fun g => { g with role := 1, leadShelf := some v.shelf, leadEpoch := v.epoch }) := by
  unfold State.follow
  dsimp only
  rw [one]
  rfl

theorem State.sendElect_gv : s.sendElect.gv = { s.gv with
    maxEpoch := s.gv.maxEpoch + 1, claim := some (s.gv.maxEpoch + 1), lowMs := 0 } := comp_bit (State.rackSend_touch ..).gv rfl

/-- A claim is no role yet (R217). -/
theorem State.claimRules_gv (leads : List ShelfView) (g : Governor) (tick : Bool) : ∃ claim maxEpoch lowMs,
    (s.claimRules leads g tick).gv = { s.gv with claim := claim, maxEpoch := maxEpoch, lowMs := lowMs } := by
  unfold State.claimRules
  dsimp only
  generalize (if tick then s.gv.lowMs + 1 else s.gv.lowMs) = n
  split
  · exact ⟨_, s.gv.maxEpoch, 0, rfl⟩
  · split
    · exact ⟨s.gv.claim, s.gv.maxEpoch, s.gv.lowMs, rfl⟩
    · split
      · exact ⟨_, _, _, s.sendElect_gv⟩
      · split
        · exact ⟨_, _, _, s.sendElect_gv⟩
        · exact ⟨s.gv.claim, s.gv.maxEpoch, _, rfl⟩

/-- An eligible shelf that meets nobody claims the lead (R217). -/
theorem State.claimRules_alone (tick : Bool) (eligible : s.eligible = true) (alone : s.gv.peers = []) (single : s.gv.dupMs = 0)
    (none_ : s.gv.claim = none) (g : Governor) : s.claimRules [] g tick = s.sendElect := by
  unfold State.claimRules State.lowest
  rw [if_neg (by simp [single, eligible, alone]), if_neg (by simp [none_]), if_pos List.isEmpty_nil]

theorem State.elect_other (tick : Bool) (active : s.active = true) (ok : s.gv.ok = true) (here : s.gn.isolated = false)
    (gov : s.rc.gov = true) (other : s.gv.role ≠ 2) :
    s.elect tick = s.follow.claimRules ((s.gv.peers.map (·.2)).filter (·.lead)) s.gv tick := by
  have plain : s.leadRules = s := if_neg other
  unfold State.elect
  rw [if_neg (by simp [active]), if_pos (by simp [ok, here, gov]), s.electRules_eq, plain, if_neg (by simp [State.isLead, other])]

end

/-- A governor's step of a shelf that does not lead is its election (R217, R226). -/
theorem exec_governorStep_other {s : State} (gov : s.rc.gov = true) (active : s.active = true) (ok : s.gv.ok = true)
    (here : s.gn.isolated = false) (other : s.gv.role ≠ 2) : ∃ u t, exec .governorStep s = .next t ∧
      t = u.follow.claimRules ((u.gv.peers.map (·.2)).filter (·.lead)) u.gv true ∧ Touch 0x814800 s u ∧
      u.gv.peers = s.gv.peers ∧ u.gv.dupMs = s.gv.dupMs - 1 ∧ u.gv.ok = s.gv.ok ∧ u.gv.claim = s.gv.claim ∧
      u.gv.maxEpoch = s.gv.maxEpoch ∧ t.gv.role ≠ 2 := by
  have touched := s.figured_touch
  obtain ⟨_, _, _, _, _, _, gv, -⟩ := s.figured_gv
  have elects := s.figured.elect_other true ((touched.active_eq rfl).trans active) (by rw [gv]; exact ok)
    (by rw [comp_bit touched.gn rfl]; exact here) (by rw [comp_bit touched.rc rfl]; exact gov) (by rw [gv]; exact other)
  obtain ⟨_, _, _, follows, role⟩ := s.figured.follow_gv
  obtain ⟨_, _, _, claims⟩ := s.figured.follow.claimRules_gv ((s.figured.gv.peers.map (·.2)).filter (·.lead)) s.figured.gv true
  have still : (s.figured.elect true).gv.role ≠ 2 := by
    rw [elects, claims, follows]
    exact role
  refine ⟨s.figured, s.figured.elect true, ?_, elects, touched, ?_, ?_, ?_, ?_, ?_, still⟩
  · rw [exec_governorStep s gov, if_neg (by simp [State.isLead, still])]
  all_goals rw [gv]

/-! ### The step of a lead (R218, R222, R223) -/

/-- A governor without what a lead's step may change beside its shares, its budget and the rack's energies. -/
def Governor.sansStep (g : Governor) : Governor :=
  { g with
    timing := 0, detSusp := false, alloc := 0, steady := none, know := 0, pend := [], own := [], floorLeft := 0, eps := [], pool := 0
    poolReason := 0, snuffOut := false, relRun := 0, unattainable := false }

theorem Governor.sansStep_set {g h : Governor} (same : g.sansStep = h.sansStep) :
    ({ g with set_ := (g.set_ + 1) % 2 ^ 16 } : Governor).sansStep = ({ h with set_ := (h.set_ + 1) % 2 ^ 16 } : Governor).sansStep :=
  (congrArg (fun x : Governor => { x with set_ := (x.set_ + 1) % 2 ^ 16 }) same :)

theorem Governor.sansStep_reads {g h : Governor} (same : g.sansStep = h.sansStep) : g.role = h.role ∧ g.leadEpoch = h.leadEpoch ∧
    g.set_ = h.set_ ∧ g.shares = h.shares ∧ g.rackOut = h.rackOut ∧ g.rackIn = h.rackIn ∧ g.convHist = h.convHist ∧
    g.budgetMw = h.budgetMw :=
  ⟨(congrArg Governor.role same :), (congrArg Governor.leadEpoch same :), (congrArg Governor.set_ same :),
    (congrArg Governor.shares same :), (congrArg Governor.rackOut same :), (congrArg Governor.rackIn same :),
    (congrArg Governor.convHist same :), (congrArg Governor.budgetMw same :)⟩

theorem Governor.sansStep_sums {g h : Governor} (same : g.sansStep = h.sansStep) (b : Int) (l : List Int) (out grid : Int) :
    ({ g with budgetMw := b, shares := l, rackOut := g.rackOut + out, rackIn := g.rackIn + grid
              set_ := (g.set_ + 1) % 2 ^ 16 } : Governor).sansStep =
      ({ h with budgetMw := b, shares := l, rackOut := h.rackOut + out, rackIn := h.rackIn + grid
                set_ := (h.set_ + 1) % 2 ^ 16 } : Governor).sansStep :=
  (congrArg (fun x : Governor => { x with
    budgetMw := b, shares := l, rackOut := x.rackOut + out, rackIn := x.rackIn + grid, set_ := (x.set_ + 1) % 2 ^ 16 }) same :)

/-- Of the governor nothing has changed but what a lead's step may beside its shares, its budget and the rack's energies. -/
structure Steps (s t : State) : Prop where
  gv : t.gv.sansStep = s.gv.sansStep

section
variable {s t v : State}

theorem Steps.refl (s : State) : Steps s s := ⟨rfl⟩

theorem Steps.trans (first : Steps s t) (second : Steps t v) : Steps s v := ⟨second.gv.trans first.gv⟩

theorem Steps.cond {c : Prop} [Decidable c] (yes : Steps s t) (no : Steps s v) : Steps s (if c then t else v) := by
  split <;> assumption

theorem Steps.foldl {α : Type} {f : State → α → State} (each : ∀ v a, Steps v (f v a)) (l : List α) (s : State) :
    Steps s (l.foldl f s) := foldl_kept .refl (fun _ _ _ => .trans) each l s

theorem Steps.of_touch {F : Nat} (g : Touch F s t) (gv : F.testBit 11 = false) : Steps s t :=
  ⟨congrArg Governor.sansStep (comp_bit g.gv gv)⟩

/-- What a step keeps of the governor can be read off. -/
theorem Steps.field {α : Type} (e : Steps s t) (φ : Governor → α) (kept : ∀ g : Governor, φ g.sansStep = φ g) : φ t.gv = φ s.gv := by
  rw [← kept t.gv, ← kept s.gv, e.gv]

end

section
variable (s : State)

theorem State.record_steps (code sev kind subject : Nat) (p : Bytes) : Steps s (s.record code sev kind subject p) :=
  .of_touch (State.record_touch ..) rfl

theorem State.setEp_steps (id : Nat) (f : Endpoint → Endpoint) : Steps s (s.setEp id f) := ⟨rfl⟩

theorem State.settleReq_steps (r : Req) (st result : Nat) : Steps s (s.settleReq r st result) := by
  constructor
  rw [State.settleReq_gv]
  rfl

theorem State.suspendEpochs_steps : Steps s s.suspendEpochs :=
  .trans (t := s.setGv (fun g => { g with detSusp := true })) ⟨rfl⟩ (State.record_steps ..)

theorem State.applyModes_steps : Steps s s.applyModes := by
  unfold State.applyModes
  refine .foldl (fun v p => ?_) _ s
  dsimp only
  refine .trans (.trans ?_ (.cond (State.suspendEpochs_steps _) (.refl _))) (State.settleReq_steps ..)
  constructor
  unfold State.setGv
  dsimp only
  split
  · rfl
  · split
    · rfl
    · rfl

theorem State.issueGrant_steps (force : Bool) (id : Nat) (x : Grant) : Steps s (s.issueGrant force id x) := by
  unfold State.issueGrant
  split
  · dsimp only
    exact .cond (.refl s) (.trans (.of_touch (State.gnSend_touch ..) rfl) ⟨rfl⟩)
  · exact .refl s

theorem State.issueAll_steps (force : Bool) (l : List (Nat × Grant)) : Steps s (s.issueAll force l) := by
  unfold State.issueAll
  exact .foldl (fun v x => v.issueGrant_steps force x.1 x.2) l s

theorem State.computeGrants_steps (v : List ShelfView) : Steps s (s.computeGrants v).1 := ⟨rfl⟩

theorem State.govern_steps (force : Bool) : Steps s (s.govern force) :=
  .trans (s.computeGrants_steps s.rackViews) (State.issueAll_steps _ force _)

theorem State.reissue_steps (all : Bool) : Steps s (s.reissue all) := State.issueAll_steps ..

theorem State.powerStep_steps : Steps s s.powerStep := by
  unfold State.powerStep
  dsimp only
  exact .cond ⟨rfl⟩ ⟨rfl⟩

theorem State.comply_steps (id : Nat) : Steps s (s.comply id) := by
  have told (v : State) (f : Endpoint → Endpoint) (n : Nat) : Steps v ((v.setEp id f).record 0x0704 1 kEndpoint id (leBytes 1 n)) :=
    .trans (v.setEp_steps id f) (State.record_steps ..)
  unfold State.comply
  split
  · exact .refl s
  · dsimp only
    refine .trans (.trans ?_ (.cond (told _ _ _) (.refl _))) (State.setEp_steps ..)
    exact .cond (told _ _ _) (.cond (State.setEp_steps ..) (.cond (State.setEp_steps ..) (.refl s)))

theorem State.driveSnuff_steps (on : Bool) : Steps s (s.driveSnuff on) := by
  unfold State.driveSnuff
  exact .cond (.refl s) (.trans (t := (s.setGv (fun g => { g with snuffOut := on, relRun := 0 })).emit (.pin "SNUFF_N" (!on))) ⟨rfl⟩
    (State.record_steps ..))

theorem State.sendAlert_steps (kind : Nat) : Steps s (s.sendAlert kind) := .of_touch (State.rackSend_touch ..) rfl

theorem State.snuffStep_steps : Steps s s.snuffStep := by
  have alerts (v : State) (on : Bool) (kind : Nat) : Steps v ((v.driveSnuff on).sendAlert kind) :=
    (v.driveSnuff_steps on).trans (State.sendAlert_steps _ kind)
  unfold State.snuffStep
  dsimp only
  refine .cond (.cond (alerts s true 0) (.refl s)) ?_
  refine .trans (t := s.setGv _) ⟨rfl⟩ (.cond (.refl _) (.trans (alerts _ false 1) (.cond (State.reissue_steps ..) (State.govern_steps ..))))

theorem State.budgetEnd_steps : Steps s s.budgetEnd := by
  unfold State.budgetEnd
  dsimp only
  refine .cond ⟨rfl⟩ (.trans (t := s.setGv _) ⟨rfl⟩ (.foldl (fun v p => ?_) _ _))
  exact .cond (State.settleReq_steps ..) (.cond (.trans (State.record_steps ..) (State.settleReq_steps ..)) (.refl v))

theorem State.endThrottle_steps (e : Endpoint) : Steps s (s.endThrottle e) := by
  constructor
  rw [State.endThrottle_gv]
  rfl

theorem State.account_steps (id : Nat) : Steps s (s.account id) := by
  unfold State.account
  split
  · exact .refl s
  · dsimp only
    refine .trans (State.setEp_steps s id _) (.cond (State.endThrottle_steps ..) (.trans ?_ (State.setEp_steps ..)))
    exact .cond (.refl _) (State.endThrottle_steps ..)

/-! ### A lead's step by its parts -/

/-- Inputs, settings and the budget that a lead's step takes up (R220, R223, R233). -/
def State.leadSettled : State :=
  let s := (if s.gv.atEpochs then s else (s.takeInputs (fun _ => true))).applyModes
  (if s.gv.atEpochs then s else s.inForce).absentRamp

/-- Floors counted and the rack's energies summed (R239, R244). -/
def State.leadEnergies : State :=
  let s := if s.gv.atEpochs then s else s.floorCount s.rackViews
  s.setGv (fun g => { g with
    rackOut := g.rackOut + sumOf s.rackViews (·.out), rackIn := g.rackIn + sumOf s.rackViews (·.grid) })

/-- Every endpoint looked at for compliance (R238, R239). -/
def State.complied : State := (s.gv.eps.map (·.id)).foldl State.comply s

/-- Grants of a step: in deterministic timing those in force that this module has not itself sent (R228, R233). -/
def State.granted : State := if s.gv.atEpochs then s.reissue false else s.govern false

/-- Every endpoint's energy and throttle intervals (R244, R245). -/
def State.accounted : State := (s.gv.eps.map (·.id)).foldl State.account s

/-- Requests final for 20 ms forgotten (R264). -/
def State.forgotten : State :=
  s.setGv (fun g => { g with pend := g.pend.filter (fun p => p.state == 1 || decide (s.clk.now < p.finalAt + 20000000)) })

/-- Powers, compliance, grants, SNUFF_N and the accounts of a lead's step (R236 to R245). -/
def State.leadGrants : State := s.powerStep.complied.granted.snuffStep.budgetEnd.accounted.forgotten

theorem State.leadStep_eq : s.leadStep = s.leadSettled.shareOut.leadEnergies.leadGrants.sendShare false := by
  unfold State.leadStep
  extract_lets taken moded shared counted summed powered checked issued ended booked filed
  have settled : s.leadSettled.shareOut = shared := rfl
  have energies : shared.leadEnergies = summed := rfl
  have complied : summed.powerStep.complied = checked := rfl
  have granted : checked.granted = issued := rfl
  have ends : issued.snuffStep.budgetEnd = ended := rfl
  have accounted : ended.accounted = booked := rfl
  have forgotten : booked.forgotten = filed := rfl
  unfold State.leadGrants
  rw [settled, energies, complied, granted, ends, accounted, forgotten]

theorem State.takeInputs_none (due : GnIn → Bool) (none_ : s.gv.inputs = []) : s.takeInputs due = s := by
  have same : ({ s.gv with inputs := s.gv.inputs.filter (fun x => !due x) } : Governor) = s.gv := by
    rw [none_]
    show ({ s.gv with inputs := [] } : Governor) = s.gv
    rw [← none_]
  unfold State.takeInputs State.setGv
  dsimp only
  rw [same, none_]
  rfl

theorem State.inForce_none (none_ : s.gv.newBudget = none) : s.inForce = s := by
  unfold State.inForce
  rw [none_]

/-- With nothing received and no budget adopted a lead's step takes up the settings that are due (R233). -/
theorem State.leadSettled_quiet (inputs : s.gv.inputs = []) (budget : s.gv.newBudget = none) :
    s.leadSettled = s.applyModes.absentRamp := by
  have kept : s.applyModes.gv.newBudget = none := (s.applyModes_steps.field Governor.newBudget fun _ => rfl).trans budget
  unfold State.leadSettled
  rw [s.takeInputs_none _ inputs, ite_self]
  dsimp only
  rw [s.applyModes.inForce_none kept, ite_self]

/-- The budget of a rack without a host moves to the one its settings name (R223). -/
theorem State.absentRamp_gv : ∃ b, s.absentRamp.gv = { s.gv with budgetMw := b } ∧ (s.gv.hostAbsent = false → b = s.gv.budgetMw) ∧
    (s.gv.hostAbsent = true → s.gv.absentW ≠ 0 → b =
      if s.gv.never then (s.gv.absentW : Int) * 1000
      else if s.gv.budgetMw < (s.gv.absentW : Int) * 1000 then min (s.gv.budgetMw + s.gv.hostRamp) ((s.gv.absentW : Int) * 1000)
      else max (s.gv.budgetMw - s.gv.hostRamp) ((s.gv.absentW : Int) * 1000)) := by
  unfold State.absentRamp
  cases absent : s.gv.hostAbsent with
  | false => exact ⟨s.gv.budgetMw, rfl, fun _ => rfl, fun not => (nomatch not)⟩
  | true =>
    refine ⟨_, rfl, fun not => (nomatch not), fun _ set_ => ?_⟩
    have goal_ : s.absentBudget = s.gv.absentW := if_pos set_
    rw [goal_]

theorem State.shareOut_says : s.shareOut.gv = { s.gv with shares := s.sharesOf } ∧
    s.shareOut.pl.budget = nth s.sharesOf s.gv.shelf 0 := by
  have gv : ((s.setGv (fun g => { g with shares := s.sharesOf })).rackSend 0x05
      (leBytes 1 2 ++ leBytes 15 0 ++ s.sharesOf.flatMap (leBytesI 4))).gv = { s.gv with shares := s.sharesOf } :=
    comp_bit (State.rackSend_touch ..).gv rfl
  refine ⟨gv, ?_⟩
  show nth s.sharesOf ((s.setGv (fun g => { g with shares := s.sharesOf })).rackSend 0x05 _).gv.shelf 0 = _
  rw [gv]
  rfl

theorem State.sharesOf_length : s.sharesOf.length = 4 := by
  unfold State.sharesOf
  simp

theorem State.leadEnergies_steps : Steps (s.setGv (fun g => { g with
    rackOut := g.rackOut + sumOf s.rackViews (·.out), rackIn := g.rackIn + sumOf s.rackViews (·.grid) })) s.leadEnergies := by
  constructor
  unfold State.leadEnergies
  dsimp only
  split
  · rfl
  · rfl

theorem State.leadGrants_steps : Steps s s.leadGrants := by
  have complies (v : State) : Steps v v.complied := .foldl State.comply_steps _ v
  have grants (v : State) : Steps v v.granted := .cond (v.reissue_steps false) (v.govern_steps false)
  have accounts (v : State) : Steps v v.accounted := .foldl State.account_steps _ v
  have forgets (v : State) : Steps v v.forgotten := ⟨rfl⟩
  unfold State.leadGrants
  exact (((((s.powerStep_steps.trans (complies _)).trans (grants _)).trans (State.snuffStep_steps _)).trans
    (State.budgetEnd_steps _)).trans (accounts _)).trans (forgets _)

theorem State.leadGrants_touch : Touch 0x814c00 s s.leadGrants := by
  have complies (v : State) : Touch 0x814c00 v v.complied := (Touch.refl _ v).foldl fun v id => (v.comply_touch id).mono rfl
  have grants (v : State) : Touch 0x814c00 v v.granted := .cond ((v.reissue_touch false).mono rfl) ((v.govern_touch false).mono rfl)
  have accounts (v : State) : Touch 0x814c00 v v.accounted := (Touch.refl _ v).foldl fun v id => (v.account_touch id).mono rfl
  have forgets (v : State) : Touch 0x800 v v.forgotten := State.setGv_touch ..
  unfold State.leadGrants
  exact ((((((s.powerStep_touch.mono rfl).step (complies _) rfl).step (grants _) rfl).step (State.snuffStep_touch _) rfl).step
    (State.budgetEnd_touch _) rfl).step (accounts _) rfl).step (forgets _) rfl

theorem State.sendShare_gv (final : Bool) : (s.sendShare final).gv = { s.gv with set_ := (s.gv.set_ + 1) % 2 ^ 16 } := by
  have sends (typ : Nat) (body : Nat → Bytes) (l : List Nat) (v : State) :
      Touch 0x800400 v (l.foldl (fun s b => s.rackSend typ (body b)) v) :=
    (Touch.refl _ v).foldl fun v b => v.rackSend_touch typ (body b)
  unfold State.sendShare
  dsimp only
  rw [comp_bit (sends ..).gv rfl, comp_bit (State.rackSend_touch ..).gv rfl]
  rfl

theorem State.leadEnergies_touch : Touch 0x800 s s.leadEnergies := by
  have counted : Touch 0x800 s (if s.gv.atEpochs then s else s.floorCount s.rackViews) := .cond (Touch.refl _ s) (State.floorCount_touch ..)
  unfold State.leadEnergies
  dsimp only
  exact counted.step (State.setGv_touch _ _) rfl

/-- What a lead's step leaves of a governor with nothing received and no budget adopted (R218, R222, R223). -/
theorem State.leadStep_says (inputs : s.gv.inputs = []) (budget : s.gv.newBudget = none) : ∃ b l,
    (s.leadStep.gv.role = s.gv.role ∧ s.leadStep.gv.leadEpoch = s.gv.leadEpoch ∧ s.leadStep.gv.set_ = (s.gv.set_ + 1) % 2 ^ 16 ∧
      s.leadStep.gv.shares = l ∧ s.leadStep.gv.rackOut = s.gv.rackOut + sumOf s.rackViews (·.out) ∧
      s.leadStep.gv.rackIn = s.gv.rackIn + sumOf s.rackViews (·.grid) ∧ s.leadStep.gv.convHist = s.gv.convHist ∧
      s.leadStep.gv.budgetMw = b) ∧
    l.length = 4 ∧ s.leadStep.pl.budget = nth l s.gv.shelf 0 ∧ (s.gv.hostAbsent = false → b = s.gv.budgetMw) ∧
    (s.gv.hostAbsent = true → s.gv.absentW ≠ 0 → b =
      if s.gv.never then (s.gv.absentW : Int) * 1000
      else if s.gv.budgetMw < (s.gv.absentW : Int) * 1000 then min (s.gv.budgetMw + s.gv.hostRamp) ((s.gv.absentW : Int) * 1000)
      else max (s.gv.budgetMw - s.gv.hostRamp) ((s.gv.absentW : Int) * 1000)) := by
  rw [s.leadStep_eq, s.leadSettled_quiet inputs budget]
  have moded := s.applyModes_steps
  have touched := s.applyModes_touch
  generalize s.applyModes = v at moded touched ⊢
  obtain ⟨b, ramp, present, absent⟩ := v.absentRamp_gv
  have touched : Touch 0x814800 s v.absentRamp := touched.step v.absentRamp_touch rfl
  generalize v.absentRamp = w at ramp touched ⊢
  obtain ⟨shares, pl⟩ := w.shareOut_says
  have touched' : Touch 0x814e00 s w.shareOut := (touched.mono rfl).step w.shareOut_touch rfl
  have shelf : w.gv.shelf = s.gv.shelf := by rw [ramp]; exact moded.field Governor.shelf fun _ => rfl
  have length := w.sharesOf_length
  rw [shelf] at pl
  have peers : w.shareOut.gv.peers = s.gv.peers := by rw [shares, ramp]; exact moded.field Governor.peers fun _ => rfl
  generalize w.shareOut = c at shares pl touched' peers ⊢
  have out : sumOf c.rackViews (·.out) = sumOf s.rackViews (·.out) := by
    rw [c.rackViews_out, s.rackViews_out, comp_bit touched'.sh rfl, peers]
  have grid : sumOf c.rackViews (·.grid) = sumOf s.rackViews (·.grid) := by
    rw [c.rackViews_grid, s.rackViews_grid, touched'.pg_eq rfl, peers]
  have summed : c.leadEnergies.leadGrants.gv.sansStep = ({ v.gv with
      budgetMw := b, shares := w.sharesOf, rackOut := v.gv.rackOut + sumOf s.rackViews (·.out)
      rackIn := v.gv.rackIn + sumOf s.rackViews (·.grid) } : Governor).sansStep := by
    refine (c.leadEnergies_steps.trans (State.leadGrants_steps _)).gv.trans (congrArg Governor.sansStep ?_)
    show ({ c.gv with rackOut := c.gv.rackOut + sumOf c.rackViews (·.out), rackIn := c.gv.rackIn + sumOf c.rackViews (·.grid) } : Governor) = _
    rw [out, grid, shares, ramp]
  refine ⟨b, w.sharesOf, ?_, length, ?_, ?_, ?_⟩
  · rw [State.sendShare_gv]
    exact Governor.sansStep_reads ((Governor.sansStep_set summed).trans <| Governor.sansStep_sums moded.gv b w.sharesOf _ _)
  · have later : Touch 0x814c00 c (c.leadEnergies.leadGrants.sendShare false) :=
      ((c.leadEnergies_touch.mono rfl).step (State.leadGrants_touch _) rfl).step (State.sendShare_touch _ _) rfl
    rw [comp_bit later.pl rfl]
    exact pl
  · rw [← moded.field Governor.hostAbsent fun _ => rfl, ← moded.field Governor.budgetMw fun _ => rfl]
    exact present
  · rw [← moded.field Governor.hostAbsent fun _ => rfl, ← moded.field Governor.budgetMw fun _ => rfl,
      ← moded.field Governor.absentW fun _ => rfl, ← moded.field Governor.never fun _ => rfl, ← moded.field Governor.hostRamp fun _ => rfl]
    exact absent

/-- A lead that stays eligible and meets no older claim goes on leading (R217). -/
theorem State.elect_lead (tick : Bool) (eligible : s.eligible = true) (lead : s.gv.role = 2) (single : s.gv.dupMs = 0)
    (alone : ∀ x ∈ s.gv.peers, x.2.lead = false) : s.elect tick = s ∧ s.isLead = true := by
  obtain ⟨active, ok, gov, here⟩ := State.eligible_says eligible
  have leads : (s.gv.peers.map (·.2)).filter (·.lead) = [] := by
    rw [List.filter_eq_nil_iff]
    intro v member
    obtain ⟨x, of_, is⟩ := List.mem_map.mp member
    simp [← is, alone x of_]
  have stays : s.leadRules = s := by
    unfold State.leadRules
    rw [if_pos lead, if_neg (by simp [eligible]), if_neg (by simp [single, leads])]
  have isLead : s.isLead = true := by simp [State.isLead, active, lead]
  refine ⟨?_, isLead⟩
  unfold State.elect
  rw [if_neg (by simp [active]), if_pos (by simp [ok, here, gov]), s.electRules_eq, stays, if_pos isLead]

end

/-! ### The start of a lead (R218) -/

/-- An endpoint's compliance timers start at a time. -/
structure Restarted (now k : Nat) (s : State) : Prop where
  tg : ∀ x ∈ s.gv.eps, x.id = k → x.tg = some now

section
variable {s t : State}

theorem Touch.canSend_eq {F : Nat} (g : Touch F s t) (clk : F.testBit 1 = false) (role : F.testBit 2 = false) (rc : F.testBit 15 = false)
    (ok : t.gv.ok = s.gv.ok) (net : t.gn.sansSent = s.gn.sansSent) : t.canSend = s.canSend := by
  have linkUp : t.gn.linkUp = s.gn.linkUp := (congrArg Gulene.linkUp net :)
  have key : t.gn.rackKey = s.gn.rackKey := (congrArg Gulene.rackKey net :)
  have quiet : t.gn.quietTo = s.gn.quietTo := (congrArg Gulene.quietTo net :)
  unfold State.canSend
  rw [g.active_eq role, ok, linkUp, key, comp_bit g.rc rc, quiet, comp_bit g.clk clk]

theorem State.issueGrant_talks (s : State) (force : Bool) (id : Nat) (x : Grant) : Talks s (s.issueGrant force id x) := by
  unfold State.issueGrant
  split
  · dsimp only
    exact .cond (.refl s) (.trans (Talks.gnSend ..) (Talks.setGv ..))
  · exact .refl s

/-- A grant issued again leaves what may be sent, and to whom. -/
theorem State.issueGrant_stays (s : State) (force : Bool) (id : Nat) (x : Grant) : (s.issueGrant force id x).canSend = s.canSend ∧
    (s.issueGrant force id x).gv.heard = s.gv.heard ∧ (s.issueGrant force id x).gn.rackKey = s.gn.rackKey ∧
    (s.issueGrant force id x).clk = s.clk := by
  have touched := s.issueGrant_touch force id x
  have talks := s.issueGrant_talks force id x
  have steps := s.issueGrant_steps force id x
  exact ⟨touched.canSend_eq rfl rfl rfl (steps.field Governor.ok fun _ => rfl) talks.net, steps.field Governor.heard fun _ => rfl,
    (congrArg Gulene.rackKey talks.net :), comp_bit touched.clk rfl⟩

/-- A grant that goes out. -/
theorem State.issueGrant_sent {force : Bool} {id : Nat} {x : Grant} {e : Endpoint} {a : Nat × Nat} {key : Key} (ep : s.gv.ep id = some e)
    (heard : look s.gv.heard id = some a) (has : s.gn.rackKey.cur = some key) (can : s.canSend = true)
    (due : (force || s.gv.resend s.clk.now e x) = true) : s.issueGrant force id x =
      (s.gnSend key 0x03 { dst := a.1, dport := a.2 } (x.body s.gv.leadEpoch (s.clk.ptp + s.gv.validGrant * 1000000))).setGv
        (fun g => { g with
          eps := g.eps.map (fun e' => if e'.id = id then { e' with
              cap := x.cap, floor := x.floor, pace := x.pace, reason := x.reason, sent := some (x, s.clk.now)
              tg := if force || e.tg.isNone || x.cap != e.cap || x.floor != e.floor then some s.clk.now else e'.tg }
            else e') }) := by
  unfold State.issueGrant
  rw [ep, heard, has]
  dsimp only
  rw [if_neg (by simp [can, due])]

theorem Restarted.issueGrant {k : Nat} (had : Restarted s.clk.now k s) (id : Nat) (x : Grant) :
    Restarted s.clk.now k (s.issueGrant true id x) := by
  constructor
  unfold State.issueGrant
  split
  · dsimp only
    split
    · exact had.tg
    · intro y of_ is
      have of_ : y ∈ (s.gnSend _ _ _ _).gv.eps.map _ := of_
      rw [comp_bit (State.gnSend_touch ..).gv rfl] at of_
      obtain ⟨z, member, from_⟩ := List.mem_map.mp of_
      split at from_
      · subst from_
        rfl
      · exact had.tg y (from_ ▸ member) is
  · exact had.tg

/-- A grant issued anew starts the timers of its endpoint (R218). -/
theorem Restarted.issued {k : Nat} {x : Grant} (heard : (look s.gv.heard k).isSome = true) (has : s.gn.rackKey.cur.isSome = true)
    (can : s.canSend = true) : Restarted s.clk.now k (s.issueGrant true k x) := by
  obtain ⟨a, heard⟩ := Option.isSome_iff_exists.mp heard
  obtain ⟨key, has⟩ := Option.isSome_iff_exists.mp has
  cases ep : s.gv.ep k with
  | none =>
    constructor
    unfold State.issueGrant
    rw [ep]
    intro y of_ is
    exact absurd ep (Option.isSome_iff_ne_none.mp (List.find?_isSome.mpr ⟨y, of_, by simp [is]⟩))
  | some e =>
    constructor
    rw [State.issueGrant_sent ep heard has can rfl]
    intro y of_ is
    have of_ : y ∈ (s.gnSend _ _ _ _).gv.eps.map _ := of_
    obtain ⟨z, -, from_⟩ := List.mem_map.mp of_
    split at from_
    · subst from_
      rfl
    next other =>
      exact absurd (from_ ▸ is) other

/-- Of grants issued anew each starts the timers of its endpoint. -/
theorem Restarted.issueAll {k : Nat} (l : List (Nat × Grant)) (s : State) (heard : (look s.gv.heard k).isSome = true)
    (has : s.gn.rackKey.cur.isSome = true) (can : s.canSend = true) (due : k ∈ l.map (·.1) ∨ Restarted s.clk.now k s) :
    Restarted s.clk.now k (s.issueAll true l) := by
  unfold State.issueAll
  induction l generalizing s with
  | nil => exact due.resolve_left (List.not_mem_nil)
  | cons g l ih =>
    obtain ⟨can', heard', key', clk'⟩ := s.issueGrant_stays true g.1 g.2
    rw [List.foldl_cons, ← clk']
    refine ih _ (heard'.symm ▸ heard) (key'.symm ▸ has) (can'.trans can) ?_
    rw [clk']
    rcases due with member | had
    · rcases List.mem_cons.mp member with here | later
      · exact .inr (here ▸ Restarted.issued (here ▸ heard) has can)
      · exact .inl later
    · exact .inr (had.issueGrant g.1 g.2)

/-- A lead that begins, before it issues what is in force again (R218, R235). -/
def State.leadBegun (s : State) (epoch : Nat) : State :=
  let s := s.setGv (fun g => { g with
    role := 2, leadEpoch := epoch, leadShelf := some g.shelf, claim := none, lowMs := 0, relRun := 0, barriers := []
    newBudget := none, steady := none, eps := g.eps.map (fun e => { e with ncOwn := false, thr := none }) })
  if s.gv.atEpochs && !s.ptpLock then s.suspendEpochs else s

theorem State.becomeLead_eq (s : State) (epoch : Nat) : s.becomeLead epoch = ((s.leadBegun epoch).reissue true).reshare.sendShare false := rfl

theorem State.leadBegun_says (s : State) (epoch : Nat) : (∃ detSusp, (s.leadBegun epoch).gv = { s.gv with
      role := 2, leadEpoch := epoch, leadShelf := some s.gv.shelf, claim := none, lowMs := 0, relRun := 0, barriers := []
      newBudget := none, steady := none, eps := s.gv.eps.map (fun e => { e with ncOwn := false, thr := none }), detSusp := detSusp }) ∧
    Talks s (s.leadBegun epoch) ∧ Touch 0x814800 s (s.leadBegun epoch) := by
  let v := s.setGv (fun g => { g with
    role := 2, leadEpoch := epoch, leadShelf := some g.shelf, claim := none, lowMs := 0, relRun := 0, barriers := []
    newBudget := none, steady := none, eps := g.eps.map (fun e => { e with ncOwn := false, thr := none }) })
  have begun : Touch 0x800 s v := State.setGv_touch ..
  have silent : Talks s v := Talks.setGv ..
  show (∃ detSusp, (if v.gv.atEpochs && !v.ptpLock then v.suspendEpochs else v).gv = _) ∧
    Talks s (if v.gv.atEpochs && !v.ptpLock then v.suspendEpochs else v) ∧
    Touch 0x814800 s (if v.gv.atEpochs && !v.ptpLock then v.suspendEpochs else v)
  cases v.gv.atEpochs && !v.ptpLock with
  | false => exact ⟨⟨s.gv.detSusp, rfl⟩, silent, begun.mono rfl⟩
  | true =>
    have suspended : v.suspendEpochs.gv = { v.gv with detSusp := true } := comp_bit (State.record_touch ..).gv rfl
    exact ⟨⟨true, suspended⟩, silent.trans ((Talks.setGv v _).trans (Talks.record ..)),
      (begun.mono rfl).step v.suspendEpochs_touch rfl⟩

/-- A lead begins with its role, one SHARE set, and every grant in force issued again with its timers restarted (R218). -/
theorem State.becomeLead_says (s : State) (epoch : Nat) : (s.becomeLead epoch).gv.role = 2 ∧ (s.becomeLead epoch).gv.leadEpoch = epoch ∧
    (s.becomeLead epoch).gv.leadShelf = some s.gv.shelf ∧ (s.becomeLead epoch).gv.claim = none ∧
    (s.becomeLead epoch).gv.set_ = (s.gv.set_ + 1) % 2 ^ 16 ∧ (s.becomeLead epoch).gv.newBudget = none ∧
    (s.becomeLead epoch).gv.budgetMw = s.gv.budgetMw ∧
    (s.canSend = true → ∀ y ∈ s.gv.eps, y.granted = true → (look s.gv.heard y.id).isSome = true →
      ∀ x ∈ (s.becomeLead epoch).gv.eps, x.id = y.id → x.tg = some s.clk.now) := by
  obtain ⟨⟨detSusp, begun⟩, talks, touched⟩ := s.leadBegun_says epoch
  rw [s.becomeLead_eq]
  generalize s.leadBegun epoch = v at begun talks touched ⊢
  have steps := v.reissue_steps true
  obtain ⟨-, ⟨l, shares⟩, -⟩ := (v.reissue true).reshare_says
  have timers : s.canSend = true → ∀ y ∈ s.gv.eps, y.granted = true → (look s.gv.heard y.id).isSome = true →
      Restarted s.clk.now y.id (v.reissue true) := fun can y member granted heard => by
    have clk : v.clk = s.clk := comp_bit touched.clk rfl
    have can' : v.canSend = true := (touched.canSend_eq rfl rfl rfl (by rw [begun]) talks.net).trans can
    have key : v.gn.rackKey.cur.isSome = true := by
      refine Classical.byContradiction fun none_ => ?_
      simp [State.canSend, none_] at can'
    have issued : y.id ∈ ((v.gv.eps.filter (fun e => e.granted && (true || e.sent.isNone))).map (fun e => (e.id, ({
        cap := e.cap, floor := e.floor, wAvg := v.wAvg, stagger := e.stagger, tag := e.tag, pace := e.pace
        reason := e.reason, gain := e.gain, ofs := e.ofsW } : Grant)))).map (·.1) := by
      rw [List.map_map, begun]
      refine List.mem_map.mpr ⟨{ y with ncOwn := false, thr := none }, List.mem_filter.mpr ⟨List.mem_map.mpr ⟨y, member, rfl⟩, ?_⟩, rfl⟩
      exact (Bool.and_true _).trans granted
    rw [← clk]
    exact Restarted.issueAll _ v (by rw [begun]; exact heard) key can' (.inl issued)
  generalize v.reissue true = w at steps shares timers ⊢
  rw [State.sendShare_gv, shares]
  refine ⟨(steps.field Governor.role fun _ => rfl).trans (by rw [begun]), (steps.field Governor.leadEpoch fun _ => rfl).trans (by rw [begun]),
    (steps.field Governor.leadShelf fun _ => rfl).trans (by rw [begun]), (steps.field Governor.claim fun _ => rfl).trans (by rw [begun]), ?_,
    (steps.field Governor.newBudget fun _ => rfl).trans (by rw [begun]), (steps.field Governor.budgetMw fun _ => rfl).trans (by rw [begun]),
    fun can y member granted heard => (timers can y member granted heard).tg⟩
  have set_ : w.gv.set_ = s.gv.set_ := (steps.field Governor.set_ fun _ => rfl).trans (by rw [begun])
  show (w.gv.set_ + 1) % 2 ^ 16 = _
  rw [set_]

theorem exec_leadClaim {e : Nat} (claims : s.gv.claim = some e) : exec .leadClaim s =
    .next (if s.rc.gov && s.eligible && s.gv.dupMs == 0 && !s.isLead then s.becomeLead e
      else s.setGv (fun g => { g with claim := none })) := by
  show execLeadClaim s = _
  unfold execLeadClaim
  rw [claims]

/-! ### Epochs and the release of their grants (R37, R235) -/

/-- The inputs that wait for their epoch and the role in the rack are kept. -/
structure Draws (s t : State) : Prop where
  inputs : t.gv.inputs = s.gv.inputs
  role : t.gv.role = s.gv.role

theorem Draws.refl (s : State) : Draws s s := ⟨rfl, rfl⟩

theorem Draws.trans {v : State} (first : Draws s t) (second : Draws t v) : Draws s v :=
  ⟨second.inputs.trans first.inputs, second.role.trans first.role⟩

theorem Draws.cond {v : State} {c : Prop} [Decidable c] (yes : Draws s t) (no : Draws s v) : Draws s (if c then t else v) := by
  split <;> assumption

theorem Draws.foldl {α : Type} {f : State → α → State} (each : ∀ v a, Draws v (f v a)) (l : List α) (s : State) :
    Draws s (l.foldl f s) := foldl_kept .refl (fun _ _ _ => .trans) each l s

theorem Draws.of_touch {F : Nat} (g : Touch F s t) (gv : F.testBit 11 = false) : Draws s t := by
  have same := comp_bit g.gv gv
  exact ⟨by rw [same], by rw [same]⟩

theorem Steps.draws (steps : Steps s t) : Draws s t :=
  ⟨steps.field Governor.inputs fun _ => rfl, steps.field Governor.role fun _ => rfl⟩

end

section
variable (s : State)

theorem State.adopt_draws (r : Req) : Draws s (s.adopt r) := by
  have settles (l : List Pend) (v : State) : Draws v (l.foldl (fun s p => s.settleReq p.req 3 0) v) :=
    .foldl (fun v p => (v.settleReq_steps p.req 3 0).draws) l v
  have seen : Draws s (s.setGv (fun g => { g with seen := (r.sender, r.id) :: g.seen })) := ⟨rfl, rfl⟩
  unfold State.adopt
  dsimp only
  refine .cond (.refl s) (.cond ?_ (.cond ?_ ?_))
  · refine .trans seen (.trans ?_ (State.settleReq_steps ..).draws)
    exact ⟨rfl, rfl⟩
  · exact .trans seen (.trans (settles _ _) ⟨rfl, rfl⟩)
  · exact .trans seen (.trans (settles _ _) ⟨rfl, rfl⟩)

variable (x : GnIn)

theorem State.takeBudget_draws : Draws s (s.takeBudget x) := by
  unfold State.takeBudget
  dsimp only
  exact .cond (.cond ⟨rfl, rfl⟩ (.refl s)) (.cond (s.adopt_draws _) (.refl s))

theorem State.takeWick_draws : Draws s (s.takeWick x).1 := by
  unfold State.takeWick
  dsimp only
  split
  · exact .of_touch (State.takeNotice_touch ..) rfl
  · split
    · exact .refl s
    · split
      · exact ⟨rfl, rfl⟩
      · exact ⟨rfl, rfl⟩

theorem State.register_draws : Draws s (s.register x).1 := by
  have refused : Draws s ((s.setGv (fun g => { g with refused := g.refused + 1 })).record 0x0706 0 kEndpoint x.msg.sender (leBytes 1 0)) := by
    refine .trans ?_ (.of_touch (State.record_touch ..) rfl)
    exact ⟨rfl, rfl⟩
  unfold State.register
  dsimp only
  split
  · split
    · exact refused
    · exact ⟨rfl, rfl⟩
  · split
    · exact refused
    · exact ⟨rfl, rfl⟩

theorem State.takeReport_draws : Draws s (s.takeReport x).1 := by
  unfold State.takeReport
  dsimp only
  have registers : Draws s (if (bitAt (u x.msg.body 0 1) 0 && s.isLead) = true then s.register x else (s, true)).1 := by
    split
    · exact s.register_draws x
    · exact .refl s
  generalize (if (bitAt (u x.msg.body 0 1) 0 && s.isLead) = true then s.register x else (s, true)) = r at registers ⊢
  split
  · exact registers
  · split
    · exact registers.trans ⟨rfl, rfl⟩
    · exact registers.trans ⟨rfl, rfl⟩

theorem State.takeInput_draws : Draws s (s.takeInput x) := by
  unfold State.takeInput
  exact .cond (s.takeWick_draws x) (.cond (s.takeReport_draws x) (.cond (.cond ⟨rfl, rfl⟩ (.refl s)) (s.takeBudget_draws x)))

/-- Inputs that are due wait no longer. -/
theorem State.takeInputs_says (due : GnIn → Bool) : (s.takeInputs due).gv.inputs = s.gv.inputs.filter (fun x => !due x) ∧
    (s.takeInputs due).gv.role = s.gv.role := by
  have draws := Draws.foldl State.takeInput_draws (sortBy GnIn.before (s.gv.inputs.filter due))
    (s.setGv (fun g => { g with inputs := g.inputs.filter (fun x => !due x) }))
  exact ⟨draws.inputs, draws.role⟩

/-- The inputs of an epoch taken and its figures reckoned (R37). -/
def State.epochTaken (e : Int) : State :=
  let s := (s.setGn (fun g => { g with queue := [] })).setGv
    (fun g => { g with epochPeers := g.epochPeers.filter (fun x => (look g.peers x.1).isSome) })
  let s := (s.takeInputs (fun x => decide (epochOf x.msg.origin ≤ e))).setGv (fun g => { g with lastEpoch := some e })
  s.loadFigures s.epochViews

/-- The settings and the budget of an epoch taken up, with its shares (R37, R220, R233). -/
def State.epochSettled : State := ((s.applyModes).inForce.floorCount s.epochViews).reshare

/-- The grants of an epoch kept for their release (R37). -/
def State.epochGranted : State :=
  let r := s.computeGrants s.epochViews
  r.1.setGv (fun g => { g with epochGrants := r.2 })

theorem exec_epoch (gov : s.rc.gov = true) (timing : s.gv.timing = 1) (on : s.gv.detSusp = false) (empty : s.gn.queue = []) :
    exec .epoch s = .next (if (s.epochTaken (s.clk.ptp / 1000000 * 1000000)).isLead then
      (s.epochTaken (s.clk.ptp / 1000000 * 1000000)).epochSettled.epochGranted else s.epochTaken (s.clk.ptp / 1000000 * 1000000)) := by
  have resumed : s.resumeEpochs = s := if_neg (by simp [on])
  have drained : s.drain.1 = s.setGn (fun g => { g with queue := [] }) := by
    unfold State.drain
    rw [empty]
    rfl
  show execEpoch s = _
  unfold execEpoch
  rw [if_neg (by simp [gov, timing])]
  dsimp only
  rw [resumed, if_neg (by simp [Governor.atEpochs, timing, on]), drained]
  let taken := s.epochTaken (s.clk.ptp / 1000000 * 1000000)
  show (if ¬ taken.isLead = true then Host.Outcome.next taken else .next taken.epochSettled.epochGranted) =
    .next (if taken.isLead = true then taken.epochSettled.epochGranted else taken)
  cases taken.isLead with
  | false => rfl
  | true => rfl

theorem State.epochTaken_says (e : Int) : (s.epochTaken e).gv.lastEpoch = some e ∧ (s.epochTaken e).isLead = s.isLead ∧
    ∀ x ∈ (s.epochTaken e).gv.inputs, e < epochOf x.msg.origin := by
  let v := (s.setGn (fun g => { g with queue := [] })).setGv
    (fun g => { g with epochPeers := g.epochPeers.filter (fun x => (look g.peers x.1).isSome) })
  have reckoned (w : State) (l : List ShelfView) : let t := (w.setGv (fun g => { g with lastEpoch := some e })).loadFigures l
      t.gv.lastEpoch = some e ∧ t.isLead = w.isLead ∧ t.gv.inputs = w.gv.inputs := ⟨rfl, rfl, rfl⟩
  obtain ⟨inputs, role⟩ := v.takeInputs_says (fun x => decide (epochOf x.msg.origin ≤ e))
  have active := (v.takeInputs_touch (fun x => decide (epochOf x.msg.origin ≤ e))).active_eq rfl
  unfold State.epochTaken
  dsimp only
  generalize v.takeInputs (fun x => decide (epochOf x.msg.origin ≤ e)) = w at inputs role active ⊢
  obtain ⟨last, lead, inputs'⟩ := reckoned w (w.setGv (fun g => { g with lastEpoch := some e })).epochViews
  refine ⟨last, lead.trans ?_, fun x of_ => ?_⟩
  · unfold State.isLead
    rw [active, role]
    rfl
  · rw [inputs', inputs] at of_
    simpa using (List.mem_filter.mp of_).2

theorem State.inForce_gv : ∃ b v e a n, s.inForce.gv = { s.gv with
    budgetMw := b, validMs := v, validEnd := e, hostAbsent := a, never := n, newBudget := none } := by
  cases budget : s.gv.newBudget with
  | none =>
    rw [s.inForce_none budget]
    refine ⟨s.gv.budgetMw, s.gv.validMs, s.gv.validEnd, s.gv.hostAbsent, s.gv.never, ?_⟩
    rw [← budget]
  | some x =>
    unfold State.inForce
    rw [budget]
    exact ⟨_, _, _, _, _, rfl⟩

theorem State.epochSettled_says : s.epochSettled.gv.inputs = s.gv.inputs ∧ s.epochSettled.gv.lastEpoch = s.gv.lastEpoch := by
  have steps := s.applyModes_steps
  obtain ⟨_, _, _, _, _, gv⟩ := s.applyModes.inForce_gv
  obtain ⟨-, ⟨l, shares⟩, -⟩ := (s.applyModes.inForce.floorCount s.epochViews).reshare_says
  have counted (v : State) : (v.floorCount s.epochViews).gv.inputs = v.gv.inputs ∧ (v.floorCount s.epochViews).gv.lastEpoch = v.gv.lastEpoch :=
    ⟨rfl, rfl⟩
  unfold State.epochSettled
  rw [shares]
  refine ⟨(counted s.applyModes.inForce).1.trans ?_, (counted s.applyModes.inForce).2.trans ?_⟩
  · rw [gv]
    exact steps.field Governor.inputs fun _ => rfl
  · rw [gv]
    exact steps.field Governor.lastEpoch fun _ => rfl

theorem State.epochGranted_says : s.epochGranted.gv.inputs = s.gv.inputs ∧ s.epochGranted.gv.lastEpoch = s.gv.lastEpoch ∧
    0 ≤ s.epochGranted.gv.pool ∧ s.epochGranted.gv.epochGrants.map (·.1) = s.epochGranted.gv.eps.map (·.id) := by
  refine ⟨rfl, rfl, Int.le_max_left _ _, ?_⟩
  exact List.map_map

/-! ### Grants released and the fit (R37, R237) -/

variable {s}

theorem exec_grantRelease (lead : s.isLead = true) (gov : s.rc.gov = true) : exec .grantRelease s =
    .next ((s.issueAll false s.gv.epochGrants).setGv (fun g => { g with epochGrants := [] })) :=
  if_neg (by simp [lead, gov])

theorem exec_calFitUpdate (lead : s.isLead = true) (know : s.gv.know = 2) (gov : s.rc.gov = true) : exec .calFitUpdate s =
    .next (s.setGv (fun g => { g with eps := g.eps.map (fun e => { e with
      gainDev := clampI (-(divFloor (2 ^ Config.calFracBits) 2)) (2 ^ Config.calFracBits) (e.gainDev + e.dg), dg := 0
      ofs := clampI (-(divFloor (e.maxW * 2 ^ Config.calFracBits) 4)) (divFloor (e.maxW * 2 ^ Config.calFracBits) 4) (e.ofs + e.dO)
      dO := 0 }) })) :=
  if_neg (by simp [lead, know, gov])

end

theorem divFloor_two (n : Int) : divFloor n 2 = n / 2 := if_neg (by omega)

/-- Settles O29: the step by its parts, each of which leaves the governor but for what is its own (`Elects`, `Steps`, `Draws`); the start
of a lead by the timers that every grant issued again starts (`Restarted`). -/
theorem governorStepsComplete : Obligations.GovernorStepsComplete := by
  unfold Obligations.GovernorStepsComplete
  refine ⟨fun s gov active ok here other => ?follower, fun s gov eligible role single alone inputs budget => ?lead,
    fun s e claims gov eligible single other => ?begins, fun s e claims not => ?withdraws, fun s gov timing on empty => ?epoch,
    fun s gov timing off not => ?suspended, fun s id x e k a lead gov one ep heard has can due => ?release, fun s lead know gov => ?fit⟩
  case follower =>
    obtain ⟨u, t, runs, is, touched, peers, dup, ok', claim, epoch, role⟩ := exec_governorStep_other gov active ok here other
    refine ⟨fun k v one leads => ⟨t, runs, ?_⟩, fun none_ eligible free single => ⟨t, runs, ?_⟩, t, runs, ?_, role⟩
    · have alone : (u.gv.peers.map (·.2)).filter (·.lead) = [v] := by rw [peers, one]; simp [leads]
      obtain ⟨_, _, _, claims⟩ := u.follow.claimRules_gv ((u.gv.peers.map (·.2)).filter (·.lead)) u.gv true
      dsimp only
      rw [is, claims, u.follow_one alone]
      exact ⟨rfl, rfl, rfl⟩
    · have alone : (u.gv.peers.map (·.2)).filter (·.lead) = [] := by rw [peers, none_]; rfl
      have follows : Touch 0x814800 s u.follow := touched.step u.follow_touch rfl
      have elects := u.follow.claimRules_alone true
        ((follows.eligible_eq rfl rfl rfl rfl rfl (by rw [u.follow_none alone]; exact ok')).trans eligible)
        (by rw [u.follow_none alone]; exact peers.trans none_) (by rw [u.follow_none alone]; show u.gv.dupMs = 0; omega)
        (by rw [u.follow_none alone]; exact claim.trans free) u.gv
      dsimp only
      rw [is, alone, elects, State.sendElect_gv, u.follow_none alone]
      show some (u.gv.maxEpoch + 1) = _ ∧ u.gv.maxEpoch + 1 = _ ∧ _
      rw [epoch]
      exact ⟨rfl, rfl, rfl⟩
    · obtain ⟨_, _, _, claims⟩ := u.follow.claimRules_gv ((u.gv.peers.map (·.2)).filter (·.lead)) u.gv true
      obtain ⟨_, _, _, follows, -⟩ := u.follow_gv
      rw [is, claims, follows]
      exact dup
  case lead =>
    obtain ⟨active, ok, -, -⟩ := State.eligible_says eligible
    have touched := s.figured_touch
    obtain ⟨_, _, _, conv, _, _, gv, figures⟩ := s.figured_gv
    obtain ⟨stays, leads⟩ := s.figured.elect_lead true ((touched.eligible_eq rfl rfl rfl rfl rfl (by rw [gv])).trans eligible)
      (by rw [gv]; exact role) (by rw [gv]; show s.gv.dupMs - 1 = 0; omega) (by rw [gv]; exact alone)
    have runs := exec_governorStep s gov
    rw [stays, if_pos leads] at runs
    obtain ⟨b, l, ⟨role', epoch, set_, shares, out', in_, conv', budget'⟩, length, pl, present, absent⟩ := s.figured.leadStep_says (by rw [gv]; exact inputs) (by rw [gv]; exact budget)
    have out : sumOf s.figured.rackViews (·.out) = sumOf s.rackViews (·.out) := by
      rw [s.figured.rackViews_out, s.rackViews_out, comp_bit touched.sh rfl, gv]
    have grid : sumOf s.figured.rackViews (·.grid) = sumOf s.rackViews (·.grid) := by
      rw [s.figured.rackViews_grid, s.rackViews_grid, touched.pg_eq rfl, gv]
    rw [out] at out'
    rw [grid] at in_
    rw [gv] at role' epoch set_ pl present absent out' in_ conv'
    exact ⟨_, runs, role'.trans role, epoch, set_, by rw [shares]; exact length, by rw [shares]; exact pl, out', in_,
      fun free => conv'.trans (figures ok free), fun host => budget'.trans (present host), fun gone names => budget'.trans (absent gone names)⟩
  case begins =>
    have runs := exec_leadClaim claims
    rw [if_pos (by simp [gov, eligible, single, State.isLead, other])] at runs
    exact ⟨_, runs, s.becomeLead_says e⟩
  case withdraws =>
    have runs := exec_leadClaim claims
    rw [if_neg (by rcases not with x | x | x | x <;> simp [x])] at runs
    exact ⟨_, runs, rfl, rfl⟩
  case epoch =>
    have runs := exec_epoch s gov timing on empty
    obtain ⟨last, lead, waits⟩ := s.epochTaken_says (s.clk.ptp / 1000000 * 1000000)
    generalize s.epochTaken (s.clk.ptp / 1000000 * 1000000) = v at runs last lead waits
    cases leads : s.isLead with
    | false =>
      rw [if_neg (by simp [lead, leads])] at runs
      exact ⟨v, runs, last, waits, fun not => (nomatch not)⟩
    | true =>
      rw [if_pos (lead.trans leads)] at runs
      obtain ⟨inputs, last'⟩ := v.epochSettled_says
      obtain ⟨inputs', last'', pool, grants⟩ := v.epochSettled.epochGranted_says
      exact ⟨_, runs, last''.trans (last'.trans last), fun x of_ => waits x (inputs ▸ inputs' ▸ of_), fun _ => ⟨pool, grants⟩⟩
  case suspended =>
    have still : s.resumeEpochs = s := if_neg (by rcases not with x | x <;> simp [x])
    refine ⟨s, ?_, rfl⟩
    show execEpoch s = _
    unfold execEpoch
    rw [if_neg (by simp [gov, timing])]
    dsimp only
    rw [still]
    exact if_pos (by simp [Governor.atEpochs, off])
  case release =>
    have runs := exec_grantRelease lead gov
    have sent := State.issueGrant_sent (force := false) (x := x) ep heard has can due
    have all : s.issueAll false s.gv.epochGrants = s.issueGrant false id x := by rw [one]; rfl
    rw [all, sent] at runs
    obtain ⟨seq, b, puts⟩ := State.gnSend_says can k 0x03 { dst := a.1, dport := a.2 }
      (x.body s.gv.leadEpoch (s.clk.ptp + s.gv.validGrant * 1000000))
    have gv : (s.gnSend k 0x03 { dst := a.1, dport := a.2 } (x.body s.gv.leadEpoch (s.clk.ptp + s.gv.validGrant * 1000000))).gv = s.gv :=
      comp_bit (State.gnSend_touch ..).gv rfl
    generalize s.gnSend k 0x03 { dst := a.1, dport := a.2 } (x.body s.gv.leadEpoch (s.clk.ptp + s.gv.validGrant * 1000000)) = v
      at runs seq puts gv
    refine ⟨_, runs, rfl, seq, ⟨b, Puts.later puts ((State.setGv_touch v _).step (State.setGv_touch _ _) rfl)⟩, fun y of_ is => ?_⟩
    have of_ : y ∈ v.gv.eps.map _ := of_
    obtain ⟨z, -, from_⟩ := List.mem_map.mp of_
    split at from_
    · subst from_
      exact ⟨rfl, rfl, rfl, rfl, rfl⟩
    next other => exact absurd (from_ ▸ is) other
  case fit =>
    have runs := exec_calFitUpdate lead know gov
    refine ⟨_, runs, ?_, fun e of_ => ?_, ?_⟩
    · refine List.map_map.trans (List.map_congr_left fun e _ => ?_)
      exact congrArg (fun n => clampI (-n) _ _) (divFloor_two _)
    · obtain ⟨y, -, is⟩ := List.mem_map.mp of_
      exact is ▸ ⟨rfl, rfl⟩
    · exact List.map_map.trans rfl

end Sys2Proof.Machine
end
